-- ==== Sys2Proof/Word.lean ====
section
/-! DEFINITION. The word types of the part and the plain operand records of its commands. -/

namespace Sys2Proof

/-- A word is 24 bits (00_scope.md, Conventions). -/
abbrev Word := BitVec 24

/-- One character on a wire. -/
abbrev Byte := BitVec 8

/-- An absolute edge time, or any 32-bit operand of an edge command (R101, R138). -/
abbrev EdgeTime := BitVec 32

/-- A dictionary request as it was received (R403): the transport's session (0 CAN, 1 LOCAL), its
TAG and its RPT bit. -/
structure Req where
  ses : Fin 2
  tag : BitVec 6
  rpt : Bool
  deriving DecidableEq, Repr

/-- One CAN frame (R378, R388): identifier, IDE, FDF, BRS, ESI and the payload bytes. -/
structure CanFrame where
  ident : BitVec 29
  ide : Bool
  fdf : Bool
  brs : Bool
  esi : Bool
  data : List Byte
  deriving DecidableEq, Repr

/-- One trigger of an ADC_TRIG frame (R187). -/
structure TrigWord where
  trig : BitVec 7
  untimed : Bool
  t : EdgeTime
  deriving DecidableEq, Repr

/-- What the world outside answered to one step of a job (R95): the step went through, it failed
with a cause of its kind (R450), or it measured a value. -/
structure JobObs where
  ok : Bool
  cause : BitVec 8
  value : BitVec 48
  deriving DecidableEq, Repr

end Sys2Proof
end

