-- ==== Sys2Proof/Syntax.lean ====
section
/-! DEFINITION. The commands of the block: one constructor per row of spec/opcode_table.json.
Each constructor names the rule its row names. Operands: e an engine, c the COND field (R39), q a dictionary
request, l a lane (0-31 L0-L31, 32-35 D0-D3), d a link lane, hb a half-bridge, cl a cluster, g a generator,
st a stage, t a task (or an edge time), n an interface or a controller, k a comparator, entry or contactor.
A trailing operand with a default is a field of the received frame or command that its text may leave out (its FCS
word, R145; its OP and argument bits, R138): left out, the field is all zeros. -/

namespace Sys2Proof

/-- One command (one whole and indivisible step of spec/95_what_each_step_holds.md). -/
inductive Instr where
  /-- NOP (R41): Engine executes NOP, which has no effect. -/
  | nop (e : Fin 16) (c : BitVec 4)
  /-- MOV (R41): Engine copies rs into rd. -/
  | mov (e : Fin 16) (c : BitVec 4) (rd rs : Fin 16) (m : BitVec 2)
  /-- LDI (R41): Engine loads a sign-extended 10-bit immediate into rd. -/
  | ldi (e : Fin 16) (c : BitVec 4) (rd : Fin 16) (imm : BitVec 10)
  /-- MOVI (R41): Engine loads the 24-bit extension word into rd. -/
  | movi (e : Fin 16) (c : BitVec 4) (rd : Fin 16) (imm : Word)
  /-- MFS (R34): Engine reads a special register into rd, raising ILLEGAL_OP for an unlisted number. -/
  | mfs (e : Fin 16) (c : BitVec 4) (rd : Fin 16) (sreg : BitVec 6)
  /-- MTS (R34): Engine writes a special register, raising ILLEGAL_OP for a read-only or unlisted one. -/
  | mts (e : Fin 16) (c : BitVec 4) (sreg : BitVec 6) (rs : Fin 16)
  /-- SEV (R54): Engine fences and raises software event EV(448+n), or raises PORT_VIOLATION if the event is not declared for the task. -/
  | sev (e : Fin 16) (c : BitVec 4) (n : BitVec 6)
  /-- FENCE (R49): Engine stalls until every earlier load has returned and every earlier store is acknowledged. -/
  | fence (e : Fin 16) (c : BitVec 4)
  /-- ADD (R41): Engine performs a wrapping add. -/
  | add (e : Fin 16) (c : BitVec 4) (rd rs rt : Fin 16) (m : BitVec 2)
  /-- ADDS (R35): Engine performs a saturating add and sets SR.SAT on saturation. -/
  | adds (e : Fin 16) (c : BitVec 4) (rd rs rt : Fin 16) (m : BitVec 2)
  /-- SUB (R41): Engine performs a wrapping subtract. -/
  | sub (e : Fin 16) (c : BitVec 4) (rd rs rt : Fin 16) (m : BitVec 2)
  /-- SUBS (R35): Engine performs a saturating subtract. -/
  | subs (e : Fin 16) (c : BitVec 4) (rd rs rt : Fin 16) (m : BitVec 2)
  /-- NEG (R41): Engine performs a saturating negation. -/
  | neg (e : Fin 16) (c : BitVec 4) (rd rs : Fin 16) (m : BitVec 2)
  /-- ABS (R41): Engine performs a saturating absolute value. -/
  | abs (e : Fin 16) (c : BitVec 4) (rd rs : Fin 16) (m : BitVec 2)
  /-- MIN (R41): Engine delivers the signed minimum. -/
  | min (e : Fin 16) (c : BitVec 4) (rd rs rt : Fin 16) (m : BitVec 2)
  /-- MAX (R41): Engine delivers the signed maximum. -/
  | max (e : Fin 16) (c : BitVec 4) (rd rs rt : Fin 16) (m : BitVec 2)
  /-- AND (R41): Engine performs a bitwise AND. -/
  | and (e : Fin 16) (c : BitVec 4) (rd rs rt : Fin 16) (m : BitVec 2)
  /-- OR (R41): Engine performs a bitwise OR. -/
  | or (e : Fin 16) (c : BitVec 4) (rd rs rt : Fin 16) (m : BitVec 2)
  /-- XOR (R41): Engine performs a bitwise XOR. -/
  | xor (e : Fin 16) (c : BitVec 4) (rd rs rt : Fin 16) (m : BitVec 2)
  /-- NOT (R41): Engine performs a bitwise NOT. -/
  | not (e : Fin 16) (c : BitVec 4) (rd rs : Fin 16) (m : BitVec 2)
  /-- SHL (R43): Engine shifts left by a register amount, wrapping or saturating. -/
  | shl (e : Fin 16) (c : BitVec 4) (rd rs rt : Fin 16) (m : BitVec 2)
  /-- SHR (R43): Engine shifts right by a register amount: logical, arithmetic or arithmetic rounded. -/
  | shr (e : Fin 16) (c : BitVec 4) (rd rs rt : Fin 16) (m : BitVec 2)
  /-- SHLI (R43): Engine shifts left by an immediate amount. -/
  | shli (e : Fin 16) (c : BitVec 4) (rd rs : Fin 16) (n : BitVec 5) (s : Bool)
  /-- SHRI (R43): Engine shifts right by an immediate amount. -/
  | shri (e : Fin 16) (c : BitVec 4) (rd rs : Fin 16) (n : BitVec 5) (s : Bool)
  /-- CLAMP (R43): Engine limits rs to [-rt, rt] and sets SR.SAT when the result changes. -/
  | clamp (e : Fin 16) (c : BitVec 4) (rd rs rt : Fin 16) (m : BitVec 2)
  /-- NORM (R43): Engine counts the redundant sign bits of rs. -/
  | norm (e : Fin 16) (c : BitVec 4) (rd rs : Fin 16) (m : BitVec 2)
  /-- MULW (R37): Engine multiplies and converts the product to a rounded, saturated word. -/
  | mulw (e : Fin 16) (c : BitVec 4) (rd rs rt : Fin 16) (m : BitVec 2)
  /-- RCPS (R47): Engine delivers a 12-bit reciprocal seed. -/
  | rcps (e : Fin 16) (c : BitVec 4) (rd rs : Fin 16) (m : BitVec 2)
  /-- RSQS (R47): Engine delivers a 12-bit reciprocal square-root seed. -/
  | rsqs (e : Fin 16) (c : BitVec 4) (rd rs : Fin 16) (m : BitVec 2)
  /-- CSC (R46): CORDIC delivers cos and sin of an angle into a register pair. -/
  | csc (e : Fin 16) (c : BitVec 4) (rd rs : Fin 16) (m : BitVec 2)
  /-- CAT (R46): CORDIC delivers atan2 and magnitude into a register pair. -/
  | cat (e : Fin 16) (c : BitVec 4) (rd rs rt : Fin 16) (m : BitVec 2)
  /-- CMP (R44): Engine sets a flag from a signed compare. -/
  | cmp (e : Fin 16) (c : BitVec 4) (fd : Fin 4) (rs rt : Fin 16) (cc : BitVec 2)
  /-- CMPU (R44): Engine sets a flag from an unsigned compare or bit test. -/
  | cmpu (e : Fin 16) (c : BitVec 4) (fd : Fin 4) (rs rt : Fin 16) (cc : BitVec 2)
  /-- CMPI (R44): Engine sets a flag from a signed compare with an immediate. -/
  | cmpi (e : Fin 16) (c : BitVec 4) (fd : Fin 4) (rs : Fin 16) (imm : BitVec 6) (cc : BitVec 2)
  /-- FLOG (R44): Engine combines two flags by flag logic. -/
  | flog (e : Fin 16) (c : BitVec 4) (fd : Fin 4) (op : BitVec 2) (fa fb : Fin 4)
  /-- SEL (R41): Engine selects rs or rt by a flag. -/
  | sel (e : Fin 16) (c : BitVec 4) (rd rs rt : Fin 16) (fc : Fin 4)
  /-- MUL (R36): Engine loads an accumulator with an exact product. -/
  | mul (e : Fin 16) (c : BitVec 4) (a : Fin 2) (rs rt : Fin 16) (m : BitVec 2)
  /-- MAC (R36): Engine adds a product to an accumulator, saturating and setting SR.ACV. -/
  | mac (e : Fin 16) (c : BitVec 4) (a : Fin 2) (rs rt : Fin 16) (m : BitVec 2)
  /-- MSU (R36): Engine subtracts a product from an accumulator. -/
  | msu (e : Fin 16) (c : BitVec 4) (a : Fin 2) (rs rt : Fin 16) (m : BitVec 2)
  /-- ACLD (R41): Engine loads an accumulator from a word or clears it. -/
  | acld (e : Fin 16) (c : BitVec 4) (a : Fin 2) (rs : Fin 16) (m : BitVec 2)
  /-- ACADD (R41): Engine adds, subtracts or copies the other accumulator. -/
  | acadd (e : Fin 16) (c : BitVec 4) (a : Fin 2) (m : BitVec 2)
  /-- ACSH (R45): Engine shifts an accumulator arithmetically by an immediate. -/
  | acsh (e : Fin 16) (c : BitVec 4) (a : Fin 2) (n : BitVec 6)
  /-- RND (R37): Engine converts an accumulator to a rounded, saturated word. -/
  | rnd (e : Fin 16) (c : BitVec 4) (rd : Fin 16) (a : Fin 2) (m : BitVec 2)
  /-- ACX (R41): Engine extracts a raw part of an accumulator. -/
  | acx (e : Fin 16) (c : BitVec 4) (rd : Fin 16) (a : Fin 2) (m : BitVec 2)
  /-- LD (R48): Engine loads through a pointer with post-modify or offset, through the port filter. -/
  | ld (e : Fin 16) (c : BitVec 4) (rd : Fin 16) (p : Fin 4) (am : BitVec 2) (off : BitVec 6)
  /-- ST (R48): Engine stores through a pointer with post-modify or offset, through the port filter. -/
  | st (e : Fin 16) (c : BitVec 4) (p : Fin 4) (rs : Fin 16) (am : BitVec 2) (off : BitVec 6)
  /-- LDA (R41): Engine loads from an absolute address. -/
  | lda (e : Fin 16) (c : BitVec 4) (rd : Fin 16) (addr : Word)
  /-- STA (R41): Engine stores to an absolute address. -/
  | sta (e : Fin 16) (c : BitVec 4) (addr : Word) (rs : Fin 16)
  /-- LDR (R41): Engine loads from the address in a register. -/
  | ldr (e : Fin 16) (c : BitVec 4) (rd rs : Fin 16) (m : BitVec 2)
  /-- STR (R41): Engine stores to the address in a register. -/
  | str (e : Fin 16) (c : BitVec 4) (rt rs : Fin 16) (m : BitVec 2)
  /-- BRK (R54): Engine halts under debug access, or otherwise raises ILLEGAL_OP. -/
  | brk (e : Fin 16) (c : BitVec 4)
  /-- BRA (R50): Engine branches to an absolute address, ending loops it leaves. -/
  | bra (e : Fin 16) (c : BitVec 4) (target : BitVec 13)
  /-- CALL (R50): Engine pushes the return address and branches, raising STACK at depth 4. -/
  | call (e : Fin 16) (c : BitVec 4) (target : BitVec 13)
  /-- JMPR (R50): Engine branches to the address in a register. -/
  | jmpr (e : Fin 16) (c : BitVec 4) (rs : Fin 16) (m : BitVec 2)
  /-- RET (R50): Engine pops and branches, raising STACK at depth 0. -/
  | ret (e : Fin 16) (c : BitVec 4)
  /-- LOOPI (R51): Engine starts a hardware loop with an immediate count. -/
  | loopi (e : Fin 16) (c : BitVec 4) (off : BitVec 10) (count : Word)
  /-- LOOPR (R51): Engine starts a hardware loop with a count from a register. -/
  | loopr (e : Fin 16) (c : BitVec 4) (rs : Fin 16) (off : BitVec 10)
  /-- WAITEV (R52): Engine consumes, polls or clears subscribed events, or sleeps until one arrives. -/
  | waitev (e : Fin 16) (c : BitVec 4) (rd : Fin 16) (ext : Word)
  /-- YIELD (R54): Engine waits for CORDIC and fence completion and ends the activation. -/
  | yield (e : Fin 16) (c : BitVec 4)
  /-- ILLEGAL_OP (R42): Engine decodes an unlisted opcode or reserved field and aborts the activation. -/
  | illegalOp (e : Fin 16)
  /-- FABRIC_LOAD_RETURN (R25): A fabric load response returns into the issuing task's context, releasing any stall. -/
  | fabricLoadReturn (t : Fin 96) (k : Fin 4)
  /-- EVENT_ARRIVAL (R28): An event pulse reaches a subscription slot, becoming pending or counting an overrun. -/
  | eventArrival (ev : Fin 512)
  /-- WAITEV_WAKE (R53): A sleeping task becomes ready after a masked event arrives and may pre-empt. -/
  | waitevWake (t : Fin 96)
  /-- TASK_RELEASE (R73): A task is released TASK_PHASE ticks after its source event: registers cleared, PC set, budget loaded. -/
  | taskRelease (t : Fin 96)
  /-- BUDGET_OVERRUN (R57): A task's budget timer reaches 0 before YIELD and the activation aborts. -/
  | budgetOverrun (t : Fin 96)
  /-- DEADLINE_MISS (R58): The deadline tick ends without YIELD and the activation aborts. -/
  | deadlineMiss (t : Fin 96)
  /-- MAILBOX_RECORD_COMPLETE (R62): A record completes into a mailbox front or back buffer and raises its event. -/
  | mailboxRecordComplete (e : Fin 16) (m : Fin 4) (kind : BitVec 4) (inst : BitVec 8) (words : List Word)
  /-- MBACK_ACK (R63): A store of ACK releases the front record and promotes a pending one. -/
  | mbackAck (e : Fin 16) (m : Fin 4)
  /-- MBACK_CLR_OVR (R63): A store of CLR_OVR clears the overrun count. -/
  | mbackClrOvr (e : Fin 16) (m : Fin 4)
  /-- MBPOST (R64): A store posts the writer's post buffer as a record into another mailbox. -/
  | mbpost (e dst : Fin 16) (m : Fin 4) (len : BitVec 6)
  /-- REGISTER_WRITE (R61): A store to a port that has no behaviour of its own updates it under the port filter. -/
  | registerWrite (e : Fin 16) (addr v : Word)
  /-- HALT (R68): Debug access halts an engine and the collector forces stages with its SAFETY or CONTROL tasks safe. -/
  | halt (e : Fin 16)
  /-- STEP (R446): Debug access single-steps a halted engine. -/
  | step (e : Fin 16)
  /-- RESUME_ENGINE (R68): Debug access resumes a halted engine. -/
  | resumeEngine (e : Fin 16)
  /-- STATUS (R446): Debug access returns an engine's halt status and context. -/
  | status (e : Fin 16)
  /-- READ_REG (R446): Debug access reads a context register. -/
  | readReg (e : Fin 16) (ctx : Fin 6) (index : BitVec 13)
  /-- READ_PM (R446): Debug access reads a program-memory word. -/
  | readPm (e : Fin 16) (addr : BitVec 13)
  /-- EXTEST (R446): Test access drives the boundary register while nRST is held low, otherwise acts as BYPASS. -/
  | extest (bits : List Bool)
  /-- IDCODE (R446): Test access selects the identification register. -/
  | idcode
  /-- SAMPLE_PRELOAD (R446): Test access samples or preloads the boundary register. -/
  | samplePreload (sampled shifted : List Bool)
  /-- CLAMP_TEST (R446): Test access selects bypass with outputs clamped, under the EXTEST condition. -/
  | clampTest
  /-- BYPASS (R446): Test access selects the bypass register for BYPASS and every unlisted code. -/
  | bypass (code : BitVec 5)
  /-- KIMG_LOAD (R66): A write starts a job that stores and checks a kernel image. -/
  | kimgLoad (q : Req) (image : List Word)
  /-- KIMG_DELETE (R341): A write starts a job that frees the directory slot of a stored kernel. -/
  | kimgDelete (q : Req) (id : Word)
  /-- TASK_DECLARE (R72): TASK_CMD DECLARE checks a task declaration and places it or refuses it. -/
  | taskDeclare (q : Req) (t : Fin 96)
  /-- TASK_REMOVE (R100): TASK_CMD REMOVE removes a task unless its stage is armed. -/
  | taskRemove (q : Req) (t : Fin 96)
  /-- FREE_TIMER_EXPIRY (R75): A free timer expires, raising its event and releasing tasks. -/
  | freeTimerExpiry (ft : Fin 16)
  /-- REFEREE_ROUND (R84): Each 1 ms the Referee updates power, temperature and derating and takes relief or restore actions. -/
  | refereeRound
  /-- QUAD_SWITCH_ON (R80): A quad powers up at QUAD_FMAX within 60 µs when a task is placed on it. -/
  | quadSwitchOn (quad : Fin 4)
  /-- QUAD_FMAX (R81): A write of QUAD_FMAX changes the highest step and may force a step-down at the next round. -/
  | quadFmax (q : Req) (quad : Fin 4) (v : BitVec 48)
  /-- STATE_COPY_DONE (R88): The copy unit completes the state copy and the mirror is armed. -/
  | stateCopyDone (t : Fin 96)
  /-- JOB_STEP (R95): The supervisor runs one step of the chosen job. -/
  | jobStep (obs : JobObs)
  /-- JOB_CANCEL (R98): A write requests cancellation of a job at its next step boundary. -/
  | jobCancel (q : Req) (slot : Fin 64) (v : BitVec 48)
  /-- JOB_SLOT_EXPIRY (R94): A slot in a final state is freed 60 s after the job ended. -/
  | jobSlotExpiry (slot : Fin 64)
  /-- RALLY_MEASURE (R102): The Rally completes a chain measurement and puts a valid table into service. -/
  | rallyMeasure (line : Fin 48) (taps8 : BitVec 12)
  /-- COMMIT_GO (R117): A store of COMMIT.GO copies the pending set into the transfer register and toggles the token. -/
  | commitGo (e : Fin 16) (cl : Fin 12)
  /-- COMMIT_RECOGNISED (R15): The commit token arrives in CLK_TB, the set is checked and waits, replacing any waiting set. -/
  | commitRecognised (cl : Fin 12)
  /-- CUTOFF (R119): At tick PERIOD-8 the most recently recognised set enters the apply stage. -/
  | cutoff (cl : Fin 12)
  /-- RELOAD (R119): A cluster reloads, applies or repeats its set, converts edges for the next period and raises its event. -/
  | reload (cl : Fin 12)
  /-- TRIGGER_FIRE (R121): The carrier reaches a CMPC or CMPD coarse code and raises its trigger event. -/
  | triggerFire (g : Fin 48) (d : Bool)
  /-- CBC_TRIP (R123): An effective cycle-by-cycle trip ends the cluster's outputs for the period and counts toward latching. -/
  | cbcTrip (cl : Fin 12) (inputs : BitVec 4)
  /-- LATCH_TRIP (R125): An effective LATCH trip sends the cluster to LATCHED. -/
  | latchTrip (cl : Fin 12) (inputs : BitVec 4)
  /-- BLANK_TIMER_EXPIRY (R126): A blanking timer runs out and unblanks its trip inputs. -/
  | blankTimerExpiry (cl : Fin 12) (b : Fin 2)
  /-- EDGE_TICK (R115): A converted edge's time is reached on a PWMO output unit, which places the edge. -/
  | edgeTick (g : Fin 48)
  /-- CLK_LOSS (R23): A clock monitor finds a clock outside its window and forces outputs safe. -/
  | clkLoss (clk : BitVec 8)
  /-- LANE_TRANSMIT (R147): The lane transmitter serves its queue by priority, dropping late EDGE_ONs. -/
  | laneTransmit (l : Fin 36)
  /-- EDGE_ON (R141): The P-die receives an EDGE_ON and queues, discards or treats it as corrupt. -/
  | edgeOn (d : Fin 4) (side : BitVec 2) (prof : BitVec 4) (seq : BitVec 6) (t : EdgeTime)
  /-- EDGE_OFF (R141): The P-die receives an EDGE_OFF and queues or executes it. -/
  | edgeOff (d : Fin 4) (side : BitVec 2) (prof : BitVec 4) (seq : BitVec 6) (t : EdgeTime)
  /-- HOLD_OFF (R141): The P-die receives a HOLD_OFF and turns the masked sides off until T. -/
  | holdOff (d : Fin 4) (side : BitVec 2) (prof : BitVec 4) (seq : BitVec 6) (t : EdgeTime)
  /-- PROFILE_SET (R168): The P-die stores a profile word for a half-bridge in SAFE_HOLD. -/
  | profileSet (d : Fin 4) (side : BitVec 2) (prof : BitVec 4) (seq : BitVec 6) (t : EdgeTime)
  /-- RESUME (R143): The P-die receives RESUME and moves a half-bridge from SAFE_HOLD to RUN. -/
  | resume (d : Fin 4) (side : BitVec 2) (prof : BitVec 4) (seq : BitVec 6) (t : EdgeTime)
  /-- MARK (R158): The P-die receives a retrain marker and enters SAFE_HOLD. -/
  | mark (d : Fin 4) (side : BitVec 2) (prof : BitVec 4) (seq : BitVec 6) (t : EdgeTime)
  /-- VOLLEY (R150): The P-die timestamps a Volley mark and answers with VOLLEY_REP. -/
  | volley (d : Fin 4) (side : BitVec 2) (prof : BitVec 4) (seq : BitVec 6) (t : EdgeTime)
  /-- TIME_ADJ (R162): The P-die adjusts its timebase at once or at the next free tick. -/
  | timeAdj (d : Fin 4) (side : BitVec 2) (prof : BitVec 4) (seq : BitVec 6) (t : EdgeTime)
  /-- NOP_COMMAND (R139): A NOP edge command is received and ignored. -/
  | nopCommand (d : Fin 4) (w : BitVec 48 := 0)
  /-- EDGE_EXECUTE (R142): A queued edge command reaches its T and switches a side, subject to the interlock. -/
  | edgeExecute (hb : Fin 12)
  /-- HOLD_END (R141): A hold expires at its T. -/
  | holdEnd (hb : Fin 12) (high : Bool)
  /-- HOLD_TIMEOUT (R142): No HOLD_OFF arrives within 10 µs of an interlock and SAFE_HOLD is entered. -/
  | holdTimeout (hb : Fin 12)
  /-- LANE_KILL (R153): A kill request makes the lane transmit K28.1 at once and empty its queue. -/
  | laneKill (l : Fin 36)
  /-- KILL_END (R153): The kill request releases after at least 8 K28.1 and the lane resumes with K28.5. -/
  | killEnd (l : Fin 36)
  /-- KILL_RECEIVED (R170): K28.1 on a link lane turns off every half-bridge of the bank. -/
  | killReceived (d : Fin 4)
  /-- TRAIN_REQ (R148): The P-die answers a training request with TRAIN_RSP. -/
  | trainReq (d : Fin 4) (genMax : BitVec 8) (nonce : BitVec 16) (fcs : BitVec 16 := 0)
  /-- TRAIN_SET (R148): The P-die adopts the chosen generation and answers TRAIN_ACK. -/
  | trainSet (d : Fin 4) (gen : BitVec 8) (nonce : BitVec 16) (fcs : BitVec 16 := 0)
  /-- CFG_WR (R172): The P-die writes configuration words and answers CFG_RSP. -/
  | cfgWr (d : Fin 4) (addr : BitVec 8) (data : List Word) (fcs : BitVec 16 := 0)
  /-- CFG_RD (R145): The P-die reads configuration words and answers CFG_RSP. -/
  | cfgRd (d : Fin 4) (addr : BitVec 8) (count : Fin 8) (fcs : BitVec 16 := 0)
  /-- TEST (R148): A PRBS-7 TEST frame is received and checked. -/
  | test (l : Fin 36) (upstream : Bool) (payload : List Byte) (fcs : BitVec 16 := 0)
  /-- ADC_TRIG (R187): The P-die enters triggers from an ADC_TRIG frame into the schedule or queue. -/
  | adcTrig (d : Fin 4) (trigs : List TrigWord) (fcs : BitVec 16 := 0)
  /-- TRAIN_RSP (R148): The device receives a satellite's training response. -/
  | trainRsp (l : Fin 36) (genMax : BitVec 8) (nonce : BitVec 16) (satId : Word) (serial : BitVec 48) (caps : Word) (fcs : BitVec 16 := 0)
  /-- TRAIN_ACK (R148): The device receives a training acknowledgement. -/
  | trainAck (l : Fin 36) (gen : BitVec 8) (nonce : BitVec 16) (fcs : BitVec 16 := 0)
  /-- CFG_RSP (R148): The device receives a configuration response for readback. -/
  | cfgRsp (l : Fin 36) (addr : BitVec 8) (refused : Bool) (data : List Word) (fcs : BitVec 16 := 0) (cnt : BitVec 3 := 0)
  /-- STATUS_FRAME (R155): The device receives STATUS and updates lane ports and RESUME_NEEDED. -/
  | statusFrame (l : Fin 36) (w0 w1 w2 w3 : Word) (fcs : BitVec 16 := 0)
  /-- EDGE_TELE (R155): The device receives per-edge telemetry and may route it to a mailbox. -/
  | edgeTele (l : Fin 36) (w0 w1 w2 : Word) (fcs : BitVec 16 := 0)
  /-- ALARM (R154): The device receives an ALARM frame, records its cause and releases the alarm source. -/
  | alarm (l : Fin 36) (w0 w1 : Word) (fcs : BitVec 16 := 0)
  /-- VOLLEY_REP (R150): The device receives a Volley reply and computes delay and offset. -/
  | volleyRep (l : Fin 36) (seq : BitVec 6) (r1 s2 t4 : EdgeTime) (fcs : BitVec 16 := 0)
  /-- SAT_ALARM (R154): An upstream K28.1 asserts the lane's satellite-alarm source in the trip matrix. -/
  | satAlarm (l : Fin 36)
  /-- ALARM_TIMEOUT (R154): No ALARM frame within 10 µs records cause UNKNOWN and releases the source. -/
  | alarmTimeout (l : Fin 36)
  /-- VOLLEY_EXCHANGE (R151): The Volley interval expires and a mark with VOLLEY is sent. -/
  | volleyExchange (l : Fin 36)
  /-- VOLLEY_MISS (R150): No VOLLEY_REP within 20 µs counts a miss. -/
  | volleyMiss (l : Fin 36)
  /-- LANE_LOST (R156): No valid character for 1 µs or no STATUS for 300 µs triggers a retrain. -/
  | laneLost (l : Fin 36)
  /-- LANE_MISALIGNED (R146): The alignment comma is missing twice and a retrain is triggered. -/
  | laneMisaligned (l : Fin 36)
  /-- LANE_CODE_ERR (R156): A code error is counted, and 16 in 1 ms trigger a retrain. -/
  | laneCodeErr (l : Fin 36) (inFrame : Bool := false) (g : BitVec 10 := 0) (down : Bool := false)
  /-- SD_SLOT (R154): A sigma-delta slot of 8 bits enters filter SDn and updates both paths. -/
  | sdSlot (f : Fin 32) (bits : BitVec 8) (substituted : Bool)
  /-- RETRAIN (R157): A retrain begins with a kill burst and runs training steps 1-8. -/
  | retrain (l : Fin 36)
  /-- TRAIN_STEP_TIMEOUT (R148): A training step's time limit expires and training fails. -/
  | trainStepTimeout (l : Fin 36)
  /-- LANE_ENABLE (R165): A write enables a lane and starts training, or disables it. -/
  | laneEnable (q : Req) (l : Fin 32) (v : BitVec 48)
  /-- TRAIN (R148): LANE_CMD TRAIN starts training or a retrain job. -/
  | train (q : Req) (l : Fin 32)
  /-- RETRAIN_CMD (R148): LANE_CMD RETRAIN starts a retrain or training job. -/
  | retrainCmd (q : Req) (l : Fin 32)
  /-- SAT_READ (R165): A write starts a job reading one satellite configuration address. -/
  | satRead (q : Req) (l : Fin 32) (addr : BitVec 48)
  /-- TADPOLE_HOLD_OFF (R160): Every 50 µs a HOLD_ONLY lane sends a HOLD_OFF 100 µs ahead. -/
  | tadpoleHoldOff (l : Fin 36)
  /-- LINK_ACTIVITY_LOSS (R12): The P-die sees no valid character for 2 µs, turns the bank off and stops upstream traffic. -/
  | linkActivityLoss (d : Fin 4)
  /-- BANK_OFF (R170): A bank-off wire asserts and the bank's half-bridges sink. -/
  | bankOff (b : Fin 4) (on : Bool)
  /-- KILL_INPUT (R305): The filtered KILL pin asserts, turning every half-bridge and lane off and raising a fault. -/
  | killInput
  /-- KILL_RELEASE (R305): The filtered KILL pin releases and the kills end. -/
  | killRelease
  /-- HOLD_SWITCH_CLAMP (R171): 500 ns after an edge the hold switch takes over the gate. -/
  | holdSwitchClamp (hb : Fin 12) (high : Bool)
  /-- HB_STP (R175): The interlock or gate overlap turns a half-bridge off and sends an alarm. -/
  | hbStp (hb : Fin 12)
  /-- HB_GATE_FAULT (R175): A gate disagreeing for 2 µs turns the half-bridge off. -/
  | hbGateFault (hb : Fin 12) (high : Bool := false)
  /-- HB_VDS (R176): A VDS detection after blanking turns the half-bridge off softly. -/
  | hbVds (hb : Fin 12) (high : Bool)
  /-- HB_BST_WARN (R174): The bootstrap voltage crosses its warning level after the filter. -/
  | hbBstWarn (hb : Fin 12) (on : Bool)
  /-- HB_BST_UV (R174): The bootstrap voltage falls below its undervoltage level and the half-bridge turns off. -/
  | hbBstUv (hb : Fin 12)
  /-- GVDD_RAMP_DONE (R167): GVDD completes its 2 ms soft start. -/
  | gvddRampDone
  /-- GVDD_OVERLOAD (R167): The 10 ms average GVDD load exceeds 200 mA. -/
  | gvddOverload (load : BitVec 16)
  /-- OST_CMD (R177): OST_CMD RUN starts the off-state test job of a half-bridge. -/
  | ostCmd (q : Req) (hb : Fin 12)
  /-- OST_SETTLE_END (R177): The settling wait of an off-state test ends and its samples are taken. -/
  | ostSettleEnd (hb : Fin 12) (vb vsh vpeer : BitVec 24)
  /-- SCHEDULE_DUE (R187): A scheduled trigger's T is reached and it moves to the converter queue. -/
  | scheduleDue (a : Fin 4)
  /-- SEQUENCE_START (R188): A free converter starts the lowest-numbered queued trigger's sequence. -/
  | sequenceStart (a : Fin 4)
  /-- SEQUENCE_END (R184): A converter's last slot ends and its results are sent in ADC_RES frames. -/
  | sequenceEnd (a : Fin 4) (code : BitVec 16)
  /-- ADC_RES (R192): The C-die receives an ADC_RES frame and delivers the record on LAST. -/
  | adcRes (a : Fin 4) (w0 w1 w2 : Word) (results : List Word) (fcs : BitVec 16 := 0)
  /-- ADC_RESULT_TIMEOUT (R192): No LAST frame 20 µs after T delivers a DROPPED record. -/
  | adcResultTimeout (a : Fin 4) (trig : BitVec 7)
  /-- FT_TRIGGER_SEND (R187): A free timer with 10 µs left queues its ADC_TRIG frame. -/
  | ftTriggerSend (ft : Fin 16)
  /-- ADSWT (R205): A store raises a software trigger on a converter. -/
  | adswt (e : Fin 16) (a : Fin 4) (swn : BitVec 4)
  /-- HK_RES (R194): The C-die receives HKADC results. -/
  | hkRes (w0 : Word) (results : List Word) (fcs : BitVec 16 := 0)
  /-- HK_CONVERSION (R194): HKADC completes one conversion of its scan or an inserted request. -/
  | hkConversion (code : BitVec 12)
  /-- SD_LATCH_CENTRED (R196): A centred latch group completes its record once the centred window is available. -/
  | sdLatchCentred (g : Fin 16)
  /-- CW_WIRE_CHANGE (R199): A comparator wire changes, is timestamped, counted and raises its event. -/
  | cwWireChange (k : Fin 48) (above below : Bool)
  /-- CWTHR (R199): A store requests narrower comparator thresholds. -/
  | cwthr (e : Fin 16) (k : Fin 48) (v : Word)
  /-- CWTHR_APPLY (R199): The requested DAC codes reach the comparator and show in CWAPP. -/
  | cwthrApply (k : Fin 48)
  /-- CW_CHECK_CMD (R200): CW_CHECK_CMD RUN starts the comparator level-one self-check job. -/
  | cwCheckCmd (q : Req) (k : Fin 48)
  /-- CW_READBACK (R201): Every CW_RB_PERIOD the next DAC is read back by ADC3 and compared. -/
  | cwReadback (code : Option (BitVec 16))
  /-- QE_INPUT_CHANGE (R209): A filtered quadrature state change starts a candidate, decided at once or pending. -/
  | qeInputChange (n : Fin 4) (ab : BitVec 2)
  /-- QE_PENDING_DECIDE (R209): The QE_MINEDGE interval passes and a pending candidate is decided. -/
  | qePendingDecide (n : Fin 4)
  /-- QE_EDGE (R213): An accepted edge updates position, direction, speed and fires compare entries. -/
  | qeEdge (n : Fin 4) (up : Bool)
  /-- QE_INDEX (R215): An index is recognised, latching position and possibly resetting it. -/
  | qeIndex (n : Fin 4) (level : Bool)
  /-- QE_SPEED_CHECK (R213): Every 16 ticks the time since the last edge limits speed or enters standstill. -/
  | qeSpeedCheck (n : Fin 4)
  /-- QCMP_PULSE_END (R221): A compare PULSE width expires and QCMPn goes inactive. -/
  | qcmpPulseEnd (n : Fin 4)
  /-- QE_ENABLE (R208): A write starts or stops a quadrature interface. -/
  | qeEnable (q : Req) (n : Fin 4) (v : BitVec 48)
  /-- QPOS_READ (R223): A load of QPOS copies the interface values into the reader's snapshot. -/
  | qposRead (e : Fin 16) (n : Fin 4)
  /-- CLR_RAWREV (R212): A store of QCTL.CLR_RAWREV clears the raw-reversal flag. -/
  | clrRawrev (e : Fin 16) (n : Fin 4)
  /-- QE_RAWREV_CLR (R212): A dictionary write clears the raw-reversal flag. -/
  | qeRawrevClr (q : Req) (n : Fin 4) (v : BitVec 48)
  /-- POS_SET (R211): A store of QCTL.POS_SET loads QPOSSET into the position and re-evaluates compare entries. -/
  | posSet (e : Fin 16) (n : Fin 4)
  /-- CTTGT (R219): A store arms a compare entry and evaluates BEHIND, firing once if CATCHUP applies. -/
  | cttgt (e : Fin 16) (n : Fin 4) (k : Fin 16) (v : Word)
  /-- CTCFG (R217): A store with DIR OFF disarms an entry at once; others take effect at the next CTTGT store. -/
  | ctcfg (e : Fin 16) (n : Fin 4) (k : Fin 16) (v : Word)
  /-- DECLARE (R231): STAGE_CMD DECLARE checks a stage declaration and holds its resources. -/
  | declare (q : Req) (st : Fin 12)
  /-- REMOVE (R231): STAGE_CMD REMOVE returns a READY stage to OFF. -/
  | remove (q : Req) (st : Fin 12)
  /-- ARM (R237): STAGE_CMD ARM queues the precheck job and enters PRECHECK. -/
  | arm (q : Req) (st : Fin 12)
  /-- RUN (R237): STAGE_CMD RUN posts START and sets OUTEN from ARMED. -/
  | run (q : Req) (st : Fin 12)
  /-- STOP (R237): STAGE_CMD STOP posts STOP and enters RAMPDOWN. -/
  | stop (q : Req) (st : Fin 12)
  /-- STAGE_DISARM (R237): STAGE_CMD DISARM stops the clusters and opens contactors, returning to READY. -/
  | stageDisarm (q : Req) (st : Fin 12)
  /-- CLEAR (R237): STAGE_CMD CLEAR returns a HALTED stage to READY and clears its latch entries. -/
  | clear (q : Req) (st : Fin 12)
  /-- RAMP_DONE (R237): The main task reports RAMP_DONE and the stage returns to ARMED. -/
  | rampDone (st : Fin 12)
  /-- STAGE_RAMP_TIMEOUT (R241): RAMP_TIME expires in RAMPDOWN and OUTEN is set to 0. -/
  | stageRampTimeout (st : Fin 12)
  /-- PARAMETER_POST (R235): A write of a stage RW entry is posted to the stage's tasks. -/
  | parameterPost (q : Req) (key : BitVec 24) (v : BitVec 48)
  /-- STATUS_MIRROR (R235): Every 100 µs the supervisor mirrors MAIN_TASK status words. -/
  | statusMirror (st : Fin 12)
  /-- ID_CMD (R259): ID_CMD RUN starts the motor identification job. -/
  | idCmd (q : Req) (st : Fin 12)
  /-- ID_APPLY (R259): A write copies identification results into the motor parameters. -/
  | idApply (q : Req) (st : Fin 12) (v : BitVec 48)
  /-- CONTACTOR_FAIL (R268): A contactor feedback disagrees with its command CT_DELAY after the command. -/
  | contactorFail (st : Fin 12) (k : Fin 8)
  /-- CONTACTOR_OPEN (R270): A contactor opens when current falls below CT_OPEN_I or 50 ms pass. -/
  | contactorOpen (st : Fin 12) (k : Fin 8)
  /-- STAR_CT_OPENED (R285): STAR_CT feedback reads open after DISARM and the EFT stage becomes READY. -/
  | starCtOpened (st : Fin 12)
  /-- EFT_CT_WELD (R285): STAR_CT feedback does not read open within CT_DELAY and the stage halts. -/
  | eftCtWeld (st : Fin 12)
  /-- FAULT_REPORT (R293): A fault report reaches the collector, is classified, latched, recorded and reacted to. -/
  | faultReport (code : BitVec 24)
  /-- FAULT_REQUEST (R311): A store to FREQ raises a kernel fault of kind K or counts a rejection. -/
  | faultRequest (e : Fin 16) (cause : BitVec 8)
  /-- REACTION_COMPLETE (R293): Every affected output is confirmed off and the reaction window closes. -/
  | reactionComplete
  /-- REACT_UNCONFIRMED (R294): 8 µs after a report an unconfirmed output is forced static and a fault raised. -/
  | reactUnconfirmed (out : Fin 44)
  /-- TRIP_MATRIX_SOURCE (R295): A trip-matrix source changes and its destinations follow within 5 ns. -/
  | tripMatrixSource (src : Fin 128) (level : Bool)
  /-- CLEAR_CODE (R298): A write clears the latch entry of one code unless live or in an open window. -/
  | clearCode (q : Req) (code : BitVec 48)
  /-- CLEAR_ALL (R298): A write clears every clearable entry of a class or lower and reports the counts. -/
  | clearAll (q : Req) (cls : BitVec 48)
  /-- SCORECARD_COPY (R303): A new or changed Scorecard record is copied to the persistent region. -/
  | scorecardCopy
  /-- OKAY_READBACK (R304): The collector reads the OKAY pin back 2 µs after a change and every 1 ms. -/
  | okayReadback (level : Bool)
  /-- NOTIFICATION_SEND (R306): The supervisor sends the next queued notification in T48 order. -/
  | notificationSend (ses : Fin 2)
  /-- INJ_CODE (R307): A write presents a fault code to the collector as an injected report. -/
  | injCode (q : Req) (code : BitVec 48)
  /-- INJ_SOURCE (R307): A write asserts a trip-matrix source for INJ_LEN µs. -/
  | injSource (q : Req) (src : BitVec 48)
  /-- INJECTION_END (R307): An injected source assertion ends after INJ_LEN. -/
  | injectionEnd (src : Fin 128)
  /-- SLOW_ROUND (R314): Every 1 ms every temperature sensor is evaluated, cross-checked and maxima formed. -/
  | slowRound (die : List (BitVec 16))
  /-- FAST_ROUND (R314): Every 62.5 µs power-stage sensors in fast mode are evaluated. -/
  | fastRound (bank : List (BitVec 16))
  /-- ANALOG_SHUTDOWN (R318): A die analog shutdown comparator asserts after its filter and reports TEMP_SHUTDOWN. -/
  | analogShutdown (ts : Fin 12)
  /-- SUPPLY_WARN (R322): A supply crosses a warning level, starting NVM deferral and shedding where applicable. -/
  | supplyWarn (pp : Fin 6) (ov : Bool)
  /-- SUPPLY_WARN_RELEASE (R323): A supply warning releases and the 100 µs debounce starts. -/
  | supplyWarnRelease (pp : Fin 6) (ov : Bool)
  /-- DEFER_END (R323): The debounce ends, deferred NVM writes begin and tasks are restored later. -/
  | deferEnd
  /-- SUPPLY_RESET (R322): A supply crosses a reset level, causing a brown-out or a SAFE_STOP fault. -/
  | supplyReset (pp : Fin 6) (ov : Bool)
  /-- JOURNAL_WRITE (R335): A queued journal record's first write begins when the array is free. -/
  | journalWrite
  /-- JOURNAL_COMMIT (R335): The commit word is written and the write's response or PERSIST notification is sent. -/
  | journalCommit
  /-- SHED_CMD (R338): SHED_CMD START queues a journal compaction job. -/
  | shedCmd (q : Req)
  /-- PATCH_LOAD (R342): A write starts a job that stores and checks a firmware patch. -/
  | patchLoad (q : Req) (image : List Word)
  /-- PATCH_FLOOR_RAISE (R343): A write raises the patch version floor. -/
  | patchFloorRaise (q : Req) (v : BitVec 48)
  /-- OVERRIDE_WRITE (R347): A write of an OTP shadow override replaces the shadow for readers. -/
  | overrideWrite (q : Req) (region : Fin 3) (ww : BitVec 8) (v : BitVec 48)
  /-- OVR_CLEAR (R347): A write removes every override of a region. -/
  | ovrClear (q : Req) (region : BitVec 48)
  /-- OTP_BURN (R348): A write starts a job that burns and verifies one OTP word. -/
  | otpBurn (q : Req) (v : BitVec 48)
  /-- LOCK (R350): OTP_LOCK_CMD LOCK starts a job that seals and locks a region. -/
  | lock (q : Req) (region : Fin 3)
  /-- COMPLETE (R350): OTP_LOCK_CMD COMPLETE reburns a marginal lock word. -/
  | complete (q : Req) (region : Fin 3)
  /-- OTP_AUDIT (R351): OTP_AUDIT_CMD RUN, entry to IDLE or the audit period starts the margin audit job. -/
  | otpAudit (q : Option Req)
  /-- POR (R358): Power-on or VSUP below 3.0 V resets the device. -/
  | por
  /-- PIN_RESET (R358): nRST held low 1 µs resets the device. -/
  | pinReset
  /-- WATCHDOG (R358): The supervisor watchdog expires after 20 ms, raising SAFE_STOP and resetting. -/
  | watchdog
  /-- LOCKSTEP_ERROR (R358): The supervisor cores disagree, raising SAFE_STOP and resetting. -/
  | lockstepError
  /-- RESET_RELEASE (R361): Reset is released 100 µs after supplies are valid and the boot sequence begins. -/
  | resetRelease
  /-- BOOT_STEP_COMPLETE (R361): A boot step completes and the next begins, ending in IDLE or TADPOLE. -/
  | bootStepComplete
  /-- BOOT_STEP_TIMEOUT (R361): A boot step exceeds its time limit and a boot failure follows. -/
  | bootStepTimeout
  /-- BOOT_FAIL (R362): After a boot failure the outputs are held 10 ms and the device resets. -/
  | bootFail
  /-- BOOT_RETRY (R362): In a Tadpole-bound start a failed clock or self-test step repeats every 1 s. -/
  | bootRetry (ok : Bool)
  /-- START_COUNTER_CLEAR (R364): After 1 s in IDLE, OPERATIONAL or PARK the counter clears and a trial patch is confirmed. -/
  | startCounterClear
  /-- WARM_RESTART (R368): DEV_CMD WARM_RESTART brings the device from SAFE to IDLE. -/
  | warmRestart (q : Req)
  /-- SOFT_RESET (R358): DEV_CMD SOFT_RESET resets the device after its response. -/
  | softReset (q : Req)
  /-- RESTART_NORMAL (R364): DEV_CMD RESTART_NORMAL clears the counter and resets from TADPOLE. -/
  | restartNormal (q : Req)
  /-- STANDBY (R369): DEV_CMD STANDBY drains the journal queue and powers down to STANDBY. -/
  | standby (q : Req)
  /-- STANDBY_ENTERED (R369): Power removal completes and the device is in STANDBY. -/
  | standbyEntered
  /-- WAKE_EVENT (R370): A CAN, LOCAL or timer wake in STANDBY starts the device with cause WAKE. -/
  | wakeEvent (src : Fin 6)
  /-- PARK (R371): DEV_CMD PARK switches every quad off while other blocks run. -/
  | park (q : Req)
  /-- WAKE (R371): DEV_CMD WAKE returns from PARK to IDLE and places tasks again. -/
  | wake (q : Req)
  /-- FACTORY_TEST (R372): DEV_CMD FACTORY_TEST enters factory test mode. -/
  | factoryTest (q : Req)
  /-- DEFAULTS (R367): NVM_RECOVER DEFAULTS marks both journal headers unused. -/
  | defaults (q : Req)
  /-- REJECT_PATCHES (R367): NVM_RECOVER REJECT_PATCHES marks every patch slot REJECTED. -/
  | rejectPatches (q : Req)
  /-- CAN_START (R382): CAN_CMD START checks timing and enters INTEGRATING. -/
  | canStart (q : Req) (n : Fin 4)
  /-- CAN_STOP (R382): CAN_CMD STOP ends the frame in progress, empties buffers and goes OFF. -/
  | canStop (q : Req) (n : Fin 4)
  /-- RECOVER (R389): CAN_CMD RECOVER starts bus-off recovery in MANUAL mode. -/
  | recover (q : Req) (n : Fin 4)
  /-- CAN_INTEGRATED (R382): 11 recessive bits take a controller to ERROR_ACTIVE. -/
  | canIntegrated (n : Fin 4)
  /-- CAN_FRAME_RECEIVED (R388): A received frame is filtered into RF0, RF1 or discarded. -/
  | canFrameReceived (n : Fin 4) (frame : CanFrame)
  /-- CAN_TX_DONE (R384): A transmission succeeds and the shadow may be copied into the active buffer. -/
  | canTxDone (n : Fin 4)
  /-- CAN_ARBITRATION_LOST (R386): A frame loses arbitration without counting a retry. -/
  | canArbitrationLost (n : Fin 4)
  /-- CAN_ERROR (R389): A protocol error updates counters, retries and the error state. -/
  | canError (n : Fin 4) (kind : BitVec 3) (transmitting clash : Bool) (weight : BitVec 4)
  /-- CAN_RECOVERED (R389): 128 recessive sequences end recovery with counters reset. -/
  | canRecovered (n : Fin 4)
  /-- CAN_QUEUE_LATE (R393): A queued response or notification waits longer than QUEUE_LATE_T. -/
  | canQueueLate (n : Fin 4)
  /-- TXM_PERIOD (R421): A transmit map's period expires and its frame is packed into its buffer. -/
  | txmPeriod (m : Fin 32)
  /-- RXM_ENABLE (R422): A write enables or disables a receive process map. -/
  | rxmEnable (q : Req) (m : Fin 32) (v : BitVec 48)
  /-- TXM_ENABLE (R422): A write enables or disables a transmit process map. -/
  | txmEnable (q : Req) (m : Fin 32) (v : BitVec 48)
  /-- LOCAL_TRANSACTION (R404): A 68-byte LOCAL SPI transaction exchanges a request and a response or notification. -/
  | localTransaction (bytes : List Byte)
  /-- LOCAL_PORT_RESET (R405): A reset transaction or 8 bad transactions reset the LOCAL port. -/
  | localPortReset
  /-- HELLO (R411): A HELLO opens a session at a negotiated version. -/
  | hello (ses : Fin 2) (tag : BitVec 6) (lo hi : BitVec 16)
  /-- READ (R406): A READ returns an entry's value after access checks. -/
  | read (q : Req) (key : BitVec 24)
  /-- WRITE (R401): A WRITE of an entry with no row of its own is checked, applied and journalled. -/
  | write (q : Req) (key : BitVec 24) (len : BitVec 8) (v : BitVec 48)
  /-- NEXT_KEY (R406): NEXT_KEY returns the next existing key. -/
  | nextKey (q : Req) (key : BitVec 24)
  /-- DESCRIBE (R406): DESCRIBE returns an entry's type, access, level and Default. -/
  | describe (q : Req) (key : BitVec 24)
  /-- SEG_DATA (R408): A segment of a segmented write is received and acknowledged every 8. -/
  | segData (q : Req) (counter : BitVec 8) (data : List Byte)
  /-- SEG_NEXT (R407): SEG_NEXT requests further segments of a segmented value. -/
  | segNext (q : Req) (n : BitVec 8)
  /-- ABORT (R406): ABORT ends a segmented transfer without applying it. -/
  | abort (q : Req)
  /-- READ_RANGE (R406): READ_RANGE returns consecutive elements in one snapshot. -/
  | readRange (q : Req) (key : BitVec 24) (n : BitVec 8)
  /-- CHALLENGE (R412): CHALLENGE returns a 16-byte nonce for an unlock. -/
  | challenge (q : Req) (level : BitVec 8)
  /-- UNLOCK (R412): UNLOCK checks the HMAC and raises the session level or counts a failure. -/
  | unlock (q : Req) (level : BitVec 8) (mac : List Byte)
  /-- LOCK_SESSION (R406): LOCK returns the session to OPERATOR. -/
  | lockSession (q : Req)
  /-- SEG_TIMEOUT (R408): More than 100 ms between segments ends the transfer. -/
  | segTimeout (ses : Fin 2) (tag : BitVec 6)
  /-- SERVICE_TIMEOUT (R412): A session without a request for SERVICE_TIMEOUT returns to OPERATOR. -/
  | serviceTimeout (ses : Fin 2)
  /-- AUTH_LOCKOUT_END (R412): The authentication lockout period ends. -/
  | authLockoutEnd (ses : Fin 2)
  /-- STORED_RESPONSE_EXPIRY (R409): A stored response is discarded 1 s after it was sent. -/
  | storedResponseExpiry (ses : Fin 2) (tag : BitVec 6)
  /-- JOB_PROGRESS (R410): A JOB_PROGRESS notification is sent at most every 100 ms when progress changes. -/
  | jobProgress (slot : Fin 64)
  /-- CLOCK_RETURN (R383): A monitored clock comes back inside its window: the CLK_LOSS condition ends, and each CAN controller that was not OFF goes to INTEGRATING. -/
  | clockReturn (clk : BitVec 8)
  /-- FABRIC_STORE_ACK (R49): The acknowledgement of a fabric store returns, freeing a store-buffer entry and possibly ending a FENCE, YIELD or store stall. -/
  | fabricStoreAck (t : Fin 96) (k : Fin 4)
  /-- ANALOG_SHUTDOWN_RELEASE (R318): A die analog shutdown comparator releases below 145 °C, so the TEMP_SHUTDOWN live condition can fall and a warm restart becomes possible. -/
  | analogShutdownRelease (ts : Fin 12)
  /-- CONTACTOR_FEEDBACK_CHANGE (R268): A contactor feedback input CTFn changes level, updating CT_STATE and the live conditions of CONTACTOR_FAIL and EFT_CT_WELD, on which CLEAR depends. -/
  | contactorFeedbackChange (k : Fin 8) (level : Bool)
  /-- BST_UV_RELEASE (R174): BSTn − SHn rises above the 7.5 V undervoltage release after the filter; BST_UV clears, HB_BST_UV stops being live, and RESUME is honoured again. -/
  | bstUvRelease (hb : Fin 12)
  /-- STANDBY_QUEUE_TIMEOUT (R369): The journal queue is still not empty 10 ms after DEV_CMD STANDBY, so the command is refused and the device returns to IDLE. -/
  | standbyQueueTimeout
  /-- ADC_SLOT_END (R192): A converter slot ends inside a running sequence; when five results are ready, an ADC_RES frame without LAST is sent upstream. -/
  | adcSlotEnd (a : Fin 4) (code : BitVec 16)
  /-- EDGE_TIME_REACHED (R126): CLK_TB reaches the tick containing the stated T of a converted lane or half-bridge edge, starting or restarting the selected blanking timer. -/
  | edgeTimeReached (g : Fin 48) (kind : Fin 4)
  /-- RECEIVER_LOCK (R148): A lane receiver locks to the upstream stream and aligns on the alignment comma, so training step 1 completes. -/
  | receiverLock (l : Fin 36)
  deriving DecidableEq, Repr

end Sys2Proof
end

