-- ==== Sys2Proof/Config.lean ====
section
/-! DEFINITION. What the spec leaves open, as opaque constants: nothing can evaluate them or prove a value of them.
A free value is `free w i` at an index `i` that the state counts (State.free). -/

namespace Sys2Proof.Config

/-- The i-th free value of `w` bits: a value that the spec names and does not state (nonces, measured supplies, words the
part reports of itself). Log entry 5. -/
opaque free (w i : Nat) : BitVec w

/-- The error of a CORDIC result (`op` 0 cos, 1 sin, 2 angle, 3 magnitude) for its inputs: the model keeps it within the bound of
R46. Log entry 6. -/
opaque cordicErr (op : Nat) (a b : Word) : Nat

/-- The error of a seed (`op` 0 RCPS, 1 RSQS) for its input: the model keeps it within the 12 bits of R47. Log entry 6. -/
opaque seedErr (op : Nat) (x : Word) : Nat

/-- The key of FACTORY level (R412), which the maker holds in a protected VENDOR word: 32 bytes. Log entry 5. -/
opaque factoryKey : BitVec 256

/-- The turns ratio of the transformer of a PSFB stage, primary to secondary, in 1/65536: the part stands outside the device and no entry
holds its ratio, on which the prebiased start of R271 rests. Log entry 33. -/
opaque turns (g : Nat) : Nat

end Sys2Proof.Config
end

