-- ==== Sys2Proof/Machine/Tab.lean ====
section
/-! DEFINITION. The sparse map in one canonical form: keys strictly rising, and no entry that holds what an
unlisted key reads as. Memories, the dictionary's entries, the plain ports and the per-instance records of
the part are held in it, so that equal contents are equal data. -/

namespace Sys2Proof.Machine

/-- A list of (key, value) pairs. -/
abbrev Tab (V : Type) := List (Nat × V)

/-- What a key reads as; `d` is what an unlisted key reads as. -/
def Tab.get {V : Type} (d : Nat → V) : Tab V → Nat → V
  | [], k => d k
  | p :: r, k => if p.1 = k then p.2 else Tab.get d r k

/-- The map without a key. -/
def Tab.del {V : Type} : Tab V → Nat → Tab V
  | [], _ => []
  | p :: r, k => if p.1 = k then Tab.del r k else p :: Tab.del r k

/-- The map with a key listed, at its place. -/
def Tab.put {V : Type} : Tab V → Nat → V → Tab V
  | [], k, v => [(k, v)]
  | p :: r, k, v =>
    if k < p.1 then (k, v) :: p :: r
    else if p.1 = k then (k, v) :: r
    else p :: Tab.put r k v

/-- A write: writing what an unlisted key reads as removes the entry. -/
def Tab.set {V : Type} [DecidableEq V] (d : Nat → V) (m : Tab V) (k : Nat) (v : V) : Tab V :=
  if v = d k then Tab.del m k else Tab.put m k v

/-- The canonical form. -/
abbrev Tab.wf {V : Type} (d : Nat → V) (m : Tab V) : Prop :=
  m.Pairwise (fun a b => a.1 < b.1) ∧ ∀ p ∈ m, p.2 ≠ d p.1

/-- Writes of a run of keys from `k` on. -/
def Tab.setRange {V : Type} [DecidableEq V] (d : Nat → V) (m : Tab V) (k : Nat) : List V → Tab V
  | [] => m
  | v :: r => Tab.setRange d (Tab.set d m k v) (k + 1) r

/-- The values of `n` keys from `k` on. -/
def Tab.getRange {V : Type} (d : Nat → V) (m : Tab V) (k : Nat) : Nat → List V
  | 0 => []
  | n + 1 => Tab.get d m k :: Tab.getRange d m (k + 1) n

end Sys2Proof.Machine
end

