-- ==== Sys2Proof/Machine/Crc.lean ====
section
/-! DEFINITION. The check sums of the part: CRC-24 (R331) and CRC-16 (R145), as numbers. -/

namespace Sys2Proof.Machine

/-- One bit of a CRC of `w` bits with polynomial `poly`, most significant bit first. -/
def crcBit (w poly c : Nat) : Nat :=
  if 2 ^ (w - 1) ≤ c then Nat.xor (2 * c % 2 ^ w) poly else 2 * c

/-- `n` bits of a CRC. -/
def crcBits (w poly : Nat) : Nat → Nat → Nat
  | 0, c => c
  | n + 1, c => crcBits w poly n (crcBit w poly c)

/-- One byte of a CRC. -/
def crcByte (w poly c : Nat) (b : Nat) : Nat := crcBits w poly 8 (Nat.xor c (b * 2 ^ (w - 8)))

/-- CRC-24 of RFC 4880 over bytes (R331). -/
def crc24Bytes (l : List Nat) : Nat := l.foldl (crcByte 24 0x864CFB) 0xB704CE

/-- The three bytes of a word, [23:16] first. -/
def wordBytes (w : Word) : List Nat := [w.toNat / 65536, w.toNat / 256 % 256, w.toNat % 256]

/-- CRC-24 over words (R331). -/
def crc24 (l : List Word) : Word := BitVec.ofNat 24 (crc24Bytes (l.flatMap wordBytes))

/-- CRC-16 of R145: polynomial 0x1021, initial value 0xFFFF, no reflection, no final inversion. -/
def crc16 (l : List Byte) : BitVec 16 := BitVec.ofNat 16 ((l.map (·.toNat)).foldl (crcByte 16 0x1021) 0xFFFF)

/-- A value as `n` big-endian bytes. -/
def beBytes (v : Nat) : Nat → List Byte
  | 0 => []
  | n + 1 => BitVec.ofNat 8 (v / 256 ^ n) :: beBytes v n

/-- The OTP array as the part leaves the factory (R345), by 256 × region + word: VENDOR (0) and IDENT (1) burned, sealed and
locked, CUSTOMER (2) unburned. The part code is R345's; silicon revision 1 (the example of R446), serial number, trims and
vendor key hash 0 are the model's. DESIGN CHOICE, unsafe (log entry 3). The seals are the CRC-24 of each region (R346). -/
def otpShipped : Tab Word :=
  [(0x07E, 0xFFFFFF), (0x07F, 0x361153), (0x100, 0x09640A), (0x101, 1), (0x17E, 0xFFFFFF), (0x17F, 0x89DEA4)]

end Sys2Proof.Machine
end

