-- ==== Sys2Proof/Machine/Code.lean ====
section
/-! DEFINITION. What travels on a lane below its commands and frames (05_gate_lanes.md): the 8b/10b code groups (R136), the assembler of
the receivers (R137), the 48-bit edge command (R138), the frame (R145), and the slots of the upstream direction (R146). -/

namespace Sys2Proof.Machine

/-! ### Characters and code groups (R136) -/

/-- The special code groups of R136. -/
inductive Special where
  | comma | kill | mark | sof | eof | abort
  deriving DecidableEq, Repr

/-- A character on a lane. -/
inductive LChar where
  | data (b : Byte)
  | special (k : Special)
  deriving DecidableEq, Repr

/-- The six-bit halves abcdei at negative running disparity of D0 to D31 (IEEE 802.3 Clause 36, which R136 cites; PRESUMED, log entry 63). -/
def sixTable : List Nat :=
  [0b100111, 0b011101, 0b101101, 0b110001, 0b110101, 0b101001, 0b011001, 0b111000,
   0b111001, 0b100101, 0b010101, 0b110100, 0b001101, 0b101100, 0b011100, 0b010111]
  ++ [0b011011, 0b100011, 0b010011, 0b110010, 0b001011, 0b101010, 0b011010, 0b111010,
      0b110011, 0b100110, 0b010110, 0b110110, 0b001110, 0b101110, 0b011110, 0b101011]

/-- The four-bit halves fghj at negative running disparity of y = 0 to 7, the last in its primary form. -/
def fourTable : List Nat := [0b1011, 0b1001, 0b0101, 0b1100, 0b1101, 0b1010, 0b0110, 0b1110]

/-- The number of ones among the low `n` bits. -/
def onesOf : Nat → Nat → Nat
  | 0, _ => 0
  | n + 1, v => v % 2 + onesOf n (v / 2)

/-- The running disparity after `n` bits: positive after more ones, negative after more zeros, kept where they balance. -/
def rdAfter (n : Nat) (rd : Bool) (v : Nat) : Bool :=
  if n < 2 * onesOf n v then true else if 2 * onesOf n v < n then false else rd

/-- A half at positive running disparity: the complement of one that does not balance, and of D.7 and D.x.3, whose two balanced forms
alternate. -/
def halfAt (n : Nat) (alternate rd : Bool) (v : Nat) : Nat := if rd && (alternate || onesOf n v * 2 != n) then 2 ^ n - 1 - v else v

/-- The code group of a data character. The alternate form of y = 7 follows x = 17, 18, 20 at negative and x = 11, 13, 14 at positive
disparity, so that no five equal bits meet. -/
def dataGroup (rd : Bool) (b : Byte) : BitVec 10 :=
  let x := b.toNat % 32
  let y := b.toNat / 32
  let six := halfAt 6 (x == 7) rd (sixTable.getD x 0)
  let mid := rdAfter 6 rd six
  let a7 := y == 7 && (if mid then x == 11 || x == 13 || x == 14 else x == 17 || x == 18 || x == 20)
  let four := halfAt 4 (y == 3) mid (if a7 then 0b0111 else fourTable.getD y 0)
  BitVec.ofNat 10 (16 * six + four)

/-- The code group of a special character at negative running disparity: K28.5, K28.1, K28.7, K27.7, K29.7 and K28.3. -/
def Special.group : Special → Nat
  | .comma => 0b0011111010 | .kill => 0b0011111001 | .mark => 0b0011111000
  | .sof => 0b1101101000 | .eof => 0b1011101000 | .abort => 0b0011110011

/-- The code group of a character, bit a first. -/
def LChar.group (rd : Bool) : LChar → BitVec 10
  | .data b => dataGroup rd b
  | .special k => BitVec.ofNat 10 (if rd then 1023 - k.group else k.group)

/-- The code groups of a run of characters, and the running disparity after them. -/
def sendChars (rd : Bool) : List LChar → List (BitVec 10) × Bool
  | [] => ([], rd)
  | c :: r =>
    let g := c.group rd
    let q := sendChars (rdAfter 10 rd g.toNat) r
    (g :: q.1, q.2)

/-- Characters leave a transmitter (R137): a K28.5 goes before a command or frame that would else make more than 127 characters without one.
Their code groups, the running disparity after them and the characters since the last K28.5. -/
def putChars (rd : Bool) (sinceK : Nat) (cs : List LChar) : List (BitVec 10) × Bool × Nat :=
  let due := decide (127 < sinceK + cs.length)
  let q := sendChars rd (if due then .special .comma :: cs else cs)
  (q.1, q.2, if cs = [LChar.special .comma] then 0 else if due then cs.length else sinceK + cs.length)

/-- The character that a received code group stands for at a running disparity; none for a code error (R136): a violation, a disparity error
or a special code group that is not listed. -/
def readGroup (rd : Bool) (g : BitVec 10) : Option LChar :=
  let specials := [Special.comma, .kill, .mark, .sof, .eof, .abort].map LChar.special
  let datas := (List.range 256).map (fun n => LChar.data (BitVec.ofNat 8 n))
  (specials ++ datas).find? (fun c => c.group rd == g)

/-! ### The edge command (R138) -/

/-- The 48-bit edge command from its fields. -/
def edgeWord (op : BitVec 4) (side : BitVec 2) (prof : BitVec 4) (seq : BitVec 6) (t : EdgeTime) : BitVec 48 :=
  op ++ side ++ prof ++ seq ++ t

/-- The fields of an edge command: OP, SIDE, PROF, SEQ and T. -/
def edgeFields (w : BitVec 48) : BitVec 4 × BitVec 2 × BitVec 4 × BitVec 6 × EdgeTime :=
  (w.extractLsb' 44 4, w.extractLsb' 42 2, w.extractLsb' 38 4, w.extractLsb' 32 6, w.extractLsb' 0 32)

/-- Its six characters: two 24-bit words, each as three characters, the first with bits [47:40]. -/
def edgeChars (w : BitVec 48) : List LChar := (beBytes w.toNat 6).map .data

/-! ### Frames (R145) -/

/-- The bytes that the CRC of a frame covers: TYPE, LEN and payload. -/
def frameBody (ty : Nat) (payload : List Byte) : List Byte := BitVec.ofNat 8 ty :: BitVec.ofNat 8 payload.length :: payload

/-- The CRC of a frame. -/
def frameCrc (ty : Nat) (payload : List Byte) : BitVec 16 := crc16 (frameBody ty payload)

/-- A length that a frame may have: 0 to 24, a multiple of 3. -/
def lenOk (n : Nat) : Bool := decide (n ≤ 24) && n % 3 == 0

/-- A received frame is taken: its length and its CRC are right. -/
def frameOk (ty : Nat) (payload : List Byte) (fcs : BitVec 16) : Bool := lenOk payload.length && fcs == frameCrc ty payload

/-- The payload of words, [23:16] of each first. -/
def payloadOf (ws : List Word) : List Byte := ws.flatMap (fun w => beBytes w.toNat 3)

/-- The characters of a frame. -/
def frameChars (ty : Nat) (payload : List Byte) : List LChar :=
  .special .sof :: (frameBody ty payload ++ beBytes (frameCrc ty payload).toNat 2).map .data ++ [.special .eof]

/-! ### The assembler of a receiver (R137) -/

/-- What the receiver holds: the characters of a partly received command, those of a frame in progress, and whether a code error lies
in them. -/
structure Asm where
  part : List Byte
  frame : Option (List Byte)
  spoiled : Bool
  deriving DecidableEq, Repr

/-- Nothing received. -/
def Asm.empty : Asm := ⟨[], none, false⟩

/-- What a character completes. -/
inductive Asmd where
  | none
  | command (w : BitVec 48)
  | frame (ty : Byte) (payload : List Byte)
  | discarded
  | mark | kill
  deriving DecidableEq, Repr

/-- A number from bytes, most significant first. -/
def natOfBytes (l : List Byte) : Nat := l.foldl (fun a b => 256 * a + b.toNat) 0

/-- A frame ends with its EOF (R145): TYPE, LEN, the payload, and a CRC that must be right. -/
def endFrame (spoiled : Bool) (l : List Byte) : Asmd :=
  match l with
  | ty :: len :: r =>
    let p := r.take len.toNat
    if !spoiled && r.length == len.toNat + 2 && frameOk ty.toNat p (BitVec.ofNat 16 (natOfBytes (r.drop len.toNat))) then .frame ty p
    else .discarded
  | _ => .discarded

/-- A special code group discards a partly received command, and a frame in progress unless it is its EOF. -/
def Asm.special (a : Asm) (k : Special) : Asm × Asmd :=
  match k, a.frame with
  | .eof, some l => (Asm.empty, endFrame a.spoiled l)
  | .sof, _ => ({ Asm.empty with frame := some [] }, if a.part.isEmpty && a.frame.isNone then .none else .discarded)
  | .mark, _ => (Asm.empty, .mark)
  | .kill, _ => (Asm.empty, .kill)
  | _, _ => (Asm.empty, if a.part.isEmpty && a.frame.isNone then .none else .discarded)

/-- One received character: none is a code error, which spoils the command or frame it lies in; `transparent` says that the character is the
alignment comma of R146. Six data characters outside a frame are one command. -/
def Asm.take (a : Asm) (transparent : Bool) (c : Option LChar) : Asm × Asmd :=
  match c with
  | some (.special k) => if transparent && k == .comma then (a, .none) else a.special k
  | some (.data b) =>
    match a.frame with
    | some l => ({ a with frame := some (l ++ [b]) }, .none)
    | none =>
      let p := a.part ++ [b]
      if p.length = 6 then (Asm.empty, if a.spoiled then .discarded else .command (BitVec.ofNat 48 (natOfBytes p)))
      else ({ a with part := p }, .none)
  | none =>
    match a.frame with
    | some l => ({ a with frame := some (l ++ [0]), spoiled := true }, .none)
    | none =>
      let p := a.part ++ [0]
      if p.length = 6 then (Asm.empty, .discarded) else ({ a with part := p, spoiled := true }, .none)

/-! ### The slots of the upstream direction (R146) -/

/-- What a slot of an external lane's superframe carries. -/
inductive UpSlot where
  | sigmaDelta | alignment | payload
  deriving DecidableEq, Repr

/-- Slot `i` of superframe `n`, each of 16 characters: slot 0 is sigma-delta on G2 and G3, slot 1 of every fourth superframe the alignment
comma. On a link lane slot 0 is payload (R161). -/
def upSlot (link : Bool) (gen n i : Nat) : UpSlot :=
  if i = 0 then (if 2 ≤ gen && !link then .sigmaDelta else .payload) else if i = 1 ∧ n % 4 = 0 then .alignment else .payload

/-- A slot in which a satellite may send K28.7: a payload slot other than slot 15 (R150). -/
def markSlot (link : Bool) (gen n i : Nat) : Bool := upSlot link gen n i == .payload && i != 15

/-- The receiver is misaligned (R146): of the expected alignment commas, newest first, the last two are missing. -/
def misaligned : List Bool → Bool
  | false :: false :: _ => true
  | _ => false

/-- What a receiver of the device holds of a lane's upstream direction: the running disparity, the assembler of the characters that come one by one,
the slot of the next character in the four superframes from one alignment comma to the next (16 times the superframe and the slot), of the
expected alignment commas the last two, newest first, and when the last K28.7 arrived (R137, R146, R150). -/
structure Rx where
  rd : Bool
  asm : Asm
  slot : Nat
  commas : List Bool
  markAt : EdgeTime
  deriving DecidableEq, Repr

/-- A receiver that has received nothing. -/
def Rx.reset : Rx := ⟨false, Asm.empty, 0, [], 0⟩

/-- The slot of the next character. -/
def Rx.kind (x : Rx) (link : Bool) (gen : Nat) : UpSlot := upSlot link gen (x.slot / 16) (x.slot % 16)

/-- A slot that is no payload passes: frames skip it (R146). -/
def Rx.skip (link : Bool) (gen : Nat) (x : Rx) : Rx :=
  match x.kind link gen with
  | .payload => x
  | .sigmaDelta => { x with slot := (x.slot + 1) % 64 }
  | .alignment => { x with slot := (x.slot + 1) % 64, commas := true :: x.commas.take 1, rd := rdAfter 10 x.rd ((LChar.special .comma).group x.rd).toNat }

/-- A run of characters arrives undisturbed in the payload slots. -/
def Rx.chars (link : Bool) (gen : Nat) : Rx → List LChar → Rx
  | x, [] => x
  | x, c :: r =>
    let y := ((x.skip link gen).skip link gen)
    Rx.chars link gen { y with rd := rdAfter 10 y.rd (c.group y.rd).toNat, slot := (y.slot + 1) % 64 } r

/-- The first of the characters from number `k` on, of superframes of 16 characters, at which K28.7 may leave (R150). -/
def nextMark : Nat → Nat → Nat
  | 0, k => k
  | n + 1, k => if markSlot true 3 (k / 16) (k % 16) then k else nextMark n (k + 1)

/-! ### The PRBS-7 sequence of TEST frames -/

/-- The sequence x^7 + x^6 + 1 from a register of ones, oldest bit first. PRESUMED (log entry 12). -/
def prbsRun : Nat → List Bool → List Bool
  | 0, _ => []
  | n + 1, r => let b := xor (r.getD 6 false) (r.getD 5 false); b :: prbsRun n (b :: r.take 6)

/-- One period of the sequence. -/
def prbsSeq : List Bool := prbsRun 127 (List.replicate 7 true)

/-- A byte from its bits, bit a (the least significant) first (R136). -/
def byteOfBits (l : List Bool) : Byte := BitVec.ofNat 8 (l.foldr (fun b n => 2 * n + (if b then 1 else 0)) 0)

/-- The payload of the k-th TEST frame: 24 characters, continued from frame to frame (R145). -/
def testPayload (k : Nat) : List Byte :=
  (List.range 24).map (fun j => byteOfBits ((List.range 8).map (fun i => prbsSeq.getD ((192 * k + 8 * j + i) % 127) false)))

/-- Bytes as words, three to a word. -/
def wordsOf : List Byte → List Word
  | a :: b :: c :: r => (a ++ b ++ c : BitVec 24) :: wordsOf r
  | _ => []

end Sys2Proof.Machine
end

