-- ==== Sys2Proof/Machine/Entries.lean ====
section
/-! DEFINITION. The entry tables of the object dictionary (R263, R290 and the entry tables of every chapter):
one row for each listed entry, with the range its own Meaning states (R399) and the stage its access
follows (R232). A row of several ENTRY numbers or several elements stands once. -/

namespace Sys2Proof.Machine

/-- The value types of R399. -/
inductive EntType where
  | bool | u8 | s8 | u16 | s16 | u24 | s24 | q23 | u48 | s48 | t48 | enum | key | str | blob
  deriving DecidableEq, Repr

/-- The access column of an entry table. -/
inductive Access where
  | ro | rw | rwi | wo
  deriving DecidableEq, Repr

/-- What a RWI entry follows (R232 and the paragraph of each chapter that says it). -/
inductive Follow where
  | none | stage | task | gen | cluster | lane | hb | qe | seq | lg | cw | ntc | tmDest | tmSrc | tmInv
  deriving DecidableEq, Repr

/-- One row of an entry table: `cnt` ENTRY numbers from `ent0` on, `stride` apart, each with elements
0 to `n - 1`. The default is its raw bits. Accepted values: `lo` to `hi` in steps of `step`, and `extra`. -/
structure EntRow where
  area : Nat
  ent0 : Nat
  cnt : Nat
  stride : Nat
  n : Nat
  ty : EntType
  acc : Access
  dflt : Nat
  kept : Bool
  level : Nat
  lo : Int
  hi : Int
  extra : Option Int
  step : Nat
  fol : Follow
  deriving DecidableEq, Repr

/-- Identity and protocol (R424). -/
def entries0 : List EntRow := [
  ⟨0x0, 0x000, 1, 1, 1, .u24, .ro, 615434, false, 0, 0, 16777215, none, 1, .none⟩,  -- PART_CODE
  ⟨0x0, 0x001, 1, 1, 1, .u24, .ro, 0, false, 0, 0, 16777215, none, 1, .none⟩,  -- SILICON_REV
  ⟨0x0, 0x002, 1, 1, 1, .u48, .ro, 0, false, 0, 0, 281474976710655, none, 1, .none⟩,  -- SERIAL
  ⟨0x0, 0x003, 1, 1, 1, .u24, .ro, 0, false, 0, 0, 16777215, none, 1, .none⟩,  -- ROM_VER
  ⟨0x0, 0x004, 1, 1, 1, .u24, .ro, 0, false, 0, 0, 16777215, none, 1, .none⟩,  -- FW_VER
  ⟨0x0, 0x010, 1, 1, 1, .u16, .ro, 516, false, 0, 0, 65535, none, 1, .none⟩,  -- PROTO_MAX
  ⟨0x0, 0x011, 1, 1, 1, .u16, .ro, 258, false, 0, 0, 65535, none, 1, .none⟩,  -- PROTO_MIN
  ⟨0x0, 0x012, 1, 1, 2, .u16, .ro, 0, false, 0, 0, 65535, none, 1, .none⟩,  -- SESSION_VER
  ⟨0x0, 0x013, 1, 1, 2, .enum, .ro, 0, false, 0, 0, 255, none, 1, .none⟩,  -- SESSION_LEVEL
  ⟨0x0, 0x014, 1, 1, 2, .u16, .ro, 0, false, 0, 0, 65535, none, 1, .none⟩,  -- TAG_DISCARD_CNT
  ⟨0x0, 0x015, 1, 1, 2, .u16, .ro, 0, false, 0, 0, 65535, none, 1, .none⟩,  -- SEG_ABORT_CNT
  ⟨0x0, 0x016, 1, 1, 2, .u16, .ro, 0, false, 0, 0, 65535, none, 1, .none⟩,  -- AUTH_FAIL_CNT
  ⟨0x0, 0x020, 1, 1, 1, .u16, .rw, 600, true, 0, 60, 3600, none, 1, .none⟩,  -- SERVICE_TIMEOUT
  ⟨0x0, 0x021, 1, 1, 1, .bool, .rw, 1, true, 0, 0, 1, none, 1, .none⟩,  -- LOCAL_ENABLE
  ⟨0x0, 0x022, 1, 1, 1, .u16, .ro, 0, false, 0, 0, 65535, none, 1, .none⟩,  -- LOCAL_CRC_ERR
  ⟨0x0, 0x023, 1, 1, 1, .bool, .rw, 1, true, 0, 0, 1, none, 1, .none⟩]  -- LOCAL_NOTIFY

/-- Device (R376). -/
def entries1 : List EntRow := [
  ⟨0x1, 0x000, 1, 1, 1, .enum, .ro, 0, false, 0, 0, 255, none, 1, .none⟩,  -- DEV_STATE
  ⟨0x1, 0x001, 1, 1, 1, .u8, .ro, 0, false, 0, 0, 255, none, 1, .none⟩,  -- DEV_FLAGS
  ⟨0x1, 0x010, 1, 1, 1, .enum, .wo, 0, false, 0, 0, 6, none, 1, .none⟩,  -- DEV_CMD
  ⟨0x1, 0x011, 1, 1, 1, .enum, .ro, 1, false, 0, 0, 255, none, 1, .none⟩,  -- RESET_CAUSE
  ⟨0x1, 0x013, 1, 1, 1, .enum, .ro, 0, false, 0, 0, 255, none, 1, .none⟩,  -- WAKE_SOURCE
  ⟨0x1, 0x014, 1, 1, 1, .enum, .ro, 0, false, 0, 0, 255, none, 1, .none⟩,  -- BOOT_FAIL_REASON
  ⟨0x1, 0x015, 1, 1, 1, .u24, .ro, 0, false, 0, 0, 16777215, none, 1, .none⟩,  -- BOOT_TIME
  ⟨0x1, 0x020, 1, 1, 1, .u8, .ro, 0, false, 0, 0, 255, none, 1, .none⟩,  -- START_COUNT
  ⟨0x1, 0x022, 1, 1, 3, .u48, .ro, 0, false, 0, 0, 281474976710655, none, 1, .none⟩,  -- START_FAIL
  ⟨0x1, 0x030, 1, 1, 1, .enum, .wo, 0, false, 1, 0, 1, none, 1, .none⟩,  -- NVM_RECOVER
  ⟨0x1, 0x040, 1, 1, 1, .u24, .rw, 0, true, 0, 0, 16777215, none, 1, .none⟩,  -- WAKE_TIMER
  ⟨0x1, 0x041, 1, 1, 1, .bool, .rw, 1, true, 0, 0, 1, none, 1, .none⟩]  -- WAKE_LOCAL

/-- Referee, tasks and jobs (R71, R75, R81, R91, R100). -/
def entries2part0 : List EntRow := [
  ⟨0x2, 0x000, 1, 1, 1, .u8, .ro, 96, false, 0, 0, 255, none, 1, .none⟩,  -- TASK_MAX
  ⟨0x2, 0x001, 1, 1, 1, .u8, .ro, 0, false, 0, 0, 255, none, 1, .none⟩,  -- TASKS_DECLARED
  ⟨0x2, 0x002, 1, 1, 1, .enum, .ro, 0, false, 0, 0, 255, none, 1, .none⟩,  -- REFEREE_STATE
  ⟨0x2, 0x010, 1, 1, 96, .u24, .rwi, 0, true, 0, 0, 16777215, none, 1, .task⟩,  -- TASK_KERNEL
  ⟨0x2, 0x011, 1, 1, 96, .enum, .rwi, 3, true, 0, 0, 3, none, 1, .task⟩,  -- TASK_CLASS
  ⟨0x2, 0x012, 1, 1, 96, .u8, .rwi, 255, true, 0, 0, 11, (some 255), 1, .task⟩,  -- TASK_STAGE
  ⟨0x2, 0x013, 1, 1, 96, .u8, .rwi, 0, true, 0, 0, 255, none, 1, .task⟩,  -- TASK_PSRC
  ⟨0x2, 0x014, 1, 1, 96, .u8, .rwi, 1, true, 0, 1, 64, none, 1, .task⟩,  -- TASK_DIV
  ⟨0x2, 0x015, 1, 1, 96, .u24, .rwi, 0, true, 0, 0, 16777215, none, 1, .task⟩,  -- TASK_PHASE
  ⟨0x2, 0x016, 1, 1, 96, .u24, .rwi, 0, true, 0, 0, 16777215, none, 1, .task⟩,  -- TASK_DEADLINE
  ⟨0x2, 0x017, 1, 1, 96, .u24, .rwi, 0, true, 0, 0, 16777215, none, 1, .task⟩,  -- TASK_BUDGET
  ⟨0x2, 0x018, 1, 1, 96, .u8, .rwi, 8, true, 0, 0, 15, none, 1, .task⟩,  -- TASK_RANK
  ⟨0x2, 0x019, 1, 1, 96, .enum, .rwi, 0, true, 0, 0, 2, none, 1, .task⟩,  -- TASK_STATE_PREF
  ⟨0x2, 0x01A, 1, 1, 96, .u16, .rwi, 65535, true, 0, 0, 65535, none, 1, .task⟩,  -- TASK_AFFINITY
  ⟨0x2, 0x01B, 1, 1, 96, .u16, .rwi, 0, true, 0, 0, 65535, none, 1, .task⟩,  -- TASK_SEV
  ⟨0x2, 0x020, 4, 1, 96, .u16, .rwi, 0, true, 0, 0, 65535, none, 1, .task⟩,  -- TASK_IN0 to TASK_IN3
  ⟨0x2, 0x024, 8, 1, 96, .u24, .rwi, 0, true, 0, 0, 16777215, none, 1, .task⟩,  -- TASK_BIND0 to TASK_BIND7
  ⟨0x2, 0x030, 1, 1, 96, .enum, .wo, 0, false, 0, 0, 1, none, 1, .none⟩,  -- TASK_CMD
  ⟨0x2, 0x031, 1, 1, 96, .enum, .ro, 0, false, 0, 0, 255, none, 1, .none⟩,  -- TASK_STATUS
  ⟨0x2, 0x032, 1, 1, 96, .enum, .ro, 0, false, 0, 0, 255, none, 1, .none⟩,  -- TASK_REFUSE
  ⟨0x2, 0x033, 1, 1, 96, .u24, .ro, 0, false, 0, 0, 16777215, none, 1, .none⟩,  -- TASK_STATE_AT
  ⟨0x2, 0x034, 1, 1, 96, .u8, .ro, 255, false, 0, 0, 255, none, 1, .none⟩,  -- TASK_ENGINE
  ⟨0x2, 0x035, 1, 1, 96, .u24, .ro, 0, false, 0, 0, 16777215, none, 1, .none⟩,  -- TASK_CYC_MAX
  ⟨0x2, 0x036, 1, 1, 96, .u16, .ro, 0, false, 0, 0, 65535, none, 1, .none⟩,  -- TASK_MIGRATIONS
  ⟨0x2, 0x037, 1, 1, 96, .u16, .ro, 0, false, 0, 0, 65535, none, 1, .none⟩,  -- TASK_SHED_CNT
  ⟨0x2, 0x040, 1, 1, 4, .u16, .ro, 0, false, 0, 0, 65535, none, 1, .none⟩,  -- QUAD_STEP
  ⟨0x2, 0x041, 1, 1, 4, .u16, .rw, 400, true, 0, 100, 400, none, 100, .none⟩,  -- QUAD_FMAX
  ⟨0x2, 0x042, 1, 1, 4, .u16, .rw, 100, true, 0, 100, 400, none, 100, .none⟩,  -- QUAD_FMIN
  ⟨0x2, 0x043, 1, 1, 4, .s16, .ro, 0, false, 0, (-32768), 32767, none, 1, .none⟩,  -- QUAD_TEMP
  ⟨0x2, 0x044, 1, 1, 4, .u16, .ro, 0, false, 0, 0, 65535, none, 1, .none⟩,  -- QUAD_PEST
  ⟨0x2, 0x045, 1, 1, 4, .u8, .ro, 0, false, 0, 0, 255, none, 1, .none⟩,  -- QUAD_DENSITY
  ⟨0x2, 0x050, 1, 1, 1, .u16, .rw, 6000, true, 0, 3000, 7500, none, 1, .none⟩,  -- POWER_BUDGET
  ⟨0x2, 0x051, 1, 1, 1, .u16, .rw, 300, true, 0, 100, 1000, none, 1, .none⟩,  -- POWER_HYST
  ⟨0x2, 0x052, 1, 1, 1, .u16, .ro, 0, false, 0, 0, 65535, none, 1, .none⟩,  -- POWER_EST
  ⟨0x2, 0x053, 1, 1, 1, .u8, .rw, 50, true, 0, 0, 255, none, 1, .none⟩,  -- KGD
  ⟨0x2, 0x054, 1, 1, 1, .u8, .rw, 85, true, 0, 50, 95, none, 1, .none⟩,  -- DENSITY_MAX
  ⟨0x2, 0x060, 1, 1, 16, .u24, .rw, 0, true, 0, 10, 1000000, (some 0), 1, .none⟩,  -- FT_PERIOD
  ⟨0x2, 0x070, 1, 1, 12, .bool, .rwi, 0, true, 0, 0, 1, none, 1, .stage⟩,  -- DR_ENABLE
  ⟨0x2, 0x071, 1, 1, 12, .u8, .rwi, 255, true, 0, 0, 255, none, 1, .stage⟩,  -- DR_TASK
  ⟨0x2, 0x072, 1, 1, 12, .u16, .rwi, 0, true, 0, 0, 65535, none, 1, .stage⟩]  -- DR_OFS

/-- Referee, tasks and jobs (R71, R75, R81, R91, R100), continued. -/
def entries2part1 : List EntRow := [
  ⟨0x2, 0x073, 1, 1, 12, .s16, .rwi, 2000, true, 0, (-32768), 32767, none, 1, .stage⟩,  -- DR_TJ_START
  ⟨0x2, 0x074, 1, 1, 12, .s16, .rwi, 2400, true, 0, (-32768), 32767, none, 1, .stage⟩,  -- DR_TJ_LIMIT
  ⟨0x2, 0x075, 1, 1, 12, .s16, .rwi, 2640, true, 0, (-32768), 32767, none, 1, .stage⟩,  -- DR_TJ_TRIP
  ⟨0x2, 0x076, 1, 1, 12, .u8, .rwi, 4, true, 0, 1, 8, none, 1, .stage⟩,  -- DR_FSW_MIN
  ⟨0x2, 0x077, 1, 1, 12, .u8, .rwi, 50, true, 0, 25, 100, none, 1, .stage⟩,  -- DR_ILIM_MIN
  ⟨0x2, 0x078, 1, 1, 12, .u8, .ro, 8, false, 0, 0, 255, none, 1, .none⟩,  -- DR_FSW_NOW
  ⟨0x2, 0x079, 1, 1, 12, .u8, .ro, 100, false, 0, 0, 255, none, 1, .none⟩,  -- DR_ILIM_NOW
  ⟨0x2, 0x07A, 1, 1, 12, .s16, .ro, 0, false, 0, (-32768), 32767, none, 1, .none⟩,  -- DR_TJ_EST
  ⟨0x2, 0x090, 1, 1, 64, .enum, .ro, 0, false, 0, 0, 255, none, 1, .none⟩,  -- JOB_STATE
  ⟨0x2, 0x091, 1, 1, 64, .key, .ro, 0, false, 0, 0, 16777215, none, 1, .none⟩,  -- JOB_KEY
  ⟨0x2, 0x092, 1, 1, 64, .u8, .ro, 0, false, 0, 0, 255, none, 1, .none⟩,  -- JOB_PROGRESS
  ⟨0x2, 0x093, 1, 1, 64, .u24, .ro, 0, false, 0, 0, 16777215, none, 1, .none⟩,  -- JOB_RESULT
  ⟨0x2, 0x094, 1, 1, 64, .u24, .ro, 0, false, 0, 0, 16777215, none, 1, .none⟩,  -- JOB_AGE
  ⟨0x2, 0x095, 1, 1, 64, .u8, .ro, 255, false, 0, 0, 255, none, 1, .none⟩,  -- JOB_LOCK
  ⟨0x2, 0x096, 1, 1, 64, .bool, .wo, 0, false, 0, 0, 1, none, 1, .none⟩]  -- JOB_CANCEL

/-- Referee, tasks and jobs (R71, R75, R81, R91, R100), whole. -/
def entries2 : List EntRow := entries2part0 ++ entries2part1

/-- Engines (R69). -/
def entries3 : List EntRow := [
  ⟨0x3, 0x000, 1, 1, 1, .u8, .ro, 16, false, 0, 0, 255, none, 1, .none⟩,  -- ENGINE_COUNT
  ⟨0x3, 0x001, 1, 1, 1, .u16, .ro, 256, false, 0, 0, 65535, none, 1, .none⟩,  -- ISA_VERSION
  ⟨0x3, 0x010, 1, 1, 16, .enum, .ro, 0, false, 0, 0, 255, none, 1, .none⟩,  -- ENG_STATE
  ⟨0x3, 0x011, 1, 1, 16, .u8, .ro, 0, false, 0, 0, 255, none, 1, .none⟩,  -- ENG_TASKS
  ⟨0x3, 0x012, 1, 1, 16, .u8, .ro, 0, false, 0, 0, 255, none, 1, .none⟩,  -- ENG_BUSY
  ⟨0x3, 0x013, 1, 1, 16, .u16, .ro, 0, false, 0, 0, 65535, none, 1, .none⟩,  -- ENG_FAULT_CNT
  ⟨0x3, 0x014, 1, 1, 16, .enum, .ro, 0, false, 0, 0, 255, none, 1, .none⟩,  -- ENG_LAST_FAULT
  ⟨0x3, 0x015, 1, 1, 16, .u16, .ro, 0, false, 0, 0, 65535, none, 1, .none⟩,  -- ENG_ECC_CNT
  ⟨0x3, 0x016, 1, 1, 16, .u16, .ro, 0, false, 0, 0, 65535, none, 1, .none⟩,  -- ENG_SUB_OVR
  ⟨0x3, 0x020, 1, 1, 1, .u24, .ro, 0, false, 0, 0, 16777215, none, 1, .none⟩,  -- KSTORE_FREE
  ⟨0x3, 0x021, 1, 1, 64, .u24, .ro, 0, false, 0, 0, 16777215, none, 1, .none⟩,  -- KIMG_ID
  ⟨0x3, 0x022, 1, 1, 64, .u24, .ro, 0, false, 0, 0, 16777215, none, 1, .none⟩,  -- KIMG_VER
  ⟨0x3, 0x023, 1, 1, 64, .enum, .ro, 0, false, 0, 0, 255, none, 1, .none⟩,  -- KIMG_STATUS
  ⟨0x3, 0x030, 1, 1, 1, .blob, .wo, 0, false, 1, 0, 0, none, 1, .none⟩,  -- KIMG_LOAD
  ⟨0x3, 0x031, 1, 1, 1, .u24, .wo, 0, false, 1, 0, 16777215, none, 1, .none⟩,  -- KIMG_DELETE
  ⟨0x3, 0x032, 1, 1, 1, .enum, .ro, 0, false, 0, 0, 255, none, 1, .none⟩]  -- KEY_MODE

/-- PWM (R134). -/
def entries4 : List EntRow := [
  ⟨0x4, 0x000, 1, 1, 1, .t48, .ro, 0, false, 0, 0, 281474976710655, none, 1, .none⟩,  -- TB_TIME
  ⟨0x4, 0x001, 1, 1, 1, .enum, .ro, 0, false, 0, 0, 255, none, 1, .none⟩,  -- RALLY_STATE
  ⟨0x4, 0x002, 1, 1, 1, .u16, .ro, 0, false, 0, 0, 65535, none, 1, .none⟩,  -- RALLY_FAIL_CNT
  ⟨0x4, 0x003, 1, 1, 1, .u16, .ro, 0, false, 0, 0, 65535, none, 1, .none⟩,  -- RALLY_AGE_MAX
  ⟨0x4, 0x010, 1, 1, 48, .u24, .rwi, 16777215, true, 0, 0, 16777215, none, 1, .gen⟩,  -- CMPA_INIT
  ⟨0x4, 0x011, 1, 1, 48, .u24, .rwi, 16777215, true, 0, 0, 16777215, none, 1, .gen⟩,  -- CMPB_INIT
  ⟨0x4, 0x012, 1, 1, 48, .u16, .rwi, 3200, true, 0, 0, 65535, none, 1, .gen⟩,  -- DTR
  ⟨0x4, 0x013, 1, 1, 48, .u16, .rwi, 3200, true, 0, 0, 65535, none, 1, .gen⟩,  -- DTF
  ⟨0x4, 0x014, 1, 1, 48, .u16, .rwi, 0, true, 0, 0, 8191, none, 1, .gen⟩,  -- MINP
  ⟨0x4, 0x015, 1, 1, 48, .enum, .rwi, 0, true, 0, 0, 1, none, 1, .gen⟩,  -- MINP_MODE
  ⟨0x4, 0x016, 1, 1, 48, .u24, .rwi, 16777215, true, 0, 0, 16777215, none, 1, .gen⟩,  -- CMPC_INIT
  ⟨0x4, 0x017, 1, 1, 48, .u24, .rwi, 16777215, true, 0, 0, 16777215, none, 1, .gen⟩,  -- CMPD_INIT
  ⟨0x4, 0x018, 1, 1, 48, .u16, .rwi, 0, true, 0, 0, 65535, none, 1, .gen⟩,  -- PROF_INIT
  ⟨0x4, 0x019, 1, 1, 48, .bool, .rwi, 1, true, 0, 0, 1, none, 1, .gen⟩,  -- REF_EN
  ⟨0x4, 0x01A, 1, 1, 48, .u16, .rwi, 2560, true, 0, 0, 65535, none, 1, .gen⟩,  -- REFW
  ⟨0x4, 0x01B, 1, 1, 48, .u8, .rwi, 16, true, 0, 1, 255, none, 1, .gen⟩,  -- REFN
  ⟨0x4, 0x01C, 1, 1, 48, .u8, .rwi, 0, true, 0, 0, 255, none, 1, .gen⟩,  -- PWMO_POL
  ⟨0x4, 0x020, 1, 1, 48, .u24, .ro, 0, false, 0, 0, 16777215, none, 1, .none⟩,  -- GEN_STATUS
  ⟨0x4, 0x021, 1, 1, 48, .u16, .ro, 0, false, 0, 0, 65535, none, 1, .none⟩,  -- MINP_CNT
  ⟨0x4, 0x022, 1, 1, 48, .u16, .ro, 0, false, 0, 0, 65535, none, 1, .none⟩,  -- REFRESH_CNT
  ⟨0x4, 0x023, 1, 1, 48, .u16, .ro, 0, false, 0, 0, 65535, none, 1, .none⟩,  -- FLOOR_CNT
  ⟨0x4, 0x030, 1, 1, 12, .u24, .rwi, 20000, true, 0, 0, 16777215, none, 1, .cluster⟩,  -- PERIOD
  ⟨0x4, 0x031, 1, 1, 12, .u8, .rwi, 255, true, 0, 0, 11, (some 255), 1, .cluster⟩,  -- SYNC
  ⟨0x4, 0x032, 1, 1, 12, .u24, .rwi, 0, true, 0, 0, 16777215, none, 1, .cluster⟩,  -- PHASE
  ⟨0x4, 0x033, 1, 1, 12, .u24, .rwi, 0, true, 0, 0, 16777215, none, 1, .cluster⟩,  -- TRIP_CFG
  ⟨0x4, 0x034, 1, 1, 12, .u8, .rwi, 8, true, 0, 1, 255, none, 1, .cluster⟩,  -- TRIP_N
  ⟨0x4, 0x035, 1, 1, 12, .u16, .rwi, 100, true, 0, 0, 65535, none, 1, .cluster⟩,  -- TRIP_LEAK
  ⟨0x4, 0x036, 1, 1, 12, .u16, .rwi, 0, true, 0, 0, 4095, none, 1, .cluster⟩,  -- BT0_LEN
  ⟨0x4, 0x037, 1, 1, 12, .u16, .rwi, 0, true, 0, 0, 65535, none, 1, .cluster⟩,  -- BT0_START
  ⟨0x4, 0x038, 1, 1, 12, .u16, .rwi, 0, true, 0, 0, 4095, none, 1, .cluster⟩,  -- BT1_LEN
  ⟨0x4, 0x039, 1, 1, 12, .u16, .rwi, 0, true, 0, 0, 65535, none, 1, .cluster⟩,  -- BT1_START
  ⟨0x4, 0x040, 8, 1, 12, .u16, .rwi, 0, true, 0, 0, 65535, none, 1, .cluster⟩,  -- MASK_PAGE0 to MASK_PAGE7
  ⟨0x4, 0x050, 1, 1, 12, .enum, .ro, 0, false, 0, 0, 255, none, 1, .none⟩,  -- CL_STATE
  ⟨0x4, 0x051, 1, 1, 12, .u24, .ro, 0, false, 0, 0, 16777215, none, 1, .none⟩,  -- RELOAD_NUM
  ⟨0x4, 0x052, 1, 1, 12, .u8, .ro, 0, false, 0, 0, 255, none, 1, .none⟩,  -- TRIP_COUNT
  ⟨0x4, 0x053, 1, 1, 12, .u24, .ro, 0, false, 0, 0, 16777215, none, 1, .none⟩,  -- TRIP_PERIODS
  ⟨0x4, 0x054, 1, 1, 12, .u16, .ro, 0, false, 0, 0, 65535, none, 1, .none⟩,  -- LATE_CNT
  ⟨0x4, 0x055, 1, 1, 12, .u16, .ro, 0, false, 0, 0, 65535, none, 1, .none⟩,  -- SUPERSEDED
  ⟨0x4, 0x056, 1, 1, 12, .u16, .ro, 0, false, 0, 0, 65535, none, 1, .none⟩]  -- SET_REJECTS

/-- Lanes (R165). -/
def entries5 : List EntRow := [
  ⟨0x5, 0x000, 1, 1, 1, .u8, .ro, 32, false, 0, 0, 255, none, 1, .none⟩,  -- LANE_COUNT
  ⟨0x5, 0x001, 1, 1, 1, .enum, .ro, 2, false, 0, 0, 255, none, 1, .none⟩,  -- LANE_GEN_TOP
  ⟨0x5, 0x010, 1, 1, 32, .bool, .rw, 0, true, 0, 0, 1, none, 1, .none⟩,  -- LANE_ENABLE
  ⟨0x5, 0x011, 1, 1, 32, .enum, .rwi, 2, true, 0, 0, 2, none, 1, .lane⟩,  -- GEN_MAX
  ⟨0x5, 0x012, 1, 1, 32, .enum, .wo, 0, false, 0, 0, 1, none, 1, .none⟩,  -- LANE_CMD
  ⟨0x5, 0x013, 1, 1, 32, .enum, .ro, 0, false, 0, 0, 255, none, 1, .none⟩,  -- LANE_STATE
  ⟨0x5, 0x014, 1, 1, 32, .enum, .rwi, 0, true, 0, 0, 2, none, 1, .lane⟩,  -- GEN_MIN
  ⟨0x5, 0x015, 1, 1, 32, .enum, .ro, 0, false, 0, 0, 255, none, 1, .none⟩,  -- LANE_GEN
  ⟨0x5, 0x016, 1, 1, 32, .u24, .ro, 0, false, 0, 0, 16777215, none, 1, .none⟩,  -- SAT_ID
  ⟨0x5, 0x017, 1, 1, 32, .u48, .ro, 0, false, 0, 0, 281474976710655, none, 1, .none⟩,  -- SAT_SERIAL
  ⟨0x5, 0x018, 1, 1, 32, .enum, .ro, 3, false, 0, 0, 255, none, 1, .none⟩,  -- SAT_STATE
  ⟨0x5, 0x019, 1, 1, 32, .s24, .ro, 0, false, 0, (-8388608), 8388607, none, 1, .none⟩,  -- VOLLEY_RESID
  ⟨0x5, 0x01A, 1, 1, 32, .u24, .ro, 0, false, 0, 0, 16777215, none, 1, .none⟩,  -- PATH_DELAY
  ⟨0x5, 0x01B, 1, 1, 32, .u16, .rw, 1000, true, 0, 100, 10000, none, 1, .none⟩,  -- VOLLEY_PERIOD
  ⟨0x5, 0x01C, 1, 1, 32, .bool, .rw, 1, true, 0, 0, 1, none, 1, .none⟩,  -- RETRAIN_AUTO
  ⟨0x5, 0x01D, 1, 1, 32, .u16, .ro, 0, false, 0, 0, 65535, none, 1, .none⟩,  -- RETRAIN_CNT
  ⟨0x5, 0x020, 1, 1, 32, .enum, .ro, 0, false, 0, 0, 255, none, 1, .none⟩,  -- TRAIN_FAIL
  ⟨0x5, 0x021, 1, 1, 32, .u24, .ro, 0, false, 0, 0, 16777215, none, 1, .none⟩,  -- CODE_ERR_CNT
  ⟨0x5, 0x022, 1, 1, 32, .u24, .ro, 0, false, 0, 0, 16777215, none, 1, .none⟩,  -- CRC_ERR_CNT
  ⟨0x5, 0x023, 1, 1, 32, .u24, .ro, 0, false, 0, 0, 16777215, none, 1, .none⟩,  -- DROP_CNT
  ⟨0x5, 0x024, 1, 1, 32, .u16, .ro, 0, false, 0, 0, 65535, none, 1, .none⟩,  -- LATE_TX_CNT
  ⟨0x5, 0x025, 1, 1, 32, .u16, .ro, 0, false, 0, 0, 65535, none, 1, .none⟩,  -- KILL_CNT
  ⟨0x5, 0x026, 1, 1, 32, .u16, .ro, 0, false, 0, 0, 65535, none, 1, .none⟩,  -- ALARM_CNT
  ⟨0x5, 0x027, 1, 1, 32, .s16, .ro, 0, false, 0, (-32768), 32767, none, 1, .none⟩,  -- SAT_TEMP
  ⟨0x5, 0x028, 1, 1, 32, .u24, .ro, 0, false, 0, 0, 16777215, none, 1, .none⟩,  -- SAT_FLAGS
  ⟨0x5, 0x030, 1, 1, 32, .u8, .rwi, 0, true, 0, 0, 255, none, 1, .lane⟩,  -- TELE_ROUTE
  ⟨0x5, 0x031, 1, 1, 32, .bool, .rwi, 1, true, 0, 0, 1, none, 1, .lane⟩,  -- SD_ENABLE
  ⟨0x5, 0x040, 1, 1, 32, .u8, .rwi, 0, true, 0, 0, 64, none, 1, .lane⟩,  -- SAT_CFG_COUNT
  ⟨0x5, 0x041, 1, 1, 32, .u8, .wo, 0, false, 0, 0, 255, none, 1, .none⟩,  -- SAT_READ
  ⟨0x5, 0x042, 1, 1, 32, .u24, .ro, 0, false, 0, 0, 16777215, none, 1, .none⟩,  -- SAT_READ_VAL
  ⟨0x5, 0x080, 1, 1, 4, .enum, .ro, 0, false, 0, 0, 255, none, 1, .none⟩,  -- DLINK_STATE
  ⟨0x5, 0x081, 1, 1, 4, .u24, .ro, 0, false, 0, 0, 16777215, none, 1, .none⟩,  -- DLINK_ERR_CNT
  ⟨0x5, 0x082, 1, 1, 4, .u16, .ro, 0, false, 0, 0, 65535, none, 1, .none⟩,  -- DLINK_RETRAIN_CNT
  ⟨0x5, 0x083, 1, 1, 4, .s24, .ro, 0, false, 0, (-8388608), 8388607, none, 1, .none⟩,  -- DLINK_RESID
  ⟨0x5, 0x100, 16, 1, 32, .u48, .rwi, 0, true, 0, 0, 4294967295, none, 1, .lane⟩,  -- PROF_H
  ⟨0x5, 0x110, 16, 1, 32, .u48, .rwi, 0, true, 0, 0, 4294967295, none, 1, .lane⟩,  -- PROF_L
  ⟨0x5, 0x200, 64, 1, 32, .u24, .rwi, 0, true, 0, 0, 16777215, none, 1, .lane⟩]  -- SAT_CFG

/-- Integrated drivers (R182). -/
def entries6 : List EntRow := [
  ⟨0x6, 0x000, 1, 1, 1, .u8, .ro, 12, false, 0, 0, 255, none, 1, .none⟩,  -- HB_COUNT
  ⟨0x6, 0x001, 1, 1, 1, .enum, .ro, 0, false, 0, 0, 255, none, 1, .none⟩,  -- GVDD_STATE
  ⟨0x6, 0x002, 1, 1, 1, .u16, .ro, 0, false, 0, 0, 65535, none, 1, .none⟩,  -- GVDD_LOAD
  ⟨0x6, 0x003, 1, 1, 1, .bool, .rw, 1, true, 0, 0, 1, none, 1, .none⟩,  -- GVDD_EN
  ⟨0x6, 0x010, 1, 1, 12, .bool, .rwi, 0, true, 0, 0, 1, none, 1, .hb⟩,  -- HB_ENABLE
  ⟨0x6, 0x011, 1, 1, 12, .enum, .ro, 0, false, 0, 0, 255, none, 1, .none⟩,  -- HB_STATE
  ⟨0x6, 0x012, 1, 1, 12, .u8, .rwi, 3, true, 0, 0, 255, none, 1, .hb⟩,  -- VDS_EN
  ⟨0x6, 0x013, 1, 1, 12, .u8, .rwi, 20, true, 0, 1, 64, none, 1, .hb⟩,  -- VDS_TH
  ⟨0x6, 0x014, 1, 1, 12, .u8, .rwi, 4, true, 0, 1, 16, none, 1, .hb⟩,  -- VDS_BLANK
  ⟨0x6, 0x015, 1, 1, 12, .u8, .rwi, 3, true, 0, 0, 15, none, 1, .hb⟩,  -- SOFTOFF_LVL
  ⟨0x6, 0x016, 1, 1, 12, .bool, .rwi, 1, true, 0, 0, 1, none, 1, .hb⟩,  -- TRICKLE_EN
  ⟨0x6, 0x020, 1, 1, 12, .s24, .ro, 0, false, 0, (-8388608), 8388607, none, 1, .none⟩,  -- BST_V
  ⟨0x6, 0x021, 1, 1, 12, .enum, .ro, 0, false, 0, 0, 255, none, 1, .none⟩,  -- HB_LAST_CAUSE
  ⟨0x6, 0x022, 1, 1, 12, .u16, .ro, 0, false, 0, 0, 65535, none, 1, .none⟩,  -- STP_CNT
  ⟨0x6, 0x023, 1, 1, 12, .u16, .ro, 0, false, 0, 0, 65535, none, 1, .none⟩,  -- BST_UV_CNT
  ⟨0x6, 0x024, 1, 1, 12, .u16, .ro, 0, false, 0, 0, 65535, none, 1, .none⟩,  -- VDS_CNT
  ⟨0x6, 0x025, 1, 1, 12, .u16, .ro, 0, false, 0, 0, 65535, none, 1, .none⟩,  -- BST_WARN_CNT
  ⟨0x6, 0x030, 1, 1, 12, .enum, .wo, 0, false, 0, 0, 0, none, 1, .none⟩,  -- OST_CMD
  ⟨0x6, 0x031, 1, 1, 12, .enum, .ro, 0, false, 0, 0, 255, none, 1, .none⟩,  -- OST_RESULT
  ⟨0x6, 0x032, 1, 1, 12, .s24, .ro, 0, false, 0, (-8388608), 8388607, none, 1, .none⟩,  -- OST_VDN
  ⟨0x6, 0x033, 1, 1, 12, .s24, .ro, 0, false, 0, (-8388608), 8388607, none, 1, .none⟩,  -- OST_VUP
  ⟨0x6, 0x034, 1, 1, 12, .u8, .rwi, 255, true, 0, 0, 255, none, 1, .hb⟩,  -- OST_PEER
  ⟨0x6, 0x035, 1, 1, 1, .u16, .rw, 2000, true, 0, 100, 20000, none, 1, .none⟩,  -- OST_SETTLE
  ⟨0x6, 0x036, 1, 1, 12, .bool, .rwi, 1, true, 0, 0, 1, none, 1, .hb⟩,  -- OST_AT_PRECHECK
  ⟨0x6, 0x037, 1, 1, 12, .enum, .rwi, 2, true, 0, 0, 2, none, 1, .hb⟩,  -- OST_MODE
  ⟨0x6, 0x040, 1, 1, 4, .s16, .ro, 0, false, 0, (-32768), 32767, none, 1, .none⟩,  -- BANK_TEMP
  ⟨0x6, 0x041, 1, 1, 4, .s24, .ro, 0, false, 0, (-8388608), 8388607, none, 1, .none⟩,  -- BANK_VBUS
  ⟨0x6, 0x042, 1, 1, 4, .u8, .ro, 0, false, 0, 0, 255, none, 1, .none⟩,  -- BANK_FLAGS
  ⟨0x6, 0x100, 4, 1, 12, .u24, .rwi, 63479, true, 0, 0, 16777215, none, 1, .hb⟩,  -- PROF_H
  ⟨0x6, 0x110, 4, 1, 12, .u24, .rwi, 63479, true, 0, 0, 16777215, none, 1, .hb⟩]  -- PROF_L

/-- Acquisition (R207). -/
def entries7part0 : List EntRow := [
  ⟨0x7, 0x000, 1, 1, 1, .u16, .ro, 3000, false, 0, 0, 65535, none, 1, .none⟩,  -- ACQ_VREF
  ⟨0x7, 0x010, 1, 1, 64, .enum, .rwi, 0, true, 0, 0, 1, none, 1, .none⟩,  -- CH_MODE
  ⟨0x7, 0x011, 1, 1, 64, .s16, .rwi, 0, true, 0, (-32768), 32767, none, 1, .none⟩,  -- CH_OFS
  ⟨0x7, 0x020, 1, 1, 32, .u8, .rwi, 255, true, 0, 0, 255, none, 1, .seq⟩,  -- SEQ_TRIG
  ⟨0x7, 0x021, 1, 1, 32, .u8, .rwi, 1, true, 0, 1, 16, none, 1, .seq⟩,  -- SEQ_LEN
  ⟨0x7, 0x022, 1, 1, 32, .u48, .rwi, 0, true, 0, 0, 281474976710655, none, 1, .seq⟩,  -- SEQ_CH0
  ⟨0x7, 0x023, 1, 1, 32, .u16, .rwi, 0, true, 0, 0, 65535, none, 1, .seq⟩,  -- SEQ_CH1
  ⟨0x7, 0x024, 1, 1, 32, .u8, .rwi, 255, true, 0, 0, 11, (some 255), 1, .seq⟩,  -- SEQ_STAGE
  ⟨0x7, 0x025, 1, 1, 32, .u24, .ro, 0, false, 0, 0, 16777215, none, 1, .none⟩,  -- SEQ_COUNT
  ⟨0x7, 0x030, 1, 1, 4, .u16, .ro, 0, false, 0, 0, 65535, none, 1, .none⟩,  -- ADC_DROP_CNT
  ⟨0x7, 0x031, 1, 1, 4, .u16, .ro, 0, false, 0, 0, 65535, none, 1, .none⟩,  -- ADC_LATE_CNT
  ⟨0x7, 0x032, 1, 1, 4, .u16, .ro, 0, false, 0, 0, 65535, none, 1, .none⟩,  -- ADC_DELAYED_CNT
  ⟨0x7, 0x033, 1, 1, 4, .u16, .ro, 0, false, 0, 0, 65535, none, 1, .none⟩,  -- ADC_DELAY_MAX
  ⟨0x7, 0x034, 1, 1, 4, .u8, .ro, 0, false, 0, 0, 255, none, 1, .none⟩,  -- ADC_QUEUE_MAX
  ⟨0x7, 0x040, 1, 1, 32, .u16, .rwi, 64, true, 0, 0, 65535, none, 1, .lane⟩,  -- SD_OSR
  ⟨0x7, 0x041, 1, 1, 32, .u8, .rwi, 16, true, 0, 0, 255, none, 1, .lane⟩,  -- SD_OC_OSR
  ⟨0x7, 0x042, 1, 1, 32, .q23, .rwi, 8388607, true, 0, (-8388608), 8388607, none, 1, .lane⟩,  -- SD_OC_HI
  ⟨0x7, 0x043, 1, 1, 32, .q23, .rwi, 8388608, true, 0, (-8388608), 8388607, none, 1, .lane⟩,  -- SD_OC_LO
  ⟨0x7, 0x044, 1, 1, 32, .u8, .rwi, 2, true, 0, 1, 16, none, 1, .lane⟩,  -- SD_OC_CNT
  ⟨0x7, 0x045, 1, 1, 32, .q23, .rwi, 0, true, 0, (-8388608), 8388607, none, 1, .lane⟩,  -- SD_OFS
  ⟨0x7, 0x046, 1, 1, 32, .u24, .ro, 0, false, 0, 0, 16777215, none, 1, .none⟩,  -- SD_STATUS
  ⟨0x7, 0x047, 1, 1, 32, .u24, .ro, 0, false, 0, 0, 16777215, none, 1, .none⟩,  -- SD_LOST_CNT
  ⟨0x7, 0x050, 1, 1, 16, .u8, .rwi, 255, true, 0, 0, 111, (some 255), 1, .lg⟩,  -- LG_TRIG
  ⟨0x7, 0x051, 1, 1, 16, .u48, .rwi, 0, true, 0, 0, 4294967295, none, 1, .lg⟩,  -- LG_MASK
  ⟨0x7, 0x052, 1, 1, 16, .enum, .rwi, 0, true, 0, 0, 1, none, 1, .lg⟩,  -- LG_ALIGN
  ⟨0x7, 0x053, 1, 1, 16, .u8, .rwi, 255, true, 0, 0, 11, (some 255), 1, .lg⟩,  -- LG_STAGE
  ⟨0x7, 0x054, 1, 1, 16, .u24, .ro, 0, false, 0, 0, 16777215, none, 1, .none⟩,  -- LG_COUNT
  ⟨0x7, 0x060, 1, 1, 48, .u8, .rwi, 0, true, 0, 0, 255, none, 1, .cw⟩,  -- CW_INPUT
  ⟨0x7, 0x061, 1, 1, 48, .u16, .rwi, 1023, true, 0, 0, 1023, none, 1, .cw⟩,  -- CW_HI
  ⟨0x7, 0x062, 1, 1, 48, .u16, .rwi, 0, true, 0, 0, 1023, none, 1, .cw⟩,  -- CW_LO
  ⟨0x7, 0x063, 1, 1, 48, .enum, .rwi, 0, true, 0, 0, 4, none, 1, .cw⟩,  -- CW_MODE
  ⟨0x7, 0x064, 1, 1, 48, .u8, .rwi, 1, true, 0, 0, 3, none, 1, .cw⟩,  -- CW_HYS
  ⟨0x7, 0x065, 1, 1, 48, .u8, .rwi, 0, true, 0, 0, 3, none, 1, .cw⟩,  -- CW_FILT
  ⟨0x7, 0x066, 1, 1, 48, .u8, .rwi, 255, true, 0, 0, 11, (some 255), 1, .cw⟩,  -- CW_STAGE
  ⟨0x7, 0x067, 1, 1, 48, .u24, .ro, 0, false, 0, 0, 16777215, none, 1, .none⟩,  -- CW_STATE
  ⟨0x7, 0x068, 1, 1, 48, .enum, .wo, 0, false, 0, 0, 0, none, 1, .none⟩,  -- CW_CHECK_CMD
  ⟨0x7, 0x069, 1, 1, 48, .enum, .ro, 0, false, 0, 0, 255, none, 1, .none⟩,  -- CW_CHECK_RESULT
  ⟨0x7, 0x06A, 1, 1, 48, .bool, .rwi, 1, true, 0, 0, 1, none, 1, .cw⟩,  -- CW_CHECK_AT_PRECHECK
  ⟨0x7, 0x06B, 1, 1, 48, .s16, .ro, 0, false, 0, (-32768), 32767, none, 1, .none⟩,  -- CW_RB_ERR
  ⟨0x7, 0x070, 1, 1, 1, .u16, .rw, 1000, true, 0, 100, 10000, none, 1, .none⟩]  -- CW_RB_PERIOD

/-- Acquisition (R207), continued. -/
def entries7part1 : List EntRow := [
  ⟨0x7, 0x080, 1, 1, 32, .u16, .ro, 0, false, 0, 0, 65535, none, 1, .none⟩,  -- HK_RAW
  ⟨0x7, 0x081, 1, 1, 32, .u16, .ro, 0, false, 0, 0, 65535, none, 1, .none⟩,  -- HK_AGE
  ⟨0x7, 0x082, 1, 1, 1, .u16, .ro, 0, false, 0, 0, 65535, none, 1, .none⟩]  -- HK_AGE_MAX

/-- Acquisition (R207), whole. -/
def entries7 : List EntRow := entries7part0 ++ entries7part1

/-- Feedback (R229). -/
def entries8 : List EntRow := [
  ⟨0x8, 0x000, 1, 1, 1, .u8, .ro, 4, false, 0, 0, 255, none, 1, .none⟩,  -- QE_COUNT
  ⟨0x8, 0x010, 1, 1, 4, .bool, .rwi, 0, true, 0, 0, 1, none, 1, .qe⟩,  -- QE_ENABLE
  ⟨0x8, 0x011, 1, 1, 4, .bool, .rwi, 0, true, 0, 0, 1, none, 1, .qe⟩,  -- QE_INVERT
  ⟨0x8, 0x012, 1, 1, 4, .u8, .rwi, 2, true, 0, 0, 15, none, 1, .qe⟩,  -- QE_FILT
  ⟨0x8, 0x013, 1, 1, 4, .u16, .rwi, 40, true, 0, 0, 1023, none, 1, .qe⟩,  -- QE_MINEDGE
  ⟨0x8, 0x014, 1, 1, 4, .u24, .rwi, 0, true, 0, 0, 16777215, none, 1, .qe⟩,  -- QE_CPR
  ⟨0x8, 0x015, 1, 1, 4, .bool, .rwi, 0, true, 0, 0, 1, none, 1, .qe⟩,  -- QE_WRAP
  ⟨0x8, 0x016, 1, 1, 4, .u24, .rwi, 10000, true, 0, 100, 1000000, none, 1, .qe⟩,  -- QE_STALLT
  ⟨0x8, 0x017, 1, 1, 4, .u8, .rwi, 4, true, 0, 1, 64, none, 1, .qe⟩,  -- QE_SPD_EDGES
  ⟨0x8, 0x018, 1, 1, 4, .u8, .rwi, 16, true, 0, 1, 255, none, 1, .qe⟩,  -- QE_FLT_N
  ⟨0x8, 0x019, 1, 1, 4, .u16, .rwi, 1000, true, 0, 0, 65535, none, 1, .qe⟩,  -- QE_FLT_LEAK
  ⟨0x8, 0x01A, 1, 1, 4, .u8, .rwi, 255, true, 0, 0, 111, (some 255), 1, .qe⟩,  -- QE_CAP_TRIG
  ⟨0x8, 0x01B, 1, 1, 4, .u16, .rwi, 40, true, 0, 1, 4095, none, 1, .qe⟩,  -- QE_QCMP_WIDTH
  ⟨0x8, 0x01C, 1, 1, 4, .u8, .rwi, 0, true, 0, 0, 31, none, 1, .qe⟩,  -- QE_QCMP_FINE
  ⟨0x8, 0x01D, 1, 1, 4, .bool, .rwi, 0, true, 0, 0, 1, none, 1, .qe⟩,  -- QE_QCMP_POL
  ⟨0x8, 0x01E, 1, 1, 4, .u8, .ro, 255, false, 0, 0, 255, none, 1, .none⟩,  -- QE_HOLDER
  ⟨0x8, 0x020, 1, 1, 4, .enum, .rwi, 0, true, 0, 0, 3, none, 1, .qe⟩,  -- QE_IDX_MODE
  ⟨0x8, 0x021, 1, 1, 4, .u8, .rwi, 4, true, 0, 0, 4, none, 1, .qe⟩,  -- QE_IDX_AB
  ⟨0x8, 0x022, 1, 1, 4, .bool, .rwi, 0, true, 0, 0, 1, none, 1, .qe⟩,  -- QE_IDX_POL
  ⟨0x8, 0x023, 1, 1, 4, .u24, .rwi, 0, true, 0, 0, 16777215, none, 1, .qe⟩,  -- QE_IDX_VALUE
  ⟨0x8, 0x024, 1, 1, 4, .u8, .rwi, 1, true, 0, 0, 15, none, 1, .qe⟩,  -- QE_IDX_TOL
  ⟨0x8, 0x030, 1, 1, 4, .u24, .ro, 0, false, 0, 0, 16777215, none, 1, .none⟩,  -- QE_POS
  ⟨0x8, 0x031, 1, 1, 4, .s24, .ro, 0, false, 0, (-8388608), 8388607, none, 1, .none⟩,  -- QE_SPEED
  ⟨0x8, 0x032, 1, 1, 4, .s24, .ro, 0, false, 0, (-8388608), 8388607, none, 1, .none⟩,  -- QE_SPEED_CNT
  ⟨0x8, 0x033, 1, 1, 4, .u24, .ro, 3, false, 0, 0, 16777215, none, 1, .none⟩,  -- QE_STATUS
  ⟨0x8, 0x034, 1, 1, 4, .u24, .ro, 0, false, 0, 0, 16777215, none, 1, .none⟩,  -- QE_ANGLE
  ⟨0x8, 0x035, 1, 1, 4, .u24, .ro, 0, false, 0, 0, 16777215, none, 1, .none⟩,  -- QE_IDX_POS
  ⟨0x8, 0x036, 1, 1, 4, .u16, .ro, 0, false, 0, 0, 65535, none, 1, .none⟩,  -- QE_IDX_CNT
  ⟨0x8, 0x037, 1, 1, 4, .u16, .ro, 0, false, 0, 0, 65535, none, 1, .none⟩,  -- QE_IDX_ERR_CNT
  ⟨0x8, 0x038, 1, 1, 4, .u16, .ro, 0, false, 0, 0, 65535, none, 1, .none⟩,  -- QE_ILLEGAL_CNT
  ⟨0x8, 0x039, 1, 1, 4, .u16, .ro, 0, false, 0, 0, 65535, none, 1, .none⟩,  -- QE_FAST_CNT
  ⟨0x8, 0x03A, 1, 1, 4, .u16, .ro, 0, false, 0, 0, 65535, none, 1, .none⟩,  -- QE_REJECT_CNT
  ⟨0x8, 0x03B, 1, 1, 4, .u24, .ro, 0, false, 0, 0, 16777215, none, 1, .none⟩,  -- QE_REV_CNT
  ⟨0x8, 0x03C, 1, 1, 4, .bool, .wo, 0, false, 0, 0, 1, none, 1, .none⟩,  -- QE_RAWREV_CLR
  ⟨0x8, 0x100, 16, 16, 4, .u24, .rwi, 0, true, 0, 0, 16777215, none, 1, .qe⟩,  -- QCT_TARGET
  ⟨0x8, 0x101, 16, 16, 4, .u16, .rwi, 0, true, 0, 0, 127, none, 1, .qe⟩,  -- QCT_CFG
  ⟨0x8, 0x102, 16, 16, 4, .u24, .rwi, 0, true, 0, 0, 8388607, none, 1, .qe⟩]  -- QCT_STEP

/-- Monitors (R328). -/
def entries9 : List EntRow := [
  ⟨0x9, 0x010, 1, 1, 12, .s16, .ro, 0, false, 0, (-32768), 32767, none, 1, .none⟩,  -- TS_TEMP
  ⟨0x9, 0x011, 1, 1, 12, .u8, .ro, 0, false, 0, 0, 255, none, 1, .none⟩,  -- TS_STATUS
  ⟨0x9, 0x012, 1, 1, 12, .s16, .ro, 32768, false, 0, (-32768), 32767, none, 1, .none⟩,  -- TS_PEAK
  ⟨0x9, 0x013, 1, 1, 12, .s16, .ro, 0, false, 0, (-32768), 32767, none, 1, .none⟩,  -- TS_XDEV
  ⟨0x9, 0x020, 1, 1, 1, .s16, .ro, 32768, false, 0, (-32768), 32767, none, 1, .none⟩,  -- TMAX_CDIE
  ⟨0x9, 0x021, 1, 1, 1, .u8, .ro, 255, false, 0, 0, 255, none, 1, .none⟩,  -- TMAX_CDIE_SRC
  ⟨0x9, 0x022, 1, 1, 1, .s16, .ro, 32768, false, 0, (-32768), 32767, none, 1, .none⟩,  -- TMAX_PDIE
  ⟨0x9, 0x023, 1, 1, 1, .u8, .ro, 255, false, 0, 0, 255, none, 1, .none⟩,  -- TMAX_PDIE_SRC
  ⟨0x9, 0x024, 1, 1, 1, .s16, .ro, 32768, false, 0, (-32768), 32767, none, 1, .none⟩,  -- TMAX_PWR
  ⟨0x9, 0x025, 1, 1, 1, .u8, .ro, 255, false, 0, 0, 255, none, 1, .none⟩,  -- TMAX_PWR_SRC
  ⟨0x9, 0x040, 1, 1, 16, .bool, .rwi, 0, true, 0, 0, 1, none, 1, .ntc⟩,  -- NTC_EN
  ⟨0x9, 0x041, 1, 1, 16, .u24, .rwi, 10000, true, 0, 0, 16777215, none, 1, .ntc⟩,  -- NTC_R25
  ⟨0x9, 0x042, 1, 1, 16, .u16, .rwi, 3435, true, 0, 1000, 10000, none, 1, .ntc⟩,  -- NTC_B
  ⟨0x9, 0x043, 1, 1, 16, .u24, .rwi, 10000, true, 0, 1000, 100000, none, 1, .ntc⟩,  -- NTC_RPU
  ⟨0x9, 0x044, 1, 1, 16, .s16, .rwi, 0, true, 0, (-32768), 32767, none, 1, .ntc⟩,  -- NTC_OFS
  ⟨0x9, 0x045, 1, 1, 16, .s16, .rwi, 1600, true, 0, (-32768), 32767, none, 1, .ntc⟩,  -- NTC_WARN
  ⟨0x9, 0x046, 1, 1, 16, .s16, .rwi, 1760, true, 0, (-32768), 32767, none, 1, .ntc⟩,  -- NTC_THROTTLE
  ⟨0x9, 0x047, 1, 1, 16, .s16, .rwi, 32767, true, 0, (-32768), 32767, none, 1, .ntc⟩,  -- NTC_SHUTDOWN
  ⟨0x9, 0x048, 1, 1, 16, .u8, .rwi, 5, true, 0, 1, 20, none, 1, .ntc⟩,  -- NTC_HYST
  ⟨0x9, 0x049, 1, 1, 16, .u8, .rwi, 255, true, 0, 0, 11, (some 255), 1, .ntc⟩,  -- NTC_STAGE
  ⟨0x9, 0x04A, 1, 1, 16, .s16, .ro, 0, false, 0, (-32768), 32767, none, 1, .none⟩,  -- NTC_TEMP
  ⟨0x9, 0x04B, 1, 1, 16, .u8, .ro, 0, false, 0, 0, 255, none, 1, .none⟩,  -- NTC_STATUS
  ⟨0x9, 0x050, 1, 1, 32, .s16, .rwi, 1920, true, 0, (-32768), 32767, none, 1, .lane⟩,  -- SATT_WARN
  ⟨0x9, 0x051, 1, 1, 32, .s16, .rwi, 2080, true, 0, (-32768), 32767, none, 1, .lane⟩,  -- SATT_THROTTLE
  ⟨0x9, 0x052, 1, 1, 32, .s16, .rwi, 32767, true, 0, (-32768), 32767, none, 1, .lane⟩,  -- SATT_SHUTDOWN
  ⟨0x9, 0x053, 1, 1, 32, .u8, .rwi, 5, true, 0, 1, 20, none, 1, .lane⟩,  -- SATT_HYST
  ⟨0x9, 0x054, 1, 1, 32, .u8, .ro, 0, false, 0, 0, 255, none, 1, .none⟩,  -- SATT_STATUS
  ⟨0x9, 0x060, 1, 1, 6, .s24, .ro, 0, false, 0, (-8388608), 8388607, none, 1, .none⟩,  -- SUP_V
  ⟨0x9, 0x061, 1, 1, 6, .u8, .ro, 0, false, 0, 0, 255, none, 1, .none⟩,  -- SUP_STATUS
  ⟨0x9, 0x062, 1, 1, 6, .s24, .ro, 0, false, 0, (-8388608), 8388607, none, 1, .none⟩,  -- SUP_MIN
  ⟨0x9, 0x063, 1, 1, 6, .u16, .ro, 0, false, 0, 0, 65535, none, 1, .none⟩,  -- SUP_WARN_CNT
  ⟨0x9, 0x070, 1, 1, 1, .bool, .ro, 0, false, 0, 0, 1, none, 1, .none⟩,  -- NVM_DEFER
  ⟨0x9, 0x071, 1, 1, 1, .u16, .ro, 0, false, 0, 0, 65535, none, 1, .none⟩]  -- DEFER_CNT

/-- Faults (R312). -/
def entriesA : List EntRow := [
  ⟨0xA, 0x000, 1, 1, 1, .u8, .ro, 0, false, 0, 0, 255, none, 1, .none⟩,  -- FAULT_LATCHED
  ⟨0xA, 0x001, 1, 1, 1, .enum, .ro, 7, false, 0, 0, 255, none, 1, .none⟩,  -- FAULT_HIGHEST
  ⟨0xA, 0x002, 1, 1, 1, .enum, .rw, 4, true, 0, 1, 6, none, 1, .none⟩,  -- OKAY_CLASS
  ⟨0xA, 0x003, 1, 1, 1, .bool, .ro, 0, false, 0, 0, 1, none, 1, .none⟩,  -- OKAY_PIN
  ⟨0xA, 0x004, 1, 1, 1, .enum, .rw, 5, true, 0, 5, 6, none, 1, .none⟩,  -- KILL_CLASS
  ⟨0xA, 0x005, 1, 1, 1, .bool, .ro, 0, false, 0, 0, 1, none, 1, .none⟩,  -- KILL_PIN
  ⟨0xA, 0x006, 1, 1, 1, .enum, .rw, 1, true, 0, 0, 1, none, 1, .none⟩,  -- SC_MIN_CLASS
  ⟨0xA, 0x007, 1, 1, 1, .enum, .rw, 0, true, 0, 0, 6, none, 1, .none⟩,  -- NOTIFY_MIN_CLASS
  ⟨0xA, 0x008, 1, 1, 1, .u8, .ro, 255, false, 0, 0, 255, none, 1, .none⟩,  -- SC_NEWEST
  ⟨0xA, 0x009, 1, 1, 1, .u16, .ro, 0, false, 0, 0, 65535, none, 1, .none⟩,  -- SC_NEXT_SEQ
  ⟨0xA, 0x00A, 1, 1, 1, .u16, .ro, 0, false, 0, 0, 65535, none, 1, .none⟩,  -- SC_OVERWRITE_CNT
  ⟨0xA, 0x00B, 1, 1, 1, .u16, .ro, 0, false, 0, 0, 65535, none, 1, .none⟩,  -- NOTIFY_LOST_CNT
  ⟨0xA, 0x00C, 1, 1, 1, .enum, .ro, 7, false, 0, 0, 255, none, 1, .none⟩,  -- LATCH_OVF_CLASS
  ⟨0xA, 0x010, 1, 1, 1, .u24, .wo, 0, false, 0, 0, 16777215, none, 1, .none⟩,  -- CLEAR_CODE
  ⟨0xA, 0x011, 1, 1, 1, .enum, .wo, 0, false, 0, 0, 6, none, 1, .none⟩,  -- CLEAR_ALL
  ⟨0xA, 0x020, 1, 1, 64, .u24, .ro, 0, false, 0, 0, 16777215, none, 1, .none⟩,  -- LATCH_CODE
  ⟨0xA, 0x021, 1, 1, 64, .u24, .ro, 7, false, 0, 0, 16777215, none, 1, .none⟩,  -- LATCH_INFO
  ⟨0xA, 0x100, 1, 1, 32, .blob, .ro, 0, false, 0, 0, 0, none, 1, .none⟩,  -- SC_REC
  ⟨0xA, 0x101, 1, 1, 1, .u8, .ro, 0, false, 0, 0, 255, none, 1, .none⟩,  -- SC_PERSIST_PEND
  ⟨0xA, 0x200, 1, 1, 84, .u48, .rwi, 0, true, 0, 0, 281474976710655, none, 1, .tmDest⟩,  -- TM_SRC0
  ⟨0xA, 0x201, 1, 1, 84, .u48, .rwi, 0, true, 0, 0, 281474976710655, none, 1, .tmDest⟩,  -- TM_SRC1
  ⟨0xA, 0x202, 1, 1, 84, .u48, .rwi, 0, true, 0, 0, 4294967295, none, 1, .tmDest⟩,  -- TM_SRC2
  ⟨0xA, 0x203, 1, 1, 3, .u48, .rwi, 0, true, 0, 0, 281474976710655, none, 1, .tmInv⟩,  -- TM_SRC_INV
  ⟨0xA, 0x204, 1, 1, 80, .enum, .rwi, 7, true, 0, 0, 7, none, 1, .tmSrc⟩,  -- TM_CLASS
  ⟨0xA, 0x300, 1, 1, 1, .u24, .wo, 0, false, 2, 0, 16777215, none, 1, .none⟩,  -- INJ_CODE
  ⟨0xA, 0x301, 1, 1, 1, .u8, .wo, 0, false, 2, 0, 255, none, 1, .none⟩,  -- INJ_SOURCE
  ⟨0xA, 0x302, 1, 1, 1, .u16, .rw, 100, false, 2, 1, 10000, none, 1, .none⟩,  -- INJ_LEN
  ⟨0xA, 0x303, 1, 1, 1, .u16, .ro, 0, false, 0, 0, 65535, none, 1, .none⟩]  -- INJ_CNT

/-- Non-volatile store (R353, R354). -/
def entriesB : List EntRow := [
  ⟨0xB, 0x000, 1, 1, 1, .enum, .ro, 0, false, 0, 0, 255, none, 1, .none⟩,  -- NVM_STATE
  ⟨0xB, 0x001, 1, 1, 1, .u16, .ro, 0, false, 0, 0, 65535, none, 1, .none⟩,  -- NVM_ECC_CORR_CNT
  ⟨0xB, 0x002, 1, 1, 1, .u16, .ro, 0, false, 0, 0, 65535, none, 1, .none⟩,  -- NVM_ECC_UNCORR_CNT
  ⟨0xB, 0x010, 1, 1, 1, .u8, .ro, 0, false, 0, 0, 255, none, 1, .none⟩,  -- JRN_BANK
  ⟨0xB, 0x011, 1, 1, 1, .u24, .ro, 0, false, 0, 0, 16777215, none, 1, .none⟩,  -- JRN_GEN
  ⟨0xB, 0x012, 1, 1, 1, .u48, .ro, 0, false, 0, 0, 281474976710655, none, 1, .none⟩,  -- JRN_SEQ
  ⟨0xB, 0x013, 1, 1, 1, .u24, .ro, 0, false, 0, 0, 16777215, none, 1, .none⟩,  -- JRN_FREE
  ⟨0xB, 0x014, 1, 1, 1, .u16, .ro, 0, false, 0, 0, 65535, none, 1, .none⟩,  -- JRN_DISCARDS
  ⟨0xB, 0x015, 1, 1, 1, .u8, .ro, 0, false, 0, 0, 255, none, 1, .none⟩,  -- JRN_QUEUE
  ⟨0xB, 0x016, 1, 1, 1, .u16, .rw, 4096, true, 0, 1024, 16384, none, 1, .none⟩,  -- SHED_THRESHOLD
  ⟨0xB, 0x017, 1, 1, 1, .enum, .wo, 0, false, 0, 0, 0, none, 1, .none⟩,  -- SHED_CMD
  ⟨0xB, 0x018, 1, 1, 1, .enum, .ro, 0, false, 0, 0, 255, none, 1, .none⟩,  -- SHED_STATE
  ⟨0xB, 0x020, 1, 1, 2, .enum, .ro, 0, false, 0, 0, 255, none, 1, .none⟩,  -- PATCH_STATUS
  ⟨0xB, 0x021, 1, 1, 2, .u24, .ro, 0, false, 0, 0, 16777215, none, 1, .none⟩,  -- PATCH_VER
  ⟨0xB, 0x022, 1, 1, 1, .enum, .ro, 0, false, 0, 0, 255, none, 1, .none⟩,  -- PATCH_ACTIVE
  ⟨0xB, 0x023, 1, 1, 1, .blob, .wo, 0, false, 1, 0, 0, none, 1, .none⟩,  -- PATCH_LOAD
  ⟨0xB, 0x024, 1, 1, 1, .u24, .ro, 0, false, 0, 0, 16777215, none, 1, .none⟩,  -- PATCH_FLOOR
  ⟨0xB, 0x025, 1, 1, 1, .u24, .wo, 0, false, 1, 0, 16777215, none, 1, .none⟩,  -- PATCH_FLOOR_RAISE
  ⟨0xB, 0x030, 1, 1, 1, .u24, .ro, 0, false, 0, 0, 16777215, none, 1, .none⟩,  -- KSTORE_LARGEST
  ⟨0xB, 0x031, 1, 1, 1, .enum, .ro, 0, false, 0, 0, 255, none, 1, .none⟩,  -- CAL_STATE
  ⟨0xB, 0x040, 1, 1, 128, .u24, .ro, 0, false, 0, 0, 16777215, none, 1, .none⟩,  -- OTP_VENDOR
  ⟨0xB, 0x041, 1, 1, 128, .u24, .ro, 0, false, 0, 0, 16777215, none, 1, .none⟩,  -- OTP_IDENT
  ⟨0xB, 0x042, 1, 1, 256, .u24, .ro, 0, false, 0, 0, 16777215, none, 1, .none⟩,  -- OTP_CUSTOMER
  ⟨0xB, 0x050, 1, 1, 128, .u24, .rw, 0, false, 2, 0, 16777215, none, 1, .none⟩,  -- OVR_VENDOR
  ⟨0xB, 0x051, 1, 1, 128, .u24, .rw, 0, false, 2, 0, 16777215, none, 1, .none⟩,  -- OVR_IDENT
  ⟨0xB, 0x052, 1, 1, 256, .u24, .rw, 0, false, 1, 0, 16777215, none, 1, .none⟩,  -- OVR_CUSTOMER
  ⟨0xB, 0x053, 1, 1, 1, .enum, .wo, 0, false, 0, 0, 2, none, 1, .none⟩,  -- OVR_CLEAR
  ⟨0xB, 0x060, 1, 1, 128, .u8, .ro, 0, false, 0, 0, 255, none, 1, .none⟩,  -- OTP_WSTAT_V
  ⟨0xB, 0x061, 1, 1, 128, .u8, .ro, 0, false, 0, 0, 255, none, 1, .none⟩,  -- OTP_WSTAT_I
  ⟨0xB, 0x062, 1, 1, 256, .u8, .ro, 0, false, 0, 0, 255, none, 1, .none⟩,  -- OTP_WSTAT_C
  ⟨0xB, 0x070, 1, 1, 3, .enum, .ro, 0, false, 0, 0, 255, none, 1, .none⟩,  -- OTP_REGION_STATE
  ⟨0xB, 0x071, 1, 1, 3, .enum, .ro, 0, false, 0, 0, 255, none, 1, .none⟩,  -- OTP_LOCK_STATE
  ⟨0xB, 0x072, 1, 1, 3, .u24, .ro, 0, false, 0, 0, 16777215, none, 1, .none⟩,  -- OTP_SEAL
  ⟨0xB, 0x073, 1, 1, 1, .u48, .wo, 0, false, 0, 0, 281474976710655, none, 1, .none⟩,  -- OTP_BURN
  ⟨0xB, 0x074, 1, 1, 3, .enum, .wo, 0, false, 0, 0, 1, none, 1, .none⟩,  -- OTP_LOCK_CMD
  ⟨0xB, 0x075, 1, 1, 1, .enum, .wo, 0, false, 0, 0, 0, none, 1, .none⟩,  -- OTP_AUDIT_CMD
  ⟨0xB, 0x076, 1, 1, 1, .u16, .rw, 24, true, 0, 1, 1000, none, 1, .none⟩,  -- AUDIT_PERIOD
  ⟨0xB, 0x077, 1, 1, 1, .t48, .ro, 0, false, 0, 0, 281474976710655, none, 1, .none⟩,  -- AUDIT_LAST
  ⟨0xB, 0x078, 1, 1, 1, .u16, .ro, 0, false, 0, 0, 65535, none, 1, .none⟩,  -- MARGINAL_CNT
  ⟨0xB, 0x079, 1, 1, 1, .enum, .ro, 0, false, 0, 0, 255, none, 1, .none⟩]  -- OTP_JOB_RESULT

/-- CAN (R397). -/
def entriesCpart0 : List EntRow := [
  ⟨0xC, 0x000, 1, 1, 1, .u8, .ro, 4, false, 0, 0, 255, none, 1, .none⟩,  -- CAN_COUNT
  ⟨0xC, 0x010, 1, 1, 1, .u8, .rw, 0, true, 0, 0, 126, none, 1, .none⟩,  -- NODE_ID
  ⟨0xC, 0x011, 1, 1, 1, .u8, .ro, 0, false, 0, 0, 255, none, 1, .none⟩,  -- NODE_ID_EFF
  ⟨0xC, 0x012, 1, 1, 1, .enum, .rw, 0, true, 0, 0, 3, none, 1, .none⟩,  -- DICT_CTRL
  ⟨0xC, 0x013, 1, 1, 1, .enum, .rw, 2, true, 0, 0, 2, none, 1, .none⟩,  -- DICT_FORMAT
  ⟨0xC, 0x014, 1, 1, 1, .u16, .rw, 1024, true, 0, 0, 1921, none, 1, .none⟩,  -- REQ_ID_BASE
  ⟨0xC, 0x015, 1, 1, 1, .u16, .rw, 1152, true, 0, 0, 1921, none, 1, .none⟩,  -- RSP_ID_BASE
  ⟨0xC, 0x016, 1, 1, 1, .u16, .rw, 1280, true, 0, 0, 1921, none, 1, .none⟩,  -- NTF_ID_BASE
  ⟨0xC, 0x017, 1, 1, 1, .u8, .rw, 15, true, 0, 0, 15, none, 1, .none⟩,  -- DICT_RETRY
  ⟨0xC, 0x018, 1, 1, 1, .u16, .rw, 50, true, 0, 10, 5000, none, 1, .none⟩,  -- QUEUE_LATE_T
  ⟨0xC, 0x020, 1, 1, 4, .bool, .rw, 0, true, 0, 0, 1, none, 1, .none⟩,  -- CAN_ENABLE
  ⟨0xC, 0x021, 1, 1, 4, .enum, .rw, 0, true, 0, 0, 1, none, 1, .none⟩,  -- CAN_MODE
  ⟨0xC, 0x022, 1, 1, 4, .enum, .wo, 0, false, 0, 0, 2, none, 1, .none⟩,  -- CAN_CMD
  ⟨0xC, 0x023, 1, 1, 4, .enum, .ro, 0, false, 0, 0, 255, none, 1, .none⟩,  -- CAN_STATE
  ⟨0xC, 0x024, 1, 1, 4, .enum, .rw, 0, true, 0, 0, 1, none, 1, .none⟩,  -- BUSOFF_MODE
  ⟨0xC, 0x025, 1, 1, 4, .u8, .rw, 3, true, 0, 0, 15, (some 255), 1, .none⟩,  -- TX_RETRY
  ⟨0xC, 0x030, 1, 1, 4, .u8, .rw, 1, true, 0, 1, 32, none, 1, .none⟩,  -- NBRP
  ⟨0xC, 0x031, 1, 1, 4, .u16, .rw, 127, true, 0, 2, 256, none, 1, .none⟩,  -- NTSEG1
  ⟨0xC, 0x032, 1, 1, 4, .u8, .rw, 32, true, 0, 2, 128, none, 1, .none⟩,  -- NTSEG2
  ⟨0xC, 0x033, 1, 1, 4, .u8, .rw, 32, true, 0, 1, 128, none, 1, .none⟩,  -- NSJW
  ⟨0xC, 0x034, 1, 1, 4, .u8, .rw, 1, true, 0, 1, 32, none, 1, .none⟩,  -- DBRP
  ⟨0xC, 0x035, 1, 1, 4, .u8, .rw, 29, true, 0, 1, 32, none, 1, .none⟩,  -- DTSEG1
  ⟨0xC, 0x036, 1, 1, 4, .u8, .rw, 10, true, 0, 1, 16, none, 1, .none⟩,  -- DTSEG2
  ⟨0xC, 0x037, 1, 1, 4, .u8, .rw, 10, true, 0, 1, 16, none, 1, .none⟩,  -- DSJW
  ⟨0xC, 0x038, 1, 1, 4, .enum, .rw, 1, true, 0, 0, 1, none, 1, .none⟩,  -- TDC_MODE
  ⟨0xC, 0x039, 1, 1, 4, .u8, .rw, 30, true, 0, 0, 127, none, 1, .none⟩,  -- TDC_OFS
  ⟨0xC, 0x03A, 1, 1, 4, .u8, .ro, 0, false, 0, 0, 255, none, 1, .none⟩,  -- TDC_MEAS
  ⟨0xC, 0x03B, 1, 1, 4, .enum, .ro, 0, false, 0, 0, 255, none, 1, .none⟩,  -- BT_STATE
  ⟨0xC, 0x040, 1, 1, 4, .u8, .ro, 0, false, 0, 0, 255, none, 1, .none⟩,  -- TEC
  ⟨0xC, 0x041, 1, 1, 4, .u8, .ro, 0, false, 0, 0, 255, none, 1, .none⟩,  -- REC
  ⟨0xC, 0x042, 1, 1, 4, .u16, .ro, 0, false, 0, 0, 65535, none, 1, .none⟩,  -- BUSOFF_CNT
  ⟨0xC, 0x043, 1, 1, 4, .u8, .ro, 0, false, 0, 0, 255, none, 1, .none⟩,  -- ERR_FLAGS
  ⟨0xC, 0x044, 1, 1, 4, .u16, .ro, 0, false, 0, 0, 65535, none, 1, .none⟩,  -- TX_FAIL_CNT
  ⟨0xC, 0x045, 1, 1, 4, .u16, .ro, 0, false, 0, 0, 65535, none, 1, .none⟩,  -- TX_OVERWRITE
  ⟨0xC, 0x046, 1, 1, 4, .u16, .ro, 0, false, 0, 0, 65535, none, 1, .none⟩,  -- RX_OVR_CNT
  ⟨0xC, 0x047, 1, 1, 4, .u16, .ro, 0, false, 0, 0, 65535, none, 1, .none⟩,  -- CLASH_CNT
  ⟨0xC, 0x048, 1, 1, 4, .u48, .ro, 0, false, 0, 0, 281474976710655, none, 1, .none⟩,  -- CLASH_ID
  ⟨0xC, 0x049, 1, 1, 4, .u8, .ro, 0, false, 0, 0, 255, none, 1, .none⟩,  -- BUS_LOAD
  ⟨0xC, 0x050, 1, 1, 4, .bool, .rw, 0, true, 0, 0, 1, none, 1, .none⟩,  -- WAKE_EN
  ⟨0xC, 0x051, 1, 1, 4, .enum, .rw, 0, true, 0, 0, 1, none, 1, .none⟩]  -- WAKE_MODE

/-- CAN (R397), continued. -/
def entriesCpart1 : List EntRow := [
  ⟨0xC, 0x052, 1, 1, 4, .u8, .rw, 5, true, 0, 1, 50, none, 1, .none⟩]  -- WAKE_T

/-- CAN (R397), whole. -/
def entriesC : List EntRow := entriesCpart0 ++ entriesCpart1

/-- Stages (R263, R290). -/
def entriesDpart0 : List EntRow := [
  ⟨0xD, 0x000, 1, 1, 12, .enum, .rwi, 0, true, 0, 0, 8, none, 1, .stage⟩,  -- STAGE_TYPE
  ⟨0xD, 0x001, 1, 1, 12, .u16, .rwi, 0, true, 0, 0, 65535, none, 1, .stage⟩,  -- STAGE_CLUSTERS
  ⟨0xD, 0x002, 1, 1, 12, .u48, .rwi, 0, true, 0, 0, 281474976710655, none, 1, .stage⟩,  -- STAGE_GENS
  ⟨0xD, 0x003, 1, 1, 12, .u8, .rwi, 255, true, 0, 0, 255, none, 1, .stage⟩,  -- STAGE_QE
  ⟨0xD, 0x004, 1, 1, 12, .u8, .rwi, 255, true, 0, 0, 255, none, 1, .stage⟩,  -- MAIN_TASK
  ⟨0xD, 0x005, 1, 1, 12, .u8, .rwi, 255, true, 0, 0, 255, none, 1, .stage⟩,  -- SPEED_TASK
  ⟨0xD, 0x006, 1, 1, 12, .u8, .rwi, 255, true, 0, 0, 255, none, 1, .stage⟩,  -- GUARD_TASK
  ⟨0xD, 0x007, 1, 1, 12, .u8, .rwi, 255, true, 0, 0, 255, none, 1, .stage⟩,  -- GPROF_TASK
  ⟨0xD, 0x010, 1, 1, 12, .enum, .wo, 0, false, 0, 0, 6, none, 1, .none⟩,  -- STAGE_CMD
  ⟨0xD, 0x011, 1, 1, 12, .enum, .ro, 0, false, 0, 0, 255, none, 1, .none⟩,  -- STAGE_STATE
  ⟨0xD, 0x012, 1, 1, 12, .enum, .ro, 0, false, 0, 0, 255, none, 1, .none⟩,  -- STAGE_REFUSE
  ⟨0xD, 0x013, 1, 1, 12, .enum, .ro, 0, false, 0, 0, 255, none, 1, .none⟩,  -- PRECHECK_RESULT
  ⟨0xD, 0x014, 1, 1, 12, .u24, .ro, 0, false, 0, 0, 16777215, none, 1, .none⟩,  -- HALT_CODE
  ⟨0xD, 0x015, 1, 1, 12, .enum, .ro, 0, false, 0, 0, 255, none, 1, .none⟩,  -- RUN_MODE
  ⟨0xD, 0x016, 1, 1, 12, .u24, .ro, 0, false, 0, 0, 16777215, none, 1, .none⟩,  -- SW_LATENCY
  ⟨0xD, 0x020, 1, 1, 12, .s24, .rwi, 0, true, 0, (-8388608), 8388607, none, 1, .stage⟩,  -- VBUS_MIN
  ⟨0xD, 0x021, 1, 1, 12, .s24, .rwi, 0, true, 0, (-8388608), 8388607, none, 1, .stage⟩,  -- VBUS_MAX
  ⟨0xD, 0x022, 1, 1, 12, .s24, .rw, 0, true, 0, (-8388608), 8388607, none, 1, .none⟩,  -- I_LIM
  ⟨0xD, 0x023, 1, 1, 12, .s24, .rwi, 0, true, 0, (-8388608), 8388607, none, 1, .stage⟩,  -- I_CBC
  ⟨0xD, 0x024, 1, 1, 12, .s24, .rwi, 0, true, 0, (-8388608), 8388607, none, 1, .stage⟩,  -- I_OC
  ⟨0xD, 0x025, 1, 1, 12, .u8, .rwi, 2, true, 0, 1, 16, none, 1, .stage⟩,  -- I_OC_N
  ⟨0xD, 0x026, 1, 1, 12, .s24, .rwi, 0, true, 0, (-8388608), 8388607, none, 1, .stage⟩,  -- SPD_MAX
  ⟨0xD, 0x027, 1, 1, 12, .u16, .rwi, 500, true, 0, 10, 10000, none, 1, .stage⟩,  -- RAMP_TIME
  ⟨0xD, 0x028, 1, 1, 12, .u48, .rwi, 0, true, 0, 0, 281474976710655, none, 1, .stage⟩,  -- ILIM_CW
  ⟨0xD, 0x029, 1, 1, 12, .u16, .rwi, 512, true, 0, 0, 65535, none, 1, .stage⟩,  -- CW_ZERO
  ⟨0xD, 0x02A, 1, 1, 12, .s24, .rwi, 2000, true, 0, (-8388608), 8388607, none, 1, .stage⟩,  -- I_OFS_MAX
  ⟨0xD, 0x02B, 1, 1, 12, .u8, .rwi, 255, true, 0, 0, 255, none, 1, .stage⟩,  -- VBUS_CH
  ⟨0xD, 0x02C, 1, 1, 12, .s24, .rwi, 0, true, 0, (-8388608), 8388607, none, 1, .stage⟩,  -- VBUS_FS
  ⟨0xD, 0x030, 1, 1, 12, .enum, .rwi, 0, true, 0, 0, 1, none, 1, .stage⟩,  -- CMD_MODE
  ⟨0xD, 0x031, 1, 1, 12, .enum, .rwi, 0, true, 0, 0, 1, none, 1, .stage⟩,  -- SP_SOURCE
  ⟨0xD, 0x032, 1, 1, 12, .s24, .rw, 0, false, 0, (-8388608), 8388607, none, 1, .none⟩,  -- TORQUE_CMD
  ⟨0xD, 0x033, 1, 1, 12, .s24, .rw, 0, false, 0, (-8388608), 8388607, none, 1, .none⟩,  -- SPEED_CMD
  ⟨0xD, 0x034, 1, 1, 12, .u16, .rwi, 100, true, 0, 0, 65535, none, 1, .stage⟩,  -- SP_TIMEOUT
  ⟨0xD, 0x035, 1, 1, 12, .s24, .rw, 100000, true, 0, (-8388608), 8388607, none, 1, .none⟩,  -- TQ_SLEW
  ⟨0xD, 0x040, 1, 1, 12, .s24, .ro, 0, false, 0, (-8388608), 8388607, none, 1, .none⟩,  -- SPEED_EST
  ⟨0xD, 0x041, 1, 1, 12, .s24, .ro, 0, false, 0, (-8388608), 8388607, none, 1, .none⟩,  -- TORQUE_EST
  ⟨0xD, 0x042, 1, 1, 12, .s24, .ro, 0, false, 0, (-8388608), 8388607, none, 1, .none⟩,  -- ID_MEAS
  ⟨0xD, 0x043, 1, 1, 12, .s24, .ro, 0, false, 0, (-8388608), 8388607, none, 1, .none⟩,  -- IQ_MEAS
  ⟨0xD, 0x044, 1, 1, 12, .s24, .ro, 0, false, 0, (-8388608), 8388607, none, 1, .none⟩,  -- VBUS_MEAS
  ⟨0xD, 0x045, 3, 1, 12, .s24, .ro, 0, false, 0, (-8388608), 8388607, none, 1, .none⟩]  -- CUR_OFS0 to CUR_OFS2

/-- Stages (R263, R290), continued. -/
def entriesDpart1 : List EntRow := [
  ⟨0xD, 0x048, 1, 1, 12, .s24, .rwi, 0, true, 0, (-8388608), 8388607, none, 1, .stage⟩,  -- I_FS
  ⟨0xD, 0x049, 1, 1, 12, .u8, .ro, 0, false, 0, 0, 255, none, 1, .none⟩,  -- MOTOR_FLAGS
  ⟨0xD, 0x050, 1, 1, 12, .s24, .rwi, 0, true, 0, (-8388608), 8388607, none, 1, .stage⟩,  -- I_SUM_MAX
  ⟨0xD, 0x100, 1, 1, 12, .u8, .rwi, 4, true, 0, 1, 32, none, 1, .stage⟩,  -- POLE_PAIRS
  ⟨0xD, 0x101, 1, 1, 12, .u24, .rwi, 0, true, 0, 0, 16777215, none, 1, .stage⟩,  -- RS
  ⟨0xD, 0x102, 1, 1, 12, .u24, .rwi, 0, true, 0, 0, 16777215, none, 1, .stage⟩,  -- LD
  ⟨0xD, 0x103, 1, 1, 12, .u24, .rwi, 0, true, 0, 0, 16777215, none, 1, .stage⟩,  -- LQ
  ⟨0xD, 0x104, 1, 1, 12, .u24, .rwi, 0, true, 0, 0, 16777215, none, 1, .stage⟩,  -- PSI
  ⟨0xD, 0x105, 1, 1, 12, .enum, .rwi, 0, true, 0, 0, 1, none, 1, .stage⟩,  -- POS_SRC
  ⟨0xD, 0x106, 1, 1, 12, .u24, .rwi, 0, true, 0, 0, 16777215, none, 1, .stage⟩,  -- ANG_OFS
  ⟨0xD, 0x107, 1, 1, 12, .enum, .rwi, 0, true, 0, 0, 1, none, 1, .stage⟩,  -- CUR_MODE
  ⟨0xD, 0x108, 1, 1, 12, .enum, .rwi, 0, true, 0, 0, 2, none, 1, .stage⟩,  -- I_SRC
  ⟨0xD, 0x110, 1, 1, 12, .u16, .rwi, 1000, true, 0, 0, 65535, none, 1, .stage⟩,  -- CUR_BW
  ⟨0xD, 0x111, 1, 1, 12, .u16, .rwi, 20, true, 0, 0, 65535, none, 1, .stage⟩,  -- SPD_BW
  ⟨0xD, 0x113, 1, 1, 12, .u24, .rwi, 0, true, 0, 0, 16777215, none, 1, .stage⟩,  -- INERTIA
  ⟨0xD, 0x114, 1, 1, 12, .u8, .rwi, 95, true, 0, 50, 100, none, 1, .stage⟩,  -- MOD_MAX
  ⟨0xD, 0x115, 1, 1, 12, .u24, .rwi, 0, true, 0, 0, 16777215, none, 1, .stage⟩,  -- SAMPLE_TICK
  ⟨0xD, 0x117, 1, 1, 12, .s24, .rwi, 0, true, 0, (-8388608), 8388607, none, 1, .stage⟩,  -- T_MAX
  ⟨0xD, 0x118, 1, 1, 12, .u16, .rwi, 50, true, 0, 0, 65535, none, 1, .stage⟩,  -- FW_BW
  ⟨0xD, 0x120, 16, 1, 12, .s24, .rwi, 0, true, 0, (-8388608), 8388607, none, 1, .stage⟩,  -- MTPA_ID0 to MTPA_ID15
  ⟨0xD, 0x130, 1, 1, 12, .s24, .rwi, 0, true, 0, (-8388608), 8388607, none, 1, .stage⟩,  -- I_ALIGN
  ⟨0xD, 0x131, 1, 1, 12, .u16, .rwi, 200, true, 0, 0, 65535, none, 1, .stage⟩,  -- T_ALIGN
  ⟨0xD, 0x132, 1, 1, 12, .s24, .rwi, 0, true, 0, (-8388608), 8388607, none, 1, .stage⟩,  -- I_OL
  ⟨0xD, 0x133, 1, 1, 12, .s24, .rwi, 5000, true, 0, (-8388608), 8388607, none, 1, .stage⟩,  -- ACC_OL
  ⟨0xD, 0x134, 1, 1, 12, .s24, .rwi, 0, true, 0, (-8388608), 8388607, none, 1, .stage⟩,  -- SPD_HANDOVER
  ⟨0xD, 0x135, 1, 1, 12, .u16, .rwi, 20, true, 0, 0, 65535, none, 1, .stage⟩,  -- T_BLEND
  ⟨0xD, 0x136, 1, 1, 12, .u16, .rwi, 3000, true, 0, 0, 65535, none, 1, .stage⟩,  -- T_OL_MAX
  ⟨0xD, 0x137, 1, 1, 12, .s24, .rwi, 0, true, 0, (-8388608), 8388607, none, 1, .stage⟩,  -- EMF_MIN
  ⟨0xD, 0x138, 1, 1, 12, .s24, .rwi, 0, true, 0, (-8388608), 8388607, none, 1, .stage⟩,  -- SPD_OBS_MIN
  ⟨0xD, 0x139, 1, 1, 12, .u16, .rwi, 200, true, 0, 0, 65535, none, 1, .stage⟩,  -- OBS_BW
  ⟨0xD, 0x140, 1, 1, 12, .s24, .rwi, 0, true, 0, (-8388608), 8388607, none, 1, .stage⟩,  -- SPD_STALL
  ⟨0xD, 0x141, 1, 1, 12, .s24, .rwi, 0, true, 0, (-8388608), 8388607, none, 1, .stage⟩,  -- I_STALL
  ⟨0xD, 0x142, 1, 1, 12, .u16, .rwi, 500, true, 0, 0, 65535, none, 1, .stage⟩,  -- T_STALL
  ⟨0xD, 0x150, 1, 1, 12, .enum, .wo, 0, false, 0, 0, 0, none, 1, .none⟩,  -- ID_CMD
  ⟨0xD, 0x151, 1, 1, 12, .enum, .rwi, 0, true, 0, 0, 1, none, 1, .stage⟩,  -- ID_MODE
  ⟨0xD, 0x152, 1, 1, 12, .enum, .ro, 0, false, 0, 0, 255, none, 1, .none⟩,  -- ID_STATE
  ⟨0xD, 0x153, 1, 1, 12, .u24, .ro, 0, false, 0, 0, 16777215, none, 1, .none⟩,  -- ID_RS
  ⟨0xD, 0x154, 1, 1, 12, .u24, .ro, 0, false, 0, 0, 16777215, none, 1, .none⟩,  -- ID_LD
  ⟨0xD, 0x155, 1, 1, 12, .u24, .ro, 0, false, 0, 0, 16777215, none, 1, .none⟩,  -- ID_LQ
  ⟨0xD, 0x156, 1, 1, 12, .u24, .ro, 0, false, 0, 0, 16777215, none, 1, .none⟩]  -- ID_PSI

/-- Stages (R263, R290), continued. -/
def entriesDpart2 : List EntRow := [
  ⟨0xD, 0x157, 1, 1, 12, .u24, .ro, 0, false, 0, 0, 16777215, none, 1, .none⟩,  -- ID_OFS
  ⟨0xD, 0x158, 1, 1, 12, .s24, .rwi, 0, true, 0, (-8388608), 8388607, none, 1, .stage⟩,  -- ID_I_TEST
  ⟨0xD, 0x159, 1, 1, 12, .s24, .rwi, 0, true, 0, (-8388608), 8388607, none, 1, .stage⟩,  -- ID_SPD
  ⟨0xD, 0x15A, 1, 1, 12, .bool, .wo, 0, false, 0, 0, 1, none, 1, .none⟩,  -- ID_APPLY
  ⟨0xD, 0x200, 3, 1, 12, .u8, .rwi, 255, true, 0, 0, 255, none, 1, .stage⟩,  -- ZC_CW0 to ZC_CW2
  ⟨0xD, 0x203, 1, 1, 12, .u8, .rwi, 0, true, 0, 0, 29, none, 1, .stage⟩,  -- ADVANCE
  ⟨0xD, 0x204, 1, 1, 12, .u8, .rwi, 20, true, 0, 5, 50, none, 1, .stage⟩,  -- ZC_BLANK
  ⟨0xD, 0x205, 1, 1, 12, .u8, .rwi, 6, true, 0, 1, 64, none, 1, .stage⟩,  -- ZC_MISS_N
  ⟨0xD, 0x206, 1, 1, 12, .u8, .rwi, 10, true, 0, 0, 255, none, 1, .stage⟩,  -- D_ALIGN
  ⟨0xD, 0x207, 1, 1, 12, .u8, .rwi, 15, true, 0, 0, 255, none, 1, .stage⟩,  -- D_OL
  ⟨0xD, 0x208, 1, 1, 12, .u8, .rwi, 12, true, 0, 0, 255, none, 1, .stage⟩,  -- N_ZC
  ⟨0xD, 0x209, 1, 1, 12, .u16, .rwi, 0, true, 0, 0, 65535, none, 1, .stage⟩,  -- ZC_DELAY
  ⟨0xD, 0x20A, 1, 1, 12, .u16, .ro, 0, false, 0, 0, 65535, none, 1, .none⟩,  -- LATE_COMM_CNT
  ⟨0xD, 0x300, 1, 1, 12, .u8, .rwi, 0, true, 0, 0, 255, none, 1, .stage⟩,  -- TJ_REF_SRC
  ⟨0xD, 0x301, 1, 1, 12, .s24, .rwi, 0, true, 0, (-8388608), 8388607, none, 1, .stage⟩,  -- TJ_VON
  ⟨0xD, 0x302, 1, 1, 12, .u24, .rwi, 0, true, 0, 0, 16777215, none, 1, .stage⟩,  -- TJ_RON
  ⟨0xD, 0x303, 1, 1, 12, .u16, .rwi, 0, true, 0, 0, 65535, none, 1, .stage⟩,  -- TJ_RON_TC
  ⟨0xD, 0x304, 1, 1, 12, .u24, .rwi, 0, true, 0, 0, 16777215, none, 1, .stage⟩,  -- TJ_ESW
  ⟨0xD, 0x305, 1, 1, 12, .s24, .rwi, 0, true, 0, (-8388608), 8388607, none, 1, .stage⟩,  -- TJ_VREF
  ⟨0xD, 0x306, 1, 1, 12, .s24, .rwi, 0, true, 0, (-8388608), 8388607, none, 1, .stage⟩,  -- TJ_IREF
  ⟨0xD, 0x307, 1, 1, 12, .s16, .ro, 0, false, 0, (-32768), 32767, none, 1, .none⟩,  -- TJ_EST
  ⟨0xD, 0x310, 4, 1, 12, .u24, .rwi, 0, true, 0, 0, 16777215, none, 1, .stage⟩,  -- TJ_RTH0 to TJ_RTH3
  ⟨0xD, 0x314, 4, 1, 12, .u24, .rwi, 1, true, 0, 1, 16777215, none, 1, .stage⟩,  -- TJ_TAU0 to TJ_TAU3
  ⟨0xD, 0x400, 3, 1, 12, .s24, .rwi, 0, true, 0, (-8388608), 8388607, none, 1, .stage⟩,  -- GP_I_EDGE0 to GP_I_EDGE2
  ⟨0xD, 0x403, 1, 1, 12, .s16, .rwi, 1600, true, 0, (-32768), 32767, none, 1, .stage⟩,  -- GP_T_EDGE
  ⟨0xD, 0x410, 8, 1, 12, .u8, .rwi, 0, true, 0, 0, 15, none, 1, .stage⟩,  -- GP_MAP_ON0 to GP_MAP_ON7
  ⟨0xD, 0x418, 8, 1, 12, .u8, .rwi, 0, true, 0, 0, 15, none, 1, .stage⟩,  -- GP_MAP_OFF0 to GP_MAP_OFF7
  ⟨0xD, 0x500, 1, 1, 12, .s24, .rwi, 0, true, 0, (-8388608), 8388607, none, 1, .stage⟩,  -- V_FS
  ⟨0xD, 0x501, 1, 1, 12, .enum, .rwi, 0, true, 0, 0, 2, none, 1, .stage⟩,  -- CONV_MODE
  ⟨0xD, 0x502, 1, 1, 12, .s24, .rw, 0, false, 0, (-8388608), 8388607, none, 1, .none⟩,  -- VOUT_REF
  ⟨0xD, 0x503, 1, 1, 12, .s24, .rw, 0, false, 0, (-8388608), 8388607, none, 1, .none⟩,  -- IOUT_REF
  ⟨0xD, 0x504, 1, 1, 12, .s24, .rw, 0, false, 0, (-8388608), 8388607, none, 1, .none⟩,  -- P_REF
  ⟨0xD, 0x505, 1, 1, 12, .u24, .rwi, 100000, true, 0, 0, 16777215, none, 1, .stage⟩,  -- VOUT_SLEW
  ⟨0xD, 0x506, 1, 1, 12, .s24, .rw, 0, true, 0, (-8388608), 8388607, none, 1, .none⟩,  -- IOUT_LIM_POS
  ⟨0xD, 0x507, 1, 1, 12, .s24, .rw, 0, true, 0, (-8388608), 0, none, 1, .none⟩,  -- IOUT_LIM_NEG
  ⟨0xD, 0x508, 1, 1, 12, .s24, .rwi, 0, true, 0, (-8388608), 8388607, none, 1, .stage⟩,  -- P_LIM
  ⟨0xD, 0x509, 1, 1, 12, .s24, .rwi, 0, true, 0, (-8388608), 8388607, none, 1, .stage⟩,  -- VOUT_OV
  ⟨0xD, 0x50A, 1, 1, 12, .s24, .rwi, 0, true, 0, (-8388608), 8388607, none, 1, .stage⟩,  -- VOUT_UV
  ⟨0xD, 0x50B, 1, 1, 12, .u16, .rwi, 20, true, 0, 0, 65535, none, 1, .stage⟩,  -- VOUT_BW
  ⟨0xD, 0x50C, 1, 1, 12, .u16, .rwi, 2000, true, 0, 0, 65535, none, 1, .stage⟩]  -- IN_BW

/-- Stages (R263, R290), continued. -/
def entriesDpart3 : List EntRow := [
  ⟨0xD, 0x540, 1, 1, 12, .s24, .ro, 0, false, 0, (-8388608), 8388607, none, 1, .none⟩,  -- VIN_MEAS
  ⟨0xD, 0x541, 1, 1, 12, .s24, .ro, 0, false, 0, (-8388608), 8388607, none, 1, .none⟩,  -- VOUT_MEAS
  ⟨0xD, 0x542, 1, 1, 12, .s24, .ro, 0, false, 0, (-8388608), 8388607, none, 1, .none⟩,  -- IIN_MEAS
  ⟨0xD, 0x543, 1, 1, 12, .s24, .ro, 0, false, 0, (-8388608), 8388607, none, 1, .none⟩,  -- IOUT_MEAS
  ⟨0xD, 0x544, 1, 1, 12, .s24, .ro, 0, false, 0, (-8388608), 8388607, none, 1, .none⟩,  -- P_MEAS
  ⟨0xD, 0x545, 1, 1, 12, .u24, .ro, 0, false, 0, 0, 16777215, none, 1, .none⟩,  -- FSW_NOW
  ⟨0xD, 0x546, 1, 1, 12, .s24, .ro, 0, false, 0, (-8388608), 8388607, none, 1, .none⟩,  -- CTRL_VAR
  ⟨0xD, 0x547, 1, 1, 12, .u8, .ro, 0, false, 0, 0, 255, none, 1, .none⟩,  -- CONV_FLAGS
  ⟨0xD, 0x548, 1, 1, 12, .u24, .ro, 0, false, 0, 0, 16777215, none, 1, .none⟩,  -- GRID_FREQ
  ⟨0xD, 0x549, 1, 1, 12, .u8, .ro, 0, false, 0, 0, 255, none, 1, .none⟩,  -- PHASES_ON
  ⟨0xD, 0x550, 1, 1, 12, .u8, .rwi, 255, true, 0, 0, 7, (some 255), 1, .stage⟩,  -- PRE_CT
  ⟨0xD, 0x551, 1, 1, 12, .u8, .rwi, 255, true, 0, 0, 7, (some 255), 1, .stage⟩,  -- MAIN_CT
  ⟨0xD, 0x552, 1, 1, 12, .u16, .rwi, 2000, true, 0, 100, 20000, none, 1, .stage⟩,  -- PRE_TIME_MAX
  ⟨0xD, 0x553, 1, 1, 12, .u8, .rwi, 90, true, 0, 50, 99, none, 1, .stage⟩,  -- PRE_RATIO
  ⟨0xD, 0x554, 1, 1, 12, .u8, .rwi, 255, true, 0, 0, 255, none, 1, .stage⟩,  -- PRE_SRC_CH
  ⟨0xD, 0x555, 1, 1, 12, .u16, .rwi, 30, true, 0, 5, 500, none, 1, .stage⟩,  -- CT_DELAY
  ⟨0xD, 0x556, 1, 1, 12, .s24, .rwi, 2000, true, 0, (-8388608), 8388607, none, 1, .stage⟩,  -- CT_OPEN_I
  ⟨0xD, 0x557, 1, 1, 12, .u8, .rwi, 0, true, 0, 0, 255, none, 1, .stage⟩,  -- CT_FB_EN
  ⟨0xD, 0x558, 1, 1, 12, .u16, .ro, 0, false, 0, 0, 65535, none, 1, .none⟩,  -- CT_STATE
  ⟨0xD, 0x600, 1, 1, 12, .u16, .rwi, 30, true, 0, 0, 65535, none, 1, .stage⟩,  -- PLL_BW
  ⟨0xD, 0x601, 1, 1, 12, .s24, .rwi, 300000, true, 0, (-8388608), 8388607, none, 1, .stage⟩,  -- GRID_V_MIN
  ⟨0xD, 0x602, 1, 1, 12, .s24, .rwi, 480000, true, 0, (-8388608), 8388607, none, 1, .stage⟩,  -- GRID_V_MAX
  ⟨0xD, 0x603, 1, 1, 12, .u24, .rwi, 45000, true, 0, 0, 16777215, none, 1, .stage⟩,  -- GRID_F_MIN
  ⟨0xD, 0x604, 1, 1, 12, .u24, .rwi, 65000, true, 0, 0, 16777215, none, 1, .stage⟩,  -- GRID_F_MAX
  ⟨0xD, 0x605, 1, 1, 12, .s24, .rw, 0, true, 0, (-8388608), 8388607, none, 1, .none⟩,  -- Q_IREF
  ⟨0xD, 0x606, 1, 1, 12, .u16, .rwi, 20, true, 0, 0, 65535, none, 1, .stage⟩,  -- GRID_LOSS_T
  ⟨0xD, 0x610, 1, 1, 12, .u8, .rwi, 2, true, 0, 2, 3, none, 1, .stage⟩,  -- IL_LEGS
  ⟨0xD, 0x611, 1, 1, 12, .s24, .rwi, 10000, true, 0, (-8388608), 8388607, none, 1, .stage⟩,  -- ZC_BAND
  ⟨0xD, 0x612, 1, 1, 12, .u8, .rwi, 8, true, 0, 1, 64, none, 1, .stage⟩,  -- ZC_RAMP
  ⟨0xD, 0x613, 1, 1, 12, .u8, .rwi, 1, true, 0, 1, 3, none, 1, .stage⟩,  -- LEGS_MIN
  ⟨0xD, 0x614, 1, 1, 12, .s24, .rwi, 0, true, 0, (-8388608), 8388607, none, 1, .stage⟩,  -- SHED_I
  ⟨0xD, 0x700, 1, 1, 12, .u24, .rwi, 10000, true, 0, 0, 16777215, none, 1, .stage⟩,  -- DAB_N
  ⟨0xD, 0x701, 1, 1, 12, .u24, .rwi, 0, true, 0, 0, 16777215, none, 1, .stage⟩,  -- DAB_L
  ⟨0xD, 0x702, 1, 1, 12, .u16, .rwi, 6000, true, 0, 100, 9000, none, 1, .stage⟩,  -- PHI_MAX
  ⟨0xD, 0x703, 1, 1, 12, .s24, .rwi, 2000, true, 0, (-8388608), 8388607, none, 1, .stage⟩,  -- DAB_BIAS_MAX
  ⟨0xD, 0x704, 1, 1, 12, .u16, .rwi, 64, true, 0, 0, 1024, none, 1, .stage⟩,  -- BIAS_TRIM_MAX
  ⟨0xD, 0x710, 1, 1, 12, .enum, .rwi, 0, true, 0, 0, 2, none, 1, .stage⟩,  -- PSFB_SR
  ⟨0xD, 0x711, 1, 1, 12, .u8, .rwi, 90, true, 0, 10, 98, none, 1, .stage⟩,  -- D_MAX
  ⟨0xD, 0x712, 1, 1, 12, .u16, .ro, 0, false, 0, 0, 65535, none, 1, .none⟩,  -- SR_SKEW_CNT
  ⟨0xD, 0x713, 1, 1, 12, .u16, .rwi, 1280, true, 0, 0, 65535, none, 1, .stage⟩]  -- SR_DLY_ON

/-- Stages (R263, R290), continued. -/
def entriesDpart4 : List EntRow := [
  ⟨0xD, 0x714, 1, 1, 12, .u16, .rwi, 1280, true, 0, 0, 65535, none, 1, .stage⟩,  -- SR_ADV_OFF
  ⟨0xD, 0x720, 1, 1, 12, .s24, .rwi, 0, true, 0, (-8388608), 8388607, none, 1, .stage⟩,  -- BUCK_ADD_I
  ⟨0xD, 0x721, 1, 1, 12, .s24, .rwi, 0, true, 0, (-8388608), 8388607, none, 1, .stage⟩,  -- BUCK_DROP_I
  ⟨0xD, 0x722, 1, 1, 12, .u8, .rwi, 1, true, 0, 1, 12, none, 1, .stage⟩,  -- PHASES_MIN
  ⟨0xD, 0x900, 1, 1, 12, .u8, .rwi, 255, true, 0, 0, 255, none, 1, .stage⟩,  -- EFT_BASE
  ⟨0xD, 0x901, 1, 1, 12, .enum, .rwi, 0, true, 0, 0, 1, none, 1, .stage⟩,  -- EFT_TOPO
  ⟨0xD, 0x902, 1, 1, 12, .u8, .rwi, 255, true, 0, 0, 7, (some 255), 1, .stage⟩,  -- STAR_CT
  ⟨0xD, 0x903, 1, 1, 12, .u16, .rwi, 500, true, 0, 50, 10000, none, 1, .stage⟩,  -- T_STILL_PRE
  ⟨0xD, 0x904, 1, 1, 12, .u8, .rwi, 2, true, 0, 1, 16, none, 1, .stage⟩,  -- ROT_TOL
  ⟨0xD, 0x905, 1, 1, 12, .s24, .rwi, 100, true, 0, (-8388608), 8388607, none, 1, .stage⟩,  -- EFT_T_MAX
  ⟨0xD, 0x906, 1, 1, 12, .u8, .rwi, 4, true, 0, 1, 64, none, 1, .stage⟩,  -- EFT_T_N
  ⟨0xD, 0x907, 1, 1, 12, .s24, .rwi, 3000, true, 0, (-8388608), 8388607, none, 1, .stage⟩,  -- EFT_IDIFF_MAX
  ⟨0xD, 0x908, 1, 1, 12, .u8, .rwi, 4, true, 0, 1, 64, none, 1, .stage⟩,  -- EFT_IDIFF_N
  ⟨0xD, 0x909, 1, 1, 12, .u16, .rwi, 1000, true, 0, 0, 65535, none, 1, .stage⟩,  -- DIFF_BW
  ⟨0xD, 0x90A, 1, 1, 12, .s24, .rwi, 0, true, 0, (-8388608), 8388607, none, 1, .stage⟩,  -- SRC_V_MIN
  ⟨0xD, 0x90B, 1, 1, 12, .s24, .rwi, 0, true, 0, (-8388608), 8388607, none, 1, .stage⟩,  -- SRC_V_MAX
  ⟨0xD, 0x90C, 1, 1, 12, .u24, .ro, 0, false, 0, 0, 16777215, none, 1, .none⟩,  -- EFT_POS0
  ⟨0xD, 0x90D, 1, 1, 12, .s16, .ro, 0, false, 0, (-32768), 32767, none, 1, .none⟩,  -- EFT_ROT_DEV
  ⟨0xD, 0x90E, 1, 1, 12, .s24, .ro, 0, false, 0, (-8388608), 8388607, none, 1, .none⟩,  -- EFT_T_PEAK
  ⟨0xD, 0x90F, 1, 1, 12, .s24, .ro, 0, false, 0, (-8388608), 8388607, none, 1, .none⟩]  -- EFT_IDIFF_PEAK

/-- Stages (R263, R290), whole. -/
def entriesD : List EntRow := entriesDpart0 ++ entriesDpart1 ++ entriesDpart2 ++ entriesDpart3 ++ entriesDpart4

/-- Process maps (R425). -/
def entriesE : List EntRow := [
  ⟨0xE, 0x000, 1, 1, 32, .bool, .rw, 0, true, 0, 0, 1, none, 1, .none⟩,  -- RXM_ENABLE
  ⟨0xE, 0x001, 1, 1, 32, .enum, .rw, 0, true, 0, 0, 3, none, 1, .none⟩,  -- RXM_CTRL
  ⟨0xE, 0x002, 1, 1, 32, .u48, .rw, 0, true, 0, 0, 1073741823, none, 1, .none⟩,  -- RXM_ID
  ⟨0xE, 0x003, 1, 1, 32, .u8, .rw, 1, true, 0, 1, 16, none, 1, .none⟩,  -- RXM_WORDS
  ⟨0xE, 0x004, 1, 1, 32, .u24, .ro, 0, false, 0, 0, 16777215, none, 1, .none⟩,  -- RXM_ADDR
  ⟨0xE, 0x005, 1, 1, 32, .u24, .ro, 0, false, 0, 0, 16777215, none, 1, .none⟩,  -- RXM_COUNT
  ⟨0xE, 0x006, 1, 1, 32, .u16, .ro, 65535, false, 0, 0, 65535, none, 1, .none⟩,  -- RXM_AGE
  ⟨0xE, 0x007, 1, 1, 32, .u16, .ro, 0, false, 0, 0, 65535, none, 1, .none⟩,  -- RXM_SHORT_CNT
  ⟨0xE, 0x100, 32, 1, 16, .u16, .rw, 0, true, 0, 0, 65535, none, 1, .none⟩,  -- RXM_ITEM
  ⟨0xE, 0x200, 1, 1, 32, .bool, .rw, 0, true, 0, 0, 1, none, 1, .none⟩,  -- TXM_ENABLE
  ⟨0xE, 0x201, 1, 1, 32, .enum, .rw, 0, true, 0, 0, 3, none, 1, .none⟩,  -- TXM_CTRL
  ⟨0xE, 0x202, 1, 1, 32, .u48, .rw, 0, true, 0, 0, 1073741823, none, 1, .none⟩,  -- TXM_ID
  ⟨0xE, 0x203, 1, 1, 32, .enum, .rw, 2, true, 0, 0, 2, none, 1, .none⟩,  -- TXM_FORMAT
  ⟨0xE, 0x204, 1, 1, 32, .u16, .rw, 10, true, 0, 1, 10000, none, 1, .none⟩,  -- TXM_PERIOD
  ⟨0xE, 0x205, 1, 1, 32, .u8, .rw, 0, true, 0, 0, 16, none, 1, .none⟩,  -- TXM_ITEMS
  ⟨0xE, 0x206, 1, 1, 32, .u24, .ro, 0, false, 0, 0, 16777215, none, 1, .none⟩,  -- TXM_COUNT
  ⟨0xE, 0x300, 32, 1, 16, .key, .rw, 0, true, 0, 0, 16777215, none, 1, .none⟩,  -- TXM_KEY
  ⟨0xE, 0x400, 32, 1, 16, .u8, .rw, 3, true, 0, 1, 6, none, 1, .none⟩]  -- TXM_FMT

/-- The entry table of an area (R398); area F lists nothing. -/
def areaEntries : Nat → List EntRow
  | 0 => entries0
  | 1 => entries1
  | 2 => entries2
  | 3 => entries3
  | 4 => entries4
  | 5 => entries5
  | 6 => entries6
  | 7 => entries7
  | 8 => entries8
  | 9 => entries9
  | 10 => entriesA
  | 11 => entriesB
  | 12 => entriesC
  | 13 => entriesD
  | 14 => entriesE
  | _ => []

/-- AREA, ENTRY and ELEM of a key (R398). -/
def keyArea (k : Nat) : Nat := k / 1048576 % 16
/-- ENTRY of a key. -/
def keyEntry (k : Nat) : Nat := k / 256 % 4096
/-- ELEM of a key. -/
def keyElem (k : Nat) : Nat := k % 256
/-- The key area.entry.element. -/
def mkKey (area entry elem : Nat) : Nat := area * 1048576 + entry * 256 + elem

/-- The row lists this ENTRY and ELEM. -/
def EntRow.covers (r : EntRow) (e el : Nat) : Bool :=
  r.ent0 ≤ e && (e - r.ent0) % r.stride == 0 && (e - r.ent0) / r.stride < r.cnt && el < r.n

/-- The row that lists a key; none for a key that no chapter lists (R8). -/
def entRow (k : Nat) : Option EntRow :=
  (areaEntries (keyArea k)).find? (fun r => r.covers (keyEntry k) (keyElem k))

/-- The Default of a key (R6). C.020 CAN_ENABLE is 1 for CAN0 alone. A key that is not listed reads 0. -/
def entDefault (k : Nat) : Nat :=
  if k = mkKey 0xC 0x020 0 then 1 else
  match entRow k with
  | some r => r.dflt
  | none => 0

/-- Bytes of a type on the wire (R399); the SC_REC blob has 24 and its 3-byte length. -/
def EntType.bytes : EntType → Nat
  | .bool | .u8 | .s8 | .enum => 1
  | .u16 | .s16 => 2
  | .u24 | .s24 | .q23 | .key => 3
  | .u48 | .s48 | .t48 => 6
  | .str => 3
  | .blob => 27

/-- The type code of R399. -/
def EntType.code : EntType → Nat
  | .bool => 0 | .u8 => 1 | .s8 => 2 | .u16 => 3 | .s16 => 4 | .u24 => 5 | .s24 => 6 | .q23 => 7
  | .u48 => 8 | .s48 => 9 | .t48 => 10 | .enum => 11 | .key => 12 | .str => 13 | .blob => 14

/-- Signed types (R399). -/
def EntType.signed : EntType → Bool
  | .s8 | .s16 | .s24 | .q23 | .s48 => true
  | _ => false

/-- Bits of a value. -/
def EntType.width (t : EntType) : Nat := match t with
  | .bool => 1
  | .blob => 192
  | t => 8 * t.bytes

/-- Two's-complement reading of raw bits. -/
def asInt (width raw : Nat) : Int :=
  if raw % 2 ^ width < 2 ^ (width - 1) then (raw % 2 ^ width : Nat) else (raw % 2 ^ width : Nat) - (2 ^ width : Nat)

/-- The value the raw bits of an entry of this type stand for. -/
def EntType.value (t : EntType) (raw : Nat) : Int :=
  if t.signed then asInt t.width raw else (raw : Int)

/-- R401 check 6: the value is of its type and in its entry's own range or set. -/
def EntRow.accepts (r : EntRow) (raw : Nat) : Bool :=
  raw < 2 ^ r.ty.width &&
  let v := r.ty.value raw
  (r.extra == some v || (r.lo ≤ v && v ≤ r.hi && v % (r.step : Int) == 0))

end Sys2Proof.Machine
end

