-- ==== Sys2Proof/Machine/State.lean ====
section
/-! DEFINITION. The state of the part as plain data, one structure for each chapter of the spec, and the
state after reset. Entries of the dictionary are held in `ent` (keys of R398); what an engine port shows
or takes is computed from the structures (Machine/Ports.lean). A map lists no default (Machine/Tab.lean). -/

namespace Sys2Proof.Machine

/-- Why a command ends in a fault of the model. Raised by no meaning: every command of the part has an effect
the spec gives. The constructor keeps the type inhabited. Safe. -/
inductive Fault where
  /-- Never raised. Safe: nothing rests on it. -/
  | none
  deriving DecidableEq, Repr

/-- Why a command is refused by the model. -/
inductive Refusal where
  /-- Raised by `exec` alone, for a command whose meaning is not written yet. Safe: the run stops. -/
  | notModelled (mnemonic : String)
  deriving DecidableEq, Repr

/-! ### Loop engines (02_loop_engines.md) -/

/-- One hardware context (R32, R33). `sleep` holds rd and MASK of a WAITEV that sleeps (R52); `loads` the
outstanding fabric loads with the word each will write, `acks` the addresses of stores not yet acknowledged
(R25, R49, R55). `rdy`, `acRdy` and `cordic` are the values of CYC from which each register, each accumulator and the CORDIC
unit can be used (R55). -/
structure Ctx where
  w : Vector Word 16
  ac : Vector (BitVec 56) 2
  p : Vector Word 4
  pb : Vector Word 4
  ps : Vector (BitVec 16) 4
  pl : Vector (BitVec 16) 4
  f : Vector Bool 4
  sat : Bool
  acv : Bool
  csat : Bool
  lc : Vector Word 2
  loopStart : Vector (BitVec 13) 2
  loopEnd : Vector (BitVec 13) 2
  loops : Nat
  stack : List (BitVec 13)
  pc : BitVec 13
  cyc : Word
  budget : Word
  relnum : Word
  reltime : Word
  active : Bool
  sleep : Option (Fin 16 × BitVec 16)
  loads : List (Fin 16 × Word)
  acks : List Nat
  rdy : Vector Nat 16
  acRdy : Vector Nat 2
  cordic : Nat
  deriving DecidableEq, Repr

/-- A context with every register zero (R33). -/
def Ctx.zero : Ctx where
  w := .replicate 16 0
  ac := .replicate 2 0
  p := .replicate 4 0
  pb := .replicate 4 0
  ps := .replicate 4 0
  pl := .replicate 4 0
  f := .replicate 4 false
  sat := false
  acv := false
  csat := false
  lc := .replicate 2 0
  loopStart := .replicate 2 0
  loopEnd := .replicate 2 0
  loops := 0
  stack := []
  pc := 0
  cyc := 0
  budget := 0
  relnum := 0
  reltime := 0
  active := false
  sleep := none
  loads := []
  acks := []
  rdy := .replicate 16 0
  acRdy := .replicate 2 0
  cordic := 0

/-- One engine: the slots of its placed contexts (at most 6), the task that executed last (R55), and debug access (R68); `held` counts
the cycles that tasks have held it since the last round, and `busy` keeps the held and the clocked cycles of the last 100 rounds, newest first
(ENG_BUSY of R69). -/
structure Eng where
  slots : Vector (Option Nat) 6
  last : Option Nat
  halted : Bool
  debug : Bool
  held : Nat
  busy : List (Nat × Nat)
  deriving DecidableEq, Repr

/-- An engine that holds nothing. -/
def Eng.idle : Eng := ⟨.replicate 6 none, none, false, false, 0, []⟩

/-- One mailbox (R62, R63): the assigned producer, the front and the back record. -/
structure Mbox where
  kind : BitVec 4
  inst : BitVec 8
  assigned : Bool
  front : List Word
  time : Word
  valid : Bool
  back : List Word
  backTime : Word
  pending : Bool
  ovr : BitVec 8
  seq : BitVec 8
  deriving DecidableEq, Repr

/-- A mailbox at reset (R63). -/
def Mbox.empty : Mbox := ⟨0, 0, false, [], 0, false, [], 0, false, 0, 0⟩

/-- The engines: contexts by 6 × engine + slot, mailboxes by 4 × engine + number, post buffers by
32 × writer + word (writer 16 is the supervisor, R64). -/
structure Loop where
  ctx : Tab Ctx
  engs : Tab Eng
  mbox : Tab Mbox
  post : Tab Word
  deriving DecidableEq, Repr

/-- The word memories: program and local data by 8192 × engine + address, the shared tiles (R60), the
ferroelectric array (R329), the OTP words as burned and their shadows (R345, R346), by 256 × region + word. `upset` lists the words whose
stored code word differs from what was written in one bit (1) or in two (2), by 2^20 × memory + address: 0 program memory, 1 local data (R59),
2 the ferroelectric array (R329), 3 the OTP array (R346). -/
structure Mem where
  pm : Tab Word
  loc : Tab Word
  tile : Tab Word
  fram : Tab Word
  otp : Tab Word
  shadow : Tab Word
  upset : Tab Nat
  deriving DecidableEq, Repr

/-! ### Tasks and jobs (03_referee.md) -/

/-- A migration in progress (R88 to R90): the target engine and slot, its code, scratch and twin section, its mailboxes and
pending subscriptions; how far the load, the copy and the shadow are; what both engines did (stores to the PWM window and to
the state, as offsets). `shadowless` is the move of R90; `skips` counts copies not complete at a release, `seen`
says that release k has come, the first after the load. -/
structure Mig where
  dst : Nat
  slot : Nat
  code : Nat
  scratch : Nat
  twin : Nat
  mboxes : List (Option Nat)
  pend : BitVec 16
  shadowless : Bool
  loaded : Bool
  seen : Bool
  copying : Bool
  copied : Bool
  shadow : Bool
  skips : Nat
  yieldA : Bool
  yieldB : Bool
  capA : List (Nat × Word)
  capB : List (Nat × Word)
  stA : List (Nat × Word)
  stB : List (Nat × Word)
  verdict : Option Bool
  deriving DecidableEq, Repr

/-- What the Referee holds of one task beside its entries. `codeLen` is 0 while the task has no engine; `placed` once its code
is loaded. `wins` and `subs` are the image's port and subscription descriptors, `mboxes` the mailbox of each input; `pend` the
pending subscriptions (R52). `release` is the T48 of the activation's release (R58);
`gaps` the last gaps from YIELD to the next release, newest first, and `yieldAt` the last YIELD (R88). `supplyShed` says that a
supply warning shed it (R323); `subOvr` counts the overruns of each subscription (R28), `reload` says that code and state are to be loaded
again before the next release (R59), and `await` that a vendor kernel waits in its activation for its records (R244, R266). -/
structure TaskRt where
  placed : Bool
  engine : Nat
  slot : Nat
  code : Nat
  codeLen : Nat
  entry : Nat
  state : Nat
  stateLen : Nat
  scratch : Nat
  scratchLen : Nat
  wins : List (Word × Word × Word)
  subs : List Word
  pend : BitVec 16
  mboxes : List (Option Nat)
  relnum : Nat
  aborts : Nat
  armed : Bool
  pinned : Bool
  shed : Bool
  supplyShed : Bool
  release : Nat
  gaps : List Nat
  yieldAt : Option Nat
  mig : Option Mig
  mismatches : Nat
  lastMig : Option Nat
  lastTry : Option Nat
  subOvr : Tab Nat
  reload : Bool
  await : Bool
  deriving DecidableEq, Repr

/-- A task that nothing declares. -/
def TaskRt.none : TaskRt where
  placed := false
  engine := 0
  slot := 0
  code := 0
  codeLen := 0
  entry := 0
  state := 0
  stateLen := 0
  scratch := 0
  scratchLen := 0
  wins := []
  subs := []
  pend := 0
  mboxes := []
  relnum := 0
  aborts := 0
  armed := false
  pinned := false
  shed := false
  supplyShed := false
  release := 0
  gaps := []
  yieldAt := Option.none
  mig := Option.none
  mismatches := 0
  lastMig := Option.none
  lastTry := Option.none
  subOvr := []
  reload := false
  await := false

/-- The kinds of job (R96, R97, R450). -/
inductive JobKind where
  | kimgLoad | kimgDelete | patchLoad | shed | otpBurn | otpLock | otpComplete | otpAudit
  | train | retrain | satRead | precheck | place | ost | cwCheck | ident
  deriving DecidableEq, Repr

/-- A job in its slot (R94 to R98). `arg` and `data` are the operands its starting entry gave it, `pc` its own
place in its work, `total` the words its transfer brings (R408). Its state, key, progress, result, age and lock are the entries 2.090 to 2.095. -/
structure Job where
  kind : JobKind
  arg : Nat
  data : List Word
  pc : Nat
  steps : Nat
  expect : Nat
  limit : Nat
  prio : Nat
  cancellable : Bool
  cancel : Bool
  cleanup : Bool
  owner : Option Req
  born : Nat
  total : Nat
  deriving DecidableEq, Repr

/-- One quad: the T48 of its last step change, none since the start, and its direction (R81), and its relief flags (R83, R84). -/
structure Quad where
  lastChange : Option Nat
  lastUp : Bool
  warn : Bool
  throttle : Bool
  blocked : Bool
  deriving DecidableEq, Repr

/-- A quad at reset. -/
def Quad.off : Quad := ⟨none, false, false, false, false⟩

/-- Derating of one stage (R91 to R93): the present request is the entries 2.078 to 2.07A. -/
structure Derate where
  seq : BitVec 8
  stale : Bool
  count : Word
  countAt : Nat
  lastFsw : Nat
  derated : Bool
  reqAt : Nat
  ignored : Bool
  deriving DecidableEq, Repr

/-- Derating at reset. -/
def Derate.none : Derate := ⟨0, false, 0, 0, 0, false, 0, false⟩

/-- Tasks, quads, derating and jobs. `relief` is the T48 of the last relief step (R84), `rounds` counts rounds (R92), `due` says that
an evaluation at once is due (R70). -/
structure Ref where
  task : Tab TaskRt
  quad : Tab Quad
  derate : Tab Derate
  job : List (Nat × Job)
  relief : Option Nat
  rounds : Nat
  due : Bool
  deriving DecidableEq, Repr

/-! ### Faults (11_faults.md) -/

/-- A fault report on its way to the collector (R293). -/
structure Report where
  code : Nat
  inj : Bool
  deriving DecidableEq, Repr

/-- One latch entry (R297, A.020 and A.021). -/
structure Latch where
  slot : Nat
  code : Nat
  cls : Nat
  live : Bool
  cond : Bool
  inj : Bool
  seq : Nat
  hasRec : Bool
  inWin : Bool
  deriving DecidableEq, Repr

/-- One Scorecard record (R299); its CRC word is computed from the others. `read` says that a client has read
it (R301). -/
structure ScRec where
  used : Bool
  t48 : Nat
  code : Nat
  cls : Nat
  clsFirst : Nat
  merged : Bool
  gone : Bool
  inj : Bool
  cleared : Bool
  prior : Bool
  mergeCnt : Nat
  count : Nat
  mg : List Nat
  seq : Nat
  read : Bool
  deriving DecidableEq, Repr

/-- An empty ring index. -/
def ScRec.empty : ScRec := ⟨false, 0, 0, 0, 0, false, false, false, false, false, 0, 0, [], 0, false⟩

/-- An open reaction window (R300): its record's SEQ, when it opened, whether it is an injected fault's, and whether its record is new, so that it
is notified when the window closes (R306). -/
structure RWin where
  seq : Nat
  at48 : Nat
  inj : Bool
  fresh : Bool
  deriving DecidableEq, Repr

/-- The fault collector and the trip matrix. `live` lists the codes whose condition stands (R297), `src` the
levels of the matrix sources and `injSrc` the injected ones (R295, R307), `kills` and `bankOff` the collector's
own commands (R291), `win` is the newest open window and `wins` those opened before it, `unconf` the outputs a reaction still waits for (0-31 lanes, 32-43 half-bridges), `copies`
the SEQs that wait for their persistent copy (R303). `okStuck` says that
OKAY_STUCK_HIGH has set the driver high-impedance (R304). `lastAt` holds when a fault raised at most once per 1 ms was
raised last, `frej` and `fsent` the counts of FRQSTAT (R311). -/
structure Flt where
  reports : List Report
  live : List Nat
  latch : List Latch
  ring : Tab ScRec
  win : Option RWin
  wins : List RWin
  unconf : List Nat
  copies : List Nat
  src : BitVec 128
  injSrc : BitVec 128
  kills : BitVec 36
  bankOff : BitVec 4
  static : BitVec 36
  okStuck : Bool
  frej : BitVec 8
  fsent : BitVec 8
  lastAt : List (Nat × Nat)
  deriving DecidableEq, Repr

/-! ### Notifications and sessions (16_dictionary_protocol.md) -/

/-- A notification that waits (R306, R415): its T48, NTYPE, class and body from byte 15 on. -/
structure Notif where
  t48 : Nat
  ntype : Nat
  cls : Nat
  body : List Byte
  deriving DecidableEq, Repr

/-- A response: OP, ERR, KEY and body (R403). -/
structure Resp where
  tag : BitVec 6
  op : Nat
  err : Nat
  detail : Nat
  key : Nat
  body : List Byte
  deriving DecidableEq, Repr

/-- A segmented transfer (R407, R408). For a WRITE, `total` bytes are awaited and `data` holds what came;
for a READ, `data` is the snapshot and `sent` the bytes already sent. -/
structure Seg where
  tag : BitVec 6
  op : Nat
  key : Nat
  write : Bool
  total : Nat
  counter : BitVec 8
  acked : BitVec 8
  sent : Nat
  data : List Byte
  deriving DecidableEq, Repr

/-- One session (R411, R412): version and level are the entries 0.012 and 0.013. `nonce` is the live challenge,
with its level and the T48 of its issue, `lockout` the T48 at which a lockout ends; `stored` the last response of each tag (R409); `fmt` the frame format of each tag's request: 0 CLASSIC, 1 FD,
2 FD_BRS (R391). -/
structure Sess where
  num : BitVec 8
  helloed : Bool
  nonce : Option (Nat × Nat × Nat)
  fails : Nat
  lockout : Option Nat
  inUse : List (BitVec 6)
  resp : List Resp
  stored : List Resp
  segs : List Seg
  notif : List Notif
  nseq : BitVec 8
  lost : Nat
  fmt : Tab Nat
  deriving DecidableEq, Repr

/-- A transport with no session. -/
def Sess.none : Sess := ⟨0, false, Option.none, 0, Option.none, [], [], [], [], [], 0, 0, []⟩

/-- The LOCAL port (R404, R405): consecutive discarded transactions, the KIND of the frame it sends (0 none, 1 response,
2 notification) with its bytes, whether a transaction has carried it, and the notifications in its transmit queue. -/
structure Local where
  bad : Nat
  kind : Nat
  out : List Byte
  sent : Bool
  queue : List (List Byte)
  deriving DecidableEq, Repr

/-! ### PWM (04_pwm.md) -/

/-- The pending registers of one generator (R116, R133). `floored` travels with a recognised set: a value was raised to a
floor (R118). -/
structure GenSet where
  cmpa : Word
  cmpb : Word
  cmpc : Word
  cmpd : Word
  dtr : BitVec 16
  dtf : BitVec 16
  minp : BitVec 13
  prof : BitVec 16
  floored : Bool
  deriving DecidableEq, Repr

/-- The set of a cluster (R116): its four generators, PERIOD, PAGE and MASK_EN. -/
structure ClSet where
  g : Vector GenSet 4
  period : BitVec 20
  page : BitVec 3
  maskEn : Bool
  deriving DecidableEq, Repr

/-- The pending registers at reset: the INIT defaults and floors of R134. -/
def GenSet.reset : GenSet := ⟨0xFFFFFF, 0xFFFFFF, 0xFFFFFF, 0xFFFFFF, 3200, 3200, 0, 0, false⟩

/-- The set at reset: nominal PERIOD 20000, page 0, MASK_EN = 0. -/
def ClSet.reset : ClSet := ⟨.replicate 4 GenSet.reset, 20000, 0, false⟩

/-- The three states of a cluster (R106). -/
inductive ClState where
  | off | running | latched
  deriving DecidableEq, Repr

/-- One edge (R111, R115): side, direction and its absolute edge time in fine steps. -/
structure Edge where
  high : Bool
  on : Bool
  t : Nat
  deriving DecidableEq, Repr

/-- One cluster. `outenReq` is OUTEN as set, `outen` as the last reload took it (R106), `runOn` whether the running period's
outputs are enabled. `cur` defines the running period, `applied` the next one (R14); `transfer`, `waiting` and `apply`
hold a set on its way (R117 to R119); `hold` says the sides (high, low) that trips hold off for the rest of the
period (R123); `start48` is the T48 of the running period's reload;
`cut` says that its cutoff is past (R15), `starting` that a slave waits for its start (R106). -/
structure Cl where
  st : ClState
  outen : Bool
  outenReq : Bool
  runOn : Bool
  carrier : BitVec 19
  rldnum : Word
  len : Nat
  start48 : Nat
  pending : ClSet
  transfer : Option ClSet
  waiting : Option ClSet
  apply : Option ClSet
  applied : ClSet
  cur : Option ClSet
  late : Bool
  lastapp : Word
  rejReason : BitVec 4
  tripHit : BitVec 4
  tripcnt : Nat
  clean : Nat
  cut : Bool
  starting : Bool
  counted : Bool
  holdH : Bool
  holdL : Bool
  bt : Vector Bool 2
  deriving DecidableEq, Repr

/-- A cluster at reset: OFF, its carrier stopped at 0 (R106). -/
def Cl.reset : Cl where
  st := .off
  outen := false
  outenReq := false
  runOn := false
  carrier := 0
  rldnum := 0
  len := 20000
  start48 := 0
  pending := ClSet.reset
  transfer := none
  waiting := none
  apply := none
  applied := ClSet.reset
  cur := none
  late := false
  lastapp := 0
  rejReason := 0
  tripHit := 0
  tripcnt := 0
  clean := 0
  cut := false
  starting := false
  counted := false
  holdH := false
  holdL := false
  bt := .replicate 2 false

/-- One generator: the levels at the end of the last converted period (R110), the ideal level there (R109), the
pulses in progress and the last falls as absolute fine steps (R112, R114), the edges of the running and of the next
period, the sides marked for restart (R123), the refresh count (R128), the low-side rises of the refreshes in the running and in the next
period as absolute fine steps, each with the count before it (R127), the status bits of R133, and whether the sides of a PWMO pair are active. -/
structure Gen where
  hEnd : Bool
  lEnd : Bool
  ideal : Bool
  hRise : Int
  lRise : Int
  hFall : Option Int
  lFall : Option Int
  edges : List Edge
  next : List Edge
  markH : Bool
  markL : Bool
  refCnt : Nat
  refAt : Option (Nat × Nat)
  refNext : Option (Nat × Nat)
  range : Bool
  dtFloor : Bool
  minpAct : Bool
  refresh : Bool
  bstWarn : Bool
  refShort : Bool
  maskRsv : Bool
  pinH : Bool
  pinL : Bool
  resuming : Bool
  deriving DecidableEq, Repr

/-- A generator at reset: both sides off. -/
def Gen.reset : Gen where
  hEnd := false
  lEnd := false
  ideal := false
  hRise := 0
  lRise := 0
  hFall := none
  lFall := none
  edges := []
  next := []
  markH := false
  markL := false
  refCnt := 0
  refAt := none
  refNext := none
  range := false
  dtFloor := false
  minpAct := false
  refresh := false
  bstWarn := false
  refShort := false
  maskRsv := false
  pinH := false
  pinL := false
  resuming := false

/-- One delay line (R102, R103): the tap counts of chains A and B in 1/8 tap, the chain in service, when its table was made, and the
tap at which it placed its last edge. -/
structure Line where
  a : Option Nat
  b : Option Nat
  useB : Bool
  measured : Bool
  at48 : Nat
  tap : Nat
  deriving DecidableEq, Repr

/-- A line without a table. -/
def Line.reset : Line := ⟨none, none, false, false, 0, 0⟩

/-- The PWM block. `clkLost` lists the clocks outside their window, as instances of group 0x0A (R23, R131). -/
structure Pwm where
  cl : Tab Cl
  gen : Tab Gen
  line : Tab Line
  clkLost : List Nat
  deriving DecidableEq, Repr

/-! ### Lanes (05_gate_lanes.md): 0 to 31 are L0 to L31, 32 to 35 are D0 to D3 -/

/-- The lane states (R159) in the codes of LSTAT.STATE. -/
inductive LaneSt where
  | off | training | active | retraining | holdOnly | failed
  deriving DecidableEq, Repr

/-- An edge command on its way down (R138); SEQ is given when it enters the serialiser (R140). -/
structure LaneCmd where
  op : Nat
  side : BitVec 2
  prof : BitVec 4
  t : EdgeTime
  pos : Nat
  deriving DecidableEq, Repr

/-- A downstream frame (R145). -/
structure Frame where
  ty : Nat
  words : List Word
  deriving DecidableEq, Repr

/-- What a transmitter sends (R147): its level of priority, the command or frame, and when it began and how long it takes, in ticks. -/
structure Sending where
  level : Nat
  cmd : Option LaneCmd
  frame : Option Frame
  at48 : Nat
  ticks : Nat
  deriving DecidableEq, Repr

/-- One lane: link state, the queues of its transmitter by priority (R147), its Volley (R150, R151), what the last STATUS
and alarm told (R155), its counters, and the work of its training (R148). `line` is the last command that left, `prog` the item in the
serialiser, `tx` the code groups it last put on the line, `rd` the running disparity after them (true for positive) and `sinceK` the characters
since the last K28.5 (R136, R137); `pathD` is the path delay averaged over eight exchanges (R152), `tail` the last bits of the last
TEST frame received, `alarmCode` the fault code whose recording releases the alarm source (R154), `waitRun` the positions whose RUN ends
LINK_LOSS (R12), `cfgNow` the positions that a repeat of steps 6 and 7 names (R172), and `locked` says that a fourth retrain trigger set the lane
FAILED (R157). -/
structure Lane where
  st : LaneSt
  gen : Nat
  vlock : Nat
  sat : Nat
  resumeNeeded : Bool
  kill : Bool
  alarm : Bool
  qHold : List LaneCmd
  qEdge : List LaneCmd
  qVolley : Bool
  qAdj : List LaneCmd
  qProf : List LaneCmd
  qFrame : List Frame
  line : Option LaneCmd
  seq : BitVec 6
  cmdcnt : Word
  t1 : Option EdgeTime
  vseq : BitVec 6
  thetas : List Int
  delays : List Int
  resid : Int
  alone : Nat
  good : Nat
  bad : Nat
  miss : Nat
  exchanges : Nat
  drop : Nat
  lateTx : Nat
  lateAt : Option Nat
  codeErr : Nat
  codeAt : List Nat
  crcErr : Nat
  kills : Nat
  alarms : Nat
  retrains : Nat
  autoAt : List Nat
  offConf : Bool
  bstWarn : Bool
  vsecUv : Bool
  satLate : BitVec 8
  satStp : BitVec 8
  satGap : BitVec 8
  satTemp : BitVec 16
  profCrc : BitVec 16
  cause : BitVec 8
  etdly : BitVec 16
  ettrn : BitVec 16
  satId : Word
  serial : BitVec 48
  caps : Word
  nonce : BitVec 16
  step : Nat
  tries : Nat
  answered : Bool
  fail : Nat
  readVal : Option Word
  genArmed : Nat
  genSat : Nat
  lossSeen : Bool
  cfgDue : Nat
  prog : Option Sending
  tx : List (BitVec 10)
  rd : Bool
  sinceK : Nat
  pathD : Int
  tail : List Bool
  alarmCode : Option Nat
  waitRun : Nat
  cfgNow : Nat
  locked : Bool
  statusAt : Option Nat
  deriving DecidableEq, Repr

/-- A lane at reset: OFF, its satellite unknown (R164). -/
def Lane.reset : Lane where
  st := .off
  gen := 0
  vlock := 0
  sat := 3
  resumeNeeded := false
  kill := false
  alarm := false
  qHold := []
  qEdge := []
  qVolley := false
  qAdj := []
  qProf := []
  qFrame := []
  line := none
  seq := 0
  cmdcnt := 0
  t1 := none
  vseq := 0
  thetas := []
  delays := []
  resid := 0
  alone := 0
  good := 0
  bad := 0
  miss := 0
  exchanges := 0
  drop := 0
  lateTx := 0
  lateAt := none
  codeErr := 0
  codeAt := []
  crcErr := 0
  kills := 0
  alarms := 0
  retrains := 0
  autoAt := []
  offConf := false
  bstWarn := false
  vsecUv := false
  satLate := 0
  satStp := 0
  satGap := 0
  satTemp := 0
  profCrc := 0
  cause := 0
  etdly := 0
  ettrn := 0
  satId := 0
  serial := 0
  caps := 0
  nonce := 0
  step := 0
  tries := 0
  answered := false
  fail := 0
  readVal := none
  genArmed := 0
  genSat := 0
  lossSeen := false
  cfgDue := 0
  prog := none
  tx := []
  rd := false
  sinceK := 0
  pathD := 0
  tail := []
  alarmCode := none
  waitRun := 0
  cfgNow := 0
  locked := false
  statusAt := none

/-- The lanes, and what the device's receivers hold of their upstream characters. -/
structure Lanes where
  lane : Tab Lane
  rx : Tab Rx
  deriving DecidableEq, Repr

/-! ### Integrated drivers (06_integrated_drivers.md) -/

/-- The states of a half-bridge (R143, R169). -/
inductive HbSt where
  | safeHold | run | alarm | test
  deriving DecidableEq, Repr

/-- An edge that the P-die has queued (R141), with the SEQ of its command (R155). -/
structure QEdge where
  high : Bool
  on : Bool
  prof : BitVec 2
  t : Int
  seq : BitVec 6
  deriving DecidableEq, Repr

/-- How a gate is driven (R171): the profile word of its last edge, an EDGE_ON where `on`, made at the T48 `at48`; `forced` says that a cause of R170
turned it off instead, at level `sink`. -/
structure Drive where
  word : Word
  on : Bool
  at48 : Nat
  forced : Bool
  sink : BitVec 4
  deriving DecidableEq, Repr

/-- A gate at reset: off at the Default profile. -/
def Drive.reset : Drive := ⟨0xF7F7, false, 0, true, 15⟩

/-- One half-bridge on the P-die (its configuration is in `Drv.cfg`): queue, holds, gates with their drive, and monitors. Times are P-die fine
steps. `clampH` and `clampL` are the hold switches (R170), `stuckH` and `stuckL` say that a
gate's monitor reads on although it is commanded off (R175); `cause` is the cause its ALARM frame carries, `cur` the test current (0 none,
1 sink, 2 source, 3 with the peer, 4 sink for another's test). For what coincides (R179): the T48 at which a cause last turned the gates off and
what they were, of the last alarm, and of the last RESUME. -/
structure Hb where
  st : HbSt
  queue : List QEdge
  hOn : Bool
  lOn : Bool
  driveH : Drive
  driveL : Drive
  clampH : Bool
  clampL : Bool
  holdH : Option Int
  holdL : Option Int
  stpWait : Bool
  resumeT : Int
  bstWarn : Bool
  bstUv : Bool
  vdsH : Bool
  vdsL : Bool
  gateFault : Bool
  stp : BitVec 8
  bstUvCnt : BitVec 8
  vds : BitVec 8
  cause : BitVec 8
  cur : Nat
  stuckH : Bool
  stuckL : Bool
  offAt : Option Nat
  wasH : Bool
  wasL : Bool
  alarmAt : Option Nat
  resumeAt : Option Nat
  deriving DecidableEq, Repr

/-- A half-bridge at reset: SAFE_HOLD, its gates clamped. -/
def Hb.reset : Hb where
  st := .safeHold
  queue := []
  hOn := false
  lOn := false
  driveH := Drive.reset
  driveL := Drive.reset
  clampH := true
  clampL := true
  holdH := none
  holdL := none
  stpWait := false
  resumeT := 0
  bstWarn := false
  bstUv := false
  vdsH := false
  vdsL := false
  gateFault := false
  stp := 0
  bstUvCnt := 0
  vds := 0
  cause := 0
  cur := 0
  stuckH := false
  stuckL := false
  offAt := none
  wasH := false
  wasL := false
  alarmAt := none
  resumeAt := none

/-- The P-die's end of a link lane: the SEQ it expects (none: the base is not set), its generation and nonce, its time
offset from the device (R150), a TIME_ADJ that waits for a free tick (R162), the marker time (R158), loss of activity (R12), what it counts,
and the frames it sends up; `train` says that it has not been trained since a TRAIN_REQ or a loss of activity (R12, R148), `asm` holds the
characters that its receiver takes one by one, and `tx`, `rd` and `sinceK` are those of its transmitter (R136, R137); `crcErr` counts frames discarded for their CRC or length (R145), `badOp` commands of OP 0x9 to 0xF (R139); `tests`
and `tail` are the TEST frames it has sent and the last bits of the last it received. -/
structure DLane where
  seq : Option (BitVec 6)
  lastSeq : BitVec 6
  gen : BitVec 8
  nonce : BitVec 16
  theta : Int
  adj : Int
  lost : Bool
  markT : Int
  r1 : EdgeTime
  late : BitVec 8
  gap : BitVec 8
  codeErr : BitVec 8
  up : List Frame
  crcErr : BitVec 8
  badOp : BitVec 8
  tests : Nat
  tail : List Bool
  train : Bool
  asm : Asm
  tx : List (BitVec 10)
  rd : Bool
  sinceK : Nat
  rxRd : Bool
  deriving DecidableEq, Repr

/-- A link lane end at reset. -/
def DLane.reset : DLane := ⟨none, 0, 0, 0, 0, 0, false, 0, 0, 0, 0, 0, [], 0, 0, 0, [], false, Asm.empty, [], false, 0, false⟩

/-- What the C-die holds of a half-bridge from STATUS, ALARM and EDGE_TELE (R181), and its RESUME_NEEDED (R168). -/
structure HbView where
  st : BitVec 2
  offConf : Bool
  bstWarn : Bool
  cause : BitVec 8
  resumeNeeded : Bool
  etd : BitVec 16
  ett : BitVec 16
  deriving DecidableEq, Repr

/-- The view at reset: state unknown. -/
def HbView.reset : HbView := ⟨3, false, false, 0, false, 0, 0⟩

/-- The integrated drivers. `prof` holds the profile words as delivered, by 64 × link lane + 16 × (0 high, 1 low) +
wire profile; `gvdd` is GVDD_STATE in the codes of 6.001; `linkLoss` and `bank` are the BKSTAT flags; `die` says that a
cause for all twelve stands (KILL, supplies, shutdown temperature). -/
structure Drv where
  hb : Tab Hb
  dl : Tab DLane
  view : Tab HbView
  prof : Tab Word
  cfg : Tab Word
  gvdd : Nat
  bankWire : BitVec 4
  linkLoss : BitVec 4
  killPin : Bool
  deriving DecidableEq, Repr

/-! ### Acquisition (07_acquisition.md) -/

/-- A trigger in the schedule or the queue of a converter (R187, R188). -/
structure Trig where
  trig : Nat
  untimed : Bool
  late : Bool
  t : EdgeTime
  deriving DecidableEq, Repr

/-- The sequence a converter runs (R184, R188): its descriptor as it was when it started. -/
structure SeqRun where
  seq : Nat
  trig : Trig
  len : Nat
  chans : List Nat
  slot : Nat
  delayed : Bool
  hold : Nat
  codes : List (BitVec 16)
  deriving DecidableEq, Repr

/-- One converter: schedule, queue and running sequence on the P-die; on the C-die the part of a record received, the
triggers whose record is awaited with the sequence that each named when it went out (R192), and the T48 of the last two faults of R203.
`partTrig` is the trigger of the part received. -/
structure Adc where
  sched : List Trig
  queue : List Trig
  run : Option SeqRun
  part : List Word
  partTrig : Nat
  await : List (Nat × EdgeTime × Nat)
  drop : Nat
  late : Nat
  delayed : Nat
  dropAt : Option Nat
  lateAt : Option Nat
  deriving DecidableEq, Repr

/-- A converter at reset. -/
def Adc.reset : Adc := ⟨[], [], none, [], 0, [], 0, 0, 0, none, none⟩

/-- One sigma-delta filter (R195, R197): the bits of its windows, newest first, each with whether it is a substitute, the T48 at which the
oldest bit of the last slot entered, and the latest outputs. -/
structure Sd where
  bits : List (Bool × Bool)
  slotAt : Option Nat
  data : Word
  ocv : Word
  sat : Bool
  lost : Bool
  fed : Bool
  run : Nat
  oc : Bool
  lostCnt : Nat
  deriving DecidableEq, Repr

/-- A filter at reset. -/
def Sd.reset : Sd := ⟨[], none, 0, 0, false, false, false, 0, false, 0⟩

/-- One latch group (R196): its record count and the centred latches that wait, oldest first, each with the T48 of its trigger. -/
structure Lg where
  count : BitVec 8
  wait : List (Nat × Nat)
  deriving DecidableEq, Repr

/-- One comparator (R198 to R201): the wire and its comparisons, run-time thresholds, and readback failures. -/
structure Cw where
  out : Bool
  above : Bool
  below : Bool
  masked : Bool
  pend : Bool
  clamped : Bool
  changes : BitVec 8
  time : Word
  reqHi : BitVec 10
  reqLo : BitVec 10
  appHi : BitVec 10
  appLo : BitVec 10
  failHi : Bool
  failLo : Bool
  deriving DecidableEq, Repr

/-- A comparator at reset: thresholds at the CW_HI and CW_LO defaults. -/
def Cw.reset : Cw := ⟨false, false, false, false, false, false, 0, 0, 1023, 0, 1023, 0, false, false⟩

/-- A write of an entry whose words the P-die holds (R193): its response follows the readback of `words` from address `addr` of link lane
`d`; the entry held `old` before. -/
structure CfgWait where
  q : Req
  key : Nat
  old : Nat
  d : Nat
  addr : Nat
  words : List Word
  deriving DecidableEq, Repr

/-- Acquisition: converters, channel results by 16 × converter + channel, sequence record counts, filters, groups,
comparators, housekeeping codes with the T48 of each, the DAC on the readback bus, the channels of the conversions requested of HKADC with the scan slots since the last of them, and the
writes that wait for their readback. -/
structure Acq where
  adc : Tab Adc
  res : Tab Word
  seqCnt : Tab (BitVec 8)
  sd : Tab Sd
  lg : Tab Lg
  cw : Tab Cw
  hk : Tab (BitVec 12 × Nat)
  hkNext : Nat
  hkRun : Bool
  hkReq : List Nat
  hkSince : Nat
  rb : Option Nat
  waits : List CfgWait
  deriving DecidableEq, Repr

/-! ### Position feedback (08_position_feedback.md) -/

/-- One compare entry (R217, R228): what is in force, what the stores of CTCFG and CTSTEP ask for, and its status. -/
structure Ct where
  target : Word
  cfg : BitVec 7
  step : BitVec 23
  reqCfg : BitVec 7
  reqStep : BitVec 23
  armed : Bool
  behind : Bool
  fires : BitVec 8
  deriving DecidableEq, Repr

/-- A compare entry at reset. -/
def Ct.reset : Ct := ⟨0, 0, 0, 0, 0, false, false, 0⟩

/-- A reader's snapshot (R223): QSPD, QPER, QSTAT, QETIME and QANGLE. -/
structure Snap where
  spd : Word
  per : Word
  stat : Word
  etime : Word
  angle : Word
  deriving DecidableEq, Repr

/-- A snapshot at the port resets of R227. -/
def Snap.reset : Snap := ⟨0, 0xFFFFFF, 3, 0, 0⟩

/-- One interface. `hist` holds edge times, newest first (R213); directions are true for down. -/
structure Qe where
  on : Bool
  acc : BitVec 2
  samp : BitVec 2
  pend : Bool
  pos : Word
  suspect : Bool
  still : Bool
  valid : Bool
  speed : Int
  period : Nat
  dir : Bool
  dirRaw : Bool
  prev : Option Bool
  hist : List Nat
  last : Option Nat
  rawrev : Bool
  idxSeen : Bool
  idxLevel : Bool
  idxDone : Bool
  idxPos : Word
  idxRef : Word
  flt : Nat
  leak : Nat
  reject : BitVec 8
  illegal : BitVec 8
  illAt : Option Nat
  fastAt : Option Nat
  faultN : Nat
  qcmp : Bool
  pulse : Bool
  capPos : Word
  capSpd : Word
  capDt : BitVec 23
  capValid : Bool
  posSet : Word
  ct : Vector Ct 16
  snaps : Tab Snap
  deriving DecidableEq, Repr

/-- An interface at reset: stopped, QSTAT with VALID and STILL (R227). -/
def Qe.reset : Qe where
  on := false
  acc := 0
  samp := 0
  pend := false
  pos := 0
  suspect := false
  still := true
  valid := true
  speed := 0
  period := 0xFFFFFF
  dir := false
  dirRaw := false
  prev := none
  hist := []
  last := none
  rawrev := false
  idxSeen := false
  idxLevel := false
  idxDone := false
  idxPos := 0
  idxRef := 0
  flt := 0
  leak := 0
  reject := 0
  illegal := 0
  illAt := none
  fastAt := none
  faultN := 0
  qcmp := false
  pulse := false
  capPos := 0
  capSpd := 0
  capDt := 0
  capValid := false
  posSet := 0
  ct := .replicate 16 Ct.reset
  snaps := []

/-! ### Non-volatile store (13_nonvolatile_store.md) -/

/-- A journal record that waits in the write queue (R333, R335): its key, type, value words and SEQ, and the request
whose response waits for its commit. -/
structure JRec where
  key : Nat
  ty : Nat
  seq : Nat
  words : List Word
  owner : Option Req
  answered : Bool
  deriving DecidableEq, Repr

/-- A Shed in progress (R339): the step reached (2 copying, 3 catching up, 4 the target's header due, 5 the old bank's), the target's GEN and S0, the
next word of the target, the SEQ up to which records are copied, the writes made in the job step that goes on (0 between steps), and the word up to
which the old bank has been read. -/
structure ShedRun where
  step : Nat
  gen : Nat
  s0 : Nat
  pos : Nat
  upTo : Nat
  made : Nat
  seen : Nat
  deriving DecidableEq, Repr

/-- The journal service, the patch slots and the OTP array. `writing` says that the first record's first write has
begun (R336), `pos` is where the next record is written. `marks` holds the flags MARGINAL and CORRECTED of R354 by
256 × region + word, `ovr` the overrides (R347); `deferred` says that the deferral of R323 has deferred a record. `blocks` holds the
writes of headers and status blocks that wait, each a list of runs of words; `order` the kinds of the deferred writes in the order in which
they were deferred (R323): 0 a record, 1 a Scorecard copy, 2 a header or status block. -/
structure Nvm where
  queue : List JRec
  writing : Bool
  bank : Nat
  gen : Nat
  seq : Nat
  next : Nat
  pos : Nat
  shed : Option ShedRun
  deferred : Bool
  ovr : Tab (Option Word)
  marks : Tab (BitVec 5)
  blocks : List (List (Nat × List Word))
  order : List Nat
  deriving DecidableEq, Repr

/-- The service before replay. -/
def Nvm.reset : Nvm := ⟨[], false, 0, 0, 0, 1, 8, none, false, [], [], [], []⟩

/-! ### Monitors (12_monitors.md) -/

/-- One temperature sensor (R313 to R319): TS0 to TS11 are 0 to 11, NTC0 to NTC15 are 12 to 27, the satellites of L0 to L31
28 to 59. `held` says which of warning, throttle and shutdown it holds, `up` and `down` count the consecutive rounds that
would enter and leave each (R314); `far` and `near` count for R317; `seenAt` is the T48 of the last round counted and
whether it was a slow one. -/
structure Sensor where
  temp : BitVec 16
  valid : Bool
  range : Bool
  suspect : Bool
  fast : Bool
  acmp : Bool
  held : Vector Bool 3
  up : Vector Nat 3
  down : Vector Nat 3
  far : Nat
  near : Nat
  xdev : Int
  seenAt : Option (Nat × Bool)
  deriving DecidableEq, Repr

/-- A sensor before its first round. -/
def Sensor.reset : Sensor :=
  ⟨0, false, false, false, false, false, .replicate 3 false, .replicate 3 0, .replicate 3 0, 0, 0, 0, none⟩

/-- One supply (R321): the levels that hold. -/
structure Supply where
  warn : Bool
  ovwarn : Bool
  reset : Bool
  ovreset : Bool
  deriving DecidableEq, Repr

/-- A supply in range. -/
def Supply.ok : Supply := ⟨false, false, false, false⟩

/-- The monitors: sensors, supplies with their measured values in mV (R321) and the lowest of each, the maxima of R320 with
their sources, the running debounce of R323, and WARNCNT. -/
structure Mon where
  sensor : Tab Sensor
  supply : Tab Supply
  volts : Vector (BitVec 16) 6
  lowest : Vector (BitVec 16) 6
  measured : Bool
  maxC : BitVec 16 × BitVec 8
  maxP : BitVec 16 × BitVec 8
  maxS : BitVec 16 × BitVec 8
  debounce : Bool
  warnCnt : BitVec 8
  deriving DecidableEq, Repr

/-- The monitors at reset (R327). -/
def Mon.reset : Mon :=
  ⟨[], [], .replicate 6 0, .replicate 6 0, false, (0x8000, 0xFF), (0x8000, 0xFF), (0x8000, 0xFF), false, 0⟩

/-! ### Start-up and power states (14_startup_and_power_states.md) -/

/-- The wake configuration in the always-on domain (R369, R370, R394): the timer's seconds, LOCAL, and for each controller
WAKE_EN, WAKE_MODE and WAKE_T. -/
structure Wake where
  timer : Nat
  localOn : Bool
  can : List (Bool × Nat × Nat)
  deriving DecidableEq, Repr

/-- The wake configuration at its Defaults. -/
def Wake.none : Wake := ⟨0, true, List.replicate 4 (false, 0, 5)⟩

/-- The boot sequence, the start-attempt counter and the always-on domain. `inReset` until the release of reset; `step` is the
step of R361 that runs, 0 outside a boot; `cause` the code of R358; `failed` is the BOOT_FAIL_REASON that waits for its reset
and `stuck` the step that a Tadpole-bound start repeats (R362); `otpFail` a failure found at step 4; `safe` a SAFE_STOP
raised in BOOT (R356); `count` and `fails` the counter and START_FAIL; `bor` the 3-bit cell of R359; `standby` the step of
R369, `standbyReq` its request; `heldWake` a wake during step 5; `nrstOut` nRST driven low and `nrstIn` held low from outside;
`sc` the last Scorecard records in the always-on domain (R299); `uncleared` says that a start has begun and the counter has not been cleared since
(R364). -/
structure Boot where
  inReset : Bool
  step : Nat
  cause : Nat
  keptAon : Bool
  tadpole : Bool
  failed : Nat
  stuck : Nat
  otpFail : Nat
  safe : Bool
  reached : Nat
  reason : Nat
  fault : Nat
  count : Nat
  fails : List Nat
  bor : BitVec 3
  wake : Wake
  standby : Nat
  standbyReq : Option Req
  heldWake : Option Nat
  nrstOut : Bool
  nrstIn : Bool
  factory : Bool
  trial : Bool
  slot : Option Nat
  fwVer : Word
  sc : List ScRec
  uncleared : Bool
  deriving DecidableEq, Repr

/-- The device in its power-on reset, cause POR (R358). -/
def Boot.reset : Boot where
  inReset := true
  step := 0
  cause := 1
  keptAon := false
  tadpole := false
  failed := 0
  stuck := 0
  otpFail := 0
  safe := false
  reached := 0xFF
  reason := 0
  fault := 0
  count := 0
  fails := [0, 0, 0]
  bor := 0
  wake := Wake.none
  standby := 0
  standbyReq := none
  heldWake := none
  nrstOut := true
  nrstIn := false
  factory := false
  trial := false
  slot := none
  fwVer := 0
  sc := []
  uncleared := false

/-! ### CAN controllers (15_can_fd.md) -/

/-- The states of a controller (R382) in the codes of C.023. -/
inductive CanSt where
  | off | integrating | errorActive | errorPassive | busOff | recovering
  deriving DecidableEq, Repr

/-- A transmit buffer (R384): the active copy, the shadow, failed attempts, and the order in which shadows were copied. -/
structure TxBuf where
  active : Option CanFrame
  shadow : Option CanFrame
  tries : Nat
  order : Nat
  deriving DecidableEq, Repr

/-- An empty buffer. -/
def TxBuf.empty : TxBuf := ⟨none, none, 0, 0⟩

/-- A FIFO entry (R388): the frame and T48[23:0] at the end of EOF. -/
structure RxF where
  frame : CanFrame
  time : Word
  deriving DecidableEq, Repr

/-- A clash record (R392): identifier with IDE, and the T48 of its last clashes, newest first. -/
structure Clash where
  ident : BitVec 29
  ide : Bool
  times : List Nat
  deriving DecidableEq, Repr

/-- One controller: state, error counters, the timing in force (NBRP to DSJW, TDC_MODE and TDC_OFS), MONITOR, the buffer on the
wire, a STOP that waits for the frame in progress, buffers, FIFOs and clash records; `lostResp` counts the responses discarded
since bus-off (R419). -/
structure Can where
  st : CanSt
  tec : Nat
  rxErr : Nat
  timing : List Nat
  monitor : Bool
  wire : Option Nat
  stopping : Bool
  bufs : Tab TxBuf
  copies : Nat
  rf0 : List RxF
  rf1 : List RxF
  clash : List Clash
  lostResp : Nat
  deriving DecidableEq, Repr

/-- A controller at reset. -/
def Can.reset : Can := ⟨.off, 0, 0, [1, 127, 32, 32, 1, 29, 10, 10, 1, 30], false, none, false, [], 0, [], [], [], 0⟩

/-! ### Test and debug access (R446) -/

/-- The test access port: instruction, the boundary cells as captured and as updated, the levels that EXTEST or CLAMP hold on
the pins, and the 48-bit debug register. -/
structure Tap where
  ir : BitVec 5
  captured : List Bool
  updated : List Bool
  driven : Option (List Bool)
  dbg : BitVec 48
  deriving DecidableEq, Repr

/-- After Test-Logic-Reset IDCODE is selected. -/
def Tap.reset : Tap := ⟨1, [], [], none, 0⟩

/-! ### Stages and conversion (09_motor_stages.md, 10_conversion_stages.md) -/

/-- The states of a stage (R236) in the codes of D.011 STAGE_STATE. -/
inductive StageSt where
  | off | ready | precheck | armed | run | rampdown | halted
  deriving DecidableEq, Repr

/-- One stage beside its entries: its state; the contactors commanded to open once the current allows it (R270); a DISARM of an
EFT stage that waits for its star contactor (R285); and what the precheck's present wait holds: a count, and the T48 of its
start and of its last reading; `openAt` is the T48 at which `opening` was commanded. -/
structure Stg where
  st : StageSt
  opening : BitVec 8
  disarming : Bool
  cnt : Nat
  since : Nat
  readAt : Nat
  openAt : Nat
  deriving DecidableEq, Repr

/-- A stage at reset. -/
def Stg.reset : Stg := ⟨.off, 0, false, 0, 0, 0, 0⟩

/-- What FOC_CURRENT keeps of an identification (R259): the step of its table that runs (0 none) and the part of it, since the T48 `since`; the
voltage and current of the part before, the result once there is one, and whether the index search found no index. -/
structure Ident where
  step : Nat
  part : Nat
  since : Nat
  volt : Int
  cur : Int
  res : Option Int
  lost : Bool
  deriving DecidableEq, Repr

/-- No identification. -/
def Ident.none : Ident := ⟨0, 0, 0, 0, 0, .none, false⟩

/-- What the kernels in the roles of one stage keep from one activation to the next (R239 to R258, R271 to R286); R235 leaves its form to
them (log entry 33). `phase` is RUN_MODE since the T48 `since`; `cur`, `volt` and `vbus` hold the newest measurement in mA and mV; `ofsN` and
`ofs` the offset calibration; the flags what the status words show; then the counts of consecutive periods of each check, and the T48 since
which a timed one holds; the setpoint: its last fresh T48, the alive counter, whether it timed out, the reference (in 1/400000) and the one a
ramp left; the integrators; the open-loop angle (in 2^-40 turn) and speed, the speed in use and the QE zero of this run; what six-step
commutation keeps (sector, the last crossing, the last two intervals, CHANGES at the end of blanking, the commutation that is due); the active
phases and the T48 of their last change; the conversion variable, the grid and Eft values (with the squares of a half-cycle or the peak of 25 ms,
the T48 since which lock is lost and the frequency it holds); the losses of R260 with the network of TJ_MODEL in nK, and the bands of R261; the
last voltage of the d and q controllers and the identification (R259); and the references of the legs with the integrators of their loops (R267,
R275, R281, R286). -/
structure Kern where
  phase : Nat
  since : Nat
  cur : List Int
  volt : List Int
  vbus : Int
  ofsN : Nat
  ofs : List Int
  ofsDone : Bool
  limited : Bool
  rampDone : Bool
  valid : Bool
  oc : Nat
  high : Nat
  low : Nat
  fast : Nat
  quiet : Nat
  hold : Nat
  stallAt : Option Nat
  setAt : Nat
  alive : Nat
  expired : Bool
  ref : Int
  left : Int
  tq : Int
  spI : Int
  id : Int
  iq : Int
  idRef : Int
  iqRef : Int
  dI : Int
  qI : Int
  ang : Nat
  ol : Int
  spd : Int
  zero : Option Nat
  sector : Nat
  cross : Option Nat
  gaps : List Nat
  chg : Option (BitVec 8)
  done : Bool
  commAt : Nat
  comm : Option Nat
  miss : Nat
  late : Nat
  legs : Nat
  legsAt : Nat
  started : Bool
  ctrl : Int
  freq : Nat
  vin : Int
  lockAt : Option Nat
  badV : Option Nat
  badF : Option Nat
  neg : Bool
  zcRamp : Nat
  skew : Nat
  change : Option (Word × Word)
  above : Nat
  below : Nat
  bias : Nat
  trim : Int
  tN : Nat
  dN : Nat
  tPk : Int
  dPk : Int
  loss : List (List Int)
  lossV : Int
  lossN : Nat
  lossT : Nat
  sent : List (List Int)
  sentV : Int
  sentT : Nat
  sq : Int
  sqN : Nat
  lostAt : Option Nat
  foster : List Int
  tjN : Nat
  bands : List (Nat × Nat)
  vd : Int
  vq : Int
  idn : Ident
  heldF : Nat
  refs : List Int
  legI : List Int
  deriving DecidableEq, Repr

/-- The kernels of a stage before their first activation. -/
def Kern.reset : Kern where
  phase := 0
  since := 0
  cur := []
  volt := []
  vbus := 0
  ofsN := 0
  ofs := []
  ofsDone := false
  limited := false
  rampDone := false
  valid := false
  oc := 0
  high := 0
  low := 0
  fast := 0
  quiet := 0
  hold := 0
  stallAt := none
  setAt := 0
  alive := 0
  expired := false
  ref := 0
  left := 0
  tq := 0
  spI := 0
  id := 0
  iq := 0
  idRef := 0
  iqRef := 0
  dI := 0
  qI := 0
  ang := 0
  ol := 0
  spd := 0
  zero := none
  sector := 0
  cross := none
  gaps := []
  chg := none
  done := false
  commAt := 0
  comm := none
  miss := 0
  late := 0
  legs := 0
  legsAt := 0
  started := false
  ctrl := 0
  freq := 0
  vin := 0
  lockAt := none
  badV := none
  badF := none
  neg := false
  zcRamp := 0
  skew := 0
  change := none
  above := 0
  below := 0
  bias := 0
  trim := 0
  tN := 0
  dN := 0
  tPk := 0
  dPk := 0
  loss := []
  lossV := 0
  lossN := 0
  lossT := 0
  sent := []
  sentV := 0
  sentT := 0
  sq := 0
  sqN := 0
  lostAt := none
  foster := []
  tjN := 0
  bands := []
  vd := 0
  vq := 0
  idn := Ident.none
  heldF := 0
  refs := []
  legI := []

/-- What the guard of a stage keeps (R250, R272, R287): its counts of consecutive periods, the LASTAPP of each cluster when it was last seen
to advance and the periods since. -/
structure Guard where
  oc : Nat
  high : Nat
  low : Nat
  fast : Nat
  sum : Nat
  pos : Nat
  apps : List Word
  dead : List Nat
  above : Nat
  below : Nat
  tN : Nat
  dN : Nat
  deriving DecidableEq, Repr

/-- A guard before its first activation. -/
def Guard.reset : Guard := ⟨0, 0, 0, 0, 0, 0, [], [], 0, 0, 0, 0⟩

/-- The stages with what their kernels and guards keep, and the contactor outputs and feedbacks of CT0 to CT7 (R268). -/
structure Stages where
  stg : Tab Stg
  kern : Tab Kern
  guard : Tab Guard
  cto : BitVec 8
  ctf : BitVec 8
  deriving DecidableEq, Repr

/-- The whole part. -/
structure State where
  pending : List Instr
  t48 : BitVec 48
  free : Nat
  ent : Tab Nat
  decl : Tab Nat
  evBus : List Nat
  due : List Nat
  loop : Loop
  mem : Mem
  ref : Ref
  flt : Flt
  ses : Tab Sess
  lport : Local
  pwm : Pwm
  lanes : Lanes
  drv : Drv
  acq : Acq
  qes : Tab Qe
  stages : Stages
  nvm : Nvm
  mon : Mon
  boot : Boot
  cans : Tab Can
  rxAt : Tab Nat
  tap : Tap
  deriving DecidableEq, Repr

/-- The machine right after reset: in its power-on reset, every entry at its Default, nothing placed, declared, trained or
switched on (R355, R361, R373). The ferroelectric array and the tiles read 0; the OTP array holds what the part leaves the
factory with (R345, Machine/Crc.lean). -/
def State.reset : State where
  pending := []
  t48 := 0
  free := 0
  ent := []
  decl := []
  evBus := []
  due := []
  loop := ⟨[], [], [], []⟩
  mem := ⟨[], [], [], [], otpShipped, [], []⟩
  ref := ⟨[], [], [], [], none, 0, false⟩
  flt := ⟨[], [], [], [], none, [], [], [], 0, 0, 0, 0, 0, false, 0, 0, []⟩
  ses := []
  lport := ⟨0, 0, [], false, []⟩
  pwm := ⟨[], [], [], []⟩
  lanes := ⟨[], []⟩
  drv := ⟨[], [], [], [], [], 0, 0, 0, false⟩
  acq := ⟨[], [], [], [], [], [], [], 0, false, [], 0, none, []⟩
  qes := []
  stages := ⟨[], [], [], 0, 0⟩
  nvm := Nvm.reset
  mon := Mon.reset
  boot := Boot.reset
  cans := []
  rxAt := []
  tap := Tap.reset

end Sys2Proof.Machine
end

