-- ==== Sys2Proof/Machine/Ops.lean ====
section
/-! DEFINITION. The named operations over the state that every chapter shares: entries of the dictionary, events on
the bus, reports to the fault collector and their live conditions, holders of resources, and the records held in maps. -/

namespace Sys2Proof.Machine

/-- A word from its bits, least significant first. -/
def bits (w : Nat) : List Bool → BitVec w
  | [] => 0
  | b :: r => (bits w r <<< 1) ||| (if b then 1 else 0)

/-- A word from fields (value, shift). -/
def fields (w : Nat) (l : List (Nat × Nat)) : BitVec w :=
  BitVec.ofNat w (l.foldl (fun a p => a + p.1 * 2 ^ p.2) 0)

/-- Bits [hi:lo] of a number. -/
def field (n hi lo : Nat) : Nat := n / 2 ^ lo % 2 ^ (hi + 1 - lo)

/-- A number as one bit. -/
def b2n (b : Bool) : Nat := if b then 1 else 0

/-- The effect where a condition holds. -/
def State.whenS (s : State) (c : Bool) (f : State → State) : State := if c then f s else s

/-! ### Entries -/

/-- The raw bits an entry holds. -/
def State.getKey (s : State) (k : Nat) : Nat := Tab.get entDefault s.ent k

/-- The raw bits of entry area.entry.elem. -/
def State.en (s : State) (a e i : Nat) : Nat := s.getKey (mkKey a e i)

/-- The signed value of a U or S entry of `w` bits. -/
def State.enS (s : State) (w a e i : Nat) : Int := asInt w (s.en a e i)

/-- An entry takes a value. -/
def State.putKey (s : State) (k v : Nat) : State := { s with ent := Tab.set entDefault s.ent k v }

/-- Entry area.entry.elem takes a value. -/
def State.put (s : State) (a e i v : Nat) : State := s.putKey (mkKey a e i) v

/-- A saturating counter entry advances. -/
def State.bump (s : State) (k lim : Nat) : State := s.putKey k (min lim (s.getKey k + 1))

/-- What the declaration in force says of an entry (R71, R230); an undeclared one reads as the snapshot's default. -/
def State.dc (s : State) (a e i : Nat) : Nat := Tab.get entDefault s.decl (mkKey a e i)

/-- The snapshot of one entry at a declaration. -/
def State.putDecl (s : State) (k v : Nat) : State := { s with decl := Tab.set entDefault s.decl k v }

/-- The snapshot of a list of entries at a declaration. -/
def State.snapDecl (s : State) (ks : List Nat) : State := ks.foldl (fun s k => s.putDecl k (s.getKey k)) s

/-- The snapshot returns to the defaults. -/
def State.clearDecl (s : State) (ks : List Nat) : State := ks.foldl (fun s k => s.putDecl k (entDefault k)) s

/-! ### Free values -/

/-- The next free value's index: the step reads the counter and advances it. -/
def State.tick (s : State) : State := { s with free := s.free + 1 }

/-! ### Time -/

/-- The ticks that have passed since a T48 `a`; T48 wraps (R13). -/
def State.since (s : State) (a : Nat) : Nat := (s.t48 - BitVec.ofNat 48 a).toNat

/-! ### Bit errors of the memories (R59, R329, R346) -/

/-- How many bits of a stored code word differ: 0, 1 or 2. -/
def State.upset (s : State) (m a : Nat) : Nat := Tab.get (fun _ => 0) s.mem.upset (2 ^ 20 * m + a)

/-- Words that are written, or corrected as they are read, are right again. -/
def State.heal (s : State) (m a n : Nat) : State :=
  let lo := 2 ^ 20 * m + a
  { s with mem := { s.mem with upset := s.mem.upset.filter (fun p => decide (p.1 < lo) || decide (lo + n ≤ p.1)) } }

/-- The words of a run that hold an error of `n` bits. -/
def State.upsets (s : State) (m a len n : Nat) : Nat :=
  (s.mem.upset.filter (fun p => decide (2 ^ 20 * m + a ≤ p.1) && decide (p.1 < 2 ^ 20 * m + a + len) && p.2 == n)).length

/-! ### Events -/

/-- An event pulse is put on the event bus (R27). -/
def State.raiseEv (s : State) (n : Nat) : State := { s with evBus := s.evBus ++ [n] }

/-! ### Fault reports -/

/-- A report is asserted at the collector input (R293). -/
def State.report (s : State) (code : Nat) : State :=
  { s with flt := { s.flt with reports := s.flt.reports ++ [⟨code, false⟩] } }

/-- An injected report (R307). -/
def State.reportInj (s : State) (code : Nat) : State :=
  { s with flt := { s.flt with reports := s.flt.reports ++ [⟨code, true⟩] } }

/-- The live condition of a code of kind C stands; it is reported where it did not stand before (R297). -/
def State.condOn (s : State) (code : Nat) : State :=
  if s.flt.live.contains code then s
  else { s with flt := { s.flt with live := s.flt.live ++ [code], reports := s.flt.reports ++ [⟨code, false⟩] } }

/-- The records that a fault of a code lies in (R300, R301): its own of this start, and the one that its latch entry points to, which a window may have
it share. -/
def Flt.recsOf (x : Flt) (code : Nat) (inj : Bool) : List Nat :=
  (x.latch.filter (fun l => l.code == code && l.inj == inj && l.hasRec)).map (·.seq)
    ++ (x.ring.filter (fun (p : Nat × ScRec) => p.2.code == code && p.2.inj == inj)).map (fun p => p.2.seq)

/-- A record whose condition returns to 0 before it was first read gets GONE_BEFORE_READ (R301). -/
def ScRec.goes (r : ScRec) (seqs : List Nat) : Bool := r.used && seqs.contains r.seq && !r.read && !r.cleared && !r.prior && !r.gone

/-- A report that is raised at most once per `n` ticks. -/
def State.every (s : State) (code n : Nat) : State :=
  match s.flt.lastAt.find? (·.1 = code) with
  | some p => if s.since p.2 < n then s else
      ({ s with flt := { s.flt with lastAt := (code, s.t48.toNat) :: s.flt.lastAt.filter (·.1 != code) } }).report code
  | none => ({ s with flt := { s.flt with lastAt := (code, s.t48.toNat) :: s.flt.lastAt } }).report code

/-- A fault that is raised at most once per 1 ms (400 000 ticks). -/
def State.limited (s : State) (code : Nat) : State := s.every code 400000

/-- A condition of kind C that is raised at most once per `n` ticks. -/
def State.condEvery (s : State) (code n : Nat) : State :=
  if s.flt.live.contains code then s
  else State.every { s with flt := { s.flt with live := s.flt.live ++ [code] } } code n

/-! ### Records held in maps -/

/-- The context in a slot, by 6 × engine + slot. -/
def State.ctx (s : State) (k : Nat) : Ctx := Tab.get (fun _ => Ctx.zero) s.loop.ctx k
/-- A context changes. -/
def State.setCtx (s : State) (k : Nat) (c : Ctx) : State :=
  { s with loop := { s.loop with ctx := Tab.set (fun _ => Ctx.zero) s.loop.ctx k c } }
/-- An engine. -/
def State.eng (s : State) (e : Nat) : Eng := Tab.get (fun _ => Eng.idle) s.loop.engs e
/-- An engine changes. -/
def State.setEng (s : State) (e : Nat) (x : Eng) : State :=
  { s with loop := { s.loop with engs := Tab.set (fun _ => Eng.idle) s.loop.engs e x } }
/-- Mailbox m of engine n, by 4 × n + m. -/
def State.mb (s : State) (k : Nat) : Mbox := Tab.get (fun _ => Mbox.empty) s.loop.mbox k
/-- A mailbox changes. -/
def State.setMb (s : State) (k : Nat) (x : Mbox) : State :=
  { s with loop := { s.loop with mbox := Tab.set (fun _ => Mbox.empty) s.loop.mbox k x } }
/-- A task's run-time record. -/
def State.task (s : State) (t : Nat) : TaskRt := Tab.get (fun _ => TaskRt.none) s.ref.task t
/-- A task's run-time record changes. -/
def State.setTask (s : State) (t : Nat) (x : TaskRt) : State :=
  { s with ref := { s.ref with task := Tab.set (fun _ => TaskRt.none) s.ref.task t x } }
/-- A quad. -/
def State.quad (s : State) (q : Nat) : Quad := Tab.get (fun _ => Quad.off) s.ref.quad q
/-- A quad changes. -/
def State.setQuad (s : State) (q : Nat) (x : Quad) : State :=
  { s with ref := { s.ref with quad := Tab.set (fun _ => Quad.off) s.ref.quad q x } }
/-- Derating of a stage. -/
def State.derate (s : State) (g : Nat) : Derate := Tab.get (fun _ => Derate.none) s.ref.derate g
/-- Derating of a stage changes. -/
def State.setDerate (s : State) (g : Nat) (x : Derate) : State :=
  { s with ref := { s.ref with derate := Tab.set (fun _ => Derate.none) s.ref.derate g x } }
/-- A cluster. -/
def State.cl (s : State) (c : Nat) : Cl := Tab.get (fun _ => Cl.reset) s.pwm.cl c
/-- A cluster changes. -/
def State.setCl (s : State) (c : Nat) (x : Cl) : State :=
  { s with pwm := { s.pwm with cl := Tab.set (fun _ => Cl.reset) s.pwm.cl c x } }
/-- A generator. -/
def State.gen (s : State) (g : Nat) : Gen := Tab.get (fun _ => Gen.reset) s.pwm.gen g
/-- A generator changes. -/
def State.setGen (s : State) (g : Nat) (x : Gen) : State :=
  { s with pwm := { s.pwm with gen := Tab.set (fun _ => Gen.reset) s.pwm.gen g x } }
/-- The count of the chain in service, where it is valid (R102). -/
def Line.count (x : Line) : Option Nat := if x.useB then x.b else x.a

/-- The table of the chain in service (R102): fine step f is placed at tap round(f × N / 32), N counted in 1/8 tap; without a valid table
fine steps are ignored (R103). -/
def Line.tapOf (x : Line) (f : Nat) : Nat := match x.count with | some n => (f * n + 128) / 256 | none => 0

/-- A delay line. -/
def State.line (s : State) (i : Nat) : Line := Tab.get (fun _ => Line.reset) s.pwm.line i
/-- A delay line changes. -/
def State.setLine (s : State) (i : Nat) (x : Line) : State :=
  { s with pwm := { s.pwm with line := Tab.set (fun _ => Line.reset) s.pwm.line i x } }

/-- Line `i` places an edge stated for a fine step (R102, R103): PWMO0 to PWMO7 are lines 0 to 7, QCMP0 to QCMP3 are 8 to 11, the
transmitters of L0 to L31 and D0 to D3 are 12 to 47. -/
def State.placeEdge (s : State) (i fine : Nat) : State := s.setLine i { s.line i with tap := (s.line i).tapOf (fine % 32) }

/-- A lane. -/
def State.lane (s : State) (l : Nat) : Lane := Tab.get (fun _ => Lane.reset) s.lanes.lane l
/-- A lane changes. -/
def State.setLane (s : State) (l : Nat) (x : Lane) : State :=
  { s with lanes := { s.lanes with lane := Tab.set (fun _ => Lane.reset) s.lanes.lane l x } }
/-- What the receiver of a lane holds. -/
def State.rx (s : State) (l : Nat) : Rx := Tab.get (fun _ => Rx.reset) s.lanes.rx l
/-- What the receiver of a lane holds changes. -/
def State.setRx (s : State) (l : Nat) (x : Rx) : State :=
  { s with lanes := { s.lanes with rx := Tab.set (fun _ => Rx.reset) s.lanes.rx l x } }
/-- A half-bridge. -/
def State.hb (s : State) (h : Nat) : Hb := Tab.get (fun _ => Hb.reset) s.drv.hb h
/-- A half-bridge changes. -/
def State.setHb (s : State) (h : Nat) (x : Hb) : State :=
  { s with drv := { s.drv with hb := Tab.set (fun _ => Hb.reset) s.drv.hb h x } }
/-- The P-die's end of a link lane. -/
def State.dl (s : State) (d : Nat) : DLane := Tab.get (fun _ => DLane.reset) s.drv.dl d
/-- The P-die's end of a link lane changes. -/
def State.setDl (s : State) (d : Nat) (x : DLane) : State :=
  { s with drv := { s.drv with dl := Tab.set (fun _ => DLane.reset) s.drv.dl d x } }
/-- The C-die's view of a half-bridge. -/
def State.view (s : State) (h : Nat) : HbView := Tab.get (fun _ => HbView.reset) s.drv.view h
/-- The C-die's view of a half-bridge changes. -/
def State.setView (s : State) (h : Nat) (x : HbView) : State :=
  { s with drv := { s.drv with view := Tab.set (fun _ => HbView.reset) s.drv.view h x } }
/-- The words of R172 and R193 as the P-die holds them before anything is delivered: those of the entries' Defaults. -/
def cfgDefault (k : Nat) : Word :=
  let a := k % 256
  if a < 0x30 then
    (if a % 16 = 1 then 3 else if a % 16 = 2 then 20 else if a % 16 = 3 then 4 else if a % 16 = 4 then 3
     else if a % 16 = 5 then 1 else 0)
  else if 0x40 ≤ a ∧ a < 0x60 then (if a % 4 = 0 then 0xFF else 0)
  else if 0x60 ≤ a ∧ a < 0x78 then (if a % 2 = 0 then 0x80 else 0x3FF)
  else 0
/-- A configuration word of bank d on the P-die. -/
def State.cfgWord (s : State) (d a : Nat) : Nat := (Tab.get cfgDefault s.drv.cfg (256 * d + a)).toNat
/-- A configuration word is written. -/
def State.setCfgWord (s : State) (d a : Nat) (w : Word) : State :=
  { s with drv := { s.drv with cfg := Tab.set cfgDefault s.drv.cfg (256 * d + a) w } }
/-- A temperature sensor. -/
def State.sensor (s : State) (i : Nat) : Sensor := Tab.get (fun _ => Sensor.reset) s.mon.sensor i
/-- A temperature sensor changes. -/
def State.setSensor (s : State) (i : Nat) (x : Sensor) : State :=
  { s with mon := { s.mon with sensor := Tab.set (fun _ => Sensor.reset) s.mon.sensor i x } }
/-- A supply. -/
def State.supply (s : State) (i : Nat) : Supply := Tab.get (fun _ => Supply.ok) s.mon.supply i
/-- A supply changes. -/
def State.setSupply (s : State) (i : Nat) (x : Supply) : State :=
  { s with mon := { s.mon with supply := Tab.set (fun _ => Supply.ok) s.mon.supply i x } }
/-- A CAN controller. -/
def State.can (s : State) (n : Nat) : Can := Tab.get (fun _ => Can.reset) s.cans n
/-- A CAN controller changes. -/
def State.setCan (s : State) (n : Nat) (x : Can) : State := { s with cans := Tab.set (fun _ => Can.reset) s.cans n x }
/-- A converter. -/
def State.adc (s : State) (a : Nat) : Adc := Tab.get (fun _ => Adc.reset) s.acq.adc a
/-- A converter changes. -/
def State.setAdc (s : State) (a : Nat) (x : Adc) : State :=
  { s with acq := { s.acq with adc := Tab.set (fun _ => Adc.reset) s.acq.adc a x } }
/-- A sigma-delta filter. -/
def State.sd (s : State) (f : Nat) : Sd := Tab.get (fun _ => Sd.reset) s.acq.sd f
/-- A sigma-delta filter changes. -/
def State.setSd (s : State) (f : Nat) (x : Sd) : State :=
  { s with acq := { s.acq with sd := Tab.set (fun _ => Sd.reset) s.acq.sd f x } }
/-- A latch group. -/
def State.lg (s : State) (g : Nat) : Lg := Tab.get (fun _ => ⟨0, []⟩) s.acq.lg g
/-- A latch group changes. -/
def State.setLg (s : State) (g : Nat) (x : Lg) : State :=
  { s with acq := { s.acq with lg := Tab.set (fun _ => ⟨0, []⟩) s.acq.lg g x } }
/-- A comparator. -/
def State.cw (s : State) (c : Nat) : Cw := Tab.get (fun _ => Cw.reset) s.acq.cw c
/-- A comparator changes. -/
def State.setCw (s : State) (c : Nat) (x : Cw) : State :=
  { s with acq := { s.acq with cw := Tab.set (fun _ => Cw.reset) s.acq.cw c x } }
/-- A quadrature interface. -/
def State.qe (s : State) (n : Nat) : Qe := Tab.get (fun _ => Qe.reset) s.qes n
/-- A quadrature interface changes. -/
def State.setQe (s : State) (n : Nat) (x : Qe) : State := { s with qes := Tab.set (fun _ => Qe.reset) s.qes n x }
/-- A stage. -/
def State.stg (s : State) (g : Nat) : Stg := Tab.get (fun _ => Stg.reset) s.stages.stg g
/-- A stage changes. -/
def State.setStg (s : State) (g : Nat) (x : Stg) : State :=
  { s with stages := { s.stages with stg := Tab.set (fun _ => Stg.reset) s.stages.stg g x } }
/-- What the kernels of a stage keep. -/
def State.kern (s : State) (g : Nat) : Kern := Tab.get (fun _ => Kern.reset) s.stages.kern g
/-- What the kernels of a stage keep changes. -/
def State.setKern (s : State) (g : Nat) (x : Kern) : State :=
  { s with stages := { s.stages with kern := Tab.set (fun _ => Kern.reset) s.stages.kern g x } }
/-- What the guard of a stage keeps. -/
def State.guard (s : State) (g : Nat) : Guard := Tab.get (fun _ => Guard.reset) s.stages.guard g
/-- What the guard of a stage keeps changes. -/
def State.setGuard (s : State) (g : Nat) (x : Guard) : State :=
  { s with stages := { s.stages with guard := Tab.set (fun _ => Guard.reset) s.stages.guard g x } }
/-- A session. -/
def State.sess (s : State) (n : Nat) : Sess := Tab.get (fun _ => Sess.none) s.ses n
/-- A session changes. -/
def State.setSess (s : State) (n : Nat) (x : Sess) : State := { s with ses := Tab.set (fun _ => Sess.none) s.ses n x }

/-! ### Stages: states, holders and targets -/

/-- Armed for RWI access (R232): from the start of PRECHECK until READY, HALTED or OFF. -/
def StageSt.armedRwi : StageSt → Bool
  | .precheck | .armed | .run | .rampdown => true
  | _ => false

/-- ARMED, RUN or RAMPDOWN. -/
def StageSt.live : StageSt → Bool
  | .armed | .run | .rampdown => true
  | _ => false

/-- The code of a stage state in D.011 (R263). -/
def StageSt.code : StageSt → Nat
  | .off => 0 | .ready => 1 | .precheck => 2 | .armed => 3 | .run => 4 | .rampdown => 5 | .halted => 6

/-- The stage is declared (R230): in every state but OFF. -/
def State.declared (s : State) (g : Nat) : Bool := (s.stg g).st != .off

/-- The first declared stage that satisfies a test. -/
def State.findStage (s : State) (p : Nat → Bool) : Option Nat :=
  (List.range 12).find? (fun g => s.declared g && p g)

/-- The stage that holds a cluster (R29, R230). -/
def State.clHolder (s : State) (c : Nat) : Option Nat := s.findStage (fun g => (s.dc 0xD 0x001 g).testBit c)

/-- The stage that holds a generator, and with it its lane or half-bridge (R29). -/
def State.genHolder (s : State) (n : Nat) : Option Nat := s.findStage (fun g => (s.dc 0xD 0x002 g).testBit n)

/-- The stage that binds an interface. -/
def State.qeHolder (s : State) (n : Nat) : Option Nat := s.findStage (fun g => s.dc 0xD 0x003 g == n)

/-- The stage named in a holder entry (SEQ_STAGE, LG_STAGE, CW_STAGE, NTC_STAGE), if it is declared. -/
def State.named (s : State) (v : Nat) : Option Nat := if v < 12 && s.declared v then some v else none

/-- The stage if it is armed under R232. -/
def State.armedStage (s : State) (g : Option Nat) : Option Nat := g.filter (fun g => (s.stg g).st.armedRwi)

/-- The stage if it is ARMED, RUN or RAMPDOWN. -/
def State.liveStage (s : State) (g : Option Nat) : Option Nat := g.filter (fun g => (s.stg g).st.live)

/-- The lowest-numbered stage that satisfies a test. -/
def lowStage (p : Nat → Bool) : Option Nat := (List.range 12).find? p

/-- The stages that bind a half-bridge of bank b (R166). -/
def State.bankStages (s : State) (b : Nat) : List Nat :=
  (List.range 12).filter (fun g => s.declared g && (List.range 3).any (fun i => (s.dc 0xD 0x002 g).testBit (32 + 3 * b + i)))

/-- The stage whose clusters, generators and interface a stage runs on: its own, or the base of an EFT stage (R283). -/
def State.owner (s : State) (g : Nat) : Nat := if s.dc 0xD 0x000 g = 8 then s.dc 0xD 0x900 g else g

/-- The declared EFT stages over a base stage (R283). -/
def State.eftOver (s : State) (b : Nat) : List Nat :=
  (List.range 12).filter (fun g => s.declared g && s.dc 0xD 0x000 g == 8 && s.dc 0xD 0x900 g == b)

/-- The holders of a resource and the EFT stages that borrow it from them. DEDUCED from R288 (log entry 37). -/
def State.withEft (s : State) (l : List Nat) : List Nat := l ++ l.flatMap s.eftOver

/-- A stage's contactors in the order in which they open (R268, R270): MAIN_CT then PRE_CT, or STAR_CT of an EFT stage. -/
def State.ctOf (s : State) (g : Nat) : List Nat :=
  (if s.dc 0xD 0x000 g = 8 then [s.dc 0xD 0x902 g] else [s.dc 0xD 0x551 g, s.dc 0xD 0x550 g]).filter (fun k => decide (k < 8))

/-- A contactor is commanded (R268). -/
def State.setCt (s : State) (k : Nat) (closed : Bool) : State :=
  let v := if closed then s.stages.cto ||| (1#8 <<< k) else s.stages.cto &&& ~~~(1#8 <<< k)
  { s with stages := { s.stages with cto := v } }

/-- The closed contactors of a stage are to open (R270). -/
def State.openLater (s : State) (g : Nat) : State :=
  let x := s.stg g
  s.setStg g { x with opening := (s.ctOf g).foldl (fun o k => if s.stages.cto.getLsbD k then o ||| (1#8 <<< k) else o) x.opening, openAt := s.t48.toNat }

/-- Every contactor of a stage opens at once. -/
def State.openNow (s : State) (g : Nat) : State :=
  let s := (s.ctOf g).foldl (fun s k => s.setCt k false) s
  s.setStg g { s.stg g with opening := 0 }

/-- The cluster of a generator (R104). -/
def genCluster (g : Nat) : Nat := g / 4

/-- The generator of a lane Ln, or of a half-bridge. -/
def hbGen (h : Nat) : Nat := 32 + h

end Sys2Proof.Machine
end

