-- ==== Sys2Proof/Machine/Dict.lean ====
section
/-! DEFINITION. The dictionary service that every request shares (16_dictionary_protocol.md): the access checks of R401
in their order, tags and stored responses (R409), responses, the journalling of a write (R335, R336), and the start
of a job (R94). -/

namespace Sys2Proof.Machine

/-! ### Error codes (R423) -/

/-- The error codes of a response (R423). -/
def errNoSuchKey : Nat := 0x0001
/-- READ_ONLY. -/
def errReadOnly : Nat := 0x0002
/-- WRITE_ONLY. -/
def errWriteOnly : Nat := 0x0003
/-- TYPE. -/
def errType : Nat := 0x0004
/-- RANGE. -/
def errRange : Nat := 0x0005
/-- STAGE_ARMED. -/
def errStageArmed : Nat := 0x0006
/-- LEVEL. -/
def errLevel : Nat := 0x0007
/-- BUSY. -/
def errBusy : Nat := 0x0008
/-- WRONG_STATE. -/
def errWrongState : Nat := 0x0009
/-- REFUSED. -/
def errRefused : Nat := 0x000A
/-- UNSUPPORTED_OP. -/
def errUnsupported : Nat := 0x000B
/-- NO_SESSION. -/
def errNoSession : Nat := 0x000C
/-- VERSION. -/
def errVersion : Nat := 0x000D
/-- SEG_SEQUENCE. -/
def errSegSequence : Nat := 0x000E
/-- SEG_TIMEOUT. -/
def errSegTimeout : Nat := 0x000F
/-- ABORTED. -/
def errAborted : Nat := 0x0010
/-- AUTH. -/
def errAuth : Nat := 0x0011
/-- AUTH_LOCKOUT. -/
def errLockout : Nat := 0x0012
/-- FORMAT. -/
def errFormat : Nat := 0x0013

/-- An error and its DETAIL. -/
structure Err where
  code : Nat
  detail : Nat
  deriving DecidableEq, Repr

/-- DEV_STATE in the codes of 1.000 (R355, R376). -/
def State.dev (s : State) : Nat := s.en 1 0x000 0

/-- DEV_STATE codes (R355 in the order of its table). -/
def devBoot : Nat := 0
/-- TADPOLE. -/
def devTadpole : Nat := 1
/-- IDLE. -/
def devIdle : Nat := 2
/-- OPERATIONAL. -/
def devOperational : Nat := 3
/-- SAFE. -/
def devSafe : Nat := 4
/-- STANDBY. -/
def devStandby : Nat := 5
/-- PARK. -/
def devPark : Nat := 6

/-! ### Bytes on the wire -/

/-- Big-endian bytes as a number. -/
def ofBytes (l : List Byte) : Nat := l.foldl (fun a b => 256 * a + b.toNat) 0

/-- A value on the wire (R399): fixed-size types in their size, the 24-byte SC_REC with its 3-byte length. -/
def wireBytes (t : EntType) (v : Nat) : List Byte :=
  match t with
  | .blob => beBytes 24 3 ++ beBytes v 24
  | .bool => beBytes v 1
  | t => beBytes (v % 2 ^ (8 * t.bytes)) t.bytes

/-! ### Responses and tags -/

/-- A response leaves: it is queued on its session and stored under its tag, and the tag is free (R409). -/
def State.respond (s : State) (q : Req) (op err detail key : Nat) (body : List Byte) : State :=
  let x := s.sess q.ses.val
  let r : Resp := ⟨q.tag, op, err, detail, key, body⟩
  s.setSess q.ses.val { x with
    inUse := x.inUse.filter (· != q.tag)
    resp := x.resp ++ [r]
    stored := r :: x.stored.filter (fun o => o.tag != q.tag) }

/-- An error response. -/
def State.refuse (s : State) (q : Req) (op key : Nat) (e : Err) : State := s.respond q op e.code e.detail key []

/-- A stored response is sent again (R409). -/
def State.resend (s : State) (q : Req) (r : Resp) : State :=
  let x := s.sess q.ses.val
  s.setSess q.ses.val { x with resp := x.resp ++ [r] }

/-- The tag stays in use until its response (R409). -/
def State.holdTag (s : State) (q : Req) : State :=
  let x := s.sess q.ses.val
  s.setSess q.ses.val { x with inUse := q.tag :: x.inUse.filter (· != q.tag) }

/-- SESSION_VER (R424): 0 while no session is open. -/
def State.ver (s : State) (ses : Nat) : Nat := s.en 0 0x012 ses

/-- SESSION_LEVEL: 0 NONE, 1 OPERATOR, 2 SERVICE, 3 FACTORY. -/
def State.level (s : State) (ses : Nat) : Nat := s.en 0 0x013 ses

/-- The tag of a response frame (R403, R413); none for a segment of a transfer. -/
def frameTag (v12 : Bool) (l : List Byte) : Option Nat :=
  let b := (l.getD 0 0).toNat
  if v12 && b != 1 then (if b / 16 = 3 then none else some (b % 16)) else if b % 64 = 6 then none else some ((l.getD 1 0).toNat % 64)

/-- A response under the tag waits in a transmit buffer of the dictionary controller (R385). -/
def State.tagLoaded (s : State) (tag : Nat) : Bool :=
  let bufs := (s.can (s.dc 0xC 0x012 0)).bufs
  bufs.any (fun (p : Nat × TxBuf) => decide (p.1 < 24) && (p.2.active.toList ++ p.2.shadow.toList).any (fun f =>
    frameTag (s.ver 0 == 0x0102) f.data == some tag))

/-- The tag is in use (R409): from the receipt of its request until its response is sent. -/
def State.tagInUse (s : State) (n : Nat) (tag : BitVec 6) : Bool :=
  let x := s.sess n
  x.inUse.contains tag || x.resp.any (fun r => r.tag == tag && r.op != 6) || (n == 0 && s.tagLoaded tag.toNat)

/-- What comes before a request is executed (R409, R411, R406, R413): the dictionary is not served in BOOT and STANDBY
(R355), LOCAL only if LOCAL_ENABLE was 1 at the start, and every new request is refused while STANDBY is entered (R369); a tag in use discards the request; RPT with the OP and KEY of the stored
response sends it again; no session, or a version below `since`, is an error. Then `f` runs. -/
def State.serve (s : State) (q : Req) (op key since : Nat) (f : State → State) : State :=
  let n := q.ses.val
  let x := s.sess n
  if s.dev = devBoot ∨ s.dev = devStandby ∨ (n = 1 ∧ s.dc 0 0x021 0 = 0) then s
  else if s.tagInUse n q.tag then s.bump (mkKey 0 0x014 n) 65535
  else if s.boot.standby ≠ 0 then s.refuse q op key ⟨errRefused, 0⟩
  else
    match x.stored.find? (fun r => r.tag = q.tag), q.rpt, decide (0x0203 ≤ s.ver n) with
    | some r, true, true => if r.op = op ∧ r.key = key then s.resend q r
        else if s.ver n = 0 then s.refuse q op key ⟨errNoSession, 0⟩
        else if s.ver n < since then s.refuse q op key ⟨errUnsupported, 0⟩ else f s
    | _, _, _ =>
      if s.ver n = 0 then s.refuse q op key ⟨errNoSession, 0⟩
      else if s.ver n < since then s.refuse q op key ⟨errUnsupported, 0⟩ else f s

/-! ### What a key follows (R232, R401) -/

/-- The stages of the holders of a trip-matrix destination (R296). -/
def State.destStages (s : State) (dd : Nat) : List Nat :=
  if dd < 48 then (s.clHolder (dd / 4)).toList
  else if dd < 80 then (s.genHolder (dd - 48)).toList
  else s.bankStages (dd - 80)

/-- The stage that holds a trip-matrix source 0 to 111 (R296): the comparator's holder, or the stage holding the lane. -/
def State.srcStage (s : State) (n : Nat) : Option Nat :=
  if n < 48 then s.named (s.en 7 0x066 n)
  else if n < 80 then s.genHolder (n - 48)
  else if n < 112 then s.genHolder (n - 80)
  else none

/-- An armed EFT stage and its base lend each other their entries (R283): the stage itself, or the stage that names it
or that it names as base, is armed. -/
def State.armedOrLent (s : State) (g : Nat) : Option Nat :=
  if (s.stg g).st.armedRwi then some g
  else (List.range 12).find? (fun h => (s.stg h).st.armedRwi && s.dc 0xD 0x000 h == 8 && s.dc 0xD 0x900 h == g)

/-- The armed stages among those an RWI entry follows. -/
def State.followStages (s : State) (k new : Nat) (f : Follow) : List Nat :=
  let i := keyElem k
  match f with
  | .none => []
  | .stage => [i]
  | .task => if s.dc 2 0x010 i = 0 then [] else (s.named (s.dc 2 0x012 i)).toList
  | .gen => (s.genHolder i).toList
  | .cluster => (s.clHolder i).toList
  | .lane => (s.genHolder i).toList
  | .hb => (s.genHolder (hbGen i)).toList
  | .qe => (s.qeHolder i).toList
  | .seq => (s.named (s.en 7 0x024 i)).toList
  | .lg => (s.named (s.en 7 0x053 i)).toList
  | .cw => (s.named (s.en 7 0x066 i)).toList
  | .ntc => (s.named (s.en 9 0x049 i)).toList
  | .tmDest => s.destStages i
  | .tmSrc => (s.srcStage i).toList
  | .tmInv => (List.range 48).filterMap (fun b =>
      if (s.getKey k).testBit b != new.testBit b then s.srcStage (48 * i + b) else none)

/-- The lowest-numbered armed stage that an RWI write runs into (R401, step 4). -/
def State.followArmed (s : State) (k new : Nat) (f : Follow) : Option Nat :=
  let l := s.followStages k new f
  (List.range 12).find? (fun g => l.contains g && (s.armedOrLent g).isSome)

/-! ### Device state (R366, R371) -/

/-- The entries that Tadpole mode serves (R366): 0 none, 1 read only, 2 as listed. -/
def tadpole (k : Nat) : Nat :=
  let a := keyArea k
  let e := keyEntry k
  if a = 0 ∨ a = 1 then 2
  else if a = 3 then (if e ≥ 0x020 ∧ e ≤ 0x023 ∨ e = 0x030 ∨ e = 0x031 ∨ e = 0x032 then 2 else 0)
  else if a = 5 then (if e = 0x010 ∨ e = 0x013 then 1 else 0)
  else if a = 0xA then (if e ≤ 0x101 then 2 else 0)
  else if a = 0xB then
    (if e ≤ 0x031 ∨ (0x040 ≤ e ∧ e ≤ 0x042) ∨ (0x060 ≤ e ∧ e ≤ 0x062) ∨ (0x070 ≤ e ∧ e ≤ 0x072) ∨ (0x077 ≤ e ∧ e ≤ 0x079)
     then 2 else 0)
  else if a = 0xC then 2
  else 0

/-- The device state allows the access (R401, step 5): Tadpole mode takes no CAN_CMD (R395). -/
def State.stateAllows (s : State) (k : Nat) (write : Bool) (v : Nat) : Bool :=
  if s.dev = devTadpole then ((tadpole k == 2 && !(write && keyArea k == 0xC && keyEntry k == 0x022)) || (tadpole k == 1 && !write))
  else if s.dev = devPark ∧ write then
    !((keyArea k == 3 && keyEntry k == 0x030)
      || (keyArea k == 2 && keyEntry k == 0x030 && v == 0)
      || (keyArea k == 0xD && keyEntry k == 0x010 && v == 2))
  else if s.dev = devSafe ∧ write then !(keyArea k == 0xD && keyEntry k == 0x010)
  else true

/-! ### The checks of R401 -/

/-- Steps 1 to 5 for a read. -/
def State.readCheck (s : State) (ses k : Nat) : Except Err EntRow :=
  match entRow k with
  | none => .error ⟨errNoSuchKey, 0⟩
  | some r =>
    if s.level ses < r.level + 1 then .error ⟨errLevel, 0⟩
    else if r.acc = .wo then .error ⟨errWriteOnly, 0⟩
    else if s.stateAllows k false 0 then .ok r else .error ⟨errWrongState, s.dev⟩

/-- Steps 1 to 6 for a write of `v`; `lev` is a level the value itself needs, `armed` a stage that a rule names. -/
def State.writeCheck (s : State) (ses k v lev : Nat) (armed : Option Nat) : Except Err EntRow :=
  match entRow k with
  | none => .error ⟨errNoSuchKey, 0⟩
  | some r =>
    if s.level ses < max r.level lev + 1 then .error ⟨errLevel, 0⟩
    else if r.acc = .ro then .error ⟨errReadOnly, 0⟩
    else
      match (if r.acc = .rwi then s.followArmed k v r.fol else none), armed with
      | some g, _ => .error ⟨errStageArmed, g⟩
      | none, some g => .error ⟨errStageArmed, g⟩
      | none, none =>
        if s.stateAllows k true v = false then .error ⟨errWrongState, s.dev⟩
        else if r.ty = .blob ∨ r.accepts v then .ok r
        else .error ⟨errRange, 0⟩

/-! ### The journal's part of a write (R334 to R336) -/

/-- Value words of a record (R334). -/
def packWords (t : EntType) (v : Nat) : List Word :=
  if t.width = 48 then [BitVec.ofNat 24 (v / 2 ^ 24), BitVec.ofNat 24 v]
  else if t.signed then [BitVec.ofInt 24 (asInt t.width v)]
  else [BitVec.ofNat 24 v]

/-- Bits of a word that name filters. -/
def maskCount (v : Nat) : Nat := ((List.range 32).filter v.testBit).length

/-- The value is out of the range that its entry's rule states (R105, R185, R195, R196, R198, R391, R420, R421). -/
def outOfRange (k v : Nat) : Bool :=
  let i := keyElem k
  match keyArea k, keyEntry k with
  | 4, 0x030 => decide (v < (if 8 ≤ i ∧ i ≤ 10 then 2000 else 1200)) || decide (524288 < v)
  | 7, 0x020 => decide (126 < v) && v != 0xFF
  | 7, 0x040 => !(([16, 32, 64, 128, 256] : List Nat).contains v)
  | 7, 0x041 => !(([8, 16, 32] : List Nat).contains v)
  | 7, 0x051 => decide (30 < maskCount v)
  | 7, 0x060 => decide ((if i < 36 then 15 else 14) < v)
  | 0xE, e =>
    if 0x100 ≤ e ∧ e < 0x120 then v / 64 % 4 == 0 || decide (1024 ≤ v)
    else if 0x300 ≤ e ∧ e < 0x320 then
      match entRow v with
      | some r => r.level != 0 || r.acc == .wo || r.ty == .blob || r.ty == .str
      | none => true
    else false
  | _, _ => false

/-- The NVM deferral of R323 is in force (9.070 NVM_DEFER). -/
def State.deferring (s : State) : Bool := s.en 9 0x070 0 == 1

/-- Words of a journal bank (R330). -/
def bankWords : Nat := 0x8000

/-- A write of kind `k` is deferred: counted in DEFER_CNT, and given its place in the order (R323, R328). -/
def State.deferOne (s : State) (k : Nat) : State :=
  let s := s.bump (mkKey 9 0x071 0) 65535
  { s with nvm := { s.nvm with order := s.nvm.order ++ [k] } }

/-- The Shed step that makes the switch to the new bank has begun: it holds the records that wait (R339). -/
def State.shedHolds (s : State) : Bool :=
  match s.nvm.shed with
  | some x => decide (4 ≤ x.step) || (x.step == 3 && x.made != 0)
  | none => false

/-- A waiting write of kind `k` could begin but for the order: a record that fits in the bank, a copy, a block. -/
def State.canWrite (s : State) (k : Nat) : Bool :=
  if k = 0 then
    (match s.nvm.queue with
      | [] => false
      | r :: _ => decide (s.nvm.pos + 5 + r.words.length ≤ bankWords) && !s.shedHolds)
  else if k = 1 then !s.flt.copies.isEmpty else !s.nvm.blocks.isEmpty

/-- A write of kind `k` may begin: no deferral, no record between its two writes (R335), and none deferred before it (R323). -/
def State.turn (s : State) (k : Nat) : Bool :=
  !s.deferring && !s.nvm.writing && s.canWrite k && (s.nvm.order.find? s.canWrite).all (· == k)

/-- A write of kind `k` begins: its place in the order is free. -/
def State.begun (s : State) (k : Nat) : State := { s with nvm := { s.nvm with order := s.nvm.order.erase k } }

/-- A record is deferred; the first of an episode raises NVM_WRITE_DEFERRED (R336). -/
def State.deferRec (s : State) : State :=
  let s := (s.whenS (!s.nvm.deferred) (fun s => s.report (0x0C0302 + 256 * s.nvm.bank))).deferOne 0
  { s with nvm := { s.nvm with deferred := true } }

/-- A record joins the write queue with the next SEQ; `owner` is the request whose response waits for the commit. While writes are deferred it is a
deferred one. -/
def State.journal (s0 : State) (k v : Nat) (r : EntRow) (owner : Option Req) (answered : Bool) : State :=
  let s := s0.whenS s0.deferring State.deferRec
  { s with nvm := { s.nvm with
      queue := s.nvm.queue ++ [⟨k, r.ty.code, s.nvm.next, (if v = entDefault k then [] else packWords r.ty v), owner, answered⟩]
      next := s.nvm.next + 1 } }

/-- The STATUS byte and SEQ of a WRITE response (R406). -/
def statusBody (persist : Nat) (job : Bool) (seq : Nat) : List Byte :=
  BitVec.ofNat 8 (persist + 4 * b2n job) :: (if persist = 1 ∨ persist = 2 then beBytes seq 6 else [])

/-- OP of WRITE (R406). -/
def opWrite : Nat := 3

/-- The end of a write of a P entry, its value applied: journalled, or acknowledged as pending while writes are deferred (R336). -/
def State.keepWrite (s1 : State) (q : Req) (k v : Nat) (r : EntRow) : State :=
  if s1.deferring then (s1.journal k v r none true).respond q opWrite 0 0 k (statusBody 2 false s1.nvm.next)
  else (s1.journal k v r (some q) false).holdTag q

/-- A write that passed every check: a P entry whose value changes is applied and journalled (R335), or acknowledged as
pending while writes are deferred (R336); an unchanged one makes no record; a V or WO entry is applied and answered.
`effect` is what else the entry's own rule does; `store` is the value the entry holds afterwards. -/
def State.applyWrite (s : State) (q : Req) (k v : Nat) (r : EntRow) (effect : State → State) : State :=
  if r.kept then
    if s.getKey k = v then (effect s).respond q opWrite 0 0 k (statusBody 3 false 0)
    else if 32 ≤ s.nvm.queue.length then s.refuse q opWrite k ⟨errBusy, 0⟩
    else (effect (s.putKey k v)).keepWrite q k v r
  else if r.acc = .wo then (effect s).respond q opWrite 0 0 k (statusBody 0 false 0)
  else (effect (s.putKey k v)).respond q opWrite 0 0 k (statusBody 0 false 0)

/-- A write with the refusals its own rules add: `armed` for step 4, `why` for step 7 of R401. -/
def State.dictWriteR (s : State) (q : Req) (k v lev : Nat) (armed : State → Option Nat) (why : State → Option Err)
    (effect : State → State) : State :=
  s.serve q opWrite k 0 (fun s =>
    match s.writeCheck q.ses.val k v lev (armed s) with
    | .error e => s.refuse q opWrite k e
    | .ok r =>
      match why s with
      | some e => s.refuse q opWrite k e
      | none => s.applyWrite q k v r effect)

/-- A write with no refusal of step 7. -/
def State.dictWrite (s : State) (q : Req) (k v : Nat) (armed : State → Option Nat) (effect : State → State) : State :=
  s.dictWriteR q k v 0 armed (fun _ => none) effect

/-! ### Jobs (R94 to R98) -/

/-- The job in a slot. -/
def State.jobAt (s : State) (slot : Nat) : Option Job := (s.ref.job.find? (fun p => p.1 == slot)).map (fun p => p.2)

/-- The slot is occupied: its JOB_STATE is not FREE (R94). -/
def State.slotBusy (s : State) (slot : Nat) : Bool := s.en 2 0x090 slot != 0

/-- The base priority by kind (R96); an identification has that of arming (R259). -/
def JobKind.prio : JobKind → Nat
  | .precheck | .ident => 3
  | .train | .retrain | .place => 2
  | .kimgLoad | .kimgDelete | .patchLoad | .shed | .otpBurn | .otpLock | .otpComplete => 1
  | .otpAudit | .satRead | .ost | .cwCheck => 0

/-- The largest number of steps (R69, R79, R148, R165, R177, R200, R238, R259, R338, R342, R348, R350). -/
def JobKind.limit (n : Nat) : JobKind → Nat
  | .kimgLoad | .patchLoad | .precheck => 600
  | .kimgDelete | .satRead => 4
  | .train | .retrain => 200
  | .place => 16 + 64 * n
  | .ost => 30
  | .cwCheck => 20
  | .otpBurn | .otpLock | .otpComplete => 20
  | .otpAudit => 400
  | .shed => 400
  | .ident => 400

/-- Whether the job can be cancelled. -/
def JobKind.cancellable : JobKind → Bool
  | .kimgLoad | .patchLoad | .train | .retrain | .ost | .cwCheck | .precheck | .ident => true
  | _ => false

/-- The lock a job takes (R97), as its order number; 0xFF for none. `arg` names the stage or the lane; D0 to D3 have no lock. -/
def JobKind.lock (arg : Nat) : JobKind → Nat
  | .otpBurn | .otpLock | .otpComplete | .otpAudit => 1
  | .patchLoad => 2
  | .kimgLoad | .kimgDelete => 3
  | .shed => 4
  | .precheck | .ident => 5 + arg
  | .train | .retrain | .satRead => if arg < 32 then 17 + arg else 0xFF
  | .place => 49
  | .ost | .cwCheck => 0xFF

/-- A job is queued in a slot (R94, R98): its entries show it; 2.094 keeps the T48 of now, from which JOB_AGE is read. `expect` is E. -/
def State.startJob (s : State) (slot : Nat) (kind : JobKind) (arg : Nat) (data : List Word) (n expect key : Nat)
    (owner : Option Req) : State :=
  let j : Job := ⟨kind, arg, data, 0, 0, expect, kind.limit n, kind.prio, kind.cancellable, false, false, owner, s.t48.toNat, data.length⟩
  let s : State := { s with ref := { s.ref with job := (s.ref.job.filter (fun (p : Nat × Job) => p.1 != slot)) ++ [(slot, j)] } }
  (((((s.put 2 0x090 slot 1).put 2 0x091 slot key).put 2 0x092 slot 0).put 2 0x093 slot 0).put 2 0x094 slot s.t48.toNat).put 2 0x095 slot (kind.lock arg)

/-- The highest free slot from 3F downward (R94). -/
def State.freeSlot (s : State) : Option Nat := (List.range 64).reverse.find? (fun i => !s.slotBusy i)

/-- A job that the supervisor starts itself. Without a free slot none starts: DESIGN CHOICE (log entry 22). -/
def State.startOwnJob (s : State) (kind : JobKind) (arg : Nat) (data : List Word) (n expect key : Nat) : State :=
  match s.freeSlot with
  | some i => s.startJob i kind arg data n expect key none
  | none => s

/-- JRN_FREE. -/
def State.jrnFree (s : State) : Nat := bankWords - s.nvm.pos

/-- Shed starts unless it runs or is queued (R338). -/
def State.startShed (s : State) : State :=
  if s.ref.job.any (fun (p : Nat × Job) => p.2.kind == .shed) then s
  else s.startOwnJob .shed 0 [] 0 100 (mkKey 0xB 0x017 0)

/-- Shed, where JRN_FREE is below SHED_THRESHOLD (R338). -/
def State.shedIfLow (s : State) : State := s.whenS (decide (s.jrnFree < s.en 0xB 0x016 0)) State.startShed

/-- What every entry to IDLE starts: the margin audit (R351), and Shed where R338 calls for it. -/
def State.idleJobs (s : State) : State := (s.startOwnJob .otpAudit 0 [] 0 17 (mkKey 0xB 0x075 0)).shedIfLow

/-- A write that starts a job (R94, R406): the slot that equals the tag must be free, else BUSY; the response carries
JOB, and the tag stays in use until the job ends. -/
def State.dictJob (s : State) (q : Req) (k v lev : Nat) (armed : State → Option Nat) (why : State → Option Err)
    (start : State → State) : State :=
  s.serve q opWrite k 0 (fun s =>
    match s.writeCheck q.ses.val k v lev (armed s) with
    | .error e => s.refuse q opWrite k e
    | .ok _ =>
      match why s with
      | some e => s.refuse q opWrite k e
      | none =>
        if s.slotBusy q.tag.toNat then s.refuse q opWrite k ⟨errBusy, 0⟩
        else ((start s).respond q opWrite 0 0 k (statusBody 0 true 0)).holdTag q)

/-! ### Notifications (R306, R415) -/

/-- The classes at or above NOTIFY_MIN_CLASS are notified. -/
def dropLowest (l : List Notif) : List Notif :=
  match l with
  | [] => []
  | n :: r =>
    let m := (n :: r).foldl (fun a x => min a x.cls) 7
    let i := (n :: r).findIdx (fun x => x.cls == m)
    (n :: r).eraseIdx i

/-- A notification joins the queue of one session (R306): a full queue of 64 drops its oldest of the lowest class. -/
def State.notifyOne (s : State) (n : Nat) (x : Notif) : State :=
  let z := s.sess n
  if s.ver n = 0 ∨ (n = 1 ∧ s.en 0 0x023 0 = 0) then s
  else if 64 ≤ z.notif.length then
    (s.setSess n { z with notif := dropLowest z.notif ++ [x], lost := min 255 (z.lost + 1) }).bump (mkKey 0xA 0x00B 0) 65535
  else s.setSess n { z with notif := z.notif ++ [x] }

/-- A notification of an event at `t` to every open session; a 1.2 session takes only type FAULT (R413, R415). -/
def State.notifyAt (s : State) (t ntype cls : Nat) (body : List Byte) : State :=
  let x : Notif := ⟨t, ntype, cls, body⟩
  let s := if s.ver 0 = 0x0102 ∧ ntype ≠ 3 then s else s.notifyOne 0 x
  if s.ver 1 = 0x0102 ∧ ntype ≠ 3 then s else s.notifyOne 1 x

/-- A notification of an event now. -/
def State.notify (s : State) (ntype cls : Nat) (body : List Byte) : State := s.notifyAt s.t48.toNat ntype cls body

/-- A FAULT body (R416) of a record: EVENT 0 new, 1 class raised, 2 COUNT change, 3 cleared, 4 GONE_BEFORE_READ. -/
def ScRec.body (r : ScRec) (event code cls : Nat) (live : Bool) : List Byte :=
  BitVec.ofNat 8 event :: beBytes code 3 ++ [BitVec.ofNat 8 (cls + 8 * r.clsFirst)] ++ beBytes r.seq 2 ++ beBytes r.count 2
    ++ [fields 8 [(b2n r.merged, 0), (b2n r.gone, 1), (b2n r.inj, 2), (b2n r.cleared, 3), (b2n live, 4)],
        BitVec.ofNat 8 r.mergeCnt] ++ (List.range 4).map (fun i => BitVec.ofNat 8 (r.mg.getD i 0))

/-- A fault notification where its class is at least NOTIFY_MIN_CLASS (R306). -/
def State.notifyFault (s : State) (t cls : Nat) (body : List Byte) : State :=
  if cls < s.en 0xA 0x007 0 then s else s.notifyAt t 3 cls body

/-- The copies wait in SEQ order (R303), which counts modulo 65536 up to the next SEQ. -/
def insCopy (next seq : Nat) : List Nat → List Nat
  | [] => [seq]
  | x :: r =>
    if x = seq then x :: r
    else if (65536 + seq - next) % 65536 < (65536 + x - next) % 65536 then seq :: x :: r
    else x :: insCopy next seq r

/-- A new or changed record waits for its persistent copy (R303); one that a supply warning defers is counted (R323). -/
def State.scCopy (s : State) (seq : Nat) : State :=
  let s := s.whenS (s.deferring && !s.flt.copies.contains seq) (·.deferOne 1)
  { s with flt := { s.flt with copies := insCopy (s.en 0xA 0x009 0) seq s.flt.copies } }

/-- A condition of a code, real or injected, has returned to 0: LIVE of its latch entry reads 0 (R297), and its record, if it has not been read, gets
GONE_BEFORE_READ, with its notification (R301, R306). -/
def State.condGone (s : State) (code : Nat) (inj : Bool) : State :=
  let seqs := s.flt.recsOf code inj
  let gone := (s.flt.ring.filter (fun (p : Nat × ScRec) => p.2.goes seqs)).map (fun p => { p.2 with gone := true })
  let f : Flt := { s.flt with
    latch := s.flt.latch.map (fun l => if l.code = code ∧ l.inj = inj then { l with live := false } else l)
    ring := s.flt.ring.map (fun (p : Nat × ScRec) => (p.1, if p.2.goes seqs then { p.2 with gone := true } else p.2)) }
  gone.foldl (fun s r => (s.scCopy r.seq).notifyFault s.t48.toNat r.cls (r.body 4 r.code r.cls (s.flt.live.contains r.code && !r.inj)))
    ({ s with flt := f } : State)

/-- The live condition of a code returns to 0 (R297, R301). -/
def State.condOff (s : State) (code : Nat) : State :=
  if s.flt.live.contains code then
    ({ s with flt := { s.flt with live := s.flt.live.filter (· != code) } } : State).condGone code false
  else s

/-- DEV_STATE changes, with its STATE notification (R357, R415). -/
def State.setDev (s : State) (d : Nat) : State :=
  if s.dev = d then s
  else (s.put 1 0x000 0 d).notify 2 0 [BitVec.ofNat 8 d, BitVec.ofNat 8 s.dev]

/-- A job ends (R94, R410, R450): DONE 4, FAILED 5, CANCELLED 6; the tag is free, unless a transfer in segments
still uses it (R409), and JOB_END is notified. -/
def State.endJob (s : State) (slot st result : Nat) : State :=
  let key := s.en 2 0x091 slot
  let owner := (s.jobAt slot).bind (·.owner)
  let s : State := { s with ref := { s.ref with job := s.ref.job.filter (fun (p : Nat × Job) => p.1 != slot) } }
  let s := ((s.put 2 0x090 slot st).put 2 0x093 slot (if st = 5 then result else 0)).put 2 0x095 slot 0xFF
  let s := if st = 4 then s.put 2 0x092 slot 100 else s
  let s := match owner with
    | some q =>
      let x := s.sess q.ses.val
      if x.segs.any (fun g => g.write && g.tag == q.tag) then s
      else s.setSess q.ses.val { x with inUse := x.inUse.filter (· != q.tag) }
    | none => s
  s.notify 5 0 (BitVec.ofNat 8 slot :: beBytes key 3 ++ [BitVec.ofNat 8 st] ++ beBytes (if st = 5 then result else 0) 3)

end Sys2Proof.Machine
end

