-- ==== Sys2Proof/Machine/Feedback.lean ====
section
/-! DEFINITION. Position and speed feedback (08_position_feedback.md): counting, speed, index, compare table, capture
and the commands of QE0 to QE3. -/

namespace Sys2Proof.Machine

/-- M of R211. -/
def qeMod (s : State) (n : Nat) : Nat :=
  if s.en 8 0x015 n = 1 ∧ s.en 8 0x014 n ≠ 0 then s.en 8 0x014 n else 16777216

/-- `x` modulo M as a position. -/
def qeWrap (m : Nat) (x : Int) : Word := BitVec.ofNat 24 (x % (m : Int)).toNat

/-- ANGLE of R211: position × 2^24 / QE_CPR rounded down while QE_WRAP = 1, else 0. -/
def qeAngle (s : State) (n : Nat) : Word :=
  if s.en 8 0x015 n = 1 ∧ s.en 8 0x014 n ≠ 0 then
    BitVec.ofNat 24 ((s.qe n).pos.toNat * 16777216 / s.en 8 0x014 n) else 0

/-- SPEED as a 24-bit word. -/
def qeSpeedWord (q : Qe) : Word := BitVec.ofInt 24 q.speed

/-- QSTAT of R227. -/
def qeStat (q : Qe) : Word :=
  bits 24 [q.valid, q.still, q.dir, q.dirRaw, q.rawrev, q.idxSeen, q.pend, q.suspect, q.qcmp,
    q.acc.getLsbD 1, q.acc.getLsbD 0, q.idxLevel]

/-- The index input is active: QE_IDX_POL inverts its filtered level (R215). -/
def State.idxActive (s : State) (n : Nat) : Bool := (s.qe n).idxLevel != decide (s.en 8 0x022 n = 1)

/-- QPER: the mean interval, 0xFF_FFFF while VALID = 0 or STILL = 1 (R213). -/
def qePer (q : Qe) : Word :=
  if q.valid ∧ q.still = false then BitVec.ofNat 24 (min q.period 0xFFFFFF) else 0xFFFFFF

/-- The state one step from `a` in the sequence of R208; `up` is the sense of the sequence before QE_INVERT. -/
def qeNext (a : BitVec 2) (up : Bool) : BitVec 2 :=
  if a = 0 then (if up then 2 else 1) else if a = 2 then (if up then 3 else 0)
  else if a = 3 then (if up then 1 else 2) else (if up then 0 else 3)

/-- The entry is behind for a position (R219). -/
def ctBehind (m : Nat) (dir : BitVec 2) (target pos : Word) : Bool :=
  let d0 : Int := ((target.toNat : Int) - (pos.toNat : Int)) % (m : Int)
  let d : Int := if 2 * d0 > (m : Int) then d0 - (m : Int) else d0
  if dir = 1 then decide (d ≤ 0) else if dir = 2 then decide (0 ≤ d) else false

/-- DIR, ACTION, EVT and CATCHUP of CTCFG (R228). -/
def ctDir (c : BitVec 7) : BitVec 2 := c.extractLsb' 0 2
/-- ACTION of CTCFG. -/
def ctAction (c : BitVec 7) : BitVec 3 := c.extractLsb' 2 3

/-- R221: the level of QCMPn after an ACTION. -/
def ctOut (act : BitVec 3) (level : Bool) : Bool :=
  if act = 1 ∨ act = 2 then true else if act = 3 then false else if act = 4 then !level else level

/-- A firing of one entry (R218), measured from its own target: what the entry becomes. -/
def ctFire (m : Nat) (pos : Word) (c : Ct) : Ct :=
  let c := { c with fires := c.fires + 1, behind := false }
  let dir := ctDir c.cfg
  if dir = 3 then c
  else if c.step = 0 then { c with armed := false }
  else
    let t := qeWrap m (if dir = 1 then (c.target.toNat : Int) + (c.step.toNat : Int)
                       else (c.target.toNat : Int) - (c.step.toNat : Int))
    { c with target := t, behind := ctBehind m dir t pos }

/-- An armed entry fires at this accepted edge (R218). -/
def ctHits (c : Ct) (up : Bool) (pos : Word) : Bool :=
  c.armed && c.target == pos && (ctDir c.cfg == 3 || (ctDir c.cfg == 1 && up) || (ctDir c.cfg == 2 && !up))

/-- One firing on the interface: its event and its action on QCMPn (R218), which QCMPn's delay line places, and which rests inactive while the
interface is stopped (R221). A SET, CLEAR or TOGGLE ends a
PULSE that runs: DEDUCED, for its level would not last otherwise (log entry 32). -/
def qeFireOne (s : State) (n k : Nat) : State :=
  let q := s.qe n
  let c := q.ct.getD k Ct.reset
  let act := ctAction c.cfg
  let level := q.on && ctOut act q.qcmp
  let s := s.setQe n { q with ct := q.ct.setIfInBounds k (ctFire (qeMod s n) q.pos c), qcmp := level
                              pulse := q.on && (act == 1 || (q.pulse && (act == 0 || decide (5 ≤ act.toNat)))) }
  let s := s.whenS (level != q.qcmp) (·.placeEdge (8 + n) (s.en 8 0x01C n))
  s.whenS (c.cfg.getLsbD 5) (·.raiseEv (256 + 8 * n))

/-- R218 over the table in ascending order. -/
def qeFireAll (n : Nat) (up : Bool) : List Nat → State → State
  | [], s => s
  | k :: r, s =>
    qeFireAll n up r (if ctHits ((s.qe n).ct.getD k Ct.reset) up (s.qe n).pos then qeFireOne s n k else s)

/-- R220: every armed UP or DOWN entry is evaluated again for BEHIND against the position. -/
def qeReeval (s : State) (n : Nat) : State :=
  let q := s.qe n
  let m := qeMod s n
  s.setQe n { q with ct := q.ct.map (fun c =>
    if c.armed ∧ ctDir c.cfg ≠ 3 then { c with behind := ctBehind m (ctDir c.cfg) c.target q.pos } else c) }

/-- FLTCNT rises (R210); at QE_FLT_N the fault is raised and the counter set to 0. -/
def qeFault (s : State) (n : Nat) : State :=
  let q := s.qe n
  if s.en 8 0x018 n ≤ q.flt + 1 then (s.setQe n { q with flt := 0, faultN := q.faultN + 1 }).report (0x070001 + 256 * n)
  else s.setQe n { q with flt := q.flt + 1 }

/-- R213 at an accepted edge: the speed estimate; `qePer` saturates PERIOD where it is read (R214). `rev` says the edge is a raw reversal, `t` its time. -/
def qeSpeedEdge (edges : Nat) (up rev : Bool) (t : Nat) (q : Qe) : Qe :=
  if q.still then { q with still := false, hist := [t], speed := 0, valid := false }
  else if rev then { q with hist := [], speed := 0, valid := false }
  else
    let h := (t :: q.hist).take (edges + 1)
    match h.getLast?, decide (2 ≤ h.length) with
    | some oldest, true =>
      let p := max 1 ((BitVec.ofNat 48 t - BitVec.ofNat 48 oldest).toNat / (h.length - 1))
      let v : Int := min 8388607 ((400000000 / p : Nat) : Int)
      { q with hist := h, period := p, speed := if up then v else -v, valid := true }
    | _, _ => { q with hist := h, speed := 0, valid := false }

/-- R215 and R216: an index is recognised if the filtered input is active, the accepted state qualifies, and this pulse
has not been recognised yet. -/
def qeIndexCheck (s : State) (n : Nat) : State :=
  let q := s.qe n
  let mode := s.en 8 0x020 n
  let ab := s.en 8 0x021 n
  if q.on ∧ s.idxActive n ∧ q.idxDone = false ∧ mode ≠ 0 ∧ (ab = 4 ∨ ab = q.acc.toNat) then
    let cpr := s.en 8 0x014 n
    let resets := mode = 3 ∨ (mode = 2 ∧ q.idxSeen = false)
    let p := q.pos
    let newPos := if resets then qeWrap (qeMod s n) (s.en 8 0x023 n : Nat) else p
    let d0 : Int := if cpr = 0 then 0 else ((p.toNat : Int) - (q.idxRef.toNat : Int)) % (cpr : Int)
    let d : Int := if 2 * d0 > (cpr : Int) then (cpr : Int) - d0 else d0
    let bad := q.idxSeen && decide (cpr ≠ 0) && decide ((s.en 8 0x024 n : Int) < d)
    let s := s.setQe n { q with idxDone := true, idxSeen := true, idxPos := p, idxRef := newPos, pos := newPos,
                                suspect := if resets then false else (q.suspect || bad) }
    let s := (s.bump (mkKey 8 0x036 n) 65535).raiseEv (256 + 8 * n + 1)
    let s := s.whenS bad (fun s => (s.bump (mkKey 8 0x037 n) 65535).report (0x070004 + 256 * n))
    s.whenS (decide resets) (qeReeval · n)
  else s

/-- An accepted edge (R211 to R213, R218): `up` is its sign after QE_INVERT, `acc` the state entered, `t` the edge
time, `fast` whether it was pending (R209). -/
def qeEdge (s : State) (n : Nat) (up : Bool) (acc : BitVec 2) (t : Nat) (fast : Bool) : State :=
  let q := s.qe n
  let m := qeMod s n
  let down := !up
  let rev := match q.prev with | some d => d != down | none => false
  let dirChg := match q.prev with | some d => d == down && q.dir != down | none => false
  let lk := s.en 8 0x019 n
  let leaks := decide (lk ≠ 0) && decide (lk ≤ q.leak + 1)
  let wasValid := q.valid
  let q1 := qeSpeedEdge (s.en 8 0x017 n) up rev t q
  let q2 := { q1 with
    acc := acc, samp := acc, pend := false
    pos := qeWrap m (if up then (q.pos.toNat : Int) + 1 else (q.pos.toNat : Int) - 1)
    dir := if dirChg then down else q.dir
    dirRaw := down, prev := some down, last := some t
    rawrev := q.rawrev || rev
    leak := if leaks then 0 else q.leak + 1
    flt := if leaks then q.flt - 1 else q.flt }
  let s := s.setQe n q2
  let s := s.whenS rev (fun s => (s.bump (mkKey 8 0x03B n) 0xFFFFFF).raiseEv (256 + 8 * n + 2))
  let s := s.whenS dirChg (·.raiseEv (256 + 8 * n + 3))
  let s := s.whenS (!wasValid && q2.valid) (·.raiseEv (256 + 8 * n + 5))
  let s := s.whenS fast (fun s =>
    qeFault (((s.bump (mkKey 8 0x039 n) 65535).raiseEv (256 + 8 * n + 6)).limited (0x070003 + 256 * n)) n)
  let s := qeFireAll n up (List.range 16) s
  qeIndexCheck s n

/-- An ILLEGAL decision (R209, R210). -/
def qeIllegal (s : State) (n : Nat) (ab : BitVec 2) : State :=
  let q := s.qe n
  let s := s.setQe n { q with acc := ab, samp := ab, pend := false, suspect := true, speed := 0, valid := false,
                              hist := [], illegal := q.illegal + 1 }
  let s := ((s.bump (mkKey 8 0x038 n) 65535).raiseEv (256 + 8 * n + 6)).limited (0x070002 + 256 * n)
  qeIndexCheck (qeFault s n) n

/-- The decision of R209 on the state `ab` at edge time `t`. -/
def qeDecide (s : State) (n : Nat) (ab : BitVec 2) (t : Nat) (fast : Bool) : State :=
  let q := s.qe n
  let inv := decide (s.en 8 0x011 n = 1)
  if ab = q.acc then
    (s.setQe n { q with pend := false, samp := ab, reject := if fast then q.reject + 1 else q.reject }).whenS fast
      (·.bump (mkKey 8 0x03A n) 65535)
  else if ab = qeNext q.acc true then qeEdge s n (!inv) ab t fast
  else if ab = qeNext q.acc false then qeEdge s n inv ab t fast
  else qeIllegal s n ab

/-- QE_INPUT_CHANGE (R209): the filtered state changes; the candidate is decided at once, or is pending until
QE_MINEDGE ticks after the previous accepted edge. -/
def doQeInputChange (n : Fin 4) (ab : BitVec 2) (s : State) : State :=
  let q := s.qe n
  if q.on = false ∨ q.pend then s.setQe n { q with samp := ab }
  else if ab = q.acc then s.setQe n { q with samp := ab }
  else
    let near := match q.last with
      | some t => decide (s.since t < s.en 8 0x013 n)
      | none => false
    if near then s.setQe n { q with samp := ab, pend := true } else qeDecide s n ab s.t48.toNat false

/-- QE_PENDING_DECIDE (R209, R210): a pending candidate is decided against the sampled state of this tick. -/
def doQePendingDecide (n : Fin 4) (s : State) : State :=
  let q := s.qe n
  if q.on ∧ q.pend then qeDecide s n q.samp s.t48.toNat true else s

/-- QE_EDGE (R213): an accepted edge of the given sign. -/
def doQeEdge (n : Fin 4) (up : Bool) (s : State) : State :=
  let q := s.qe n
  if q.on then
    let inv := decide (s.en 8 0x011 n = 1)
    qeEdge s n up (qeNext q.acc (up != inv)) s.t48.toNat q.pend
  else s

/-- The index input may have become active or inactive: an inactive one ends its pulse (R215). -/
def qeIndexSee (s : State) (n : Nat) : State :=
  let q := s.qe n
  qeIndexCheck (s.setQe n { q with idxDone := q.idxDone && s.idxActive n }) n

/-- QE_INDEX (R215): the filtered index input takes a level. -/
def doQeIndex (n : Fin 4) (level : Bool) (s : State) : State := qeIndexSee (s.setQe n { s.qe n with idxLevel := level }) n

/-- QE_SPEED_CHECK (R213): the check every 16 ticks for standstill, or the limit of SPEED by the time since the last
accepted edge. -/
def doQeSpeedCheck (n : Fin 4) (s : State) : State :=
  let q := s.qe n
  if q.on ∧ q.still = false then
    let e := s.since (q.last.getD 0)
    if s.en 8 0x016 n * 400 ≤ e then
      let s1 := (s.setQe n { q with still := true, speed := 0, valid := true, hist := [] }).raiseEv (256 + 8 * n + 4)
      s1.whenS (!q.valid) (·.raiseEv (256 + 8 * n + 5))
    else if q.valid ∧ q.period < e then
      let lim : Int := (400000000 / e : Nat)
      s.setQe n { q with speed := if 0 ≤ q.speed then min q.speed lim else max q.speed (-lim) }
    else s
  else s

/-- QCMP_PULSE_END (R221): QE_QCMP_WIDTH ticks after a PULSE that still runs, QCMPn goes inactive. -/
def doQcmpPulseEnd (n : Fin 4) (s : State) : State :=
  if (s.qe n).pulse then
    (s.placeEdge (8 + n) (s.en 8 0x01C n)).setQe n { s.qe n with qcmp := false, pulse := false }
  else s

/-- A store to CTTGT (R217, R219): CTCFG and CTSTEP take effect, the target is loaded modulo M and the entry is
armed; an entry behind with CATCHUP = 1 fires once, measured from its target. -/
def ctTarget (s : State) (n k : Nat) (v : Word) : State :=
  let q := s.qe n
  let m := qeMod s n
  let c := q.ct.getD k Ct.reset
  let t := qeWrap m (v.toNat : Int)
  let dir := ctDir c.reqCfg
  let beh := ctBehind m dir t q.pos
  let c := { c with target := t, cfg := c.reqCfg, step := c.reqStep, armed := decide (dir ≠ 0), behind := beh }
  let s := s.setQe n { q with ct := q.ct.setIfInBounds k c }
  if c.armed ∧ beh ∧ c.cfg.getLsbD 6 then qeFireOne s n k else s

/-- A store to CTCFG (R217): DIR = OFF disarms at once, anything else waits for the next store to CTTGT. -/
def ctConfig (s : State) (n k : Nat) (v : BitVec 7) : State :=
  let q := s.qe n
  let c := q.ct.getD k Ct.reset
  let c := { c with reqCfg := v, armed := c.armed && decide (ctDir v ≠ 0) }
  s.setQe n { q with ct := q.ct.setIfInBounds k c }

/-- A store to CTSTEP (R217). -/
def ctStep (s : State) (n k : Nat) (v : BitVec 23) : State :=
  let q := s.qe n
  s.setQe n { q with ct := q.ct.setIfInBounds k { q.ct.getD k Ct.reset with reqStep := v } }

/-- R217: QCT_TARGET, QCT_CFG and QCT_STEP of every entry are loaded as though written in that order. -/
def qeLoadTable (s : State) (n : Nat) : State :=
  (List.range 16).foldl (fun s k =>
    let s := ctTarget s n k (BitVec.ofNat 24 (s.en 8 (0x100 + 16 * k) n))
    let s := ctConfig s n k (BitVec.ofNat 7 (s.en 8 (0x101 + 16 * k) n))
    ctStep s n k (BitVec.ofNat 23 (s.en 8 (0x102 + 16 * k) n))) s

/-- The start of an interface: what R208 lists, with IDX_SEEN, which counts from the start (R227), and the history of R213. Everything else stays, so
POS_SUSPECT and RAWREV are cleared only by what R210 and R212 name. -/
def qeStart (s : State) (n : Nat) : State :=
  let q := s.qe n
  let s := s.setQe n { q with
    on := true, acc := q.samp, pend := false, pos := 0, still := true, valid := true, speed := 0, dir := false, prev := none
    hist := [], flt := 0, idxSeen := false }
  qeIndexCheck (qeLoadTable s n) n

/-- The stop of an interface: QCMPn goes inactive at once (R208, R224). -/
def qeStop (s : State) (n : Nat) : State := s.setQe n { s.qe n with on := false, qcmp := false, pulse := false, pend := false }

/-- R211: POS_SET loads QPOSSET modulo M; it clears POS_SUSPECT (R210) and moves no entry (R220). -/
def qePosSet (s : State) (n : Nat) : State :=
  let q := s.qe n
  qeReeval (s.setQe n { q with pos := qeWrap (qeMod s n) (q.posSet.toNat : Int), suspect := false }) n

/-- RAWREV is cleared (R212). -/
def qeClrRawrev (s : State) (n : Nat) : State := s.setQe n { s.qe n with rawrev := false }

/-- The firing of a trigger captures on every interface that names it (R222). -/
def qeCaptureOne (s : State) (n trig : Nat) : State :=
  let q := s.qe n
  if s.en 8 0x01A n = trig then
    (s.setQe n { q with capPos := q.pos, capSpd := qeSpeedWord q, capValid := q.valid,
                        capDt := BitVec.ofNat 23 (match q.last with
                        | some t => min 8388607 (s.since t)
                        | none => 8388607) }).raiseEv (256 + 8 * n + 7)
  else s

/-- R222 over the four interfaces. -/
def qeCapture (s : State) (trig : Nat) : State := (List.range 4).foldl (fun s n => qeCaptureOne s n trig) s

/-- R223: a load of QPOS takes the reader's snapshot. -/
def qeSnap (s : State) (n reader : Nat) : State :=
  let q := s.qe n
  let x : Snap := ⟨qeSpeedWord q, qePer q, qeStat q, BitVec.ofNat 24 (q.last.getD 0), qeAngle s n⟩
  s.setQe n { q with snaps := Tab.set (fun _ => Snap.reset) q.snaps reader x }

/-- QE_ENABLE (R208): a write of 8.010; 1 starts the interface, 0 stops it, refused while a stage that binds it is
ARMED, RUN or RAMPDOWN. -/
def doQeEnable (q : Req) (n : Fin 4) (v : BitVec 48) (s : State) : State :=
  s.dictWrite q (mkKey 8 0x010 n) v.toNat
    (fun s => if v = 0 then s.liveStage (s.qeHolder n) else none)
    (fun s => if v = 0 then qeStop s n else if (s.qe n).on then s else qeStart s n)

/-- QE_RAWREV_CLR (R212): a write of 8.03C; 1 clears RAWREV. -/
def doQeRawrevClr (q : Req) (n : Fin 4) (v : BitVec 48) (s : State) : State :=
  s.dictWrite q (mkKey 8 0x03C n) v.toNat (fun _ => none) (fun s => if v = 1 then qeClrRawrev s n else s)

end Sys2Proof.Machine
end

