-- ==== Sys2Proof/Machine/Bus.lean ====
section
/-! DEFINITION. What joins the blocks: mailboxes (R62 to R64), releases of tasks (R73), the levels of the trip matrix
(R295), and the triggers of the carriers and timers. -/

namespace Sys2Proof.Machine

/-! ### Mailboxes -/

/-- T48[23:0]. -/
def State.t24 (s : State) : Word := s.t48.setWidth 24

/-- A record completes into a mailbox (R62). -/
def Mbox.complete (x : Mbox) (words : List Word) (time : Word) : Mbox :=
  if x.valid then { x with back := words, backTime := time, pending := true,
                           ovr := if x.pending ∧ x.ovr ≠ 255 then x.ovr + 1 else x.ovr }
  else { x with front := words, time := time, valid := true, seq := x.seq + 1 }

/-- ACK (R62): a waiting record becomes the front. -/
def Mbox.ack (x : Mbox) : Mbox :=
  if x.pending then { x with front := x.back, time := x.backTime, valid := true, pending := false, back := [],
                             backTime := 0, seq := x.seq + 1 }
  else { x with valid := false }

/-- A record completes into mailbox `k` = 4 × engine + number; its event is raised when it becomes the front. -/
def State.mboxRecord (s : State) (k : Nat) (words : List Word) : State :=
  let x := s.mb k
  (s.setMb k (x.complete words s.t24)).whenS (!x.valid) (·.raiseEv (320 + k))

/-- ACK of a mailbox. -/
def State.mboxAck (s : State) (k : Nat) : State :=
  let x := s.mb k
  (s.setMb k x.ack).whenS x.pending (·.raiseEv (320 + k))

/-- A record is delivered to every mailbox whose producer is this hardware route or poster (R62, R191). -/
def State.deliver (s : State) (kind inst : Nat) (words : List Word) : State :=
  (List.range 64).foldl (fun s k =>
    let x := s.mb k
    s.whenS (x.assigned && x.kind.toNat == kind && x.inst.toNat == inst) (·.mboxRecord k words)) s

/-- The mailbox of a migration's target that takes what mailbox `k` takes, once the mirror is armed (R88). -/
def State.mirrorBox (s : State) (k : Nat) : Option Nat :=
  (List.range 96).findSome? (fun t =>
    let x := s.task t
    match x.mig with
    | some m =>
      if m.copied && x.engine == k / 4 then
        (x.mboxes.zip m.mboxes).findSome? (fun p => if p.1 == some (k % 4) then p.2.map (fun b => 4 * m.dst + b) else none)
      else none
    | none => none)

/-- A post completes a record into a mailbox, and into its mirror's (R64, R88). -/
def State.postRecord (s : State) (k : Nat) (words : List Word) : State :=
  match s.mirrorBox k with
  | some b => (s.mboxRecord k words).mboxRecord b words
  | none => s.mboxRecord k words

/-! ### Releases (R73, R74) -/

/-- The stage of a task's declaration in force; none for no stage. -/
def State.taskStage (s : State) (t : Nat) : Option Nat := if s.dc 2 0x012 t < 12 then some (s.dc 2 0x012 t) else none

/-- The task may be released (R74): its stage is ARMED, RUN or RAMPDOWN, or it has none; in SAFE none is (R355). -/
def State.mayRelease (s : State) (t : Nat) : Bool :=
  (s.task t).placed && !(s.task t).shed && s.dev != devSafe &&
    (match s.taskStage t with | some g => (s.stg g).st.live | none => true)

/-- The source event `src` occurs (R73): the tasks it releases become due. For a cluster, `k` is the reload number; a
free timer releases at each expiry (TASK_DIV 1). -/
def State.releaseOn (s : State) (src k : Nat) : State :=
  { s with due := s.due ++ (List.range 96).filter (fun t =>
      (s.task t).placed && !(s.task t).shed && s.dc 2 0x013 t == src && k % s.dc 2 0x014 t == 0) }

/-! ### Trip matrix (R295) -/

/-- The level at which a source enters the destinations: the wire or its injection, unless a self-check masks the
comparator (R200), inverted under A.203. -/
def State.tmIn (s : State) (src : Nat) : Bool :=
  let masked := decide (src < 48) && (s.cw src).masked
  let raw := (s.flt.src.getLsbD src || s.flt.injSrc.getLsbD src) && !masked
  xor raw (decide (src < 120) && (s.en 0xA 0x203 (src / 48)).testBit (src % 48) && !masked)

/-- Destination dd selects source n in its masks. -/
def State.tmMask (s : State) (dd n : Nat) : Bool := (s.en 0xA (0x200 + n / 48) dd).testBit (n % 48)

/-- Destination dd is asserted: by a selected source, by KILL (source 118) on the lane kills and bank-off wires, or by
the collector's own commands. -/
def State.tmOut (s : State) (dd : Nat) : Bool :=
  (List.range 128).any (fun n => s.tmMask dd n && s.tmIn n)
  || (decide (0x30 ≤ dd) && (s.flt.src.getLsbD 118 || s.flt.injSrc.getLsbD 118))
  || (decide (0x30 ≤ dd) && decide (dd < 0x50) && s.flt.kills.getLsbD (dd - 0x30))
  || (decide (0x50 ≤ dd) && decide (dd < 0x54) && s.flt.bankOff.getLsbD (dd - 0x50))

/-- The kill request of a lane: of the matrix for L0 to L31, of the collector for every lane. -/
def State.killReq (s : State) (l : Nat) : Bool :=
  s.flt.kills.getLsbD l || (decide (l < 32) && s.tmOut (0x30 + l))

/-- A source takes a level at the matrix. -/
def State.setSrc (s : State) (n : Nat) (v : Bool) : State :=
  { s with flt := { s.flt with src := if v then s.flt.src ||| (1#128 <<< n) else s.flt.src &&& ~~~(1#128 <<< n) } }

/-- The fault that sources 0 to 79 raise at an assertion (R296): its code, where TM_CLASS is not NONE. -/
def State.srcFault (s : State) (n : Nat) : Option Nat :=
  if n < 80 ∧ s.en 0xA 0x204 n ≠ 7 then
    some (if n < 48 then 0x060004 + 256 * n else 0x060003 + 256 * (n - 48)) else none

/-- A source of the matrix changes its level (R295, R297): its fault follows the level as a condition. -/
def State.sourceLevel (s : State) (n : Nat) (v : Bool) : State :=
  let s1 := s.setSrc n v
  match s1.srcFault n with
  | some c => if v then s1.condOn c else s1.condOff c
  | none => if v then s1 else (s1.condOff (if n < 48 then 0x060004 + 256 * n else 0x060003 + 256 * (n - 48)))

/-! ### Classes that depend on the moment (R163, R225) -/

/-- The generators of lane l: one for L0 to L31, three for a link lane. -/
def laneGens (l : Nat) : List Nat := if l < 32 then [l] else [32 + 3 * (l - 32), 33 + 3 * (l - 32), 34 + 3 * (l - 32)]

/-- Fine steps of the present device time. -/
def State.now (s : State) : Nat := s.t48.toNat * 32

/-- The present device time as an edge time (R101). -/
def State.nowT (s : State) : EdgeTime := BitVec.ofNat 32 s.now

/-- The time of the next reload of a cluster, as an edge time. -/
def State.nextReloadT (s : State) (c : Nat) : EdgeTime := BitVec.ofNat 32 (((s.cl c).start48 + (s.cl c).len) * 32)

/-- Characters leave the P-die's transmitter (R136, R137). -/
def DLane.put (x : DLane) (cs : List LChar) : DLane :=
  let q := putChars x.rd x.sinceK cs
  { x with tx := q.1, rd := q.2.1, sinceK := q.2.2 }

/-- The C-die has received the first frame of type `ty` that the P-die sent up link lane l - 32: its characters have left, those of a Volley answer
after K28.7 (R150). -/
def State.upPop (s : State) (l ty : Nat) : State :=
  if l < 32 then s
  else
    let d := s.dl (l - 32)
    match d.up.find? (fun f => f.ty == ty) with
    | none => s
    | some f =>
      let cs := (if ty = 0xA3 then [LChar.special .mark] else []) ++ frameChars f.ty (payloadOf f.words)
      s.setDl (l - 32) ({ d with up := d.up.eraseP (fun f => f.ty == ty) }.put cs)

/-- The fault conditions of a satellite that its STATUS shows as over: desaturation and overtemperature once it is no longer
in ALARM, secondary undervoltage once VSEC_UV is 0 too. DEDUCED (log entry 29). -/
def State.satOver (s : State) (l : Nat) (inAlarm uv : Bool) : State :=
  let s := if inAlarm then s else (s.condOff (0x040010 + 256 * l)).condOff (0x040013 + 256 * l)
  if inAlarm || uv then s else s.condOff (0x040012 + 256 * l)

end Sys2Proof.Machine
end

