-- ==== Sys2Proof/Machine/Lanes.lean ====
section
/-! DEFINITION. The lanes L0 to L31 and the C-die's end of the link lanes D0 to D3 (05_gate_lanes.md): the transmitter,
kill, training, Volley, alarms, telemetry and retrain. Lane numbers 32 to 35 are D0 to D3. -/

namespace Sys2Proof.Machine

/-! ### Generators and their lanes (R104, R168) -/

/-- The lane of generator g below 44. -/
def genLane (g : Nat) : Nat := if g < 32 then g else 32 + (g - 32) / 3

/-- The position of an integrated half-bridge's generator in its bank. -/
def genPos (g : Nat) : Nat := (g - 32) % 3

/-- RESUME_NEEDED of a generator: of its lane, or of its half-bridge (R168). -/
def State.resumeNeeded (s : State) (g : Nat) : Bool := if g < 32 then (s.lane g).resumeNeeded else (s.view (g - 32)).resumeNeeded

/-- RESUME_NEEDED takes a value. -/
def State.setResume (s : State) (g : Nat) (v : Bool) : State :=
  if g < 32 then s.setLane g { s.lane g with resumeNeeded := v }
  else s.setView (g - 32) { s.view (g - 32) with resumeNeeded := v }

/-- RESUME_NEEDED is set for every generator of a lane. -/
def State.needResume (s : State) (l : Nat) : State := (laneGens l).foldl (fun s g => s.setResume g true) s

/-- The lane takes the commands of R144: ACTIVE, its Volley LOCKED, no kill requested. -/
def Lane.ready (x : Lane) : Bool := x.st == .active && x.vlock == 2 && !x.kill

/-- PROF as it travels: 0 on a G1 lane (R149); HBSEL and the low two bits on a link lane (R168). -/
def State.cmdProf (s : State) (g prof : Nat) : BitVec 4 :=
  if g < 32 then (if (s.lane g).gen = 1 then 0 else BitVec.ofNat 4 prof) else BitVec.ofNat 4 (4 * genPos g + prof % 4)

/-- DROP_CNT advances (R144, R159). -/
def State.dropCmds (s : State) (l n : Nat) : State :=
  s.setLane l { s.lane l with drop := min 0xFFFFFF ((s.lane l).drop + n) }

/-- Commands of a generator enter the queue of its lane, or are dropped and counted (R144). -/
def State.sendCmds (s : State) (g : Nat) (cs : List LaneCmd) : State :=
  let l := genLane g
  let x := s.lane l
  if x.ready ∧ s.resumeNeeded g = false then s.setLane l { x with qEdge := x.qEdge ++ cs } else s.dropCmds l cs.length

/-- The reload HOLD_OFF of R107, sent whenever the lane is ACTIVE; on another lane or during a kill it is dropped and counted (R153, R159). -/
def State.sendHold (s : State) (l : Nat) (side : BitVec 2) (mask : BitVec 4) (t : EdgeTime) : State :=
  let x := s.lane l
  if x.st = .active ∧ x.kill = false then s.setLane l { x with qEdge := x.qEdge ++ [⟨3, side, mask, t, 0⟩] } else s.dropCmds l 1

/-- A priority HOLD_OFF (R123, R147), dropped and counted likewise. -/
def State.sendPrio (s : State) (l : Nat) (side : BitVec 2) (mask : BitVec 4) (t : EdgeTime) : State :=
  let x := s.lane l
  if x.st = .active ∧ x.kill = false then s.setLane l { x with qHold := x.qHold ++ [⟨3, side, mask, t, 0⟩] } else s.dropCmds l 1

/-- The lanes and masks that a HOLD_OFF of the generators `gs` takes: one command for each lane, with the combined mask on a
link lane (R168). -/
def holdTargets (gs : List Nat) : List (Nat × BitVec 4) :=
  (List.range 36).filterMap (fun l =>
    let m := gs.filter (fun g => g < 44 && genLane g == l)
    if m.isEmpty then none
    else some (l, if l < 32 then 0 else BitVec.ofNat 4 (m.foldl (fun a g => a + 2 ^ genPos g) 0)))

/-- A HOLD_OFF to every output of the generators `gs`. -/
def State.holdGens (s : State) (prio : Bool) (gs : List Nat) (side : BitVec 2) (t : EdgeTime) : State :=
  (holdTargets gs).foldl (fun s p => if prio then s.sendPrio p.1 side p.2 t else s.sendHold p.1 side p.2 t) s

/-! ### State changes and events (R164) -/

/-- The event of a change of a lane's state. -/
def laneEv (l : Nat) : Nat := if l < 32 then 224 + l / 4 else 232 + (l - 32)

/-- The overcurrent source of a filter takes a level. -/
def State.sdSource (s : State) (f : Nat) (v : Bool) : State :=
  if (s.sd f).oc = v then s else (s.setSd f { s.sd f with oc := v }).sourceLevel (48 + f) v

/-- The stream of SDf is fed (R195). -/
def State.sdFed (s : State) (f : Nat) : Bool :=
  let x := s.lane f
  x.st == .active && decide (2 ≤ x.gen) && s.en 5 0x031 f == 1

/-- While a stream is not fed its overcurrent source stays released (R197). -/
def State.sdRelease (s : State) (f : Nat) : State :=
  if s.sdFed f then s else (s.setSd f { s.sd f with run := 0 }).sdSource f false

/-- A lane takes a state. -/
def State.laneTo (s : State) (l : Nat) (st : LaneSt) : State :=
  let x := s.lane l
  ((s.setLane l { x with st := st }).whenS (x.st != st) (·.raiseEv (laneEv l))).whenS (decide (l < 32)) (·.sdRelease l)

/-- The queues of the transmitter are emptied. -/
def Lane.flush (x : Lane) : Lane :=
  { x with qHold := [], qEdge := [], qVolley := false, qAdj := [], qProf := [], qFrame := [], t1 := none, prog := none }

/-! ### Characters on the line (R136, R137, R147) -/

/-- Characters leave on the line (R136, R137). -/
def Lane.put (x : Lane) (cs : List LChar) : Lane :=
  let q := putChars x.rd x.sinceK cs
  { x with tx := q.1, rd := q.2.1, sinceK := q.2.2 }

/-- The characters that leave before the last of `n` due ones: a K28.5 goes first where one is due (R137). -/
def Lane.ahead (x : Lane) (n : Nat) : Nat := b2n (decide (127 < x.sinceK + n))

/-- Ticks of CLK_TB that one character takes: ten bits at 400 Mbit/s, on a link lane at 800 Mbit/s (R135, R161). -/
def charTicks (l : Nat) : Nat := if l < 32 then 10 else 5

/-- An item that was interrupted goes back to the front of its queue, to be resent whole (R140, R147). -/
def Lane.unsend (x : Lane) (p : Sending) : Lane :=
  let y := { x with prog := none, cmdcnt := if p.cmd.isSome then x.cmdcnt - 1 else x.cmdcnt }
  match p.level, p.cmd, p.frame with
  | 3, some c, _ => { y with qEdge := c :: x.qEdge }
  | 4, _, _ => { y with qVolley := true, t1 := none }
  | 5, some c, _ => { y with qAdj := c :: x.qAdj }
  | 6, some c, _ => { y with qProf := c :: x.qProf }
  | 7, _, some f => { y with qFrame := f :: x.qFrame }
  | _, _, _ => y

/-- The item in the serialiser, while its characters last. -/
def State.inSend (s : State) (l : Nat) : Option Sending := (s.lane l).prog.filter (fun p => decide (s.since p.at48 < p.ticks))

/-- A kill is sent, unless the pair is held static (R153, R294): the edge-command queue is empty afterwards, an exchange it cuts is not used (R150), RESUME_NEEDED
is set, KILL_CNT advances; K28.1 is sent, at least eight times. A TIME_ADJ, PROFILE_SET or frame that it interrupts is resent. -/
def State.killSent (s : State) (l : Nat) : State :=
  let x := s.lane l
  if x.st = .off then s
  else
    let x := match (s.inSend l).filter (fun p => decide (5 ≤ p.level)) with
      | some p => x.unsend p
      | none => x
    let y := { x with qHold := [], qEdge := [], qVolley := false, t1 := none, prog := none, kills := min 65535 (x.kills + 1) }
    (s.setLane l (if s.flt.static.getLsbD l then y else y.put (List.replicate 8 (.special .kill)))).needResume l

/-- The kill request of a lane is asserted (R153). -/
def State.killLane (s : State) (l : Nat) : State :=
  if (s.lane l).kill then s else (s.setLane l { s.lane l with kill := true }).killSent l

/-- LANE_KILL (R153). -/
def doLaneKill (l : Fin 36) (s : State) : State := s.killLane l

/-- KILL_END (R153): the request has been released, and K28.5 goes before normal service; while a source or the collector still asserts it, the kill
goes on. -/
def doKillEnd (l : Fin 36) (s : State) : State :=
  let x := s.lane l
  if s.killReq l ∨ x.kill = false then s else s.setLane l ({ x with kill := false }.put [.special .comma])

/-! ### The transmitter (R147, R140, R142) -/

/-- The 48-bit word of a command with its SEQ (R138). -/
def LaneCmd.word (c : LaneCmd) (seq : BitVec 6) : BitVec 48 := edgeWord (BitVec.ofNat 4 c.op) c.side c.prof seq c.t

/-- A command enters the serialiser with the next SEQ (R140), after the characters `pre`; the transmitter is busy with it as long as its
characters take. -/
def Lane.emit (x : Lane) (l now48 level : Nat) (pre : List LChar) (c : LaneCmd) : Lane :=
  let q := x.seq + 1
  let cs := pre ++ edgeChars (c.word q)
  { x with seq := q, cmdcnt := x.cmdcnt + 1, line := some c
           prog := some ⟨level, some c, none, now48, charTicks l * cs.length⟩ }.put cs

/-- A frame enters the serialiser. -/
def Lane.emitFrame (x : Lane) (l now48 : Nat) (pre : List LChar) (f : Frame) : Lane :=
  let cs := pre ++ frameChars f.ty (payloadOf f.words)
  { x with prog := some ⟨7, none, some f, now48, charTicks l * cs.length⟩ }.put cs

/-- Signed difference of edge times (R141). -/
def edgeDiff (a b : EdgeTime) : Int := (a - b).toInt

/-- The characters before an item of a level: ABORT where it interrupts a lower one (R147). -/
def State.aborts (s : State) (l level : Nat) : List LChar :=
  if (s.inSend l).any (fun p => decide (level < p.level)) then [.special .abort] else []

/-- An item of a level with `n` characters, with the ABORT and the K28.5 that go before it, would leave at least 100 ns (40 ticks) before the next
reload of every cluster of the lane that is not OFF (R147). -/
def State.fits (s : State) (l level n : Nat) : Bool :=
  let m := (s.aborts l level).length + n
  let m := m + (s.lane l).ahead m
  (laneGens l).all (fun g =>
    let c := s.cl (genCluster g)
    c.st == .off || decide (s.since c.start48 + charTicks l * m + 40 ≤ c.len))

/-- The level of the highest item that may start: 2 a priority HOLD_OFF, 3 an edge command, 4 a Volley exchange, 5 TIME_ADJ, 6 PROFILE_SET,
7 a frame, 8 idle (R147). -/
def State.topItem (s : State) (l : Nat) : Nat :=
  let x := s.lane l
  if x.qHold ≠ [] then 2
  else if x.qEdge ≠ [] then 3
  else if x.qVolley ∧ s.fits l 4 7 then 4
  else if x.qAdj ≠ [] then 5
  else if x.qProf ≠ [] then 6
  else match x.qFrame with
    | f :: _ => if s.fits l 7 (6 + 3 * f.words.length) then 7 else 8
    | [] => 8

/-- The item of a level leaves, after the characters `pre`. An EDGE_ON with less than 16000 fine steps of lead is dropped and counted (R142);
a Volley mark leaves after the characters that go before it, at a tick boundary t1, which the lane's delay line trims (R150). -/
def State.sendItem (s : State) (l level : Nat) (pre : List LChar) : State :=
  let x := s.lane l
  let now48 := s.t48.toNat
  match level with
  | 2 => match x.qHold with
    | c :: r => s.setLane l ({ x with qHold := r }.emit l now48 2 pre c)
    | [] => s
  | 3 => match x.qEdge with
    | c :: r =>
      if c.op = 1 ∧ edgeDiff c.t s.nowT < 16000 then
        (s.setLane l ({ x with qEdge := r, lateTx := min 65535 (x.lateTx + 1), prog := none }.put pre)).limited (0x040007 + 256 * l)
      else s.setLane l ({ x with qEdge := r }.emit l now48 3 pre c)
    | [] => s
  | 4 =>
    let t1 := s.nowT + BitVec.ofNat 32 (32 * charTicks l * (pre.length + x.ahead (pre.length + 7)))
    let y := { x with qVolley := false }.emit l now48 4 (pre ++ [LChar.special .mark]) ⟨7, 0, 0, t1, 0⟩
    (s.placeEdge (12 + l) 0).setLane l { y with t1 := some t1, vseq := y.seq }
  | 5 => match x.qAdj with
    | c :: r => s.setLane l ({ x with qAdj := r }.emit l now48 5 pre c)
    | [] => s
  | 6 => match x.qProf with
    | c :: r => s.setLane l ({ x with qProf := r }.emit l now48 6 pre c)
    | [] => s
  | 7 => match x.qFrame with
    | f :: r => s.setLane l ({ x with qFrame := r }.emitFrame l now48 pre f)
    | [] => s
  | _ => s.setLane l ({ x with prog := none }.put (pre ++ [LChar.special .comma]))

/-- Nothing leaves: a lane that is OFF (R159) or held static (R294), or CLK_TB is lost (R131). -/
def State.txHeld (s : State) (l : Nat) : Bool :=
  (s.lane l).st == .off || s.flt.static.getLsbD l || s.pwm.clkLost.contains 0

/-- LANE_TRANSMIT (R147): the highest item leaves. A lower one still in the serialiser is interrupted with ABORT and goes back to be resent
whole; one at the same level or higher is done when the next leaves. K28.1 goes on while a kill is requested (R153), and a FAILED lane sends
K28.5 only (R159). -/
def doLaneTransmit (l : Fin 36) (s : State) : State :=
  if s.txHeld l then s
  else if (s.lane l).kill then s.setLane l ((s.lane l).put [.special .kill])
  else if (s.lane l).st = .failed then s.setLane l ((s.lane l).put [.special .comma])
  else
    let top := s.topItem l
    match (s.inSend l).filter (fun p => decide (top < p.level)) with
    | some p => (s.setLane l ((s.lane l).unsend p)).sendItem l top [.special .abort]
    | none => s.sendItem l top []

/-! ### What training delivers (R148, R165, R172, R193) -/

/-- The profile word p of one side as a number (R165, R168). -/
def State.profWord (s : State) (l : Nat) (low : Bool) (p : Nat) : Nat :=
  let o := if low then 0x110 else 0x100
  if l < 32 then s.en 5 (o + p) l % 2 ^ 32
  else if p < 12 then s.en 6 (o + p % 4) (3 * (l - 32) + p / 4) else 0

/-- The profile word that PROF_CRC is to cover: a repeat on an ACTIVE link lane delivers the positions that it names, and the others stand as they
were delivered (R172). -/
def State.profDue (s : State) (l : Nat) (low : Bool) (p : Nat) : Nat :=
  let x := s.lane l
  if 32 ≤ l ∧ x.st = .active ∧ p < 12 ∧ x.cfgNow.testBit (p / 4) = false then
    (Tab.get (fun _ => 0xF7F7) s.drv.prof (64 * (l - 32) + 16 * b2n low + p)).toNat
  else s.profWord l low p

/-- The 32 profile words, high then low. -/
def State.profWords (s : State) (l : Nat) : List Nat :=
  (List.range 16).map (s.profDue l false) ++ (List.range 16).map (s.profDue l true)

/-- PROF_CRC of R148: four bytes of each word. -/
def State.profCrcOf (s : State) (l : Nat) : BitVec 16 := crc16 ((s.profWords l).flatMap (fun v => beBytes v 4))

/-- The sequence words of one converter's sequence (R193). -/
def State.seqCfg (s : State) (n k : Nat) : List Word :=
  let i := 8 * n + k
  let t := s.en 7 0x020 i
  let c0 := s.en 7 0x022 i
  [BitVec.ofNat 24 (t % 128 + 128 * b2n (t == 0xFF) + 256 * (s.en 7 0x021 i - 1)),
   BitVec.ofNat 24 (c0 % 2 ^ 24), BitVec.ofNat 24 (c0 / 2 ^ 24), BitVec.ofNat 24 (s.en 7 0x023 i)]

/-- The words of comparator j of a group (R193). -/
def State.cwCfg (s : State) (n j : Nat) : List Word :=
  let c := 12 * n + j
  [BitVec.ofNat 24 (s.en 7 0x060 c + 16 * s.en 7 0x063 c + 128 * s.en 7 0x064 c + 512 * s.en 7 0x065 c),
   BitVec.ofNat 24 (s.en 7 0x061 c + 1024 * s.en 7 0x062 c)]

/-- The configuration of one position (R172). -/
def State.hbCfg (s : State) (h : Nat) : List Word :=
  [BitVec.ofNat 24 (s.en 6 0x010 h), BitVec.ofNat 24 (s.en 6 0x012 h), BitVec.ofNat 24 (s.en 6 0x013 h),
   BitVec.ofNat 24 (s.en 6 0x014 h), BitVec.ofNat 24 (s.en 6 0x015 h), BitVec.ofNat 24 (s.en 6 0x016 h)]

/-- The runs of configuration words of step 6: start address and words. A repeat on an ACTIVE link lane names only the positions
of the stage that arms (R172). -/
def State.cfgPlan (s : State) (l : Nat) : List (Nat × List Word) :=
  if 32 ≤ l ∧ (s.lane l).st = .active then
    ((List.range 3).filter (fun i => (s.lane l).cfgNow.testBit i)).map (fun i => (16 * i, s.hbCfg (3 * (l - 32) + i)))
  else if l < 32 then
    [(0, (List.range (s.en 5 0x040 l)).map (fun r => BitVec.ofNat 24 (s.en 5 (0x200 + r) l)))]
  else
    let d := l - 32
    (List.range 3).map (fun i => (16 * i, s.hbCfg (3 * d + i)))
      ++ [(0x40, (List.range 8).flatMap (s.seqCfg d)), (0x60, (List.range 12).flatMap (s.cwCfg d))]

/-- Runs cut into pieces of at most seven words, for CFG_WR and CFG_RD frames (R145). -/
def cfgPieces (fuel a : Nat) (ws : List Word) : List (Nat × List Word) :=
  match fuel, ws with
  | 0, _ => []
  | _, [] => []
  | fuel + 1, ws => (a, ws.take 7) :: cfgPieces fuel (a + 7) (ws.drop 7)

/-- Word 0 of CFG_WR and CFG_RD. -/
def cfgHead (a n : Nat) : Word := BitVec.ofNat 24 (a + 256 * (n - 1))

/-- The frames that write and read back the runs. -/
def cfgFrames (runs : List (Nat × List Word)) : List Frame :=
  let ps := runs.flatMap (fun r => cfgPieces 12 r.1 r.2)
  ps.map (fun p => ⟨0x10, cfgHead p.1 p.2.length :: p.2⟩) ++ ps.map (fun p => ⟨0x11, [cfgHead p.1 p.2.length]⟩)

/-- The number of words of step 6. -/
def State.cfgCount (s : State) (l : Nat) : Nat := (s.cfgPlan l).foldl (fun n r => n + r.2.length) 0

/-- The word that step 6 expects at an address. -/
def State.cfgExpect (s : State) (l a : Nat) : Option Word :=
  (s.cfgPlan l).findSome? (fun r => if r.1 ≤ a then r.2[a - r.1]? else none)

/-- The PROFILE_SETs of step 7. On a link lane only positions 0 to 2 have profiles, and a repeat names those of the stage that arms. -/
def State.profCmds (s : State) (l : Nat) : List LaneCmd :=
  let x := s.lane l
  let ps := if l < 32 then List.range 16
    else (List.range 12).filter (fun p => x.st != .active || x.cfgNow.testBit (p / 4))
  ps.map (fun p => ⟨4, 1, BitVec.ofNat 4 p, BitVec.ofNat 32 (s.profWord l false p), 0⟩)
    ++ ps.map (fun p => ⟨4, 2, BitVec.ofNat 4 p, BitVec.ofNat 32 (s.profWord l true p), 0⟩)

/-! ### Training (R148) -/

/-- The slot of a lane's training, retrain job. -/
def State.laneJob (s : State) (l : Nat) : Option Nat :=
  (s.ref.job.find? (fun (p : Nat × Job) =>
    (p.2.kind == JobKind.train || p.2.kind == JobKind.retrain) && p.2.arg == l)).map (fun p => p.1)

/-- GEN_MAX of a lane: the entry's generation, G3 for a link lane. Codes 0, 1, 2 of 5.011 are G1, G2, G3. -/
def State.laneGenMax (s : State) (l : Nat) : Nat := if l < 32 then s.en 5 0x011 l + 1 else 3

/-- The conditions of a lane that stand until it is ACTIVE, HOLD_ONLY or OFF: LANE_NO_TRAIN, LANE_LOST, VOLLEY_UNLOCK,
LANE_FAILED, LINK_FAILED. -/
def State.laneClear (s : State) (l : Nat) : State :=
  [0x040001, 0x040002, 0x040004, 0x040005, 0x040021].foldl (fun s c => s.condOff (c + 256 * l)) s

/-- A write that waits for its readback ends (R193): the word reads back as written and the write goes on, or it is refused and the entry keeps
its old value. -/
def State.waitEnd (s : State) (w : CfgWait) (ok : Bool) : State :=
  let s : State := { s with acq := { s.acq with waits := s.acq.waits.filter (fun x => !(x.key == w.key && x.q == w.q)) } }
  match ok, entRow w.key with
  | true, some r =>
    if s.getKey w.key = w.old then s.respond w.q opWrite 0 0 w.key (statusBody 3 false 0) else s.keepWrite w.q w.key (s.getKey w.key) r
  | _, _ =>
    let c := keyElem w.key
    let x := s.cw c
    let s := s.whenS (w.key == mkKey 7 0x061 c || w.key == mkKey 7 0x062 c)
      (·.setCw c { x with pend := false, reqHi := x.appHi, reqLo := x.appLo })
    (s.putKey w.key w.old).refuse w.q opWrite w.key ⟨errRefused, 0⟩

/-- The writes that wait on a link lane end with its training, which delivers every word, or with its failure. -/
def State.waitsEnd (s : State) (l : Nat) (ok : Bool) : State :=
  (s.acq.waits.filter (fun w => w.d + 32 == l)).foldl (fun s w => s.waitEnd w ok) s

/-- A training step fails (R148): the job ends FAILED with the cause, the lane is FAILED and sends K28.5. -/
def State.trainFail (s : State) (l cause : Nat) : State :=
  let x := s.lane l
  let y := { x.flush with vlock := 0, step := 0, answered := false, fail := cause, cfgNow := 0 }.put [.special .comma]
  let s := ((s.setLane l y).laneTo l .failed).waitsEnd l false
  let s := s.condOn (0x040001 + 256 * l)
  match s.laneJob l with
  | some j => s.endJob j 5 (0xE00200 + cause)
  | none => s

/-- TRAIN_REQ (R148 step 2). -/
def State.sendTrainReq (s : State) (l : Nat) : State :=
  let x := s.lane l
  s.setLane l { x with qFrame := x.qFrame ++ [⟨1, [BitVec.ofNat 24 (65536 * s.laneGenMax l + x.nonce.toNat)]⟩] }

/-- GEN of a training: the lower of the two GEN_MAX values (R148 step 3), on a link lane always G3 (R161). -/
def State.genOf (s : State) (l : Nat) : Nat := if l < 32 then min (s.laneGenMax l) (s.lane l).genSat else 3

/-- TRAIN_SET with the GEN chosen (R148 step 3). -/
def State.sendTrainSet (s : State) (l : Nat) : State :=
  let x := s.lane l
  s.setLane l { x with qFrame := x.qFrame ++
    [⟨2, [BitVec.ofNat 24 (65536 * s.genOf l + x.nonce.toNat)]⟩] }

/-- The frames of step 6. -/
def State.sendCfg (s : State) (l : Nat) : State :=
  let x := s.lane l
  s.setLane l { x with qFrame := x.qFrame ++ cfgFrames (s.cfgPlan l), good := 0, answered := s.cfgCount l == 0 }

/-- Training ends with MARK (R148 step 8): the lane is ACTIVE and RESUME_NEEDED is set. A retrain to a generation below the
one at arming raises LANE_GEN_DROP on the stage, armed or HALTED since (R149). TRAIN_FAIL reads NONE after a training that succeeds: DESIGN
CHOICE (log entry 62). -/
def State.trainDone (s : State) (l : Nat) : State :=
  let x := s.lane l
  let s := s.setLane l { x with qEdge := x.qEdge ++ [⟨6, 0, 0, s.nowT, 0⟩], step := 0, answered := false, fail := 0 }
  let s := (((s.laneTo l .active).needResume l).laneClear l).waitsEnd l true
  let drop := decide (x.gen < x.genArmed) && (s.genHolder l).any (fun g => (s.stg g).st.armedRwi || (s.stg g).st == .halted)
  let s := if l < 32 ∧ drop then s.condOn (0x040006 + 256 * l) else s.condOff (0x040006 + 256 * l)
  match s.laneJob l with
  | some j => s.endJob j 4 0
  | none => s

/-- Step k of R148 begins. In Tadpole mode training ends after step 4 in HOLD_ONLY (R160). -/
def State.trainBegin (s : State) (l k : Nat) : State :=
  let x := s.lane l
  let s0 := s.setLane l { x with step := k, tries := 1, answered := false, good := 0, bad := 0, exchanges := 0 }
  if k = 2 then
    ((s0.setLane l { s0.lane l with nonce := Config.free 16 s.free }).tick).sendTrainReq l
  else if k = 3 then
    if l < 32 ∧ s.genOf l < s.en 5 0x014 l + 1 then s0.trainFail l 3 else s0.sendTrainSet l
  else if k = 4 then
    s0.setLane l { s0.lane l with qFrame := x.qFrame ++ (List.range 64).map (fun k => ⟨3, wordsOf (testPayload k)⟩), tail := [] }
  else if k = 5 then
    if s.boot.tadpole then
      let s1 := ((s0.setLane l { s0.lane l with step := 0 }).laneTo l .holdOnly).laneClear l
      match s1.laneJob l with
      | some j => s1.endJob j 4 0
      | none => s1
    else s0.setLane l { s0.lane l with vlock := 1, thetas := [], delays := [], alone := 0, miss := 0 }
  else if k = 6 then (s0.setLane l { s0.lane l with cfgDue := if x.st = .active then x.cfgDue else 0 }).sendCfg l
  else if k = 7 then
    if x.gen < 2 then s0.setLane l { s0.lane l with answered := true }
    else s0.setLane l { s0.lane l with qProf := x.qProf ++ s.profCmds l }
  else if k = 8 then s0.trainDone l
  else s0

/-- Whether a training waits for the lane: its step is neither unbegun nor answered. -/
def State.trainWaits (s : State) (l : Nat) : Bool := (s.lane l).step != 0 && !(s.lane l).answered

/-- One step of a training job (R148): the next training step begins where the present one is done. Training ends the static
level of R294. -/
def State.trainStep (s : State) (l : Nat) : State :=
  let x := s.lane l
  if x.step = 0 then
    let s := if x.st = .retraining then s else s.laneTo l .training
    let s : State := { s with flt := { s.flt with static := s.flt.static &&& ~~~(1#36 <<< l) } }
    s.trainBegin l 1
  else if x.answered then s.trainBegin l (x.step + 1)
  else s

/-- The repeat of steps 6 and 7 on an ACTIVE lane whose words are due (R165, R172), for the positions of `mask`: begins, goes on, or ends. -/
def State.redeliver (s : State) (l mask : Nat) : State :=
  let x := s.lane l
  if x.step = 0 then (s.setLane l { x with cfgNow := x.cfgDue &&& mask, cfgDue := x.cfgDue - (x.cfgDue &&& mask) }).trainBegin l 6
  else if x.step = 6 then s.trainBegin l 7
  else s.setLane l { x with step := 0, answered := false, cfgNow := 0 }

/-- The C-die begins a retrain: characters flow on the link lane, and the P-die's upstream answers again (R12). -/
def State.linkWakes (s : State) (l : Nat) : State :=
  if l < 32 then s else s.setDl (l - 32) { s.dl (l - 32) with lost := false }

/-- A training starts without a kill burst (R148): the lane is TRAINING. -/
def State.startTrain (s : State) (l : Nat) : State :=
  let x := s.lane l
  ((s.setLane l { x.flush with vlock := 0, step := 0, answered := false, cfgNow := 0, locked := false }).laneTo l .training).linkWakes l

/-- RECEIVER_LOCK (R148 step 1): the receiver has aligned on the alignment comma, in slot 1 of its superframe. Without VDDL, at its reset level, no
lane can train (R432). -/
def doReceiverLock (l : Fin 36) (s : State) : State :=
  let x := s.lane l
  if x.step = 1 ∧ (s.supply 4).reset = false then (s.setLane l { x with answered := true }).setRx l { s.rx l with asm := Asm.empty, slot := 2, commas := [] } else s

/-- A frame arrives at the device (R145): discarded and counted unless its CRC and length are right; `f` is its effect. Its characters have come in
the payload slots (R146). -/
def State.upFrame (s : State) (l ty : Nat) (payload : List Byte) (fcs : BitVec 16) (f : State → State) : State :=
  let cs := LChar.special .sof :: (frameBody ty payload ++ beBytes fcs.toNat 2).map .data ++ [.special .eof]
  let y := (s.rx l).chars (decide (32 ≤ l)) (s.lane l).gen cs
  let s := s.upPop l ty
  let s := s.setRx l { y with asm := Asm.empty, rd := if l < 32 then y.rd else (s.dl (l - 32)).rd }
  if frameOk ty payload fcs then f s else s.setLane l { s.lane l with crcErr := min 0xFFFFFF ((s.lane l).crcErr + 1) }

/-- TRAIN_RSP (R148 step 2): ignored unless it echoes the NONCE. -/
def doTrainRsp (l : Fin 36) (genMax : BitVec 8) (nonce : BitVec 16) (satId : Word) (serial : BitVec 48) (caps : Word)
    (fcs : BitVec 16) (s : State) : State :=
  let w0 : Word := genMax ++ nonce
  s.upFrame l 0x81 (payloadOf [w0, satId, serial.extractLsb' 24 24, serial.extractLsb' 0 24, caps]) fcs (fun s =>
    let x := s.lane l
    if x.step = 2 ∧ nonce = x.nonce then
      s.setLane l { x with answered := true, genSat := genMax.toNat, satId := satId, serial := serial, caps := caps }
    else s)

/-- TRAIN_ACK (R148 step 3, R149): both sides use GEN from the next character. -/
def doTrainAck (l : Fin 36) (gen : BitVec 8) (nonce : BitVec 16) (fcs : BitVec 16) (s : State) : State :=
  let w0 : Word := gen ++ nonce
  s.upFrame l 0x82 (payloadOf [w0]) fcs (fun s =>
    let x := s.lane l
    if x.step = 3 ∧ nonce = x.nonce ∧ gen.toNat = s.genOf l then s.setLane l { x with answered := true, gen := gen.toNat } else s)

/-- The bits of a byte in the order of the line, bit a (the least significant) first (R136). -/
def byteBits (b : Byte) : List Bool := (List.range 8).map b.getLsbD

/-- The recurrence of the PRBS-7 sequence, x^7 + x^6 + 1. PRESUMED (log entry 12). -/
def prbs7 : List Bool → Bool
  | a :: b :: c :: d :: e :: f :: g :: h :: r => (h == xor a b) && prbs7 (b :: c :: d :: e :: f :: g :: h :: r)
  | _ => true

/-- A TEST payload is of the PRBS-7 sequence: 24 characters, the recurrence, not all zero, going on after the last bits of the frame
before. -/
def testOk (tail : List Bool) (p : List Byte) : Bool := p.length == 24 && prbs7 (tail ++ p.flatMap byteBits) && p.any (· != 0)

/-- The last seven bits of a payload. -/
def testTail (p : List Byte) : List Bool := let b := p.flatMap byteBits; b.drop (b.length - 7)

/-- A TEST frame at the device in step 4 (R148): 64 correct ones complete the step and a wrong one fails it. -/
def State.testUp (s : State) (l : Nat) (ok : Bool) (payload : List Byte) : State :=
  let x := s.lane l
  if x.step = 4 ∧ x.answered = false then
    if ok ∧ testOk x.tail payload then
      s.setLane l { x with good := x.good + 1, answered := decide (63 ≤ x.good), tail := testTail payload }
    else s.trainFail l 4
  else s

/-- TEST (R145, R148 step 4): upstream, the device counts the frames. Downstream, the P-die answers with a frame of its own. -/
def doTest (l : Fin 36) (upstream : Bool) (payload : List Byte) (fcs : BitVec 16) (s : State) : State :=
  let ok := frameOk 3 payload fcs
  if upstream then (s.upFrame l 3 payload fcs id).testUp l ok payload
  else if 32 ≤ l.val then
    let d := s.dl (l - 32)
    let y := { d with up := d.up ++ [⟨3, wordsOf (testPayload d.tests)⟩], tests := d.tests + 1, tail := testTail payload }
    s.setDl (l - 32) (if !ok then { d with crcErr := d.crcErr + 1 } else if testOk d.tail payload then y else { y with codeErr := d.codeErr + 1 })
  else s

/-- Whether the words of a CFG_RSP are those expected from an address on. -/
def State.cfgMatches (s : State) (l : Nat) : Nat → List Word → Bool
  | _, [] => true
  | a, w :: r => s.cfgExpect l a == some w && s.cfgMatches l (a + 1) r

/-- The SAT_READ job of a lane that waits. -/
def State.satReadJob (s : State) (l : Nat) : Option (Nat × Job) :=
  s.ref.job.find? (fun (p : Nat × Job) => p.2.kind == JobKind.satRead && p.2.arg == l)

/-- A CFG_RSP (R148 step 6, R165, R193): in training the words read back must equal those written; otherwise it ends a write that waits for
its readback, or answers SAT_READ. -/
def State.cfgAnswer (s : State) (l : Nat) (addr : BitVec 8) (refused : Bool) (data : List Word) : State :=
  let x := s.lane l
  if x.step = 6 then
    if refused ∨ s.cfgMatches l addr.toNat data = false then
      if x.tries < 3 then (s.setLane l { x with tries := x.tries + 1, qFrame := [] }).sendCfg l else s.trainFail l 6
    else s.setLane l { x with good := x.good + data.length, answered := decide (s.cfgCount l ≤ x.good + data.length) }
  else match s.acq.waits.find? (fun w => w.d + 32 == l && w.addr == addr.toNat), s.satReadJob l with
    | some w, _ => if refused then s.waitEnd w false else if data = [] then s else s.waitEnd w (decide (data = w.words))
    | none, some (j, _) =>
      if refused then s.endJob j 5 0xE00802
      else match data with
        | w :: _ => ((s.setLane l { x with readVal := some w }).put 5 0x042 l w.toNat).endJob j 4 0
        | [] => s
    | none, none => s

/-- Word 0 of CFG_RSP (R145): ADDR, COUNT − 1 and REFUSED. -/
def cfgRspHead (addr : BitVec 8) (n : Nat) (refused : Bool) : Word := fields 24 [(addr.toNat, 0), (n - 1, 8), (b2n refused, 12)]

/-- CFG_RSP (R145, R148, R165): `cnt` is the COUNT − 1 field; the answer to a write carries no data words, whatever it is. -/
def doCfgRsp (l : Fin 36) (addr : BitVec 8) (refused : Bool) (data : List Word) (fcs : BitVec 16) (cnt : BitVec 3) (s : State) : State :=
  s.upFrame l 0x90 (payloadOf (cfgRspHead addr (cnt.toNat + 1) refused :: data)) fcs (·.cfgAnswer l addr refused data)

/-- TRAIN_STEP_TIMEOUT (R148): steps 2, 3, 6 and 7 have three attempts; the others fail. Step 3 of a link lane cannot fail (R161). -/
def doTrainStepTimeout (l : Fin 36) (s : State) : State :=
  let x := s.lane l
  if x.step = 0 ∨ x.answered then s
  else
    let again := { x with tries := x.tries + 1 }
    if x.step = 1 then s.trainFail l 1
    else if x.step = 2 then (if x.tries < 3 then (s.setLane l again).sendTrainReq l else s.trainFail l 2)
    else if x.step = 3 then (if x.tries < 3 ∨ 32 ≤ l.val then (s.setLane l again).sendTrainSet l else s.trainFail l 2)
    else if x.step = 4 then s.trainFail l 4
    else if x.step = 5 then s.trainFail l 5
    else if x.step = 6 then (if x.tries < 3 then (s.setLane l again).sendCfg l else s.trainFail l 6)
    else if x.tries < 3 then s.setLane l { again with qProf := x.qProf ++ s.profCmds l }
    else s.trainFail l 7

/-! ### Retrain (R157) -/

/-- A retrain begins: a kill burst, an empty queue, RETRAINING. -/
def State.retrainBegin (s : State) (l : Nat) : State :=
  let s := s.killSent l
  let x := s.lane l
  let s := s.setLane l { x.flush with vlock := 0, step := 0, answered := false, cfgNow := 0, retrains := min 65535 (x.retrains + 1) }
  let s := (s.laneTo l .retraining).linkWakes l
  s.report (if l < 32 then 0x040003 + 256 * l else 0x040020 + 256 * l)

/-- A retrain with a job of the supervisor's own. -/
def State.retrainOwn (s : State) (l : Nat) : State :=
  (s.retrainBegin l).startOwnJob .retrain l [] 0 8 (mkKey 5 0x012 l)

/-- An automatic retrain trigger of R156 on an ACTIVE lane: at most three within 1 s (400 000 000 ticks), then FAILED. -/
def State.retrainTrigger (s : State) (l : Nat) : State :=
  let x := s.lane l
  if x.st ≠ .active ∨ (l < 32 ∧ s.en 5 0x01C l = 0) then s
  else
    let recent := x.autoAt.filter (fun a => decide (s.since a < 400000000))
    if 3 ≤ recent.length then
      ((s.setLane l ({ x.flush with vlock := 0, autoAt := recent, locked := true }.put [.special .comma])).laneTo l .failed).condOn
        ((if l < 32 then 0x040005 else 0x040021) + 256 * l)
    else (s.setLane l { x with autoAt := s.t48.toNat :: recent }).retrainOwn l

/-- RETRAIN (R157): a retrain of an ACTIVE lane begins. -/
def doRetrain (l : Fin 36) (s : State) : State := s.retrainTrigger l

/-- LANE_LOST (R156): on a link lane the fault is LINK_RETRAIN alone (R161). -/
def doLaneLost (l : Fin 36) (s : State) : State :=
  if (s.lane l).st = .active then
    let s := if l.val < 32 then s.condOn (0x040002 + 256 * l) else s.setLane l { s.lane l with lossSeen := true }
    s.retrainTrigger l
  else s

/-- An alignment comma was expected (R146): two missing in a row are a misaligned receiver, which is a retrain trigger (R156). -/
def State.commaSeen (s : State) (l : Nat) (seen : Bool) : State :=
  let x := s.rx l
  let cs := seen :: x.commas.take 1
  (s.setRx l { x with commas := cs }).whenS (misaligned cs) (·.retrainTrigger l)

/-- LANE_MISALIGNED (R146, R156): the alignment comma is missing from the expected position for the second time in a row. -/
def doLaneMisaligned (l : Fin 36) (s : State) : State := (s.setRx l { s.rx l with commas := [false] }).commaSeen l false

/-- A code error at the device's receiver (R136, R156): counted; on an ACTIVE lane noted at most once per 1 ms, and 16 within a sliding 1 ms retrain
it; one in training step 4 fails it. -/
def State.codeError (s : State) (l : Nat) : State :=
  let x := s.lane l
  let y := { x with codeErr := min 0xFFFFFF (x.codeErr + 1) }
  if x.st = .active then
    let recent := s.t48.toNat :: x.codeAt.filter (fun a => decide (s.since a < 400000))
    let many := decide (16 ≤ recent.length)
    let s1 := (s.setLane l { y with codeAt := if many then [] else recent }).limited (0x040008 + 256 * l)
    if many then s1.retrainTrigger l else s1
  else if x.step = 4 then (s.setLane l y).trainFail l 4
  else s.setLane l y

/-! ### The Volley (R150, R151) -/

/-- Volley loss (R151, R156, R158). -/
def State.volleyLoss (s : State) (l : Nat) : State :=
  let x := s.lane l
  let s := s.setLane l { x with vlock := 0, bad := 0, miss := 0 }
  let s := if l < 32 then s.condOn (0x040004 + 256 * l) else s
  s.retrainTrigger l

/-- VOLLEY_EXCHANGE (R150, R151): an exchange is queued; exchanges pause while a kill is sent. -/
def doVolleyExchange (l : Fin 36) (s : State) : State :=
  let x := s.lane l
  if x.vlock = 0 ∨ x.kill then s else s.setLane l { x with qVolley := true }

/-- The sum of integers. -/
def sumInt (l : List Int) : Int := l.foldl (· + ·) 0

/-- `x` divided by `n` and rounded to the nearest integer, halves away from zero (R151). -/
def roundDiv (x : Int) (n : Nat) : Int :=
  if 0 ≤ x then (2 * x + n) / (2 * n) else -((2 * (-x) + n) / (2 * n))

/-- Division by 2 rounded toward 0 (R150). -/
def half (x : Int) : Int := if 0 ≤ x then x / 2 else -((-x) / 2)

/-- `x` limited to ±4 (R151). -/
def lim4 (x : Int) : Int := max (-4) (min 4 x)

/-- A TIME_ADJ command (R139). -/
def timeAdj (v : Int) : LaneCmd := ⟨8, 0, 0, BitVec.ofInt 32 v, 0⟩

/-- An exchange answered (R150, R151): path delay d and offset θ; the actions of LOCKING and LOCKED. PATH_DELAY is the mean of the last eight
delays (R152), from the eighth on. -/
def State.volleyRep (s : State) (l : Nat) (seq : BitVec 6) (r1 s2 t4 : EdgeTime) : State :=
  let x := s.lane l
  match x.t1 with
  | none => s
  | some t1 =>
    if seq ≠ x.vseq then s
    else
      let d := half ((t4 - t1).toInt - (s2 - r1).toInt)
      let th := (r1 - t1).toInt - d
      let ds := (d :: x.delays).take 8
      let y := { x with t1 := none, miss := 0, delays := ds, pathD := if ds.length = 8 then (sumInt ds).tdiv 8 else x.pathD }
      if x.vlock = 1 then
        let small := decide (th.natAbs ≤ 2)
        let g := if small then x.good + 1 else 0
        let y := { y with exchanges := x.exchanges + 1, good := g, thetas := (th :: x.thetas).take 8,
                          alone := if small then x.alone - 1 else 8,
                          qAdj := if small then x.qAdj else x.qAdj ++ [timeAdj (-th)] }
        if 8 ≤ g then s.setLane l { y with vlock := 2, bad := 0, answered := x.answered || x.step == 5, resid := sumInt y.thetas }
        else if 64 ≤ y.exchanges then (s.setLane l y).trainFail l 5
        else s.setLane l y
      else if x.vlock = 2 then
        let bad := if 8 < th.natAbs then x.bad + 1 else 0
        let ths := (th :: x.thetas).take 8
        let full := decide (ths.length = 8)
        let adj : Int := if x.alone ≠ 0 then th
          else if full ∧ 8 ≤ (sumInt ths).natAbs then roundDiv (sumInt ths) 8 else 0
        let y := if adj = 0 then { y with bad := bad, thetas := ths, alone := x.alone - 1,
                                          resid := if full then sumInt ths else x.resid }
          else { y with bad := bad, thetas := [], alone := 8, qAdj := x.qAdj ++ [timeAdj (lim4 (-adj))],
                        resid := if full then sumInt ths else x.resid }
        if 3 ≤ bad then (s.setLane l y).volleyLoss l else s.setLane l y
      else s.setLane l y

/-- VOLLEY_REP (R145, R150). -/
def doVolleyRep (l : Fin 36) (seq : BitVec 6) (r1 s2 t4 : EdgeTime) (fcs : BitVec 16) (s : State) : State :=
  let w2 : Word := fields 24 [(r1.toNat / 2 ^ 24, 16), (s2.toNat / 2 ^ 24, 8)]
  s.upFrame l 0xA3 (payloadOf [seq.setWidth 24, r1.setWidth 24, w2, s2.setWidth 24]) fcs (·.volleyRep l seq r1 s2 t4)

/-- VOLLEY_MISS (R150, R151): three consecutive misses are a Volley loss. -/
def doVolleyMiss (l : Fin 36) (s : State) : State :=
  let x := s.lane l
  if x.t1 = none then s
  else
    let y := { x with t1 := none, miss := x.miss + 1 }
    if x.vlock = 2 then
      if 3 ≤ y.miss then (s.setLane l y).volleyLoss l else s.setLane l y
    else if x.vlock = 1 then
      let z := { y with exchanges := x.exchanges + 1, good := 0 }
      if 64 ≤ z.exchanges then (s.setLane l z).trainFail l 5 else s.setLane l z
    else s.setLane l y

/-! ### Alarms and telemetry (R154, R155, R163) -/

/-- A routed telemetry record (R155). -/
def State.telemetry (s : State) (l ty bit : Nat) (words : List Word) : State :=
  if l < 32 ∧ (s.en 5 0x030 l).testBit bit then
    (s.deliver 2 l (BitVec.ofNat 24 (ty + 256 * l) :: words)).raiseEv (192 + l)
  else s

/-- SAT_ALARM (R154): the satellite-alarm source of Ln is asserted. -/
def doSatAlarm (l : Fin 36) (s : State) : State :=
  let x := s.lane l
  if x.st = .off then s
  else
    let s := s.setLane l { x with alarm := true, alarms := min 65535 (x.alarms + 1) }
    if l.val < 32 then s.setSrc (80 + l) true else s

/-- The alarm source is released. -/
def State.alarmEnd (s : State) (l : Nat) : State :=
  let s := s.setLane l { s.lane l with alarm := false, alarmCode := none }
  if l < 32 then s.setSrc (80 + l) false else s

/-- The alarm source is released once the collector has recorded the cause (R154): its report has been taken. -/
def State.alarmAwait (s : State) (l code : Nat) : State :=
  if s.flt.reports.any (fun r => r.code == code && !r.inj) then s.setLane l { s.lane l with alarmCode := some code } else s.alarmEnd l

/-- The collector has recorded a code: the alarm source that waits for it is released. -/
def State.alarmRecorded (s : State) (code : Nat) : State :=
  let l := if code / 65536 = 4 then code / 256 % 256 else 32 + code / 256 % 256 / 3
  if (s.lane l).alarmCode = some code then s.alarmEnd l else s

/-- The fault cause of an alarm cause on an external lane (R163, R310). -/
def alarmFault (c : Nat) : Nat :=
  if c = 1 then 0x10 else if c = 2 then 0x11 else if c = 3 then 0x12 else if c = 4 then 0x13 else if c = 5 then 0x14
  else if c = 6 then 0x15 else if c = 7 then 0x17 else if c = 8 then 0x16 else if c = 9 then 0x18 else 0x19

/-- The fault of an alarm cause on a link lane (R168): of the half-bridge, or of the lane. -/
def linkAlarmFault (l h c : Nat) : Nat :=
  if c = 1 then 0x050004 + 256 * h else if c = 2 then 0x050001 + 256 * h else if c = 3 then 0x050002 + 256 * h
  else if c = 0x10 then 0x050005 + 256 * h
  else if 5 ≤ c ∧ c ≤ 9 then 0x040000 + alarmFault c + 256 * l else 0x040019 + 256 * l

/-- Both sides of a generator are marked for restart, and a priority HOLD_OFF to the next reload goes out on its lane alone
(R142, STP). -/
def State.stpHold (s : State) (g : Nat) : State :=
  let s := s.setGen g { s.gen g with markH := true, markL := true }
  s.sendPrio (genLane g) 3 (if g < 32 then 0 else BitVec.ofNat 4 (2 ^ genPos g)) (s.nextReloadT (genCluster g))

/-- ALARM_TIMEOUT (R154): cause UNKNOWN; the CAUSE field has no code for it, so it takes a free value (log entry 5). -/
def doAlarmTimeout (l : Fin 36) (s : State) : State :=
  let x := s.lane l
  if x.alarm ∧ x.alarmCode = none then
    let s := (s.setLane l { x with cause := Config.free 8 s.free }).tick
    (s.report (0x040019 + 256 * l)).alarmAwait l (0x040019 + 256 * l)
  else s

/-- An output is confirmed off (R294): lanes 0 to 31, half-bridges from 32 on. -/
def State.confirmOff (s : State) (o : Nat) : State :=
  { s with flt := { s.flt with unconf := s.flt.unconf.filter (· != o) } }

/-- The training's use of PROF_CRC (R148 step 7). -/
def State.trainStatus (s : State) (l : Nat) (crc : BitVec 16) : State :=
  let x := s.lane l
  if x.step = 7 ∧ x.answered = false ∧ x.qProf = [] then
    if crc = s.profCrcOf l then s.setLane l { x with answered := true }
    else if x.tries < 3 then s.setLane l { x with tries := x.tries + 1, qProf := s.profCmds l }
    else s.trainFail l 7
  else s

/-- STATUS of an external lane. -/
def State.statusExt (s : State) (l : Nat) (w0 w1 w2 w3 : Word) : State :=
  let x := s.lane l
  let sat := w0.toNat % 4
  let bw := w0.getLsbD 3 && decide (2 ≤ x.gen)
  let s := s.setLane l { x with
    sat := sat, offConf := w0.getLsbD 2, bstWarn := bw, vsecUv := w0.getLsbD 4
    satLate := BitVec.ofNat 8 (w0.toNat / 256), satTemp := BitVec.ofNat 16 w1.toNat, profCrc := BitVec.ofNat 16 w2.toNat
    satStp := BitVec.ofNat 8 (w2.toNat / 65536), satGap := BitVec.ofNat 8 (w3.toNat / 256), statusAt := some s.t48.toNat
    resumeNeeded := x.resumeNeeded || sat == 0 }
  let s := s.setGen l { s.gen l with bstWarn := bw }
  let s := (s.whenS (x.sat != sat) (·.raiseEv (laneEv l))).satOver l (sat == 2) (w0.getLsbD 4)
  s.whenS (w0.getLsbD 2) (·.confirmOff l)

/-- The positions of bank b that are enabled. -/
def State.bankEnabled (s : State) (b : Nat) : Nat :=
  (List.range 3).foldl (fun m i => if s.en 6 0x010 (3 * b + i) = 1 then m + 2 ^ i else m) 0

/-- LINK_LOSS of BKSTAT (R12) takes a value, with its event (R181). -/
def State.setLinkLoss (s : State) (b : Nat) (v : Bool) : State :=
  if s.drv.linkLoss.getLsbD b = v then s
  else ({ s with drv := { s.drv with linkLoss := s.drv.linkLoss ^^^ (1#4 <<< b) } }).raiseEv (316 + b)

/-- STATUS of one half-bridge on a link lane (R168, R181). LINK_LOSS reads 1 from the first STATUS after the retrain until every enabled
half-bridge of the bank has shown RUN since (R12). -/
def State.statusLink (s : State) (l : Nat) (w0 w1 w2 w3 : Word) : State :=
  let b := l - 32
  let i := w0.toNat / 2 ^ 22 % 4
  let h := 3 * b + i
  let x := s.lane l
  let first := x.lossSeen && x.st == .active
  let wait := if first then s.bankEnabled b else x.waitRun
  let v := s.view h
  let st := BitVec.ofNat 2 w0.toNat
  let s := s.setLane l { x with
    sat := st.toNat, satLate := BitVec.ofNat 8 (w0.toNat / 256), satTemp := BitVec.ofNat 16 w1.toNat
    profCrc := BitVec.ofNat 16 w2.toNat, satStp := BitVec.ofNat 8 (w2.toNat / 65536), satGap := BitVec.ofNat 8 (w3.toNat / 256)
    lossSeen := x.lossSeen && !first
    waitRun := if st = 1 ∧ wait.testBit i then wait - 2 ^ i else wait }
  let s := s.setView h { v with st := st, offConf := w0.getLsbD 2, bstWarn := w0.getLsbD 3, resumeNeeded := v.resumeNeeded || st == 0 }
  let s := s.setGen (32 + h) { s.gen (32 + h) with bstWarn := w0.getLsbD 3 }
  let s := s.whenS (v.st != st || v.offConf != w0.getLsbD 2 || v.bstWarn != w0.getLsbD 3) (·.raiseEv (304 + h))
  let s := s.setLinkLoss b ((s.lane l).waitRun != 0)
  let s := s.whenS (st != 2) (·.condOff (0x050004 + 256 * h))
  s.whenS (w0.getLsbD 2) (·.confirmOff (32 + h))

/-- STATUS_FRAME (R155, R164, R168). HBSEL 3 on a link lane names no half-bridge and is ignored. -/
def doStatusFrame (l : Fin 36) (w0 w1 w2 w3 : Word) (fcs : BitVec 16) (s : State) : State :=
  s.upFrame l 0xA0 (payloadOf [w0, w1, w2, w3]) fcs (fun s =>
    if l.val < 32 then
      ((s.statusExt l w0 w1 w2 w3).trainStatus l (BitVec.ofNat 16 w2.toNat)).telemetry l 0xA0 0 [w0, w1, w2, w3]
    else if w0.toNat / 2 ^ 22 = 3 then s
    else (s.statusLink l w0 w1 w2 w3).trainStatus l (BitVec.ofNat 16 w2.toNat))

/-- EDGE_TELE (R155, R181). -/
def doEdgeTele (l : Fin 36) (w0 w1 w2 : Word) (fcs : BitVec 16) (s : State) : State :=
  s.upFrame l 0xA1 (payloadOf [w0, w1, w2]) fcs (fun s =>
    if l.val < 32 then
      (s.setLane l { s.lane l with etdly := BitVec.ofNat 16 w1.toNat, ettrn := BitVec.ofNat 16 w2.toNat }).telemetry l 0xA1 1 [w0, w1, w2]
    else
      let i := w0.toNat / 2 ^ 14 % 4
      if i = 3 then s
      else
        let h := 3 * (l.val - 32) + i
        s.setView h { s.view h with etd := BitVec.ofNat 16 w1.toNat, ett := BitVec.ofNat 16 w2.toNat })

/-- TADPOLE_HOLD_OFF (R160): HOLD_OFF both, 100 µs (1 280 000 fine steps) ahead; during a kill it is dropped and counted (R153). -/
def doTadpoleHoldOff (l : Fin 36) (s : State) : State :=
  let x := s.lane l
  if x.st = .holdOnly ∧ x.kill then s.dropCmds l 1
  else if x.st = .holdOnly then
    s.setLane l { x with qHold := x.qHold ++ [⟨3, 3, if l.val < 32 then 0 else 7, s.nowT + 1280000, 0⟩] }
  else s

/-! ### Commands of the dictionary (R148, R165) -/

/-- The lane's stage if it is ARMED, RUN or RAMPDOWN. -/
def State.laneLive (s : State) (l : Nat) : Option Nat := s.liveStage (s.genHolder l)

/-- A lane is disabled: OFF, its training cancelled. -/
def State.laneOff (s : State) (l : Nat) : State :=
  let s1 := match s.laneJob l with
    | some j => s.endJob j 6 0
    | none => s
  let x := s1.lane l
  ((s1.setLane l { x.flush with vlock := 0, gen := 0, sat := 3, step := 0, answered := false, cfgNow := 0 }).laneTo l .off).laneClear l

/-- An enabled lane that is not ACTIVE trains (R148, R363); one that a fourth trigger set FAILED trains by LANE_CMD alone (R157). On an ACTIVE lane a
write of LANE_ENABLE = 1 starts nothing: DESIGN CHOICE (log entry 62). -/
def State.laneOn (s : State) (l : Nat) : State :=
  if (s.lane l).st = .active ∨ (s.laneJob l).isSome ∨ ((s.lane l).st = .failed ∧ (s.lane l).locked) then s
  else (s.startTrain l).startOwnJob .train l [] 0 8 (mkKey 5 0x012 l)

/-- LANE_ENABLE (R148, R165): 0 is refused while the lane's stage is ARMED, RUN or RAMPDOWN. -/
def doLaneEnable (q : Req) (l : Fin 32) (v : BitVec 48) (s : State) : State :=
  s.dictWrite q (mkKey 5 0x010 l) v.toNat
    (fun s => if v = 0 then s.laneLive l else none)
    (fun s => if v = 0 then s.laneOff l else s.laneOn l)

/-- LANE_CMD (R148): refused while the lane is disabled or has a training job. -/
def State.laneCmd (s : State) (q : Req) (l v : Nat) : State :=
  s.dictJob q (mkKey 5 0x012 l) v 0 (fun _ => none)
    (fun s => if s.en 5 0x010 l = 0 ∨ (s.laneJob l).isSome then some ⟨errRefused, 0⟩ else none)
    (fun s =>
      let s := s.setLane l { s.lane l with locked := false }
      if (s.lane l).st = .active ∨ (s.lane l).st = .holdOnly then
        (s.retrainBegin l).startJob q.tag.toNat .retrain l [] 0 8 (mkKey 5 0x012 l) (some q)
      else (s.startTrain l).startJob q.tag.toNat .train l [] 0 8 (mkKey 5 0x012 l) (some q))

/-- TRAIN (R148): LANE_CMD 0. -/
def doTrain (q : Req) (l : Fin 32) (s : State) : State := s.laneCmd q l 0

/-- RETRAIN_CMD (R148): LANE_CMD 1. -/
def doRetrainCmd (q : Req) (l : Fin 32) (s : State) : State := s.laneCmd q l 1

/-- SAT_READ (R165): a job of base priority 0 that reads one satellite configuration address. -/
def doSatRead (q : Req) (l : Fin 32) (addr : BitVec 48) (s : State) : State :=
  s.dictJob q (mkKey 5 0x041 l) addr.toNat 0 (fun _ => none) (fun _ => none)
    (fun s => s.startJob q.tag.toNat .satRead l [BitVec.ofNat 24 addr.toNat] 0 2 (mkKey 5 0x041 l) (some q))

/-- One step of a SAT_READ job: the CFG_RD goes out; a lane that is not ACTIVE does not answer (R450). -/
def State.satReadStep (s : State) (slot : Nat) (j : Job) : State :=
  let x := s.lane j.arg
  if x.st = .active then
    if j.steps ≤ 1 then
      s.setLane j.arg { x with qFrame := x.qFrame ++ [⟨0x11, [cfgHead ((j.data.headD 0).toNat % 256) 1]⟩] }
    else s
  else s.endJob slot 5 0xE00801

end Sys2Proof.Machine
end

