-- ==== Sys2Proof/Machine/Drivers.lean ====
section
/-! DEFINITION. The integrated drivers on the P-die (06_integrated_drivers.md): the receipt of edge commands under R141 to R143
and R168, turning half-bridges off (R170), their monitors (R174 to R176), training and configuration as the P-die answers
them (R148, R172), and the off-state test (R177). -/

namespace Sys2Proof.Machine

/-! ### The P-die's time, configuration and upstream frames -/

/-- The bank of a half-bridge, and its position (R166). -/
def hbBank (h : Nat) : Nat := h / 3
/-- The position of a half-bridge in its bank. -/
def hbPos (h : Nat) : Nat := h % 3
/-- The half-bridges of a bank. -/
def bankHbs (b : Nat) : List Nat := [3 * b, 3 * b + 1, 3 * b + 2]

/-- The P-die's time on link lane d: device time plus its offset θ (R150). -/
def State.pnow (s : State) (d : Nat) : Int := (s.now : Int) + (s.dl d).theta

/-- HB_ENABLE as delivered (R169, R172). -/
def State.hbEn (s : State) (h : Nat) : Bool := s.cfgWord (hbBank h) (16 * hbPos h) % 2 == 1

/-- A frame goes up. While the upstream is silent (R12) only an ALARM frame is kept, to leave when characters flow again. -/
def State.upSend (s : State) (d ty : Nat) (words : List Word) : State :=
  let x := s.dl d
  if x.lost ∧ ty ≠ 0xA2 then s else s.setDl d { x with up := x.up ++ [⟨ty, words⟩] }

/-- Both gate monitors read below the threshold (R170, R175): a gate follows its command unless it is stuck. -/
def Hb.offConf (x : Hb) : Bool := !x.hOn && !x.lOn && !x.stuckH && !x.stuckL

/-- GVDD above its warning level (R181, R322). -/
def State.gvddOk (s : State) : Bool := decide (2 ≤ s.drv.gvdd) && !(s.supply 5).warn && !(s.supply 5).reset

/-- BKSTAT[18:16]: BANK_OFF, LINK_LOSS and GVDD_OK (R181). -/
def State.bankFlags (s : State) (b : Nat) : Nat :=
  b2n (s.drv.bankWire.getLsbD b) + 2 * b2n (s.drv.linkLoss.getLsbD b) + 4 * b2n s.gvddOk

/-- BKSTAT of a bank (R181). -/
def State.bkstat (s : State) (b : Nat) : Nat := (s.sensor (8 + b)).temp.toNat + 65536 * s.bankFlags b

/-- A change of BKSTAT raises the event of its bank (R181); `o` is the state before. -/
def State.bkEvents (s o : State) : State :=
  [0, 1, 2, 3].foldl (fun s b => s.whenS (s.bkstat b != o.bkstat b) (·.raiseEv (316 + b))) s

/-- GVDD_STATE takes a value (R167). -/
def State.setGvdd (s : State) (v : Nat) : State := ({ s with drv := { s.drv with gvdd := v } } : State).bkEvents s

/-- The trickle pump of a half-bridge runs (R173): HB_ENABLE, TRICKLE_EN as delivered and GVDD in order, and BST − SH, in mV, not above
11.5 V. -/
def State.pumpRuns (s : State) (h : Nat) (bst : Int) : Bool :=
  s.hbEn h && s.cfgWord (hbBank h) (16 * hbPos h + 5) % 2 == 1 && s.gvddOk && decide (bst ≤ 11500)

/-- The current in µA that the pump delivers into BST at most (R173). -/
def State.pumpLimit (s : State) (h : Nat) (bst : Int) : Nat := if s.pumpRuns h bst then 2000 else 0

/-! ### Drive levels (R171) -/

/-- Source or sink current of a level, in mA. -/
def levelMa (k : Nat) : Nat := 50 + 130 * k

/-- SRC1, SNK1, SRC2, SNK2 and T1 of a profile word. -/
def profFields (w : Word) : Nat × Nat × Nat × Nat × Nat :=
  (field w.toNat 3 0, field w.toNat 7 4, field w.toNat 11 8, field w.toNat 15 12, field w.toNat 21 16)

/-- The level at which a gate is driven, `age` ticks after its edge: level 1 for T1 ticks, then level 2; where a cause of R170 turned it off, the
sink level. -/
def Drive.level (x : Drive) (age : Nat) : Nat :=
  let p := profFields x.word
  if x.forced then x.sink.toNat
  else if x.on then (if age < p.2.2.2.2 then p.1 else p.2.2.1)
  else if age < p.2.2.2.2 then p.2.1 else p.2.2.2.1

/-- The drive of a side. -/
def Hb.driveOf (x : Hb) (high : Bool) : Drive := if high then x.driveH else x.driveL

/-- The present drive current of a side in mA. -/
def State.driveMa (s : State) (h : Nat) (high : Bool) : Nat :=
  let x := (s.hb h).driveOf high
  levelMa (x.level (s.since x.at48))

/-- SAT_STATE of a half-bridge; TEST is SAFE_HOLD (R169). -/
def HbSt.code : HbSt → Nat
  | .safeHold | .test => 0
  | .run => 1
  | .alarm => 2

/-- PROF_CRC of the profile words as delivered (R148, R168); wire profiles 12 to 15 are 0. -/
def State.dieCrc (s : State) (d : Nat) : BitVec 16 :=
  crc16 ((List.range 32).flatMap (fun i =>
    beBytes (if 12 ≤ i % 16 then 0 else (Tab.get (fun _ => 0xF7F7) s.drv.prof (64 * d + i)).toNat) 4))

/-- A STATUS frame of one half-bridge (R155, R168). -/
def State.sendStatus (s : State) (h : Nat) : State :=
  let d := hbBank h
  let x := s.hb h
  let l := s.dl d
  s.upSend d 0xA0
    [fields 24 [(x.st.code, 0), (b2n x.offConf, 2), (b2n x.bstWarn, 3), (l.late.toNat, 8), (l.lastSeq.toNat, 16), (hbPos h, 22)],
     fields 24 [((s.sensor (8 + d)).temp.toNat, 0)],
     fields 24 [((s.dieCrc d).toNat, 0), (x.stp.toNat, 16)],
     fields 24 [(l.codeErr.toNat, 0), (l.gap.toNat, 8)]]

/-- The P-die fault wires of R10 that its half-bridges drive: interlock event, BST undervoltage, VDS fault. The interlock wire
is asserted while a half-bridge waits for its HOLD_OFF. DEDUCED (log entry 30). -/
def State.dieWires (s : State) : State :=
  let any (p : Hb → Bool) : Bool := (List.range 12).any (fun h => p (s.hb h))
  ((s.setSrc 112 (any (·.stpWait))).setSrc 113 (any (·.bstUv))).setSrc 114 (any (fun x => x.vdsH || x.vdsL))

/-- A half-bridge changes; STATUS follows any change of its state, of OFF_CONF or of BST_WARN (R155). -/
def State.hbTo (s : State) (h : Nat) (x : Hb) : State :=
  let y := s.hb h
  let s := (s.setHb h x).dieWires
  s.whenS (y.st.code != x.st.code || y.offConf != x.offConf || y.bstWarn != x.bstWarn) (·.sendStatus h)

/-- An alarm goes up: K28.1, while the upstream is not silent, and the ALARM frame (R154, R162, R168). -/
def State.sendAlarm (s : State) (d pos cause : Nat) : State :=
  (s.whenS (!(s.dl d).lost) (fun s => s.setDl d ((s.dl d).put [.special .kill]))).upSend d 0xA2
    [fields 24 [(cause, 0), (pos, 8)], BitVec.ofInt 24 (s.pnow d)]

/-! ### Turning off (R170) -/

/-- SOFTOFF_LVL as delivered. -/
def State.softOff (s : State) (h : Nat) : BitVec 4 := BitVec.ofNat 4 (s.cfgWord (hbBank h) (16 * hbPos h + 4))

/-- Both gates sink, the queue is empty and every hold ends (R143). With a VDS detection the level is SOFTOFF_LVL. What the gates were is kept
for a detection in the same tick (R179). -/
def State.offWith (s : State) (h : Nat) (x : Hb) : Hb :=
  let same := x.offAt == some s.t48.toNat
  let k := if x.vdsH || x.vdsL then s.softOff h else 15
  { x with
    queue := [], hOn := false, lOn := false
    driveH := { x.driveH with forced := true, sink := k }, driveL := { x.driveL with forced := true, sink := k }
    offAt := some s.t48.toNat, wasH := x.hOn || (same && x.wasH), wasL := x.lOn || (same && x.wasL)
    clampH := x.clampH && !x.hOn, clampL := x.clampL && !x.lOn
    holdH := none, holdL := none, stpWait := false }

/-- A half-bridge enters SAFE_HOLD (R143); a test goes on with both gates clamped (R177). -/
def State.hbSafe (s : State) (h : Nat) : State :=
  let x := s.hb h
  s.hbTo h { s.offWith h x with st := if x.st = .test then .test else .safeHold }

/-- The half-bridges of a bank enter SAFE_HOLD. -/
def State.bankSafe (s : State) (b : Nat) : State := (bankHbs b).foldl (fun s h => s.hbSafe h) s

/-- The order of the causes of one half-bridge in one tick (R179): VDS, BST undervoltage, interlock, gate fault. -/
def alarmRank (c : Nat) : Nat := if c = 1 then 0 else if c = 3 then 1 else if c = 2 then 2 else 3

/-- An alarm cause of a half-bridge goes up. Of two in one tick the frame carries the first in the order of R179. -/
def State.raiseAlarm (s : State) (h cause : Nat) : State :=
  let x := s.hb h
  let d := hbBank h
  if x.alarmAt = some s.t48.toNat then
    if alarmRank cause < alarmRank x.cause.toNat then
      let w0 (c : Nat) : Word := fields 24 [(c, 0), (hbPos h, 8)]
      let swap (f : Frame) : Frame := if f.ty = 0xA2 ∧ f.words.head? = some (w0 x.cause.toNat) then { f with words := w0 cause :: f.words.drop 1 } else f
      (s.setDl d { s.dl d with up := (s.dl d).up.map swap }).setHb h { x with cause := BitVec.ofNat 8 cause }
    else s
  else (s.setHb h { x with cause := BitVec.ofNat 8 cause, alarmAt := some s.t48.toNat }).sendAlarm d (hbPos h) cause

/-- Own protection of a half-bridge that has become `y`: off, ALARM until the frame has left (R143); a test goes on with both gates clamped (R177),
and one that is not enabled stays in SAFE_HOLD (R169). -/
def State.hbAlarmAs (s : State) (h : Nat) (y : Hb) (cause : Nat) : State :=
  let st := if y.st = .test then .test else if s.hbEn h then .alarm else .safeHold
  (s.hbTo h { s.offWith h y with st := st }).raiseAlarm h cause

/-- Own protection of a half-bridge. -/
def State.hbAlarm (s : State) (h cause : Nat) : State := s.hbAlarmAs h (s.hb h) cause

/-- A lane-wide cause of R168: all three half-bridges enter SAFE_HOLD. -/
def State.laneCause (s : State) (d cause : Nat) : State := (s.bankSafe d).sendAlarm d 0 cause

/-- A cause of R170 stands at its level, so no half-bridge of the bank leaves SAFE_HOLD: KILL, the bank-off wire, a supply at
its reset level, the shutdown temperature; nor while GVDD is off or ramps (R178), the link's activity is lost (R12), or from a TRAIN_REQ or a loss
of activity to the MARK that ends the training (R12, R148). DEDUCED (log entry 30). -/
def State.dieHeld (s : State) (b : Nat) : Bool :=
  s.drv.killPin || decide (s.drv.gvdd < 2) || (s.dl b).lost || (s.dl b).train || s.drv.bankWire.getLsbD b
    || [2, 3, 5].any (fun p => (s.supply p).reset || (s.supply p).ovreset)
    || [8, 9, 10, 11].any (fun i => (s.sensor i).acmp)

/-! ### The off-state test (R177) -/

/-- The off-state test job of a half-bridge. -/
def State.ostJob (s : State) (h : Nat) : Option (Nat × Job) :=
  s.ref.job.find? (fun (p : Nat × Job) => p.2.kind == JobKind.ost && p.2.arg == h)

/-- The job whose test runs on a half-bridge. -/
def State.ostRun (s : State) (h : Nat) : Option (Nat × Job) :=
  s.ref.job.find? (fun (p : Nat × Job) => p.2.kind == JobKind.ost && p.2.arg == h && p.2.pc != 0)

/-- A job takes its next place. -/
def State.setJob (s : State) (slot : Nat) (j : Job) : State :=
  { s with ref := { s.ref with job := s.ref.job.map (fun (p : Nat × Job) => if p.1 == slot then (slot, j) else p) } }

/-- The peer that the open test of a half-bridge took (R177): its job keeps it beside VB. -/
def State.ostPeer (s : State) (h : Nat) : Nat :=
  match s.ostRun h with
  | some (_, j) => (j.data.getD 1 0xFF).toNat
  | none => 0xFF

/-- Test currents end, on the peer too, and TEST is left. -/
def State.leaveTest (s : State) (h : Nat) : State :=
  let x := s.hb h
  let m := s.ostPeer h
  let s := if x.cur = 3 ∧ (s.hb m).cur = 4 then s.setHb m { s.hb m with cur := 0 } else s
  let x := s.hb h
  s.hbTo h { x with cur := 0, st := if x.st = .test then .safeHold else x.st }

/-- The result of a test (R177, R450): 1 PASS, 2 HS_SHORT, 3 LS_SHORT, 4 OPEN, 5 INDETERMINATE, 6 NO_BUS, 7 ABORTED. -/
def State.ostResult (s : State) (slot h r : Nat) : State :=
  let s := s.put 6 0x031 h r
  let s := s.whenS (r == 2 || r == 3 || r == 4) (·.report (0x050008 + 256 * h))
  let s := s.whenS (r == 5) (·.report (0x050009 + 256 * h))
  s.endJob slot (if r = 1 ∨ r = 5 then 4 else 5) (0xE00400 + r)

/-- A running test ends with a result. -/
def State.ostEnd (s : State) (slot h r : Nat) : State := (s.leaveTest h).ostResult slot h r

/-- The half-bridge leaves SAFE_HOLD during a test: the currents stop and the result is ABORTED. -/
def State.ostAbort (s : State) (h : Nat) : State :=
  match s.ostRun h with
  | some (slot, _) => if (s.hb h).st = .test then s.ostEnd slot h 7 else s
  | none => s

/-- The 16 conversions of a mean of channel `ch` are requested of HKADC (R194). -/
def State.hkAsk (s : State) (ch : Nat) : State := { s with acq := { s.acq with hkReq := s.acq.hkReq ++ List.replicate 16 ch } }

/-- The conditions under which the test runs (R177). -/
def State.ostMay (s : State) (h : Nat) : Bool :=
  let c := s.cl (8 + h / 4)
  (s.hb h).st == .safeHold && s.hbEn h && s.drv.gvdd == 2 && (c.st == .off || !c.outenReq)

/-- A step of the test job: its start with VB as measured, which the job keeps, or the open test once the peer is free, with the sink on the
peer. -/
def State.ostStep (s : State) (slot : Nat) (j : Job) (obs : JobObs) : State :=
  let h := j.arg
  if j.pc = 0 then
    if s.ostMay h = false then s.ostResult slot h 7
    else if obs.value.toNat < 8000 then s.ostResult slot h 6
    else (((s.hkAsk (12 + hbBank h)).hkAsk h).hbTo h { s.hb h with st := .test, cur := 1 }).setJob slot { j with pc := 1, data := [BitVec.ofNat 24 obs.value.toNat] }
  else if j.pc = 3 then
    let m := s.en 6 0x034 h
    if (s.hb m).st = .safeHold ∧ s.hbEn m then
      ((((s.hkAsk h).hkAsk m).setHb m { s.hb m with cur := 4 }).hbTo h { s.hb h with cur := 3 }).setJob slot
        { j with pc := 4, data := j.data.take 1 ++ [BitVec.ofNat 24 m] }
    else s.ostEnd slot h 5
  else s

/-- The test job has a step to take: not while a settling wait runs, nor while its peer is in TEST. -/
def State.ostReady (s : State) (j : Job) : Bool :=
  j.pc == 0 || (j.pc == 3 && (s.hb (s.en 6 0x034 j.arg)).st != .test)

/-- OST_CMD (R177). -/
def doOstCmd (q : Req) (h : Fin 12) (s : State) : State :=
  s.dictJob q (mkKey 6 0x030 h) 0 0 (fun _ => none) (fun _ => none)
    (fun s => s.startJob q.tag.toNat .ost h [] 0 5 (mkKey 6 0x030 h) (some q))

/-- OST_SETTLE_END (R177): what stands on the sense lines at the end of a settling wait, in mV: the bus, SH and the peer's SH. The test
compares with the VB it measured at its start, so the bus voltage of this moment decides nothing. -/
def doOstSettleEnd (h : Fin 12) (_vb vsh vpeer : BitVec 24) (s : State) : State :=
  match s.ostRun h with
  | none => s
  | some (slot, j) =>
    let b := (j.data.headD 0).toNat
    let v := vsh.toNat
    if j.pc = 1 then
      let s := s.put 6 0x032 h v
      if 9 * b ≤ 10 * v then s.ostEnd slot h 2
      else if s.en 6 0x037 h = 2 then ((s.hkAsk h).hbTo h { s.hb h with cur := 2 }).setJob slot { j with pc := 2 }
      else s.ostEnd slot h 1
    else if j.pc = 2 then
      let s := s.put 6 0x033 h v
      if 10 * v ≤ b then s.ostEnd slot h 3
      else if s.en 6 0x034 h < 12 then s.setJob slot { j with pc := 3 }
      else s.ostEnd slot h 1
    else if j.pc = 4 then
      let dd := (vsh.toInt - vpeer.toInt).natAbs
      if 3 * b ≤ 10 * dd then s.ostEnd slot h 4
      else if 1000 < dd then s.ostEnd slot h 5
      else s.ostEnd slot h 1
    else s

/-! ### Receipt of edge commands (R139 to R143, R168) -/

/-- The absolute P-die time of an operand T, taken as the time nearest to the present one (R141). -/
def State.pabs (s : State) (d : Nat) (t : EdgeTime) : Int := s.pnow d + (t - BitVec.ofInt 32 (s.pnow d)).toInt

/-- Δ of R141. -/
def State.pdelta (s : State) (d : Nat) (t : EdgeTime) : Int := (t - BitVec.ofInt 32 (s.pnow d)).toInt

/-- A half-bridge of the lane is outside SAFE_HOLD, so that the lane checks the sequence (R140). -/
def State.laneLiveHb (s : State) (d : Nat) : Bool := (bankHbs d).any (fun h => (s.hb h).st == .run || (s.hb h).st == .alarm)

/-- A command other than NOP arrives (R140): outside SAFE_HOLD a SEQ that is not the next one is a sequence gap; otherwise the
command is accepted and `f` is its effect. A RESUME in RUN whose SEQ is not the next one is such a gap too, and sets no SEQ base: DESIGN CHOICE (log
entry 30). -/
def State.receive (s : State) (d : Nat) (seq : BitVec 6) (f : State → State) : State :=
  let x := { s.dl d with rxRd := (s.lane (32 + d)).rd, asm := Asm.empty }
  let gap := match x.seq with
    | some b => s.laneLiveHb d && seq != b + 1
    | none => false
  if gap then (s.setDl d { x with gap := x.gap + 1 }).laneCause d 5
  else f (s.setDl d { x with seq := some seq, lastSeq := seq })

/-- FAR of R141. -/
def State.isFar (s : State) (d : Nat) (t : EdgeTime) : Bool := decide (67108864 < s.pdelta d t)

/-- A queued edge goes in order of T, EDGE_OFF before EDGE_ON at equal T (R142). -/
def insQ (x : QEdge) : List QEdge → List QEdge
  | [] => [x]
  | y :: r => if x.t < y.t ∨ (x.t = y.t ∧ (x.on = false ∧ y.on = true)) then x :: y :: r else y :: insQ x r

/-- A telemetry frame of one edge with its command's SEQ (R155): its measured DELAY and TRANS are free values (log entry 5). -/
def State.sendTele (s : State) (h : Nat) (high on missed : Bool) (prof : BitVec 2) (seq : BitVec 6) : State :=
  let d := hbBank h
  (s.upSend d 0xA1
    [fields 24 [(seq.toNat, 0), (if high then 1 else 2, 6), (b2n on, 8), (prof.toNat, 9), (b2n missed, 13), (hbPos h, 14)],
     (Config.free 16 s.free).setWidth 24, (Config.free 16 (s.free + 1)).setWidth 24]).tick.tick

/-- The profile word of a side (R168, R171). -/
def State.dieProf (s : State) (h : Nat) (high : Bool) (p : BitVec 2) : Word :=
  Tab.get (fun _ => 0xF7F7) s.drv.prof (64 * hbBank h + 16 * (if high then 0 else 1) + 4 * hbPos h + p.toNat)

/-- The hold of a side. -/
def Hb.held (x : Hb) (high : Bool) : Option Int := if high then x.holdH else x.holdL

/-- A side changes under its profile (R171): its gate, its hold switch, the word that drives it, and its monitor follows. -/
def State.drive (s : State) (h : Nat) (x : Hb) (high on : Bool) (prof : BitVec 2) : Hb :=
  let y : Drive := { x.driveOf high with word := s.dieProf h high prof, on := on, at48 := s.t48.toNat, forced := false }
  if high then { x with driveH := y, hOn := on, clampH := false, stuckH := false } else { x with driveL := y, lOn := on, clampL := false, stuckL := false }

/-- A side is switched off (R170, R171). One that is off already, or held, makes no transition: its telemetry says MISSED (R155). -/
def State.sideOff (s : State) (h : Nat) (high : Bool) (prof : BitVec 2) (seq : BitVec 6) : State :=
  let x := s.hb h
  let on := if high then x.hOn else x.lOn
  if (x.held high).isSome ∨ on = false then s.sendTele h high false true prof seq
  else (s.hbTo h (s.drive h x high false prof)).sendTele h high false false prof seq

/-- The interlock or the gate overlap (R142, R175): both sides off, STP counted, alarm cause STP; in RUN EDGE_ONs are discarded until a
HOLD_OFF. -/
def State.interlock (s : State) (h : Nat) : State :=
  let x := s.hb h
  let y := { s.offWith h x with queue := x.queue, holdH := x.holdH, holdL := x.holdL, stpWait := x.st == .run, stp := x.stp + 1 }
  ((s.hbTo h y).bump (mkKey 6 0x022 h) 65535).raiseAlarm h 2

/-- A side is switched on, subject to the interlock; one that is on already makes no transition. -/
def State.sideOn (s : State) (h : Nat) (high : Bool) (prof : BitVec 2) (seq : BitVec 6) : State :=
  let x := s.hb h
  if x.stpWait then s
  else if (if high then x.lOn else x.hOn) then s.interlock h
  else (s.hbTo h (s.drive h x high true prof)).sendTele h high true (if high then x.hOn else x.lOn) prof seq

/-- The commands that a queue of edges holds: the two edges of an EDGE_OFF of both sides are one. -/
def cmdsOf : List QEdge → Nat
  | [] => 0
  | e :: r => (if r.any (fun x => x.seq == e.seq && x.t == e.t && x.on == e.on) then 0 else 1) + cmdsOf r

/-- The edges of a command join the queue of its half-bridge, which holds 32 commands (R162); one more is QUEUE_OVF for the lane (R168). -/
def State.enqueue (s : State) (h : Nat) (es : List QEdge) : State :=
  let x := s.hb h
  if 32 < cmdsOf (es ++ x.queue) then s.laneCause (hbBank h) 7
  else s.setHb h { x with queue := es.foldl (fun q e => insQ e q) x.queue }

/-- The sides that a SIDE field names (R138). -/
def sidesOf (side : BitVec 2) : List Bool := (if side.getLsbD 0 then [true] else []) ++ (if side.getLsbD 1 then [false] else [])

/-- HBSEL of a command (R168). -/
def hbSel (prof : BitVec 4) : Nat := prof.toNat / 4

/-- The wire profile's low bits. -/
def profLow (prof : BitVec 4) : BitVec 2 := prof.setWidth 2

/-- EDGE_ON (R139, R141 to R143, R158, R168). -/
def doEdgeOn (d : Fin 4) (side : BitVec 2) (prof : BitVec 4) (seq : BitVec 6) (t : EdgeTime) (s : State) : State :=
  s.receive d seq (fun s =>
    if hbSel prof = 3 then s.laneCause d 8
    else
      let h := 3 * d.val + hbSel prof
      if s.hbEn h = false ∨ side = 0 then s
      else if s.isFar d t then s.laneCause d 6
      else if side = 3 then (s.hbSafe h).sendAlarm d (hbSel prof) 8
      else
        let x := s.hb h
        let high := side == 1
        let a := s.pabs d t
        let held : Bool := match x.held high with | some e => decide (a < e) | none => false
        if x.st ≠ .run ∨ x.stpWait ∨ held ∨ a < x.resumeT ∨ a < (s.dl d).markT then s
        else if 15360 ≤ s.pdelta d t then s.enqueue h [⟨high, true, profLow prof, a, seq⟩]
        else (s.setDl d { s.dl d with late := (s.dl d).late + 1 }).sendTele h high true true (profLow prof) seq)

/-- EDGE_OFF (R139, R141, R158, R168). -/
def doEdgeOff (d : Fin 4) (side : BitVec 2) (prof : BitVec 4) (seq : BitVec 6) (t : EdgeTime) (s : State) : State :=
  s.receive d seq (fun s =>
    if hbSel prof = 3 then s.laneCause d 8
    else
      let h := 3 * d.val + hbSel prof
      if s.hbEn h = false ∨ side = 0 then s
      else if s.isFar d t then s.laneCause d 6
      else
        let a := s.pabs d t
        if (s.hb h).st ≠ .run ∨ a < (s.dl d).markT then s
        else if 15360 ≤ s.pdelta d t then s.enqueue h ((sidesOf side).map (fun high => ⟨high, false, profLow prof, a, seq⟩))
        else (sidesOf side).foldl (fun s high => s.sideOff h high (profLow prof) seq) s)

/-- The later end of a hold. -/
def laterHold (h : Option Int) (a : Int) : Option Int :=
  match h with
  | some e => some (max e a)
  | none => some a

/-- A HOLD_OFF on one half-bridge (R141, R179): the named sides off at once and held until T if T lies ahead. -/
def State.holdOne (s : State) (h : Nat) (high low : Bool) (a : Int) (ahead : Bool) : State :=
  let x := s.hb h
  if x.st ≠ .run ∨ s.hbEn h = false then s
  else
    let hH := if high && ahead then laterHold x.holdH a else x.holdH
    let hL := if low && ahead then laterHold x.holdL a else x.holdL
    let keep (q : QEdge) : Bool :=
      match (if q.high then hH else hL) with
      | some e => !(q.on && decide (q.t < e))
      | none => true
    let y := s.offWith h x
    s.hbTo h { x with
      hOn := x.hOn && !high, lOn := x.lOn && !low
      driveH := if high then y.driveH else x.driveH, driveL := if low then y.driveL else x.driveL
      clampH := x.clampH && !(high && x.hOn), clampL := x.clampL && !(low && x.lOn)
      holdH := hH, holdL := hL, stpWait := false, queue := x.queue.filter keep }

/-- HOLD_OFF (R141, R142, R168): PROF is a mask of positions; a mask of 0 is discarded. -/
def doHoldOff (d : Fin 4) (side : BitVec 2) (prof : BitVec 4) (seq : BitVec 6) (t : EdgeTime) (s : State) : State :=
  s.receive d seq (fun s =>
    if prof.getLsbD 3 then s.laneCause d 8
    else if side = 0 ∨ prof = 0 then s
    else if s.isFar d t then s.laneCause d 6
    else
      let a := s.pabs d t
      if a < (s.dl d).markT then s
      else (List.range 3).foldl (fun s i =>
        if prof.getLsbD i then s.holdOne (3 * d.val + i) (side.getLsbD 0) (side.getLsbD 1) a (decide (0 < s.pdelta d t)) else s) s)

/-- The acceptance condition of PROFILE_SET (R168). -/
def Hb.acceptsCfg (x : Hb) : Bool :=
  match x.st with
  | .safeHold | .test => true
  | .run => !x.hOn && !x.lOn && !(x.queue.any (·.on))
  | .alarm => false

/-- PROFILE_SET (R139, R168, R169): accepted for an enabled half-bridge, it stores the word and puts it into SAFE_HOLD. -/
def doProfileSet (d : Fin 4) (side : BitVec 2) (prof : BitVec 4) (seq : BitVec 6) (t : EdgeTime) (s : State) : State :=
  s.receive d seq (fun s =>
    if hbSel prof = 3 then s.laneCause d 8
    else
      let h := 3 * d.val + hbSel prof
      if (side = 1 ∨ side = 2) ∧ s.hbEn h ∧ (s.hb h).acceptsCfg then
        let s := s.hbSafe h
        let k := 64 * d.val + 16 * (if side = 1 then 0 else 1) + prof.toNat
        let m : Tab Word := Tab.set (fun _ => 0xF7F7) s.drv.prof k (t.setWidth 24)
        { s with drv := { s.drv with prof := m } }
      else s)

/-- RESUME (R143, R158, R168, R174): in SAFE_HOLD the half-bridge goes to RUN with both sides off; ignored below the undervoltage
release level, and discarded where its time lies before the marker. It ends an off-state test (R177). In RUN it has set the SEQ base; one whose
SEQ is not the next is a gap all the same: DESIGN CHOICE (log entry 30). -/
def doResume (d : Fin 4) (side : BitVec 2) (prof : BitVec 4) (seq : BitVec 6) (t : EdgeTime) (s : State) : State :=
  s.receive d seq (fun s =>
    if hbSel prof = 3 then s.laneCause d 8
    else
      let h := 3 * d.val + hbSel prof
      if side ≠ 0 ∨ s.hbEn h = false then s
      else if s.isFar d t then s.laneCause d 6
      else
        let x := s.hb h
        if (x.st = .safeHold ∨ x.st = .test) ∧ x.bstUv = false ∧ s.dieHeld d = false ∧ (s.dl d).markT ≤ s.pabs d t then
          let s := s.ostAbort h
          let x := s.hb h
          s.hbTo h { x with st := .run, resumeT := s.pabs d t, resumeAt := some s.t48.toNat, vdsH := false, vdsL := false, gateFault := false, stpWait := false }
        else s)

/-- MARK (R158, R168): all three half-bridges enter SAFE_HOLD; later commands before the marker time are discarded, another MARK too. -/
def doMark (d : Fin 4) (side : BitVec 2) (_prof : BitVec 4) (seq : BitVec 6) (t : EdgeTime) (s : State) : State :=
  s.receive d seq (fun s =>
    if side ≠ 0 then s
    else
      let a := s.pabs d t
      if a < (s.dl d).markT then s else (s.setDl d { s.dl d with markT := a, train := false }).bankSafe d)

/-- VOLLEY (R150): the mark's arrival r1, and the answer at a time s2 within 20 µs (1600 characters of 160 fine steps), free but for the slot: K28.7
leaves in a payload slot other than slot 15 (R162). The superframes are counted from the P-die's time 0: DESIGN CHOICE (log entry 63). -/
def doVolley (d : Fin 4) (side : BitVec 2) (_prof : BitVec 4) (seq : BitVec 6) (_t : EdgeTime) (s : State) : State :=
  s.receive d seq (fun s =>
    if side ≠ 0 then s
    else
      let r1 : BitVec 32 := BitVec.ofInt 32 (s.pnow d)
      let k := ((s.pnow d + 159) / 160).toNat + (Config.free 32 s.free).toNat % 1590
      let s2 : BitVec 32 := BitVec.ofNat 32 (160 * nextMark 4 k)
      ((s.setDl d { s.dl d with r1 := r1 }).upSend d 0xA3
        [seq.setWidth 24, r1.setWidth 24, fields 24 [(r1.toNat / 2 ^ 24, 16), (s2.toNat / 2 ^ 24, 8)], s2.setWidth 24]).tick)

/-- An edge is due within the next 100 ns (1280 fine steps) on the lane. -/
def State.edgeSoon (s : State) (d : Nat) : Bool :=
  (bankHbs d).any (fun h => (s.hb h).queue.any (fun e => decide (e.t < s.pnow d + 1280)))

/-- A waiting adjustment takes effect at a tick with no edge due within 100 ns (R162). -/
def State.applyAdj (s : State) (d : Nat) : State :=
  let x := s.dl d
  if x.adj = 0 ∨ s.edgeSoon d then s else s.setDl d { x with theta := x.theta + x.adj, adj := 0 }

/-- TIME_ADJ (R150, R162): at once in SAFE_HOLD; in RUN at the next free tick, and refused with CORRUPT beyond ±4. -/
def doTimeAdj (d : Fin 4) (side : BitVec 2) (_prof : BitVec 4) (seq : BitVec 6) (t : EdgeTime) (s : State) : State :=
  s.receive d seq (fun s =>
    if side ≠ 0 then s
    else
      let x := s.dl d
      if s.laneLiveHb d = false then s.setDl d { x with theta := x.theta + t.toInt }
      else if 4 < t.toInt.natAbs then s.laneCause d 8
      else (s.setDl d { x with adj := x.adj + t.toInt }).applyAdj d)

/-- NOP_COMMAND (R138, R139): a word whose OP has no row of its own. A NOP has no effect and its SEQ is not checked; OP 0x9 to 0xF is
discarded and counted, its SEQ checked. Where the word is of another row's OP, nothing. -/
def doNopCommand (d : Fin 4) (w : BitVec 48) (s : State) : State :=
  let x := edgeFields w
  if 9 ≤ x.1.toNat then s.receive d x.2.2.2.1 (fun s => s.setDl d { s.dl d with badOp := (s.dl d).badOp + 1 }) else s

/-- EDGE_EXECUTE (R142): the first queued edge reaches its T. -/
def doEdgeExecute (h : Fin 12) (s : State) : State :=
  let x := s.hb h
  match x.queue with
  | [] => s
  | e :: r =>
    let s := s.setHb h { x with queue := r }
    let held : Bool := match x.held e.high with | some z => decide (e.t < z) | none => false
    let s := if e.on then (if held then s else s.sideOn h e.high e.prof e.seq) else s.sideOff h e.high e.prof e.seq
    s.applyAdj (hbBank h)

/-- HOLD_END (R141): the hold of a side ends at its T. -/
def doHoldEnd (h : Fin 12) (high : Bool) (s : State) : State :=
  let x := s.hb h
  s.setHb h (if high then { x with holdH := none } else { x with holdL := none })

/-- HOLD_TIMEOUT (R142, R168): no HOLD_OFF within 10 µs of an interlock. -/
def doHoldTimeout (h : Fin 12) (s : State) : State :=
  if (s.hb h).stpWait then s.laneCause (hbBank h) 9 else s

/-! ### Causes of R170 -/

/-- KILL_RECEIVED (R153, R170): K28.1 on the link lane. -/
def doKillReceived (d : Fin 4) (s : State) : State := s.bankSafe d

/-- LINK_ACTIVITY_LOSS (R12): the bank off, and the upstream silent until the C-die begins a retrain; ALARM frames wait. -/
def doLinkActivityLoss (d : Fin 4) (s : State) : State :=
  let s := s.bankSafe d
  s.setDl d { s.dl d with lost := true, train := true, asm := Asm.empty, up := (s.dl d).up.filter (fun f => f.ty == 0xA2) }

/-- The bank-off wire of a bank takes a level, with the event of BKSTAT (R181). -/
def State.bankWireTo (s : State) (b : Nat) (v : Bool) : State :=
  let s1 := if s.drv.bankWire.getLsbD b = v then s
    else { s with drv := { s.drv with bankWire := s.drv.bankWire ^^^ (1#4 <<< b) } }.raiseEv (316 + b)
  s1.whenS v (·.bankSafe b)

/-- BANK_OFF (R170). -/
def doBankOff (b : Fin 4) (on : Bool) (s : State) : State := s.bankWireTo b on

/-- KILL_INPUT (R305, R295): every half-bridge and lane off, every bank-off wire asserted, KILL_INPUT raised. -/
def doKillInput (s : State) : State :=
  let s : State := { s with drv := { s.drv with killPin := true } }.setSrc 118 true
  let s := (List.range 4).foldl (fun s b => s.bankWireTo b true) s
  let s := (List.range 32).foldl (fun s l => s.killLane l) s
  s.condOn 0x0B0001

/-- KILL_RELEASE (R305): the pin releases; each lane's kill ends at its KILL_END. -/
def doKillRelease (s : State) : State :=
  let s : State := { s with drv := { s.drv with killPin := false } }.setSrc 118 false
  let s := (List.range 4).foldl (fun s b => s.bankWireTo b (s.tmOut (0x50 + b))) s
  s.condOff 0x0B0001

/-- HOLD_SWITCH_CLAMP (R171): 500 ns after an edge the hold switch of the side takes over. -/
def doHoldSwitchClamp (h : Fin 12) (high : Bool) (s : State) : State :=
  let x := s.hb h
  s.setHb h (if high then { x with clampH := true } else { x with clampL := true })

/-- HB_STP (R175): the interlock or the gate overlap. -/
def doHbStp (h : Fin 12) (s : State) : State := s.interlock h

/-- HB_GATE_FAULT (R175): the gate of a side disagrees with its commanded state; commanded off, it reads on. -/
def doHbGateFault (h : Fin 12) (high : Bool) (s : State) : State :=
  let x := s.hb h
  s.hbAlarmAs h { x with gateFault := true, stuckH := x.stuckH || (high && !x.hOn), stuckL := x.stuckL || (!high && !x.lOn) } 0x10

/-- HB_VDS (R176): watched while the gate is commanded on, and in the tick in which a cause turned it off (R179), where VDS_EN selects the
side. -/
def doHbVds (h : Fin 12) (high : Bool) (s : State) : State :=
  let x := s.hb h
  let en := s.cfgWord (hbBank h) (16 * hbPos h + 1)
  let same := x.offAt == some s.t48.toNat
  let watched := if high then (x.hOn || (same && x.wasH)) && en.testBit 0 else (x.lOn || (same && x.wasL)) && en.testBit 1
  if watched then
    let s := s.setHb h { x with vdsH := x.vdsH || high, vdsL := x.vdsL || !high, vds := x.vds + 1 }
    (s.hbAlarm h 1).bump (mkKey 6 0x024 h) 65535
  else s

/-- HB_BST_WARN (R174): NOTE HB_BST_WARN at most once per 100 ms (40 000 000 ticks). -/
def doHbBstWarn (h : Fin 12) (on : Bool) (s : State) : State :=
  let x := s.hb h
  let s1 := s.hbTo h { x with bstWarn := on }
  if on = false then s1.condOff (0x050003 + 256 * h)
  else if x.bstWarn then s1
  else (s1.bump (mkKey 6 0x025 h) 65535).condEvery (0x050003 + 256 * h) 40000000

/-- HB_BST_UV (R174): in RUN the half-bridge turns off; in any state RESUME is ignored until the release, one of the same tick too; an alarm of
the same tick stands beside it (R179). -/
def doHbBstUv (h : Fin 12) (s : State) : State :=
  let x := s.hb h
  if x.bstUv then s
  else
    let y := { x with bstUv := true, bstUvCnt := x.bstUvCnt + 1 }
    let s1 := ((s.setHb h y).dieWires).bump (mkKey 6 0x023 h) 65535
    if x.st = .run ∧ x.resumeAt = some s.t48.toNat then s1.hbSafe h
    else if x.st = .run ∨ (x.st = .alarm ∧ x.alarmAt = some s.t48.toNat) then s1.hbAlarm h 3
    else s1

/-- BST_UV_RELEASE (R174). -/
def doBstUvRelease (h : Fin 12) (s : State) : State :=
  ((s.setHb h { s.hb h with bstUv := false }).dieWires).condOff (0x050002 + 256 * h)

/-- GVDD_RAMP_DONE (R167). -/
def doGvddRampDone (s : State) : State := if s.drv.gvdd = 1 then s.setGvdd 2 else s

/-- GVDD_OVERLOAD (R167): the mean load over 10 ms, in mA; above 200 mA it is GVDD_OVERLOAD. -/
def doGvddOverload (load : BitVec 16) (s : State) : State :=
  let s := s.put 6 0x002 0 load.toNat
  if 200 < load.toNat then (s.whenS (s.drv.gvdd == 2) (·.setGvdd 4)).condOn 0x05FF07
  else (s.whenS (s.drv.gvdd == 4) (·.setGvdd 2)).condOff 0x05FF07

/-- GVDD goes off (R178): every half-bridge is off. -/
def State.gvddOff (s : State) : State := ([0, 1, 2, 3].foldl (fun s b => s.bankSafe b) s).setGvdd 0

/-! ### ALARM frames at the C-die (R154, R163, R168) -/

/-- A half-bridge that has sent its ALARM frame leaves ALARM for SAFE_HOLD (R143, R170). -/
def HbSt.sent : HbSt → HbSt
  | .alarm => .safeHold
  | x => x

/-- The fault of an alarm: of the satellite, of the half-bridge, or of the lane. -/
def alarmCode (l h c : Nat) : Nat := if l < 32 then 0x040000 + alarmFault c + 256 * l else linkAlarmFault l h c

/-- The first ALARM frame on its way up a link lane has left: its half-bridge leaves ALARM, whether or not the frame is taken (R143, R170). -/
def State.alarmSent (s : State) (l : Nat) : State :=
  if l < 32 then s
  else match (s.dl (l - 32)).up.find? (fun f => f.ty == 0xA2) with
    | none => s
    | some f =>
      let i := (f.words.headD 0).toNat / 256 % 4
      let h := 3 * (l - 32) + i
      if i = 3 then s else s.hbTo h { s.hb h with st := (s.hb h).st.sent }

/-- An alarm at the C-die: its cause is recorded, its fault raised, and the source released once the collector has it. The causes of kind C stay
live until STATUS shows them over. -/
def State.alarmFrame (s : State) (l : Nat) (w0 w1 : Word) : State :=
  let c := w0.toNat % 256
  let i := w0.toNat / 256 % 4
  let h := 3 * (l - 32) + i
  let code := alarmCode l h c
  let s := s.setLane l { s.lane l with cause := BitVec.ofNat 8 c }
  let s := if l < 32 then (if c = 1 ∨ c = 3 ∨ c = 4 then s.condOn code else s.report code)
    else
      let s := if i = 3 then s else s.setView h { s.view h with cause := BitVec.ofNat 8 c }
      if c = 1 ∨ c = 3 then s.condOn code else s.report code
  let s := s.whenS (c == 2) (·.stpHold (if l < 32 then l else 32 + h))
  let lane := decide (5 ≤ c) && decide (c ≤ 9)
  let s := if l < 32 then s.whenS (c == 1 || c == 3 || c == 4 || lane) (·.needResume l)
    else if lane then s.needResume l
    else s.whenS (c == 1 || c == 3 || c == 0x10) (·.setResume (32 + h) true)
  (s.alarmAwait l code).telemetry l 0xA2 2 [w0, w1]

/-- ALARM (R145, R154, R155, R163, R168). -/
def doAlarm (l : Fin 36) (w0 w1 : Word) (fcs : BitVec 16) (s : State) : State :=
  (s.alarmSent l).upFrame l 0xA2 (payloadOf [w0, w1]) fcs (·.alarmFrame l w0 w1)

/-! ### Training and configuration as the P-die answers (R148, R172, R193, R202) -/

/-- The converter's schedule and queue are emptied at a link retrain (R202). -/
def State.adcFlush (s : State) (a : Nat) : State := s.setAdc a { s.adc a with sched := [], queue := [] }

/-- A frame arrives at the P-die (R145): discarded and counted unless its CRC and length are right; `f` is its effect. -/
def State.downFrame (s : State) (d ty : Nat) (payload : List Byte) (fcs : BitVec 16) (f : State → State) : State :=
  let s := s.setDl d { s.dl d with rxRd := (s.lane (32 + d)).rd, asm := Asm.empty }
  if frameOk ty payload fcs then f s else s.setDl d { s.dl d with crcErr := (s.dl d).crcErr + 1 }

/-- The P-die answers a TRAIN_REQ (R148): the bank enters SAFE_HOLD and TRAIN_RSP goes up with G3 and what the P-die reports of itself, free
values (log entry 5): SAT_ID, serial number and CAPS. -/
def State.trainAnswer (s : State) (d : Nat) (nonce : BitVec 16) : State :=
  let s := (s.bankSafe d).adcFlush d
  let x := s.dl d
  let f := s.free
  let s := s.setDl d { x with lost := false, train := true, nonce := nonce, seq := none, tests := 0, tail := [] }
  (s.upSend d 0x81 [fields 24 [(nonce.toNat, 0), (3, 16)], Config.free 24 f, Config.free 24 (f + 1), Config.free 24 (f + 2),
    Config.free 24 (f + 3)]).tick.tick.tick.tick

/-- TRAIN_REQ (R145, R148). -/
def doTrainReq (d : Fin 4) (genMax : BitVec 8) (nonce : BitVec 16) (fcs : BitVec 16) (s : State) : State :=
  s.downFrame d 1 (payloadOf [(genMax ++ nonce : BitVec 24)]) fcs (·.trainAnswer d nonce)

/-- TRAIN_SET (R145, R148). -/
def doTrainSet (d : Fin 4) (gen : BitVec 8) (nonce : BitVec 16) (fcs : BitVec 16) (s : State) : State :=
  s.downFrame d 2 (payloadOf [(gen ++ nonce : BitVec 24)]) fcs (fun s =>
    let x := s.dl d
    if nonce = x.nonce then (s.setDl d { x with gen := gen }).upSend d 0x82 [fields 24 [(nonce.toNat, 0), (gen.toNat, 16)]] else s)

/-- The half-bridge positions that a run of addresses touches. -/
def cfgHbs (a n : Nat) : List Nat :=
  (List.range 3).filter (fun i => (List.range n).any (fun k => decide (16 * i ≤ a + k) && decide (a + k ≤ 16 * i + 5)))

/-- The wire under CW_MODE as the P-die holds it (R198): OFF, ABOVE, BELOW, OUTSIDE, INSIDE. -/
def cwOut (mode : Nat) (above below : Bool) : Bool :=
  if mode = 1 then above else if mode = 2 then below else if mode = 3 then above || below
  else if mode = 4 then !above && !below else false

/-- The group of a comparator, which is its converter, and its place in it. -/
def cwGroup (c : Nat) : Nat := c / 12

/-- The wire of a comparator is formed again (R198, R199): a change is timestamped and counted, raises its event and reaches the matrix, which
ignores a masked comparator. -/
def State.cwForm (s : State) (k : Nat) (above below : Bool) : State :=
  let x := s.cw k
  let out := cwOut (s.cfgWord (cwGroup k) (0x60 + 2 * (k % 12)) / 16 % 8) above below
  let s1 := s.setCw k { x with above := above, below := below, out := out }
  if out = x.out then s1
  else
    let s2 := (s1.setCw k { s1.cw k with changes := x.changes + 1, time := s.t48.setWidth 24 }).raiseEv (176 + k / 4)
    if x.masked then s2.setSrc k out else s2.sourceLevel k out

/-- A configuration word of a comparator reaches it: its mode forms the wire again, its DAC codes are applied and show in CWAPP; a store that asked for
them no longer waits. -/
def State.cwTake (s : State) (d a : Nat) : State :=
  if 0x60 ≤ a ∧ a < 0x78 then
    let k := 12 * d + (a - 0x60) / 2
    let x := s.cw k
    if a % 2 = 0 then s.cwForm k x.above x.below
    else
      let w := s.cfgWord d a
      let hi := BitVec.ofNat 10 w
      let lo := BitVec.ofNat 10 (w / 1024)
      s.setCw k { x with appHi := hi, appLo := lo, pend := x.pend && !(hi == x.reqHi && lo == x.reqLo) }
  else s

/-- A CFG_WR at the P-die (R172, R193): refused unless every half-bridge it configures meets the acceptance condition; accepted, it puts
them into SAFE_HOLD. -/
def State.cfgWrite (s : State) (d a : Nat) (data : List Word) : State :=
  let hs := (cfgHbs a data.length).map (fun i => 3 * d + i)
  let ok := hs.all (fun h => (s.hb h).acceptsCfg)
  let w0 := cfgRspHead (BitVec.ofNat 8 a) data.length (!ok)
  if ok then
    let s := hs.foldl (fun s h => (s.ostAbort h).hbSafe h) s
    let s := (data.zipIdx).foldl (fun s p => (s.setCfgWord d ((a + p.2) % 256) p.1).cwTake d ((a + p.2) % 256)) s
    s.upSend d 0x90 [w0]
  else s.upSend d 0x90 [w0]

/-- CFG_WR (R145): one to seven data words. -/
def doCfgWr (d : Fin 4) (addr : BitVec 8) (data : List Word) (fcs : BitVec 16) (s : State) : State :=
  s.downFrame d 0x10 (payloadOf (cfgHead addr.toNat data.length :: data)) fcs (·.cfgWrite d addr.toNat data)

/-- CFG_RD (R145): `count` is the COUNT − 1 field; the words are read back. -/
def doCfgRd (d : Fin 4) (addr : BitVec 8) (count : Fin 8) (fcs : BitVec 16) (s : State) : State :=
  let a := addr.toNat
  let n := count.val + 1
  s.downFrame d 0x11 (payloadOf [cfgHead a n]) fcs (fun s =>
    s.upSend d 0x90 (fields 24 [(a, 0), (count.val, 8)]
      :: (List.range n).map (fun k => BitVec.ofNat 24 (s.cfgWord d ((a + k) % 256)))))

end Sys2Proof.Machine
end

