-- ==== Sys2Proof/Machine/Acq.lean ====
section
/-! DEFINITION. Acquisition (07_acquisition.md): triggers, sequences and records of ADC0 to ADC3, the housekeeping converter,
the sigma-delta filters with their latch groups, and the window comparators with their self-checks. -/

namespace Sys2Proof.Machine

/-! ### Records (R189 to R192) -/

/-- The sequence of converter a that a trigger starts, as the C-die's entries say (R185). -/
def State.seqOf (s : State) (a trig : Nat) : Option Nat :=
  ((List.range 8).map (fun k => 8 * a + k)).find? (fun i => s.en 7 0x020 i == trig)

/-- T48[23:0] of the tick of an edge time (R101, R190). -/
def tickOf (t : EdgeTime) : Word := (t >>> 5).setWidth 24

/-- R189: the Q1.23 word of a code, and whether it saturated. -/
def State.chValue (s : State) (ch : Nat) (code : BitVec 16) : Word × Bool :=
  let x : Int := (code.toNat : Int) + s.enS 16 7 0x011 ch
  let r : Int := if s.en 7 0x010 ch = 0 then x * 128 else (x - 32768) * 256
  let lo : Int := if s.en 7 0x010 ch = 0 then 0 else -8388608
  (BitVec.ofInt 24 (max lo (min 8388607 r)), decide (r < lo) || decide (8388607 < r))

/-- A record of a sequence is delivered: COUNT counts it, SEQ_COUNT and its event follow (R190, R191). `flags` are the header
bits [15:0]. COUNT includes the record itself. DEDUCED (log entry 31). -/
def State.deliverSeq (s : State) (ss flags : Nat) (time : Word) (results : List Word) : State :=
  let n := Tab.get (fun _ => (0 : BitVec 8)) s.acq.seqCnt ss + 1
  let m : Tab (BitVec 8) := Tab.set (fun _ => (0 : BitVec 8)) s.acq.seqCnt ss n
  let s : State := { s with acq := { s.acq with seqCnt := m } }
  let s := s.bump (mkKey 7 0x025 ss) 0xFFFFFF
  (s.deliver 0 ss (fields 24 [(flags, 0), (n.toNat, 16)] :: time :: results)).raiseEv (128 + ss)

/-- A DROPPED record (R190) of the sequence `ss`. -/
def State.deliverDropped (s : State) (ss trig : Nat) (t : EdgeTime) : State := s.deliverSeq ss (trig + 128) (tickOf t) []

/-! ### Triggers from the C-die (R187) -/

/-- The two words of a trigger in an ADC_TRIG frame (R187). -/
def trigWords (trig : Nat) (untimed : Bool) (t : EdgeTime) : List Word :=
  [fields 24 [(trig, 0), (b2n untimed, 7), (t.toNat / 2 ^ 24, 16)], t.setWidth 24]

/-- An ADC_TRIG frame of one trigger is queued on the converter's link lane, if it is ACTIVE. -/
def State.trigFrame (s : State) (a trig : Nat) (untimed : Bool) (t : EdgeTime) : State :=
  let x := s.lane (32 + a)
  if x.st = .active then s.setLane (32 + a) { x with qFrame := x.qFrame ++ [⟨0x20, trigWords trig untimed t⟩] } else s

/-- The ADC_TRIG frame of one trigger is queued on the converter's link lane if a sequence names the trigger, and its record
is awaited (R192). -/
def State.sendTrig (s : State) (a trig : Nat) (untimed : Bool) (t : EdgeTime) : State :=
  match s.seqOf a trig with
  | none => s
  | some ss =>
    let s := s.trigFrame a trig untimed t
    s.setAdc a { s.adc a with await := (s.adc a).await ++ [(trig, t, ss)] }

/-- A timed trigger goes to every converter with a sequence on it. -/
def State.sendTrigAll (s : State) (trig : Nat) (t : EdgeTime) : State :=
  (List.range 4).foldl (fun s a => s.sendTrig a trig false t) s

/-- FT_TRIGGER_SEND (R187): the timer expires in 10 µs (4000 ticks), or in its period, in µs, if that is shorter. -/
def doFtTriggerSend (ft : Fin 16) (s : State) : State :=
  s.sendTrigAll (96 + ft) (BitVec.ofNat 32 ((s.t48.toNat + min 4000 (400 * s.en 2 0x060 ft)) * 32))

/-- A software trigger (R205). -/
def State.adswt (s : State) (a swn : Nat) : State := s.sendTrig a (112 + swn) true (BitVec.ofNat 32 (s.t48.toNat * 32))

/-! ### The P-die's schedule and queue (R187, R188) -/

/-- A trigger is discarded: counted, with ADC_TRIG_DROP at most once per 1 ms; a readback is not counted. Its record is the
DROPPED one of R192. -/
def State.dropTrig (s : State) (a trig : Nat) : State :=
  if trig = 127 then s
  else
    let x := s.adc a
    ((s.setAdc a { x with drop := min 255 (x.drop + 1) }).bump (mkKey 7 0x030 a) 65535).limited (0x060001 + 256 * a)

/-- The place of the highest trigger number. -/
def maxTrig (l : List Trig) : Nat := l.foldl (fun n x => max n x.trig) 0

/-- A trigger moves into the queue of four. -/
def State.toQueue (s : State) (a : Nat) (x : Trig) : State :=
  let c := s.adc a
  if c.queue.length < 4 then
    let s := s.setAdc a { c with queue := c.queue ++ [x] }
    s.put 7 0x034 a (max (s.en 7 0x034 a) (c.queue.length + 1))
  else if x.trig = 127 then s
  else
    let all := c.queue ++ [x]
    let m := maxTrig all
    (s.setAdc a { c with queue := all.eraseP (fun y => y.trig == m) }).dropTrig a m

/-- The schedule is ordered by T. -/
def insTrig (d : EdgeTime → Int) (x : Trig) : List Trig → List Trig
  | [] => [x]
  | y :: r => if d x.t < d y.t then x :: y :: r else y :: insTrig d x r

/-- One trigger of an ADC_TRIG frame. -/
def State.enterTrig (s : State) (a : Nat) (w : TrigWord) : State :=
  let x : Trig := ⟨w.trig.toNat, w.untimed, false, w.t⟩
  let dl := s.pdelta a w.t
  if w.untimed then s.toQueue a x
  else if 67108864 < dl then s.dropTrig a x.trig
  else if dl < 0 then
    let c := s.adc a
    let s := s.setAdc a { c with late := min 255 (c.late + 1) }
    ((s.bump (mkKey 7 0x031 a) 65535).limited (0x060002 + 256 * a)).toQueue a { x with late := true }
  else
    let c := s.adc a
    let all := insTrig (s.pdelta a) x c.sched
    if all.length ≤ 16 then s.setAdc a { c with sched := all }
    else
      let m := maxTrig all
      (s.setAdc a { c with sched := all.eraseP (fun y => y.trig == m) }).dropTrig a m

/-- ADC_TRIG (R187): up to four triggers of a frame. -/
def doAdcTrig (d : Fin 4) (trigs : List TrigWord) (fcs : BitVec 16) (s : State) : State :=
  s.downFrame d 0x20 (payloadOf (trigs.flatMap (fun w => trigWords w.trig.toNat w.untimed w.t))) fcs
    (fun s => trigs.foldl (fun s w => s.enterTrig d w) s)

/-- SCHEDULE_DUE (R187): the earliest scheduled trigger is due. -/
def doScheduleDue (a : Fin 4) (s : State) : State :=
  let c := s.adc a
  match c.sched with
  | [] => s
  | x :: r => (s.setAdc a { c with sched := r }).toQueue a x

/-- The channels of a descriptor as the P-die holds it (R193). -/
def State.seqChans (s : State) (a k n : Nat) : List Nat :=
  (List.range n).map (fun m => s.cfgWord a (0x41 + 4 * k + m / 6) / 2 ^ (4 * (m % 6)) % 16)

/-- The P-die's sequence for a trigger. -/
def State.dieSeq (s : State) (a trig : Nat) : Option Nat :=
  (List.range 8).find? (fun k => s.cfgWord a (0x40 + 4 * k) % 256 == trig)

/-- SEQUENCE_START (R188): a free converter starts the queued trigger with the lowest number; slot 0 holds now. A trigger that
no descriptor names starts nothing. -/
def doSequenceStart (a : Fin 4) (s : State) : State :=
  let c := s.adc a
  if c.run.isSome then s
  else match c.queue with
    | [] => s
    | y :: r =>
      let m := r.foldl (fun n x => min n x.trig) y.trig
      match c.queue.find? (fun x => x.trig == m) with
      | none => s
      | some x =>
        let q := c.queue.eraseP (fun z => z.trig == m)
        let late := (-(s.pdelta a x.t)) / 32
        let delayed := !x.untimed && decide (0 < late)
        let hold := ((s.pnow a) / 32).toNat
        let begin (seq n : Nat) (ch : List Nat) : State :=
          let s := s.setAdc a { c with queue := q, run := some ⟨seq, x, n, ch, 0, delayed, hold, []⟩
                                       delayed := if delayed then min 255 (c.delayed + 1) else c.delayed }
          if delayed then
            let s := s.bump (mkKey 7 0x032 a) 65535
            s.put 7 0x033 a (max (s.en 7 0x033 a) (min 65535 late.toNat))
          else s
        if x.trig = 127 then begin 255 1 [15]
        else match s.dieSeq a x.trig with
          | some k => let n := s.cfgWord a (0x40 + 4 * k) / 256 % 16 + 1; begin (8 * a + k) n (s.seqChans a k n)
          | none => s.setAdc a { c with queue := q }

/-- An ADC_RES frame goes up before every other frame that waits, after the one in progress (R192). -/
def State.upFirst (s : State) (d : Nat) (words : List Word) : State :=
  let x := s.dl d
  if x.lost then s
  else
    let i := (x.up.drop 1).findIdx (fun f => f.ty != 0xB0) + 1
    s.setDl d { x with up := x.up.take i ++ [⟨0xB0, words⟩] ++ x.up.drop i }

/-- An ADC_RES frame with the codes ready (R192). -/
def State.sendRes (s : State) (a : Nat) (r : SeqRun) (last : Bool) : State :=
  let n := r.codes.length
  s.upFirst a
    ([fields 24 [(r.trig.trig, 0), (b2n r.delayed, 8), (b2n r.trig.late, 9)], BitVec.ofNat 24 r.hold,
      fields 24 [(r.slot - n, 0), (n - 1, 4), (b2n last, 8)]]
      ++ (r.codes.zipIdx).map (fun p => fields 24 [(p.1.toNat, 0), (r.chans.getD (r.slot - n + p.2) 0, 16)]))

/-- ADC_SLOT_END (R192): a slot ends inside the running sequence; five ready results go up. -/
def doAdcSlotEnd (a : Fin 4) (code : BitVec 16) (s : State) : State :=
  let c := s.adc a
  match c.run with
  | none => s
  | some r =>
    if r.len ≤ r.slot + 1 then s
    else
      let r := { r with slot := r.slot + 1, codes := r.codes ++ [code] }
      if 5 ≤ r.codes.length then (s.sendRes a r false).setAdc a { c with run := some { r with codes := [] } }
      else s.setAdc a { c with run := some r }

/-- SEQUENCE_END (R184, R192): the last slot ends and the results go up with LAST. -/
def doSequenceEnd (a : Fin 4) (code : BitVec 16) (s : State) : State :=
  let c := s.adc a
  match c.run with
  | none => s
  | some r =>
    if r.slot + 1 < r.len then s
    else
      let r := { r with slot := r.slot + 1, codes := r.codes ++ [code] }
      (s.sendRes a r true).setAdc a { c with run := none }

/-- The awaited entry that a record of a trigger ends: the latest whose T is not after the record's TIME, else the oldest of the trigger. DEDUCED
(log entry 31). -/
def State.awaited (s : State) (a trig : Nat) (time : Word) : Option (Nat × EdgeTime × Nat) :=
  let l := (s.adc a).await.filter (fun p => p.1 == trig)
  match (l.filter (fun p => decide (0 ≤ (time - tickOf p.2.1).toInt))).getLast? with
  | some p => some p
  | none => l.head?

/-- An ADC_RES at the C-die (R189, R190, R192): the results are collected, and with LAST the record is delivered, of the sequence that its trigger
named when it went out. -/
def State.adcResult (s : State) (a : Nat) (w0 w1 w2 : Word) (results : List Word) : State :=
  let c := s.adc a
  let trig := w0.toNat % 128
  let part := (if c.partTrig = trig then c.part else []) ++ results
  if w2.getLsbD 8 = false then s.setAdc a { c with part := part, partTrig := trig }
  else
    let aw := s.awaited a trig w1
    let s := s.setAdc a { c with part := [], await := match aw with | some p => c.await.erase p | none => c.await }
    match (match aw with | some p => some p.2.2 | none => s.seqOf a trig) with
    | none => s
    | some ss =>
      let vals := part.map (fun w => s.chValue (16 * a + w.toNat / 65536 % 16) (w.setWidth 16))
      let m : Tab Word := (part.zip vals).foldl
        (fun m p => Tab.set (fun _ => 0) m (16 * a + p.1.toNat / 65536 % 16) p.2.1) s.acq.res
      let s : State := { s with acq := { s.acq with res := m } }
      s.deliverSeq ss (w0.toNat % 1024 + 1024 * b2n (vals.any (·.2))) w1 (vals.map (·.1))

/-- ADC_RES (R145, R192). -/
def doAdcRes (a : Fin 4) (w0 w1 w2 : Word) (results : List Word) (fcs : BitVec 16) (s : State) : State :=
  s.upFrame (32 + a) 0xB0 (payloadOf (w0 :: w1 :: w2 :: results)) fcs (·.adcResult a w0 w1 w2 results)

/-- ADC_RESULT_TIMEOUT (R192): 20 µs after T without LAST the record is DROPPED, and the part already received is discarded. -/
def doAdcResultTimeout (a : Fin 4) (trig : BitVec 7) (s : State) : State :=
  let c := s.adc a
  match c.await.find? (fun p => p.1 == trig.toNat) with
  | none => s
  | some p =>
    let y := { c with part := if c.partTrig = trig.toNat then [] else c.part, await := c.await.erase p }
    (s.setAdc a y).deliverDropped p.2.2 p.1 p.2.1

/-! ### Housekeeping converter (R194) -/

/-- An HK_RES frame with one result: word 0 the first channel and the count − 1, then code and channel (R194). -/
def State.sendHk (s : State) (ch : Nat) (code : BitVec 12) : State :=
  s.upSend 0 0xB1 [BitVec.ofNat 24 ch, fields 24 [(code.toNat, 0), (ch, 12)]]

/-- HK_CONVERSION (R194): at most one slot in four serves a requested conversion; the scan goes on otherwise. The result goes up on D0. -/
def doHkConversion (code : BitVec 12) (s : State) : State :=
  let a := s.acq
  match a.hkReq, decide (3 ≤ a.hkSince) with
  | ch :: r, true => ({ s with acq := { a with hkReq := r, hkSince := 0, hkRun := true } } : State).sendHk ch code
  | _, _ => ({ s with acq := { a with hkNext := (a.hkNext + 1) % 32, hkSince := a.hkSince + 1, hkRun := true } } : State).sendHk a.hkNext code

/-- Age of a housekeeping channel in µs (400 ticks each). -/
def State.hkAge (s : State) (ch : Nat) : Nat := s.since (Tab.get (fun _ => ((0 : BitVec 12), 0)) s.acq.hk ch).2 / 400

/-- One result of an HK_RES frame. -/
def State.hkOne (s : State) (w : Word) : State :=
  let ch := w.toNat / 4096 % 32
  let s := s.put 7 0x082 0 (max (s.en 7 0x082 0) (min 65535 (s.hkAge ch)))
  let m : Tab (BitVec 12 × Nat) := Tab.set (fun _ => ((0 : BitVec 12), 0)) s.acq.hk ch (w.setWidth 12, s.t48.toNat)
  let s : State := { s with acq := { s.acq with hk := m } }
  s.whenS (ch == 31) (·.raiseEv 188)

/-- HK_RES (R145, R194): up to seven results. -/
def doHkRes (w0 : Word) (results : List Word) (fcs : BitVec 16) (s : State) : State :=
  s.upFrame 32 0xB1 (payloadOf (w0 :: results)) fcs (fun s => results.foldl State.hkOne s)

/-! ### Sigma-delta filters (R154, R195 to R197) -/

/-- The impulse response of sinc3 at bit i of the window, newest first. -/
def sinc3 (n i : Nat) : Int :=
  let c (k : Int) : Int := if k < 0 then 0 else (k + 1) * (k + 2) / 2
  c i - 3 * c ((i : Int) - n) + 3 * c ((i : Int) - 2 * n) - c ((i : Int) - 3 * n)

/-- The impulse response of sinc2. -/
def sinc2 (n i : Nat) : Int :=
  let c (k : Int) : Int := if k < 0 then 0 else k + 1
  c i - 2 * c ((i : Int) - n) + c ((i : Int) - 2 * n)

/-- The sum of a filter over a window; a place not yet filled holds the alternating pattern. -/
def filterSum (h : Nat → Int) : Nat → List (Bool × Bool) → Nat → Int
  | 0, _, _ => 0
  | m + 1, [], i => (if i % 2 = 0 then h i else 0) + filterSum h m [] (i + 1)
  | m + 1, b :: r, i => (if b.1 then h i else 0) + filterSum h m r (i + 1)

/-- r of R195: (2S − N) × 2^23 / N + OFS, saturated; the quotient is rounded down. DEDUCED (log entry 31). -/
def sdScale (sum n ofs : Int) : Int := (2 * sum - n) * 8388608 / n + ofs

/-- A value limited to Q1.23. -/
def satQ (x : Int) : Int := max (-8388608) (min 8388607 x)

/-- The data path's output over a window, newest bit first (R195): its word, whether it saturated, and whether the window holds substituted
bits. -/
def State.sdData (s : State) (f : Nat) (bs : List (Bool × Bool)) : Word × Bool × Bool :=
  let osr := s.en 7 0x040 f
  let win := 3 * osr - 2
  let r := sdScale (filterSum (sinc3 osr) win bs 0) ((osr ^ 3 : Nat) : Int) (s.enS 24 7 0x045 f)
  (BitVec.ofInt 24 (satQ r), decide (satQ r ≠ r), decide (bs.length < win) || (bs.take win).any (·.2))

/-- One modulator bit enters both paths. -/
def State.sdBit (s : State) (f : Nat) (fed : Bool) (b : Bool × Bool) : State :=
  let x := s.sd f
  let oco := s.en 7 0x041 f
  let bs := (b :: x.bits).take 774
  let r := s.sdData f bs
  let o := satQ (sdScale (filterSum (sinc2 oco) (2 * oco - 1) bs 0) ((oco ^ 2 : Nat) : Int) 0)
  let out := decide (s.enS 24 7 0x042 f < o) || decide (o < s.enS 24 7 0x043 f)
  let run := if out ∧ fed then x.run + 1 else 0
  let s := s.setSd f { x with
    bits := bs, data := r.1, ocv := BitVec.ofInt 24 o, sat := r.2.1, lost := r.2.2, fed := fed, run := min 16 run }
  if fed = false ∨ out = false then s.sdSource f false
  else if s.en 7 0x044 f ≤ run then s.sdSource f true
  else s

/-- The modulator slot of a lane enters its filter: eight bits, bit 0 the oldest; a substituted slot and a stream that is not fed hold the
alternating pattern. The slot is taken at the tick at which its oldest bit enters; the others follow at 20 ticks each (log entry 31). -/
def State.sdSlot (s : State) (f : Nat) (bits : BitVec 8) (substituted : Bool) : State :=
  let fed := s.sdFed f
  let subst := substituted || !fed
  let bs := (List.range 8).map (fun i => (if subst then i % 2 == 1 else bits.getLsbD i, subst))
  let s := (bs.foldl (fun s b => s.sdBit f fed b) s)
  let s := s.setSd f { s.sd f with slotAt := some s.t48.toNat }
  s.whenS (substituted && fed) (fun s =>
    (s.setSd f { s.sd f with lostCnt := (s.sd f).lostCnt + 1 }).bump (mkKey 7 0x047 f) 0xFFFFFF)

/-- SD_SLOT (R154, R195, R197): slot 0 of a superframe has arrived (R146). -/
def doSdSlot (f : Fin 32) (bits : BitVec 8) (substituted : Bool) (s : State) : State :=
  (s.setRx f { s.rx f with slot := ((s.rx f).slot + 8) / 16 * 16 % 64 + 1 }).sdSlot f bits substituted

/-- The filters of a latch group. -/
def State.lgFilters (s : State) (g : Nat) : List Nat := (List.range 32).filter (fun f => (s.en 7 0x051 g).testBit f)

/-- Half the window of a group, in ticks: (3 × OSR − 3) × 25 ns (R196). -/
def State.lgHalf (s : State) (g : Nat) : Nat :=
  match s.lgFilters g with
  | f :: _ => (3 * s.en 7 0x040 f - 3) * 10
  | [] => 0

/-- The bits of a filter that have entered by now: those of the last slot enter at 20 ticks each. -/
def State.sdEntered (s : State) (f : Nat) : List (Bool × Bool) :=
  let x := s.sd f
  match x.slotAt with
  | some a => x.bits.drop (7 - min 7 (s.since (a / 20 * 20) / 20))
  | none => x.bits

/-- A latch record is delivered (R190, R191), with the value after the newest bit that has entered; a stream that is not fed makes it LOST
(R202). -/
def State.deliverLg (s : State) (g trig : Nat) (centred : Bool) (time : Nat) : State :=
  let fs := s.lgFilters g
  let n := (s.lg g).count + 1
  let vs := fs.map (fun f => s.sdData f (s.sdEntered f))
  let lost := vs.any (·.2.2) || fs.any (fun f => !s.sdFed f)
  let s := (s.setLg g { s.lg g with count := n }).bump (mkKey 7 0x054 g) 0xFFFFFF
  let h := fields 24 [(trig, 0), (b2n (vs.any (·.2.1)), 10), (b2n lost, 11), (b2n centred, 12), (n.toNat, 16)]
  (s.deliver 1 g (h :: BitVec.ofNat 24 time :: vs.map (·.1))).raiseEv (160 + g)

/-- A trigger fires on a latch group (R196): an IMMEDIATE latch takes the value now, a CENTRED one waits. -/
def State.lgFire (s : State) (g trig : Nat) : State :=
  if s.en 7 0x050 g ≠ trig then s
  else if s.en 7 0x052 g = 0 then
    s.deliverLg g trig false ((s.t48.toNat - 400) / 20 * 20 - s.lgHalf g)
  else s.setLg g { s.lg g with wait := (s.lg g).wait ++ [(trig, s.t48.toNat)] }

/-- R196 over the groups. -/
def State.lgFireAll (s : State) (trig : Nat) : State := (List.range 16).foldl (fun s g => s.lgFire g trig) s

/-- SD_LATCH_CENTRED (R196): the first value whose window centre is at or after the trigger tick of the oldest latch that waits. -/
def doSdLatchCentred (g : Fin 16) (s : State) : State :=
  match (s.lg g).wait with
  | [] => s
  | (trig, tr) :: r =>
    let h := s.lgHalf g
    (s.setLg g { s.lg g with wait := r }).deliverLg g trig true ((tr + h + 19) / 20 * 20 - h)

/-! ### Window comparators (R198 to R201) -/

/-- CW_WIRE_CHANGE (R198, R199): the comparisons change. -/
def doCwWireChange (k : Fin 48) (above below : Bool) (s : State) : State := s.cwForm k above below

/-- A CFG_WR to the P-die, with its readback, on an ACTIVE link lane (R193). -/
def State.sendCfgWord (s : State) (d a : Nat) (ws : List Word) : State :=
  let x := s.lane (32 + d)
  if x.st = .active then
    s.setLane (32 + d) { x with qFrame := x.qFrame ++ [⟨0x10, cfgHead a ws.length :: ws⟩, ⟨0x11, [cfgHead a ws.length]⟩] }
  else s

/-- The frames that carry the DAC codes of a comparator for a kernel store and still wait are withdrawn: a second store replaces the first (R199). Those
of a dictionary write, whose readback is awaited, stay. -/
def State.cwWithdraw (s : State) (c : Nat) : State :=
  let d := cwGroup c
  let a := 0x61 + 2 * (c % 12)
  if (s.cw c).pend = false ∨ s.acq.waits.any (fun w => w.d == d && w.addr == a) then s
  else
    let x := s.lane (32 + d)
    s.setLane (32 + d) { x with qFrame := x.qFrame.filter (fun f => !((f.ty == 0x10 || f.ty == 0x11) && f.words.head? == some (cfgHead a 1))) }

/-- A store of CWTHR (R199): the window is only narrowed. -/
def State.cwThr (s : State) (c : Nat) (v : Word) : State :=
  let x := s.cw c
  let hi := v.toNat % 1024
  let lo := v.toNat / 1024 % 1024
  let h := min hi (s.en 7 0x061 c)
  let l := max lo (s.en 7 0x062 c)
  let s := (s.cwWithdraw c).setCw c { x with pend := true, clamped := decide (h ≠ hi) || decide (l ≠ lo), reqHi := BitVec.ofNat 10 h, reqLo := BitVec.ofNat 10 l }
  if x.masked then s else s.sendCfgWord (cwGroup c) (0x61 + 2 * (c % 12)) [BitVec.ofNat 24 (h + 1024 * l)]

/-- CWTHR_APPLY (R199): the requested codes reach the DACs; while a check runs they wait (R200). -/
def doCwthrApply (k : Fin 48) (s : State) : State :=
  let x := s.cw k
  if x.pend ∧ x.masked = false then
    (s.setCw k { x with pend := false, appHi := x.reqHi, appLo := x.reqLo }).setCfgWord (cwGroup k) (0x61 + 2 * (k % 12))
      (BitVec.ofNat 24 (x.reqHi.toNat + 1024 * x.reqLo.toNat))
  else s

/-- The stages on which a comparator's wire acts through the matrix (R200). -/
def State.cwActsOn (s : State) (c : Nat) : List Nat :=
  s.withEft (((List.range 0x54).filter (fun dd => s.tmMask dd c)).flatMap s.destStages)

/-- The check may run (R200). -/
def State.cwMay (s : State) (c : Nat) : Bool :=
  ((s.named (s.en 7 0x066 c)).toList ++ s.cwActsOn c).all (fun g => !(s.stg g).st.live)

/-- The matrix ignores the wire of a comparator while its check runs, and follows its level again afterwards (R200). -/
def State.cwMask (s : State) (c : Nat) (v : Bool) : State :=
  let s := s.setCw c { s.cw c with masked := v }
  if v then s.condOff (0x060004 + 256 * c) else s.sourceLevel c (s.cw c).out

/-- The check ends (R200, R204): 1 PASS, 2 FAIL_LEVEL, 3 FAIL_SWAP, 4 REFUSED, 5 ABORTED. The configured codes, tie and swap
are restored. -/
def State.cwCheckEnd (s : State) (slot c r : Nat) : State :=
  let s := (s.whenS (s.cw c).masked (·.cwMask c false)).put 7 0x069 c r
  let x := s.cw c
  let s := s.whenS (r != 4) (fun s => (s.sendCfgWord (cwGroup c) 0x78 [0]).sendCfgWord (cwGroup c) (0x61 + 2 * (c % 12))
    [BitVec.ofNat 24 (x.reqHi.toNat + 1024 * x.reqLo.toNat)])
  let s := s.whenS (r == 2 || r == 3) (·.report (0x060005 + 256 * c))
  (if r = 5 then s.endJob slot 6 0 else s.endJob slot (if r = 1 then 4 else 5) (0xE00500 + r)).raiseEv 189

/-- The DAC codes of setting i of a level with code K (R200). -/
def cwSetting (k i : Nat) : Nat × Nat :=
  if i = 0 then (k + 8, k - 8) else if i % 2 = 1 then (k - 8, 0) else (1023, k + 8)

/-- Setting n of the check is sent (R200): tie, swap and codes. -/
def State.cwSend (s : State) (c n : Nat) : State :=
  let i := n % 5
  let v := cwSetting (256 * (n / 5 + 1)) i
  (s.sendCfgWord (cwGroup c) 0x78 [fields 24 [(c % 12, 0), (n / 5 + 1, 4), (b2n (decide (3 ≤ i)), 6)]]).sendCfgWord (cwGroup c)
    (0x61 + 2 * (c % 12)) [BitVec.ofNat 24 (v.1 + 1024 * v.2)]

/-- The reading of setting n is right (R200): ABOVE is bit 0 of what was read, BELOW bit 1. -/
def cwGood (n : Nat) (obs : BitVec 8) : Bool :=
  let i := n % 5
  if i = 0 then !obs.getLsbD 0 && !obs.getLsbD 1
  else if i = 1 then obs.getLsbD 0
  else if i = 2 then obs.getLsbD 1
  else if i = 3 then !obs.getLsbD 0
  else !obs.getLsbD 1

/-- One step of the check: the reading of the last setting is judged and the next is applied. -/
def State.cwCheckStep (s : State) (slot : Nat) (j : Job) (obs : JobObs) : State :=
  let c := j.arg
  if j.pc = 0 then
    if s.cwMay c then ((s.cwMask c true).cwSend c 0).setJob slot { j with pc := 1 }
    else s.cwCheckEnd slot c 4
  else if cwGood (j.pc - 1) obs.cause = false then s.cwCheckEnd slot c (if 3 ≤ (j.pc - 1) % 5 then 3 else 2)
  else if j.pc = 15 then s.cwCheckEnd slot c 1
  else (s.cwSend c j.pc).setJob slot { j with pc := j.pc + 1 }

/-- CW_CHECK_CMD (R200). -/
def doCwCheckCmd (q : Req) (k : Fin 48) (s : State) : State :=
  s.dictJob q (mkKey 7 0x068 k) 0 0 (fun _ => none) (fun _ => none)
    (fun s => s.startJob q.tag.toNat .cwCheck k [] 0 16 (mkKey 7 0x068 k) (some q))

/-- The next DAC of the 96 to read back, after `i`: comparators with CW_MODE OFF are skipped (R201). -/
def State.nextDac (s : State) (i : Nat) : Option Nat :=
  ((List.range 96).map (fun k => (i + 1 + k) % 96)).find? (fun d => s.en 7 0x063 (d / 2) != 0)

/-- CW_READBACK (R186, R201): the next DAC is selected onto the readback bus and ADC3 converts it under trigger 127; `code` is what it delivers, none
where the conversion is skipped (R188), which is retried at the next period. An error above 384 codes is a failure, and two in a row raise
CW_DAC_FAULT. -/
def doCwReadback (code : Option (BitVec 16)) (s : State) : State :=
  if s.dev ≠ devIdle ∧ s.dev ≠ devOperational then s
  else match s.nextDac (s.acq.rb.getD 95) with
    | none => s
    | some d =>
      let c := d / 2
      let s := (s.sendCfgWord (cwGroup c) 0x79 [fields 24 [(2 * (c % 12) + d % 2, 0), (1, 5)]]).trigFrame 3 127 true s.nowT
      match code with
      | none => s
      | some code =>
        let hi := d % 2 == 0
        let x := s.cw c
        let want := (if hi then x.appHi.toNat else x.appLo.toNat) * 64 + 32
        let err : Int := (code.toNat : Int) - want
        let fail := decide (384 < err.natAbs)
        let twice := fail && (if hi then x.failHi else x.failLo)
        let y := if hi then { x with failHi := fail } else { x with failLo := fail }
        let s : State := { s with acq := { s.acq with rb := some d } }
        let s := (s.setCw c y).put 7 0x06B c (BitVec.ofInt 16 (max (-32768) (min 32767 err))).toNat
        if twice then s.condOn (0x060006 + 256 * c)
        else if y.failHi = false ∧ y.failLo = false then s.condOff (0x060006 + 256 * c) else s

/-- At the replay the run-time thresholds take the values of CW_HI and CW_LO (R206). -/
def State.cwLoad (s : State) (c : Nat) : State :=
  let h := BitVec.ofNat 10 (s.en 7 0x061 c)
  let l := BitVec.ofNat 10 (s.en 7 0x062 c)
  s.setCw c { s.cw c with reqHi := h, reqLo := l, appHi := h, appLo := l }

end Sys2Proof.Machine
end

