-- ==== Sys2Proof/Machine/PwmConv.lean ====
section
/-! DEFINITION. The conversion of a set into edges (R108 to R114, R128, R129) as pure functions over one
generator. Times are fine steps from the start of the converted period; `E` is its end. -/

namespace Sys2Proof.Machine

/-- NEVER, or counted as NEVER because its coarse tick is at least PERIOD (R108). -/
def codeNever (code : Word) (period : Nat) : Bool :=
  code == 0xFFFFFF || decide (period ≤ code.toNat / 32)

/-- RANGE of R108: a code that is not NEVER but counts as NEVER. -/
def codeRange (code : Word) (period : Nat) : Bool :=
  code != 0xFFFFFF && decide (period ≤ code.toNat / 32)

/-- The spans of the period in which the ideal high side is high (R109). -/
def idealSpans (a b : Word) (period : Nat) : List (Int × Int) :=
  let e : Int := (period * 32 : Nat)
  if codeNever a period then []
  else if codeNever b period then [((a.toNat : Int), e)]
  else if a.toNat < b.toNat then [((a.toNat : Int), (b.toNat : Int))]
  else if b.toNat < a.toNat then
    (if b = 0 then [] else [((0 : Int), (b.toNat : Int))]) ++ [((a.toNat : Int), e)]
  else []

/-- The complementary spans of a period that ends at `e`: the ideal low side (R109). -/
def complSpans (e : Int) : Int → List (Int × Int) → List (Int × Int)
  | t, [] => if t < e then [(t, e)] else []
  | t, (a, b) :: r => (if t < a then [(t, a)] else []) ++ complSpans e b r

/-- A pulse of one side (R112): `rise` in fine steps of this period (below 0 when an earlier conversion produced
it), `fall`, and whether the rise is an edge of this conversion. A fall at or after E is not produced (R110). -/
structure Pulse where
  high : Bool
  rise : Int
  fall : Int
  fresh : Bool
  deriving DecidableEq, Repr

/-- R111 on one side: each span of the side's ideal level becomes a pulse whose rise is delayed by the dead time
where the span begins with an ideal edge; a pulse whose rise would come at or after its own fall is eaten. A span that
joins the previous period's level continues the pulse in progress, or starts at fine step 0 if the side is off (R110). -/
def deadPulses (high : Bool) (e : Int) (dt : Int) (idealBefore onBefore : Bool) (riseBefore : Int) :
    List (Int × Int) → List Pulse
  | [] => []
  | (a, b) :: r =>
    let joins := a == 0 && idealBefore
    let p : Pulse :=
      if joins then
        (if onBefore then ⟨high, riseBefore, b, false⟩ else ⟨high, 0, b, true⟩)
      else ⟨high, a + dt, b, true⟩
    (if p.fresh && (decide (p.fall ≤ p.rise) || decide (e ≤ p.rise)) then [] else [p])
      ++ deadPulses high e dt idealBefore onBefore riseBefore r

/-- A side that is on at the end of the previous period but that no pulse continues falls at fine step 0 (R110). -/
def carryFall (high onBefore : Bool) (riseBefore : Int) (ps : List Pulse) : List Pulse :=
  if onBefore && !(ps.any (fun p => !p.fresh)) then ⟨high, riseBefore, 0, false⟩ :: ps else ps

/-- Pulses in the order of their rises. -/
def insPulse (p : Pulse) : List Pulse → List Pulse
  | [] => [p]
  | q :: r => if p.rise ≤ q.rise then p :: q :: r else q :: insPulse p r

/-- Sorts pulses by their rises. -/
def sortPulses (ps : List Pulse) : List Pulse := ps.foldr insPulse []

/-- The first later pulse of the other side rises no earlier than `t`; a pulse whose rise then comes at or after its
fall is eaten (R112, R111). -/
def delayNext (high : Bool) (t : Int) : List Pulse → List Pulse
  | [] => []
  | q :: r =>
    if q.high != high && q.fresh then
      (if q.rise < t then (if q.fall ≤ t then r else { q with rise := t } :: r) else q :: r)
    else q :: delayNext high t r

/-- The fall of the same side's next pulse that rises at or before `t`, if there is one (R112: the pulses join). -/
def joinFall (high : Bool) (t : Int) : List Pulse → Option Int
  | [] => none
  | q :: r => if q.high == high then (if q.rise ≤ t then some q.fall else none) else joinFall high t r

/-- The pulses without the same side's next one and without the complementary pulse between (R112). -/
def dropJoined (high : Bool) : List Pulse → List Pulse
  | [] => []
  | q :: r => if q.high == high then r else dropJoined high r

/-- R112 over the pulses in the order of their rises; `dtf`, `dtr` follow a high-side and a low-side fall. The flag says
whether a pulse was dropped or stretched, the count how many. -/
def minPulse (fuel : Nat) (minp dtr dtf e : Int) (stretch : Bool) (ps : List Pulse) : List Pulse × Nat :=
  match fuel, ps with
  | 0, ps => (ps, 0)
  | _, [] => ([], 0)
  | fuel + 1, p :: r =>
    if minp = 0 ∨ e ≤ p.fall ∨ minp ≤ p.fall - p.rise then
      let q := minPulse fuel minp dtr dtf e stretch r
      (p :: q.1, q.2)
    else if stretch ∨ p.fresh = false then
      let nf := p.rise + minp
      match joinFall p.high nf r with
      | some f =>
        let q := minPulse fuel minp dtr dtf e stretch (dropJoined p.high r)
        ({ p with fall := f } :: q.1, q.2 + 1)
      | none =>
        let q := minPulse fuel minp dtr dtf e stretch (delayNext p.high (nf + (if p.high then dtf else dtr)) r)
        ({ p with fall := nf } :: q.1, q.2 + 1)
    else
      let q := minPulse fuel minp dtr dtf e stretch r
      (q.1, q.2 + 1)

/-- R113 on one side: code 0 leaves the pulses, ON is on for the whole period, OFF and the reserved code end a pulse
in progress at fine step 0. -/
def maskSide (high : Bool) (code : Nat) (e : Int) (onBefore : Bool) (riseBefore : Int) (ps : List Pulse) : List Pulse :=
  if code = 0 then ps
  else if code = 2 then [if onBefore then ⟨high, riseBefore, e, false⟩ else ⟨high, 0, e, true⟩]
  else if onBefore then [⟨high, riseBefore, 0, false⟩] else []

/-- The mask code of one side (R113): pages hold four bits for each slot, the low two for the high side. -/
def maskCode (page slot : Nat) (high : Bool) : Nat :=
  page / 2 ^ (4 * slot + (if high then 0 else 2)) % 4

/-- The last fall of a side at or before `t` among the pulses and the fall an earlier period left (R114). -/
def lastFall (high : Bool) (t : Int) (before : Option Int) (ps : List Pulse) : Option Int :=
  ps.foldl (fun acc p => if p.high == high && decide (p.fall ≤ t) then
    (match acc with | some f => some (max f p.fall) | none => some p.fall) else acc) before

/-- A side is on at `t` and has not fallen. -/
def onAt (high : Bool) (t : Int) (ps : List Pulse) : Bool :=
  ps.any (fun p => p.high == high && decide (p.rise ≤ t) && decide (t < p.fall))

/-- R114 on one rise: no earlier than the other side's most recent fall plus the dead time; a rise while the other side
is on passes unchanged. -/
def guardRise (dtr dtf : Int) (hFall lFall : Option Int) (ps : List Pulse) (p : Pulse) : Int :=
  if onAt (!p.high) p.rise ps then p.rise
  else
    match lastFall (!p.high) p.rise (if p.high then lFall else hFall) ps with
    | some f => max p.rise (f + (if p.high then dtr else dtf))
    | none => p.rise

/-- Edges of the pulses in [0, E): a fresh rise after the guard, and a fall (R110, R114). -/
def pulseEdges (dtr dtf e : Int) (hFall lFall : Option Int) (ps : List Pulse) : List (Bool × Bool × Int) :=
  ps.flatMap (fun p =>
    (if p.fresh then
      let r := guardRise dtr dtf hFall lFall ps p
      if r < e then [(p.high, true, r)] else [] else [])
    ++ (if 0 ≤ p.fall ∧ p.fall < e then [(p.high, false, p.fall)] else []))

/-- The order of R115: by time, EDGE_OFF before EDGE_ON at equal time. -/
def insEdge (x : Bool × Bool × Int) : List (Bool × Bool × Int) → List (Bool × Bool × Int)
  | [] => [x]
  | y :: r =>
    if x.2.2 < y.2.2 ∨ (x.2.2 = y.2.2 ∧ (x.2.1 = false ∨ y.2.1 = true)) then x :: y :: r
    else y :: insEdge x r

/-- Edges in the order of R115. -/
def sortEdges (l : List (Bool × Bool × Int)) : List (Bool × Bool × Int) := l.foldr insEdge []

/-- The level of a side after edges: the last edge of the side, or the level before. -/
def levelAfter (high before : Bool) (l : List (Bool × Bool × Int)) : Bool :=
  l.foldl (fun acc x => if x.1 == high then x.2.1 else acc) before

/-- The last fall of a side among edges, or the one before. -/
def fallAfter (high : Bool) (before : Option Int) (l : List (Bool × Bool × Int)) : Option Int :=
  l.foldl (fun acc x => if x.1 == high && !x.2.1 then some x.2.2 else acc) before

/-- The last rise of a side among edges, or the one before. -/
def riseAfter (high : Bool) (before : Int) (l : List (Bool × Bool × Int)) : Int :=
  l.foldl (fun acc x => if x.1 == high && x.2.1 then x.2.2 else acc) before

/-- What the refresh rules read beside the set (R128): REF_EN and the bootstrap warning, REFW and REFN. -/
structure RefCfg where
  en : Bool
  w : Int
  n : Nat
  deriving DecidableEq, Repr

/-- The result of one conversion: the generator after it and the edges as absolute fine steps. -/
structure Conv where
  gen : Gen
  edges : List Edge
  minpN : Nat
  deriving DecidableEq, Repr

/-- The longest low-side pulse that falls in the period reaches `w` (R128). -/
def lowPulseOk (w e : Int) (ps : List Pulse) : Bool :=
  ps.any (fun p => !p.high && decide (0 ≤ p.fall) && decide (p.fall < e) && decide (w ≤ p.fall - p.rise))

/-- The high side is on without a break over the last `d` fine steps (R128). -/
def highTail (d e : Int) (ps : List Pulse) : Bool :=
  ps.any (fun p => p.high && decide (p.rise ≤ e - d) && decide (e ≤ p.fall))

/-- The refresh cut (R128): the high pulse ends at E − DTR − W − DTF and the low pulse lies between. -/
def refreshCut (dtr dtf w e : Int) (ps : List Pulse) : List Pulse :=
  ps.map (fun p => if p.high && decide (e ≤ p.fall) then { p with fall := e - dtr - w - dtf } else p)
    ++ [⟨false, e - dtr - w, e - dtr, true⟩]

/-- REF_SHORT of R129 is set in a period in which a refresh is due. DESIGN CHOICE (log entry 61): the rule does not say whether it is set where
none is due. -/
def refShort (due : Bool) (e d : Int) : Bool := due && decide (e < 2 * d)

/-- R110: the conversion of one generator for the period of `period` ticks that starts at the absolute fine step
`p0`. `page` is the selected mask page where MASK_EN = 1, `stretch` is MINP_MODE, `restart` allows the restart edges of
R123, `fullRestart` is the resume conversion of R144 (both sides start from off). -/
def convertGen (g : Gen) (c : GenSet) (period : Nat) (p0 : Nat) (page : Option Nat) (slot : Nat) (stretch restart : Bool)
    (ref : RefCfg) : Conv :=
  let e : Int := (period * 32 : Nat)
  let o : Int := (p0 : Nat)
  let dtr : Int := (c.dtr.toNat : Nat)
  let dtf : Int := (c.dtf.toNat : Nat)
  let minp : Int := (c.minp.toNat : Nat)
  let spans := idealSpans c.cmpa c.cmpb period
  let low := complSpans e 0 spans
  let hP := carryFall true g.hEnd (g.hRise - o) (deadPulses true e dtr g.ideal g.hEnd (g.hRise - o) spans)
  let lP := carryFall false g.lEnd (g.lRise - o) (deadPulses false e dtf (!g.ideal) g.lEnd (g.lRise - o) low)
  let m := minPulse 16 minp dtr dtf e stretch (sortPulses (hP ++ lP))
  let mh := match page with | some v => maskCode v slot true | none => 0
  let ml := match page with | some v => maskCode v slot false | none => 0
  let hM := maskSide true mh e g.hEnd (g.hRise - o) (m.1.filter (·.high))
  let lM := maskSide false ml e g.lEnd (g.lRise - o) (m.1.filter (!·.high))
  let ps := sortPulses (hM ++ lM)
  let w := max ref.w minp
  let d := dtf + w + dtr
  let lowOk := lowPulseOk w e ps
  let cnt := if lowOk then 0 else g.refCnt + 1
  let due := ref.en && decide (ref.n ≤ cnt) && (ml == 0 || ml == 2)
  let short := refShort due e d
  let doRef := due && !short && highTail d e ps
  let ps := if doRef then refreshCut dtr dtf w e ps else ps
  let hF := g.hFall.map (· - o)
  let lF := g.lFall.map (· - o)
  let base := pulseEdges dtr dtf e hF lF ps
  let again (mark high : Bool) : List (Bool × Bool × Int) :=
    if restart && mark && ps.any (fun p => p.high == high && !p.fresh && decide (0 < p.fall)) then
      let r := guardRise dtr dtf hF lF ps ⟨high, 0, e, true⟩
      if r < e then [(high, true, r)] else []
    else []
  let es := sortEdges (base ++ again g.markH true ++ again g.markL false)
  { gen := { g with
      hEnd := levelAfter true g.hEnd es
      lEnd := levelAfter false g.lEnd es
      ideal := (match spans.getLast? with | some x => decide (x.2 = e) | none => false)
      hRise := riseAfter true (g.hRise - o) es + o
      lRise := riseAfter false (g.lRise - o) es + o
      hFall := (fallAfter true hF es).map (· + o)
      lFall := (fallAfter false lF es).map (· + o)
      markH := false
      markL := false
      refCnt := if doRef then 0 else cnt
      refNext := if doRef then some ((o + e - dtr - w).toNat, cnt) else none
      range := codeRange c.cmpa period || codeRange c.cmpb period || codeRange c.cmpc period || codeRange c.cmpd period
      minpAct := decide (m.2 ≠ 0)
      refresh := doRef
      refShort := short
      maskRsv := mh == 3 || ml == 3 }
    edges := es.map (fun x => ⟨x.1, x.2.1, (x.2.2 + o).toNat⟩)
    minpN := m.2 }

/-- A period whose outputs are held off (R107): no edges, both sides off at its end; the ideal waveform and RANGE follow the set (R108, R109).
DESIGN CHOICE (log entry 61): such a period neither advances nor resets the refresh count. -/
def convertOff (g : Gen) (c : GenSet) (period : Nat) : Conv :=
  { gen := { g with
      hEnd := false
      lEnd := false
      ideal := (match (idealSpans c.cmpa c.cmpb period).getLast? with | some x => decide (x.2 = (period * 32 : Nat)) | none => false)
      markH := false
      markL := false
      refNext := none
      range := codeRange c.cmpa period || codeRange c.cmpb period || codeRange c.cmpc period || codeRange c.cmpd period
      refresh := false
      refShort := false
      minpAct := false }
    edges := []
    minpN := 0 }

end Sys2Proof.Machine
end

