-- ==== Sys2Proof/Machine/Pwm.lean ====
section
/-! DEFINITION. Clusters and generators (04_pwm.md): commit, cutoff and reload, triggers, trips and blanking, the output units
of PWMO, and the Rally. -/

namespace Sys2Proof.Machine

/-! ### Sets and times -/

/-- The master of a slave cluster (R105). -/
def State.master (s : State) (c : Nat) : Option Nat := if s.en 4 0x031 c < 12 then some (s.en 4 0x031 c) else none

/-- The length of the running period's successor to be: of the set, or of the master's running period for a slave (R105). -/
def State.periodNow (s : State) (c : Nat) (x : ClSet) : Nat :=
  match s.master c with
  | some m => (s.cl m).len
  | none => x.period.toNat

/-- The length of the period being converted: of the set, or of the set the master applied last. -/
def State.periodNext (s : State) (c : Nat) (x : ClSet) : Nat :=
  match s.master c with
  | some m => (s.cl m).applied.period.toNat
  | none => x.period.toNat

/-- The set loaded at a start (R106): INIT entries, floors, page 0, nominal PERIOD. -/
def State.initSet (s : State) (c : Nat) : ClSet :=
  let g (i : Nat) : GenSet :=
    let n := 4 * c + i
    ⟨BitVec.ofNat 24 (s.en 4 0x010 n), BitVec.ofNat 24 (s.en 4 0x011 n), BitVec.ofNat 24 (s.en 4 0x016 n),
      BitVec.ofNat 24 (s.en 4 0x017 n), BitVec.ofNat 16 (s.en 4 0x012 n), BitVec.ofNat 16 (s.en 4 0x013 n),
      BitVec.ofNat 13 (s.en 4 0x014 n), BitVec.ofNat 16 (s.en 4 0x018 n), false⟩
  ⟨Vector.ofFn (fun i => g i.val), BitVec.ofNat 20 (s.en 4 0x030 c), 0, false⟩

/-- The profile of one edge (R115, R133). -/
def profOf (p : BitVec 16) (high on : Bool) : Nat :=
  p.toNat / 2 ^ ((if high then 0 else 8) + (if on then 0 else 4)) % 16

/-- The level of pin PWMOp (R104, R107): high sides on even pins, low sides on odd ones, inverted where PWMO_POL says so. -/
def State.pwmoPin (s : State) (p : Nat) : Bool :=
  let g := 44 + p / 2
  let y := s.gen g
  xor (if p % 2 = 0 then y.pinH else y.pinL) ((s.en 4 0x01C g).testBit (p % 2))

/-- The pins of a PWMO pair go to their inactive level on the named sides. -/
def State.gatePins (s : State) (g : Nat) (high low : Bool) : State :=
  if g < 44 then s else s.setGen g { s.gen g with pinH := (s.gen g).pinH && !high, pinL := (s.gen g).pinL && !low }

/-- The generators of a cluster. -/
def clGens (c : Nat) : List Nat := [4 * c, 4 * c + 1, 4 * c + 2, 4 * c + 3]

/-! ### Conversion (R110, R119, R144) -/

/-- The edges of one generator for the period of `e` ticks that starts at tick `p0`: converted and sent while the outputs are
enabled, with the resume sequence of R144; otherwise held off. -/
def State.convertOne (s : State) (c g : Nat) (x : ClSet) (p0 e : Nat) (on : Bool) : State :=
  let y := s.gen g
  let cs := x.g.getD (g % 4) GenSet.reset
  let y := { y with dtFloor := cs.floored }
  if on = false then
    let r := convertOff y cs e
    s.setGen g { r.gen with edges := y.next, next := [], refAt := y.refNext, resuming := false }
  else
    let resume := decide (g < 44) && (s.lane (genLane g)).ready && s.resumeNeeded g
    let y := if resume then { y with hEnd := false, lEnd := false } else y
    let page := if x.maskEn then some (s.en 4 (0x040 + x.page.toNat) c) else none
    let ref : RefCfg := ⟨decide (g < 44) && s.en 4 0x019 g == 1 && y.bstWarn, (s.en 4 0x01A g : Nat), s.en 4 0x01B g⟩
    let r := convertGen y cs e (p0 * 32) page (g % 4) (s.en 4 0x015 g == 1) true ref
    let s := s.setGen g { r.gen with edges := y.next, next := r.edges, refAt := y.refNext, resuming := resume }
    let s := s.putKey (mkKey 4 0x021 g) (min 65535 (s.en 4 0x021 g + r.minpN))
    let s := s.whenS r.gen.refresh (·.bump (mkKey 4 0x022 g) 65535)
    if g < 44 then
      let s := if resume then
          (s.setResume g false).sendCmds g [⟨5, 0, s.cmdProf g 0, BitVec.ofNat 32 (p0 * 32), genPos g⟩]
        else s
      s.sendCmds g (r.edges.map (fun d =>
        ⟨if d.on then 1 else 2, if d.high then 1 else 2, s.cmdProf g (profOf cs.prof d.high d.on), BitVec.ofNat 32 d.t, 0⟩))
    else s

/-- The compare triggers of a converted period (R187): their ADC_TRIG frames are queued. -/
def State.sendCompares (s : State) (c : Nat) (x : ClSet) (p0 e : Nat) : State :=
  (clGens c).foldl (fun s g =>
    let cs := x.g.getD (g % 4) GenSet.reset
    let one (s : State) (d : Nat) (code : Word) : State :=
      if codeNever code e then s else s.sendTrigAll (2 * g + d) (BitVec.ofNat 32 ((p0 + code.toNat / 32) * 32))
    one (one s 0 cs.cmpc) 1 cs.cmpd) s

/-- What every reload does once the running period is known (R106, R107, R110, R119): hold-off of a running period that is held
off, conversion of the next one, the event and the releases. -/
def State.reloadTail (s : State) (c : Nat) : State :=
  let x := s.cl c
  let p0 := x.start48 + x.len
  let e := s.periodNext c x.applied
  let s := s.whenS (!x.runOn || x.st == .latched) (fun s =>
    (clGens c).foldl (fun s g => s.gatePins g true true) (s.holdGens false (clGens c) 3 (BitVec.ofNat 32 (p0 * 32))))
  let s := (clGens c).foldl (fun s g => s.convertOne c g x.applied p0 e (x.st == .running && x.outen)) s
  let s := s.sendCompares c x.applied p0 e
  (s.raiseEv (96 + c)).releaseOn c x.rldnum.toNat

/-! ### Start, stop and latch (R106, R125) -/

/-- The start of a cluster takes effect: reload 0. -/
def State.startNow (s : State) (c : Nat) : State :=
  let x := s.initSet c
  let y := s.cl c
  let s := (clGens c).foldl (fun s g =>
    s.setGen g { Gen.reset with bstWarn := (s.gen g).bstWarn, pinH := false, pinL := false }) s
  let s := s.setCl c { y with
    st := .running, carrier := 0, rldnum := 0, start48 := s.t48.toNat, len := s.periodNow c x, pending := x
    transfer := none, waiting := none, apply := none, applied := x, cur := none, late := false, cut := false, lastapp := 0
    outen := y.outenReq, runOn := false, tripHit := 0, tripcnt := 0, clean := 0, counted := false, holdH := false
    holdL := false, starting := false }
  (s.put 4 0x053 c 0).reloadTail c

/-- A stage starts a cluster: a slave waits for its master's reload plus PHASE (R106). -/
def State.startCl (s : State) (c : Nat) : State :=
  if (s.cl c).st ≠ .off then s
  else if (s.master c).isSome then s.setCl c { s.cl c with starting := true }
  else s.startNow c

/-- Outputs of a cluster are held off at once, to the next reload. -/
def State.cutOutputs (s : State) (c : Nat) : State :=
  let s := s.holdGens true (clGens c) 3 (s.nextReloadT c)
  (clGens c).foldl (fun s g => s.gatePins g true true) s

/-- A stage stops a cluster. -/
def State.stopCl (s : State) (c : Nat) : State :=
  let y := s.cl c
  let s := if y.st = .off then s else s.cutOutputs c
  let s := (clGens c).foldl (fun s g =>
    s.setGen g { s.gen g with edges := [], next := [], hEnd := false, lEnd := false, markH := false, markL := false }) s
  s.setCl c { y with st := .off, carrier := 0, outen := false, outenReq := false, runOn := false, transfer := none, waiting := none
                     apply := none, cur := none, holdH := false, holdL := false, starting := false, cut := false }

/-- OUTEN is set or cleared; it takes effect at the next reload (R106). -/
def State.setOuten (s : State) (c : Nat) (v : Bool) : State := s.setCl c { s.cl c with outenReq := v }

/-- A refresh of the running period whose low-side rise falls inside a hold of the low side is not made (R127): it is not counted, and the count
of periods goes on as without it. -/
def State.undoRefresh (s : State) (g : Nat) : State :=
  let y := s.gen g
  match y.refAt with
  | some (t, n) =>
    if s.since (t / 32) = 0 ∨ 2 ^ 47 ≤ s.since (t / 32) then
      (s.setGen g { y with refAt := none, refCnt := if y.refCnt = 0 then 0 else y.refCnt + n }).put 4 0x022 g (s.en 4 0x022 g - 1)
    else s
  | none => s

/-- A cluster goes LATCHED at once (R125); a refresh that its hold discards is not made (R127). -/
def State.latchCl (s : State) (c : Nat) : State :=
  if (s.cl c).st = .running then
    (clGens c).foldl State.undoRefresh ((s.setCl c { s.cl c with st := .latched, holdH := true, holdL := true }).cutOutputs c)
  else s

/-! ### Trips (R122 to R127) -/

/-- The six configuration bits of a trip input. -/
def State.tripCfg (s : State) (c i : Nat) : Nat := s.en 4 0x033 c / 2 ^ (6 * i) % 64

/-- A trip input is enabled in a mode and not blanked. -/
def State.tripOpen (s : State) (c i mode : Nat) : Bool :=
  let f := s.tripCfg c i
  let b := f / 8 % 4
  let bt := (s.cl c).bt
  f % 4 == mode && !((b == 1 || b == 3) && bt.getD 0 false) && !((b == 2 || b == 3) && bt.getD 1 false)

/-- The inputs among `inputs` that are effective in a mode. -/
def State.tripInputs (s : State) (c mode : Nat) (inputs : BitVec 4) : List Nat :=
  (List.range 4).filter (fun i => inputs.getLsbD i && s.tripOpen c i mode)

/-- The inputs of a cluster that the trip matrix asserts (R295). -/
def State.tripLive (s : State) (c : Nat) : BitVec 4 := bits 4 ((List.range 4).map (fun i => s.tmOut (4 * c + i)))

/-- TRIP_HIT takes the inputs; the first effective trip of a period raises EV(108 + c) and counts it (R127, 4.053). -/
def State.tripNote (s : State) (c : Nat) (is : List Nat) : State :=
  let x := s.cl c
  let s := s.setCl c { x with tripHit := is.foldl (fun t i => t ||| (1#4 <<< i)) x.tripHit, counted := true }
  if x.counted then s else (s.raiseEv (108 + c)).bump (mkKey 4 0x053 c) 0xFFFFFF

/-- A side is on at the start of the next period by the converted waveform (R123): its first edge there is a fall, or it has
none and the side is on at the end. -/
def Gen.onAtNext (g : Gen) (high : Bool) : Bool :=
  match g.next.find? (fun d => d.high == high) with
  | some d => !d.on
  | none => if high then g.hEnd else g.lEnd

/-- LATCH_TRIP's effect (R125) for effective inputs: a LATCHED cluster is not changed further. -/
def State.latchTrip (s : State) (c : Nat) (is : List Nat) : State :=
  if is = [] ∨ (s.cl c).st ≠ .running then s else ((s.tripNote c is).latchCl c).condOn (0x030002 + 256 * c)

/-- CBC_TRIP's effect (R123, R124) for effective inputs; a LATCH input effective in the same tick decides (R127). -/
def State.cbc (s : State) (c : Nat) (is : List Nat) : State :=
  let x := s.cl c
  if x.st ≠ .running ∨ is = [] then s
  else if s.tripInputs c 2 (s.tripLive c) ≠ [] then s.latchTrip c (is ++ s.tripInputs c 2 (s.tripLive c))
  else
    let low := is.any (fun i => !(s.tripCfg c i).testBit 2)
    let s := s.tripNote c is
    let s := s.setCl c { s.cl c with holdH := true, holdL := x.holdL || low
                                     tripcnt := if x.counted then x.tripcnt else min 255 (x.tripcnt + 1)
                                     clean := if x.counted then x.clean else 0 }
    let s := (clGens c).foldl (fun s g =>
      let y := s.gen g
      (s.setGen g { y with markH := y.markH || y.onAtNext true, markL := y.markL || (low && y.onAtNext false) }).gatePins g true low) s
    let s := s.whenS low (fun s => (clGens c).foldl State.undoRefresh s)
    let s := if x.holdH ∧ (low = false ∨ x.holdL) then s
      else s.holdGens true (clGens c) (if low then 3 else 1) (s.nextReloadT c)
    if x.counted = false ∧ s.en 4 0x034 c ≤ (s.cl c).tripcnt then (s.latchCl c).report (0x030001 + 256 * c) else s

/-- CBC_TRIP (R122 to R124): the inputs named that are in CBC mode and not blanked; with one in LATCH mode among them, LATCH decides (R127) and TRIP_HIT
takes both. -/
def doCbcTrip (c : Fin 12) (inputs : BitVec 4) (s : State) : State :=
  let l := s.tripInputs c 2 inputs
  if l ≠ [] then s.latchTrip c (s.tripInputs c 1 inputs ++ l) else s.cbc c (s.tripInputs c 1 inputs)

/-- LATCH_TRIP (R125): a LATCHED cluster is not changed further. -/
def doLatchTrip (c : Fin 12) (inputs : BitVec 4) (s : State) : State :=
  s.latchTrip c (s.tripInputs c 2 inputs)

/-- BLANK_TIMER_EXPIRY (R126). -/
def doBlankTimerExpiry (c : Fin 12) (b : Fin 2) (s : State) : State :=
  s.setCl c { s.cl c with bt := (s.cl c).bt.set b.val false }

/-- An edge of kind e of a generator starts the timers that select it, unless the trip logic holds its side off (R126). DESIGN CHOICE (log
entry 61): the fall of a side that is held off starts none either. -/
def State.startBlank (s : State) (g kind : Nat) : State :=
  let c := g / 4
  let x := s.cl c
  let held := if kind < 2 then x.holdH else x.holdL
  let starts (b : Nat) : Bool :=
    !held && s.en 4 (0x036 + 2 * b) c != 0 && (s.en 4 (0x037 + 2 * b) c).testBit (4 * (g % 4) + kind)
  s.setCl c { x with bt := (x.bt.set 0 (x.bt.getD 0 false || starts 0)).set 1 (x.bt.getD 1 false || starts 1) }

/-- EDGE_TIME_REACHED (R126): the tick with the stated T of a converted edge; kinds 0 high rise, 1 high fall, 2 low rise, 3 low
fall. -/
def doEdgeTimeReached (g : Fin 48) (kind : Fin 4) (s : State) : State :=
  if (s.cl (g / 4)).st = .off then s else s.startBlank g kind

/-- EDGE_TICK (R102, R107, R115, R123): the output unit of a PWMO pair places its next edge through the pin's delay line; a side that a trip holds off, a LATCHED
cluster and a lost CLK_TB keep the pin inactive (R131). -/
def doEdgeTick (g : Fin 48) (s : State) : State :=
  let y := s.gen g
  match y.edges with
  | [] => s
  | d :: r =>
    let x := s.cl (g / 4)
    let held := (if d.high then x.holdH else x.holdL) || x.st != .running || !x.runOn || s.flt.src.getLsbD 119 || s.flt.injSrc.getLsbD 119
    let v := d.on && !held
    let s := if g.val < 44 then s else s.placeEdge (2 * (g - 44) + (if d.high then 0 else 1)) d.t
    let s := s.setGen g (if d.high then { y with edges := r, pinH := v } else { y with edges := r, pinL := v })
    s.startBlank g ((if d.high then 0 else 2) + (if d.on then 0 else 1))

/-! ### Commit, cutoff and reload (R116 to R120, R15) -/

/-- A store of COMMIT.GO (R117): the pending set into the transfer register; none while the cluster is OFF. A set whose token is not
acknowledged stays as it is (R22): the store waits (State.commitBusy). -/
def State.commitGo (s : State) (c : Nat) : State :=
  let x := s.cl c
  if x.st = .off ∨ x.transfer.isSome then s else s.setCl c { x with transfer := some x.pending }

/-- The dead-time floors of R118 on one generator. -/
def State.floorGen (s : State) (g : Nat) (x : GenSet) : GenSet :=
  let a := BitVec.ofNat 16 (s.en 4 0x012 g)
  let b := BitVec.ofNat 16 (s.en 4 0x013 g)
  let m := BitVec.ofNat 13 (s.en 4 0x014 g)
  { x with dtr := if x.dtr < a then a else x.dtr, dtf := if x.dtf < b then b else x.dtf, minp := if x.minp < m then m else x.minp
           floored := x.dtr < a || x.dtf < b || x.minp < m }

/-- Check 2 of R118. -/
def periodOk (nominal p : Nat) : Bool := decide (nominal ≤ p) && decide (p ≤ min (8 * nominal) 524288)

/-- Check 3 of R118. -/
def budgetOk (p : Nat) (x : GenSet) : Bool := decide (x.dtr.toNat + x.dtf.toNat + 2 * x.minp.toNat < p * 32)

/-- A set is rejected (R118). -/
def State.rejectSet (s : State) (c : Nat) (reason : BitVec 4) : State :=
  ((s.setCl c { s.cl c with rejReason := reason }).bump (mkKey 4 0x056 c) 65535).report (0x030003 + 256 * c)

/-- COMMIT_RECOGNISED (R15, R117, R118): LATE says whether the token came after the cutoff; then floors, period range, edge budget; the set waits and
replaces any set not applied. -/
def doCommitRecognised (c : Fin 12) (s : State) : State :=
  let x := s.cl c
  match x.transfer with
  | none => s
  | some t =>
    let late := x.cut && x.st != .off
    let s := (s.setCl c { x with transfer := none, late := late || (x.late && x.st == .off) }).whenS late (·.bump (mkKey 4 0x054 c) 65535)
    if x.st = .off then s
    else
      let t := { t with g := t.g.mapIdx (fun i y => s.floorGen (4 * c + i) y) }
      let s := (clGens c).foldl (fun s g =>
        s.whenS ((t.g.getD (g % 4) GenSet.reset).floored) (·.bump (mkKey 4 0x023 g) 65535)) s
      let p := t.period.toNat
      if periodOk (s.en 4 0x030 c) p = false then s.rejectSet c 1
      else if t.g.toList.all (budgetOk p) = false then s.rejectSet c 2
      else
        let y := s.cl c
        let s := s.whenS (y.waiting.isSome || y.apply.isSome) (·.bump (mkKey 4 0x055 c) 65535)
        s.setCl c { y with waiting := some t, apply := none }

/-- CUTOFF (R119): the recognised set, if any, enters the apply stage. -/
def doCutoff (c : Fin 12) (s : State) : State :=
  let x := s.cl c
  if x.st = .off then s
  else match x.waiting with
    | some t => s.setCl c { x with apply := some t, waiting := none, cut := true }
    | none => s.setCl c { x with cut := true }

/-- The leak of TRIPCNT at a reload (R124). -/
def State.leak (s : State) (c : Nat) (x : Cl) : Cl :=
  if x.counted then x
  else
    let n := s.en 4 0x035 c
    if n ≠ 0 ∧ n ≤ x.clean + 1 then { x with clean := 0, tripcnt := x.tripcnt - 1 } else { x with clean := x.clean + 1 }

/-- The times that an earlier conversion left, where T48 wraps between it and the next one (R101). -/
def Gen.rebase (y : Gen) : Gen :=
  { y with hRise := y.hRise - 2 ^ 53, lRise := y.lRise - 2 ^ 53, hFall := y.hFall.map (· - 2 ^ 53), lFall := y.lFall.map (· - 2 ^ 53) }

/-- RELOAD (R105, R106, R119, R123, R124): the next period begins; the set in the apply stage is applied and converted. A trip
still effective holds the new period off (R123). -/
def doReload (c : Fin 12) (s : State) : State :=
  let x := s.cl c
  if x.st = .off then (if x.starting then s.startNow c else s)
  else
    let y := s.leak c x
    let n := y.rldnum + 1
    let y := { y with
      rldnum := n, carrier := 0, start48 := (y.start48 + y.len) % 2 ^ 48, len := s.periodNow c y.applied, cur := some y.applied
      runOn := y.outen && (y.st == ClState.running), outen := y.outenReq, tripHit := 0, counted := false
      holdH := (y.st == ClState.latched), holdL := (y.st == ClState.latched), cut := false }
    let y := match y.apply with
      | some t => { y with applied := t, apply := none, lastapp := n }
      | none => y
    let s := s.whenS (decide (2 ^ 48 ≤ x.start48 + x.len)) (fun s => (clGens c).foldl (fun s g => s.setGen g (s.gen g).rebase) s)
    let s := (s.setCl c y).reloadTail c
    let s := s.whenS (y.st == .latched) (fun s => (clGens c).foldl State.undoRefresh s)
    s.cbc c (s.tripInputs c 1 (s.tripLive c))

/-- A trigger fires (R121, R196, R222). -/
def State.trigger (s : State) (trig : Nat) : State := qeCapture (s.lgFireAll trig) trig

/-- TRIGGER_FIRE (R121): CMPC or CMPD of the running period's set. -/
def doTriggerFire (g : Fin 48) (d : Bool) (s : State) : State :=
  let x := s.cl (g / 4)
  let n := 2 * g.val + b2n d
  match x.cur with
  | none => s
  | some t =>
    let cs := t.g.getD (g % 4) GenSet.reset
    if codeNever (if d then cs.cmpd else cs.cmpc) x.len then s else (s.raiseEv n).trigger n

/-! ### The Rally (R102, R103) -/

/-- RALLY_MEASURE (R102, R103): the chain out of service is measured in 1/8 taps; one tick must span 32 to 63 taps. -/
def doRallyMeasure (line : Fin 48) (taps8 : BitVec 12) (s : State) : State :=
  let x := s.line line
  let ok := decide (256 ≤ taps8.toNat) && decide (taps8.toNat ≤ 504)
  let v := if ok then some taps8.toNat else none
  let y := if x.useB then { x with a := v, measured := true } else { x with b := v, measured := true }
  let y := if ok then { y with useB := !x.useB, at48 := s.t48.toNat } else y
  let s := s.setLine line y
  if ok then s else (s.bump (mkKey 4 0x002 0) 65535).report (0x030004 + 256 * line.val)

/-- RALLY_STATE (R134): 0 INIT until every line is measured, 2 DEGRADED while a line has no valid table, 1 TRACKING. -/
def State.rallyState (s : State) : Nat :=
  let ls := (List.range 48).map s.line
  if ls.any (fun x => !x.measured) then 0
  else if ls.any (fun x => x.a.isNone && x.b.isNone) then 2 else 1

/-- RALLY_AGE_MAX in µs (400 ticks): of the tables in service. -/
def State.rallyAge (s : State) : Nat :=
  (((List.range 48).filter (fun i => (s.line i).count.isSome)).map (fun i => s.since (s.line i).at48 / 400)).foldl max 0

/-- The delay lines as they are kept where T48 starts again at 0 (R101): the ages of their tables stay. -/
def State.agedLines (s : State) : Tab Line :=
  s.pwm.line.map (fun p => (p.1, { p.2 with at48 := (BitVec.ofNat 48 p.2.at48 - s.t48).toNat }))

/-- T48 starts again at 0 (R101). -/
def State.clockStart (s : State) : State := { s with t48 := 0, pwm := { s.pwm with line := s.agedLines } }

/-- The pending registers of a cluster that is OFF at the start: those that R106 loads (R132, R133). -/
def State.loadPending (s : State) (c : Nat) : State :=
  if (s.cl c).st = .off then s.setCl c { s.cl c with pending := s.initSet c } else s

/-! ### The carriers in the idle tick (R105) -/

/-- One CLK_TB tick of every carrier that counts: up to PERIOD − 1, where it waits for its RELOAD. -/
def State.carriers (s : State) : State :=
  (List.range 12).foldl (fun s c =>
    let x := s.cl c
    if x.st = .off ∨ x.len ≤ x.carrier.toNat + 1 then s else s.setCl c { x with carrier := x.carrier + 1 }) s

end Sys2Proof.Machine
end

