-- ==== Sys2Proof/Machine/Faults.lean ====
section
/-! DEFINITION. The fault collector (11_faults.md): classes and targets, latching, the Scorecard, reactions and their windows,
clearing, OKAY, the trip matrix's sources, kernel fault requests and injection. -/

namespace Sys2Proof.Machine

/-! ### Fault codes (R309, R310) -/

/-- Group, instance and cause of a code. -/
def codeGroup (c : Nat) : Nat := c / 65536
/-- Instance. -/
def codeInst (c : Nat) : Nat := c / 256 % 256
/-- Cause. -/
def codeCause (c : Nat) : Nat := c % 256

/-- A lane's cluster is RUNNING with OUTEN = 1 (R163), on any generator of the lane. -/
def State.laneSwitching (s : State) (l : Nat) : Bool :=
  (laneGens l).any (fun g => (s.cl (g / 4)).st == .running && (s.cl (g / 4)).outenReq && (s.genHolder g).isSome)

/-- TRIP_STAGE where the condition holds, else WARN. -/
def tripIf (b : Bool) : Nat := if b then 4 else 1

/-- The class of an abort (R59). -/
def State.abortClass (s : State) (t : Nat) : Nat :=
  if s.dc 2 0x011 t ≤ 1 then (if (s.taskStage t).isSome then 4 else 5) else 1

/-- A class of TM_CLASS; NONE raises no fault, and an injected code without a class is a NOTE. DEDUCED (log entry 28). -/
def tmClass (v : Nat) : Nat := if v = 7 then 0 else v

/-- The class of a code at its classification (R310); a cause that is not listed is reserved and has none. -/
def State.classOf (s : State) (code : Nat) : Option Nat :=
  let i := codeInst code
  let c := codeCause code
  match codeGroup code with
  | 0x01 => if 1 ≤ c ∧ c ≤ 8 then some (s.abortClass i) else if c = 9 ∨ c = 0xA then some 0 else if c = 0xB then some 4 else none
  | 0x02 => if 1 ≤ c ∧ c ≤ 3 then some 0 else if 4 ≤ c ∧ c ≤ 6 then some 1 else if c = 7 then some 4 else if c = 8 then some 2
      else if 9 ≤ c ∧ c ≤ 0xB then some 1 else none
  | 0x03 => if c = 1 ∨ c = 2 then some 4 else if c = 3 ∨ c = 4 then some 1 else none
  | 0x04 => if c = 1 ∨ c = 5 ∨ c = 7 then some 1 else if 2 ≤ c ∧ c ≤ 4 then some (tripIf (s.laneSwitching i))
      else if c = 6 ∨ c = 0x10 ∨ c = 0x12 ∨ c = 0x13 ∨ c = 0x20 then some 4 else if c = 8 then some 0 else if c = 0x11 then some 3
      else if 0x14 ≤ c ∧ c ≤ 0x19 then some (tripIf (s.laneSwitching i)) else if c = 0x21 then some 5 else none
  | 0x05 => if c = 1 ∨ c = 2 then some 3 else if c = 3 ∨ c = 9 then some 0 else if 4 ≤ c ∧ c ≤ 6 then some 4
      else if c = 7 ∨ c = 8 then some 1 else none
  | 0x06 => if c = 1 ∨ c = 5 then some 1 else if c = 2 then some 0 else if c = 3 then some (tmClass (s.en 0xA 0x204 (48 + i)))
      else if c = 4 then some (tmClass (s.en 0xA 0x204 i)) else if c = 6 then some (tripIf ((s.liveStage (s.named (s.en 7 0x066 i))).isSome))
      else none
  | 0x07 => if c = 1 ∨ c = 4 then some (tripIf (s.liveStage (s.qeHolder i)).isSome) else if c = 2 ∨ c = 3 then some 0 else none
  | 0x08 => if 1 ≤ c ∧ c ≤ 3 ∨ c = 0xF then some 1 else if c = 7 then some (tripIf ((s.stg i).st != .armed))
      else if 4 ≤ c ∧ c ≤ 0x1A then some 4 else none
  | 0x09 => if c = 1 ∨ c = 4 ∨ c = 5 ∨ c = 0x10 then some 1 else if c = 2 then some 2 else if c = 3 ∨ c = 0x11 then some 6 else none
  | 0x0A => if c = 1 then
        (if i = 0 ∨ (0x10 ≤ i ∧ i < 0x20) then some 5 else if i = 1 then some 6 else if i = 2 then some 1 else some 4)
      else none
  | 0x0B => if c = 1 then some (s.en 0xA 0x004 0) else if c = 2 ∨ c = 4 ∨ c = 5 then some 6 else if c = 3 ∨ c = 8 then some 1
      else if c = 6 then some 5 else if c = 7 then some 0 else none
  | 0x0C => if c = 1 ∨ c = 2 ∨ c = 7 ∨ c = 9 then some 0 else if c = 4 then some (if i = 0x10 ∨ i = 0x11 then 6 else 1)
      else if c = 3 ∨ c = 5 ∨ c = 6 ∨ c = 8 then some 1 else none
  | 0x0D => if c = 1 ∨ c = 7 then some 0 else if 2 ≤ c ∧ c ≤ 6 then some 1 else none
  | _ => none

/-- The codes of kind C (R310). -/
def kindC (code : Nat) : Bool :=
  let c := codeCause code
  match codeGroup code with
  | 0x01 => c == 0xB
  | 0x02 => [5, 6, 7, 8, 0xA].contains c
  | 0x03 => c == 2
  | 0x04 => [1, 2, 4, 5, 6, 0x10, 0x12, 0x13, 0x21].contains c
  | 0x05 => [2, 3, 4, 6, 7].contains c
  | 0x06 => [3, 4, 6].contains c
  | 0x08 => c == 0x14 || c == 0x1A
  | 0x09 => c != 0x11
  | 0x0A => true
  | 0x0B => [1, 2, 3].contains c
  | 0x0D => c == 1 || c == 2
  | _ => false

/-- A cause of kind K, which a kernel may raise (R310). -/
def kindK (c : Nat) : Bool := c == 3 || (decide (4 ≤ c) && decide (c ≤ 0xE)) || (decide (0x10 ≤ c) && decide (c ≤ 0x13))
  || (decide (0x15 ≤ c) && decide (c ≤ 0x19))

/-- Bank b's stages and those that hold a sequence of its converter (R292). -/
def State.linkStages (s : State) (b : Nat) : List Nat :=
  s.bankStages b ++ (List.range 8).flatMap (fun k => (s.named (s.en 7 0x024 (8 * b + k))).toList)

/-- The stages that bind any integrated half-bridge. -/
def State.hbStages (s : State) : List Nat := (List.range 4).flatMap s.bankStages

/-- The stages with a SAFETY or CONTROL task on an engine (R292). -/
def State.engineStages (s : State) (e : Nat) : List Nat :=
  (List.range 96).filterMap (fun t => if (s.task t).placed ∧ (s.task t).engine = e ∧ s.dc 2 0x011 t ≤ 1 then s.taskStage t else none)

/-- The target stages of a code (R292). MEM_ECC_CORR names an engine and no task; of the REFEREE group the causes of derating name a stage (R309). -/
def State.targets (s : State) (code : Nat) : List Nat :=
  let i := codeInst code
  let c := codeCause code
  let l := match codeGroup code with
    | 0x01 => if c = 0xB then s.engineStages i else if c = 9 then [] else (s.taskStage i).toList
    | 0x02 => if 7 ≤ c ∧ c ≤ 0xA then [i] else []
    | 0x03 => s.withEft (s.clHolder i).toList
    | 0x04 => s.withEft (if i < 32 then (s.genHolder i).toList else s.linkStages (i - 32))
    | 0x05 => s.withEft (if i = 0xFF then s.hbStages else (s.genHolder (32 + i)).toList)
    | 0x06 => if c = 3 then s.withEft (s.genHolder i).toList else if 4 ≤ c then (s.named (s.en 7 0x066 i)).toList
        else (List.range 8).flatMap (fun k => (s.named (s.en 7 0x024 (8 * i + k))).toList)
    | 0x07 => (s.qeHolder i).toList
    | 0x08 => [i]
    | 0x0A => s.withEft (if 0x40 ≤ i then s.linkStages (i - 0x40) else if 0x20 ≤ i then (s.genHolder (i - 0x20)).toList else [])
    | _ => []
  (l.filter (fun g => decide (g < 12) && s.declared g)).eraseDups

/-! ### Stage and device states -/

/-- IDLE and OPERATIONAL follow the stages (R356); the entry to IDLE starts its jobs (R338, R351). -/
def State.devFollow (s : State) : State :=
  let busy := (List.range 12).any (fun g => (s.stg g).st != .off && (s.stg g).st != .ready)
  if s.dev = devIdle ∧ busy then s.setDev devOperational
  else if s.dev = devOperational ∧ busy = false then (s.setDev devIdle).idleJobs else s

/-- A stage takes a state; STAGE_STATE shows it, and RUN_MODE is IDLE outside RUN and RAMPDOWN in RAMPDOWN (R263). The Referee is to evaluate
at once (R70). -/
def State.stgTo (s : State) (g : Nat) (st : StageSt) : State :=
  let s : State := { s with ref := { s.ref with due := true } }
  let s := (s.setStg g { s.stg g with st := st, disarming := false }).put 0xD 0x011 g st.code
  (s.put 0xD 0x015 g (if st = .run then s.en 0xD 0x015 g else if st = .rampdown then 5 else 0)).devFollow

/-- The clusters a stage runs on: those it holds, or its base's (R283). -/
def State.stageCls (s : State) (g : Nat) : List Nat := (List.range 12).filter (fun c => (s.dc 0xD 0x001 (s.owner g)).testBit c)

/-- The generators a stage runs on. -/
def State.stageGens (s : State) (g : Nat) : List Nat := (List.range 48).filter (fun n => (s.dc 0xD 0x002 (s.owner g)).testBit n)

/-- A stage goes HALTED (R237): HALT_CODE takes the code, OUTEN is cleared, its contactors are to open (R270), and a precheck or
identification job of the stage ends with the code (R450). -/
def State.haltStage (s : State) (code g : Nat) : State :=
  if (s.stg g).st.armedRwi = false then s
  else
    let s := (s.stageCls g).foldl (fun s c => s.setOuten c false) s
    let s := ((s.stgTo g .halted).put 0xD 0x014 g code).openLater g
    match s.ref.job.find? (fun (p : Nat × Job) => (p.2.kind == .precheck || p.2.kind == .ident) && p.2.arg == g) with
    | some p => (if p.2.kind == .ident then s.put 0xD 0x152 g 3 else s).endJob p.1 5 code
    | none => s

/-- SAFE_STOP takes the device to SAFE (R356); in BOOT the boot will end there; TADPOLE stays. Factory test mode ends (R372). -/
def State.toSafe (s : State) : State :=
  if s.dev = devBoot then { s with boot := { s.boot with safe := true } }
  else if s.dev = devIdle ∨ s.dev = devOperational ∨ s.dev = devPark then
    ({ s with boot := { s.boot with factory := false } } : State).setDev devSafe
  else s

/-! ### Reactions (R291, R293) -/

/-- The outputs of generators that a reaction waits for: ACTIVE lanes that are not held static, and half-bridges not yet measured off (R294). -/
def State.outputsOf (s : State) (gs : List Nat) : List Nat :=
  gs.filter (fun g =>
    if g < 32 then (s.lane g).st == .active && !s.flt.static.getLsbD g
    else decide (g < 44) && !(s.view (g - 32)).offConf && (s.lane (genLane g)).st == .active)

/-- A reaction waits for outputs; OFF_CONF of their STATUS so far does not count for lanes. -/
def State.awaitOff (s : State) (os : List Nat) : State :=
  { s with flt := { s.flt with unconf := s.flt.unconf ++ os.filter (fun o => !s.flt.unconf.contains o) } }

/-- TRIP_STAGE on one stage: its clusters LATCHED, the stage HALTED. -/
def State.tripStage (s : State) (code g : Nat) : State :=
  let os := s.outputsOf (s.stageGens g)
  let s := (s.stageCls g).foldl (fun s c => s.latchCl c) s
  (s.haltStage code g).awaitOff os

/-- TRIP_ALL: every RUNNING cluster LATCHED, every ACTIVE lane killed, every bank-off wire asserted, every stage from PRECHECK to
RAMPDOWN HALTED. -/
def State.tripAll (s : State) (code : Nat) : State :=
  let os := s.outputsOf (List.range 44)
  let act := (List.range 36).filter (fun l => (s.lane l).st == .active)
  let s := (List.range 12).foldl (fun s c => s.latchCl c) s
  let s : State := { s with flt := { s.flt with kills := act.foldl (fun k l => k ||| (1#36 <<< l)) s.flt.kills, bankOff := 0xF } }
  let s := act.foldl (fun s l => s.killLane l) s
  let s := (List.range 4).foldl (fun s b => s.bankWireTo b true) s
  ((List.range 12).foldl (fun s g => s.haltStage code g) s).awaitOff os

/-- The generator of the output that a fault names: the lane of a satellite, the half-bridge, the lane of a filter's source; a comparator names none
(R291, R309). -/
def localOutput (code : Nat) : List Nat :=
  let i := codeInst code
  match codeGroup code with
  | 4 => if i < 32 then [i] else []
  | 5 => if i < 12 then [32 + i] else []
  | 6 => if codeCause code = 3 ∧ i < 32 then [i] else []
  | _ => []

/-- TRIP_LOCAL: the one lane or half-bridge named is off for the rest of the period under R142 and R175, by its own rules; for a filter's source, and
for an injected fault, which no satellite or driver has acted on, the collector commands it (R291, R307). The reaction waits until it is confirmed off
(R17, R293). -/
def State.tripLocal (s : State) (code : Nat) (inj : Bool) : State :=
  let gs := localOutput code
  (if codeGroup code = 6 ∨ inj = true then gs.foldl State.stpHold s else s).awaitOff (s.outputsOf gs)

/-- The shutdown temperature stops a running Shed at the boundary between two of its writes (R325, R340): the job ends FAILED with the fault (R450). -/
def State.hotStop (s : State) (code : Nat) : State :=
  if s.nvm.shed.isNone then s
  else
    let s := (s.ref.job.filter (fun (p : Nat × Job) => p.2.kind == .shed)).foldl (fun s (p : Nat × Job) => s.endJob p.1 5 code) s
    { s with nvm := { s.nvm with shed := none } }

/-- The code is a TEMP_SHUTDOWN (R309). -/
def isShutdown (code : Nat) : Bool := codeGroup code == 9 && codeCause code == 3

/-- The reaction of a class (R291). -/
def State.react (s : State) (code cls : Nat) (inj : Bool := false) : State :=
  if cls = 3 then s.tripLocal code inj
  else if cls = 4 then (s.targets code).foldl (fun s g => s.tripStage code g) s
  else if cls = 5 then s.tripAll code
  else if cls = 6 then
    let s := ((s.tripAll code).whenS (isShutdown code) (·.hotStop code)).toSafe
    { s with stages := { s.stages with cto := 0 } }
  else s

/-! ### Records (R299 to R303) -/

/-- A ring index. -/
def State.scAt (s : State) (i : Nat) : ScRec := Tab.get (fun _ => ScRec.empty) s.flt.ring i

/-- A ring index changes. -/
def State.setSc (s : State) (i : Nat) (r : ScRec) : State :=
  { s with flt := { s.flt with ring := Tab.set (fun _ => ScRec.empty) s.flt.ring i r } }

/-- The record of a SEQ, while the ring still holds it. -/
def State.scSeq (s : State) (seq : Nat) : Option ScRec :=
  let r := s.scAt (seq % 32)
  if r.used ∧ r.seq = seq then some r else none

/-- The eight words of a record (R299). -/
def ScRec.words (r : ScRec) : List Word :=
  if r.used = false then List.replicate 8 0
  else
    let w : List Word := [BitVec.ofNat 24 (r.t48 / 2 ^ 24), BitVec.ofNat 24 r.t48, BitVec.ofNat 24 r.code,
      fields 24 [(r.cls, 0), (r.clsFirst, 3), (b2n r.merged, 6), (b2n r.gone, 7), (b2n r.inj, 8), (b2n r.cleared, 9), (b2n r.prior, 10),
        (r.mergeCnt, 11)],
      BitVec.ofNat 24 r.count, fields 24 [(r.mg.getD 0 0, 0), (r.mg.getD 1 0, 8), (r.mg.getD 2 0, 16)],
      fields 24 [(r.mg.getD 3 0, 0), (r.seq % 65536, 8)]]
    w ++ [crc24 w]

/-- A record from its eight words, if its CRC holds and it is of a fault (R303). -/
def scOfWords (w : List Word) : Option ScRec :=
  let n (i : Nat) : Nat := (w.getD i 0).toNat
  if crc24 (w.take 7) = w.getD 7 0 ∧ n 2 ≠ 0 then
    let mgs := [n 5 % 256, n 5 / 256 % 256, n 5 / 65536, n 6 % 256]
    some ⟨true, n 0 * 2 ^ 24 + n 1, n 2, n 3 % 8, n 3 / 8 % 8, (n 3).testBit 6, (n 3).testBit 7, (n 3).testBit 8, (n 3).testBit 9,
      true, n 3 / 2 ^ 11 % 32, n 4 % 65536, mgs.take (min 4 (n 3 / 2 ^ 11 % 32)), n 6 / 256, false⟩
  else none

/-- A new record at the next SEQ; it overwrites the oldest (R302). The record of a condition fault that is no longer live starts
as GONE_BEFORE_READ (R301). -/
def State.newRec (s : State) (code cls : Nat) (inj live : Bool) : State × Nat :=
  let seq := s.en 0xA 0x009 0
  let i := seq % 32
  let s := s.whenS (s.scAt i).used (·.bump (mkKey 0xA 0x00A 0) 65535)
  let r : ScRec := ⟨true, s.t48.toNat, code, cls, cls, false, kindC code && !live, inj, false, false, 0, 1, [], seq, false⟩
  ((((s.setSc i r).put 0xA 0x009 0 ((seq + 1) % 65536)).put 0xA 0x008 0 i).scCopy seq, seq)

/-- The record of a SEQ changes. -/
def State.updRec (s : State) (seq : Nat) (f : ScRec → ScRec) : State :=
  match s.scSeq seq with
  | some r => (s.setSc (seq % 32) (f r)).scCopy seq
  | none => s

/-! ### The latch table (R297) -/

/-- A latch entry joins the table of 64; a full table displaces its oldest entry that is not live and not of a higher class, or
raises LATCH_OVF_CLASS. Slots are the lowest free index. -/
def State.latchNew (s : State) (code cls seq : Nat) (live inj hasRec inWin : Bool) : State :=
  let ls := s.flt.latch
  let mk (slot : Nat) : Latch := ⟨slot, code, cls, live, kindC code, inj, seq, hasRec, inWin⟩
  if ls.length < 64 then
    let slot := ((List.range 64).find? (fun i => !ls.any (fun l => l.slot == i))).getD 0
    { s with flt := { s.flt with latch := ls ++ [mk slot] } }
  else match ls.find? (fun l => !l.live && decide (l.cls ≤ cls)) with
    | some o => { s with flt := { s.flt with latch := ls.filter (fun l => l.slot != o.slot) ++ [mk o.slot] } }
    | none => let v := s.en 0xA 0x00C 0; s.put 0xA 0x00C 0 (if v = 7 then cls else max v cls)

/-- The latch entry of a code, real or injected. -/
def State.latchOf (s : State) (code : Nat) (inj : Bool) : Option Latch :=
  s.flt.latch.find? (fun l => l.code == code && l.inj == inj)

/-- A latch entry changes. -/
def State.updLatch (s : State) (slot : Nat) (f : Latch → Latch) : State :=
  { s with flt := { s.flt with latch := s.flt.latch.map (fun l => if l.slot = slot then f l else l) } }

/-- The newest open window that takes a fault as merged (R300): less than 10 µs (4000 ticks) old, and of the same kind of report. -/
def State.merges (s : State) (cls : Nat) (inj : Bool) : Option RWin :=
  (s.flt.win.toList ++ s.flt.wins.reverse).find? (fun w => decide (3 ≤ cls) && decide (s.since w.at48 < 4000) && w.inj == inj)

/-- A window opens for a record, beside one that is still open (R300). -/
def State.openWin (s : State) (seq : Nat) (inj fresh : Bool) : State :=
  { s with flt := { s.flt with win := some ⟨seq, s.t48.toNat, inj, fresh⟩, wins := s.flt.wins ++ s.flt.win.toList } }

/-- EVENT 5: a fault with no record (R306, R416). -/
def noRecBody (code cls : Nat) : List Byte := 5 :: beBytes code 3 ++ [BitVec.ofNat 8 (9 * cls)] ++ List.replicate 10 0

/-- A repeat whose record the ring still holds: COUNT rises and a higher class raises the record. A raised class outside a window is notified, else the
new COUNT, at most once per 100 ms for a record (R297, R306). -/
def State.repeatRec (s : State) (code c seq : Nat) (up live : Bool) : State :=
  let s := s.updRec seq (fun r => { r with count := min 65535 (r.count + 1), cls := max r.cls c })
  let r := s.scAt (seq % 32)
  if up ∧ s.flt.win.isNone then s.notifyFault s.t48.toNat c (r.body 1 code c live)
  else
    let k := 0x1000000 + seq
    match s.flt.lastAt.find? (fun (p : Nat × Nat) => p.1 == k && decide (s.since p.2 < 40000000)) with
    | some _ => s
    | none =>
      let f : Flt := { s.flt with lastAt := (k, s.t48.toNat) :: s.flt.lastAt.filter (fun (p : Nat × Nat) => p.1 != k) }
      ({ s with flt := f } : State).notifyFault s.t48.toNat c (r.body 2 code c live)

/-- A fault whose code is latched (R297): COUNT rises. One that arrives with a higher class raises the entry and the record, and the reaction of that
class is carried out. Where its record has been overwritten, or it now reaches a class that has records, a new one is made, and notified at once
unless it opens a window (R306). A window opens for a fault of class TRIP_LOCAL or higher where none is open (R300). -/
def State.repeatFault (s : State) (l : Latch) (code cls : Nat) (live : Bool) : State :=
  let up := decide (l.cls < cls)
  let c := max l.cls cls
  let opens := decide (3 ≤ cls) && s.flt.win.isNone
  let s := s.updLatch l.slot (fun l => { l with cls := c, live := l.live || live })
  let held := l.hasRec && (s.scSeq l.seq).isSome
  let makes := !held && decide (s.en 0xA 0x006 0 ≤ c)
  let s :=
    if held then s.repeatRec code c l.seq up live
    else if makes then
      let q := s.newRec code c l.inj live
      let s := q.1.updLatch l.slot (fun x => { x with seq := q.2, hasRec := true })
      if opens then s else s.notifyFault s.t48.toNat c ((s.scAt (q.2 % 32)).body 0 code c live)
    else s
  let seq := ((s.latchOf code l.inj).map (fun (x : Latch) => x.seq)).getD 0
  let s := if 3 ≤ cls then
      (if opens then s.openWin seq l.inj makes else s).updLatch l.slot (fun x => { x with inWin := true })
    else s
  if up then s.react code c l.inj else s

/-- A fault that is not latched (R297, R300, R302). -/
def State.freshFault (s : State) (code cls : Nat) (inj live : Bool) : State :=
  match s.merges cls inj with
  | some w =>
    let s := s.updRec w.seq (fun r => { r with
      merged := true, mergeCnt := min 31 (r.mergeCnt + 1), cls := max r.cls cls
      mg := if r.mg.length < 4 then r.mg ++ [codeGroup code] else r.mg })
    (s.latchNew code cls w.seq live inj true true).react code cls inj
  | none =>
    if cls < s.en 0xA 0x006 0 then
      ((s.latchNew code cls 0 live inj false false).notifyFault s.t48.toNat cls (noRecBody code cls)).react code cls inj
    else
      let q := s.newRec code cls inj live
      let s := q.1.latchNew code cls q.2 live inj true (decide (3 ≤ cls))
      if 3 ≤ cls then (s.openWin q.2 inj true).react code cls inj
      else
        let r := s.scAt (q.2 % 32)
        (s.notifyFault s.t48.toNat cls (r.body 0 code cls live)).react code cls inj

/-- The fault of an injected source (R307): of sources 0 to 79 the fault of TM_CLASS, where it is not NONE; of a satellite alarm, to which no ALARM frame
comes, SAT_UNKNOWN (R154); of GVDD undervoltage, the shutdown temperature, KILL and CLK_TB their own. The other wires of the P-die name no half-bridge
and no supply, so they raise none: DESIGN CHOICE (log entry 66). -/
def State.injFault (s : State) (n : Nat) : Option Nat :=
  if n < 80 then s.srcFault n
  else if n < 112 then some (0x040019 + 256 * (n - 80))
  else if n = 115 then some 0x05FF06
  else if n = 117 then some 0x09FE03
  else if n = 118 then some 0x0B0001
  else if n = 119 then some 0x0A0001
  else none

/-- The condition of an injected fault stands while its source is injected (R297, R307). -/
def State.injLive (s : State) (code : Nat) : Bool :=
  (List.range 120).any (fun n => s.flt.injSrc.getLsbD n && s.injFault n == some code)

/-- A report is classified (R293). -/
def State.classify (s : State) (code : Nat) (inj : Bool) : State :=
  match s.classOf code with
  | none => s
  | some cls =>
    let live := kindC code && (if inj then s.injLive code else s.flt.live.contains code)
    match s.latchOf code inj with
    | some l => s.repeatFault l code cls live
    | none => s.freshFault code cls inj live

/-- The source of a report, for the order of R308: that of the matrix, and 128 for a report that comes from none. -/
def srcOf (code : Nat) : Nat :=
  let i := codeInst code
  let c := codeCause code
  match codeGroup code with
  | 4 => if 0x10 ≤ c ∧ c ≤ 0x19 ∧ i < 32 then 80 + i else 128
  | 5 => if c = 1 then 112 else if c = 2 then 113 else if c = 4 then 114 else if c = 6 then 115 else 128
  | 6 => if c = 4 then i else if c = 3 then 48 + i else 128
  | 9 => if c = 0x11 ∧ (i = 2 ∨ i = 3) then 116 else if c = 3 ∧ i = 0xFE then 117 else 128
  | 0xA => if i = 0 then 119 else 128
  | 0xB => if c = 1 then 118 else 128
  | _ => 128

/-- A report goes before another in one CLK_HK cycle: a real one before an injected one (R307), then in the order of the sources (R308). -/
def Report.before (a b : Report) : Bool := (!a.inj && b.inj) || (a.inj == b.inj && decide (srcOf a.code < srcOf b.code))

/-- A waiting report is taken up and classified; an alarm's source that waits for it is released (R154). -/
def State.takeReport (s : State) (r : Report) : State :=
  let s := ({ s with flt := { s.flt with reports := s.flt.reports.erase r } } : State).classify r.code r.inj
  s.whenS (!r.inj) (·.alarmRecorded r.code)

/-- Reports in the order of R307 and R308; those of one source stay in the order in which they came. -/
def insReport (r : Report) : List Report → List Report
  | [] => [r]
  | x :: l => if x.before r then x :: insReport r l else r :: x :: l

/-- A report's arrival (R293): the first waiting report of the code, real ones before injected ones, is classified; without one, the report comes from
outside. Reports that wait together are taken as reports of one CLK_HK cycle, so that those which go before it are classified first: DESIGN CHOICE (log
entry 26). -/
def State.faultReport (s : State) (c : Nat) : State :=
  let rs := s.flt.reports
  let inj := !(rs.any (fun r => r.code == c && !r.inj)) && rs.any (fun r => r.code == c && r.inj)
  let r : Report := ⟨c, inj⟩
  (((rs.filter (·.before r)).foldr insReport []).foldl State.takeReport s).takeReport r

/-- REACT_UNCONFIRMED (R294): an output still unconfirmed is forced off: a lane static, a half-bridge by its bank-off wire. The
instance is the lane, or 0x20 + the half-bridge. DEDUCED (log entry 27). -/
def doReactUnconfirmed (o : Fin 44) (s : State) : State :=
  if s.flt.unconf.contains o.val = false then s
  else
    let s := s.confirmOff o
    let s : State := if o.val < 32 then { s with flt := { s.flt with static := s.flt.static ||| (1#36 <<< o.val) } }
      else ({ s with flt := { s.flt with bankOff := s.flt.bankOff ||| (1#4 <<< ((o.val - 32) / 3)) } } : State).bankWireTo ((o.val - 32) / 3) true
    s.report (0x0B0006 + 256 * o.val)

/-- REACTION_COMPLETE (R293, R300, R306): every affected output is confirmed off; every window closes, its record is notified in its
final state where it is new, and unless the device is SAFE, or its boot will end there, the collector's kills and bank-off wires end (R291). -/
def doReactionComplete (s : State) : State :=
  match s.flt.win with
  | none => s
  | some w =>
    if s.flt.unconf ≠ [] then s
    else
      let ws := s.flt.wins ++ [w]
      let f : Flt := { s.flt with win := none, wins := [], latch := s.flt.latch.map (fun l => { l with inWin := false }) }
      let s : State := { s with flt := f }
      let s := if s.dev = devSafe ∨ (s.dev = devBoot ∧ s.boot.safe = true) then s
        else
          let s : State := { s with flt := { s.flt with kills := 0, bankOff := 0 } }
          (List.range 4).foldl (fun s b => s.bankWireTo b (s.tmOut (0x50 + b))) s
      ws.foldl (fun s w => match s.scSeq w.seq with
        | some r => s.whenS w.fresh (·.notifyFault r.t48 r.cls (r.body 0 r.code r.cls (s.flt.live.contains r.code)))
        | none => s) s

/-! ### Clearing (R298) -/

/-- A latch entry may be cleared: not live, its reaction window closed, and not of class SAFE_STOP. -/
def Latch.clearable (l : Latch) : Bool := !l.live && !l.inWin && l.cls != 6

/-- One latch entry is cleared: its record is CLEARED once no entry points to it, and a notification goes out. -/
def State.clearOne (s : State) (l : Latch) : State :=
  let s : State := { s with flt := { s.flt with latch := s.flt.latch.filter (fun x => x.slot != l.slot) } }
  if l.hasRec = false then s.notifyFault s.t48.toNat l.cls (3 :: (noRecBody l.code l.cls).drop 1)
  else
    let s := if s.flt.latch.any (fun x => x.hasRec && x.seq == l.seq) then s
      else s.updRec l.seq (fun r => { r with cleared := true })
    match s.scSeq l.seq with
    | some r => s.notifyFault s.t48.toNat l.cls (r.body 3 l.code l.cls false)
    | none => s.notifyFault s.t48.toNat l.cls (3 :: (noRecBody l.code l.cls).drop 1)

/-- Every entry of a list is cleared. -/
def State.clearList (s : State) (ls : List Latch) : State := ls.foldl State.clearOne s

/-- A stage CLEAR clears every clearable entry whose target is the stage (R298). -/
def State.clearStage (s : State) (g : Nat) : State :=
  s.clearList (s.flt.latch.filter (fun l => l.clearable && (s.targets l.code).contains g))

/-- CLEAR_CODE (R298): an entry that is live, whose window is open or whose class is SAFE_STOP is refused. -/
def doClearCode (q : Req) (code : BitVec 48) (s : State) : State :=
  let c := code.toNat
  s.dictWriteR q (mkKey 0xA 0x010 0) c 0 (fun _ => none)
    (fun s => if s.flt.latch.any (fun l => l.code == c && !l.clearable) then some ⟨errRefused, 0⟩ else none)
    (fun s => s.clearList (s.flt.latch.filter (fun l => l.code == c)))

/-- CLEAR_ALL (R298, R406): the clearable entries of the class or lower; STATUS is followed by the number cleared and the number
that remain. LATCH_OVF_CLASS ends with a CLEAR_ALL of its class that finds a free entry (R297). -/
def doClearAll (q : Req) (cls : BitVec 48) (s : State) : State :=
  let k := mkKey 0xA 0x011 0
  let v := cls.toNat
  s.serve q opWrite k 0 (fun s =>
    match s.writeCheck q.ses.val k v 0 none with
    | .error e => s.refuse q opWrite k e
    | .ok _ =>
      let le := s.flt.latch.filter (fun l => decide (l.cls ≤ v))
      let gone := le.filter Latch.clearable
      let s := s.clearList gone
      let o := s.en 0xA 0x00C 0
      let s := s.whenS (o != 7 && decide (o ≤ v) && decide (s.flt.latch.length < 64)) (·.put 0xA 0x00C 0 7)
      s.respond q opWrite 0 0 k (statusBody 0 false 0 ++ [BitVec.ofNat 8 gone.length, BitVec.ofNat 8 (le.length - gone.length)]))

/-! ### The persistent Scorecard (R303) -/

/-- The first waiting copy is written to its region (R303); a supply warning defers it, and it waits for the second write of a record of the journal
(R335) and for what was deferred before it. -/
def State.copyFirst (s : State) : State :=
  match s.flt.copies with
  | [] => s
  | seq :: r =>
    if s.turn 1 = false then s
    else
      let s := ({ s with flt := { s.flt with copies := r } } : State).begun 1
      match s.scSeq seq with
      | some x =>
        let m : Tab Word := Tab.setRange (fun _ => 0) s.mem.fram (0x74000 + 8 * (seq % 32)) x.words
        ({ s with mem := { s.mem with fram := m } } : State).heal 2 (0x74000 + 8 * (seq % 32)) 8
      | none => s

/-! ### OKAY (R304) -/

/-- The highest class that counts for OKAY: latch entries, the window's record and LATCH_OVF_CLASS; none is 7 (R311). -/
def State.highest (s : State) : Nat :=
  let w := (s.flt.wins ++ s.flt.win.toList).filterMap (fun w => (s.scSeq w.seq).map (·.cls))
  let o := s.en 0xA 0x00C 0
  let l := s.flt.latch.map (·.cls) ++ w ++ (if o = 7 then [] else [o])
  if l.isEmpty then 7 else l.foldl max 0

/-- OKAY is driven high. -/
def State.okayHigh (s : State) : Bool :=
  (s.dev == devIdle || s.dev == devOperational) && !s.flt.okStuck && !s.flt.live.contains 0x0B0003
    && (s.highest == 7 || decide (s.highest < s.en 0xA 0x002 0))

/-- OKAY_READBACK (R304). -/
def doOkayReadback (level : Bool) (s : State) : State :=
  let hi := s.okayHigh
  let s := s.put 0xA 0x003 0 (b2n level)
  if level ∧ hi = false then ({ s with flt := { s.flt with okStuck := true } } : State).condOn 0x0B0002
  else if level = false ∧ hi then s.condOn 0x0B0003
  else (s.condOff 0x0B0002).condOff 0x0B0003

/-! ### Sources of the matrix (R295, R296) -/

/-- PWM_TRIP_LATCH is live while a LATCH input is asserted (R310). -/
def State.latchTrips (s : State) : State :=
  (List.range 12).foldl (fun s c =>
    if (List.range 4).any (fun i => s.tripCfg c i % 4 == 2 && (s.tripLive c).getLsbD i) then s
    else s.condOff (0x030002 + 256 * c)) s

/-- TRIP_MATRIX_SOURCE (R295): sources 120 to 127 are never asserted. Source 118 raises KILL_INPUT (R305), source 119 gates the
PWMO pins (R131). The destinations follow; what they do is their own step. -/
def doTripMatrixSource (src : Fin 128) (level : Bool) (s : State) : State :=
  let n := src.val
  if 120 ≤ n then s
  else
    let s := s.sourceLevel n level
    let s := if n = 118 then (if level then s.condOn 0x0B0001 else s.condOff 0x0B0001) else s
    let s := if n = 119 ∧ level then [44, 45, 46, 47].foldl (fun s g => s.gatePins g true true) s else s
    s.latchTrips

/-! ### Kernel fault requests (R311) -/

/-- A store of FREQ by task t (R311). -/
def State.faultReq (s : State) (t : Nat) (cause : BitVec 8) : State :=
  match s.taskStage t with
  | some g =>
    if kindK cause.toNat then
      ({ s with flt := { s.flt with fsent := s.flt.fsent + 1 } } : State).report (0x080000 + 256 * g + cause.toNat)
    else { s with flt := { s.flt with frej := if s.flt.frej = 255 then 255 else s.flt.frej + 1 } }
  | none => { s with flt := { s.flt with frej := if s.flt.frej = 255 then 255 else s.flt.frej + 1 } }

/-! ### Injection (R307, R372) -/

/-- Refused outside factory test mode. -/
def State.needFactory (s : State) : Option Err := if s.boot.factory then none else some ⟨errRefused, 0⟩

/-- INJ_CODE (R307). -/
def doInjCode (q : Req) (code : BitVec 48) (s : State) : State :=
  s.dictWriteR q (mkKey 0xA 0x300 0) code.toNat 0 (fun _ => none) State.needFactory
    (fun s => (s.reportInj code.toNat).bump (mkKey 0xA 0x303 0) 65535)

/-- INJ_SOURCE (R307): an assertion ORed into a source for INJ_LEN; its fault is an injected report. -/
def doInjSource (q : Req) (src : BitVec 48) (s : State) : State :=
  let n := src.toNat
  s.dictWriteR q (mkKey 0xA 0x301 0) n 0 (fun _ => none)
    (fun s => if 120 ≤ n then some ⟨errRange, 0⟩ else s.needFactory)
    (fun s =>
      let s : State := { s with flt := { s.flt with injSrc := s.flt.injSrc ||| (1#128 <<< n) } }
      let s := match s.injFault n with
        | some c => s.reportInj c
        | none => s
      let s := if n = 119 then [44, 45, 46, 47].foldl (fun s g => s.gatePins g true true) s else s
      s.bump (mkKey 0xA 0x303 0) 65535)

/-- INJECTION_END (R307): the condition of its injected fault ends too. -/
def doInjectionEnd (src : Fin 128) (s : State) : State :=
  if s.flt.injSrc.getLsbD src then
    let u : State := { s with flt := { s.flt with injSrc := s.flt.injSrc &&& ~~~(1#128 <<< src.val) } }
    (match s.injFault src with
      | some c => u.condGone c true
      | none => u).latchTrips
  else s

end Sys2Proof.Machine
end

