-- ==== Sys2Proof/Machine/Images.lean ====
section
/-! DEFINITION. Kernel images in the user kernel store (R65, R341): their words, their parts, and which task uses which. -/

namespace Sys2Proof.Machine

/-- A word of the ferroelectric array as it is read (R329): an error of one bit is corrected, one of two bits delivers 0. -/
def State.fram (s : State) (a : Nat) : Word := if s.upset 2 a = 2 then 0 else Tab.get (fun _ => 0) s.mem.fram a

/-- Words of the ferroelectric array as they are read. -/
def State.framRange (s : State) (a n : Nat) : List Word :=
  if s.upsets 2 a n 2 = 0 then Tab.getRange (fun _ => 0) s.mem.fram a n else (List.range n).map (fun i => s.fram (a + i))

/-- The region of the ferroelectric array that an address lies in (R330). -/
def framRegion (a : Nat) : Nat :=
  if a < 0x10000 then 0 else if a < 0x20000 then 1 else if a < 0x60000 then 2 else if a < 0x68000 then 3
  else if a < 0x70000 then 4 else if a < 0x74000 then 5 else if a < 0x74100 then 6 else 7

/-- What a read of a run of the array does beside delivering it (R329): errors are counted and raised, the corrected ones at most once per 1 s. -/
def State.framRead (s : State) (a n : Nat) : State :=
  let c := s.upsets 2 a n 1
  let d := s.upsets 2 a n 2
  let g := 256 * framRegion a
  let s := s.whenS (c != 0) (fun s => (s.put 0xB 0x001 0 (min 65535 (s.en 0xB 0x001 0 + c))).every (0x0C0007 + g) 400000000)
  s.whenS (d != 0) (fun s => (s.put 0xB 0x002 0 (min 65535 (s.en 0xB 0x002 0 + d))).report (0x0C0008 + g))

/-- Words of the ferroelectric array are written. -/
def State.setFram (s : State) (a : Nat) (l : List Word) : State :=
  ({ s with mem := { s.mem with fram := Tab.setRange (fun _ => 0) s.mem.fram a l } } : State).heal 2 a l.length

/-- Runs of words are written. -/
def State.setRuns (s : State) (ws : List (Nat × List Word)) : State := ws.foldl (fun s (p : Nat × List Word) => s.setFram p.1 p.2) s

/-- A header or status block is written, or waits: for the second write of a record of the journal (R335), for those that wait already (R329), or for
the end of a deferral (R323). -/
def State.arrayWrite (s : State) (ws : List (Nat × List Word)) : State :=
  if s.deferring || s.nvm.writing || !s.nvm.blocks.isEmpty then
    let s := s.whenS s.deferring (·.deferOne 2)
    { s with nvm := { s.nvm with blocks := s.nvm.blocks ++ [ws] } }
  else s.setRuns ws

/-- The waiting blocks are written as far as they may; `n` bounds them. -/
def State.drainN : Nat → State → State
  | 0, s => s
  | n + 1, s =>
    match s.turn 2, s.nvm.blocks with
    | true, ws :: r => State.drainN n ((({ s with nvm := { s.nvm with blocks := r } } : State).begun 2).setRuns ws)
    | _, _ => s

/-- The waiting blocks are written as far as they may. -/
def State.drain (s : State) : State := s.drainN s.nvm.blocks.length

/-- Words of the array as they will read once the blocks that wait are written. -/
def State.framDue (s : State) (a n : Nat) : List Word :=
  let t := s.nvm.blocks.flatten.foldl (fun (m : Tab Word) (p : Nat × List Word) => Tab.setRange (fun _ => 0) m p.1 p.2) s.mem.fram
  if s.nvm.blocks.isEmpty then s.framRange a n else Tab.getRange (fun _ => 0) t a n

/-- A directory entry of the kernel store (R341). -/
def State.dirEntry (s : State) (kk : Nat) : List Word := s.framRange (0x20000 + 8 * kk) 8

/-- The directory entry is in use: its CRC holds and it names a kernel. -/
def State.dirUsed (s : State) (kk : Nat) : Bool :=
  let e := s.dirEntry kk
  decide (e.getD 0 0 ≠ 0) && decide (crc24 (e.take 7) = e.getD 7 0)

/-- The KERNEL_ID in a slot; 0 if it is free. -/
def State.kimgId (s : State) (kk : Nat) : Nat := if s.dirUsed kk then ((s.dirEntry kk).getD 0 0).toNat else 0

/-- The slot of a kernel. -/
def State.kimgSlot (s : State) (id : Nat) : Option Nat :=
  if id = 0 then none else (List.range 64).find? (fun kk => s.kimgId kk == id)

/-- The directory is read (R329). -/
def State.readDir (s : State) : State := s.framRead 0x20000 512

/-- The array address of the image in a slot. -/
def State.kimgBase (s : State) (kk : Nat) : Nat := 0x20000 + 256 * ((s.dirEntry kk).getD 2 0).toNat

/-- Word i of the image of a kernel; 0 without one. -/
def State.imgW (s : State) (id i : Nat) : Word :=
  match s.kimgSlot id with
  | some kk => s.fram (s.kimgBase kk + i)
  | none => 0

/-- Header word i of an image as a number (R65). -/
def State.hdr (s : State) (id i : Nat) : Nat := (s.imgW id i).toNat

/-- Where the subscriptions, the relocations, the code and the initial state begin. -/
def State.subAt (s : State) (id : Nat) : Nat := 16 + 3 * s.hdr id 10
/-- The relocation entries. -/
def State.relocAt (s : State) (id : Nat) : Nat := s.subAt id + s.hdr id 11
/-- The code. -/
def State.codeAt (s : State) (id : Nat) : Nat := s.relocAt id + s.hdr id 12
/-- The initial state. -/
def State.initAt (s : State) (id : Nat) : Nat := s.codeAt id + s.hdr id 4

/-- The directory, and an image up to its code, are read (R329). -/
def State.readHead (s : State) (id : Nat) : State :=
  match s.kimgSlot id with
  | some kk => s.readDir.framRead (s.kimgBase kk) (s.codeAt id)
  | none => s.readDir

/-- The port descriptors of an image. -/
def State.imgWins (s : State) (id : Nat) : List (Word × Word × Word) :=
  (List.range (s.hdr id 10)).map (fun i => (s.imgW id (16 + 3 * i), s.imgW id (17 + 3 * i), s.imgW id (18 + 3 * i)))

/-- The subscription descriptors of an image. -/
def State.imgSubs (s : State) (id : Nat) : List Word := (List.range (s.hdr id 11)).map (fun i => s.imgW id (s.subAt id + i))

/-- The relocation entries of an image. -/
def State.imgRelocs (s : State) (id : Nat) : List Word := (List.range (s.hdr id 12)).map (fun i => s.imgW id (s.relocAt id + i))

/-- STATE_LOCAL and SAFETY_OK. -/
def State.stateLocal (s : State) (id : Nat) : Bool := (s.hdr id 13).testBit 0
/-- SAFETY_OK: the image may be declared as SAFETY. -/
def State.safetyOk (s : State) (id : Nat) : Bool := (s.hdr id 13).testBit 1

/-! ### Tasks as declared -/

/-- A declaration of the task is in force: it names a kernel. -/
def State.taskOn (s : State) (t : Nat) : Bool := s.dc 2 0x010 t != 0

/-- The number of declared tasks (2.001). -/
def State.tasksDeclared (s : State) : Nat := ((List.range 96).filter s.taskOn).length

/-- The declared tasks of a stage. -/
def State.stageTasks (s : State) (g : Nat) : List Nat :=
  (List.range 96).filter (fun t => s.taskOn t && s.dc 2 0x012 t == g)

/-- The task in a slot of an engine: its own context or the target of its migration. -/
def State.slotTask (s : State) (e i : Nat) : Option Nat :=
  if h : i < 6 then ((s.eng e).slots[i]'h) else none

/-- The context in a slot is ready (R56): its activation has not ended and does not sleep. -/
def State.ready (s : State) (e i : Nat) : Bool :=
  (s.slotTask e i).isSome && (s.ctx (6 * e + i)).active && (s.ctx (6 * e + i)).sleep.isNone

/-- The absolute deadline of a task's activation (R58), in T48. -/
def State.deadline (s : State) (t : Nat) : BitVec 48 := BitVec.ofNat 48 ((s.task t).release + s.dc 2 0x016 t)

/-- Task a comes before task b (R56): the earlier absolute deadline, as T48 counts through its wrap, then the class, then the lower
number. -/
def State.runsBefore (s : State) (a b : Nat) : Bool :=
  let da := s.deadline a
  let db := s.deadline b
  (da - db).msb || (da == db && (decide (s.dc 2 0x011 a < s.dc 2 0x011 b) || (s.dc 2 0x011 a == s.dc 2 0x011 b && decide (a < b))))

/-- The task that an engine runs, and its slot: the first of its ready tasks (R56). -/
def State.running (s : State) (e : Nat) : Option (Nat × Nat) :=
  (List.range 6).foldl (fun (r : Option (Nat × Nat)) i =>
    match s.slotTask e i with
    | none => r
    | some t =>
      if s.ready e i then
        match r with
        | none => some (t, i)
        | some p => if s.runsBefore t p.1 then some (t, i) else r
      else r) none

/-- The slot of a task on an engine. -/
def State.slotOn (s : State) (t e : Nat) : Option Nat := (List.range 6).find? (fun i => s.slotTask e i == some t)

/-- The context key of a task on the engine that holds it. -/
def State.ctxKey (s : State) (t : Nat) : Nat := 6 * (s.task t).engine + (s.task t).slot

/-- The context of engine e in which a migration of t runs its shadow. -/
def State.isShadow (s : State) (t e : Nat) : Bool :=
  match (s.task t).mig with
  | some m => m.dst == e && (s.task t).engine != e
  | none => false

/-! ### The words of local data and of the tiles -/

/-- A word of a local address of engine e or of a tile, as a port address (R60). -/
def State.memWord (s : State) (e a : Nat) : Word :=
  if a < 0x2000 then Tab.get (fun _ => 0) s.mem.loc (8192 * e + a)
  else if 0x100000 ≤ a ∧ a < 0x180000 then Tab.get (fun _ => 0) s.mem.tile (a - 0x100000) else 0

/-- A word of local data or of a tile is written; any other address holds none. -/
def State.setMemWord (s : State) (e a : Nat) (v : Word) : State :=
  if a < 0x2000 then
    ({ s with mem := { s.mem with loc := Tab.set (fun _ => 0) s.mem.loc (8192 * e + a) v } } : State).heal 1 (8192 * e + a) 1
  else if 0x100000 ≤ a ∧ a < 0x180000 then
    { s with mem := { s.mem with tile := Tab.set (fun _ => 0) s.mem.tile (a - 0x100000) v } }
  else s

/-- A word of program memory. -/
def State.pmWord (s : State) (e a : Nat) : Word := Tab.get (fun _ => 0) s.mem.pm (8192 * e + a)

/-- Program words are written. -/
def State.setPm (s : State) (e a : Nat) (l : List Word) : State :=
  ({ s with mem := { s.mem with pm := Tab.setRange (fun _ => 0) s.mem.pm (8192 * e + a) l } } : State).heal 0 (8192 * e + a) l.length

/-- A read of `n` words of an engine's program memory (m = 0) or local data (m = 1) from `a` on (R59): none where one of them holds an error
of two bits; an error of one bit is corrected where it is stored (log entry 23), counted in ENG_ECC_CNT and raises MEM_ECC_CORR, the engine's last fault
(R69). -/
def State.eccRead (s : State) (e m a n : Nat) : Option State :=
  if s.upsets m (8192 * e + a) n 2 ≠ 0 then none
  else
    let k := s.upsets m (8192 * e + a) n 1
    some (if k = 0 then s
      else (((s.heal m (8192 * e + a) n).put 3 0x015 e (min 65535 (s.en 3 0x015 e + k))).put 3 0x014 e 9).report (0x010009 + 256 * e))

end Sys2Proof.Machine
end

