-- ==== Sys2Proof/Machine/Place.lean ====
section
/-! DEFINITION. Declaring and placing tasks (R71 to R79, R451), loading kernels (R67) and arming them (R74, R86). -/

namespace Sys2Proof.Machine

/-! ### Periods, budgets and densities (R72, R76) -/

/-- The period of a source in ticks: nominal PERIOD of a cluster, FT_PERIOD × 400 of a free timer. Of a cluster with SYNC it is the cluster's own
PERIOD entry all the same: DESIGN CHOICE (log entry 64). -/
def State.srcTicks (s : State) (src : Nat) : Nat :=
  if 128 ≤ src then s.en 2 0x060 (src - 128) * 400 else s.en 4 0x030 src

/-- The declaration in force of a task, by ENTRY number. -/
def State.inForce (s : State) (t e : Nat) : Nat := s.dc 2 e t

/-- The declaration that the entries of a task hold now. -/
def State.written (s : State) (t e : Nat) : Nat := s.en 2 e t

/-- The task period of a declaration, with the period of each source given (R72). -/
def declPeriod (d : Nat → Nat) (per : Nat → Nat) : Nat := d 0x014 * per (d 0x013)

/-- The budget of a declaration (R71). -/
def State.declBudget (s : State) (d : Nat → Nat) : Nat :=
  let w := s.hdr (d 0x010) 9
  if d 0x017 = 0 then w + w / 4 else d 0x017

/-- Commit-bound: a PWM binding with WRITE (R72). -/
def commitBound (d : Nat → Nat) : Bool :=
  (List.range 8).any (fun b => d (0x024 + b) / 2 ^ 20 == 1 && (d (0x024 + b)).testBit 19)

/-- The timing limit of R72. -/
def timingOk (d : Nat → Nat) (per : Nat → Nat) : Bool :=
  decide (1 ≤ d 0x016) && decide (d 0x015 + d 0x016 + (if commitBound d then 16 else 0) ≤ declPeriod d per)

/-- A task's density at f MHz as a fraction (R76): (budget + 8) / f over the lesser of deadline and period. -/
def State.share (s : State) (d : Nat → Nat) (per : Nat → Nat) (f : Nat) : Nat × Nat :=
  (400 * (s.declBudget d + 8), f * min (d 0x016) (declPeriod d per))

/-- The sum of fractions. -/
def fracSum (l : List (Nat × Nat)) : Nat × Nat := l.foldl (fun a b => (a.1 * b.2 + b.1 * a.2, a.2 * b.2)) (0, 1)

/-- One fraction is at most another. -/
def fracLe (a b : Nat × Nat) : Bool := decide (a.1 * b.2 ≤ b.1 * a.2)

/-- The tasks that an engine holds: placed or being loaded, and the targets of migrations; each once. -/
def State.engTasks (s : State) (e : Nat) : List Nat :=
  (List.range 96).filter (fun t =>
    ((s.task t).codeLen != 0 && (s.task t).engine == e)
      || (match (s.task t).mig with | some m => m.dst == e | none => false))

/-- The density of an engine at f MHz. -/
def State.densityAt (s : State) (e f : Nat) (per : Nat → Nat) (extra : List (Nat × Nat)) : Nat × Nat :=
  fracSum (extra ++ (s.engTasks e).map (fun t => s.share (s.inForce t) per f))

/-- An engine is feasible at f MHz with further shares (R76). -/
def State.feasible (s : State) (e f limit : Nat) (per : Nat → Nat) (extra : List (Nat × Nat)) : Bool :=
  fracLe (s.densityAt e f per extra) (limit, 100)

/-- The engines of a quad. -/
def quadEngines (q : Nat) : List Nat := [4 * q, 4 * q + 1, 4 * q + 2, 4 * q + 3]

/-- Every engine of a quad is feasible at a step. -/
def State.quadFeasible (s : State) (q f : Nat) : Bool :=
  f != 0 && (quadEngines q).all (fun e => s.feasible e f (s.en 2 0x054 0) s.srcTicks [])

/-- The step of a quad; 0 is off. -/
def State.step (s : State) (q : Nat) : Nat := s.en 2 0x040 q

/-- The frequency at which a placement on a quad is tested: its step, or QUAD_FMAX for one that is off (R77). -/
def State.testStep (s : State) (q : Nat) : Nat := if s.step q = 0 then s.en 2 0x041 q else s.step q

/-! ### Quad temperature (R83) -/

/-- The temperature of a quad in 1/16 °C; none if both sensors are SUSPECT. -/
def State.quadTemp (s : State) (q : Nat) : Option Int :=
  let a := s.sensor (2 * q)
  let b := s.sensor (2 * q + 1)
  match a.suspect, b.suspect with
  | false, false => some (max a.temp.toInt b.temp.toInt)
  | false, true => some a.temp.toInt
  | true, false => some b.temp.toInt
  | true, true => none

/-- The temperature as compared; a quad without a reading counts as at its throttle level, 145 °C. -/
def State.quadTempC (s : State) (q : Nat) : Int := (s.quadTemp q).getD 2320

/-! ### Room (R77, R78) -/

/-- Two runs of words overlap. -/
def overlap (a b : Nat × Nat) : Bool := decide (a.1 < b.1 + b.2) && decide (b.1 < a.1 + a.2)

/-- The lowest base of a free run of `len` words from `lo` to below `hi`. -/
def freeRun (used : List (Nat × Nat)) (lo len hi : Nat) : Option Nat :=
  let fits (b : Nat) : Bool := decide (lo ≤ b) && decide (b + len ≤ hi) && !(used.any (fun u => overlap u (b, len)))
  ((lo :: used.map (fun u => u.1 + u.2)).filter fits).foldl
    (fun (a : Option Nat) b => match a with | some x => some (min x b) | none => some b) none

/-- The code runs in use on an engine, but for task t's own. -/
def State.codeUsed (s : State) (e t : Nat) : List (Nat × Nat) :=
  (List.range 96).flatMap (fun u =>
    let x := s.task u
    (if x.codeLen ≠ 0 ∧ x.engine = e ∧ u ≠ t then [(x.code, x.codeLen)] else [])
      ++ (match x.mig with | some m => if m.dst = e then [(m.code, x.codeLen)] else [] | none => []))

/-- An address lies in local data. -/
def isLocal (a : Nat) : Bool := decide (a < 0x2000)

/-- The runs of local data in use on an engine: scratch and local state sections. -/
def State.localUsed (s : State) (e t : Nat) : List (Nat × Nat) :=
  (List.range 96).flatMap (fun u =>
    let x := s.task u
    let own := if x.codeLen ≠ 0 ∧ x.engine = e ∧ u ≠ t then
        (x.scratch, x.scratchLen) :: (if isLocal x.state then [(x.state, x.stateLen)] else []) else []
    own ++ (match x.mig with
      | some m => if m.dst = e then
          (m.scratch, x.scratchLen) :: (if isLocal m.twin then [(m.twin, x.stateLen)] else []) else []
      | none => []))

/-- The runs in use in the tiles, as offsets from 0x10_0000: state sections, twins, the blocks of receive maps (R420), and
the Referee's own area at the top of ST0 (R78). -/
def State.tileUsed (s : State) (t : Nat) : List (Nat × Nat) :=
  (0xFF00, 256) :: ((List.range 96).flatMap (fun u =>
    let x := s.task u
    (if x.codeLen ≠ 0 ∧ u ≠ t ∧ isLocal x.state = false then [(x.state - 0x100000, x.stateLen)] else [])
      ++ (match x.mig with
        | some m => if isLocal m.twin then [] else [(m.twin - 0x100000, x.stateLen)]
        | none => []))
    ++ (List.range 32).flatMap (fun m =>
      if s.en 0xE 0x004 m = 0 then [] else [(s.en 0xE 0x004 m - 0x100000, s.en 0xE 0x003 m)]))

/-- State words of SAFETY and CONTROL tasks in a tile. -/
def State.tileLoad (s : State) (k : Nat) : Nat :=
  ((List.range 96).map (fun u =>
    let x := s.task u
    if x.codeLen ≠ 0 ∧ s.dc 2 0x011 u ≤ 1 ∧ isLocal x.state = false ∧ (x.state - 0x100000) / 65536 = k
    then x.stateLen else 0)).sum

/-- A key joins a list ordered by rising load, then number. -/
def insLoad (p : Nat × Nat) : List (Nat × Nat) → List (Nat × Nat)
  | [] => [p]
  | q :: r => if p.1 < q.1 ∨ (p.1 = q.1 ∧ p.2 < q.2) then p :: q :: r else q :: insLoad p r

/-- A section of `len` words in a tile (R78): the tile with the fewest such words first; never across tiles. -/
def State.tileRun (s : State) (t len : Nat) : Option Nat :=
  let order := ((List.range 8).map (fun k => (s.tileLoad k, k))).foldr insLoad []
  order.findSome? (fun p => (freeRun (s.tileUsed t) (65536 * p.2) len (65536 * p.2 + 65536)).map (fun b => 0x100000 + b))

/-- Where scratch and state of a task go on an engine (R78): scratch base and state base, the runs `more` counted as in use. -/
def State.sections (s : State) (t e : Nat) (d : Nat → Nat) (more : List (Nat × Nat)) : Option (Nat × Nat) :=
  let id := d 0x010
  let used := more ++ s.localUsed e t
  let sl := s.hdr id 8
  let st := s.hdr id 6
  match freeRun used 0 sl 8192 with
  | none => none
  | some sc =>
    let used2 := (sc, sl) :: used
    let lcl := freeRun used2 0 st 8192
    let total := (used2.map (fun u => u.2)).sum + st
    if s.stateLocal id ∨ d 0x019 = 1 then lcl.map (fun b => (sc, b))
    else if d 0x019 = 0 ∧ total + 1024 ≤ 8192 ∧ lcl.isSome then lcl.map (fun b => (sc, b))
    else (s.tileRun t st).map (fun b => (sc, b))

/-- The mailboxes in use on an engine. -/
def State.mbUsed (s : State) (e t : Nat) : List Nat :=
  (List.range 96).flatMap (fun u =>
    let x := s.task u
    (if x.codeLen ≠ 0 ∧ x.engine = e ∧ u ≠ t then x.mboxes.filterMap id else [])
      ++ (match x.mig with | some m => if m.dst = e then m.mboxes.filterMap id else [] | none => []))

/-- A mailbox of an engine for each used input: the lowest free ones. None if four do not suffice. -/
def State.pickBoxes (s : State) (e t : Nat) (d : Nat → Nat) : Option (List (Option Nat)) :=
  let free := (List.range 4).filter (fun m => !(s.mbUsed e t).contains m)
  let inputs := (List.range 4).map (fun i => decide (d (0x020 + i) / 4096 ≠ 0))
  if (inputs.filter id).length ≤ free.length then
    some ((inputs.foldl (fun (a : List (Option Nat) × List Nat) u =>
      if u then (a.1 ++ [a.2.head?], a.2.tail) else (a.1 ++ [none], a.2)) ([], free)).1)
  else none

/-- A class in a quad for the rule of SAFETY and CONTROL (R77, R78). -/
def State.quadHas (s : State) (q t cls g : Nat) : Bool :=
  (List.range 96).any (fun u => u != t && (s.task u).codeLen != 0 && (s.task u).engine / 4 == q
    && s.dc 2 0x011 u == cls && s.dc 2 0x012 u == g)

/-- An engine is a candidate for a task as declared by d (R77); `k` counts its code and state (2 for a migration, R87). The
code, scratch and state each need one free run. -/
def State.candidate (s : State) (t e : Nat) (d : Nat → Nat) (k : Nat) : Bool :=
  let id := d 0x010
  let q := e / 4
  let cl := s.hdr id 4
  let others := (s.engTasks e).filter (fun u => u != t)
  let f := s.testStep q
  let sharing := d 0x012 < 12
  let extra := List.replicate (k - 1) (0, cl)
  (d 0x01A).testBit e
    && !(s.eng e).halted
    && decide (others.length + 1 ≤ 6)
    && decide (((s.codeUsed e t).map (fun u => u.2)).sum + k * cl ≤ 8192)
    && (freeRun (s.codeUsed e t) 0 cl 8192).isSome
    && (s.sections t e d []).isSome
    && extra.all (fun _ => (match s.sections t e d [] with
        | some p => decide (((s.localUsed e t).map (fun u => u.2)).sum + s.hdr id 8
            + (if isLocal p.2 then k * s.hdr id 6 else 0) ≤ 8192)
        | none => false))
    && (s.pickBoxes e t d).isSome
    && fracLe (fracSum (s.share d s.srcTicks f :: others.map (fun u => s.share (s.inForce u) s.srcTicks f))) (s.en 2 0x054 0, 100)
    && !(decide sharing && d 0x011 == 0 && s.quadHas q t 1 (d 0x012))
    && !(decide sharing && d 0x011 == 1 && s.quadHas q t 0 (d 0x012))

/-- The criteria 1 to 3 of R78, lower first. -/
def State.rankOf (s : State) (t e : Nat) (d : Nat → Nat) : List Int :=
  let q := e / 4
  [if d 0x011 = 1 ∧ d 0x012 < 12 ∧ s.quadHas q t 1 (d 0x012) then 0 else 1, if s.step q = 0 then 1 else 0, s.quadTempC q / 80]

/-- The density after placement, criterion 4. -/
def State.after (s : State) (t e : Nat) (d : Nat → Nat) : Nat × Nat :=
  let f := s.testStep (e / 4)
  fracSum (s.share d s.srcTicks f :: ((s.engTasks e).filter (fun u => u != t)).map (fun u => s.share (s.inForce u) s.srcTicks f))

/-- Engine a comes before a later engine b (R78). -/
def State.before (s : State) (t : Nat) (d : Nat → Nat) (a b : Nat) : Bool :=
  let ra := s.rankOf t a d
  let rb := s.rankOf t b d
  if ra = rb then fracLe (s.after t a d) (s.after t b d) else decide (ra < rb)

/-- The engine that R78 chooses among those that satisfy a test. -/
def State.choose (s : State) (t : Nat) (d : Nat → Nat) (p : Nat → Bool) : Option Nat :=
  ((List.range 16).filter p).foldl (fun (a : Option Nat) e =>
    match a with | none => some e | some b => if s.before t d b e then some b else some e) none

/-! ### Bindings, inputs and subscriptions (R71, R72, R451) -/

/-- A resource is held by the task's stage, by the base it borrows from (R283), or by no stage. -/
def State.heldOk (s : State) (holders : List Nat) (g : Nat) : Bool :=
  holders.isEmpty || holders.contains g || (decide (g < 12) && holders.contains (s.owner g))

/-- The present generation of a lane lacks a feature of generation `n` (R149); a lane without a generation lacks none. -/
def State.lacks (s : State) (l n : Nat) : Bool := (s.lane l).gen != 0 && decide ((s.lane l).gen < n)

/-- A binding is valid (R72). -/
def State.bindOk (s : State) (g b : Nat) : Bool :=
  let kind := b / 2 ^ 20
  let i := b % 65536
  decide (b / 65536 % 8 = 0) && (match kind with
    | 0 => true
    | 1 => decide (i < 12) && s.heldOk (s.clHolder i).toList g
    | 2 => decide (i < 32) && s.heldOk (s.genHolder i).toList g
    | 3 => decide (i < 4) && s.heldOk (s.bankStages i) g
    | 4 => decide (i ≤ 4)
    | 5 => decide (i < 32) && s.heldOk (s.genHolder i).toList g && !(s.lacks i 2)
    | 6 => decide (i < 48) && s.heldOk (s.named (s.en 7 0x066 i)).toList g
    | 7 => decide (i < 4) && s.heldOk (s.qeHolder i).toList g
    | 8 => i == 0
    | 9 => i == 0
    | 10 => decide (i < 96) && s.taskOn i
    | 11 => decide (i < 32)
    | _ => false)

/-- An input is valid (R72). -/
def State.inputOk (s : State) (g v : Nat) : Bool :=
  let i := v % 4096
  match v / 4096 with
  | 0 => true
  | 1 => decide (i < 32) && s.heldOk (s.named (s.en 7 0x024 i)).toList g
  | 2 => decide (i < 16) && s.heldOk (s.named (s.en 7 0x053 i)).toList g
      && (List.range 32).all (fun f => !((s.en 7 0x051 i).testBit f && s.lacks f 2))
  | 3 => decide (i < 32) && s.heldOk (s.genHolder i).toList g && !((s.en 5 0x030 i).testBit 1 && s.lacks i 3)
  | 4 => decide (i < 96)
  | 5 => true
  | _ => false

/-- The event that selector e of a binding names (R451). -/
def bindEvent (b e : Nat) : Option Nat :=
  let i := b % 65536
  match b / 2 ^ 20 with
  | 1 => if e < 8 then some (8 * i + e) else if e = 8 then some (96 + i) else if e = 9 then some (108 + i) else none
  | 2 => if e = 0 then some (192 + i) else if e = 1 then some (224 + i / 4) else none
  | 3 => if e < 3 then some (304 + 3 * i + e) else if e = 3 then some (316 + i) else if e = 4 then some (232 + i) else none
  | 4 => if i < 4 then (if e < 8 then some (128 + 8 * i + e) else none) else if e = 0 then some 188 else none
  | 6 => if e = 0 then some (176 + i / 4) else none
  | 7 => if e < 8 then some (256 + 8 * i + e) else none
  | 9 => if e < 8 then some (288 + e) else none
  | 11 => if e = 0 then some (412 + i) else none
  | _ => none

/-- The event of a subscription descriptor, with the mailbox of each input (R451). -/
def subEvent (d : Nat → Nat) (engine : Nat) (boxes : List (Option Nat)) (w : Word) : Option Nat :=
  let v := w.toNat % 512
  match w.toNat / 65536 % 16 with
  | 0 => some v
  | 1 => (boxes.getD v none).map (fun m => 320 + 4 * engine + m)
  | 2 => bindEvent (d (0x024 + v % 8)) (v / 8)
  | _ => none

/-- The subscriptions of an image agree with a declaration (R451). -/
def State.subsOk (s : State) (d : Nat → Nat) : Bool :=
  (s.imgSubs (d 0x010)).all (fun w =>
    let v := w.toNat % 512
    match w.toNat / 65536 % 16 with
    | 0 => true
    | 1 => decide (v < 4) && decide (d (0x020 + v) / 4096 ≠ 0)
    | 2 => (bindEvent (d (0x024 + v % 8)) (v / 8)).isSome
    | _ => false)

/-- The software events that a TASK_SEV opens: BASE and COUNT. -/
def sevRange (v : Nat) : Nat × Nat := (v % 64, v / 256)

/-- The TASK_SEV range lies in 0 to 63 and overlaps no other declared task's range (R72). -/
def State.sevOk (s : State) (t v : Nat) : Bool :=
  let r := sevRange v
  decide (v / 64 % 4 = 0) && decide (r.2 ≤ 8) && decide (r.1 + r.2 ≤ 64)
    && (List.range 96).all (fun u => u == t || !s.taskOn u || r.2 == 0 || (sevRange (s.dc 2 0x01B u)).2 == 0
      || !overlap r (sevRange (s.dc 2 0x01B u)))

/-- The first failing check of R72 as the code of TASK_REFUSE (R400). -/
def State.refuseTask (s : State) (t : Nat) : Option Nat :=
  let d := s.written t
  let id := d 0x010
  let g := d 0x012
  let src := d 0x013
  if s.taskOn t = false ∧ 96 ≤ s.tasksDeclared then some 1
  else if (s.kimgSlot id).isNone then some 2
  else if s.en 3 0x023 ((s.kimgSlot id).getD 0) ≠ 1 then some 3
  else if d 0x011 = 0 ∧ s.safetyOk id = false then some 4
  else if g ≠ 0xFF ∧ (s.named g).isNone then some 5
  else if ¬ (src / 16 % 8 = 0 ∧ (if 128 ≤ src then s.srcTicks src ≠ 0 ∧ d 0x014 = 1 else src < 12)
      ∧ 1 ≤ d 0x014 ∧ d 0x014 ≤ 64) then some 6
  else if timingOk d s.srcTicks = false then some 7
  else if s.declBudget d < s.hdr id 9 then some 8
  else if ¬ ((List.range 8).all (fun b => s.bindOk g (d (0x024 + b))) ∧ (List.range 4).all (fun i => s.inputOk g (d (0x020 + i)))
      ∧ s.subsOk d) then some 9
  else if s.sevOk t (d 0x01B) = false then some 10
  else if (s.task t).pinned then some 11
  else if (s.choose t d (fun e => s.candidate t e d 1)).isNone then some 12
  else none

/-! ### Assigning and freeing -/

/-- A slot of an engine takes a task, or none. -/
def State.setSlot (s : State) (e i : Nat) (t : Option Nat) : State :=
  s.setEng e { s.eng e with slots := (s.eng e).slots.setIfInBounds i t }

/-- The mailboxes of a list are assigned to the inputs of a declaration. -/
def State.assignBoxes (s : State) (e : Nat) (d : Nat → Nat) (boxes : List (Option Nat)) : State :=
  (boxes.zipIdx).foldl (fun s (p : Option Nat × Nat) =>
    match p.1 with
    | some m =>
      let v := d (0x020 + p.2)
      s.setMb (4 * e + m) { Mbox.empty with kind := BitVec.ofNat 4 (v / 4096 - 1), inst := BitVec.ofNat 8 v, assigned := true }
    | none => s) s

/-- The mailboxes of a list are free again. -/
def State.freeBoxes (s : State) (e : Nat) (boxes : List (Option Nat)) : State :=
  (boxes.filterMap id).foldl (fun s m => s.setMb (4 * e + m) Mbox.empty) s

/-- A task is given an engine: slot, code run and sections; it is not placed before its code is loaded. -/
def State.assign (s : State) (t e : Nat) : State :=
  let d := s.inForce t
  let id := d 0x010
  match freeRun (s.codeUsed e t) 0 (s.hdr id 4) 8192, s.sections t e d [], s.pickBoxes e t d,
    (List.range 6).find? (fun i => (s.slotTask e i).isNone) with
  | some c, some p, some boxes, some i =>
    (s.setTask t { s.task t with
      engine := e, slot := i, code := c, codeLen := s.hdr id 4, entry := s.hdr id 5
      scratch := p.1, scratchLen := s.hdr id 8, state := p.2, stateLen := s.hdr id 6
      wins := s.imgWins id, subs := s.imgSubs id, mboxes := boxes }).setSlot e i (some t)
  | _, _, _, _ => s

/-- A migration ends without takeover: the target's words, slot and mailboxes are free. -/
def State.dropMig (s : State) (t : Nat) : State :=
  match (s.task t).mig with
  | some m =>
    let s := if m.copied then s.freeBoxes m.dst m.mboxes else s
    ((s.setSlot m.dst m.slot none).setCtx (6 * m.dst + m.slot) Ctx.zero).setTask t { s.task t with mig := none }
  | none => s

/-- A task loses its engine: its words, slot and mailboxes are free. -/
def State.unplace (s : State) (t : Nat) : State :=
  let s := s.dropMig t
  let x := s.task t
  if x.codeLen = 0 then s
  else
    let s := if x.placed then s.freeBoxes x.engine x.mboxes else s
    let s := (s.setSlot x.engine x.slot none).setCtx (6 * x.engine + x.slot) Ctx.zero
    let s : State := { s with due := s.due.filter (fun u => u != t) }
    let y : TaskRt := { TaskRt.none with aborts := x.aborts, mismatches := x.mismatches, lastMig := x.lastMig, lastTry := x.lastTry }
    ((s.setTask t y).put 2 0x033 t 0).put 2 0x034 t 0xFF

/-! ### Loading (R67) -/

/-- Code words that one step of a placement job loads. -/
def loadChunk : Nat := 136

/-- One relocation (R65). -/
def relocate (ty code state scratch : Nat) (w : Word) : Word :=
  match ty with
  | 0 => BitVec.ofNat 24 (w.toNat / 8192 * 8192 + (w.toNat % 8192 + code) % 8192)
  | 1 => w + BitVec.ofNat 24 state
  | 2 => w + BitVec.ofNat 24 scratch
  | _ => w

/-- Code word i of an image with every relocation applied. -/
def State.codeWord (s : State) (id code state scratch i : Nat) : Word :=
  (s.imgRelocs id).foldl (fun w r => if r.toNat % 8192 = i then relocate (r.toNat / 2 ^ 22) code state scratch w else w)
    (s.imgW id (s.codeAt id + i))

/-- No relocated CODE13 target reaches 8192. -/
def State.targetsOk (s : State) (id code : Nat) : Bool :=
  (s.imgRelocs id).all (fun r =>
    r.toNat / 2 ^ 22 != 0 || decide ((s.imgW id (s.codeAt id + r.toNat % 8192)).toNat % 8192 + code < 8192))

/-- A chunk of code from word `pc` on is loaded into an engine. -/
def State.loadCode (s : State) (id e code state scratch pc : Nat) : State :=
  (s.framRead ((s.kimgSlot id).elim 0 s.kimgBase + s.codeAt id + pc) (min loadChunk (s.hdr id 4 - pc))).setPm e (code + pc)
    ((List.range (min loadChunk (s.hdr id 4 - pc))).map (fun i => s.codeWord id code state scratch (pc + i)))

/-! ### Arming (R67, R74, R86) -/

/-- The initial state is written into the state section. -/
def State.initState (s : State) (t : Nat) : State :=
  let x := s.task t
  let id := s.dc 2 0x010 t
  let s := s.framRead ((s.kimgSlot id).elim 0 s.kimgBase + s.initAt id) (min x.stateLen (s.hdr id 7))
  (List.range x.stateLen).foldl (fun s i =>
    s.setMemWord x.engine (x.state + i) (if i < s.hdr id 7 then s.imgW id (s.initAt id + i) else 0)) s

/-- A task is armed for the first time since its placement: its initial state is written; a SAFETY task is pinned. -/
def State.armTask (s : State) (t : Nat) : State :=
  let x := s.task t
  if x.placed = false ∨ x.armed then s
  else (s.initState t).setTask t { x with armed := true, pinned := x.pinned || s.dc 2 0x011 t == 0 }

/-- A stage's transition to ARMED arms its tasks. -/
def State.armTasks (s : State) (g : Nat) : State := (s.stageTasks g).foldl (fun s t => s.armTask t) s

/-- The end of a placement (R67, R74). -/
def State.placed (s : State) (t : Nat) : State :=
  let x := s.task t
  let s := s.assignBoxes x.engine (s.inForce t) x.mboxes
  let s := s.setTask t { x with placed := true, armed := false }
  let s := ((((s.put 2 0x031 t 2).put 2 0x032 t 0).put 2 0x033 t x.state).put 2 0x034 t x.engine).put 2 0x035 t 0
  match s.taskStage t with
  | none => s.armTask t
  | some g => if (s.stg g).st.live then s.armTask t else s

/-! ### The placement job (R79) -/

/-- The order in which tasks are placed: class, period, number. -/
def State.placeBefore (s : State) (a b : Nat) : Bool :=
  let k (t : Nat) : List Nat := [s.dc 2 0x011 t, declPeriod (s.inForce t) s.srcTicks, t]
  decide (k a < k b)

/-- A task joins a list in the order of R79. -/
def State.insPlace (s : State) (t : Nat) : List Nat → List Nat
  | [] => [t]
  | u :: r => if s.placeBefore t u then t :: u :: r else u :: s.insPlace t r

/-- The steps that placing tasks is expected to take. -/
def State.placeSteps (s : State) (ts : List Nat) : Nat :=
  (ts.map (fun t => 1 + (s.hdr (s.dc 2 0x010 t) 4 + loadChunk - 1) / loadChunk)).sum

/-- A placement job for tasks starts (R79). -/
def State.placeJob (s : State) (ts : List Nat) : State :=
  if ts.isEmpty then s
  else
    let l := ts.foldr s.insPlace []
    s.startOwnJob .place 0 (l.map (fun t => BitVec.ofNat 24 t)) l.length (s.placeSteps l) (mkKey 2 0x030 (l.headD 0))

/-- The declaration that the entries hold comes into force. -/
def State.snapTask (s : State) (t : Nat) : State :=
  (List.range 0x1C).foldl (fun s e => s.putDecl (mkKey 2 (0x010 + e) t) (s.en 2 (0x010 + e) t)) s

/-- The declaration of a task ends. -/
def State.dropTask (s : State) (t : Nat) : State :=
  let s := (s.unplace t).setTask t TaskRt.none
  let s := s.clearDecl ((List.range 0x1C).map (fun e => mkKey 2 (0x010 + e) t))
  (s.put 2 0x031 t 0).put 2 0x032 t 0

/-- A declaration is taken: DECLARED, to be placed. -/
def State.takeTask (s : State) (t : Nat) : State := (((s.dropTask t).snapTask t).put 2 0x031 t 1).put 2 0x032 t 0

/-- TASK_DECLARE (R72): refused with its reason, or taken and placed by a job. -/
def doTaskDeclare (q : Req) (t : Fin 96) (s : State) : State :=
  let k := mkKey 2 0x030 t
  s.serve q opWrite k 0 (fun s =>
    match s.writeCheck q.ses.val k 0 0 none with
    | .error e => s.refuse q opWrite k e
    | .ok _ =>
      let s := s.readHead (s.en 2 0x010 t)
      match s.refuseTask t with
      | some r =>
        let s := (s.put 2 0x032 t r).whenS (!s.taskOn t) (·.put 2 0x031 t 6)
        s.refuse q opWrite k ⟨errRefused, r⟩
      | none =>
        if s.freeSlot.isNone then s.refuse q opWrite k ⟨errBusy, 0⟩
        else ((s.takeTask t).placeJob [t.val]).respond q opWrite 0 0 k (statusBody 0 false 0))

/-- TASK_REMOVE (R100): refused while the bound stage is ARMED, RUN or RAMPDOWN. -/
def doTaskRemove (q : Req) (t : Fin 96) (s : State) : State :=
  s.dictWriteR q (mkKey 2 0x030 t) 1 0 (fun s => s.liveStage (s.taskStage t)) (fun _ => none) (fun s => s.dropTask t)

/-- A task could not be placed. -/
def State.notPlaced (s : State) (t reason : Nat) : State := (s.put 2 0x031 t 6).put 2 0x032 t reason

/-- The next task of a placement job. -/
def State.placeNext (s : State) (slot : Nat) (j : Job) : State :=
  let r := j.data.tail
  if r.isEmpty then s.endJob slot 4 0 else s.setJob slot { j with data := r, pc := 0, arg := 0 }

/-- The tasks of a stage whose declaration changed that hold no engine are placed (R79). -/
def State.placeStage (s : State) (g : Nat) : State := s.placeJob ((s.stageTasks g).filter (fun t => (s.task t).codeLen == 0))

/-- A placement job waits while the quad of its task's engine is not on (R80). -/
def State.placeReady (s : State) (j : Job) : Bool :=
  let x := s.task (j.data.headD 0).toNat
  match x.mig with
  | some m => s.step (m.dst / 4) != 0
  | none => x.codeLen == 0 || s.step (x.engine / 4) != 0

/-- A step of a placement job (R67, R78, R79): it chooses an engine, or loads code; `ok` is the readback. A load on an engine that debug access
halts ends, and the next candidate is taken (R68). -/
def State.placeStep (s : State) (slot : Nat) (j : Job) (ok : Bool) : State :=
  let t := (j.data.headD 0).toNat
  let x := s.task t
  let id := s.dc 2 0x010 t
  if s.taskOn t = false then s.placeNext slot j
  else match x.mig with
    | some m =>
      let s := s.loadCode id m.dst m.code m.twin m.scratch j.pc
      if j.pc + loadChunk < x.codeLen then s.setJob slot { j with pc := j.pc + loadChunk }
      else if ok ∧ s.targetsOk id m.code then
        (s.setTask t { x with mig := some { m with loaded := true } }).placeNext slot j
      else
        let s := (s.dropMig t).report (0x020003 + 256 * t)
        (s.setTask t { s.task t with lastTry := some s.t48.toNat }).placeNext slot j
    | none =>
      if x.placed then s.placeNext slot j
      else if x.codeLen = 0 then
        let d := s.inForce t
        match s.choose t d (fun e => !(j.arg.testBit e) && s.candidate t e d 1) with
        | some e => s.assign t e
        | none => (s.notPlaced t (if j.arg = 0 then 12 else 13)).placeNext slot j
      else if (s.eng x.engine).halted then (s.unplace t).setJob slot { j with pc := 0, arg := j.arg + 2 ^ x.engine }
      else
        let s := s.loadCode id x.engine x.code x.state x.scratch j.pc
        if j.pc + loadChunk < x.codeLen then s.setJob slot { j with pc := j.pc + loadChunk }
        else if ok ∧ s.targetsOk id x.code then (s.placed t).placeNext slot j
        else (s.unplace t).setJob slot { j with pc := 0, arg := j.arg + 2 ^ x.engine }

/-! ### Refusals that a change of period or of a limit meets (R75, R81, R100) -/

/-- The placed tasks on a source pass R72 and R76 with another period of it. -/
def State.periodFits (s : State) (src ticks : Nat) : Bool :=
  let per (x : Nat) : Nat := if x = src then ticks else s.srcTicks x
  let ts := (List.range 96).filter (fun t => (s.task t).codeLen != 0 && s.dc 2 0x013 t == src)
  ts.all (fun t => decide (0 < ticks) && timingOk (s.inForce t) per
    && s.feasible (s.task t).engine (s.testStep ((s.task t).engine / 4)) (s.en 2 0x054 0) per [])

/-- Every placed engine is feasible under another DENSITY_MAX. -/
def State.densityFits (s : State) (v : Nat) : Bool :=
  (List.range 16).all (fun e => s.feasible e (s.testStep (e / 4)) v s.srcTicks [])

end Sys2Proof.Machine
end

