-- ==== Sys2Proof/Machine/Referee.lean ====
section
/-! DEFINITION. The Referee (R70, R80 to R93): quad clocks, power and temperature, relief, shedding and restoring, migration,
and derating. -/

namespace Sys2Proof.Machine

/-- 100 ms in ticks. -/
def ms100 : Nat := 40000000

/-- The Referee runs in IDLE, OPERATIONAL and SAFE (R70). -/
def State.refRuns (s : State) : Bool := s.dev == devIdle || s.dev == devOperational || s.dev == devSafe

/-- The shed states and the release condition of a task that is active (R85, R100). -/
def State.active (s : State) (t : Nat) : Bool := s.mayRelease t

/-- TASK_STATUS (2.031): FREE 0, DECLARED 1, PLACED 2, ACTIVE 3, SHED 4, MIGRATING 5, REFUSED 6. -/
def State.taskStatus (s : State) (t : Nat) : Nat :=
  let x := s.task t
  if x.placed = false then s.en 2 0x031 t
  else if x.mig.isSome then 5 else if x.shed then 4 else if s.active t then 3 else 2

/-! ### Quad clocks (R80, R81) -/

/-- Typical power of a quad at a step, mW (R80). -/
def stepPower (f : Nat) : Nat := if f = 400 then 325 else if f = 300 then 205 else if f = 200 then 120 else if f = 100 then 55 else 3

/-- Less than 100 ms have passed since a quad's last change. -/
def State.recent (s : State) (q : Nat) : Bool := (s.quad q).lastChange.any (fun a => decide (s.since a < ms100))

/-- A quad takes a step. -/
def State.setStep (s : State) (q f : Nat) : State :=
  let up := decide (s.step q < f)
  (s.put 2 0x040 q f).setQuad q { s.quad q with lastChange := some s.t48.toNat, lastUp := up }

/-- A migration of this quad is in its shadow period (R81). -/
def State.inShadow (s : State) (q : Nat) : Bool :=
  (List.range 96).any (fun t => match (s.task t).mig with
    | some m => m.shadow && ((s.task t).engine / 4 == q || m.dst / 4 == q)
    | none => false)

/-- A quad is on and holds a task or a load. -/
def State.quadBusy (s : State) (q : Nat) : Bool := (quadEngines q).any (fun e => !(s.engTasks e).isEmpty)

/-- A quad can go one step lower (R81). -/
def State.canLower (s : State) (q : Nat) : Bool :=
  let f := s.step q
  decide (200 ≤ f) && decide (s.en 2 0x042 q + 100 ≤ f) && s.quadFeasible q (f - 100) && !((s.quad q).lastUp && s.recent q) && !s.inShadow q

/-- A quad can go one step higher. -/
def State.canRaise (s : State) (q : Nat) : Bool :=
  let f := s.step q
  decide (100 ≤ f) && decide (f + 100 ≤ s.en 2 0x041 q) && (decide ((s.quad q).lastUp) || !s.recent q) && !s.inShadow q

/-- A quad is switched off: its program and local memories are lost (R80). -/
def State.quadOff (s : State) (q : Nat) : State :=
  let keep (l : Tab Word) : Tab Word := l.filter (fun (p : Nat × Word) => p.1 / 8192 / 4 != q)
  let up : Tab Nat := s.mem.upset.filter (fun (p : Nat × Nat) => decide (2 ^ 21 ≤ p.1) || p.1 % 2 ^ 20 / 8192 / 4 != q)
  let m : Mem := { s.mem with pm := keep s.mem.pm, loc := keep s.mem.loc, upset := up }
  ({ s with mem := m } : State).setStep q 0

/-- QUAD_SWITCH_ON (R80): a quad that is off and on which a task is being placed reaches QUAD_FMAX, not within 100 ms of its switching off
(R81). -/
def doQuadSwitchOn (quad : Fin 4) (s : State) : State :=
  if s.step quad = 0 ∧ s.quadBusy quad ∧ s.recent quad = false then s.setStep quad (s.en 2 0x041 quad) else s

/-- QUAD_FMAX (R81): refused below QUAD_FMIN, or where an engine of the quad would be infeasible at the new highest step. -/
def doQuadFmax (q : Req) (quad : Fin 4) (v : BitVec 48) (s : State) : State :=
  s.dictWriteR q (mkKey 2 0x041 quad) v.toNat 0 (fun _ => none)
    (fun s => if v.toNat < s.en 2 0x042 quad ∨ ((quadEngines quad).any (fun e => !(s.engTasks e).isEmpty) ∧
        s.quadFeasible quad v.toNat = false) then some ⟨errRefused, 0⟩ else none) id

/-! ### Power and temperature (R82, R83) -/

/-- ENG_BUSY of the engines of a quad, summed, in percent. -/
def State.busySum (s : State) (q : Nat) : Nat := ((quadEngines q).map (fun e => s.en 3 0x012 e)).sum

/-- A step's power scaled by 0.25 + 0.75 × B (R82). -/
def State.scaled (s : State) (q p : Nat) : Nat := p * (400 + 3 * s.busySum q) / 1600

/-- The power term of a quad. -/
def State.quadPower (s : State) (q : Nat) : Nat := if s.step q = 0 then 3 else s.scaled q (stepPower (s.step q))

/-- The device power estimate (R82), each term rounded down to mW. -/
def State.powerEst (s : State) : Nat :=
  let quads := ((List.range 4).map s.quadPower).sum
  let lanes := 31 * ((List.range 32).filter (fun l => (s.lane l).st == .active || (s.lane l).st == .holdOnly)).length
  let hot := s.mon.maxC.1.toInt
  quads + lanes + 1500 + (if s.mon.maxC.2 = 0xFF then 0 else ((hot - 1360) / 2).toNat) + s.en 2 0x053 0 * s.en 6 0x002 0 * 12 / 100

/-- Warning and throttle of a quad (R83): entered at the level, left below the level less 5 °C. After both sensors were SUSPECT the quad counts as having
reached its level, so a temperature between the two keeps it: DESIGN CHOICE (log entry 60). -/
def State.quadLevels (s : State) (q : Nat) : State :=
  let x := s.quad q
  let lvl (held : Bool) (at_ : Int) : Bool := match s.quadTemp q with
    | none => true
    | some t => decide (at_ ≤ t) || (held && decide (at_ - 80 ≤ t))
  s.setQuad q { x with warn := lvl x.warn 2160, throttle := lvl x.throttle 2320 }

/-- ENG_BUSY is formed each round (R69): the percentage that the cycles held by tasks are of the cycles clocked, over the last 100 rounds. -/
def State.measureBusy (s : State) : State :=
  (List.range 16).foldl (fun s e =>
    let g := s.eng e
    let all := 1000 * s.step (e / 4)
    let l := if all = 0 then [] else ((min g.held all, all) :: g.busy).take 100
    let held := (l.map (fun p => p.1)).sum
    let total := (l.map (fun p => p.2)).sum
    (s.setEng e { g with held := 0, busy := l }).put 3 0x012 e (if total = 0 then 0 else 100 * held / total)) s

/-! ### Shedding (R85) -/

/-- A task is shed (R85): a release that has not begun yet is dropped, so that a restored task is released from the next event on. -/
def State.shedTask (s : State) (t : Nat) (supply : Bool) : State :=
  let x := s.task t
  if x.shed then s
  else ((({ s with due := s.due.filter (· != t) } : State).setTask t { x with shed := true, supplyShed := supply }).bump (mkKey 2 0x037 t) 65535).report (0x020001 + 256 * t)

/-- A task is restored. -/
def State.restoreTask (s : State) (t : Nat) : State :=
  (s.setTask t { s.task t with shed := false, supplyShed := false, aborts := 0 }).report (0x020002 + 256 * t)

/-- Every OPTIMISE and BACKGROUND task is shed (R323). -/
def State.shedAll (s : State) : State :=
  (List.range 96).foldl (fun s t => if (s.task t).placed ∧ 2 ≤ s.dc 2 0x011 t then s.shedTask t true else s) s

/-- Which of two shed candidates goes first: the lower rank, then the higher number. -/
def State.shedFirst (s : State) (l : List Nat) : Option Nat :=
  l.foldl (fun (a : Option Nat) t => match a with
    | none => some t
    | some u => if s.dc 2 0x018 t ≤ s.dc 2 0x018 u then some t else some u) none

/-- Which shed task is restored first: the higher rank, then the lower number. -/
def State.restoreFirst (s : State) (l : List Nat) : Option Nat :=
  l.foldl (fun (a : Option Nat) t => match a with
    | none => some t
    | some u => if s.dc 2 0x018 u < s.dc 2 0x018 t then some t else some u) none

/-- The tasks of a class placed in a scope of quads. -/
def State.scopeTasks (s : State) (scope : List Nat) (cls : Nat) : List Nat :=
  (List.range 96).filter (fun t => (s.task t).placed && scope.contains ((s.task t).engine / 4) && s.dc 2 0x011 t == cls)

/-- A task's estimate: its density share times the quad's power at its step, rounded down (R84). -/
def State.estimate (s : State) (t : Nat) : Nat :=
  let q := (s.task t).engine / 4
  let sh := s.share (s.inForce t) s.srcTicks (s.testStep q)
  sh.1 * stepPower (s.step q) / sh.2

/-! ### Migration (R87 to R90) -/

/-- The conditions of R87 that do not name the target. -/
def State.mayMigrate (s : State) (t : Nat) : Bool :=
  let x := s.task t
  let long (o : Option Nat) (n : Nat) : Bool := match o with | some a => decide (n ≤ s.since a) | none => true
  x.placed && x.mig.isNone && !x.pinned && !(s.eng x.engine).halted && decide (s.freeSlot.isSome)
    && (match s.dc 2 0x011 t with
      | 1 => (match s.taskStage t with | some g => (s.stg g).st == .armed || (s.stg g).st == .run | none => false)
          && decide (x.mismatches < 3)
      | 0 => false
      | _ => true)
    && long x.lastMig ms100 && long x.lastTry (10 * ms100)

/-- An engine outside the task's quad that can take a migration: R77 (with no words of the task's own
left out: 96 is no task), for a CONTROL task with code and state counted twice and a quad at least 10 °C cooler. -/
def State.migTarget (s : State) (t e : Nat) : Bool :=
  let x := s.task t
  let ctl := s.dc 2 0x011 t == 1
  e / 4 != x.engine / 4 && s.candidate 96 e (s.inForce t) (if ctl then 2 else 1)
    && (!ctl || decide (s.quadTempC (e / 4) + 160 ≤ s.quadTempC (x.engine / 4)))

/-- The target R78 chooses. -/
def State.migChoice (s : State) (t : Nat) : Option Nat := s.choose t (s.inForce t) (s.migTarget t)

/-- The target of a migration holds the task (R88, R90). -/
def State.reserveMig (s : State) (t e : Nat) : State :=
  let x := s.task t
  let d := s.inForce t
  match freeRun (s.codeUsed e 96) 0 x.codeLen 8192, s.sections 96 e d [], s.pickBoxes e 96 d,
    (List.range 6).find? (fun i => (s.slotTask e i).isNone) with
  | some c, some p, some boxes, some i =>
    let m : Mig := { dst := e, slot := i, code := c, scratch := p.1, twin := p.2, mboxes := boxes, pend := 0
                     shadowless := decide (2 ≤ s.dc 2 0x011 t), loaded := false, seen := false, copying := false, copied := false
                     shadow := false, skips := 0, yieldA := false, yieldB := false, capA := [], capB := [], stA := [], stB := []
                     verdict := none }
    (s.setTask t { x with mig := some m }).setSlot e i (some t)
  | _, _, _, _ => s

/-- A migration starts: a placement job loads the code. -/
def State.startMig (s : State) (t e : Nat) : State :=
  let s := s.reserveMig t e
  if (s.task t).mig.isSome then s.placeJob [t] else s

/-- A migration is abandoned (R89): MIGRATE_ABORT, or MIGRATE_MISMATCH, and the source stays live. -/
def State.abortMig (s : State) (t : Nat) (mismatch : Bool) : State :=
  match (s.task t).mig with
  | none => s
  | some _ =>
    let s := s.dropMig t
    let x := s.task t
    (s.setTask t { x with lastTry := some s.t48.toNat, mismatches := if mismatch then x.mismatches + 1 else x.mismatches }).report
      ((if mismatch then 0x020004 else 0x020003) + 256 * t)

/-- Migrations of a stage's tasks are abandoned when the stage leaves ARMED or RUN (R89). -/
def State.abortStageMigs (s : State) (g : Nat) : State :=
  (s.stageTasks g).foldl (fun s t => match (s.task t).mig with
    | some m => if m.shadowless then s else s.abortMig t false
    | none => s) s

/-- STATE_COPY_DONE (R88): the state section is copied to the twin and the mirror is armed: the target's mailboxes take the
records of the inputs, SEQ and OVR preset to the source's, and its subscriptions are those pending. -/
def doStateCopyDone (t : Fin 96) (s : State) : State :=
  let x := s.task t
  match x.mig with
  | none => s
  | some m =>
    if m.copying = false then s
    else
      let s := (List.range x.stateLen).foldl (fun s i => s.setMemWord m.dst (m.twin + i) (s.memWord x.engine (x.state + i))) s
      let s := s.assignBoxes m.dst (s.inForce t) m.mboxes
      let s := (x.mboxes.zip m.mboxes).foldl (fun s (p : Option Nat × Option Nat) =>
        match p with
        | (some a, some b) =>
          let src := s.mb (4 * x.engine + a)
          s.setMb (4 * m.dst + b) { s.mb (4 * m.dst + b) with seq := src.seq, ovr := src.ovr }
        | _ => s) s
      s.setTask t { x with mig := some { m with copying := false, copied := true, pend := x.pend } }

/-- The CRC-24 over an engine's stores to its state section (R88): offset and value of each, in order. -/
def storeCrc (l : List (Nat × Word)) : Word := crc24 (l.flatMap (fun p => [BitVec.ofNat 24 p.1, p.2]))

/-- The verdict once both activations have ended (R88): MATCH, or the migration is abandoned with MISMATCH. -/
def State.migVerdict (s : State) (t : Nat) : State :=
  let x := s.task t
  match x.mig with
  | some m =>
    if m.shadow ∧ m.yieldA ∧ m.yieldB then
      if m.capA = m.capB ∧ storeCrc m.stA = storeCrc m.stB then s.setTask t { x with mig := some { m with verdict := some true } }
      else s.abortMig t true
    else s
  | none => s

/-- Takeover (R88, R90): the target becomes live on the twin state; the source's context, words and mailboxes are free. -/
def State.takeover (s : State) (t : Nat) : State :=
  let x := s.task t
  match x.mig with
  | none => s
  | some m =>
    let s := s.freeBoxes x.engine x.mboxes
    let s := (s.setSlot x.engine x.slot none).setCtx (6 * x.engine + x.slot) Ctx.zero
    let s := s.setTask t { x with engine := m.dst, slot := m.slot, code := m.code, scratch := m.scratch, state := m.twin
                                  mboxes := m.mboxes, pend := m.pend, mig := none, lastMig := some s.t48.toNat }
    ((s.put 2 0x033 t m.twin).put 2 0x034 t m.dst).bump (mkKey 2 0x036 t) 65535

/-! ### Relief and restore (R84) -/

/-- REFEREE_STATE (2.002): STOPPED 0, PLACING 1, STEADY 2, RELIEVING 3, RESTORING 4, the last three as the last round left it. -/
def State.refState (s : State) : Nat :=
  if s.refRuns = false then 0
  else if s.ref.job.any (fun (p : Nat × Job) => p.2.kind == .place) then 1 else max 2 (s.en 2 0x002 0)

/-- The CONTROL task of a scope that can migrate, with the largest share of its engine's density. -/
def State.migCandidate (s : State) (scope : List Nat) : Option Nat :=
  let frac (t : Nat) : Nat × Nat :=
    let q := (s.task t).engine / 4
    let sh := s.share (s.inForce t) s.srcTicks (s.testStep q)
    let all := s.densityAt (s.task t).engine (s.testStep q) s.srcTicks []
    (sh.1 * all.2, sh.2 * all.1)
  ((s.scopeTasks scope 1).filter (fun t => s.mayMigrate t && (s.migChoice t).isSome)).foldl
    (fun (a : Option Nat) t => match a with
      | none => some t
      | some u => if fracLe (frac t) (frac u) then some u else some t) none

/-- The highest density of a quad's engines as a fraction. -/
def State.quadDensity (s : State) (q : Nat) : Nat × Nat :=
  ((quadEngines q).map (fun e => s.densityAt e (s.testStep q) s.srcTicks [])).foldl (fun a b => if fracLe b a then a else b) (0, 1)

/-- The quad of the least load (log entry 60): of the quads that are on and hold tasks, the one whose highest engine density is lowest, the
lowest number of equals. DESIGN CHOICE: R84 does not define the load of a quad. -/
def State.leastLoaded (s : State) : Option Nat :=
  ((List.range 4).filter (fun q => s.step q != 0 && s.quadBusy q)).foldl (fun (a : Option Nat) q => match a with
    | none => some q
    | some b => if fracLe (s.quadDensity b) (s.quadDensity q) then some b else some q) none

/-- All tasks of the least-loaded quad can migrate together to other quads that are on; the first of them (R84). -/
def State.emptyQuad (s : State) : Option Nat :=
  match s.leastLoaded with
  | none => none
  | some q =>
    let ts := (List.range 96).filter (fun t => (quadEngines q).any (fun e => (s.engTasks e).contains t))
    let all := ts.foldl (fun (o : Option State) t => match o with
      | none => none
      | some s =>
        match s.choose t (s.inForce t) (fun e => s.step (e / 4) != 0 && s.migTarget t e) with
        | some e => if (s.task t).engine / 4 = q ∧ s.mayMigrate t then some (s.reserveMig t e) else none
        | none => none) (some s)
    if all.isSome then ts.head? else none

/-- A relief step was taken. -/
def State.relieved (s : State) : State :=
  ({ s with ref := { s.ref with relief := some s.t48.toNat } } : State).put 2 0x002 0 3

/-- The first applicable action of R84 in a scope of quads; none where no action applies. -/
def State.reliefStep (s : State) (scope : List Nat) (all : Bool) : Option State :=
  match scope.find? s.canLower with
  | some q => some (s.setStep q (s.step q - 100))
  | none =>
    match s.shedFirst ((s.scopeTasks scope 3).filter s.active) with
    | some t => some (s.shedTask t false)
    | none =>
      match s.shedFirst ((s.scopeTasks scope 2).filter s.active) with
      | some t => some (s.shedTask t false)
      | none =>
        match s.migCandidate scope with
        | some t => some (s.startMig t ((s.migChoice t).getD 0))
        | none =>
          match (if all then s.emptyQuad else none) with
          | some t =>
            (s.choose t (s.inForce t) (fun e => s.step (e / 4) != 0 && s.migTarget t e)).map (fun e => s.startMig t e)
          | none => none

/-- A relief step in a scope of quads; the WARN fault `code` stands where none applies, and clears where one applies again (R84). -/
def State.relieve (s : State) (scope : List Nat) (all : Bool) (code : Nat) : State :=
  match s.reliefStep scope all with
  | some s' => s'.relieved.condOff code
  | none => s.condOn code

/-- One restore action (R84). Of several quads that could go up a step, the lowest number does: DESIGN CHOICE (log entry 60). -/
def State.restoreOne (s : State) : State :=
  let lim := s.en 2 0x050 0 - s.en 2 0x051 0
  let est := s.en 2 0x052 0
  let ok (cls : Nat) : List Nat := (s.scopeTasks [0, 1, 2, 3] cls).filter (fun t => (s.task t).shed && decide (est + s.estimate t ≤ lim))
  match s.restoreFirst (ok 2) with
  | some t => (s.restoreTask t).put 2 0x002 0 4
  | none =>
    match s.restoreFirst (ok 3) with
    | some t => (s.restoreTask t).put 2 0x002 0 4
    | none =>
      match (List.range 4).find? (fun q => s.canRaise q &&
          decide (est + s.scaled q (stepPower (s.step q + 100) - stepPower (s.step q)) ≤ lim)) with
      | some q => (s.setStep q (s.step q + 100)).put 2 0x002 0 4
      | none => s

/-! ### Derating (R91 to R93, R319) -/

/-- The port address of a stage's request record. -/
def drRecord (g : Nat) : Nat := 0x10FF00 + 4 * g

/-- The stages that a power-stage sensor belongs to (R319): sensor index as in `Mon`. -/
def State.sensorStages (s : State) (i : Nat) : List Nat :=
  if i < 8 then []
  else if i < 12 then s.bankStages (i - 8)
  else if i < 28 then (s.named (s.en 9 0x049 (i - 12))).toList
  else (s.genHolder (i - 28)).toList

/-- A power-stage sensor of the stage holds its throttle level. -/
def State.hotStage (s : State) (g : Nat) : Bool :=
  (List.range 60).any (fun i => ((s.sensor i).held.getD 1 false) && (s.sensorStages i).contains g)

/-- ILIM_PCT for an estimate (R92), rounded up. -/
def ilimFor (t limit : Int) (lo : Nat) : Nat :=
  if t ≤ limit - 160 then 100 else if limit ≤ t then lo
  else lo + (((100 - (lo : Int)) * (limit - t) + 159) / 160).toNat

/-- The request of one stage in a round (R91 to R93, R319); `timed` where the frequency may step, every 20 ms. -/
def State.deRound (timed : Bool) (s : State) (g : Nat) : State :=
  if s.dc 2 0x070 g = 0 then s
  else
    let x := s.derate g
    let dt := s.dc 2 0x071 g
    let y := s.task dt
    let now := s.t48.toNat
    let rd := decide (dt < 96) && y.placed
    let at_ := y.state + s.dc 2 0x072 g
    let est : Int := if rd then (s.memWord y.engine at_).toInt else (asInt 16 (s.en 2 0x07A g))
    let cnt := if rd then s.memWord y.engine (at_ + 1) else x.count
    let changed := decide (cnt ≠ x.count)
    let countAt := if changed then now else x.countAt
    let st := (s.stg g).st
    let stale := decide (4000000 ≤ s.since countAt) || ((st == .armed || st == .run) && !(rd && s.mayRelease dt))
    let trip := asInt 16 (s.dc 2 0x075 g)
    let start := asInt 16 (s.dc 2 0x073 g)
    let limit := asInt 16 (s.dc 2 0x074 g)
    let lo := s.dc 2 0x076 g
    let ilo := s.dc 2 0x077 g
    let s := if trip ≤ est then s.condOn (0x020007 + 256 * g) else s.condOff (0x020007 + 256 * g)
    let s := if stale then s.condOn (0x02000A + 256 * g) else s.condOff (0x02000A + 256 * g)
    let f0 := s.en 2 0x078 g
    let fits (f : Nat) : Bool := (s.stageCls g).all (fun c => s.periodFits c (s.en 4 0x030 c * 8 / f))
    let f1 := if timed = false then f0
      else if start < est ∧ lo < f0 then f0 - 1
      else if est < start - 80 ∧ f0 < 8 ∧ fits (f0 + 1) then f0 + 1 else f0
    let hot := s.hotStage g
    let f2 := if stale then lo else if hot then min f1 lo else f1
    let i2 := if stale then ilo else if hot then min (ilimFor est limit ilo) ilo else ilimFor est limit ilo
    let new := decide (f2 ≠ f0) || decide (i2 ≠ s.en 2 0x079 g)
    let seq := if new then x.seq + 1 else x.seq
    let ws : List Word := [BitVec.ofNat 24 f2, BitVec.ofNat 24 i2, BitVec.ofInt 24 est, fields 24 [(seq.toNat, 0), (b2n stale, 8)]]
    let s := (ws.zipIdx).foldl (fun s (p : Word × Nat) => s.setMemWord 0 (drRecord g + p.2) p.1) s
    let s := ((s.put 2 0x078 g f2).put 2 0x079 g i2).put 2 0x07A g (BitVec.ofInt 16 (max (-32768) (min 32767 est))).toNat
    let s := if new || x.stale != stale then s.raiseEv (400 + g) else s
    let derated := decide (f2 ≠ 8) || decide (i2 ≠ 100)
    let s := if derated then s.condOn (0x020008 + 256 * g) else s.condOff (0x020008 + 256 * g)
    let reqAt := if f2 ≠ f0 then now else x.reqAt
    let ign := if f2 ≠ f0 then false else x.ignored
    let off := (s.stageCls g).any (fun c => (s.cl c).st == .running && decide ((s.cl c).len ≠ s.en 4 0x030 c * 8 / f2)
      && decide (16 * (s.cl c).len ≤ s.since reqAt))
    let s := if off && !ign then s.report (0x020009 + 256 * g) else s
    s.setDerate g { x with seq := seq, stale := stale, count := cnt, countAt := countAt, lastFsw := f2, derated := derated
                           reqAt := reqAt, ignored := ign || off }

/-! ### The round (R84) -/

/-- One round's duty of a quad (R80, R81): above QUAD_FMAX it goes down to it, whatever the time of its last change, but for a shadow; one that holds no
task is switched off, unless it has risen within the last 100 ms (DESIGN CHOICE, log entry 60: the spec does not say when); one below QUAD_FMIN goes up
to it. -/
def State.quadDuty (s : State) (q : Nat) : State :=
  if s.step q = 0 then s
  else if s.inShadow q then s
  else if s.quadBusy q = false ∧ ¬((s.quad q).lastUp ∧ s.recent q) then s.quadOff q
  else if s.en 2 0x041 q < s.step q then s.setStep q (s.en 2 0x041 q)
  else if s.quadBusy q = false then s
  else if s.step q < s.en 2 0x042 q ∧ ((s.quad q).lastUp ∨ s.recent q = false) then s.setStep q (s.en 2 0x042 q) else s

/-- Quads in order of highest quad power. -/
def State.byPower (s : State) : List Nat :=
  ((List.range 4).map (fun q => (1000000 - s.quadPower q, q))).foldr insLoad [] |>.map (fun p => p.2)

/-- QUAD_TEMP and QUAD_PEST of a quad. DESIGN CHOICE (log entry 60): while both sensors are SUSPECT, QUAD_TEMP keeps its last value. -/
def State.quadShow (s : State) (q : Nat) : State :=
  (s.put 2 0x044 q (s.quadPower q)).put 2 0x043 q (match s.quadTemp q with
    | some t => (BitVec.ofInt 16 t).toNat
    | none => s.en 2 0x043 q)

/-- The Referee's evaluation of power, temperature and derating (R70, R82, R83, R91). -/
def State.evaluate (timed : Bool) (s : State) : State :=
  let s := (List.range 4).foldl State.quadLevels s
  let s := (List.range 4).foldl State.quadShow s
  (List.range 12).foldl (State.deRound timed) (s.put 2 0x052 0 s.powerEst)

/-- The evaluation that is due at once after a stage changed its state (R70), in the supervisor's next slice (R95). -/
def State.slice (s : State) : State :=
  if s.ref.due then
    let s : State := { s with ref := { s.ref with due := false } }
    if s.refRuns then s.evaluate false else s
  else s

/-- A round: the Referee's evaluation, and its actions (R70, R84). -/
def State.refRound (s : State) : State :=
  if s.refRuns = false then s
  else
    let s : State := { s with ref := { s.ref with rounds := s.ref.rounds + 1, due := false } }
    let s := (List.range 4).foldl State.quadDuty (s.measureBusy.put 2 0x002 0 2)
    let s := s.evaluate (s.ref.rounds % 20 == 0)
    let s := (List.range 4).foldl (fun s q =>
      if (s.quad q).throttle then s.relieve [q] false (0x020005 + 256 * q)
      else s.condOff (0x020005 + 256 * q)) s
    let est := s.en 2 0x052 0
    let budget := s.en 2 0x050 0
    if budget < est then s.relieve s.byPower true 0x02FF06
    else
      let s := s.condOff 0x02FF06
      let back := (List.range 96).filter (fun t => (s.task t).supplyShed)
      let calm := decide (est < budget - s.en 2 0x051 0) && (List.range 4).all (fun q => !(s.quad q).warn)
      if back ≠ [] ∧ s.deferring = false ∧ (List.range 4).all (fun q => !(s.quad q).throttle) then back.foldl State.restoreTask s
      else if calm && (match s.ref.relief with | some a => decide (ms100 ≤ s.since a) | none => true) then s.restoreOne
      else s

/-- REFEREE_ROUND (R84). -/
def doRefereeRound (s : State) : State := s.refRound

/-! ### Free timers (R75) -/

/-- FREE_TIMER_EXPIRY (R75): a timer with a period raises its event, releases its tasks, and triggers. -/
def doFreeTimerExpiry (ft : Fin 16) (s : State) : State :=
  if s.en 2 0x060 ft = 0 then s
  else ((s.raiseEv (384 + ft)).releaseOn (128 + ft) 0).trigger (96 + ft)

end Sys2Proof.Machine
end

