-- ==== Sys2Proof/Machine/Monitors.lean ====
section
/-! DEFINITION. Temperature and supply monitors (R313 to R323): rounds, levels, the neighbour cross-check, analog shutdown,
and the warnings and the deferral of the supplies. A supply's reset levels are in Machine/Boot.lean. -/

namespace Sys2Proof.Machine

/-! ### Thermistors (R315) -/

/-- The odd powers of atanh's series, `z` scaled by 2^64: z^(2i+1) / (2i+1) summed over `n` terms. -/
def atanhSum : Nat → Int → Int → Nat → Int
  | 0, _, _, _ => 0
  | n + 1, p, zz, i => p / (2 * i + 1 : Nat) + atanhSum n (p * zz / 2 ^ 64) zz (i + 1)

/-- ln (num / den) in units of 2^-56: the logarithm of the power of two, and 2 atanh of the rest. -/
def lnRatio (num den : Nat) : Int :=
  let a := Nat.log2 num
  let b := Nat.log2 den
  let m := num * 2 ^ b
  let d := den * 2 ^ a
  let z : Int := ((m : Int) - d) * 2 ^ 64 / ((m : Int) + d)
  ((a : Int) - b) * 49946518145322874 + 2 * atanhSum 40 z (z * z / 2 ^ 64) 0 / 2 ^ 8

/-- The temperature of an NTC in 1/16 °C from its code (R315), rounded to the nearest; none where the rule states no value (no
R25, or a result that is no S16). -/
def ntcTemp (code rpu r25 b : Nat) (ofs : Int) : Option Int :=
  if r25 = 0 then none
  else
    let l := lnRatio (rpu * code) ((4096 - code) * r25)
    let d : Int := 100 * b * 2 ^ 56 + 29815 * l
    if d ≤ 0 then none
    else
      let n : Int := 16 * b * 29815 * 2 ^ 56
      let t := (2 * 100 * n - 2 * 437040 * d + 100 * d) / (2 * 100 * d) + ofs
      if t < -32768 ∨ 32767 < t then none else some t

/-! ### Levels (R314, R318, R319) -/

/-- Warning, throttle and shutdown level of a sensor, none where disabled, each with the distance to its release. -/
def State.levels (s : State) (i : Nat) : List (Option Int × Int) :=
  if i < 12 then [(some 2160, 80), (some 2320, 80), (some 2560, 240)]
  else
    let a := if i < 28 then 0x045 else 0x050
    let n := if i < 28 then i - 12 else i - 28
    let h : Int := 16 * s.en 9 (a + 3) n
    let lv (e : Nat) : Option Int := let v := asInt 16 (s.en 9 e n); if v < 0x7FFF then some v else none
    [(lv a, h), (lv (a + 1), h), (lv (a + 2), h)]

/-- The instance of a sensor (R309, R320). -/
def sensorInst (i : Nat) : Nat := if i < 12 then i else if i < 28 then 0x10 + (i - 12) else 0x20 + (i - 28)

/-- LEVEL of a sensor: 0 none, 1 warning, 2 throttle, 3 shutdown. -/
def Sensor.level (x : Sensor) : Nat :=
  if x.held.getD 2 false then 3 else if x.held.getD 1 false then 2 else if x.held.getD 0 false then 1 else 0

/-- One round of one level: (held, up, down) after it. -/
def levelStep (held : Bool) (up down : Nat) (at_ below : Bool) : Bool × Nat × Nat :=
  if held then (if below then (if 1 ≤ down then (false, 0, 0) else (true, 0, down + 1)) else (true, 0, 0))
  else if at_ then (if 1 ≤ up then (true, 0, 0) else (false, up + 1, 0)) else (false, 0, 0)

/-- TEMP_SHUTDOWN of the P-die's comparators ends once none of them and no measured shutdown level of TS8 to TS11 stands (R318). -/
def State.bankCool (s : State) : State :=
  if [8, 9, 10, 11].any (fun i => (s.sensor i).acmp || (s.sensor i).held.getD 2 false) then s else s.condOff 0x09FE03

/-- The events, faults and effects of a sensor whose levels changed (R314, R318, R319, R326). -/
def State.levelEffects (s : State) (i : Nat) (old new : Sensor) : State :=
  let inst := 256 * sensorInst i
  let s := if old.level = new.level then s else s.raiseEv (if i < 12 then 290 else if i < 28 then 291 else 292)
  let one (s : State) (j : Nat) (code : Nat) : State :=
    if new.held.getD j false then s.condOn (code + inst) else if j = 2 ∧ new.acmp then s else s.condOff (code + inst)
  let s := (one (one (one s 0 0x090001) 1 0x090002) 2 0x090003).bankCool
  if old.held.getD 1 false = new.held.getD 1 false ∨ s.refRuns = false then s
  else if i < 8 then
    let q := i / 2
    let s := s.evaluate false
    if new.held.getD 1 false ∧ (s.quad q).throttle ∧ s.step q ≠ 0 then s.relieve [q] false (0x020005 + 256 * q) else s
  else if new.held.getD 1 false then (s.sensorStages i).foldl (State.deRound false) s else s

/-- A sensor takes no part in levels: those it holds are left. -/
def State.leaveLevels (s : State) (i : Nat) : State :=
  let x := s.sensor i
  let y := { x with held := .replicate 3 false, up := .replicate 3 0, down := .replicate 3 0 }
  (s.setSensor i y).levelEffects i x y

/-- A round of a sensor with a valid reading: fast mode of a power-stage sensor, and the levels. A second round of another rate
in the same tick does not count. -/
def State.evalSensor (s : State) (i : Nat) (slow : Bool) : State :=
  let x := s.sensor i
  if x.valid = false ∨ x.suspect then s
  else if x.seenAt.any (fun (p : Nat × Bool) => p.1 == s.t48.toNat && p.2 != slow) then s
  else
    let t := x.temp.toInt
    let ls := s.levels i
    let r := (List.range 3).map (fun j =>
      let l := ls.getD j (none, 0)
      let at_ := match l.1 with | some v => decide (v ≤ t) | none => false
      let below := match l.1 with | some v => decide (t < v - l.2) | none => true
      levelStep (x.held.getD j false) (x.up.getD j 0) (x.down.getD j 0) at_ below)
    let g (j : Nat) : Bool × Nat × Nat := r.getD j (false, 0, 0)
    let fast := match (ls.getD 1 (none, 0)).1 with
      | some v => if 8 ≤ i then (if v - 160 ≤ t then true else if t < v - 192 then false else x.fast) else false
      | none => false
    let y := { x with
      held := #v[(g 0).1, (g 1).1, (g 2).1], up := #v[(g 0).2.1, (g 1).2.1, (g 2).2.1]
      down := #v[(g 0).2.2, (g 1).2.2, (g 2).2.2], fast := fast, seenAt := some (s.t48.toNat, slow) }
    (s.setSensor i y).levelEffects i x y

/-- SUSPECT of a die sensor changes: its event, its condition, and the levels of a suspect sensor (R317). -/
def State.setSuspect (s : State) (i : Nat) (v : Bool) : State :=
  let x := s.sensor i
  if x.suspect = v then s
  else
    let s := (s.setSensor i { x with suspect := v, far := 0, near := 0 }).raiseEv 293
    if v then (s.condOn (0x090004 + 256 * i)).leaveLevels i else s.condOff (0x090004 + 256 * i)

/-! ### Readings (R313, R315, R316) -/

/-- A die sensor takes a reading; one of the P-die comes over D0. Outside −55 to 200 °C it is invalid, and SUSPECT at once. -/
def State.readDie (s : State) (i : Nat) (t : BitVec 16) : State :=
  let ok := decide (-880 ≤ t.toInt) && decide (t.toInt ≤ 3200)
  if 8 ≤ i ∧ (s.lane 32).st ≠ .active then s.setSensor i { s.sensor i with valid := false }
  else
    let s := (s.setSensor i { s.sensor i with temp := t, valid := ok }).bkEvents s
    if ok then (if asInt 16 (s.en 9 0x012 i) < t.toInt ∨ s.en 9 0x012 i = 0x8000 then s.put 9 0x012 i t.toNat else s)
    else s.setSuspect i true

/-- An NTC takes its latest conversion (R315). -/
def State.readNtc (s : State) (n : Nat) : State :=
  let i := 12 + n
  let inst := 256 * sensorInst i
  if s.en 9 0x040 n = 0 then
    ((s.setSensor i { s.sensor i with valid := false, range := false, fast := false }).leaveLevels i).condOff (0x090005 + inst)
  else
    let c := (Tab.get (fun _ => ((0 : BitVec 12), 0)) s.acq.hk (16 + n)).1.toNat
    if c ≤ 40 ∨ 4056 ≤ c then (s.setSensor i { s.sensor i with valid := false, range := true }).condOn (0x090005 + inst)
    else
      let s := s.condOff (0x090005 + inst)
      match ntcTemp c (s.en 9 0x043 n) (s.en 9 0x041 n) (s.en 9 0x042 n) (asInt 16 (s.en 9 0x044 n)) with
      | some t => s.setSensor i { s.sensor i with temp := BitVec.ofInt 16 t, valid := true, range := false }
      | none => (s.setSensor i { s.sensor i with temp := Config.free 16 s.free, valid := true, range := false }).tick

/-- A satellite's TEMP of its last STATUS, which arrived less than 300 µs (120 000 ticks) ago (R316). -/
def State.readSat (s : State) (l : Nat) : State :=
  let x := s.lane l
  let t := x.satTemp
  let ok := x.st == .active && x.statusAt.any (fun a => decide (s.since a < 120000)) && decide (-880 ≤ t.toInt) && decide (t.toInt ≤ 3200)
  s.setSensor (28 + l) { s.sensor (28 + l) with temp := if ok then t else (s.sensor (28 + l)).temp, valid := ok }

/-! ### The neighbour cross-check (R317) -/

/-- The ring of a die sensor: its first number and its size. -/
def ring (i : Nat) : Nat × Nat := if i < 8 then (0, 8) else (8, 4)

/-- The neighbour of sensor i in a direction (true is up): the next along the ring that is not SUSPECT and not i itself. -/
def State.neighbour (s : State) (i : Nat) (up : Bool) : Option Nat :=
  let r := ring i
  ((List.range (r.2 - 1)).map (fun k => r.1 + (if up then i - r.1 + k + 1 else i - r.1 + r.2 - k - 1) % r.2)).find?
    (fun j => !(s.sensor j).suspect)

/-- Twice the deviation of R317, with the readings as they stand; none while the check is suspended. -/
def State.deviation2 (s : State) (i : Nat) : Option Int :=
  if 8 ≤ i ∧ (s.lane 32).st ≠ .active then none
  else match s.neighbour i false, s.neighbour i true with
    | some a, some b => if a = b then none
        else some (2 * (s.sensor i).temp.toInt - (s.sensor a).temp.toInt - (s.sensor b).temp.toInt)
    | _, _ => none

/-- One sensor's cross-check with its deviation: 8 consecutive rounds beyond 12 °C mark it, 64 within it remove the mark; a round without the check
ends both counts. -/
def State.crossOne (s : State) (p : Nat × Option Int) : State :=
  match p.2 with
  | none => s.setSensor p.1 { s.sensor p.1 with far := 0, near := 0 }
  | some d =>
    let x := s.sensor p.1
    let far := decide (384 < d.natAbs)
    let s := s.put 9 0x013 p.1 (BitVec.ofInt 16 (d / 2)).toNat
    if x.suspect then
      let n := if far || !x.valid then 0 else x.near + 1
      if 64 ≤ n then s.setSuspect p.1 false else s.setSensor p.1 { x with near := n, xdev := d / 2 }
    else
      let n := if far then x.far + 1 else 0
      if 8 ≤ n then (s.setSensor p.1 { x with xdev := d / 2 }).setSuspect p.1 true else s.setSensor p.1 { x with far := n, xdev := d / 2 }

/-! ### Maxima (R320) -/

/-- The highest usable reading among sensors with its source; the lowest number on a tie. -/
def State.maxOf (s : State) (is : List Nat) : BitVec 16 × BitVec 8 :=
  is.foldl (fun (a : BitVec 16 × BitVec 8) i =>
    let x := s.sensor i
    if x.valid ∧ x.suspect = false ∧ (a.2 = 0xFF ∨ a.1.toInt < x.temp.toInt) then (x.temp, BitVec.ofNat 8 (sensorInst i)) else a)
    (0x8000, 0xFF)

/-- The maxima are formed at the end of a round. -/
def State.maxima (s : State) (slow : Bool) : State :=
  { s with mon := { s.mon with
      maxC := if slow then s.maxOf (List.range 8) else s.mon.maxC
      maxP := s.maxOf [8, 9, 10, 11]
      maxS := s.maxOf ((List.range 48).map (· + 12)) } }

/-- Every supply is measured each 1 ms (R321): free values in mV, with the lowest since reset. -/
def State.measureSupplies (s : State) : State :=
  let v := Vector.ofFn (fun (i : Fin 6) => Config.free 16 (s.free + i.val))
  let low := if s.mon.measured then Vector.zipWith (fun a b => if a ≤ b then a else b) s.mon.lowest v else v
  { s with free := s.free + 6, mon := { s.mon with volts := v, lowest := low, measured := true } }

/-! ### Rounds (R314) -/

/-- SLOW_ROUND (R314): every sensor is read and evaluated, the die sensors cross-checked, the supplies measured. `die` holds the
readings of TS0 to TS11; one that is missing keeps its last. -/
def doSlowRound (die : List (BitVec 16)) (s : State) : State :=
  let s := (List.range 12).foldl (fun s i => s.readDie i (die.getD i (s.sensor i).temp)) s
  let s := (List.range 16).foldl State.readNtc s
  let s := (List.range 32).foldl State.readSat s
  let ds := (List.range 12).map (fun i => (i, s.deviation2 i))
  let s := ds.foldl State.crossOne s
  let s := (List.range 60).foldl (fun s i => s.evalSensor i true) s
  ((s.maxima true).measureSupplies).raiseEv 288

/-- FAST_ROUND (R314): the power-stage sensors in fast mode. `bank` holds the readings of TS8 to TS11. -/
def doFastRound (bank : List (BitVec 16)) (s : State) : State :=
  let fast := (List.range 60).filter (fun i => (s.sensor i).fast)
  let s := fast.foldl (fun s i =>
    let s := if i < 12 then s.readDie i (bank.getD (i - 8) (s.sensor i).temp) else if i < 28 then s.readNtc (i - 12) else s.readSat (i - 28)
    s.evalSensor i false) s
  if fast.isEmpty then s else (s.maxima false).raiseEv 289

/-! ### The analog shutdown comparators (R318) -/

/-- The P-die shutdown-temperature wire follows its four comparators (R10, R318). -/
def State.shutdownWire (s : State) : State := s.sourceLevel 117 ([8, 9, 10, 11].any (fun i => (s.sensor i).acmp))

/-- ANALOG_SHUTDOWN (R318): one of the C-die reports its sensor; those of the P-die turn every half-bridge off. -/
def doAnalogShutdown (ts : Fin 12) (s : State) : State :=
  let s := s.setSensor ts { s.sensor ts with acmp := true }
  if ts.val < 8 then s.condOn (0x090003 + 256 * ts)
  else
    let s := s.shutdownWire
    ([0, 1, 2, 3].foldl (fun s b => s.bankSafe b) s).condOn 0x09FE03

/-- ANALOG_SHUTDOWN_RELEASE (R318): the condition ends once the measured level has released too. -/
def doAnalogShutdownRelease (ts : Fin 12) (s : State) : State :=
  let s := s.setSensor ts { s.sensor ts with acmp := false }
  let s := if (s.sensor ts).held.getD 2 false then s else s.condOff (0x090003 + 256 * ts)
  if ts.val < 8 then s else s.shutdownWire.bankCool

/-! ### Supply warnings (R321 to R323) -/

/-- A warning of VSUP, VDDC or VDDIO holds. -/
def State.deferCause (s : State) : Bool := [0, 1, 2].any (fun p => (s.supply p).warn)

/-- What waits with its first write not begun is deferred: the copies, then the records, whose responses go out with PERSIST = 2 (R336), then the
blocks; what an earlier deferral still holds keeps its place. DESIGN CHOICE (log entry 50): the order among them. -/
def State.deferQueue (s : State) : State :=
  let keep := if s.nvm.writing then 1 else 0
  let late := s.nvm.queue.drop keep
  let s := late.foldl (fun s r => match r.owner with
    | some q => if r.answered then s else s.respond q opWrite 0 0 r.key (statusBody 2 false r.seq)
    | none => s) s
  let fresh (k n : Nat) : List Nat := List.replicate (n - s.nvm.order.count k) k
  let l := fresh 1 s.flt.copies.length ++ fresh 0 late.length ++ fresh 2 s.nvm.blocks.length
  let s := (s.whenS (!late.isEmpty && !s.nvm.deferred) (fun s => s.report (0x0C0302 + 256 * s.nvm.bank))).put 9 0x071 0
    (min 65535 (s.en 9 0x071 0 + l.length))
  { s with nvm := { s.nvm with
      deferred := s.nvm.deferred || !late.isEmpty, order := s.nvm.order ++ l
      queue := s.nvm.queue.take keep ++ late.map (fun r => { r with owner := none, answered := true }) } }

/-- SUPPLY_WARN (R322): the warning and its fault; of VSUP, VDDC and VDDIO also the deferral and the shedding of R323; of GVDD a
change of BKSTAT. -/
def doSupplyWarn (pp : Fin 6) (ov : Bool) (s : State) : State :=
  if s.dev = devStandby ∨ s.boot.inReset then s
  else
  let p := pp.val
  let x := s.supply p
  let s := (s.setSupply p (if ov then { x with ovwarn := true } else { x with warn := true })).bkEvents s
  let s : State := { s with mon := { s.mon with warnCnt := s.mon.warnCnt + 1 } }
  let s := ((s.bump (mkKey 9 0x063 p) 65535).raiseEv 294).condOn (0x090010 + 256 * p)
  if ov then s
  else if p < 3 then
    let first := !s.deferring
    let s : State := { s with mon := { s.mon with debounce := false } }
    let s := s.put 9 0x070 0 1
    (if first then s.deferQueue else s).shedAll
  else s

/-- SUPPLY_WARN_RELEASE (R321, R323): the condition ends with the last warning of the rail; with the last warning of VSUP, VDDC and
VDDIO the debounce starts. -/
def doSupplyWarnRelease (pp : Fin 6) (ov : Bool) (s : State) : State :=
  let p := pp.val
  let x := s.supply p
  let y := if ov then { x with ovwarn := false } else { x with warn := false }
  let y := { y with reset := if ov then y.reset else false, ovreset := if ov then false else y.ovreset }
  let s := ((s.setSupply p y).bkEvents s).raiseEv 294
  let s := if y.warn || y.ovwarn then s else s.condOff (0x090010 + 256 * p)
  let s := if p = 5 ∧ ov = false then
      let s := s.condOff 0x05FF06
      (s.whenS (s.drv.gvdd == 3) (·.setGvdd 2)).setSrc 115 false
    else s
  let s := if [2, 3, 5].contains p then s.setSrc 116 ([2, 3].any (fun i => (s.supply i).reset || (s.supply i).ovreset)) else s
  if p < 3 ∧ ov = false ∧ s.deferring ∧ s.deferCause = false then { s with mon := { s.mon with debounce := true } } else s

end Sys2Proof.Machine
end

