-- ==== Sys2Proof/Machine/Sha.lean ====
section
/-! DEFINITION. SHA-256 (FIPS 180-4), HMAC-SHA-256 (FIPS 198-1) and the verification of ECDSA P-256 (FIPS 186-4), which R66
and R412 name. Bytes are numbers below 256. -/

namespace Sys2Proof.Machine

/-- The largest x with x ^ r ≤ v, of at most `n` bits beside those of the start value. -/
def rootOf (r v : Nat) : Nat → Nat → Nat
  | 0, x => x
  | n + 1, x => rootOf r v n (if (x + 2 ^ n) ^ r ≤ v then x + 2 ^ n else x)

/-- The first 32 bits of the fractional part of the r-th root of a number below 512, as FIPS 180-4 defines its constants. -/
def rootBits32 (r p : Nat) : BitVec 32 := BitVec.ofNat 32 (rootOf r (p * 2 ^ (32 * r)) 37 0)

/-- The primes below 312, which are the first 64. -/
def primes64 : List Nat := ((List.range 312).drop 2).filter (fun p => (List.range p).all (fun d => decide (d < 2) || p % d != 0))

/-- The round constants of SHA-256: of the cube roots of the first 64 primes. -/
def shaK : List (BitVec 32) := primes64.map (rootBits32 3)

/-- The initial hash value: of the square roots of the first 8 primes. -/
def shaH : List (BitVec 32) := (primes64.take 8).map (rootBits32 2)

/-- The message schedule, newest word first: 48 further words from the first 16. -/
def shaSched : Nat → List (BitVec 32) → List (BitVec 32)
  | 0, w => w
  | n + 1, w =>
    let a := w.getD 1 0
    let b := w.getD 14 0
    let s1 := a.rotateRight 17 ^^^ a.rotateRight 19 ^^^ (a >>> 10)
    let s0 := b.rotateRight 7 ^^^ b.rotateRight 18 ^^^ (b >>> 3)
    shaSched n ((w.getD 15 0 + s0 + w.getD 6 0 + s1) :: w)

/-- One round with its constant and schedule word. -/
def shaRound (h : List (BitVec 32)) (k : BitVec 32 × BitVec 32) : List (BitVec 32) :=
  match h with
  | [a, b, c, d, e, f, g, x] =>
    let s1 := e.rotateRight 6 ^^^ e.rotateRight 11 ^^^ e.rotateRight 25
    let ch := (e &&& f) ^^^ (~~~e &&& g)
    let t1 := x + s1 + ch + k.1 + k.2
    let s0 := a.rotateRight 2 ^^^ a.rotateRight 13 ^^^ a.rotateRight 22
    let mj := (a &&& b) ^^^ (a &&& c) ^^^ (b &&& c)
    [t1 + s0 + mj, a, b, c, d + t1, e, f, g]
  | l => l

/-- Big-endian bytes as a number. -/
def beNat (l : List Nat) : Nat := l.foldl (fun a b => 256 * a + b) 0

/-- A number as `n` big-endian bytes. -/
def natBe (v : Nat) : Nat → List Nat
  | 0 => []
  | n + 1 => v / 256 ^ n % 256 :: natBe v n

/-- One block of 64 bytes. -/
def shaBlock (h : List (BitVec 32)) (block : List Nat) : List (BitVec 32) :=
  let w := (List.range 16).map (fun i => BitVec.ofNat 32 (beNat ((block.drop (4 * i)).take 4)))
  let sched := (shaSched 48 w.reverse).reverse
  List.zipWith (· + ·) h ((shaK.zip sched).foldl shaRound h)

/-- `n` blocks in order. -/
def shaBlocks : Nat → List (BitVec 32) → List Nat → List (BitVec 32)
  | 0, h, _ => h
  | n + 1, h, l => shaBlocks n (shaBlock h (l.take 64)) (l.drop 64)

/-- SHA-256 as 32 bytes. -/
def sha256 (l : List Nat) : List Nat :=
  let pad := (119 - l.length % 64) % 64
  let m := l ++ 0x80 :: List.replicate pad 0 ++ natBe (8 * l.length) 8
  (shaBlocks (m.length / 64) shaH m).flatMap (fun w => natBe w.toNat 4)

/-- HMAC-SHA-256 with a key of at most 64 bytes. -/
def hmac (key msg : List Nat) : List Nat :=
  let k := key ++ List.replicate (64 - key.length) 0
  sha256 (k.map (Nat.xor 0x5C) ++ sha256 (k.map (Nat.xor 0x36) ++ msg))

/-! ### ECDSA over P-256 -/

/-- The prime of the field. -/
def p256P : Nat := 0xffffffff00000001000000000000000000000000ffffffffffffffffffffffff
/-- The order of the base point. -/
def p256N : Nat := 0xffffffff00000000ffffffffffffffffbce6faada7179e84f3b9cac2fc632551
/-- The coefficient b of the curve. -/
def p256B : Nat := 0x5ac635d8aa3a93e7b3ebbd55769886bc651d06b0cc53b0f63bce3c3e27d2604b
/-- The base point. -/
def p256G : Nat × Nat := (0x6b17d1f2e12c4247f8bce6e563a440f277037d812deb33a0f4a13945d898c296,
  0x4fe342e2fe1a7f9b8ee7eb4a7c0f9e162bce33576b315ececbb6406837bf51f5)

/-- b ^ e mod m over the low `n` bits of e. -/
def powMod (m : Nat) : Nat → Nat → Nat → Nat
  | 0, _, _ => 1
  | n + 1, b, e =>
    let r := powMod m n (b * b % m) (e / 2)
    if e % 2 = 1 then r * b % m else r

/-- The inverse modulo a prime. -/
def invMod (m a : Nat) : Nat := powMod m 256 (a % m) (m - 2)

/-- a - b modulo m, for b < m. -/
def subMod (m a b : Nat) : Nat := (a + m - b % m) % m

/-- The sum of two points; none is the point at infinity. -/
def ecAdd (a b : Option (Nat × Nat)) : Option (Nat × Nat) :=
  match a, b with
  | none, q => q
  | p, none => p
  | some p, some q =>
    if p.1 = q.1 ∧ (p.2 + q.2) % p256P = 0 then none
    else
      let l := if p = q then (3 * p.1 * p.1 + p256P - 3) * invMod p256P (2 * p.2) % p256P
        else subMod p256P q.2 p.2 * invMod p256P (subMod p256P q.1 p.1) % p256P
      let x := subMod p256P (subMod p256P (l * l) p.1) q.1
      some (x, subMod p256P (l * subMod p256P p.1 x) p.2)

/-- k times a point, over the low `n` bits of k. -/
def ecMul : Nat → Nat → Option (Nat × Nat) → Option (Nat × Nat)
  | 0, _, _ => none
  | n + 1, k, p =>
    let r := ecMul n (k / 2) (ecAdd p p)
    if k % 2 = 1 then ecAdd r p else r

/-- A public key is a point of the curve. -/
def onCurve (x y : Nat) : Bool :=
  decide (x < p256P) && decide (y < p256P) && decide (y * y % p256P = (x * x * x + (p256P - 3) * x + p256B) % p256P)

/-- Verification of a signature (r, s) over a message with key (x, y). -/
def ecdsaOk (msg : List Nat) (r s x y : Nat) : Bool :=
  if r = 0 ∨ p256N ≤ r ∨ s = 0 ∨ p256N ≤ s ∨ onCurve x y = false then false
  else
    let w := invMod p256N s
    let u := beNat (sha256 msg) * w % p256N
    match ecAdd (ecMul 256 u (some p256G)) (ecMul 256 (r * w % p256N) (some (x, y))) with
    | some p => p.1 % p256N == r
    | none => false

end Sys2Proof.Machine
end

