-- ==== Sys2Proof/Machine/Otp.lean ====
section
/-! DEFINITION. The OTP array: shadows, overrides, burning, locking and the audit (R345 to R351), and the checks of a signed
image (R66, R342). -/

namespace Sys2Proof.Machine

/-- Words of an OTP region (R345). -/
def otpWords (r : Nat) : Nat := if r = 2 then 256 else 128
/-- The lock word. -/
def lockWord (r : Nat) : Nat := if r = 2 then 0xFE else 0x7E
/-- The seal word. -/
def sealWord (r : Nat) : Nat := if r = 2 then 0xFF else 0x7F
/-- The words of the key hash. -/
def isHash (r w : Nat) : Bool := r != 1 && decide (w ≤ 0x0A)
/-- Protected words: the SERVICE key. -/
def isProtected (r w : Nat) : Bool := r == 2 && decide (0x0B ≤ w) && decide (w ≤ 0x15)

/-- A word as burned. -/
def State.otp (s : State) (r w : Nat) : Word := Tab.get (fun _ => 0) s.mem.otp (256 * r + w)
/-- A word is burned. -/
def State.setOtp (s : State) (r w : Nat) (v : Word) : State :=
  { s with mem := { s.mem with otp := Tab.set (fun _ => 0) s.mem.otp (256 * r + w) v } }
/-- A shadow takes a value. -/
def State.setShadow (s : State) (r w : Nat) (v : Word) : State :=
  { s with mem := { s.mem with shadow := Tab.set (fun _ => 0) s.mem.shadow (256 * r + w) v } }
/-- The override of a word (R347). -/
def State.override (s : State) (r w : Nat) : Option Word := Tab.get (fun _ => none) s.nvm.ovr (256 * r + w)
/-- A word's override is set or removed; its entry shows it. -/
def State.setOverride (s : State) (r w : Nat) (v : Option Word) : State :=
  let n : Nvm := { s.nvm with ovr := Tab.set (fun _ => none) s.nvm.ovr (256 * r + w) v }
  ({ s with nvm := n } : State).put 0xB (0x050 + r) w ((v.getD 0).toNat)
/-- What a reader of a word sees: its override, or its shadow. -/
def State.otpRead (s : State) (r w : Nat) : Word :=
  match s.override r w with
  | some v => v
  | none => Tab.get (fun _ => 0) s.mem.shadow (256 * r + w)

/-- MARGINAL and CORRECTED marks of a word. -/
def State.marks (s : State) (r w : Nat) : BitVec 5 := Tab.get (fun _ => 0) s.nvm.marks (256 * r + w)
/-- A word is marked MARGINAL or not. -/
def State.setMarginal (s : State) (r w : Nat) (v : Bool) : State :=
  let m := if v then s.marks r w ||| 2 else s.marks r w &&& ~~~(2 : BitVec 5)
  { s with nvm := { s.nvm with marks := Tab.set (fun _ => 0) s.nvm.marks (256 * r + w) m } }

/-- Bit 0 of a word's marks, which no entry shows: not every bit reads 1 at strict-high margin. It is the array's own, and stays (R349). -/
def State.setWeak (s : State) (r w : Nat) (v : Bool) : State :=
  let m := if v then s.marks r w ||| 1 else s.marks r w &&& ~~~(1 : BitVec 5)
  { s with nvm := { s.nvm with marks := Tab.set (fun _ => 0) s.nvm.marks (256 * r + w) m } }

/-- What a reset keeps of the marks (R373): what the array itself holds. -/
def State.keptMarks (s : State) : Tab (BitVec 5) :=
  s.nvm.marks.filterMap (fun (p : Nat × BitVec 5) => if p.2.getLsbD 0 then some (p.1, 1) else none)

/-- A word sensed with one wrong bit is marked CORRECTED (R346). -/
def State.setCorrected (s : State) (r w : Nat) : State :=
  { s with nvm := { s.nvm with marks := Tab.set (fun _ => 0) s.nvm.marks (256 * r + w) (s.marks r w ||| 4) } }

/-- A fuse of the word reads 1: of the 24 data fuses or the 6 check fuses, which for an unburned word show as an error (R346, R348). -/
def State.fused (s : State) (r w : Nat) : Bool := s.otp r w != 0 || s.upset 3 (256 * r + w) != 0

/-- OTP_WSTAT of a word (R354): BURNED, MARGINAL, CORRECTED, OVERRIDDEN, PROTECTED. -/
def State.wstat (s : State) (r w : Nat) : Nat :=
  b2n (s.fused r w) + (s.marks r w &&& 6).toNat + 8 * b2n (s.override r w).isSome + 16 * b2n (isProtected r w)

/-- OTP_REGION_STATE: the region is VALID. -/
def State.regionOk (s : State) (r : Nat) : Bool := s.en 0xB 0x070 r == 0

/-- The number of bits that read 1. -/
def ones (w : Word) : Nat := ((List.range 24).filter (fun i => w.getLsbD i)).length

/-- OTP_LOCK_STATE (R349): OPEN 0, SET 1, MARGINAL 2. All 24 read 1 at strict-high margin unless the word is weak or holds an error. -/
def State.lockState (s : State) (r : Nat) : Nat :=
  let w := s.otp r (lockWord r)
  if ones w < 20 then 0
  else if ones w = 24 ∧ (s.marks r (lockWord r)).getLsbD 0 = false ∧ s.upset 3 (256 * r + lockWord r) = 0 then 1 else 2

/-- The seal of a region over words read by `f` (R346): every word but the lock and the seal word. -/
def sealOf (r : Nat) (f : Nat → Word) : Word := crc24 ((List.range (lockWord r)).map f)

/-- A region is sensed into its shadows (R346): INVALID where a word holds an error of two bits, or where it counts as locked and its seal does
not match; its shadows then read 0. An error of one bit is corrected and marked. The lock word has no check bits. -/
def State.sense (s : State) (r : Nat) : State :=
  let held := (List.range (otpWords r)).filter (fun w => w != lockWord r)
  let ok := !held.any (fun w => s.upset 3 (256 * r + w) == 2) && (s.lockState r == 0 || s.otp r (sealWord r) == sealOf r (s.otp r))
  let s := (held.filter (fun w => s.upset 3 (256 * r + w) == 1)).foldl (fun s w => s.setCorrected r w) s
  let s := (List.range (otpWords r)).foldl (fun s w => s.setShadow r w (if ok then s.otp r w else 0)) s
  let s := s.put 0xB 0x070 r (b2n (!ok))
  s.whenS (!ok) (·.report (0x0C0004 + 256 * (0x10 + r)))

/-! ### Overrides (R347) -/

/-- The level of a region's overrides, burns and locks: FACTORY 2, SERVICE 1. -/
def regionLevel (r : Nat) : Nat := if r = 2 then 1 else 2

/-- OVERRIDE_WRITE (R347). -/
def doOverrideWrite (q : Req) (region : Fin 3) (ww : BitVec 8) (v : BitVec 48) (s : State) : State :=
  let r := region.val
  let w := ww.toNat
  s.dictWriteR q (mkKey 0xB (0x050 + r) w) v.toNat (regionLevel r) (fun _ => none)
    (fun s => if s.regionOk r = false ∨ s.lockState r ≠ 0 ∨ isProtected r w ∨ isHash r w ∨ w = lockWord r ∨ w = sealWord r
      then some ⟨errRefused, 0⟩ else none)
    (fun s => s.setOverride r w (some (v.setWidth 24)))

/-- Every override of a region is removed. -/
def State.clearOverrides (s : State) (r : Nat) : State :=
  (List.range (otpWords r)).foldl (fun s w => if (s.override r w).isSome then s.setOverride r w none else s) s

/-- OVR_CLEAR (R347). -/
def doOvrClear (q : Req) (region : BitVec 48) (s : State) : State :=
  s.dictWriteR q (mkKey 0xB 0x053 0) region.toNat (if region.toNat < 3 then regionLevel region.toNat else 0) (fun _ => none)
    (fun _ => none) (fun s => s.clearOverrides region.toNat)

/-! ### Jobs on the array (R348 to R351) -/

/-- An OTP job ends with a result: NONE 0, DONE 1, VERIFY 2, ABORTED 3, SEAL_MISMATCH 4, OVERRIDE_PENDING 5, REFUSED 6 (R450). -/
def State.otpEnd (s : State) (slot r : Nat) : State :=
  (s.put 0xB 0x079 0 r).endJob slot (if r = 1 then 4 else 5) (0xE00600 + r)

/-- OTP_BURN (R348). -/
def doOtpBurn (q : Req) (v : BitVec 48) (s : State) : State :=
  let n := v.toNat
  let r := n / 2 ^ 40 % 4
  let k := mkKey 0xB 0x073 0
  s.dictJob q k n (regionLevel r) (fun _ => none)
    (fun _ => if r = 3 ∨ otpWords r ≤ n / 2 ^ 32 % 256 then some ⟨errRange, 0⟩ else none)
    (fun s => s.startJob q.tag.toNat .otpBurn n [] 0 4 k (some q))

/-- One burn-and-verify round of a word: its fuses are burned, and a failed verification marks it. Which of them then read 1 at normal margin is a free
value (R348; log entry 67). -/
def State.burnRound (s : State) (r w : Nat) (v : Word) (ok : Bool) : State :=
  let x := if ok then v else s.otp r w ||| (v &&& Config.free 24 s.free)
  (((s.setOtp r w x).setMarginal r w (!ok)).setWeak r w (!ok)).whenS (!ok) State.tick

/-- The shadow takes the value as sensed after a burn; an equal override is removed. -/
def State.burnEnd (s : State) (r w : Nat) : State :=
  let v := s.otp r w
  let s := s.setShadow r w v
  if s.override r w = some v then s.setOverride r w none else s

/-- A step of a burn job (R348); `ok` is what the verification at both margins shows. A SAFE device ends it (R352). -/
def State.burnStep (s : State) (slot : Nat) (j : Job) (ok : Bool) : State :=
  let n := j.arg
  let r := n / 2 ^ 40 % 4
  let w := n / 2 ^ 32 % 256
  let v : Word := BitVec.ofNat 24 n
  if j.pc = 0 then
    if s.regionOk r = false ∨ s.lockState r ≠ 0 ∨ s.otp r (sealWord r) ≠ 0 ∨ w = lockWord r ∨ w = sealWord r ∨ s.fused r w ∨ v = 0
    then s.otpEnd slot 6 else s.setJob slot { j with pc := 1 }
  else if s.dev = devSafe then s.otpEnd slot 3
  else
    let s := s.burnRound r w v ok
    if ok then (s.burnEnd r w).otpEnd slot 1
    else if 3 ≤ j.pc then (s.burnEnd r w).otpEnd slot 2
    else s.setJob slot { j with pc := j.pc + 1 }

/-- LOCK (R350). -/
def doLock (q : Req) (region : Fin 3) (s : State) : State :=
  let r := region.val
  let k := mkKey 0xB 0x074 r
  s.dictJob q k 0 (regionLevel r) (fun _ => none) (fun _ => none)
    (fun s => s.startJob q.tag.toNat .otpLock r [] 0 6 k (some q))

/-- COMPLETE (R350): only while the lock reads MARGINAL. -/
def doComplete (q : Req) (region : Fin 3) (s : State) : State :=
  let r := region.val
  let k := mkKey 0xB 0x074 r
  s.dictJob q k 1 (regionLevel r) (fun _ => none) (fun s => if s.lockState r = 2 then none else some ⟨errRefused, 0⟩)
    (fun s => s.startJob q.tag.toNat .otpComplete r [] 0 4 k (some q))

/-- An override of the region differs from the burned word. -/
def State.overridePending (s : State) (r : Nat) : Bool :=
  (List.range (otpWords r)).any (fun w => match s.override r w with | some v => v != s.otp r w | none => false)

/-- A step of a lock job (R350): 0 checks, 1 to 3 the seal, 4 to 6 the lock word, 7 senses the region again. -/
def State.lockStep (s : State) (slot : Nat) (j : Job) (ok : Bool) : State :=
  let r := j.arg
  let lk := lockWord r
  let sl := sealWord r
  let sv := sealOf r (s.otp r)
  if j.pc = 0 then
    if s.regionOk r = false ∨ s.lockState r ≠ 0 then s.otpEnd slot 6
    else if s.overridePending r then s.otpEnd slot 5
    else if s.otp r sl = sv then s.setJob slot { j with pc := 4 }
    else if s.otp r sl = 0 then s.setJob slot { j with pc := 1 }
    else s.otpEnd slot 4
  else if s.dev = devSafe then s.otpEnd slot 3
  else if j.pc ≤ 3 then
    let s := s.burnRound r sl sv ok
    if ok then (s.burnEnd r sl).setJob slot { j with pc := 4 }
    else if j.pc = 3 then s.otpEnd slot 2 else s.setJob slot { j with pc := j.pc + 1 }
  else if j.pc ≤ 6 then
    let s := s.burnRound r lk 0xFFFFFF ok
    if ok then s.setJob slot { j with pc := 7 } else if j.pc = 6 then s.otpEnd slot 2 else s.setJob slot { j with pc := j.pc + 1 }
  else (s.sense r).otpEnd slot 1

/-- A step of COMPLETE: all 24 lock bits are burned again. -/
def State.completeStep (s : State) (slot : Nat) (j : Job) (ok : Bool) : State :=
  if s.dev = devSafe ∧ j.pc ≠ 0 then s.otpEnd slot 3
  else
    let s := s.burnRound j.arg (lockWord j.arg) 0xFFFFFF ok
    if ok then (s.sense j.arg).otpEnd slot 1 else if 2 ≤ j.pc then s.otpEnd slot 2 else s.setJob slot { j with pc := j.pc + 1 }

/-- OTP_AUDIT (R351): on a write of RUN, or started by the supervisor itself. -/
def doOtpAudit (q : Option Req) (s : State) : State :=
  let k := mkKey 0xB 0x075 0
  match q with
  | some q => s.dictJob q k 0 0 (fun _ => none) (fun _ => none)
      (fun s => s.startJob q.tag.toNat .otpAudit 0 [] 0 17 k (some q))
  | none => s.startOwnJob .otpAudit 0 [] 0 17 k

/-- The key of the n-th word of the array, 0 to 511. -/
def otpNth (n : Nat) : Nat × Nat := if n < 128 then (0, n) else if n < 256 then (1, n - 128) else (2, n - 256)

/-- The audit found a word whose readings differ (R351): it is marked MARGINAL, a lock word counts as weak, and WARN OTP_MARGINAL names
the region. -/
def State.auditBad (s : State) (n : Nat) : State :=
  let p := otpNth n
  ((s.setMarginal p.1 p.2 true).whenS (p.2 == lockWord p.1) (·.setWeak p.1 p.2 true)).report (0x0C0003 + 256 * (0x10 + p.1))

/-- A step of the audit (R351): 32 words are read at both margins; where `ok` is false, the words of them whose bit of `bad` is set
read differently. -/
def State.auditStep (s : State) (slot : Nat) (j : Job) (ok : Bool) (bad : Nat) : State :=
  let s := s.whenS (j.pc == 0) (fun s =>
    { s with nvm := { s.nvm with marks := s.nvm.marks.filterMap (fun (p : Nat × BitVec 5) =>
        let v := p.2 &&& ~~~(2 : BitVec 5)
        if v = 0 then none else some (p.1, v)) } })
  if j.pc < 16 then
    let s := if ok then s
      else ((List.range 32).filter (fun i => bad.testBit i)).foldl (fun s i => s.auditBad (32 * j.pc + i)) s
    s.setJob slot { j with pc := j.pc + 1 }
  else
    let n := (s.nvm.marks.filter (fun (p : Nat × BitVec 5) => p.2.getLsbD 1)).length
    ((s.put 0xB 0x077 0 s.t48.toNat).put 0xB 0x078 0 n).otpEnd slot 1

/-! ### Signed images (R65, R66, R342) -/

/-- The bytes of words. -/
def wordsBytes (l : List Word) : List Nat := l.flatMap wordBytes

/-- A hash as it is packed into eleven words (R345). -/
def packHash (h : List Nat) : List Word :=
  (List.range 11).map (fun i => fields 24 [(h.getD (3 * i) 0, 16), (h.getD (3 * i + 1) 0, 8), (h.getD (3 * i + 2) 0, 0)])

/-- The words of a key hash are unburned and read all zero. -/
def State.unburned (s : State) (r : Nat) : Bool := (List.range 11).all (fun w => s.otp r w == 0 && s.otpRead r w == 0)

/-- Step 4 of R66: the key hash of the region, or a CUSTOMER region that is valid and unburned. -/
def State.keyHashOk (s : State) (r : Nat) (key : List Nat) : Bool :=
  if r = 2 ∧ s.regionOk 2 ∧ s.unburned 2 then true
  else s.regionOk r && packHash (sha256 key) == (List.range 11).map (s.otpRead r)

/-- KEY_MODE (R66): DEVELOPMENT 0, LOCKED 1. -/
def State.keyMode (s : State) : Nat := if s.regionOk 2 ∧ s.unburned 2 then 0 else 1

/-- Steps 3 to 5 of R66 over an image of `n` words read by `w`, with the key hash of region r: 0, or the failing step's cause
(3 CRC, 4 KEY, 5 SIGNATURE). -/
def State.sealCheck (s : State) (w : Nat → Word) (n r : Nat) : Nat :=
  let body := (List.range (n - 45)).map w
  let sig := (wordsBytes ((List.range 22).map (fun i => w (n - 44 + i)))).take 64
  let key := (wordsBytes ((List.range 22).map (fun i => w (n - 22 + i)))).take 64
  if crc24 body ≠ w (n - 45) then 3
  else if s.keyHashOk r key = false then 4
  else if ecdsaOk (wordsBytes (body ++ [w (n - 45)])) (beNat (sig.take 32)) (beNat (sig.drop 32)) (beNat (key.take 32))
      (beNat (key.drop 32)) = false then 5
  else 0

/-- A part of 22 words carries one byte in its last word (R65). -/
def lastOk (w : Nat → Word) (n : Nat) : Bool := (w (n - 23)).toNat % 65536 == 0 && (w (n - 1)).toNat % 65536 == 0

/-- Steps 1 and 2 of R66 for a kernel image of n words: 0, or 1 MAGIC_FORMAT, 2 LAYOUT. DESIGN CHOICE (log entry 59): BIND of a port descriptor of
KIND 0 or 1, where it names nothing, may hold any value. -/
def kernelLayout (w : Nat → Word) (n : Nat) : Nat :=
  let h (i : Nat) : Nat := (w i).toNat
  if h 0 ≠ 0x4B524E ∨ h 1 / 65536 ≠ 1 then 1
  else
    let ports := (List.range (h 10)).all (fun i =>
      let d := h (16 + 3 * i)
      decide (d / 2 ^ 20 ≤ 2) && decide (d / 2 ^ 18 % 4 ≠ 0) && decide (d / 256 % 1024 = 0)
        && (d / 2 ^ 20 != 2 || decide (d % 256 < 8)) && decide (h (18 + 3 * i) / 65536 = 0)
        && decide (h (17 + 3 * i) % 65536 + h (18 + 3 * i) % 65536 < 65536))
    let sub0 := 16 + 3 * h 10
    let subs := (List.range (h 11)).all (fun i =>
      let d := h (sub0 + i)
      decide (d / 65536 % 16 ≤ 2) && decide (d / 512 % 128 = 0))
    let relocs := (List.range (h 12)).all (fun i =>
      let d := h (sub0 + h 11 + i)
      decide (d / 2 ^ 22 ≠ 3) && decide (d / 8192 % 512 = 0) && decide (d % 8192 < h 4))
    let sizes := decide (h 1 % 65536 = 0) && decide (1 ≤ h 2) && decide (h 2 ≤ 0xFFFFFE) && decide (1 ≤ h 4) && decide (h 4 ≤ 8192)
      && decide (h 5 < h 4) && decide (h 6 ≤ 65536) && decide (h 7 ≤ h 6) && decide (h 8 ≤ 8192) && decide (h 10 ≤ 8)
      && decide (h 11 ≤ 16) && decide (h 12 ≤ 4095) && decide (h 13 < 4) && decide (h 14 = 0) && decide (h 15 = 0)
    if sizes && ports && subs && relocs && n == sub0 + h 11 + h 12 + h 4 + h 7 + 45 && lastOk w n then 0 else 2

/-- Steps 1 and 2 for a patch image (R342). -/
def patchLayout (w : Nat → Word) (n : Nat) : Nat :=
  let h (i : Nat) : Nat := (w i).toNat
  if h 0 ≠ 0x4B5250 ∨ h 1 / 65536 ≠ 1 then 1
  else if h 1 % 65536 = 0 ∧ 1 ≤ h 3 ∧ h 3 ≤ 65400 ∧ (List.range 11).all (fun i => h (5 + i) == 0) ∧ n = 16 + h 3 + 45 ∧ lastOk w n
    then 0 else 2

/-- The region whose key hash a kernel's identifier needs (R66). -/
def kernelRegion (id : Nat) : Nat := if id < 0x800000 then 0 else 2

end Sys2Proof.Machine
end

