-- ==== Sys2Proof/Machine/Nvm.lean ====
section
/-! DEFINITION. The ferroelectric array: the journal (R332 to R337), Shed (R338 to R340), the user kernel store (R341), the patch
slots and the status region (R342 to R344). -/

namespace Sys2Proof.Machine

/-! ### Journal banks and records (R332, R333) -/

/-- The array address of a journal bank. -/
def bankBase (b : Nat) : Nat := 0x60000 + 0x8000 * b

/-- Header word STATE of a bank; 0 where the header is invalid. COPYING 1, ACTIVE 2, RETIRED 3, unused 4. -/
def State.bankState (s : State) (b : Nat) : Nat :=
  let h := s.framRange (bankBase b) 8
  let st := (h.getD 1 0).toNat
  if h.getD 0 0 = 0x4A524E ∧ crc24 (h.take 7) = h.getD 7 0 then
    (if st = 0xC00001 then 1 else if st = 0xC00002 then 2 else if st = 0xC00003 then 3 else if st = 0 then 4 else 0)
  else 0

/-- GEN of a bank's header. -/
def State.bankGen (s : State) (b : Nat) : Nat := (s.fram (bankBase b + 2)).toNat
/-- S0 of a bank's header. -/
def State.bankS0 (s : State) (b : Nat) : Nat := (s.fram (bankBase b + 3)).toNat * 2 ^ 24 + (s.fram (bankBase b + 4)).toNat

/-- The code of a STATE word. -/
def stateWord (st : Nat) : Nat := if st = 1 then 0xC00001 else if st = 2 then 0xC00002 else if st = 3 then 0xC00003 else 0

/-- The words of a header and where they stand. -/
def headerRun (b st gen s0 : Nat) : Nat × List Word :=
  let w : List Word := [0x4A524E, BitVec.ofNat 24 (stateWord st), BitVec.ofNat 24 gen, BitVec.ofNat 24 (s0 / 2 ^ 24), BitVec.ofNat 24 s0, 0, 0]
  (bankBase b, w ++ [crc24 w])

/-- A header is written, or its write waits. -/
def State.setHeader (s : State) (b st gen s0 : Nat) : State := s.arrayWrite [headerRun b st gen s0]

/-- Words 0 to 3 + LEN of a record in a bank of generation `gen`, without its CRC. -/
def recBody (key ty seq gen : Nat) (vals : List Word) : List Word :=
  [fields 24 [(0x18, 19), (vals.length, 12), (ty, 8), (gen % 256, 0)], BitVec.ofNat 24 key, BitVec.ofNat 24 (seq / 2 ^ 24), BitVec.ofNat 24 seq]
    ++ vals

/-- A whole record (R333). -/
def recWords (key ty seq gen : Nat) (vals : List Word) : List Word :=
  let b := recBody key ty seq gen vals
  b ++ [crc24 b]

/-- A record as it is read back. -/
structure Rec where
  key : Nat
  ty : Nat
  seq : Nat
  vals : List Word
  deriving DecidableEq, Repr

/-- Words of a record. -/
def Rec.len (r : Rec) : Nat := 5 + r.vals.length

/-- What stands at a position of a bank: a record and whether its CRC holds; none where word 0 ends a scan (R337). `gen` is the
GEN it must carry, if any. -/
def State.recAt (s : State) (b pos : Nat) (gen : Option Nat) : Option (Rec × Bool) :=
  let a := bankBase b + pos
  let w := (s.fram a).toNat
  let n := w / 4096 % 128
  if w / 2 ^ 19 ≠ 0x18 ∨ 64 < n ∨ bankWords < pos + 5 + n ∨ gen.any (fun g => w % 256 != g % 256) then none
  else
    let l := s.framRange a (5 + n)
    let g (i : Nat) : Nat := (l.getD i 0).toNat
    some (⟨g 1, w / 256 % 16, g 2 * 2 ^ 24 + g 3, (l.drop 4).take n⟩, decide (crc24 (l.take (4 + n)) = l.getD (4 + n) 0))

/-- The result of a scan: accepted records oldest first, where it ended, and how many records a bad CRC discarded. -/
structure Scan where
  recs : List Rec
  pos : Nat
  bad : Nat
  deriving DecidableEq, Repr

/-- The scan of R337 from a position, after a record of SEQ `last`. -/
def State.scan (s : State) (b gen s0 : Nat) : Nat → Nat → Nat → Scan
  | 0, pos, _ => ⟨[], pos, 0⟩
  | n + 1, pos, last =>
    match s.recAt b pos (some gen) with
    | none => ⟨[], pos, 0⟩
    | some (r, true) =>
      if r.seq ≤ last then ⟨[], pos, 0⟩
      else let x := s.scan b gen s0 n (pos + r.len) r.seq; { x with recs := r :: x.recs }
    | some (r, false) =>
      match s.recAt b (pos + r.len) (some gen) with
      | some (q, true) =>
        if last < q.seq ∧ (q.seq ≤ s0 + 1 ∨ q.seq = max last s0 + 2) then
          let x := s.scan b gen s0 n (pos + r.len) last
          { x with bad := x.bad + 1 }
        else ⟨[], pos, 1⟩
      | _ => ⟨[], pos, 1⟩

/-- The scan of a bank from word 8. -/
def State.scanBank (s : State) (b : Nat) : Scan := s.scan b (s.bankGen b) (s.bankS0 b) 6553 8 0

/-- The raw value of a record's words for an entry type; none where they are not a value of it. -/
def unpack (t : EntType) (l : List Word) : Option Nat :=
  match t.width, l with
  | 48, [a, b] => some (a.toNat * 2 ^ 24 + b.toNat)
  | w, [a] => if t.signed then (let v := (a.toInt % 2 ^ w).toNat; if asInt w v = a.toInt then some v else none) else some a.toNat
  | _, _ => none

/-- A record is applied, or discarded and counted (R337, step 6); in Tadpole mode only those of area C and of LANE_ENABLE
(R365). -/
def State.applyRec (s : State) (r : Rec) : State :=
  let drop := s.bump (mkKey 0xB 0x014 0) 65535
  if s.boot.tadpole ∧ keyArea r.key ≠ 0xC ∧ r.key / 256 ≠ 0x5010 then s
  else match entRow r.key with
  | none => drop
  | some e =>
    if e.kept = false ∨ e.ty.code ≠ r.ty then drop
    else if r.vals = [] then s.putKey r.key (entDefault r.key)
    else match unpack e.ty r.vals with
      | some v => if e.accepts v ∧ outOfRange r.key v = false then s.putKey r.key v else drop
      | none => drop

/-- The highest SEQ of any record with a valid CRC and of any valid header (R337, step 2). A record's word 0 is never zero, so
the listed words of the banks are all that can begin one. -/
def State.highSeq (s : State) : Nat :=
  let recs := s.mem.fram.filterMap (fun (p : Nat × Word) =>
    if bankBase 0 ≤ p.1 ∧ p.1 < bankBase 2 then
      (match s.recAt ((p.1 - bankBase 0) / bankWords) ((p.1 - bankBase 0) % bankWords) none with
        | some (r, true) => some r.seq
        | _ => none)
    else none)
  let heads := [0, 1].filterMap (fun b => if s.bankState b = 0 then none else some (s.bankS0 b))
  (recs ++ heads).foldl max 0

/-- The active bank of R337, step 1. -/
def State.activeBank (s : State) : Option Nat :=
  match s.bankState 0 == 2, s.bankState 1 == 2 with
  | true, true =>
    if s.bankGen 0 < s.bankGen 1 ∨ (s.bankGen 0 = s.bankGen 1 ∧ s.bankS0 0 < s.bankS0 1) then some 1 else some 0
  | true, false => some 0
  | false, true => some 1
  | false, false => none

/-- Replay (R337): persisted entries take the values of the active bank; without one, J0 begins a new generation. NVM_STATE reads
FRESH (1) then. Both banks are read. -/
def State.replay (s : State) : State :=
  let keep (l : Tab Nat) : Tab Nat := l.filter (fun (p : Nat × Nat) => match entRow p.1 with | some e => !e.kept | none => true)
  let s : State := ({ s with ent := keep s.ent } : State).framRead (bankBase 0) bankWords |>.framRead (bankBase 1) bankWords
  let s := s.put 0xB 0x014 0 0
  let s := [0, 1].foldl (fun s b => s.whenS (s.bankState b == 1) (·.report (0x0C0009 + 256 * (3 + b)))) s
  match s.activeBank with
  | none =>
    let h := s.highSeq
    let gens := [0, 1].filterMap (fun b => if s.bankState b = 0 then none else some (s.bankGen b))
    let gen := gens.foldl max 0 + 1
    let s := (s.setHeader 0 2 gen h).put 0xB 0x000 0 1
    { s with nvm := { s.nvm with bank := 0, gen := gen, seq := h, next := h + 1, pos := 8 } }
  | some b =>
    let s := if s.bankState (1 - b) = 2 then s.setHeader (1 - b) 3 (s.bankGen (1 - b)) (s.bankS0 (1 - b)) else s
    let x := s.scanBank b
    let s := (List.range x.bad).foldl (fun s _ => (s.report (0x0C0001 + 256 * (3 + b))).bump (mkKey 0xB 0x014 0) 65535) s
    let s := (x.recs.foldl State.applyRec s).put 0xB 0x000 0 0
    let last := (x.recs.map (fun (r : Rec) => r.seq)).foldl max (s.bankS0 b)
    { s with nvm := { s.nvm with bank := b, gen := s.bankGen b, seq := last, next := last + 1, pos := x.pos } }

/-! ### Writing records (R335, R336) -/

/-- SCORECARD_COPY (R303): the first waiting copy is written, and what waits behind it. -/
def doScorecardCopy (s : State) : State := s.copyFirst.drain

/-- JOURNAL_WRITE (R335): the first write of the oldest waiting record, words 1 to 4 + LEN. -/
def doJournalWrite (s : State) : State :=
  match s.nvm.queue with
  | [] => s
  | r :: _ =>
    let w := recWords r.key r.ty r.seq s.nvm.gen r.words
    if s.turn 0 = false then s
    else
      let s := (s.begun 0).setFram (bankBase s.nvm.bank + s.nvm.pos + 1) w.tail
      { s with nvm := { s.nvm with writing := true } }

/-- The commit of the record that is being written (R335, R336, R338): the commit word; the response, or the PERSIST notification
of a deferred record; what waits behind it; and Shed below SHED_THRESHOLD. -/
def State.journalCommit (s : State) : State :=
  match s.nvm.queue with
  | [] => s
  | r :: rest =>
    if s.nvm.writing = false then s
    else
      let w := recWords r.key r.ty r.seq s.nvm.gen r.words
      let s := s.setFram (bankBase s.nvm.bank + s.nvm.pos) (w.take 1)
      let n : Nvm := { s.nvm with queue := rest, writing := false, seq := r.seq, pos := s.nvm.pos + w.length }
      let s : State := { s with nvm := n }
      let s := match r.owner with
        | some q => s.respond q opWrite 0 0 r.key (statusBody 1 false r.seq)
        | none => if r.answered then s.notify 4 0 [] else s
      s.drain.shedIfLow

/-! ### Shed (R338 to R340) -/

/-- SHED_CMD (R338). -/
def doShedCmd (q : Req) (s : State) : State :=
  s.dictWrite q (mkKey 0xB 0x017 0) 0 (fun _ => none) State.startShed

/-- A record comes in ascending SEQ order. -/
def insRec (r : Rec) : List Rec → List Rec
  | [] => [r]
  | x :: l => if r.seq < x.seq then r :: x :: l else x :: insRec r l

/-- The live set at S0 (R339, step 2): the newest record of every key up to S0 whose value is not its Default. -/
def liveSet (l : List Rec) (s0 : Nat) : List Rec :=
  let old := l.filter (fun r => decide (r.seq ≤ s0))
  ((old.filter (fun r => !(old.any (fun x => x.key == r.key && decide (r.seq < x.seq))))).filter (fun r => r.vals != [])).foldr insRec []

/-- As many leading records as fit in `n` words. -/
def takeWords : Nat → List Rec → List Rec
  | _, [] => []
  | n, r :: l => if r.len ≤ n then r :: takeWords (n - r.len) l else []

/-- A write of Shed has been made: the job step goes on up to five (R339). -/
def ShedRun.count (x : ShedRun) : ShedRun := { x with made := (x.made + 1) % 5 }

/-- One write of records to the target, at most 72 words. -/
def State.shedWrite (s : State) (b : Nat) (x : ShedRun) (l : List Rec) : State :=
  let ws := l.flatMap (fun r => recWords r.key r.ty r.seq x.gen r.vals)
  let y : ShedRun := { x with pos := x.pos + ws.length, upTo := (l.map (fun (r : Rec) => r.seq)).foldl max x.upTo }
  let s := s.setFram (bankBase b + x.pos) ws
  { s with nvm := { s.nvm with shed := some y.count } }

/-- The words of the old bank that Shed has not read yet are read (R329, R339). -/
def State.shedRead (s : State) (x : ShedRun) : State :=
  (s.framRead (bankBase s.nvm.bank + x.seen) (s.nvm.pos - x.seen))

/-- One write of the Shed job (R339); the point after each is a boundary (R340). The header of the target is written in a step of its own, the
records five writes to a step; the step of the switch writes the last records, the zero word and the two headers. -/
def State.shedStep (s : State) (slot : Nat) : State :=
  let old := s.nvm.bank
  let b := 1 - old
  match s.nvm.shed with
  | none =>
    let gens := [0, 1].filterMap (fun k => if s.bankState k = 0 then none else some (s.bankGen k))
    let gen := gens.foldl max 0 + 1
    let s := (s.framRead (bankBase old) s.nvm.pos).setRuns [headerRun b 1 gen s.nvm.seq]
    { s with nvm := { s.nvm with shed := some ⟨2, gen, s.nvm.seq, 8, 0, 0, s.nvm.pos⟩ } }
  | some x =>
    if x.step = 5 then
      let s := s.setRuns [headerRun b 3 (s.bankGen b) (s.bankS0 b)]
      ({ s with nvm := { s.nvm with shed := none } } : State).endJob slot 4 0
    else if x.step = 4 then
      let s := s.setRuns [headerRun b 2 x.gen x.s0]
      { s with nvm := { s.nvm with bank := b, gen := x.gen, pos := x.pos, shed := some { x with step := 5 } } }
    else
      let s := s.shedRead x
      let x := { x with seen := s.nvm.pos }
      let all := (s.scanBank old).recs.filter (fun r => decide (r.seq ≤ s.nvm.seq))
      let todo := (liveSet all x.s0).filter (fun r => decide (x.upTo < r.seq))
      if x.step = 2 ∧ todo ≠ [] then
        let now := takeWords 72 todo
        let s := s.shedWrite b x now
        if now.length < todo.length then s
        else { s with nvm := { s.nvm with shed := s.nvm.shed.map (fun y => { y with step := 3, made := 0 }) } }
      else
        let x := { x with step := 3 }
        let more := all.filter (fun r => decide (max x.s0 x.upTo < r.seq))
        if more ≠ [] then s.shedWrite b x (takeWords 72 more)
        else
          let s := s.setFram (bankBase b + x.pos) (if x.pos < bankWords then [0] else [])
          { s with nvm := { s.nvm with shed := some { x with step := 4 } } }

/-- SHED_STATE (B.018): IDLE 0, QUEUED 1, COPYING 2, COMMITTING 3, PAUSED 4. -/
def State.shedState (s : State) : Nat :=
  if !(s.ref.job.any (fun (p : Nat × Job) => p.2.kind == .shed)) then 0
  else if s.deferring then 4
  else match s.nvm.shed with | none => 1 | some x => if 3 ≤ x.step then 3 else 2

/-! ### Kernel store (R69, R341) -/

/-- The pages in use: the directory, and the run of every stored image. -/
def State.pageRuns (s : State) : List (Nat × Nat) :=
  (0, 2) :: (List.range 64).filterMap (fun kk =>
    if s.dirUsed kk then
      let e := s.dirEntry kk
      some ((e.getD 2 0).toNat, ((e.getD 3 0).toNat + 255) / 256)
    else none)

/-- A page is free. -/
def State.pageFree (s : State) (p : Nat) : Bool := !(s.pageRuns.any (fun u => overlap u (p, 1)))

/-- KSTORE_FREE (3.020): free words. -/
def State.kstoreFree (s : State) : Nat := 256 * ((List.range 1024).filter s.pageFree).length

/-- KSTORE_LARGEST (B.030): the longest run of free pages in words. -/
def State.kstoreLargest (s : State) : Nat :=
  256 * ((List.range 1024).foldl (fun (a : Nat × Nat) p =>
    if s.pageFree p then (max a.1 (a.2 + 1), a.2 + 1) else (a.1, 0)) (0, 0)).1

/-- A directory entry is written, and the entries of its slot follow (R341). -/
def State.setDir (s : State) (kk id ver page len : Nat) : State :=
  let w : List Word := [BitVec.ofNat 24 id, BitVec.ofNat 24 ver, BitVec.ofNat 24 page, BitVec.ofNat 24 len, 0, 0, 0]
  let s := s.setFram (0x20000 + 8 * kk) (w ++ [crc24 w])
  ((s.put 3 0x021 kk id).put 3 0x022 kk (if id = 0 then 0 else ver)).put 3 0x023 kk (b2n (id != 0))

/-- A load job of a signed image ends FAILED with a cause of R450. -/
def State.imgFail (s : State) (slot cause : Nat) : State := s.endJob slot 5 (0xE00100 + cause)

/-- Words that one step of a load job writes: five writes of 72. -/
def imgChunk : Nat := 360

/-- The expected steps of a load job of n words: the checks, the writes, the verification, the directory. -/
def imgSteps (n : Nat) : Nat := min 600 (3 + (n + imgChunk - 1) / imgChunk)

/-- KIMG_LOAD (R69): the write of an image starts its job. -/
def doKimgLoad (q : Req) (image : List Word) (s : State) : State :=
  let k := mkKey 3 0x030 0
  s.dictJob q k 0 0 (fun _ => none) (fun _ => none)
    (fun s => s.startJob q.tag.toNat .kimgLoad 0 image 0 (imgSteps image.length) k (some q))

/-- The words a load job still waits for have not all arrived (R408): the header first, then each chunk. -/
def Job.fed (j : Job) : Bool :=
  if j.pc = 0 then decide (min 16 j.total ≤ j.data.length) else decide (min j.total (imgChunk * j.pc) ≤ j.data.length)

/-- A step of a KIMG_LOAD job (R66, R341): `arg` holds 64 × first page + slot. -/
def State.kimgStep (s : State) (slot : Nat) (j : Job) : State :=
  let n := j.total
  let w (i : Nat) : Word := j.data.getD i 0
  let id := (w 2).toNat
  let chunks := (n + imgChunk - 1) / imgChunk
  if j.pc = 0 then
    let s := s.readDir
    if (s.kimgSlot id).isSome then s.imgFail slot 7
    else match (List.range 64).find? (fun kk => !s.dirUsed kk), freeRun s.pageRuns 2 ((n + 255) / 256) 1024 with
      | some kk, some p => s.setJob slot { j with pc := 1, arg := 64 * p + kk }
      | _, _ => s.imgFail slot 6
  else
    let base := 0x20000 + 256 * (j.arg / 64)
    if j.pc ≤ chunks then
      let lo := imgChunk * (j.pc - 1)
      (s.setFram (base + lo) ((j.data.drop lo).take imgChunk)).setJob slot { j with pc := j.pc + 1 }
    else if j.pc = chunks + 1 then
      let s := s.framRead base n
      let r (i : Nat) : Word := s.fram (base + i)
      let c := kernelLayout r n
      let c := if c ≠ 0 then c else s.sealCheck r n (kernelRegion id)
      if c ≠ 0 then s.imgFail slot c else s.setJob slot { j with pc := j.pc + 1 }
    else (s.setDir (j.arg % 64) id (w 3).toNat (j.arg / 64) n).endJob slot 4 0

/-- KIMG_DELETE (R69): refused while a declared task uses the kernel or if it is not stored. -/
def doKimgDelete (q : Req) (id : Word) (s : State) : State :=
  let k := mkKey 3 0x031 0
  let n := id.toNat
  s.dictJob q k n 0 (fun _ => none)
    (fun s => if (s.kimgSlot n).isNone ∨ (List.range 96).any (fun t => s.dc 2 0x010 t == n && n != 0) then some ⟨errRefused, 0⟩ else none)
    (fun s => s.startJob q.tag.toNat .kimgDelete n [] 0 1 k (some q))

/-- The step of a KIMG_DELETE job. -/
def State.kdelStep (s : State) (slot : Nat) (j : Job) : State :=
  let s := s.readDir
  (match s.kimgSlot j.arg with
    | some kk => s.setDir kk 0 0 0 0
    | none => s).endJob slot 4 0

/-- Every stored image is checked at start (R66): VALID 1 or BAD_SIG 2. -/
def State.imageChecks (s : State) : State :=
  (List.range 64).foldl (fun s kk =>
    if s.dirUsed kk then
      let e := s.dirEntry kk
      let n := (e.getD 3 0).toNat
      let s := s.framRead (s.kimgBase kk) n
      let c := s.sealCheck (fun i => s.fram (s.kimgBase kk + i)) n (kernelRegion (e.getD 0 0).toNat)
      let s := ((s.put 3 0x021 kk (e.getD 0 0).toNat).put 3 0x022 kk (e.getD 1 0).toNat).put 3 0x023 kk (if c = 0 then 1 else 2)
      s.whenS (c != 0) (·.report (0x0C0005 + 256 * (0x40 + kk)))
    else ((s.put 3 0x021 kk 0).put 3 0x022 kk 0).put 3 0x023 kk 0) (s.framRead 0x20000 512)

/-! ### The status region (R344) and the patch slots (R342, R343) -/

/-- Where a copy of a status block stands: block 0 the start-attempt mirror, 1 the patch slot states, 2 PATCH_FLOOR. -/
def statusAt (b c : Nat) : Nat := 0x74100 + 8 * b + 4 * c

/-- A status block, one copy and then the other. -/
def statusRuns (b : Nat) (w : List Word) : List (Nat × List Word) := [(statusAt b 0, w ++ [crc24 w]), (statusAt b 1, w ++ [crc24 w])]

/-- A status block is written, or its write waits. -/
def State.setStatus (s : State) (b : Nat) (w : List Word) : State := s.arrayWrite (statusRuns b w)

/-- A status block as read, or as it will read once its waiting write is made: the first copy whose CRC holds; zeros without one. -/
def State.status (s : State) (b : Nat) : List Word :=
  let c (i : Nat) : List Word := s.framDue (statusAt b i) 4
  if crc24 ((c 0).take 3) = (c 0).getD 3 0 then (c 0).take 3
  else if crc24 ((c 1).take 3) = (c 1).getD 3 0 then (c 1).take 3 else [0, 0, 0]

/-- The status region holds the present patch slot states. -/
def State.savePatch (s : State) : State :=
  s.setStatus 1 [BitVec.ofNat 24 (s.en 0xB 0x020 0), BitVec.ofNat 24 (s.en 0xB 0x020 1), (s.status 1).getD 2 0]

/-- The status region remembers the TRIAL slot that a start runs, as its number + 1 (R343); 0 for none. -/
def State.markTrial (s : State) (v : Nat) : State := s.setStatus 1 ((s.status 1).take 2 ++ [BitVec.ofNat 24 v])

/-- PATCH_STATUS of a slot: EMPTY 0, VALID 1, TRIAL 2, CONFIRMED 3, REJECTED 4, BAD_SIG 5. -/
def State.setPatch (s : State) (p st ver : Nat) : State := ((s.put 0xB 0x020 p st).put 0xB 0x021 p ver).savePatch

/-- A word of a patch slot. -/
def State.patchW (s : State) (p i : Nat) : Word := s.fram (65536 * p + i)
/-- The length of the image that a slot's header states. -/
def State.patchLen (s : State) (p : Nat) : Nat := 61 + (s.patchW p 3).toNat

/-- The image of a slot passes R66 steps 3 to 5 with the VENDOR key hash (R343). -/
def State.patchOk (s : State) (p : Nat) : Bool :=
  patchLayout (s.patchW p) (s.patchLen p) == 0 && s.sealCheck (s.patchW p) (s.patchLen p) 0 == 0

/-- PATCH_LOAD (R342). -/
def doPatchLoad (q : Req) (image : List Word) (s : State) : State :=
  let k := mkKey 0xB 0x023 0
  s.dictJob q k 0 0 (fun _ => none) (fun _ => none)
    (fun s => s.startJob q.tag.toNat .patchLoad 0 image 0 (imgSteps image.length) k (some q))

/-- A step of a PATCH_LOAD job (R342): the slot not in use is written; an image that passes is TRIAL. -/
def State.patchStep (s : State) (slot : Nat) (j : Job) : State :=
  let n := j.total
  let w (i : Nat) : Word := j.data.getD i 0
  let chunks := (n + imgChunk - 1) / imgChunk
  if j.pc = 0 then
    let p := if s.en 0xB 0x022 0 = 1 then 1 else 0
    let c := if (w 0).toNat ≠ 0x4B5250 ∨ (w 1).toNat / 65536 ≠ 1 then 1 else if 65536 < n then 2 else 0
    if c ≠ 0 then s.imgFail slot c else (s.setPatch p 0 0).setJob slot { j with pc := 1, arg := p }
  else if j.pc ≤ chunks then
    let lo := imgChunk * (j.pc - 1)
    (s.setFram (65536 * j.arg + lo) ((j.data.drop lo).take imgChunk)).setJob slot { j with pc := j.pc + 1 }
  else if j.pc = chunks + 1 then
    let s := s.framRead (65536 * j.arg) n
    let r := s.patchW j.arg
    let c := patchLayout r n
    let c := if c ≠ 0 then c else s.sealCheck r n 0
    let c := if c ≠ 0 then c else if (w 4) ≠ s.otpRead 1 1 then 8 else if (w 2).toNat < s.en 0xB 0x024 0 then 9 else 0
    if c ≠ 0 then s.imgFail slot c else s.setJob slot { j with pc := j.pc + 1, cancellable := false }
  else (s.setPatch j.arg 2 (w 2).toNat).endJob slot 4 0

/-- PATCH_FLOOR_RAISE (R343): at most the PATCH_VER of the running slot; the floor never falls. -/
def doPatchFloorRaise (q : Req) (v : BitVec 48) (s : State) : State :=
  s.dictWriteR q (mkKey 0xB 0x025 0) v.toNat 0 (fun _ => none)
    (fun s => match s.boot.slot with
      | some p => if v.toNat ≤ s.en 0xB 0x021 p then none else some ⟨errRefused, 0⟩
      | none => some ⟨errRefused, 0⟩)
    (fun s =>
      let f := max (s.en 0xB 0x024 0) v.toNat
      (s.put 0xB 0x024 0 f).setStatus 2 [BitVec.ofNat 24 f, 0, 0])

/-- A slot that is to run is checked; one that fails is BAD_SIG with its WARN (R343). -/
def State.tryPatch (s : State) (p st : Nat) : State × Bool :=
  if s.en 0xB 0x020 p ≠ st then (s, false)
  else
  let s := s.framRead (65536 * p) (min 65536 (s.patchLen p))
  if s.patchOk p then (s, true)
  else ((s.setPatch p 5 (s.en 0xB 0x021 p)).report (0x0C0005 + 256 * p), false)

/-- The entries of the patch slots and the floor as the status region holds them (R344). -/
def State.loadPatches (s : State) : State :=
  let st := s.status 1
  let s := [0, 1].foldl (fun s p =>
    (s.put 0xB 0x020 p (st.getD p 0).toNat).put 0xB 0x021 p (if (st.getD p 0).toNat = 0 then 0 else (s.patchW p 2).toNat)) s
  s.put 0xB 0x024 0 ((s.status 2).getD 0 0).toNat

/-- The patch slot of a start (R343): a TRIAL slot that an earlier start ran without confirming it is REJECTED; a TRIAL
slot, else the CONFIRMED one, else the ROM alone. PATCH_ACTIVE NONE 0, A 1, B 2. -/
def State.selectPatch (s : State) : State :=
  let m := ((s.status 1).getD 2 0).toNat
  let s := (s.loadPatches).markTrial 0
  let s := if m ≠ 0 ∧ s.en 0xB 0x020 (m - 1) = 2 then s.setPatch (m - 1) 4 (s.en 0xB 0x021 (m - 1)) else s
  let run (s : State) (p : Nat) (trial : Bool) : State :=
    let v := s.patchW p 2
    let s := s.whenS trial (fun s => s.markTrial (p + 1))
    ({ s with boot := { s.boot with slot := some p, trial := trial, fwVer := v } } : State).put 0xB 0x022 0 (p + 1)
  let a := s.tryPatch 0 2
  if a.2 then run a.1 0 true
  else
    let b := a.1.tryPatch 1 2
    if b.2 then run b.1 1 true
    else
      let c := b.1.tryPatch 0 3
      if c.2 then run c.1 0 false
      else
        let d := c.1.tryPatch 1 3
        if d.2 then run d.1 1 false
        else ({ d.1 with boot := { d.1.boot with slot := none, trial := false, fwVer := BitVec.ofNat 24 (s.en 0 0x003 0) } } : State).put
          0xB 0x022 0 0

end Sys2Proof.Machine
end

