-- ==== Sys2Proof/Machine/Stages.lean ====
section
/-! DEFINITION. The stage state machine (09_motor_stages.md, 10_conversion_stages.md): declaration, commands, the precheck,
contactors and precharge, identification, posts to the vendor kernels and the mirror of their status words. -/

namespace Sys2Proof.Machine

/-! ### Declaration (R230, R231, R265, R283) -/

/-- The entries of a stage that take effect at DECLARE (R230): the RWI entries of area D. -/
def stageEntries : List Nat :=
  entriesD.flatMap (fun r => if r.acc = .rwi then (List.range r.cnt).map (fun i => r.ent0 + r.stride * i) else [])

/-- The keys of a stage's declaration: its entries of area D, and the derating entries 2.070 to 2.077 (R91, R230). -/
def stageKeys (g : Nat) : List Nat :=
  stageEntries.map (fun e => mkKey 0xD e g) ++ (List.range 8).map (fun e => mkKey 2 (0x070 + e) g)

/-- The clusters, and the slots of one of them, that the entries of a stage name. -/
def State.wantCls (s : State) (g : Nat) : List Nat := (List.range 12).filter (fun c => (s.en 0xD 0x001 g).testBit c)
/-- The held slots of a cluster in a declaration. -/
def State.wantSlots (s : State) (g c : Nat) : List Nat := (List.range 4).filter (fun k => (s.en 0xD 0x002 g).testBit (4 * c + k))

/-- A further cluster follows the first in step (R265). -/
def State.inStep (s : State) (a b : Nat) : Bool := s.en 4 0x031 b == a && s.en 4 0x032 b == 0

/-- The layout of a type (R231, R265). -/
def State.layoutOk (s : State) (g : Nat) : Bool :=
  let typ := s.en 0xD 0x000 g
  let cls := s.wantCls g
  let sl := s.wantSlots g
  decide (s.en 0xD 0x001 g < 4096) && (match typ, cls with
    | 1, [c] => [0, 1, 2].all (sl c).contains
    | 2, [c] => [0, 1, 2].all (sl c).contains
    | 3, [c] => sl c == [0, 1, 2]
    | 4, [c] => sl c == List.range (s.en 0xD 0x610 g) ++ [3]
    | 5, [c] => sl c == [0, 1, 2, 3]
    | 6, [c] => s.en 0xD 0x710 g != 2 && sl c == (if s.en 0xD 0x710 g = 1 then [0, 1, 2] else [0, 1])
    | 6, [a, b] => s.en 0xD 0x710 g == 2 && sl a == [0, 1] && sl b == [0] && s.inStep a b
    | 7, a :: r => decide (r.length ≤ 2) && (a :: r).all (fun c => sl c != [] && sl c == List.range (sl c).length) && r.all (s.inStep a)
    | 8, [] => true
    | _, _ => false)

/-- The mask pages 0 to 7 that an accepted DECLARE writes (R231, R255, R265). -/
def stagePages (typ : Nat) : List Nat :=
  if typ = 2 then [0x5590, 0x5950, 0x5905, 0x5509, 0x5059, 0x5095, 0x5555, 0x5555]
  else if typ = 4 then [0, 0, 0, 0, 0, 0, 0x0555, 0x5555]
  else if typ = 7 then [0x5550, 0x5500, 0x5000, 0, 0x5555, 0x5555, 0x5555, 0x5555]
  else [0, 0, 0, 0, 0, 0, 0, 0x5555]

/-- The kernel of a role (R233, R264): role 0 main, 1 speed, 2 guard, 3 gate profile, 4 the junction estimate; 0 where the type has no such
role. -/
def roleKernel (typ role : Nat) : Nat :=
  match role with
  | 0 => if typ = 1 then 0x110 else if typ = 2 then 0x113 else 0x130 + (typ - 3)
  | 1 => if typ ≤ 2 then 0x111 else 0
  | 2 => if typ ≤ 2 then 0x112 else if typ = 8 then 0x137 else 0x136
  | 3 => 0x121
  | _ => 0x120

/-- The class of a role: CONTROL 1, SAFETY 0, OPTIMISE 2. -/
def roleClass (role : Nat) : Nat := if role = 2 then 0 else if role = 3 then 2 else 1

/-- A task in a role has the stage, the kernel and the class of R233, as its entries say. -/
def State.roleFits (s : State) (g typ role t : Nat) : Bool :=
  decide (t < 96) && s.en 2 0x012 t == g && roleKernel typ role != 0 && s.en 2 0x010 t == roleKernel typ role
    && s.en 2 0x011 t == roleClass role

/-- The base of an EFT declaration meets R283. -/
def State.baseOk (s : State) (g : Nat) : Bool :=
  let b := s.en 0xD 0x900 g
  let n := s.dc 0xD 0x003 b
  decide (b < 12) && s.declared b && s.dc 0xD 0x000 b == 1 && decide (n < 4) && s.en 8 0x015 n == 1 && s.en 8 0x014 n != 0
    && s.en 0xD 0x001 g == 0 && s.en 0xD 0x002 g == 0 && s.en 0xD 0x003 g == 0xFF

/-- The contactors that the entries of a stage name (R268). -/
def State.wantCts (s : State) (g : Nat) : List Nat :=
  (if s.en 0xD 0x000 g = 8 then [s.en 0xD 0x902 g] else [s.en 0xD 0x551 g, s.en 0xD 0x550 g]).filter (fun k => decide (k < 8))

/-- Every generator lies in a held cluster, and no other stage holds a resource of the declaration (R231, R268). -/
def State.freeRes (s : State) (g : Nat) : Bool :=
  let others := (List.range 12).filter (fun h => h != g && s.declared h)
  let qe := s.en 0xD 0x003 g
  (List.range 48).all (fun n => !(s.en 0xD 0x002 g).testBit n || (s.en 0xD 0x001 g).testBit (n / 4))
    && others.all (fun h =>
      (List.range 16).all (fun c => !((s.en 0xD 0x001 g).testBit c && (s.dc 0xD 0x001 h).testBit c))
        && (List.range 48).all (fun n => !((s.en 0xD 0x002 g).testBit n && (s.dc 0xD 0x002 h).testBit n))
        && (qe == 0xFF || s.dc 0xD 0x003 h != qe)
        && (s.wantCts g).all (fun k => !(s.ctOf h).contains k))

/-- The further limits of a conversion type (R267, R281). -/
def State.convLimits (s : State) (g : Nat) : Bool :=
  let typ := s.en 0xD 0x000 g
  let mode := s.en 0xD 0x501 g
  if typ = 3 then mode == 0
  else if typ = 4 then mode == 0 && decide (s.en 0xD 0x613 g ≤ s.en 0xD 0x610 g)
  else if typ = 7 then decide (5 * s.enS 24 0xD 0x721 g ≤ 4 * s.enS 24 0xD 0x720 g)
  else if typ = 8 then mode == 1 || mode == 2
  else true

/-- The comparators of ILIM_CW: each held by the stage, at most 3 for PMSM_FOC and 1 for BLDC_6STEP. -/
def State.ilimCws (s : State) (g : Nat) : List Nat := (List.range 48).filter (fun c => (s.en 0xD 0x028 g).testBit c)

/-- The derating entries meet R91 and R92. -/
def State.derateOk (s : State) (g : Nat) : Bool :=
  let dt := s.en 2 0x071 g
  s.en 2 0x070 g == 0 || (decide (dt < 96) && s.en 2 0x012 dt == g && decide (s.en 2 0x011 dt ≤ 1)
    && decide (s.enS 16 2 0x073 g < s.enS 16 2 0x074 g - 160) && decide (s.enS 16 2 0x074 g < s.enS 16 2 0x075 g))

/-- The nominal PERIOD of the first cluster a declaration runs on. -/
def State.wantPeriod (s : State) (g : Nat) : Option Nat :=
  let cls := if s.en 0xD 0x000 g = 8 then s.stageCls (s.en 0xD 0x900 g) else s.wantCls g
  cls.head?.map (fun c => s.en 4 0x030 c)

/-- The first failing check of R231, as the code of STAGE_REFUSE (R400). -/
def State.refuseStage (s : State) (g : Nat) : Option Nat :=
  let typ := s.en 0xD 0x000 g
  let st := (s.stg g).st
  let qe := s.en 0xD 0x003 g
  if ¬ (st = .off ∨ st = .ready) ∨ s.eftOver g ≠ [] then some 1
  else if typ = 0 ∨ 8 < typ ∨ (typ = 8 ∧ s.baseOk g = false) then some 2
  else if s.freeRes g = false then some 3
  else if s.layoutOk g = false then some 4
  else if ¬ (qe = 0xFF ∨ qe < 4) ∨ (typ ≤ 2 ∧ qe = 0xFF ∧ s.en 0xD 0x105 g = 0) then some 5
  else if (List.range 4).any (fun r => s.en 0xD (0x004 + r) g != 0xFF && !s.roleFits g typ r (s.en 0xD (0x004 + r) g)) then some 6
  else if ¬ (s.enS 24 0xD 0x020 g < s.enS 24 0xD 0x021 g ∧ s.enS 24 0xD 0x022 g < s.enS 24 0xD 0x023 g
      ∧ s.enS 24 0xD 0x023 g < s.enS 24 0xD 0x024 g) ∨ s.convLimits g = false then some 7
  else if s.derateOk g = false then some 8
  else if (match s.wantPeriod g with | some p => decide (p ≤ s.en 0xD 0x115 g + 8) | none => false) then some 9
  else if (s.ilimCws g).any (fun c => s.en 7 0x066 c != g) ∨ (typ = 1 ∧ 3 < (s.ilimCws g).length)
      ∨ (typ = 2 ∧ 1 < (s.ilimCws g).length) then some 7
  else none

/-- An accepted declaration (R231): resources held, pages written, READY. -/
def State.declare (s : State) (g : Nat) : State :=
  let s := s.snapDecl (stageKeys g)
  let typ := s.dc 0xD 0x000 g
  let s := if typ = 8 then s else (s.stageCls g).foldl (fun s c =>
    ((stagePages typ).zipIdx).foldl (fun s (p : Nat × Nat) => s.put 4 (0x040 + p.2) c p.1) s) s
  s.stgTo g .ready

/-- A declaration that is checked: taken, or refused with its reason in STAGE_REFUSE. -/
def State.tryDeclare (s : State) (g : Nat) : State :=
  match s.refuseStage g with
  | some r => s.put 0xD 0x012 g r
  | none => (s.declare g).put 0xD 0x012 g 0

/-- Entry to IDLE (R232): each stage whose STAGE_TYPE is not NONE is declared, an EFT stage after the others. -/
def State.declareAll (s : State) : State :=
  let go (eft : Bool) (s : State) : State := (List.range 12).foldl (fun s g =>
    let typ := s.en 0xD 0x000 g
    if typ ≠ 0 ∧ (s.stg g).st = .off ∧ decide (typ = 8) = eft then s.tryDeclare g else s) s
  go true (go false s)

/-! ### Commands (R237) -/

/-- Migrations of stages that have left ARMED and RUN are abandoned (R89). -/
def State.sweepMigs (s : State) : State :=
  (List.range 12).foldl (fun s g =>
    if (s.stg g).st = .armed ∨ (s.stg g).st = .run then s else s.abortStageMigs g) s

/-- A stage command (R237, R400, R401): refused with its reason in STAGE_REFUSE and in DETAIL, or carried out. -/
def State.stageCmd (s : State) (q : Req) (g v : Nat) (why : State → Option Nat) (effect : State → State) : State :=
  let k := mkKey 0xD 0x010 g
  s.serve q opWrite k 0 (fun s =>
    match s.writeCheck q.ses.val k v 0 none with
    | .error e => s.refuse q opWrite k e
    | .ok _ =>
      match why s with
      | some r => (s.put 0xD 0x012 g r).refuse q opWrite k ⟨errRefused, r⟩
      | none => ((effect (s.put 0xD 0x012 g 0)).sweepMigs).respond q opWrite 0 0 k (statusBody 0 false 0))

/-- DECLARE (R231); tasks of the stage that hold no engine are placed (R79). -/
def doDeclare (q : Req) (st : Fin 12) (s : State) : State :=
  s.stageCmd q st 0 (fun s => s.refuseStage st) (fun s => (s.declare st).placeStage st)

/-- REMOVE (R231): refused while a task names the stage, or an EFT stage stands on it (R283). -/
def doRemove (q : Req) (st : Fin 12) (s : State) : State :=
  s.stageCmd q st 1
    (fun s => if (s.stg st).st ≠ .ready ∨ s.eftOver st ≠ [] then some 1 else if s.stageTasks st ≠ [] then some 13 else none)
    (fun s => (s.stgTo st .off).clearDecl (stageKeys st))

/-- The clusters of a stage stop. -/
def State.stopStage (s : State) (g : Nat) : State := (s.stageCls g).foldl (fun s c => s.stopCl c) s

/-- OUTEN of a stage's clusters. -/
def State.outenStage (s : State) (g : Nat) (v : Bool) : State := (s.stageCls g).foldl (fun s c => s.setOuten c v) s

/-- ARM is refused (R237, R283): STATE, or LENT between an EFT stage and its base. -/
def State.refuseArm (s : State) (g : Nat) : Option Nat :=
  if (s.stg g).st ≠ .ready then some 1
  else if (s.eftOver g).any (fun h => (s.stg h).st != .ready && (s.stg h).st != .off) then some 14
  else if s.dc 0xD 0x000 g = 8 ∧ (s.stg (s.owner g)).st ≠ .ready then some 14
  else none

/-- ARM (R237, R238): the precheck job is queued. -/
def doArm (q : Req) (st : Fin 12) (s : State) : State :=
  let k := mkKey 0xD 0x010 st
  s.serve q opWrite k 0 (fun s =>
    match s.writeCheck q.ses.val k 2 0 none with
    | .error e => s.refuse q opWrite k e
    | .ok _ =>
      match s.refuseArm st with
      | some r => (s.put 0xD 0x012 st r).refuse q opWrite k ⟨errRefused, r⟩
      | none =>
        if s.slotBusy q.tag.toNat then s.refuse q opWrite k ⟨errBusy, 0⟩
        else
          let s := (s.put 0xD 0x012 st 0).startJob q.tag.toNat .precheck st [] 0 (min 600 (12 + (s.stageGens st).length)) k (some q)
          let s := (s.put 0xD 0x013 st 0).setStg st { s.stg st with cnt := 0, since := s.t48.toNat, readAt := 0 }
          ((s.stgTo st .precheck).respond q opWrite 0 0 k (statusBody 0 true 0)).holdTag q)

/-! ### Posts and the status mirror (R235) -/

/-- A record whose content the spec keeps to the vendor kernels: its length and its words are free values. -/
def State.freeRec (s : State) : List Word × State :=
  let n := (Config.free 8 s.free).toNat % 32 + 1
  ((List.range n).map (fun i => Config.free 24 (s.free + 1 + i)), { s with free := s.free + 33 })

/-- A record is posted to every KIND 5 input of a task, at its migration's target too. -/
def State.postTask (s : State) (t : Nat) : State :=
  let r := s.freeRec
  (List.range 4).foldl (fun s i =>
    let x := s.task t
    if s.dc 2 (0x020 + i) t / 4096 ≠ 5 ∨ x.placed = false then s
    else
      let s := match x.mboxes.getD i none with
        | some m => s.mboxRecord (4 * x.engine + m) r.1
        | none => s
      match x.mig with
      | some g => if g.copied then (match g.mboxes.getD i none with
          | some m => s.mboxRecord (4 * g.dst + m) r.1
          | none => s) else s
      | none => s) r.2

/-- A post to every task of a stage. -/
def State.postStage (s : State) (g : Nat) : State := (s.stageTasks g).foldl (fun s t => s.postTask t) s

/-- A command is posted to MAIN_TASK. -/
def State.postMain (s : State) (g : Nat) : State := s.postTask (s.dc 0xD 0x004 g)

/-- The flags entry of a stage: MOTOR_FLAGS or CONV_FLAGS. -/
def State.flagsKey (s : State) (g : Nat) : Nat := mkKey 0xD (if s.dc 0xD 0x000 g ≤ 2 then 0x049 else 0x547) g

/-- OFS_DONE: reported, and not to be measured again (R239). -/
def State.ofsDone (s : State) (g : Nat) : Bool := (s.getKey (s.flagsKey g)).testBit 0 && (s.kern g).ofsDone

/-- An ADC channel's latest result times a full scale in mV (R189, R266). -/
def State.chanVolts (s : State) (ch : Nat) (fs : Int) : Int :=
  (Tab.get (fun _ => (0 : Word)) s.acq.res ch).toInt * fs / 8388608

/-- The measured bus voltage lies within VBUS_MIN to VBUS_MAX (R237, R238). -/
def State.vbusOk (s : State) (g : Nat) : Bool :=
  let v := s.chanVolts (s.dc 0xD 0x02B g) (asInt 24 (s.dc 0xD 0x02C g))
  decide (s.dc 0xD 0x02B g < 64) && decide (asInt 24 (s.dc 0xD 0x020 g) ≤ v) && decide (v ≤ asInt 24 (s.dc 0xD 0x021 g))

/-- RUN is refused (R237, R271, R284): for STAR_AC the kernel's peak of vSTAR over 25 ms is compared. -/
def State.refuseRun (s : State) (g : Nat) : Option Nat :=
  let typ := s.dc 0xD 0x000 g
  let vin := if typ = 8 ∧ s.dc 0xD 0x901 g = 0 then (s.kern g).vin else s.enS 24 0xD 0x540 g
  let vref := s.enS 24 0xD 0x502 g
  if (s.stg g).st ≠ .armed ∨ (s.stg g).disarming then some 1
  else if s.ofsDone g = false then some 10
  else if s.vbusOk g = false then some 11
  else if (typ = 3 ∨ typ = 4) ∧ (vref < 0 ∨ 1000 * vref * vref < 2205 * vin * vin) then some 15
  else if typ = 8 ∧ 9 * s.enS 24 0xD 0x541 g < 10 * vin then some 16
  else none

/-- RUN (R237, R240). -/
def doRun (q : Req) (st : Fin 12) (s : State) : State :=
  s.stageCmd q st 3 (fun s => s.refuseRun st) (fun s => ((s.postMain st).outenStage st true).stgTo st .run)

/-- STOP (R237, R241). -/
def doStop (q : Req) (st : Fin 12) (s : State) : State :=
  s.stageCmd q st 4 (fun s => if (s.stg st).st = .run then none else some 1) (fun s => (s.postMain st).stgTo st .rampdown)

/-- DISARM (R237, R270, R285): an EFT stage with a closed star contactor stays ARMED until its feedback reads open. -/
def doStageDisarm (q : Req) (st : Fin 12) (s : State) : State :=
  s.stageCmd q st 5 (fun s => if (s.stg st).st = .armed ∧ (s.stg st).disarming = false then none else some 1) (fun s =>
    let s := s.openLater st
    if s.dc 0xD 0x000 st = 8 ∧ s.ctOf st ≠ [] then s.setStg st { s.stg st with disarming := true }
    else (s.stopStage st).stgTo st .ready)

/-- CLEAR (R237, R298): refused while the fault in HALT_CODE is live. -/
def doClear (q : Req) (st : Fin 12) (s : State) : State :=
  s.stageCmd q st 6
    (fun s => if (s.stg st).st ≠ .halted then some 1 else if s.flt.live.contains (s.en 0xD 0x014 st) then some 12 else none)
    (fun s => ((s.stopStage st).clearStage st).stgTo st .ready)

/-- The offsets of a stage that goes ARMED are measured again (R239). -/
def State.ofsAgain (s : State) (g : Nat) : State := s.setKern g { s.kern g with ofsN := 0, ofs := [], ofsDone := false }

/-- What every transition to ARMED does beside the state: the compare table of the stage's interface is loaded (R217), the parameters are posted
(R235). -/
def State.armedLoads (s : State) (g : Nat) : State :=
  let n := s.dc 0xD 0x003 g
  (if n < 4 then qeLoadTable s n else s).postStage g

/-- A stage leaves RAMPDOWN for ARMED (R237). -/
def State.rampEnd (s : State) (g : Nat) : State := ((((s.outenStage g false).stgTo g .armed).ofsAgain g).armedLoads g).sweepMigs

/-- RAMP_DONE (R237). -/
def doRampDone (st : Fin 12) (s : State) : State := if (s.stg st).st = .rampdown then s.rampEnd st else s

/-- STAGE_RAMP_TIMEOUT (R241). -/
def doStageRampTimeout (st : Fin 12) (s : State) : State :=
  if (s.stg st).st = .rampdown then (s.rampEnd st).report (0x080002 + 256 * st.val) else s

/-- FAULT_REPORT (R293), with the migrations that a halted stage ends (R89). -/
def doFaultReport (code : BitVec 24) (s : State) : State := (s.faultReport code.toNat).sweepMigs

/-- The entry that a stage takes its command from (R245, R267). -/
def State.cmdEntry (s : State) (g : Nat) : Nat :=
  if s.dc 0xD 0x000 g ≤ 2 then 0x032 + s.dc 0xD 0x030 g else 0x502 + s.dc 0xD 0x501 g

/-- A fresh setpoint (R245): a write of the command that the stage follows, with SP_SOURCE = DICT. -/
def State.freshSet (s : State) (k : Nat) : State :=
  let g := keyElem k
  if keyEntry k = s.cmdEntry g ∧ s.dc 0xD 0x031 g = 0 then s.setKern g { s.kern g with setAt := s.t48.toNat, expired := false } else s

/-- PARAMETER_POST (R235): a write of an RW entry of a stage, posted while the stage is armed. I_LIM stays below I_CBC. -/
def doParameterPost (q : Req) (key : BitVec 24) (v : BitVec 48) (s : State) : State :=
  let k := key.toNat
  let g := keyElem k
  match entRow k with
  | some r =>
    if r.acc = .rw ∧ r.area = 0xD then
      s.dictWriteR q k v.toNat 0 (fun _ => none)
        (fun s => if keyEntry k = 0x022 ∧ s.enS 24 0xD 0x023 g ≤ asInt 24 (v.toNat % 2 ^ 24) then some ⟨errRefused, 0⟩ else none)
        (fun s => if (s.stg g).st.armedRwi then (s.postStage g).freshSet k else s)
    else s
  | none => s.dictWriteR q k v.toNat 0 (fun _ => none) (fun _ => none) id

/-- The state words of a placed task. -/
def State.stateWord (s : State) (t i : Nat) : Nat := (s.memWord (s.task t).engine ((s.task t).state + i)).toNat

/-- The deviation of an EFT stage's rotor from EFT_POS0, signed modulo QE_CPR (R287). -/
def State.rotDev (s : State) (g : Nat) : Int :=
  let n := s.dc 0xD 0x003 (s.owner g)
  let m : Int := max 1 (s.en 8 0x014 n : Int)
  let d := (((s.qe n).pos.toNat : Int) - (s.en 0xD 0x90C g : Int)) % m
  if m ≤ 2 * d then d - m else d

/-- A value as the words of an S24 entry. -/
def word24 (v : Int) : Nat := (BitVec.ofInt 24 (max (-8388608) (min 8388607 v))).toNat

/-- STATUS_MIRROR (R235, R264): state words 0 to 9 of MAIN_TASK become the ten status entries, D.048 apart, which is I_FS; with them RUN_MODE in
RUN, and the counts and peaks of R257, R280 and R286. -/
def doStatusMirror (st : Fin 12) (s : State) : State :=
  let g := st.val
  let typ := s.dc 0xD 0x000 g
  let t := s.dc 0xD 0x004 g
  if s.declared g = false ∨ 96 ≤ t ∨ (s.task t).placed = false then s
  else
    let base := if typ ≤ 2 then 0x040 else 0x540
    let s := (List.range 10).foldl (fun s i =>
      let w := s.stateWord t i
      if base + i = 0x048 then s
      else s.put 0xD (base + i) g (if base + i = 0x049 ∨ base + i = 0x547 ∨ base + i = 0x549 then w % 256 else w)) s
    let k := s.kern g
    let s := if (s.stg g).st = .run ∧ s.en 0xD 0x015 g ≠ 6 then s.put 0xD 0x015 g k.phase else s
    let s := if s.dc 2 0x070 g = 1 ∧ s.dc 2 0x071 g < 96 ∧ (s.task (s.dc 2 0x071 g)).placed
      then s.put 0xD 0x307 g (s.stateWord (s.dc 2 0x071 g) 0 % 65536) else s
    let s := if typ = 2 then s.put 0xD 0x20A g k.late else s
    let s := if typ = 6 then s.put 0xD 0x712 g k.skew else s
    if typ = 8 then
      ((s.put 0xD 0x90D g (BitVec.ofInt 16 (s.rotDev g)).toNat).put 0xD 0x90E g (word24 k.tPk)).put 0xD 0x90F g (word24 k.dPk)
    else s

/-! ### The precheck (R233, R234, R238, R244, R264, R266) -/

/-- KIND and instance of an input of a declared task. -/
def State.inputOf (s : State) (t i : Nat) : Nat × Nat := (s.dc 2 (0x020 + i) t / 4096, s.dc 2 (0x020 + i) t % 4096)

/-- A declared task has a binding. -/
def State.binds (s : State) (t kind inst : Nat) (write : Bool) : Bool :=
  (List.range 8).any (fun b =>
    let v := s.dc 2 (0x024 + b) t
    v / 2 ^ 20 == kind && v % 65536 == inst && (!write || v.testBit 19))

/-- A declared task has a binding to a receive process map. -/
def State.bindsMap (s : State) (t : Nat) : Bool := (List.range 32).any (fun m => s.binds t 11 m false)

/-- The channels of a sequence (R185), as channel numbers. -/
def State.wantChans (s : State) (i : Nat) : List Nat :=
  (List.range (s.en 7 0x021 i)).map (fun m =>
    16 * (i / 8) + (if m < 12 then s.en 7 0x022 i / 16 ^ m % 16 else s.en 7 0x023 i / 16 ^ (m - 12) % 16))

/-- The number of results in the records of an input: of a sequence or of a latch group. -/
def State.results (s : State) (v : Nat × Nat) : Nat :=
  if v.1 = 1 then s.en 7 0x021 v.2
  else if v.1 = 2 then ((List.range 32).filter (fun f => (s.en 7 0x051 v.2).testBit f)).length else 0

/-- The input delivers the bus voltage: a sequence that converts VBUS_CH. -/
def State.givesBus (s : State) (g : Nat) (v : Nat × Nat) : Bool := v.1 == 1 && (s.wantChans v.2).contains (s.dc 0xD 0x02B g)

/-- A measurement input. -/
def isMeas (v : Nat × Nat) : Bool := v.1 == 1 || v.1 == 2

/-- A task is PLACED or ACTIVE in its role, with the stage's cluster as period source and its divider (R233). -/
def State.rolePlaced (s : State) (g typ role t : Nat) : Bool :=
  s.taskOn t && s.dc 2 0x012 t == g && s.dc 2 0x010 t == roleKernel typ role && s.dc 2 0x011 t == roleClass role
    && (s.taskStatus t == 2 || s.taskStatus t == 3) && (s.stageCls g).head? == some (s.dc 2 0x013 t)

/-- Check 3 for the inputs and bindings of MAIN_TASK m. -/
def State.mainOk (s : State) (g typ m : Nat) : Bool :=
  let inp := s.inputOf m
  let cls := (s.stageCls g).all (fun c => s.binds m 1 c true)
  let cws := ((List.range 48).filter (fun c => (s.dc 0xD 0x028 g).testBit c)).all (fun c => s.binds m 6 c true)
  let map := s.dc 0xD 0x031 g == 0 || s.bindsMap m
  let speed := s.dc 0xD 0x005 g
  let com := s.dc 2 0x014 m == 1 && s.dc 2 0x015 m == 0 && isMeas (inp 0) && (inp 1).1 == 5 && cls && cws && map && s.binds m 8 0 true
  let bus := s.givesBus g (inp 3) || ((inp 3).1 == 0 && s.givesBus g (inp 0))
  match typ with
  | 1 => com && bus && (if speed = 0xFF then (inp 2).1 == 0 else inp 2 == (4, speed))
      && (s.dc 0xD 0x105 g != 0 || s.binds m 7 (s.dc 0xD 0x003 g) false)
  | 2 => com && bus && (inp 2).1 == 0 && [0x200, 0x201, 0x202].all (fun e => s.binds m 6 (s.dc 0xD e g) true)
  | 3 => com && (inp 2).1 == 1 && decide (3 ≤ s.results (inp 0)) && decide (3 ≤ s.results (inp 2))
  | 4 => com && (inp 2).1 == 1 && decide (s.dc 0xD 0x610 g ≤ s.results (inp 0)) && decide (2 ≤ s.results (inp 2))
  | 5 => com && (inp 2).1 == 1 && isMeas (inp 3) && decide (2 ≤ s.results (inp 0)) && decide (2 ≤ s.results (inp 2))
      && decide (1 ≤ s.results (inp 3))
  | 6 => com && (inp 2).1 == 1 && decide (2 ≤ s.results (inp 0)) && decide (2 ≤ s.results (inp 2))
  | 7 => com && (inp 2).1 == 1 && decide ((s.stageGens g).length ≤ s.results (inp 0)) && decide (2 ≤ s.results (inp 2))
  | _ => com && (inp 2).1 == 1 && decide (3 ≤ s.results (inp 0)) && decide (2 ≤ s.results (inp 2))
      && s.binds m 7 (s.dc 0xD 0x003 (s.owner g)) false

/-- Check 3 for GUARD_TASK t beside MAIN_TASK m. -/
def State.guardOk (s : State) (g typ m t : Nat) : Bool :=
  let inp := s.inputOf t
  let mai := s.inputOf m
  let qe := s.dc 0xD 0x003 (s.owner g)
  inp 0 == mai 0 && (inp 1).1 == 5 && s.binds t 10 m false && (s.stageCls g).all (fun c => s.binds t 1 c false) && s.binds t 8 0 true
    && (if typ ≤ 2 then (inp 2).1 == 0 && (if (mai 3).1 = 0 then (inp 3).1 == 0 else inp 3 == mai 3)
          && (qe == 0xFF || s.binds t 7 qe false)
        else inp 2 == mai 2 && (typ != 8 || s.binds t 7 qe false) && (typ != 5 || inp 3 == mai 3))

/-- Check 3 (R238): roles, inputs and bindings. -/
def State.rolesOk (s : State) (g : Nat) : Bool :=
  let typ := s.dc 0xD 0x000 g
  let m := s.dc 0xD 0x004 g
  let sp := s.dc 0xD 0x005 g
  let gu := s.dc 0xD 0x006 g
  let gp := s.dc 0xD 0x007 g
  let dt := s.dc 2 0x071 g
  let derate := s.dc 2 0x070 g == 1
  m != 0xFF && s.rolePlaced g typ 0 m && s.mainOk g typ m
    && (if sp = 0xFF then !(decide (typ ≤ 2) && s.dc 0xD 0x030 g == 1)
        else s.rolePlaced g typ 1 sp && (s.inputOf sp 0).1 == 5 && s.inputOf sp 1 == (4, m) && (s.dc 0xD 0x031 g == 0 || s.bindsMap sp))
    && (if gu = 0xFF then typ != 8 else s.rolePlaced g typ 2 gu && s.guardOk g typ m gu)
    && (gp == 0xFF || (s.rolePlaced g typ 3 gp && s.inputOf gp 0 == (4, m) && (s.inputOf gp 1).1 == 5
          && (s.stageCls g).all (fun c => s.binds gp 1 c true) && (!derate || s.binds gp 10 dt false)))
    && (!derate || (s.rolePlaced g typ 4 dt && s.inputOf dt 0 == (4, m) && (s.inputOf dt 1).1 == 5
          && (let r := s.dc 0xD 0x300 g; if 0x80 ≤ r then s.binds dt 2 (r - 0x80) false else s.binds dt 9 0 false)))

/-- The tick of a trigger in its period: of a compare's INIT value (R121), else 0. -/
def State.trigTick (s : State) (trig : Nat) : Nat := if trig < 96 then s.en 4 (0x016 + trig % 2) (trig / 2) / 32 else 0

/-- What an input adds after its trigger (R192, R196, R244): ticks, and cycles of the destination quad. -/
def State.inputDelay (s : State) (v : Nat × Nat) : Nat × Nat :=
  if v.1 = 1 then (80 * s.en 7 0x021 v.2 + 314, 6)
  else if v.1 = 2 then
    if s.en 7 0x052 v.2 = 0 then (1 + 1 + 2, 6)
    else
      let osr := ((List.range 32).find? (fun f => (s.en 7 0x051 v.2).testBit f)).map (fun f => s.en 7 0x040 f)
      (420 + 10 * (3 * osr.getD 1 - 3) + 2, 6)
  else (0, 0)

/-- The trigger tick of an input: SAMPLE_TICK on a motor stage, else its trigger's. -/
def State.sampleTick (s : State) (g : Nat) (v : Nat × Nat) : Nat :=
  if s.dc 0xD 0x000 g ≤ 2 then s.dc 0xD 0x115 g
  else s.trigTick (if v.1 = 1 then s.en 7 0x020 v.2 else s.en 7 0x050 v.2)

/-- The inputs whose records start the main task's computation (R244, R266). -/
def State.startInputs (s : State) (g : Nat) : List (Nat × Nat) :=
  let inp := s.inputOf (s.dc 0xD 0x004 g)
  let typ := s.dc 0xD 0x000 g
  if typ ≤ 2 then [inp 0] else if typ = 5 then [inp 0, inp 2, inp 3] else [inp 0, inp 2]

/-- The lowest QUAD_FMIN among the quads of a task's affinity. -/
def State.lowFmin (s : State) (t : Nat) : Nat :=
  ((List.range 4).filter (fun q => s.dc 2 0x01A t / 16 ^ q % 16 != 0)).foldl (fun a q => min a (s.en 2 0x042 q)) 400

/-- Check 4: the timing limit of R244. -/
def State.timing244 (s : State) (g : Nat) : Bool :=
  let m := s.dc 0xD 0x004 g
  let f := s.lowFmin m
  let lim := s.dc 2 0x015 m + s.dc 2 0x016 m
  (s.startInputs g).all (fun v =>
    let d := s.inputDelay v
    decide ((s.sampleTick g v + d.1 + 3) * f + 400 * (d.2 + 4 + s.declBudget (s.inForce m) + 1) ≤ lim * f))

/-- SW_LATENCY (R244): 2 × PERIOD − s, of the later record. -/
def State.swLatency (s : State) (g : Nat) : Nat :=
  let late := (s.startInputs g).foldl (fun (a : Nat × Nat) v =>
    let x := s.sampleTick g v
    let e := x + (s.inputDelay v).1
    if a.1 < e then (e, x) else a) (0, 0)
  2 * s.en 4 0x030 ((s.stageCls g).headD 0) - late.2

/-- The lanes of a stage's generators, each once. -/
def State.stageLanes (s : State) (g : Nat) : List Nat :=
  (((s.stageGens g).filter (fun n => decide (n < 44))).map genLane).eraseDups

/-- The integrated half-bridges of a stage. -/
def State.stageHbs (s : State) (g : Nat) : List Nat := (List.range 12).filter (fun h => (s.stageGens g).contains (32 + h))

/-- The positions of a lane that the stage's generators take, as a mask; on an external lane all. -/
def State.stageMask (s : State) (g l : Nat) : Nat :=
  if l < 32 then 255 else (List.range 3).foldl (fun m i => if (s.stageHbs g).contains (3 * (l - 32) + i) then m + 2 ^ i else m) 0

/-- Check 5 holds before what is due is delivered (R172): lanes ACTIVE and LOCKED; half-bridges enabled, GVDD OK. -/
def State.lanesOk (s : State) (g : Nat) : Bool :=
  (s.stageLanes g).all (fun l => (s.lane l).st == .active && (s.lane l).vlock == 2)
    && ((s.stageHbs g).isEmpty || s.drv.gvdd == 2)
    && (s.stageHbs g).all (fun h => s.en 6 0x010 h == 1)

/-- A comparator whose check runs acts on a destination of the stage (R200). -/
def State.checkOn (s : State) (g : Nat) : Bool :=
  (List.range 48).any (fun c => (s.cw c).masked &&
    (s.cwActsOn c).contains g)

/-- A contactor's feedback is used and reads the other level (R268). -/
def State.ctWrong (s : State) (g k : Nat) (closed : Bool) : Bool :=
  (s.dc 0xD 0x557 g).testBit k && s.stages.ctf.getLsbD k != closed

/-- What of the kernels' state survives an arming: initial state is written only at the first (R67); the offsets, counts and phases of a run begin anew
(R237, R239). -/
def Kern.rearm (x : Kern) : Kern := { Kern.reset with skew := x.skew, late := x.late, foster := x.foster, tjN := x.tjN, bands := x.bands }

/-- The precheck passes (R237, R239, R244): tasks armed, the compare table loaded, parameters posted; ARMED. -/
def State.prePass (s : State) (slot g : Nat) : State :=
  let s := (s.put 0xD 0x013 g 1).put 0xD 0x016 g (s.swLatency g)
  let s := s.putKey (s.flagsKey g) 0
  let s := (s.stageLanes g).foldl (fun s l => s.setLane l { s.lane l with genArmed := (s.lane l).gen }) s
  let first := !(s.task (s.dc 0xD 0x004 g)).armed
  let s := (s.stgTo g .armed).armTasks g
  let s := (s.setKern g (if first then Kern.reset else (s.kern g).rearm)).setGuard g { Guard.reset with pos := (s.qe (s.dc 0xD 0x003 (s.owner g))).faultN }
  (s.armedLoads g).endJob slot 4 0

/-- The stage returns to READY from a precheck (R237). -/
def State.preBack (s : State) (g r : Nat) : State :=
  (((s.stopStage g).stgTo g .ready).put 0xD 0x013 g r).report (0x080001 + 256 * g)

/-- The precheck fails with a reason of R238; its contactors open. -/
def State.preFail (s : State) (slot g r : Nat) : State := ((s.openNow g).preBack g r).endJob slot 5 (0xE00300 + r)

/-- The precheck is cancelled (R237, R270). -/
def State.preCancel (s : State) (slot g : Nat) : State := ((s.openLater g).preBack g 16).endJob slot 6 0

/-- The precheck reaches its step limit (R98). -/
def State.preTimeout (s : State) (g : Nat) : State := (s.openNow g).preBack g 0

/-- The next place of a precheck; a wait begins. -/
def State.preTo (s : State) (slot g : Nat) (j : Job) (pc : Nat) : State :=
  (s.setStg g { s.stg g with cnt := 0, since := s.t48.toNat, readAt := s.t48.toNat }).setJob slot { j with pc := pc }

/-- Time in ms that the present wait has lasted. -/
def State.waited (s : State) (g : Nat) (ms : Nat) : Bool := decide (400000 * ms ≤ s.since (s.stg g).since)

/-- The half-bridges whose off-state test the precheck requests (R177). -/
def State.preTests (s : State) (g : Nat) : List Nat := (s.stageHbs g).filter (fun h => s.en 6 0x036 h == 1)

/-- The comparators whose check the precheck requests (R200). -/
def State.preChecks (s : State) (g : Nat) : List Nat :=
  (List.range 48).filter (fun c => s.en 7 0x066 c == g && s.en 7 0x06A c == 1)

/-- A comparator check job runs on comparator c. -/
def State.cwJob (s : State) (c : Nat) : Bool := s.ref.job.any (fun (p : Nat × Job) => p.2.kind == .cwCheck && p.2.arg == c)

/-- V of a channel of the precharge, in mV (R269): of VBUS_CH, and of PRE_SRC_CH at the same full scale, or VBUS_MAX. -/
def State.preVolts (s : State) (g : Nat) : Int × Int :=
  let fs := asInt 24 (s.dc 0xD 0x02C g)
  let src := s.dc 0xD 0x554 g
  (s.chanVolts (s.dc 0xD 0x02B g) fs, if src < 64 then s.chanVolts src fs else asInt 24 (s.dc 0xD 0x021 g))

/-- vSTAR (R266): result 0 of the record of TASK_IN2, scaled by V_FS. -/
def State.vStar (s : State) (g : Nat) : Int :=
  s.chanVolts ((s.wantChans (s.inputOf (s.dc 0xD 0x004 g) 2).2).headD 64) (asInt 24 (s.dc 0xD 0x500 g))

/-- The ticks for which the interface of an EFT stage has stood still, counted from the start of the wait (R285). -/
def State.stillFor (s : State) (g : Nat) : Nat :=
  let n := s.dc 0xD 0x003 (s.owner g)
  let w := s.since (s.stg g).since
  match (s.qe n).last with
  | some t => min w (s.since t - 400 * s.en 8 0x016 n)
  | none => w

/-- The precheck has a step to take: nothing it waits for is still under way. -/
def State.preReady (s : State) (j : Job) : Bool :=
  let g := j.arg
  match j.pc with
  | 4 => (!(s.stageLanes g).any (fun l => (s.lane l).st == .retraining) || s.waited g 50) && !(s.stageLanes g).any s.trainWaits
  | 5 => !(s.preTests g).any (fun h => (s.ostJob h).isSome) && s.freeSlot.isSome
  | 6 => (s.preChecks g).any s.cwJob || s.freeSlot.isSome
  | 8 => decide (400000 ≤ s.since (s.stg g).readAt)
  | 9 => s.waited g (s.dc 0xD 0x555 g)
  | 10 => s.waited g (s.dc 0xD 0x555 g)
  | 11 => decide (16 ≤ (s.cl ((s.stageCls g).headD 0)).rldnum.toNat)
  | 14 => decide (400000 * s.dc 0xD 0x903 g ≤ s.stillFor g) || s.waited g (2 * s.dc 0xD 0x903 g)
  | 16 => s.waited g (s.dc 0xD 0x555 g)
  | 17 => s.waited g (if s.dc 0xD 0x901 g = 0 then 25 else 10)
  | _ => true

/-- Check 8 begins (R238, R269): the clusters start with OUTEN = 0, and the precharge if contactors are named. -/
def State.preStart (s : State) (slot g : Nat) (j : Job) : State :=
  let s := (s.stageCls g).foldl (fun s c => (s.setOuten c false).startCl c) s
  let pre := s.dc 0xD 0x550 g
  let main := s.dc 0xD 0x551 g
  if s.dc 0xD 0x000 g = 8 ∨ (main < 8 ∧ s.stages.cto.getLsbD main ∧ (s.stg g).opening.getLsbD main = false) then s.preTo slot g j 11
  else if pre < 8 then (s.setCt pre true).preTo slot g j 8
  else if main < 8 then (s.setCt main true).preTo slot g j 9
  else s.preTo slot g j 11

/-- One reading of the precharge (R269): ten in a row at the ratio go on; PRE_TIME_MAX opens PRE_CT and fails. -/
def State.preRead (s : State) (slot g : Nat) (j : Job) : State :=
  let v := s.preVolts g
  let pre := s.dc 0xD 0x550 g
  let main := s.dc 0xD 0x551 g
  let n := if (s.dc 0xD 0x553 g : Int) * v.2 ≤ 100 * v.1 then (s.stg g).cnt + 1 else 0
  if 10 ≤ n then
    if main < 8 then (s.setCt main true).preTo slot g j 9 else (s.setCt pre false).preTo slot g j 10
  else if s.waited g (s.dc 0xD 0x552 g) then s.preFail slot g 11
  else s.setStg g { s.stg g with cnt := n, readAt := s.t48.toNat }

/-- One step of the precheck (R238, R285); the source voltage of check 14 is what the step measures. -/
def State.preStep (s : State) (slot : Nat) (j : Job) (obs : JobObs) : State :=
  let g := j.arg
  let go (s : State) (pc : Nat) : State := s.preTo slot g j pc
  let pre := s.dc 0xD 0x550 g
  let star := s.dc 0xD 0x902 g
  let n := s.dc 0xD 0x003 (s.owner g)
  match j.pc with
  | 0 =>
    let s := (s.stageLanes g).foldl (fun s l => s.setLane l { s.lane l with genArmed := 0 }) s
    if s.dev = devIdle ∨ s.dev = devOperational then go s 1 else s.preFail slot g 2
  | 1 => if s.flt.latch.any (fun l => decide (4 ≤ l.cls) && (s.targets l.code).contains g) then s.preFail slot g 3 else go s 2
  | 2 => if s.rolesOk g then go s 3 else s.preFail slot g 4
  | 3 => if s.timing244 g then go s 4 else s.preFail slot g 5
  | 4 =>
    if s.lanesOk g = false then s.preFail slot g 6
    else
      match (s.stageLanes g).find? (fun l => (s.lane l).cfgDue &&& s.stageMask g l != 0 || (s.lane l).cfgNow != 0) with
      | some l => (s.redeliver l (s.stageMask g l)).setJob slot { j with total := j.total + 1 }
      | none => if (s.stageHbs g).all s.hbEn then go s 5 else s.preFail slot g 6
  | 5 =>
    match (s.preTests g)[(s.stg g).cnt]? with
    | none => go s 6
    | some h =>
      if j.total = 1000 + h then
        let r := s.en 6 0x031 h
        if r = 1 ∨ r = 5 then (s.setStg g { s.stg g with cnt := (s.stg g).cnt + 1 }).setJob slot { j with total := 0 }
        else s.preFail slot g 7
      else (s.startOwnJob .ost h [] 0 5 (mkKey 6 0x030 h)).setJob slot { j with total := 1000 + h }
  | 6 => if (s.preChecks g).any s.cwJob then s else
    match (s.preChecks g)[(s.stg g).cnt]? with
    | none => go s 7
    | some c =>
      if j.total = 1000 + c then
        if s.en 7 0x069 c = 1 then (s.setStg g { s.stg g with cnt := (s.stg g).cnt + 1 }).setJob slot { j with total := 0 }
        else s.preFail slot g 8
      else (s.startOwnJob .cwCheck c [] 0 16 (mkKey 7 0x068 c)).setJob slot { j with total := 1000 + c }
  | 7 => s.preStart slot g j
  | 8 => s.preRead slot g j
  | 9 =>
    if s.ctWrong g (s.dc 0xD 0x551 g) true then s.preFail slot g 12
    else if pre < 8 then go (s.setCt pre false) 10 else go s 11
  | 10 => if s.ctWrong g pre false then s.preFail slot g 12 else go s 11
  | 11 => if s.vbusOk g then go s 12 else s.preFail slot g 9
  | 12 =>
    let typ := s.dc 0xD 0x000 g
    let qeOk := (s.qe n).on && s.en 8 0x014 n != 0 && s.en 8 0x015 n == 1
    if (typ ≤ 2 ∧ s.dc 0xD 0x105 g = 0 ∨ typ = 8) ∧ qeOk = false then s.preFail slot g 10
    else go s (if typ = 8 then 13 else 20)
  | 13 => if (s.stg (s.owner g)).st = .ready then go s 14 else s.preFail slot g 15
  | 14 =>
    if (s.qe n).still ∧ 400000 * s.dc 0xD 0x903 g ≤ s.stillFor g then go s 15 else s.preFail slot g 13
  | 15 =>
    if s.ctWrong g star false ∨ (s.vStar g).natAbs ≥ 10000 then s.preFail slot g 12
    else go (if star < 8 then s.setCt star true else s) 16
  | 16 => if star < 8 ∧ s.ctWrong g star true then s.preFail slot g 12 else go s 17
  | 17 =>
    if asInt 24 (s.dc 0xD 0x90A g) ≤ obs.value.toInt ∧ obs.value.toInt ≤ asInt 24 (s.dc 0xD 0x90B g) then go s 18
    else s.preFail slot g 14
  | 18 => go (s.put 0xD 0x90C g (s.qe n).pos.toNat) 20
  | _ => if s.checkOn g then s else s.prePass slot g

/-! ### Identification (R259) -/

/-- ID_CMD (R259): the stage must be ARMED with OFS_DONE, and be PMSM_FOC. -/
def doIdCmd (q : Req) (st : Fin 12) (s : State) : State :=
  s.dictJob q (mkKey 0xD 0x150 st) 0 0 (fun _ => none)
    (fun s => if (s.stg st).st = .armed ∧ s.ofsDone st ∧ s.dc 0xD 0x000 st = 1 then none else some ⟨errRefused, 0⟩)
    (fun s => (s.startJob q.tag.toNat .ident st [] 0 7 (mkKey 0xD 0x150 st) (some q)).put 0xD 0x152 st 1)

/-- The next step of the table of R259 that applies, after step k; 6 after the last. -/
def State.identNext (s : State) (g k : Nat) : Nat :=
  let full := s.dc 0xD 0x151 g == 1
  let ok (i : Nat) : Bool := if i ≤ 3 then true else if i = 4 then s.dc 0xD 0x105 g == 0 else full
  (([1, 2, 3, 4, 5].filter (fun i => decide (k < i) && ok i)).head?).getD 6

/-- The result entry of a step. -/
def identEntry (k : Nat) : Nat :=
  if k = 1 then 0x153 else if k = 2 then 0x154 else if k = 3 then 0x155 else if k = 4 then 0x157 else 0x156

/-- The stage ramps down from an identification; the job waits for ARMED with its outcome (0, or VV of R450). -/
def State.identStop (s : State) (slot g : Nat) (j : Job) (outcome : Nat) : State :=
  (((s.postMain g).stgTo g .rampdown).sweepMigs).setJob slot { j with pc := 10, total := outcome }

/-- The identification has a step to take: the kernel has the result of its step, or the ramp is over. Waiting for ID_SPD counts toward its limit. -/
def State.identReady (s : State) (j : Job) : Bool :=
  let st := (s.stg j.arg).st
  let x := (s.kern j.arg).idn
  if j.pc = 10 then st != .run && st != .rampdown
  else if 1 ≤ j.pc ∧ j.pc ≤ 4 then st != .run || (x.step == j.pc && (x.res.isSome || x.lost))
  else true

/-- The identification goes on to a step of its table, whose command is posted (R235); 6 is the end. -/
def State.identGo (s : State) (slot g : Nat) (j : Job) (k : Nat) : State := (s.whenS (decide (k < 6)) (·.postMain g)).setJob slot { j with pc := k }

/-- An identification ends FAILED: of a stage that a fault halted with its code, else with VV of R450. -/
def State.identFail (s : State) (slot g vv : Nat) : State :=
  if (s.stg g).st = .halted then (s.put 0xD 0x152 g 3).endJob slot 5 (s.en 0xD 0x014 g)
  else ((s.put 0xD 0x152 g 3).report (0x08000F + 256 * g)).endJob slot 5 (0xE00700 + vv)

/-- One step of the identification (R259): the kernel's result of the step, or for ID_LD and ID_LQ, which the rule derives from di/dt without stating
how, what the step found (`obs`). Of a stage that is no longer ARMED before the first step without a fault, R450 names no cause: the job ends with
RESULT_INVALID; and of one that left RUN otherwise, with SPEED_NOT_REACHED. DESIGN CHOICE (log entry 33). -/
def State.identStep (s : State) (slot : Nat) (j : Job) (obs : JobObs) : State :=
  let g := j.arg
  let st := (s.stg g).st
  let x := (s.kern g).idn
  if j.pc = 0 then
    if st ≠ .armed then s.identFail slot g 3
    else
      let s := ((s.postMain g).outenStage g true).put 0xD 0x015 g 6
      (s.stgTo g .run).identGo slot g j (s.identNext g 0)
  else if j.pc = 10 then
    if st = .run ∨ st = .rampdown then s
    else if j.total = 0 ∧ st ≠ .halted then (s.put 0xD 0x152 g 2).endJob slot 4 0
    else s.identFail slot g j.total
  else if st ≠ .run then s.setJob slot { j with pc := 10, total := 2 }
  else if j.pc = 6 then s.identStop slot g j 0
  else if x.step ≠ j.pc then s
  else if x.lost then s.identStop slot g j 1
  else match x.res with
    | none => if j.pc = 5 ∧ x.part = 0 ∧ obs.ok = false then s.identStop slot g j 2 else s
    | some r =>
      let v := if j.pc = 2 ∨ j.pc = 3 then obs.value.toInt else r
      if v ≤ 0 then s.identStop slot g j 3
      else (s.put 0xD (identEntry j.pc) g (v.toNat % 2 ^ 24)).identGo slot g j (s.identNext g j.pc)

/-- The identification is cancelled (R98, R259). -/
def State.identCancel (s : State) (slot g : Nat) : State :=
  let s := if (s.stg g).st = .run then ((s.postMain g).stgTo g .rampdown).sweepMigs else s
  (s.put 0xD 0x152 g 4).endJob slot 6 0

/-- A P entry takes a value by a rule of its own: applied, and journalled where it changes. -/
def State.keep (s : State) (k v : Nat) : State :=
  match entRow k with
  | some r => if s.getKey k = v then s else (s.putKey k v).journal k v r none false
  | none => s

/-- ID_APPLY (R259): a 1 in READY copies the results into RS, LD, LQ, PSI and ANG_OFS. -/
def doIdApply (q : Req) (st : Fin 12) (v : BitVec 48) (s : State) : State :=
  s.dictWriteR q (mkKey 0xD 0x15A st) v.toNat 0 (fun _ => none)
    (fun s => if (s.stg st).st = .ready then none else some ⟨errRefused, 0⟩)
    (fun s => if v = 0 then s else
      [(0x101, 0x153), (0x102, 0x154), (0x103, 0x155), (0x104, 0x156), (0x106, 0x157)].foldl
        (fun s (p : Nat × Nat) => s.keep (mkKey 0xD p.1 st) (s.en 0xD p.2 st)) s)

/-! ### Contactors (R268 to R270, R285) -/

/-- STAR_CT has been commanded open by a DISARM, or after a halt (R285). -/
def State.starOpen (s : State) (g : Nat) : Bool :=
  s.dc 0xD 0x000 g == 8 && ((s.stg g).disarming || (s.stg g).st == .halted) && !s.stages.cto.getLsbD (s.dc 0xD 0x902 g)

/-- The contactor is a STAR_CT that is to open: its feedback is EFT_CT_WELD's concern. -/
def State.starOpening (s : State) (g k : Nat) : Bool := s.starOpen g && s.dc 0xD 0x902 g == k

/-- CONTACTOR_FAIL (R268): a used feedback disagrees with its command; the star contactor of a DISARM is EFT_CT_WELD's. -/
def doContactorFail (st : Fin 12) (k : Fin 8) (s : State) : State :=
  let g := st.val
  if s.declared g ∧ (s.ctOf g).contains k.val ∧ s.ctWrong g k (s.stages.cto.getLsbD k) ∧ s.starOpening g k = false then
    s.condOn (0x080014 + 256 * g)
  else s

/-- STAR_CT_OPENED (R285): the EFT stage is READY. -/
def doStarCtOpened (st : Fin 12) (s : State) : State :=
  let g := st.val
  if (s.stg g).disarming ∧ s.starOpen g ∧ s.ctWrong g (s.dc 0xD 0x902 g) false = false then ((s.stopStage g).stgTo g .ready).sweepMigs else s

/-- EFT_CT_WELD (R285). -/
def doEftCtWeld (st : Fin 12) (s : State) : State :=
  let g := st.val
  if s.starOpen g ∧ s.ctWrong g (s.dc 0xD 0x902 g) false then s.condOn (0x08001A + 256 * g) else s

/-- CONTACTOR_FEEDBACK_CHANGE (R268): CTFn takes a level, and the conditions of the stage that names it follow. -/
def doContactorFeedbackChange (k : Fin 8) (level : Bool) (s : State) : State :=
  let v := if level then s.stages.ctf ||| (1#8 <<< k.val) else s.stages.ctf &&& ~~~(1#8 <<< k.val)
  let s : State := { s with stages := { s.stages with ctf := v } }
  match s.findStage (fun g => (s.ctOf g).contains k.val) with
  | none => s
  | some g =>
    let right := (s.ctOf g).all (fun c => !s.ctWrong g c (s.stages.cto.getLsbD c))
    let s := if right then s.condOff (0x080014 + 256 * g) else s
    if level then s else s.condOff (0x08001A + 256 * g)

end Sys2Proof.Machine
end

