-- ==== Sys2Proof/Machine/Can.lean ====
section
/-! DEFINITION. The CAN FD controllers (15_can_fd.md): identifiers, frames of responses and notifications (R403, R413, R415,
R416), transmit buffers and their shadows, error confinement, bus-off and clashes. -/

namespace Sys2Proof.Machine

/-! ### Identifiers of the dictionary (R390, R391) -/

/-- The dictionary controller of this start. -/
def State.dictCan (s : State) : Nat := s.dc 0xC 0x012 0
/-- NODE_ID_EFF. -/
def State.node (s : State) : Nat := s.en 0xC 0x011 0
/-- The request identifier. -/
def State.reqId (s : State) : Nat := s.dc 0xC 0x014 0 + s.node
/-- The response identifier. -/
def State.rspId (s : State) : Nat := s.dc 0xC 0x015 0 + s.node
/-- The notification identifier. -/
def State.ntfId (s : State) : Nat := s.dc 0xC 0x016 0 + s.node

/-- The node ID of a start (R390): NODE_ID, or the default of CUSTOMER word 0x16 (R345). -/
def State.nodeOf (s : State) : Nat :=
  let w := (s.otpRead 2 0x16).toNat % 128
  if s.en 0xC 0x010 0 ≠ 0 then s.en 0xC 0x010 0 else if w = 0 ∨ w = 127 then 1 else w

/-- A persisted entry of area C as the controllers use it: in Tadpole mode the value of this start, since a write takes effect at
the next one (R395). -/
def State.canEnt (s : State) (e i : Nat) : Nat := if s.dev = devTadpole then s.dc 0xC e i else s.en 0xC e i

/-! ### Frames -/

/-- The number of payload bytes of the smallest data length code that holds `n` bytes (R378). -/
def dlcUp (n : Nat) : Nat := if n ≤ 8 then n else ([12, 16, 20, 24, 32, 48].find? (fun d => decide (n ≤ d))).getD 64

/-- Bytes with 0x00 up to the next data length code. -/
def padTo (l : List Byte) : List Byte := l ++ List.replicate (dlcUp l.length - l.length) 0

/-- A frame of a format: 0 CLASSIC, 1 FD, 2 FD_BRS. -/
def mkFrame (ident : Nat) (ide : Bool) (fmt : Nat) (l : List Byte) : CanFrame :=
  ⟨BitVec.ofNat 29 ident, ide, fmt != 0, fmt == 2, false, padTo l⟩

/-- Payload of a frame of a format (R403). -/
def fmtCap (fmt : Nat) : Nat := if fmt = 0 then 8 else 64

/-- The 1.x code of an operation (R413). -/
def op1 (op : Nat) : Nat := if op = 2 then 1 else if op = 3 then 2 else if op = 6 then 3 else if op = 7 then 4 else if op = 8 then 5 else 0

/-- The body of a response: ERR with DETAIL, or what its operation answers. A 1.2 WRITE carries no STATUS (R406, R413). -/
def Resp.wire (r : Resp) (v12 : Bool) : List Byte :=
  if r.err ≠ 0 then beBytes r.err 2 ++ (if v12 then [] else beBytes r.detail 3)
  else if v12 ∧ r.op = opWrite then (if r.key = mkKey 0xA 0x011 0 then r.body.drop 1 else [])
  else r.body

/-- The bytes of a response (R403, R411, R413), and the transfer in segments that a body too long for its frame begins (R407). -/
def encResp (v12 : Bool) (fmt : Nat) (r : Resp) : List Byte × Option Seg :=
  let e := b2n (r.err != 0)
  let t := r.tag.toNat
  let body := r.wire v12
  if r.op = 1 then
    (if r.err = errVersion then [0x41, BitVec.ofNat 8 t, 0, 0, 0, 2, 4, 0]
      else if e = 1 then [0x41, BitVec.ofNat 8 t, 0, 0, 0] ++ beBytes r.err 2 ++ [0]
      else [1, BitVec.ofNat 8 t] ++ r.body, none)
  else if v12 then
    let h (k : Nat) : Byte := BitVec.ofNat 8 (128 * e + 16 * k + t % 16)
    if r.op = 6 ∧ e = 0 then (BitVec.ofNat 8 (48 + t % 16) :: r.body, none)
    else if body.length ≤ 4 then (h (op1 r.op) :: beBytes r.key 3 ++ body, none)
    else (h 6 :: beBytes r.key 3 ++ beBytes body.length 3 ++ [0], some ⟨r.tag, r.op, r.key, false, body.length, 0, 0, 0, body⟩)
  else
    let h (seg : Nat) : List Byte := [BitVec.ofNat 8 (r.op + 64 * e + 128 * seg), BitVec.ofNat 8 t]
    let cap := fmtCap fmt
    if r.op = 6 ∧ e = 0 then (h 0 ++ r.body, none)
    else if 5 + body.length ≤ cap then (h 0 ++ beBytes r.key 3 ++ body, none)
    else (h 1 ++ beBytes r.key 3 ++ beBytes body.length 3 ++ body.take (cap - 8),
      some ⟨r.tag, r.op, r.key, false, body.length, 0, 0, cap - 8, body⟩)

/-- The data bytes of one SEG_DATA frame (R407, R413). -/
def segCap (v12 : Bool) (fmt : Nat) : Nat := if v12 then 6 else fmtCap fmt - 3

/-- The frame format of a response (R391): of the request under its tag; HELLO and 1.2 responses are classical (R411, R413). -/
def State.fmtOf (s : State) (ses : Nat) (r : Resp) : Nat :=
  if ses = 1 then 1 else if r.op = 1 ∨ s.ver 0 = 0x0102 then 0 else Tab.get (fun _ => 2) (s.sess ses).fmt r.tag.toNat

/-- The first waiting response of a session leaves the supervisor: its bytes and format. -/
def State.takeResp (s : State) (ses : Nat) : Option (List Byte × Nat × State) :=
  let x := s.sess ses
  match x.resp with
  | [] => none
  | r :: rest =>
    let f := s.fmtOf ses r
    let e := encResp (s.ver ses == 0x0102) f r
    let segs := match e.2 with
      | some g => g :: x.segs.filter (fun h => h.tag != g.tag)
      | none => x.segs
    some (e.1, f, s.setSess ses { x with resp := rest, segs := segs })

/-- The 1.x form of a FAULT notification (R416); none for another type. -/
def notif12 (n : Notif) : Option (List Byte) :=
  if n.ntype = 3 then
    some (BitVec.ofNat 8 (0xF0 + (n.body.getD 0 0).toNat) :: (n.body.drop 1).take 3 ++ [(n.body.getD 4 0) &&& 7] ++ beBytes n.t48 3)
  else none

/-- The 2.x form of a notification (R415): the 15-byte header and the body. -/
def State.notif2 (s : State) (ses : Nat) (n : Notif) : List Byte :=
  [BitVec.ofNat 8 n.ntype, (s.sess ses).nseq, BitVec.ofNat 8 (min 255 (s.sess ses).lost)] ++ beBytes n.t48 6 ++ beBytes s.nvm.seq 6 ++ n.body

/-! ### Transmit buffers (R384 to R387) -/

/-- A transmit buffer. -/
def Can.buf (c : Can) (b : Nat) : TxBuf := Tab.get (fun _ => TxBuf.empty) c.bufs b
/-- A transmit buffer changes. -/
def Can.setBuf (c : Can) (b : Nat) (x : TxBuf) : Can := { c with bufs := Tab.set (fun _ => TxBuf.empty) c.bufs b x }

/-- The buffer holds no frame. -/
def TxBuf.free (x : TxBuf) : Bool := x.active.isNone && x.shadow.isNone

/-- Shadows are copied into every active copy that is not on the wire (R384). -/
def Can.copyShadows (c : Can) : Can :=
  (List.range 64).foldl (fun c b =>
    let x := c.buf b
    if x.shadow.isSome ∧ c.wire ≠ some b then
      ({ c with copies := c.copies + 1 } : Can).setBuf b ⟨x.shadow, none, 0, c.copies⟩
    else c) c

/-- The rank of a frame in arbitration (R386): the lower wins; a base identifier ranks above an extended one with the same 11
leading bits. -/
def arbRank (f : CanFrame) : Nat :=
  if f.ide then f.ident.toNat / 2 ^ 18 * 2 ^ 19 + 2 ^ 18 + f.ident.toNat % 2 ^ 18 else f.ident.toNat * 2 ^ 19

/-- The pending buffer that is offered first (R386). -/
def Can.best (c : Can) : Option Nat :=
  (List.range 64).foldl (fun a b =>
    match (c.buf b).active with
    | none => a
    | some f =>
      match a.bind (fun p => (c.buf p).active.map (fun g => (p, g))) with
      | none => some b
      | some (p, g) => if arbRank f < arbRank g ∨ (arbRank f = arbRank g ∧ (c.buf b).order < (c.buf p).order) then some b else a) none

/-- The controller may send frames (R382, R383). -/
def Can.sends (c : Can) : Bool := (c.st == .errorActive || c.st == .errorPassive) && !c.monitor

/-- The controller's clock runs (R383). -/
def State.canClock (s : State) : Bool := !s.pwm.clkLost.contains 2

/-- The entries that show a controller: CAN_STATE, TEC (255 during BUS_OFF), REC, and EWARN (R389, R397). -/
def State.canShow (s : State) (n : Nat) : State :=
  let c := s.can n
  let off := c.st == .busOff || c.st == .recovering
  let code := match c.st with
    | .off => 0 | .integrating => 1 | .errorActive => 2 | .errorPassive => 3 | .busOff => 4 | .recovering => 5
  let warn := b2n (decide (96 ≤ c.tec) || decide (96 ≤ c.rxErr))
  let fl := s.en 0xC 0x043 n
  ((((s.put 0xC 0x023 n code).put 0xC 0x040 n (if off then 255 else min 255 c.tec)).put 0xC 0x041 n (min 128 c.rxErr))).put 0xC 0x043 n
    (fl % 8 + 8 * warn + fl / 16 % 16 * 16)

/-- A controller takes a new record, and its entries follow. -/
def State.canTo (s : State) (n : Nat) (c : Can) : State := (s.setCan n c).canShow n

/-- A frame is written into a buffer's shadow (R384); one that replaces a frame not yet copied counts in TX_OVERWRITE. -/
def State.loadTx (s : State) (n b : Nat) (f : CanFrame) : State :=
  let c := s.can n
  let x := c.buf b
  ((s.setCan n (c.setBuf b { x with shadow := some f }))).whenS x.shadow.isSome (·.bump (mkKey 0xC 0x045 n) 65535)

/-- Responses that wait in the supervisor are loaded into free buffers MB0 to MB23 of the dictionary controller (R385). -/
def State.pump (s : State) : State :=
  let n := s.dictCan
  (List.range 24).foldl (fun s b =>
    let c := s.can n
    if c.st = .off ∨ c.monitor ∨ (c.buf b).free = false then s
    else match s.takeResp 0 with
      | some (l, f, s') => s'.loadTx n b (mkFrame s'.rspId false f l)
      | none => s) s

/-- What a controller does between frames: waiting responses are loaded, shadows copied, and, with no frame on the wire, the
first frame is offered (R384 to R386). -/
def State.canKick (s : State) (n : Nat) : State :=
  let s := if n = s.dictCan then s.pump else s
  let c := (s.can n).copyShadows
  s.setCan n (if c.sends ∧ s.canClock ∧ c.wire = none then { c with wire := c.best } else c)

/-! ### States (R382, R383) -/

/-- CAN_ERR_PASSIVE and CAN_BUS_OFF of a controller follow its state (R389). -/
def State.canConds (s : State) (n : Nat) : State :=
  let st := (s.can n).st
  let s := if st = .errorPassive then s.condOn (0x0D0001 + 256 * n) else s.condOff (0x0D0001 + 256 * n)
  if st = .errorActive then s.condOff (0x0D0002 + 256 * n) else s

/-- The controller goes OFF: pending buffers are emptied and counted (R382). -/
def State.canOff (s : State) (n : Nat) : State :=
  let c := s.can n
  let k := ((List.range 64).filter (fun b => (c.buf b).active.isSome || (c.buf b).shadow.isSome)).length
  let s := s.put 0xC 0x044 n (min 65535 (s.en 0xC 0x044 n + k))
  (s.canTo n { c with st := .off, wire := none, stopping := false, bufs := [] }).canConds n

/-- The timing of a controller as its entries hold it: NBRP to DSJW, TDC_MODE and TDC_OFS. -/
def State.canTiming (s : State) (n : Nat) : List Nat := (List.range 10).map (fun i => s.en 0xC (0x030 + i) n)

/-- The timing passes R379. -/
def timingFits (l : List Nat) : Bool :=
  let g (i : Nat) : Nat := l.getD i 0
  let nom := (1 + g 1 + g 2) * g 0
  let dat := (1 + g 5 + g 6) * g 4
  let auto := g 8 == 1
  decide (1 ≤ g 0 ∧ g 0 ≤ 32) && decide (2 ≤ g 1 ∧ g 1 ≤ 256) && decide (2 ≤ g 2 ∧ g 2 ≤ 128) && decide (1 ≤ g 3 ∧ g 3 ≤ 128)
    && decide (g 3 ≤ g 2) && decide (1 ≤ g 4 ∧ g 4 ≤ 32) && decide (g 4 ≤ g 0) && (!auto || decide (g 4 ≤ 2))
    && decide (1 ≤ g 5 ∧ g 5 ≤ 32) && decide (1 ≤ g 6 ∧ g 6 ≤ 16) && decide (1 ≤ g 7 ∧ g 7 ≤ 16) && decide (g 7 ≤ g 6)
    && decide (80 ≤ nom) && decide (10 ≤ dat) && decide (dat ≤ nom) && (decide (40 ≤ dat) || auto)

/-- The timing defaults of R397. -/
def timingDefaults : List Nat := [1, 127, 32, 32, 1, 29, 10, 10, 1, 30]

/-- A controller starts in INTEGRATING (R382) with the stored timing and mode; its error counters start at 0. -/
def State.canBegin (s : State) (n : Nat) (timing : List Nat) : State :=
  let c := s.can n
  s.canTo n { c with st := .integrating, tec := 0, rxErr := 0, timing := timing, monitor := s.en 0xC 0x021 n == 1, wire := none,
                     stopping := false }

/-- The start of a controller at step 11 of R361 (R380): a persisted timing that fails is replaced by the defaults. -/
def State.canBoot (s : State) (n : Nat) : State :=
  let t := s.canTiming n
  if timingFits t then (s.canBegin n t).put 0xC 0x03B n 0 else (s.canBegin n timingDefaults).put 0xC 0x03B n 1

/-- CAN_CMD (R382, R389): a WO entry whose refusals depend on the controller; `why` says them. -/
def State.canCmd (s : State) (q : Req) (n v : Nat) (why : State → Bool) (effect : State → State) : State :=
  s.dictWriteR q (mkKey 0xC 0x022 n) v 0 (fun _ => none)
    (fun s => if why s then some ⟨errRefused, 0⟩ else none) effect

/-- CAN_START (R380, R382): accepted in OFF with a timing that passes R379. -/
def doCanStart (q : Req) (n : Fin 4) (s : State) : State :=
  s.canCmd q n 0 (fun s => (s.can n).st != .off || !timingFits (s.canTiming n))
    (fun s => (s.canBegin n (s.canTiming n)).put 0xC 0x03B n 0)

/-- CAN_STOP (R382): accepted in every other state, but not of the dictionary controller through itself. A frame in progress
ends first. -/
def doCanStop (q : Req) (n : Fin 4) (s : State) : State :=
  s.canCmd q n 1 (fun s => (s.can n).st == .off || (q.ses == 0 && n.val == s.dictCan))
    (fun s => if (s.can n).wire.isSome then s.setCan n { s.can n with stopping := true } else s.canOff n)

/-- RECOVER (R389): accepted in BUS_OFF with BUSOFF_MODE MANUAL. -/
def doRecover (q : Req) (n : Fin 4) (s : State) : State :=
  s.canCmd q n 2 (fun s => (s.can n).st != .busOff) (fun s => s.canTo n { s.can n with st := .recovering })

/-- CAN_INTEGRATED (R382): 11 recessive bits; a controller whose counters were kept (R383) may be ERROR_PASSIVE at once. -/
def doCanIntegrated (n : Fin 4) (s : State) : State :=
  let c := s.can n
  if c.st ≠ .integrating ∨ s.canClock = false then s
  else
    let st : CanSt := if 128 ≤ c.tec ∨ 128 ≤ c.rxErr then .errorPassive else .errorActive
    ((s.canTo n { c with st := st }).canConds n).canKick n

/-! ### The end of a frame on the wire (R384, R386, R387, R389, R392) -/

/-- The frame has left the wire: a STOP that waited acts, else shadows are copied and the next frame is offered. -/
def State.wireFree (s : State) (n : Nat) : State :=
  let s := s.setCan n { s.can n with wire := none }
  if (s.can n).stopping then s.canOff n else s.canKick n

/-- CAN_TX_DONE (R384, R389): TEC falls by 1. With TDC AUTO and BRS the measured delay shows (R381): a free value, and TDC_CLIP
where the sum exceeds 127. -/
def doCanTxDone (n : Fin 4) (s : State) : State :=
  let c := s.can n
  match c.wire with
  | none => s
  | some b =>
    if !(c.sends && s.canClock) then s
    else
      let brs := ((c.buf b).active.map (·.brs)).getD false
      let s := if brs ∧ c.timing.getD 8 0 = 1 then
          let d := (Config.free 8 s.free).toNat
          let fl := s.en 0xC 0x043 n
          let s := s.tick.put 0xC 0x03A n d
          if 127 < d + c.timing.getD 9 0 then s.put 0xC 0x043 n (fl % 16 + 16) else s
        else s
      let t := c.tec - 1
      let st : CanSt := if 128 ≤ t ∨ 128 ≤ c.rxErr then .errorPassive else .errorActive
      let c := ({ c with tec := t, st := st } : Can).setBuf b { c.buf b with active := none, tries := 0, order := 0 }
      ((s.canTo n c).canConds n).wireFree n

/-- CAN_ARBITRATION_LOST (R386, R387): no retry is counted. -/
def doCanArbitrationLost (n : Fin 4) (s : State) : State :=
  if (s.can n).wire.isSome && (s.can n).sends && s.canClock then s.wireFree n else s

/-- The retry limit of a buffer (R387); none for no limit. -/
def State.txLimit (s : State) (n b : Nat) : Option Nat :=
  if b < 32 then some (s.canEnt 0x017 0) else if s.canEnt 0x025 n = 0xFF then none else some (s.canEnt 0x025 n)

/-- A failed attempt of the frame on the wire (R387): at the limit the buffer is emptied and TX_FAIL_CNT advances. -/
def State.txFailed (s : State) (n b : Nat) : State :=
  let c := s.can n
  let x := c.buf b
  if (s.txLimit n b).any (fun m => decide (m < x.tries + 1)) then
    let c := c.setBuf b { x with active := none, tries := 0, order := 0 }
    (s.setCan n { c with lostResp := if b < 24 then c.lostResp + 1 else c.lostResp }).bump (mkKey 0xC 0x044 n) 65535
  else s.setCan n (c.setBuf b { x with tries := x.tries + 1 })

/-- The clash records with the oldest replaced where a fifth would come (R392). -/
def addClash (age : Nat → Nat) (x : Clash) (l : List Clash) : List Clash :=
  if l.length < 4 then l ++ [x]
  else
    let old := l.foldl (fun a y => max a (age (y.times.headD 0))) 0
    l.eraseIdx (l.findIdx (fun y => age (y.times.headD 0) == old)) ++ [x]

/-- A clash on an identifier (R392): the third within 1 s raises ID_CLASH, or DUP_NODE_ID for this node's response or
notification identifier. -/
def State.clashOn (s : State) (n : Nat) (f : CanFrame) : State :=
  let c := s.can n
  let now := s.t48.toNat
  let same (x : Clash) : Bool := x.ident == f.ident && x.ide == f.ide
  let times := now :: (((c.clash.find? same).map (fun x => x.times)).getD []).filter (fun t => decide (s.since t ≤ 400000000))
  let rest := c.clash.filter (fun x => !same x)
  if 3 ≤ times.length then
    let own := !f.ide && n == s.dictCan && (f.ident.toNat == s.rspId || f.ident.toNat == s.ntfId)
    let s := s.setCan n { c with clash := rest }
    let s := (s.bump (mkKey 0xC 0x047 n) 65535).put 0xC 0x048 n (f.ident.toNat + 2 ^ 29 * b2n f.ide)
    s.report ((if own then 0x0D0004 else 0x0D0003) + 256 * n)
  else s.setCan n { c with clash := addClash s.since ⟨f.ident, f.ide, times⟩ rest }

/-- A controller enters BUS_OFF (R389). -/
def State.busOff (s : State) (n : Nat) : State :=
  let c := s.can n
  let auto := s.en 0xC 0x024 n = 0 ∨ s.dev = devTadpole
  let s := (s.canTo n { c with st := if auto then .recovering else .busOff }).bump (mkKey 0xC 0x042 n) 65535
  (s.condOff (0x0D0001 + 256 * n)).condOn (0x0D0002 + 256 * n)

/-- The error state follows the counters (R382). -/
def State.canJudge (s : State) (n : Nat) : State :=
  let c := s.can n
  if 255 < c.tec then s.busOff n
  else (s.canTo n { c with st := if 128 ≤ c.tec ∨ 128 ≤ c.rxErr then .errorPassive else .errorActive }).canConds n

/-- CAN_ERROR (R389): a protocol error of a kind (the LEC codes of ERR_FLAGS). `weight` is what ISO 11898-1 adds to TEC of a
transmitter or REC of a receiver; `clash` says that the bit error lay between the arbitration field and the CRC delimiter. -/
def doCanError (n : Fin 4) (kind : BitVec 3) (transmitting clash : Bool) (weight : BitVec 4) (s : State) : State :=
  let c := s.can n
  if (c.st ≠ .errorActive ∧ c.st ≠ .errorPassive) ∨ s.canClock = false ∨ kind = 0 ∨ kind = 7 then s
  else
    let fl := s.en 0xC 0x043 n
    let s := s.put 0xC 0x043 n (fl / 8 * 8 + kind.toNat)
    if c.monitor then s
    else if transmitting then
      match c.wire with
      | none => s
      | some b =>
        let s := match (c.buf b).active with
          | some f => s.whenS (clash && (kind == 4 || kind == 5)) (fun s => s.clashOn n f)
          | none => s
        let s := s.txFailed n b
        let s := s.setCan n { s.can n with tec := c.tec + weight.toNat }
        (s.canJudge n).wireFree n
    else
      let s := s.setCan n { c with rxErr := min 128 (c.rxErr + weight.toNat) }
      (s.canJudge n).whenS c.wire.isNone (fun s => s.canKick n)

/-- CAN_RECOVERED (R389, R415, R419): ERROR_ACTIVE with both counters 0; every pending buffer restarts its retries. Where it is the dictionary
controller, RECOVERED goes to every 2.x session with the responses discarded since the bus-off. -/
def doCanRecovered (n : Fin 4) (s : State) : State :=
  let c := s.can n
  if c.st ≠ .recovering ∨ s.canClock = false then s
  else
    let bufs : Tab TxBuf := c.bufs.map (fun (p : Nat × TxBuf) => (p.1, { p.2 with tries := 0 }))
    let s := (s.canTo n { c with st := .errorActive, tec := 0, rxErr := 0, bufs := bufs, lostResp := 0 }).canConds n
    let s := s.whenS (n.val == s.dictCan) (fun s => s.notify 7 0 (0 :: beBytes (min 65535 c.lostResp) 2))
    s.canKick n

/-- CAN_QUEUE_LATE (R393): a response or notification has waited longer than QUEUE_LATE_T; at most once per 1 s. -/
def doCanQueueLate (n : Fin 4) (s : State) : State :=
  let c := s.can n
  let waits := !(s.sess 0).resp.isEmpty || !(s.sess 0).notif.isEmpty || (List.range 32).any (fun b => (c.buf b).active.isSome)
  s.whenS (n.val == s.dictCan && waits) (·.every (0x0D0005 + 256 * n) 400000000)

/-! ### Clock monitors (R23, R131, R383) -/

/-- The instances of CLK_LOSS (R310). -/
def clkListed (c : Nat) : Bool :=
  decide (c ≤ 2) || (decide (0x10 ≤ c) && decide (c < 0x14)) || (decide (0x20 ≤ c) && decide (c < 0x44))

/-- The stages that a lane's recovered clock concerns (R131): 0x20 to 0x3F L0 to L31, 0x40 to 0x43 D0 to D3. -/
def State.clkStages (s : State) (c : Nat) : List Nat :=
  s.withEft (if 0x40 ≤ c then s.bankStages (c - 0x40) else if 0x20 ≤ c then (s.genHolder (c - 0x20)).toList else [])

/-- CLK_LOSS (R23, R131, R383): the condition is reported. Without CLK_TB the matrix source 119 gates the PWMO pins; without a
lane's clock the clusters of its stages latch; without CLK_CAN every controller drops its frame in progress. -/
def doClkLoss (clk : BitVec 8) (s : State) : State :=
  let c := clk.toNat
  if !clkListed c || s.pwm.clkLost.contains c then s
  else
    let s : State := { s with pwm := { s.pwm with clkLost := s.pwm.clkLost ++ [c] } }
    let s := s.condOn (0x0A0001 + 256 * c)
    let s := if c = 0 then [44, 45, 46, 47].foldl (fun s g => s.gatePins g true true) (s.setSrc 119 true) else s
    let s := (s.clkStages c).foldl (fun s g => (s.stageCls g).foldl (fun s k => s.latchCl k) s) s
    if c = 2 then (List.range 4).foldl (fun s n => s.setCan n { s.can n with wire := none }) s else s

/-- CLOCK_RETURN (R383): the condition ends; each controller that is not OFF goes to INTEGRATING when CLK_CAN returns. -/
def doClockReturn (clk : BitVec 8) (s : State) : State :=
  let c := clk.toNat
  if !s.pwm.clkLost.contains c then s
  else
    let s : State := { s with pwm := { s.pwm with clkLost := s.pwm.clkLost.filter (· != c) } }
    let s := s.condOff (0x0A0001 + 256 * c)
    let s := if c = 0 then s.setSrc 119 false else s
    if c = 2 then
      (List.range 4).foldl (fun s n =>
        let x := s.can n
        if x.st = .off then s
        else if x.stopping then s.canOff n
        else (s.canTo n { x with st := .integrating }).condOff (0x0D0001 + 256 * n)) s
    else s

end Sys2Proof.Machine
end

