-- ==== Sys2Proof/Machine/Boot.lean ====
section
/-! DEFINITION. Resets, the boot sequence, the start-attempt counter, the device states and DEV_CMD (14_startup_and_power_states.md),
with what a supply's reset level does (R322) and the end of a deferral (R323). -/

namespace Sys2Proof.Machine

/-! ### Resets (R358 to R360, R373) -/

/-- The REACHED code of R364 of a running device. -/
def State.reachedNow (s : State) : Nat :=
  let d := s.dev
  if d = devBoot then s.boot.step else if d = devIdle then 0x20 else if d = devOperational then 0x21 else if d = devPark then 0x22
  else if d = devTadpole then 0x23 else if d = devSafe then 0x24 else 0xFF

/-- The code of the uncleared latch entry of the highest class (R364); 0 if none. -/
def State.topFault (s : State) : Nat :=
  let m := s.flt.latch.foldl (fun a l => max a l.cls) 0
  ((s.flt.latch.find? (fun l => l.cls == m)).map (fun l => l.code)).getD 0

/-- A Scorecard record joins a list by rising age. -/
def insSc (r : ScRec) : List ScRec → List ScRec
  | [] => [r]
  | x :: l => if x.t48 < r.t48 ∨ (x.t48 = r.t48 ∧ x.seq < r.seq) then r :: x :: l else x :: insSc r l

/-- The last 8 Scorecard records made since the last start, which the always-on domain holds (R299, R373). -/
def State.lastSc (s : State) : List ScRec :=
  (((s.flt.ring.map (fun (p : Nat × ScRec) => p.2)).filter (fun r => r.used && !r.prior)).foldr insSc []).take 8

/-- A journal record whose first write has begun completes with its commit word (R324, R336, R375). -/
def State.finishWrite (s : State) : State :=
  match s.nvm.writing, s.nvm.queue with
  | true, r :: _ => s.setFram (bankBase s.nvm.bank + s.nvm.pos) ((recWords r.key r.ty r.seq s.nvm.gen r.words).take 1)
  | _, _ => s

/-- While the KILL pin is high, every lane kill, every bank-off wire and source 118 stay asserted, through a reset too (R305). -/
def State.killHeld (s : State) : State :=
  let lanes : Tab Lane := (List.range 32).foldl (fun t l => Tab.set (fun _ => Lane.reset) t l { s.lane l with kill := true }) s.lanes.lane
  ({ s with lanes := { s.lanes with lane := lanes }, drv := { s.drv with bankWire := 0xF } } : State).setSrc 118 true

/-- The supplies VDDA, VDDL and GVDD that stand at a reset level still do so after a reset (R432). -/
def State.absent (s : State) : Tab Supply :=
  [3, 4, 5].foldl (fun t p =>
    let x := s.supply p
    if x.reset || x.ovreset then Tab.set (fun _ => Supply.ok) t p { Supply.ok with reset := x.reset, ovreset := x.ovreset } else t) []

/-- A reset (R358, R360, R373). `keep` says that the always-on domain survives it; of several causes that act together the lowest
is reported. What stays in any case: the arrays, the levels of the input pins, the queue of commands and the free values. -/
def State.resetTo (s : State) (cause : Nat) (keep : Bool) (reached : Nat) : State :=
  let s := s.finishWrite
  let b := s.boot
  let k := if b.inReset then keep && b.keptAon else keep
  let c := if b.inReset then min cause b.cause else cause
  let nb : Boot := { Boot.reset with
    cause := c, keptAon := k, nrstIn := b.nrstIn, bor := b.bor, heldWake := if c = 0x0A then b.heldWake else none
    wake := if k ∧ c = 0x0A then b.wake else Wake.none }
  let nb : Boot := if k then { nb with
    count := b.count, fails := b.fails
    reached := if b.inReset then b.reached else reached
    reason := if b.inReset then b.reason else if cause = 9 then b.failed else 0
    fault := if b.inReset then b.fault else s.topFault
    sc := if b.inReset then b.sc else (s.lastSc ++ b.sc).take 8
    uncleared := b.uncleared } else nb
  let r := State.reset
  let qes : Tab Qe := (List.range 4).foldl (fun t n =>
    Tab.set (fun _ => Qe.reset) t n { Qe.reset with samp := (s.qe n).samp, idxLevel := (s.qe n).idxLevel }) []
  { r with
    pending := s.pending, free := s.free, boot := nb, tap := s.tap, qes := qes
    mem := { r.mem with fram := s.mem.fram, otp := s.mem.otp, upset := s.mem.upset.filter (fun p => decide (2 ^ 21 ≤ p.1)) }
    nvm := { r.nvm with marks := s.keptMarks }
    drv := { r.drv with killPin := s.drv.killPin }
    stages := { r.stages with ctf := s.stages.ctf }
    mon := { r.mon with supply := s.absent }
    pwm := { r.pwm with line := if k then s.agedLines else [] } } |>.whenS s.drv.killPin State.killHeld

/-- POR (R358, R359): the cell of the brown-out cause is cleared. -/
def doPor (s : State) : State :=
  let s := s.resetTo 1 false 0xFF
  { s with boot := { s.boot with bor := 0 } }

/-- PIN_RESET (R358). -/
def doPinReset (s : State) : State :=
  let s := s.resetTo 5 true s.reachedNow
  { s with boot := { s.boot with nrstIn := true } }

/-- WATCHDOG (R358): a SAFE_STOP fault, whose reaction completes, then the reset; REACHED is the state before the fault. -/
def doWatchdog (s : State) : State :=
  if s.boot.inReset ∨ s.dev = devStandby then s else (s.classify 0x0B0005 false).resetTo 6 true s.reachedNow

/-- LOCKSTEP_ERROR (R358). -/
def doLockstepError (s : State) : State :=
  if s.boot.inReset ∨ s.dev = devStandby then s else (s.classify 0x0B0004 false).resetTo 7 true s.reachedNow

/-- SUPPLY_RESET (R322): a brown-out of VSUP, VDDC or VDDIO; the half-bridges off and SUPPLY_RESET for VDDA; SUPPLY_RESET for VDDL;
GVDD_UV and the half-bridges off for GVDD. VSUP and GVDD have no overvoltage reset level (R321). In reset only the level is held, and
the level of VDDL is acted on once the device has left BOOT (R432). -/
def doSupplyReset (pp : Fin 6) (ov : Bool) (s : State) : State :=
  let p := pp.val
  if ov ∧ (p = 0 ∨ p = 5) then s
  else if p < 3 then
    let s := s.resetTo (2 + p) false 0xFF
    { s with boot := { s.boot with bor := BitVec.ofNat 3 (2 + p) } }
  else
    let x := s.supply p
    let s0 := s
    let s := s.setSupply p (if ov then { x with ovreset := true } else { x with reset := true })
    if s.boot.inReset ∨ s.dev = devStandby then s
    else if p = 4 then (if s.dev = devBoot then s else s.report 0x090411)
    else
      let s := [0, 1, 2, 3].foldl (fun s b => s.bankSafe b) s
      if p = 3 then (s.setSrc 116 true).report 0x090311
      else
        let s := ({ s with drv := { s.drv with gvdd := 3 } } : State).bkEvents s0
        (s.setSrc 115 true).condOn 0x05FF06

/-! ### The start-attempt counter (R364) -/

/-- The mirror in the status region, the counter and the three records, is written, or its write waits (R323, R375). -/
def State.mirror (s : State) : State :=
  let f (i : Nat) : Nat := s.boot.fails.getD i 0
  let hi (i : Nat) : Word := BitVec.ofNat 24 (f i / 2 ^ 24)
  let lo (i : Nat) : Word := BitVec.ofNat 24 (f i)
  s.arrayWrite (statusRuns 0 [BitVec.ofNat 24 s.boot.count, 0, 0] ++ statusRuns 3 [hi 0, lo 0, hi 1] ++ statusRuns 4 [lo 1, hi 2, lo 2])

/-- The counter and its records as entries 1.020 and 1.022. -/
def State.showCount (s : State) : State :=
  let f (i : Nat) : Nat := s.boot.fails.getD i 0
  (((s.put 1 0x020 0 s.boot.count).put 1 0x022 0 (f 0)).put 1 0x022 1 (f 1)).put 1 0x022 2 (f 2)

/-- A start that ended before the counter was cleared fills the newest record (R364). -/
def State.pushFail (s : State) : State :=
  let b := s.boot
  let r := b.cause * 2 ^ 40 + b.reached * 2 ^ 32 + b.reason * 2 ^ 24 + b.fault
  { s with boot := { b with fails := (r :: b.fails).take 3 } }

/-- A start begins: the counter decides for Tadpole mode by its value before the increment, and rises by 1. -/
def State.countStart (s : State) : State :=
  let b := s.boot
  ({ s with boot := { b with tadpole := decide (3 ≤ b.count), count := min 15 (b.count + 1) } } : State).showCount

/-- The counter returns to 0. -/
def State.clearCount (s : State) : State :=
  (({ s with boot := { s.boot with count := 0, uncleared := false } } : State).showCount).mirror

/-! ### The release of reset (R361 step 1) -/

/-- The Scorecard is rebuilt from its persistent copy and the always-on records (R303), all PRIOR. -/
def State.rebuildSc (s : State) : State :=
  let s := (List.range 32).foldl (fun s i =>
    let w := s.framRange (0x74000 + 8 * i) 8
    match scOfWords w with
    | some r => if r.seq % 32 = i then s.setSc i r else s
    | none => if w.all (· == 0) then s else s.report 0x0C0601) (s.framRead 0x74000 256)
  let s := s.boot.sc.reverse.foldl (fun s r =>
    let o := s.scAt (r.seq % 32)
    if o.used ∧ 32768 ≤ (65536 + r.seq - o.seq) % 65536 then s else s.setSc (r.seq % 32) { r with prior := true }) s
  let seqs := s.flt.ring.map (fun (p : Nat × ScRec) => p.2.seq)
  match seqs.filter (fun n => !seqs.contains ((n + 1) % 65536)) with
  | [] => s
  | n :: r =>
    let m := r.foldl max n
    (s.put 0xA 0x009 0 ((m + 1) % 65536)).put 0xA 0x008 0 (m % 32)

/-- RESET_RELEASE (R360, R361 step 1): the boot sequence begins. -/
def doResetRelease (s : State) : State :=
  if s.boot.inReset = false then s
  else
    let b := s.boot
    let s : State := { s with boot := { b with inReset := false, nrstIn := false, nrstOut := false, step := 2, heldWake := none } }
    let s := if b.keptAon then (s.whenS b.uncleared State.pushFail).countStart else s
    let s : State := { s with boot := { s.boot with uncleared := true } }
    let s := (s.put 1 0x011 0 b.cause).put 1 0x013 0 (if b.cause = 0x0A then (b.heldWake.map (· + 1)).getD 0 else 0)
    let s := s.rebuildSc.report (0x0B0007 + 256 * b.cause)
    if s.drv.killPin then s.killHeld.condOn 0x0B0001 else s

/-! ### Boot failures (R362) -/

/-- A boot failure waits for its reset. -/
def State.bootFails (s : State) (reason : Nat) : State :=
  ({ s with boot := { s.boot with failed := reason } } : State).put 1 0x014 0 reason

/-- The boot sequence runs: not in reset, no failure waits. -/
def State.booting (s : State) : Bool := s.dev == devBoot && !s.boot.inReset && s.boot.failed == 0 && decide (2 ≤ s.boot.step)

/-- BOOT_STEP_TIMEOUT (R361, R362): XTAL 1, PLL 2, SELFTEST 5, LINK 6, TIMEOUT 7. In a start bound for Tadpole mode XTAL, PLL and
SELFTEST repeat. -/
def doBootStepTimeout (s : State) : State :=
  if !s.booting || s.boot.stuck != 0 then s
  else
    let k := s.boot.step
    let r := if k = 2 then 1 else if k = 3 then 2 else if k = 5 then 5 else if k = 8 then 6 else 7
    if s.boot.tadpole ∧ (r = 1 ∨ r = 2 ∨ r = 5) then ({ s with boot := { s.boot with stuck := k } } : State).put 1 0x014 0 r
    else s.bootFails r

/-- BOOT_FAIL (R362). -/
def doBootFail (s : State) : State := if s.boot.failed = 0 ∨ s.boot.inReset then s else s.resetTo 9 true s.reachedNow

/-! ### Entry to IDLE (R363) -/

/-- The declared tasks that no engine holds and no placement job will place. -/
def State.toPlace (s : State) : List Nat :=
  let waiting := (s.ref.job.filter (fun (p : Nat × Job) => p.2.kind == .place)).flatMap (fun (p : Nat × Job) => p.2.data.map (fun w => w.toNat))
  (List.range 96).filter (fun t => s.taskOn t && (s.task t).codeLen == 0 && !waiting.contains t)

/-- The checks of R72 on the tasks taken, the highest number first; one that fails is REFUSED with its reason. -/
def State.startChecks : Nat → State → State
  | 0, s => s
  | n + 1, s =>
    let s1 := ((List.range 96).filter s.taskOn).foldr (fun t s => match s.refuseTask t with
      | some r => (s.dropTask t).notPlaced t r
      | none => s) s
    if s1.tasksDeclared = s.tasksDeclared then s1 else State.startChecks n s1

/-- The persisted declarations of tasks at a start (R71, R72, R100): all are taken, since a binding may name any of them, and those that fail a check
then go. -/
def State.startTasks (s : State) : State :=
  let ts := (List.range 96).filter (fun t => s.en 2 0x010 t != 0)
  (ts.foldl State.takeTask s).startChecks ts.length

/-- R363; `origin` is 0 from BOOT, 1 from SAFE, 2 from PARK. The persisted declarations of tasks are taken at the first entry to
IDLE of a start, which follows a warm restart where the boot ended in SAFE (R356). -/
def State.idleEntry (s : State) (origin : Nat) : State :=
  let s := if origin = 2 then s else s.declareAll
  let s := if origin = 0 ∨ s.boot.safe then s.startTasks else s
  let s : State := { s with boot := { s.boot with safe := false } }
  let s := s.placeJob s.toPlace
  let s := if s.en 6 0x003 0 = 1 ∧ s.drv.gvdd ≠ 2 ∧ s.drv.gvdd ≠ 4 then s.setGvdd 1 else s
  let s := if origin = 0 then (List.range 4).foldl (fun s n => if s.en 8 0x010 n = 1 then qeStart s n else s) s else s
  let s := (List.range 32).foldl (fun s l => if s.en 5 0x010 l = 1 then s.laneOn l else s) s
  s.idleJobs

/-! ### The steps of the boot sequence (R361) -/

/-- Step 6: the counter after POR or a brown-out, the decision, the mirror, and a failure found at step 4. -/
def State.bootDecide (s : State) : State :=
  let s := s.framRead 0x74100 256
  let s := if s.boot.keptAon then s
    else
      let a := s.status 3
      let b := s.status 4
      let w (l : List Word) (i : Nat) : Nat := (l.getD i 0).toNat
      let fails := [w a 0 * 2 ^ 24 + w a 1, w a 2 * 2 ^ 24 + w b 0, w b 1 * 2 ^ 24 + w b 2]
      let nb : Boot := { s.boot with count := ((s.status 0).getD 0 0).toNat % 16, fails := fails, reached := 0xFF, reason := 0, fault := 0 }
      (({ s with boot := nb } : State).whenS (nb.count != 0) State.pushFail).countStart
  let s := (s.showCount).mirror
  if s.boot.otpFail = 0 then s
  else if s.boot.tadpole then s.put 1 0x014 0 s.boot.otpFail else s.bootFails s.boot.otpFail

/-- The calibration copies are read (R344). The layout of the region is not stated, so what their CRCs show is a free value (log entry 49):
CAL_STATE VALID 0, ONE_COPY 1, INVALID 2, which makes NVM_STATE DEGRADED. -/
def State.bootCal (s : State) : State :=
  let v := (Config.free 2 s.free).toNat
  let s := (s.tick.framRead 0x70000 0x4000).put 0xB 0x031 0 (if v < 2 then v else 2)
  if v = 0 then s else if v = 1 then s.report 0x0C0501 else (s.report 0x0C0508).put 0xB 0x000 0 2

/-- Step 9: replay, the node ID and the protocol settings that hold until the next start, the configuration of the converters and
comparators. -/
def State.bootReplay (s : State) : State :=
  let s := (List.range 48).foldl State.cwLoad ((List.range 12).foldl State.loadPending s.replay.bootCal)
  let s := s.put 0xC 0x011 0 s.nodeOf
  let s := s.snapDecl [mkKey 0xC 0x012 0, mkKey 0xC 0x014 0, mkKey 0xC 0x015 0, mkKey 0xC 0x016 0, mkKey 0 0x021 0, mkKey 0xC 0x013 0,
    mkKey 0xC 0x017 0, mkKey 0xC 0x025 0]
  let s := s.whenS s.boot.tadpole (fun s => s.putDecl (mkKey 0xC 0x012 0) 0)
  let s := (List.range 4).foldl (fun s d =>
    let s := (List.range 8).foldl (fun s k => s.sendCfgWord d (0x40 + 4 * k) (s.seqCfg d k)) s
    (List.range 12).foldl (fun s j => s.sendCfgWord d (0x60 + 2 * j) (s.cwCfg d j)) s) s
  (List.range 4).foldl (fun s d =>
    let x := s.lane (32 + d)
    if x.st = .active then s.setLane (32 + d) { x with cfgDue := 7 } else s) s

/-- The block of an enabled receive map is placed in a shared tile (R78, R420). -/
def State.placeRxm (s : State) (m : Nat) : State :=
  match s.tileRun 96 (s.en 0xE 0x003 m) with
  | some a => s.put 0xE 0x004 m a
  | none => s

/-- Step 11: CAN and LOCAL start, the device leaves BOOT, and START waits as the first notification of each transport. BOOT_TIME is
a free value: the model has no clock before step 3. A reset level of VDDL is acted on now (R432). -/
def State.bootEnd (s : State) : State :=
  let tad := s.boot.tadpole
  let s : State := { s with boot := { s.boot with step := 0 } }
  let s := if tad then s.canBoot 0
    else (List.range 4).foldl (fun s n => if s.en 0xC 0x020 n = 1 then s.canBoot n else s) s
  let s := if tad then s
    else (List.range 32).foldl (fun s m => if s.en 0xE 0x000 m = 1 then s.placeRxm m else s) s
  let time := (Config.free 24 s.free).toNat
  let s := s.tick.put 1 0x015 0 time
  let d := if tad then devTadpole else if s.boot.safe then devSafe else devIdle
  let s := s.setDev d
  let start : Notif := ⟨s.t48.toNat, 1, 0, [BitVec.ofNat 8 (s.en 1 0x011 0), BitVec.ofNat 8 d] ++ beBytes time 3⟩
  let s := [0, 1].foldl (fun s n => s.setSess n { s.sess n with notif := (s.sess n).notif ++ [start] }) s
  let s := if tad then
      let s := s.report 0x0B0008
      let s := [32, 33, 34, 35].foldl (fun s l => if (s.lane l).st = .active then s.laneTo l .holdOnly else s) s
      (List.range 32).foldl (fun s l => if s.en 5 0x010 l = 1 then s.laneOn l else s) s
    else if d = devIdle then s.idleEntry 0 else s
  s.whenS ((s.supply 4).reset || (s.supply 4).ovreset) (·.report 0x090411)

/-- D0 to D3 are trained and the Rally has made every table (R361 step 8). -/
def State.linkReady (s : State) : Bool :=
  [32, 33, 34, 35].all (fun l => (s.lane l).st == .active || (s.lane l).st == .holdOnly) && s.rallyState != 0

/-- A step of R361 completes. -/
def State.bootStep (s : State) : State :=
  let k := s.boot.step
  let go (s : State) : State := { s with boot := { s.boot with step := k + 1 } }
  if k = 3 then
    let s := s.clockStart
    go ([32, 33, 34, 35].foldl (fun s l => (s.startTrain l).startOwnJob .train l [] 0 8 (mkKey 5 0x012 l)) s)
  else if k = 4 then
    let s := [0, 1, 2].foldl (fun s r => s.sense r) s
    let f := if s.regionOk 0 = false then 3 else if s.regionOk 1 = false then 4 else 0
    go { s with boot := { s.boot with otpFail := f } }
  else if k = 5 then go ((s.put 0 0x003 0 (Config.free 24 s.free).toNat).tick)
  else if k = 6 then
    let s := s.bootDecide
    if s.boot.failed = 0 then go s else s
  else if k = 7 then
    go (if s.boot.tadpole then
        let s := s.loadPatches
        { s with boot := { s.boot with slot := none, trial := false, fwVer := BitVec.ofNat 24 (s.en 0 0x003 0) } }
      else s.selectPatch)
  else if k = 8 then
    if [32, 33, 34, 35].any (fun l => (s.lane l).st == .failed) then s.bootFails 6
    else if s.linkReady then go s else s
  else if k = 9 then go s.bootReplay
  else if k = 10 then go ((s.imageChecks).whenS (s.keyMode == 0) (·.report 0x0C1206))
  else if k = 11 then s.bootEnd
  else go s

/-- BOOT_STEP_COMPLETE (R361). -/
def doBootStepComplete (s : State) : State := if s.booting && s.boot.stuck == 0 then s.bootStep else s

/-- BOOT_RETRY (R362): the failed step of a start bound for Tadpole mode runs again. -/
def doBootRetry (ok : Bool) (s : State) : State :=
  if s.booting && s.boot.stuck != 0 && ok then ({ s with boot := { s.boot with stuck := 0 } } : State).bootStep else s

/-- START_COUNTER_CLEAR (R343, R364): 1 s in IDLE, OPERATIONAL or PARK; a TRIAL patch that runs is CONFIRMED, and the other slot, if
it was, is VALID. -/
def doStartCounterClear (s : State) : State :=
  if s.dev = devIdle ∨ s.dev = devOperational ∨ s.dev = devPark then
    let s := s.clearCount
    match s.boot.trial && s.dev != devPark, s.boot.slot with
    | true, some p =>
      let s : State := { s with boot := { s.boot with trial := false } }
      let s := if s.en 0xB 0x020 (1 - p) = 3 then s.setPatch (1 - p) 1 (s.en 0xB 0x021 (1 - p)) else s
      (s.setPatch p 3 (s.en 0xB 0x021 p)).markTrial 0
    | _, _ => s
  else s

/-! ### DEV_CMD (R356, R366, R376) -/

/-- A DEV_CMD: accepted in the states listed, else the wrong-state error (R356). -/
def State.devCmd (s : State) (q : Req) (v lev : Nat) (ok : List Nat) (armed : State → Option Nat) (why : State → Bool)
    (effect : State → State) : State :=
  s.dictWriteR q (mkKey 1 0x010 0) v lev armed
    (fun s => if !ok.contains s.dev then some ⟨errWrongState, s.dev⟩ else if why s then some ⟨errRefused, 0⟩ else none) effect

/-- A stage is OFF with its declaration ended; its clusters stop. -/
def State.dropStage (s : State) (g : Nat) : State :=
  let s := s.stopStage g
  let s := (s.stgTo g .off).clearDecl (stageKeys g)
  s.setStg g { s.stg g with opening := 0, disarming := false }

/-- The setpoints that a warm restart returns to their Defaults (R373). -/
def setpoints : List Nat := [0x032, 0x033, 0x502, 0x503, 0x504]

/-- The warm restart (R368). -/
def State.warm (s : State) : State :=
  let s := (List.range 12).foldl (fun s g => s.dropStage g) s
  let s := (List.range 12).foldl (fun s c => s.stopCl c) s
  let jobs := s.ref.job.filter (fun (p : Nat × Job) => [JobKind.precheck, .ident, .train, .retrain, .satRead].contains p.2.kind)
  let s := jobs.foldl (fun s (p : Nat × Job) =>
    match p.2.kind with
    | .train | .retrain => if p.2.arg < 32 then (s.endJob p.1 6 0).trainFail p.2.arg 8 else s
    | .ident => (s.put 0xD 0x152 p.2.arg 4).endJob p.1 6 0
    | _ => s.endJob p.1 6 0) s
  let s := (List.range 36).foldl (fun s l => if (s.lane l).st = .active then s.retrainOwn l else s) s
  let s : State := { s with flt := { s.flt with kills := 0, bankOff := 0 } }
  let s := (List.range 4).foldl (fun s b => s.bankWireTo b (s.tmOut (0x50 + b))) s
  let s := (s.clearList (s.flt.latch.filter (fun l => !l.live && !l.inWin))).put 0xA 0x00C 0 7
  let s := (List.range 96).foldl (fun s t => if s.taskOn t then (s.unplace t).put 2 0x031 t 1 else s) s
  let s := (List.range 12).foldl (fun s g => setpoints.foldl (fun s e => s.put 0xD e g (entDefault (mkKey 0xD e g))) s) s
  (s.setDev devIdle).idleEntry 1

/-- WARM_RESTART (R368): refused while a latch entry of class SAFE_STOP is live. -/
def doWarmRestart (q : Req) (s : State) : State :=
  s.devCmd q 0 0 [devSafe] (fun _ => none) (fun s => s.flt.latch.any (fun l => l.cls == 6 && l.live)) State.warm

/-- The answer of a command that ends in a reset is sent first (R358); the session, and with it every trace, ends with the reset. -/
def State.devReset (s : State) (q : Req) (v cause : Nat) (ok : List Nat) (armed : State → Option Nat) (prep : State → State) : State :=
  let k := mkKey 1 0x010 0
  s.serve q opWrite k 0 (fun s =>
    match s.writeCheck q.ses.val k v 0 (armed s) with
    | .error e => s.refuse q opWrite k e
    | .ok _ =>
      if ok.contains s.dev then (prep s).resetTo cause true s.reachedNow else s.refuse q opWrite k ⟨errWrongState, s.dev⟩)

/-- SOFT_RESET (R358, R376): refused while any stage is armed. -/
def doSoftReset (q : Req) (s : State) : State :=
  s.devReset q 1 8 [devTadpole, devIdle, devOperational, devSafe, devPark]
    (fun s => lowStage (fun g => (s.stg g).st.armedRwi)) id

/-- RESTART_NORMAL (R364): the counter is set to 0. -/
def doRestartNormal (q : Req) (s : State) : State := s.devReset q 2 0x0B [devTadpole] (fun _ => none) State.clearCount

/-- Steps 2 to 4 of R369: kill bursts and lanes off, GVDD off, the counter cleared, the wake configuration kept. The command is
answered. -/
def State.standbyGo (s : State) : State :=
  let s := match s.boot.standbyReq with
    | some q => s.respond q opWrite 0 0 (mkKey 1 0x010 0) (statusBody 0 false 0)
    | none => s
  let s := (List.range 36).foldl (fun s l =>
    let s := s.killSent l
    (s.setLane l { (s.lane l).flush with step := 0, answered := false }).laneTo l .off) s
  let s := s.gvddOff
  let s := s.clearCount
  let w : Wake := ⟨s.en 1 0x040 0, s.en 1 0x041 0 == 1, (List.range 4).map (fun n => (s.en 0xC 0x050 n == 1, s.en 0xC 0x051 n, s.en 0xC 0x052 n))⟩
  { s with boot := { s.boot with standby := 5, standbyReq := none, wake := w } }

/-- STANDBY (R369): step 1 waits for the journal queue. -/
def doStandby (q : Req) (s : State) : State :=
  let k := mkKey 1 0x010 0
  s.serve q opWrite k 0 (fun s =>
    match s.writeCheck q.ses.val k 3 0 none with
    | .error e => s.refuse q opWrite k e
    | .ok _ =>
      if s.dev ≠ devIdle then s.refuse q opWrite k ⟨errWrongState, s.dev⟩
      else
        let s : State := { s with boot := { s.boot with standby := 1, standbyReq := some q } }
        if s.nvm.queue.isEmpty then s.standbyGo else s.holdTag q)

/-- The STANDBY command is refused and the device stays in IDLE (R369, R370). -/
def State.standbyRefuse (s : State) : State :=
  let q := s.boot.standbyReq
  let s : State := { s with boot := { s.boot with standby := 0, standbyReq := none } }
  match q with
  | some q => s.refuse q opWrite (mkKey 1 0x010 0) ⟨errRefused, 0⟩
  | none => s

/-- STANDBY_QUEUE_TIMEOUT (R369). -/
def doStandbyQueueTimeout (s : State) : State := if s.boot.standby = 1 then s.standbyRefuse else s

/-- JOURNAL_COMMIT (R335, R369): an emptied queue lets STANDBY go on. -/
def doJournalCommit (s : State) : State :=
  let s := s.journalCommit
  if s.boot.standby = 1 ∧ s.nvm.queue = [] then s.standbyGo else s

/-- A wake source is enabled (R370): 0 to 3 CAN, 4 LOCAL, 5 the timer. -/
def Wake.enabled (w : Wake) (src : Nat) : Bool :=
  if src < 4 then (w.can.getD src (false, 0, 0)).1 else if src = 4 then w.localOn else w.timer != 0

/-- The start of a wake. -/
def State.wakeStart (s : State) (src : Nat) : State :=
  ({ s with boot := { s.boot with heldWake := some src } } : State).resetTo 0x0A true 0xFF

/-- STANDBY_ENTERED (R369 step 5): power is off but for the always-on domain; a wake that was held acts. -/
def doStandbyEntered (s : State) : State :=
  if s.boot.standby ≠ 5 then s
  else
    let b := s.boot
    let s := s.resetTo 0x0A true 0xFF
    let s : State := { s with boot := { s.boot with inReset := false, step := 0, standby := 0, nrstOut := false, wake := b.wake, heldWake := none } }
    let s := s.put 1 0x000 0 devStandby
    match b.heldWake with
    | some src => s.wakeStart src
    | none => s

/-- WAKE_EVENT (R370): in STANDBY a start; before step 5 of R369 the command is refused; during step 5 the wake is held. -/
def doWakeEvent (src : Fin 6) (s : State) : State :=
  if s.dev = devStandby then (if s.boot.wake.enabled src then s.wakeStart src else s)
  else if s.boot.standby = 5 then
    (if s.boot.wake.enabled src then { s with boot := { s.boot with heldWake := some (s.boot.heldWake.getD src) } } else s)
  else if s.boot.standby = 1 then
    let on := if src.val < 4 then s.en 0xC 0x050 src == 1 else if src.val = 4 then s.en 1 0x041 0 == 1 else false
    if on then s.standbyRefuse else s
  else s

/-- PARK (R371): every quad off; the tasks lose their engines. -/
def doPark (q : Req) (s : State) : State :=
  s.devCmd q 4 0 [devIdle] (fun _ => none) (fun _ => false) (fun s =>
    let s := (List.range 96).foldl (fun s t => if s.taskOn t then (s.unplace t).put 2 0x031 t 1 else s) s
    ([0, 1, 2, 3].foldl (fun s k => s.quadOff k) s).setDev devPark)

/-- WAKE (R371). -/
def doWake (q : Req) (s : State) : State :=
  s.devCmd q 5 0 [devPark] (fun _ => none) (fun _ => false) (fun s => (s.setDev devIdle).idleEntry 2)

/-- FACTORY_TEST (R372): FACTORY level, IDLE with every stage OFF. -/
def doFactoryTest (q : Req) (s : State) : State :=
  s.devCmd q 6 2 [devIdle] (fun _ => none) (fun s => (List.range 12).any (fun g => s.declared g))
    (fun s => { s with boot := { s.boot with factory := true } })

/-! ### NVM_RECOVER (R367) -/

/-- NVM_RECOVER: SERVICE level, in TADPOLE, or in IDLE with every stage OFF. -/
def State.recover (s : State) (q : Req) (v : Nat) (effect : State → State) : State :=
  s.dictWriteR q (mkKey 1 0x030 0) v 0 (fun _ => none)
    (fun s => if s.dev ≠ devTadpole ∧ s.dev ≠ devIdle then some ⟨errWrongState, s.dev⟩
      else if s.dev = devIdle ∧ (List.range 12).any (fun g => s.declared g) then some ⟨errRefused, 0⟩ else none) effect

/-- DEFAULTS (R367): STATE of both journal headers is unused. -/
def doDefaults (q : Req) (s : State) : State :=
  s.recover q 0 (fun s => [0, 1].foldl (fun s b => if s.bankState b = 0 then s else s.setHeader b 4 (s.bankGen b) (s.bankS0 b)) s)

/-- REJECT_PATCHES (R367). -/
def doRejectPatches (q : Req) (s : State) : State :=
  s.recover q 1 (fun s => [0, 1].foldl (fun s p => s.setPatch p 4 (s.en 0xB 0x021 p)) s)

/-! ### The end of a deferral (R323) -/

/-- DEFER_END (R323): the debounce ends, and with it the deferral; what was deferred first may begin. -/
def doDeferEnd (s : State) : State :=
  if s.mon.debounce ∧ s.deferCause = false then
    let s : State := { s with mon := { s.mon with debounce := false }, nvm := { s.nvm with deferred := false } }
    ((s.put 9 0x070 0 0).raiseEv 295).drain
  else s

end Sys2Proof.Machine
end

