-- ==== Sys2Proof/Machine/Jobs.lean ====
section
/-! DEFINITION. The job system (R94 to R98, R450): the choice of a job, its steps, cancelling, limits and progress. -/

namespace Sys2Proof.Machine

/-- The effective priority (R96): one more for each full 20 ms (8 000 000 ticks) since the job was queued, up to 3. -/
def State.jobPrio (s : State) (j : Job) : Nat := j.prio + min 3 (s.since j.born / 8000000)

/-- Another job holds the lock of the job in a slot (R97): it has taken a step. -/
def State.lockTaken (s : State) (slot : Nat) : Bool :=
  let k := s.en 2 0x095 slot
  k != 0xFF && s.ref.job.any (fun (p : Nat × Job) => p.1 != slot && s.en 2 0x095 p.1 == k && decide (0 < p.2.steps))

/-- The job writes to the arrays, which a deferral pauses (R98, R323). -/
def JobKind.writes : JobKind → Bool
  | .kimgLoad | .kimgDelete | .patchLoad | .shed | .otpBurn | .otpLock | .otpComplete | .otpAudit => true
  | _ => false

/-- The job is PAUSED: it waits for its lock or for the end of a deferral. -/
def State.jobPaused (s : State) (slot : Nat) (j : Job) : Bool := s.lockTaken slot || (s.deferring && j.kind.writes)

/-- What the job waits for has happened. No task is placed in PARK, where every quad is off (R371). -/
def State.jobReady (s : State) (j : Job) : Bool :=
  match j.kind with
  | .kimgLoad | .patchLoad => j.fed && !s.nvm.writing
  | .kimgDelete | .shed => !s.nvm.writing
  | .train | .retrain => !s.trainWaits j.arg
  | .precheck => s.preReady j
  | .place => s.dev != devPark && s.placeReady j
  | .ost => s.ostReady j
  | .ident => s.identReady j
  | _ => true

/-- The job can take a step, or its cleanup step (R96, R98). -/
def State.runnable (s : State) (slot : Nat) (j : Job) : Bool := j.cancel || (!s.jobPaused slot j && s.jobReady j)

/-- The Shed job within a step, between two of its writes (R339, R340). -/
def State.midStep (s : State) : Option (Nat × Job) :=
  if s.nvm.shed.any (fun x => x.made != 0 || decide (4 ≤ x.step)) then
    s.ref.job.find? (fun (p : Nat × Job) => p.2.kind == .shed && s.runnable p.1 p.2)
  else none

/-- The job whose step goes on; at a step boundary the runnable one of the highest effective priority, the oldest of equals (R96). -/
def State.chooseJob (s : State) : Option (Nat × Job) :=
  if s.midStep.isSome then s.midStep
  else (s.ref.job.filter (fun (p : Nat × Job) => s.runnable p.1 p.2)).foldl (fun (a : Option (Nat × Job)) (p : Nat × Job) =>
    match a with
    | none => some p
    | some b =>
      if s.jobPrio b.2 < s.jobPrio p.2 ∨ (s.jobPrio b.2 = s.jobPrio p.2 ∧ p.2.born < b.2.born) then some p else some b) none

/-- JOB_STATE of every job: QUEUED 1, RUNNING 2, PAUSED 3. -/
def State.showJobs (s : State) : State :=
  s.ref.job.foldl (fun s (p : Nat × Job) =>
    s.put 2 0x090 p.1 (if s.jobPaused p.1 p.2 then 3 else if p.2.steps = 0 then 1 else 2)) s

/-- The cleanup step of a cancelled job, which ends CANCELLED (R98). -/
def State.jobCancelled (s : State) (slot : Nat) (j : Job) : State :=
  match j.kind with
  | .train | .retrain => (s.endJob slot 6 0).trainFail j.arg 8
  | .ost => ((s.whenS (j.pc != 0) (·.leaveTest j.arg)).put 6 0x031 j.arg 7).endJob slot 6 0
  | .cwCheck => s.cwCheckEnd slot j.arg 5
  | .precheck => s.preCancel slot j.arg
  | .ident => s.identCancel slot j.arg
  | _ => s.endJob slot 6 0

/-- The cleanup of a job at its step limit (R98). -/
def State.jobLimit (s : State) (slot : Nat) (j : Job) : State :=
  let code := 0x02000B + 256 * slot
  let s := match j.kind with
    | .ost => (s.whenS (j.pc != 0) (·.leaveTest j.arg)).put 6 0x031 j.arg 7
    | .cwCheck => (s.whenS (s.cw j.arg).masked (·.cwMask j.arg false)).put 7 0x069 j.arg 5
    | .precheck => s.preTimeout j.arg
    | .ident => s.put 0xD 0x152 j.arg 3
    | .otpBurn | .otpLock | .otpComplete | .otpAudit => s.put 0xB 0x079 0 3
    | .place => s.unplace (j.data.headD 0).toNat
    | .shed => { s with nvm := { s.nvm with shed := none } }
    | _ => s
  let s := (s.endJob slot 5 code).report code
  match j.kind with
  | .train | .retrain => s.trainFail j.arg 9
  | _ => s

/-- One step of a job by its kind. -/
def State.kindStep (s : State) (slot : Nat) (j : Job) (obs : JobObs) : State :=
  match j.kind with
  | .kimgLoad => s.kimgStep slot j
  | .kimgDelete => s.kdelStep slot j
  | .patchLoad => s.patchStep slot j
  | .shed => s.shedStep slot
  | .otpBurn => s.burnStep slot j obs.ok
  | .otpLock => s.lockStep slot j obs.ok
  | .otpComplete => s.completeStep slot j obs.ok
  | .otpAudit => s.auditStep slot j obs.ok obs.value.toNat
  | .train | .retrain => s.trainStep j.arg
  | .satRead => s.satReadStep slot j
  | .precheck => s.preStep slot j obs
  | .place => s.placeStep slot j obs.ok
  | .ost => s.ostStep slot j obs
  | .cwCheck => s.cwCheckStep slot j obs
  | .ident => s.identStep slot j obs

/-- The step is counted: all but the readings that a precharge repeats each 1 ms (R238), and the further writes of one Shed step (R339). -/
def State.counted (s : State) (j : Job) : Bool :=
  !(j.kind == .precheck && j.pc == 8) && !(j.kind == .shed && s.nvm.shed.any (fun x => x.made != 0 || decide (4 ≤ x.step)))

/-- JOB_PROGRESS (R98): ⌊100 × steps / E⌋ up to 99; it never decreases. -/
def State.progress (s : State) (slot : Nat) (j : Job) : State :=
  s.put 2 0x092 slot (max (s.en 2 0x092 slot) (min 99 (100 * j.steps / max 1 j.expect)))

/-- JOB_STEP (R95): a slice of the Referee, if one is due, and one step of the chosen job; a cancelled job and one at its limit clean up and end. `obs` is what the step
finds outside the block. -/
def doJobStep (obs : JobObs) (s : State) : State :=
  let s := s.slice
  match s.chooseJob with
  | none => s.showJobs
  | some (slot, j) =>
    let s :=
      if j.cancel then s.jobCancelled slot j
      else if s.counted j && decide (j.limit ≤ j.steps) then s.jobLimit slot j
      else
        let j := if s.counted j then { j with steps := j.steps + 1 } else j
        ((s.setJob slot j).progress slot j).kindStep slot j obs
    s.showJobs

/-- JOB_CANCEL (R98): 1 cancels at the next step boundary; REFUSED with DETAIL 1 for a job that cannot be; a free slot, an ended job
and a 0 have no effect. -/
def doJobCancel (q : Req) (slot : Fin 64) (v : BitVec 48) (s : State) : State :=
  s.dictWriteR q (mkKey 2 0x096 slot) v.toNat 0 (fun _ => none)
    (fun s => if v ≠ 0 ∧ (s.jobAt slot).any (fun j => !j.cancellable) then some ⟨errRefused, 1⟩ else none)
    (fun s => match s.jobAt slot with
      | some j => if v = 0 then s else s.setJob slot { j with cancel := true }
      | none => s)

/-- JOB_SLOT_EXPIRY (R94): a slot in a final state is free. -/
def doJobSlotExpiry (slot : Fin 64) (s : State) : State :=
  if 4 ≤ s.en 2 0x090 slot then s.put 2 0x090 slot 0 else s

/-- A JOB_PROGRESS notification to every 2.4 session. -/
def State.sendProgress (s : State) (slot p : Nat) : State :=
  let l := s.flt.lastAt.filter (fun (x : Nat × Nat) => x.1 / 256 != 0x20000 + slot)
  let s : State := { s with flt := { s.flt with lastAt := (0x2000000 + 256 * slot + p, s.t48.toNat) :: l } }
  let n : Notif := ⟨s.t48.toNat, 6, 0, [BitVec.ofNat 8 slot, BitVec.ofNat 8 p]⟩
  [0, 1].foldl (fun s k => if s.ver k = 0x0204 then s.notifyOne k n else s) s

/-- JOB_PROGRESS (R410): notified under 2.4, at most once per 100 ms per job and only where the progress changed since the last.
The times of the last notifications stand beside those of R310's rate limits, under codes that no fault has. -/
def doJobProgress (slot : Fin 64) (s : State) : State :=
  match s.jobAt slot with
  | none => s
  | some j =>
    let p := s.en 2 0x092 slot
    let mine (x : Nat × Nat) : Bool := x.1 / 256 == 0x20000 + slot.val && decide (j.born ≤ x.2)
    match s.flt.lastAt.find? mine with
    | some x =>
      if x.1 % 256 = p ∨ s.since x.2 < ms100 then s
      else s.sendProgress slot p
    | none => s.sendProgress slot p

end Sys2Proof.Machine
end

