-- ==== Sys2Proof/Machine/Ports.lean ====
section
/-! DEFINITION. The engine port space (R60): what a load of each port reads (R63, R132, R133, R164, R181, R205, R206, R227, R228,
R311, R327), what a store does, and the port filter (R61). A word of status is formed here once; the dictionary entries that show
the same word read it from here. -/

namespace Sys2Proof.Machine

/-! ### PWM (R132, R133) -/

/-- GSTAT. -/
def State.gstat (s : State) (g : Nat) : Nat :=
  let x := s.gen g
  (bits 24 [x.range, x.dtFloor, x.minpAct, x.refresh, x.bstWarn, x.refShort, x.markH || x.markL, x.maskRsv]).toNat

/-- The code of a cluster's state in CSTAT and 4.050. -/
def ClState.code : ClState → Nat
  | .off => 0 | .running => 1 | .latched => 2

/-- The ports of slot `i` of a cluster. -/
def State.slotPort (s : State) (c i r : Nat) : Nat :=
  let x := (s.cl c).pending.g.getD i GenSet.reset
  match r with
  | 0 => x.cmpa.toNat | 1 => x.cmpb.toNat | 2 => x.cmpc.toNat | 3 => x.cmpd.toNat | 4 => x.dtr.toNat | 5 => x.dtf.toNat
  | 6 => x.minp.toNat | 7 => x.prof.toNat | 8 => s.gstat (4 * c + i) | _ => 0

/-- A load of a cluster's block. -/
def State.clPort (s : State) (c o : Nat) : Nat :=
  let x := s.cl c
  if o < 0x40 then s.slotPort c (o / 16) (o % 16)
  else match o - 0x40 with
  | 0 => x.pending.period.toNat
  | 1 => x.pending.page.toNat + 8 * b2n x.pending.maskEn
  | 3 => b2n x.transfer.isSome + 2 * b2n (x.waiting.isSome || x.apply.isSome) + 4 * b2n x.late + 8 * b2n x.outenReq + 16 * x.st.code
  | 4 => x.rldnum.toNat
  | 5 => x.lastapp.toNat
  | 6 => x.carrier.toNat
  | 7 => s.en 4 0x055 c
  | 8 => s.en 4 0x056 c + 65536 * x.rejReason.toNat
  | 9 => (s.tripLive c).toNat + 16 * x.tripHit.toNat + 256 * (x.tripcnt % 256) + 65536 * b2n (x.bt.getD 0 false)
      + 131072 * b2n (x.bt.getD 1 false)
  | _ => 0

/-- A pending register takes a stored word (R116). -/
def GenSet.store (x : GenSet) (r : Nat) (v : Word) : GenSet :=
  match r with
  | 0 => { x with cmpa := v } | 1 => { x with cmpb := v } | 2 => { x with cmpc := v } | 3 => { x with cmpd := v }
  | 4 => { x with dtr := v.setWidth 16 } | 5 => { x with dtf := v.setWidth 16 } | 6 => { x with minp := v.setWidth 13 }
  | 7 => { x with prof := v.setWidth 16 } | _ => x

/-- A store to a cluster's block; COMMIT with GO = 1 commits the set (R117). -/
def State.clStore (s : State) (c o : Nat) (v : Word) : State :=
  let x := s.cl c
  let p := x.pending
  if o < 0x40 then
    s.setCl c { x with pending := { p with g := p.g.setIfInBounds (o / 16) ((p.g.getD (o / 16) GenSet.reset).store (o % 16) v) } }
  else if o = 0x40 then s.setCl c { x with pending := { p with period := v.setWidth 20 } }
  else if o = 0x41 then s.setCl c { x with pending := { p with page := v.setWidth 3, maskEn := v.getLsbD 3 } }
  else if o = 0x42 then (if v.getLsbD 0 then s.commitGo c else s)
  else s

/-! ### Lanes (R164) -/

/-- LSTAT.STATE. -/
def LaneSt.code : LaneSt → Nat
  | .off => 0 | .training => 1 | .active => 2 | .retraining => 3 | .holdOnly => 4 | .failed => 5

/-- VRESID: the mean M of R151 in whole fine steps. -/
def Lane.residM (x : Lane) : Int := roundDiv x.resid 8

/-- SATFLAG. -/
def Lane.satFlag (x : Lane) : Nat := b2n x.offConf + 2 * b2n x.bstWarn + 4 * b2n x.vsecUv + 256 * x.cause.toNat

/-- The low 24 bits of a signed value. -/
def low24 (x : Int) : Nat := (BitVec.ofInt 24 x).toNat

/-- A load of a lane's block, L0 to L31 and D0 to D3. -/
def State.lanePort (s : State) (l o : Nat) : Nat :=
  let x := s.lane l
  match o with
  | 0 => x.st.code + 8 * x.gen + 32 * x.vlock + 128 * x.sat + 512 * b2n ((laneGens l).any s.resumeNeeded) + 1024 * b2n (s.killReq l)
      + 2048 * b2n x.alarm
  | 1 => low24 x.residM
  | 2 => low24 x.pathD
  | 3 => x.cmdcnt.toNat
  | 4 => min 4095 x.drop + 4096 * min 4095 x.lateTx
  | 5 => min 4095 x.codeErr + 4096 * min 4095 x.crcErr
  | 6 => x.satLate.toNat + 256 * x.satStp.toNat + 65536 * x.satGap.toNat
  | 7 => x.satTemp.toNat
  | 8 => x.satFlag
  | 9 => x.etdly.toNat
  | 10 => x.ettrn.toNat
  | _ => 0

/-! ### Integrated drivers (R181) -/

/-- HBSTAT: what the last STATUS told, and what the P-die reports of its half-bridge. -/
def State.hbStat (s : State) (h : Nat) : Nat :=
  let v := s.view h
  let x := s.hb h
  v.st.toNat + 4 * b2n (x.st == .test) + 8 * b2n v.offConf + 16 * b2n v.bstWarn + 32 * b2n x.bstUv + 64 * b2n x.vdsH + 128 * b2n x.vdsL
    + 256 * b2n x.gateFault + 512 * b2n (s.hbEn h) + 65536 * v.cause.toNat

/-- VBUSb in mV: HKADC channel 12 + b behind its 1/40 divider, full scale VREF (R183, R194). -/
def State.bankVolts (s : State) (b : Nat) : Nat :=
  (Tab.get (fun _ => ((0 : BitVec 12), 0)) s.acq.hk (12 + b)).1.toNat * 120000 / 4096

/-- A load of a bank's block. -/
def State.bankPort (s : State) (b o : Nat) : Nat :=
  let h := 3 * b + o / 16
  if o < 0x30 then
    match o % 16 with
    | 0 => s.hbStat h
    | 1 => (s.hb h).stp.toNat + 256 * (s.hb h).bstUvCnt.toNat + 65536 * (s.hb h).vds.toNat
    | 2 => (s.view h).etd.toNat
    | 3 => (s.view h).ett.toNat
    | _ => 0
  else if o = 0x30 then s.bkstat b
  else if o = 0x31 then s.bankVolts b
  else 0

/-! ### Acquisition (R205, R206) -/

/-- A load of a converter's block. -/
def State.adcPort (s : State) (a o : Nat) : Nat :=
  let x := s.adc a
  if o < 16 then (Tab.get (fun _ => (0 : Word)) s.acq.res (16 * a + o)).toNat
  else if o = 0x10 then min 7 x.queue.length + 8 * b2n x.run.isSome + 16 * min 31 x.sched.length
  else if o = 0x11 then min 255 x.drop + 256 * min 255 x.late + 65536 * min 255 x.delayed
  else 0

/-- SDSTAT. -/
def State.sdStat (s : State) (f : Nat) : Nat :=
  let x := s.sd f
  b2n x.oc + 2 * b2n (s.sdFed f) + 4 * b2n x.lost + 8 * b2n x.sat + 256 * (x.lostCnt % 256)

/-- CWSTAT. -/
def State.cwStat (s : State) (c : Nat) : Nat :=
  let x := s.cw c
  b2n x.out + 2 * b2n x.above + 4 * b2n x.below + 8 * b2n x.masked + 16 * b2n x.pend + 32 * b2n x.clamped + 256 * x.changes.toNat

/-- HKRES: the latest code of a channel, and its age in µs up to 4095. -/
def State.hkCode (s : State) (ch : Nat) : Nat := (Tab.get (fun _ => ((0 : BitVec 12), 0)) s.acq.hk ch).1.toNat

/-- A load of the acquisition window beyond the converters: the filters, the comparators and HKADC. -/
def State.acqPort (s : State) (o : Nat) : Nat :=
  if 0x1000 ≤ o ∧ o < 0x1200 then
    match o % 16 with
    | 0 => (s.sd ((o - 0x1000) / 16)).data.toNat
    | 1 => (s.sd ((o - 0x1000) / 16)).ocv.toNat
    | 2 => s.sdStat ((o - 0x1000) / 16)
    | _ => 0
  else if 0x2000 ≤ o ∧ o < 0x2300 then
    let x := s.cw ((o - 0x2000) / 16)
    match o % 16 with
    | 0 => s.cwStat ((o - 0x2000) / 16)
    | 1 => x.time.toNat
    | 2 => x.reqHi.toNat + 1024 * x.reqLo.toNat
    | 3 => x.appHi.toNat + 1024 * x.appLo.toNat
    | _ => 0
  else if 0x3000 ≤ o ∧ o < 0x3020 then s.hkCode (o - 0x3000) + 4096 * min 4095 (s.hkAge (o - 0x3000))
  else if o = 0x3020 then b2n s.acq.hkRun + 2 * min 31 s.acq.hkReq.length
  else if o < 0x400 then s.adcPort (o / 256) (o % 256)
  else 0

/-! ### Position feedback (R227, R228) -/

/-- The snapshot of a reader (R223). -/
def Qe.snap (q : Qe) (reader : Nat) : Snap := Tab.get (fun _ => Snap.reset) q.snaps reader

/-- A load of an interface's block other than QPOS, by reader `e`. -/
def State.qePort (s : State) (n o e : Nat) : Nat :=
  let q := s.qe n
  if o < 0x10 then
    match o with
    | 0 => q.pos.toNat
    | 1 => (q.snap e).spd.toNat
    | 2 => (q.snap e).per.toNat
    | 3 => (q.snap e).stat.toNat
    | 4 => (q.snap e).etime.toNat
    | 5 => q.idxPos.toNat
    | 6 => (q.snap e).angle.toNat
    | 7 => min 255 q.flt + 256 * q.reject.toNat + 65536 * q.illegal.toNat
    | 8 => q.capPos.toNat
    | 9 => q.capSpd.toNat
    | 10 => q.capDt.toNat + 2 ^ 23 * b2n q.capValid
    | 12 => q.posSet.toNat
    | _ => 0
  else if o < 0x50 then
    let c := q.ct.getD ((o - 0x10) / 4) Ct.reset
    match o % 4 with
    | 0 => c.target.toNat
    | 1 => c.reqCfg.toNat
    | 2 => c.reqStep.toNat
    | _ => b2n c.armed + 2 * b2n c.behind + 256 * c.fires.toNat
  else 0

/-- A store to an interface's block: QCTL (R211, R212), QPOSSET and the compare table (R217, R219). -/
def State.qeStore (s : State) (n o : Nat) (v : Word) : State :=
  if o = 0x0B then (s.whenS (v.getLsbD 0) (fun s => qeClrRawrev s n)).whenS (v.getLsbD 1) (fun s => qePosSet s n)
  else if o = 0x0C then s.setQe n { s.qe n with posSet := v }
  else if 0x10 ≤ o ∧ o < 0x50 then
    let k := (o - 0x10) / 4
    match o % 4 with
    | 0 => ctTarget s n k v
    | 1 => ctConfig s n k (v.setWidth 7)
    | 2 => ctStep s n k (v.setWidth 23)
    | _ => s
  else s

/-! ### Event and trip matrix, monitors (R311, R327) -/

/-- Flags from bit 0 on. -/
def flagsOf (l : List Bool) : Nat := (bits 24 l).toNat

/-- A load of the trip matrix's block. -/
def State.tmPort (s : State) (o : Nat) : Nat :=
  if o = 1 then s.flt.frej.toNat + 256 * s.flt.fsent.toNat
  else if 0x10 ≤ o ∧ o < 0x16 then
    flagsOf ((List.range 24).map (fun i => decide (24 * (o - 0x10) + i < 128) && s.tmIn (24 * (o - 0x10) + i)))
  else if o = 0x16 ∨ o = 0x17 then flagsOf ((List.range 24).map (fun i => s.tmOut (24 * (o - 0x16) + i)))
  else if o = 0x18 then flagsOf ((List.range 24).map (fun l => s.killReq l))
  else if o = 0x19 then
    flagsOf ((List.range 12).map (fun i => if i < 8 then s.killReq (24 + i) else s.tmOut (0x50 + (i - 8))))
  else if o = 0x1A then s.highest + 8 * b2n s.okayHigh + 16 * b2n s.flt.win.isSome
  else 0

/-- A sensor's reading with the flags of its kind. -/
def Sensor.port (x : Sensor) (die ntc : Bool) : Nat :=
  x.temp.toNat + 65536 * b2n x.valid + 131072 * b2n (if die then x.suspect else ntc && x.range) + 262144 * b2n x.fast
    + 524288 * x.level + 2097152 * b2n (die && x.acmp)

/-- A load of the monitors' block. -/
def State.monPort (s : State) (o : Nat) : Nat :=
  let m (x : BitVec 16 × BitVec 8) : Nat := x.1.toNat + 65536 * x.2.toNat
  if o < 0x0C then (s.sensor o).port true false
  else if 0x10 ≤ o ∧ o < 0x20 then (s.sensor (12 + (o - 0x10))).port false true
  else if 0x20 ≤ o ∧ o < 0x40 then (s.sensor (28 + (o - 0x20))).port false false
  else if o = 0x40 then m s.mon.maxC
  else if o = 0x41 then m s.mon.maxP
  else if o = 0x42 then m s.mon.maxS
  else if 0x48 ≤ o ∧ o < 0x4E then
    let p := o - 0x48
    let x := s.supply p
    (s.mon.volts.getD p 0).toNat + 65536 * b2n x.warn + 131072 * b2n x.ovwarn
      + 262144 * b2n ((x.reset || x.ovreset) && !(p == 0 || p == 1 || p == 2))
  else if o = 0x4E then b2n s.deferring + 2 * b2n s.mon.debounce + 256 * s.mon.warnCnt.toNat
  else 0

/-! ### Mailboxes (R63, R64) -/

/-- A load of the own view of mailbox `k` = 4 × engine + number. DESIGN CHOICE (log entry 59): MBDATA words at and above LEN of the front
record read 0. -/
def State.mboxPort (s : State) (k o : Nat) : Nat :=
  let x := s.mb k
  if o < 0x20 then (x.front.getD o 0).toNat
  else if o = 0x20 then x.front.length % 64 + 64 * b2n x.valid + 128 * b2n x.pending + 256 * x.ovr.toNat + 65536 * x.seq.toNat
  else if o = 0x22 then x.inst.toNat + 256 * x.kind.toNat
  else if o = 0x23 then x.time.toNat
  else 0

/-- A store to the own view: MBACK. -/
def State.mboxStore (s : State) (k o : Nat) (v : Word) : State :=
  if o = 0x21 then
    let s := s.whenS (v.getLsbD 0) (·.mboxAck k)
    s.whenS (v.getLsbD 1) (fun s => s.setMb k { s.mb k with ovr := 0 })
  else s

/-- A word of a post buffer: writer 0 to 15 an engine, 16 the supervisor. -/
def State.postWord (s : State) (w k : Nat) : Word := Tab.get (fun _ => 0) s.loop.post (32 * w + k)

/-- Writes word `k` of the writer's post buffer. -/
def State.setPost (s : State) (w k : Nat) (v : Word) : State :=
  { s with loop := { s.loop with post := Tab.set (fun _ => 0) s.loop.post (32 * w + k) v } }

/-! ### Loads and stores of the port space (R60) -/

/-- What a load by engine `e` reads at a port-space address, and the snapshot that a load of QPOS takes (R223). A reserved offset
and a WO port read 0 (R7). -/
def State.portRead (s : State) (e a : Nat) : Word × State :=
  let o := a % 65536
  match a / 65536 with
  | 0x80 => (BitVec.ofNat 24 (if o < 0xC00 then s.clPort (o / 256) (o % 256) else 0), s)
  | 0x81 => (BitVec.ofNat 24 (if o < 0x2000 then s.lanePort (o / 256) (o % 256)
      else if o < 0x2400 then s.lanePort (32 + (o - 0x2000) / 256) (o % 256) else 0), s)
  | 0x82 => (BitVec.ofNat 24 (if o < 0x400 then s.bankPort (o / 256) (o % 256) else 0), s)
  | 0x83 => (BitVec.ofNat 24 (s.acqPort o), s)
  | 0x84 =>
    if 0x400 ≤ o then (0, s)
    else if o % 256 = 0 then ((s.qe (o / 256)).pos, qeSnap s (o / 256) e)
    else (BitVec.ofNat 24 (s.qePort (o / 256) (o % 256) e), s)
  | 0x85 => (BitVec.ofNat 24 (if o < 256 then s.tmPort o else 0), s)
  | 0x86 => (BitVec.ofNat 24 (if o < 256 then s.monPort o else 0), s)
  | 0x87 => (BitVec.ofNat 24 (if o < 256 then s.mboxPort (4 * e + o / 64) (o % 64) else 0), s)
  | _ => (s.memWord e a, s)

/-- What a store by task `t` on engine `e` does at an address; posts are apart (R64). -/
def State.portStore (s : State) (t e a : Nat) (v : Word) : State :=
  let o := a % 65536
  match a / 65536 with
  | 0x80 => if o < 0xC00 then s.clStore (o / 256) (o % 256) v else s
  | 0x83 =>
    if o < 0x400 ∧ o % 256 = 0x12 then s.adswt (o / 256) (v.toNat % 16)
    else if 0x2000 ≤ o ∧ o < 0x2300 ∧ o % 16 = 2 then s.cwThr ((o - 0x2000) / 16) v
    else s
  | 0x84 => if o < 0x400 then s.qeStore (o / 256) (o % 256) v else s
  | 0x85 => if o = 0 then s.faultReq t (v.setWidth 8) else s
  | 0x87 => if o < 256 then s.mboxStore (4 * e + o / 64) (o % 64) v else s
  | _ => s.setMemWord e a v

/-! ### The port filter (R61) -/

/-- A run of addresses with its rights. -/
structure Win where
  base : Nat
  len : Nat
  rd : Bool
  wr : Bool
  deriving DecidableEq, Repr

/-- The address lies in the window. -/
def Win.has (w : Win) (a : Nat) : Bool := decide (w.base ≤ a) && decide (a < w.base + w.len)

/-- The ranges of R60 that are reserved. DESIGN CHOICE (log entry 59): 0x87_0100 to 0x87_0FFF and 0x87_2000 to 0x87_FFFF stand in no row
of the table and count as reserved. -/
def reservedRange (a : Nat) : Bool :=
  (decide (0x2000 ≤ a) && decide (a < 0x100000)) || (decide (0x180000 ≤ a) && decide (a < 0x800000))
    || (decide (0x870100 ≤ a) && decide (a < 0x871000)) || (decide (0x872000 ≤ a) && decide (a < 0x880000)) || decide (0x880000 ≤ a)

/-- The block that a binding opens (R164, R181, R205, R206, R227, R311, R327, R420, R71): its base and length. None for an unused
binding, and for the state of a task that has no placed section. -/
def State.bindBlock (s : State) (b : Nat) : Option (Nat × Nat) :=
  let i := b % 65536
  match b / 2 ^ 20 with
  | 1 => some (0x800000 + 256 * i, 256)
  | 2 => some (0x810000 + 256 * i, 256)
  | 3 => some (0x820000 + 256 * i, 256)
  | 4 => some (if i = 4 then 0x833000 else 0x830000 + 256 * i, 256)
  | 5 => some (0x831000 + 16 * i, 16)
  | 6 => some (0x832000 + 16 * i, 16)
  | 7 => some (0x840000 + 256 * i, 256)
  | 8 => some (0x850000, 256)
  | 9 => some (0x860000, 256)
  | 10 => if (s.task i).placed then some ((s.task i).state, (s.task i).stateLen) else none
  | 11 => if s.en 0xE 0x004 i = 0 then none else some (s.en 0xE 0x004 i, s.en 0xE 0x003 i)
  | _ => none

/-- A binding of a sigma-delta filter, of HKADC, of a task's state or of a process map opens its block read only whatever its WRITE (R194,
R206, R71, R420). -/
def bindWrites (b : Nat) : Bool :=
  b.testBit 19 && !(b / 2 ^ 20 == 5 || (b / 2 ^ 20 == 4 && b % 65536 == 4) || b / 2 ^ 20 == 10 || b / 2 ^ 20 == 11)

/-- The part of a block at `off` of `len` words that lies inside it. -/
def clipWin (blk : Nat × Nat) (off len : Nat) (rd wr : Bool) : Win := ⟨blk.1 + off, min len (blk.2 - off), rd, wr⟩

/-- The sections of a task as engine `e` holds them: state and scratch; in a shadow, the twin and the target's scratch (R88). -/
def State.sectionsOn (s : State) (t e : Nat) : Nat × Nat :=
  let x := s.task t
  match x.mig with
  | some m => if s.isShadow t e then (m.twin, m.scratch) else (x.state, x.scratch)
  | none => (x.state, x.scratch)

/-- The window of a port descriptor. One of KIND 1 that reaches past the end of the state section is neither refused nor clipped: DESIGN CHOICE (log
entry 16). -/
def State.descWin (s : State) (t e : Nat) (d : Word × Word × Word) : Option Win :=
  let rd := d.1.getLsbD 18
  let wr := d.1.getLsbD 19
  let len := d.2.2.toNat % 65536 + 1
  match d.1.toNat / 2 ^ 20 with
  | 0 => some ⟨d.2.1.toNat, len, rd, wr⟩
  | 1 => some ⟨(s.sectionsOn t e).1 + d.2.1.toNat, len, rd, wr⟩
  | 2 =>
    let b := s.dc 2 (0x024 + d.1.toNat % 8) t
    (s.bindBlock b).map (fun blk => clipWin blk d.2.1.toNat len rd (wr && bindWrites b))
  | _ => none

/-- The mailboxes of a task on engine `e`. -/
def State.boxesOn (s : State) (t e : Nat) : List (Option Nat) :=
  match (s.task t).mig with
  | some m => if s.isShadow t e then m.mboxes else (s.task t).mboxes
  | none => (s.task t).mboxes

/-- The windows of a task on engine `e` (R61). A binding of a bank also opens the block of its link lane, read only (R164); a task bound to
a stage reads the stage's request record without a binding (R91). -/
def State.windows (s : State) (t e : Nat) : List Win :=
  let x := s.task t
  let sec := s.sectionsOn t e
  [⟨sec.1, x.stateLen, true, true⟩, ⟨sec.2, x.scratchLen, true, true⟩]
    ++ (s.boxesOn t e).flatMap (fun m => match m with
      | some m => [⟨0x870000 + 64 * m, 64, true, false⟩, ⟨0x870000 + 64 * m + 0x21, 1, true, true⟩]
      | none => [])
    ++ ((s.taskStage t).toList.map (fun g => ⟨0x10FF00 + 4 * g, 4, true, false⟩))
    ++ x.wins.filterMap (s.descWin t e)
    ++ (List.range 8).filterMap (fun k =>
      let b := s.dc 2 (0x024 + k) t
      if b / 2 ^ 20 = 3 then some ⟨0x812000 + 256 * (b % 65536), 256, true, false⟩ else none)

/-- A KIND 10 binding of the task whose window is closed: loads through it return 0 (R71). DESIGN CHOICE (log entry 59): a closed window has
no address, and every load of local data or of a tile outside the other windows counts as a load through it. -/
def State.closedWin (s : State) (t a : Nat) : Bool :=
  (decide (a < 0x2000) || (decide (0x100000 ≤ a) && decide (a < 0x180000)))
    && (s.task t).wins.any (fun d =>
      let b := s.dc 2 (0x024 + d.1.toNat % 8) t
      d.1.toNat / 2 ^ 20 == 2 && d.1.getLsbD 18 && b / 2 ^ 20 == 10 && !(s.task (b % 65536)).placed)

/-- The filter allows the access of a task on engine `e`. -/
def State.allows (s : State) (t e a : Nat) (write : Bool) : Bool :=
  !reservedRange a && (s.windows t e).any (fun w => w.has a && (if write then w.wr else w.rd))

/-- The access stays with the engine (R55): local data and the own mailbox view. -/
def ownAccess (a : Nat) : Bool := decide (a < 0x2000) || (decide (0x870000 ≤ a) && decide (a < 0x870100))

end Sys2Proof.Machine
end

