-- ==== Sys2Proof/Machine/Alu.lean ====
section
/-! DEFINITION. The arithmetic of the loop engines (R35 to R37, R43 to R47) as functions of words: each result with the sticky flag it
sets. -/

namespace Sys2Proof.Machine

/-! ### Saturation and conversion -/

/-- R35: the nearer limit of [0x80_0000, 0x7F_FFFF], and whether it saturated. -/
def sat24 (x : Int) : Word × Bool :=
  if x < -8388608 then (0x800000, true) else if 8388607 < x then (0x7FFFFF, true) else (BitVec.ofInt 24 x, false)

/-- R36: the nearer limit of the accumulator. -/
def sat56 (x : Int) : BitVec 56 × Bool :=
  if x < -36028797018963968 then (BitVec.ofInt 56 (-36028797018963968), true)
  else if 36028797018963967 < x then (BitVec.ofInt 56 36028797018963967, true)
  else (BitVec.ofInt 56 x, false)

/-- R37: A / 2^23 rounded by M (0 half up, 1 truncate, 2 half even). -/
def roundAc (a : Int) (m : BitVec 2) : Int :=
  if m = 0 then (a + 4194304) / 8388608
  else if m = 1 then a / 8388608
  else
    let q := a / 8388608
    let r := a % 8388608
    if 4194304 < r ∨ (r = 4194304 ∧ q % 2 = 1) then q + 1 else q

/-- The exact product with the operand types of R45: M = 0 signed × signed, 1 unsigned × signed, 2 unsigned × unsigned. -/
def product (a b : Word) (m : BitVec 2) : Int :=
  (if m = 0 then a.toInt else (a.toNat : Int)) * (if m = 2 then (b.toNat : Int) else b.toInt)

/-! ### Shifts and limits (R43) -/

/-- SHL and SHLI: wrap or saturate. -/
def shlW (a : Word) (n : Nat) (saturate : Bool) : Word × Bool :=
  if saturate then sat24 (a.toInt * 2 ^ n) else (a <<< n, false)

/-- SHR and SHRI: 0 logical, 1 arithmetic, 2 arithmetic rounded. -/
def shrW (a : Word) (n : Nat) (mode : Nat) : Word :=
  if mode = 0 then a >>> n
  else if mode = 1 ∨ n = 0 then BitVec.ofInt 24 (a.toInt / 2 ^ n)
  else BitVec.ofInt 24 ((a.toInt + 2 ^ (n - 1)) / 2 ^ n)

/-- CLAMP: rs limited to [-rt, rt]; 0 for a negative rt. The flag tells that the result differs from rs. -/
def clampW (a b : Word) : Word × Bool :=
  let r : Word := if b.toInt < 0 then 0 else BitVec.ofInt 24 (min (max a.toInt (-b.toInt)) b.toInt)
  (r, r != a)

/-- NORM: the number of leading bits equal to bit 23, minus 1. -/
def normW (a : Word) : Word :=
  BitVec.ofNat 24 (((List.range 23).reverse.takeWhile (fun i => a.getLsbD i == a.getLsbD 23)).length)

/-! ### CORDIC and seeds (R46, R47) -/

/-- The rounded square root, from below. -/
def isqrt (n : Nat) : Nat := (List.range 32).reverse.foldl (fun r b => if (r + 2 ^ b) * (r + 2 ^ b) ≤ n then r + 2 ^ b else r) 0

/-- Terms of the cosine series (k even) or the sine series (k odd) of φ = f / 2^60, from the term `t` of order `k`. -/
def trigSum (f : Int) : Nat → Nat → Int → Int
  | 0, _, t => t
  | n + 1, k, t => t + trigSum f n (k + 2) (-(t * f / 2 ^ 60 * f / 2 ^ 60) / ((k + 1) * (k + 2)))

/-- cos and sin of a quarter turn × r / 2^22, times 2^60. -/
def quarter (r : Nat) : Int × Int :=
  let f : Int := (r : Int) * 1811004864519280711 / 2 ^ 22
  (trigSum f 14 0 (2 ^ 60), trigSum f 14 1 f)

/-- cos and sin of an angle of full turn 2^24, times 2^60. -/
def trig (a : Nat) : Int × Int :=
  let p := quarter (a % 2 ^ 22)
  match a / 2 ^ 22 % 4 with
  | 0 => p
  | 1 => (-p.2, p.1)
  | 2 => (-p.1, -p.2)
  | _ => (p.2, -p.1)

/-- The e-th of the values from `lo` to `hi`. -/
def pick (lo hi : Int) (e : Nat) : Int := lo + (e % (hi - lo + 1).toNat : Nat)

/-- A value × 2^60 in Q1.23 as the unit delivers it: a word at most 4 LSB from the exact value; +1 is 0x7F_FFFF. -/
def cordicWord (v : Int) (e : Nat) : Word :=
  if v = 2 ^ 60 then 0x7FFFFF
  else
    let x := v * 2 ^ 23
    (sat24 (pick (-((4 * 2 ^ 60 - x) / 2 ^ 60)) ((x + 4 * 2 ^ 60) / 2 ^ 60) e)).1

/-- CSC (R46): cos and sin with an error of at most 4 LSB. -/
def cscW (a : Word) : Word × Word :=
  let p := trig a.toNat
  (cordicWord p.1 (Config.cordicErr 0 a 0), cordicWord p.2 (Config.cordicErr 1 a 0))

/-- The angle of a vector of the first quadrant, from below: the largest a with x sin a ≤ y cos a. -/
def atanQ (y x : Nat) : Nat :=
  (List.range 23).reverse.foldl (fun r b =>
    let c := r + 2 ^ b
    if 2 ^ 22 < c then r
    else
      let p := trig c
      if (x : Int) * p.2 ≤ (y : Int) * p.1 then c else r) 0

/-- CAT (R46): atan2 and magnitude, and whether the magnitude is 1 or more. The exact angle lies between the value that `atanQ` rounds down and
the next: the words from 3 below to 4 above it are within 4 LSB. The spec states no bound for the magnitude, and the model keeps the same
(log entry 6). -/
def catW (y x : Word) : Word × Word × Bool :=
  if y = 0 ∧ x = 0 then (0, 0, false)
  else
    let q : Int := atanQ y.toInt.natAbs x.toInt.natAbs
    let d := pick (q - 3) (q + 4) (Config.cordicErr 2 y x)
    let a : Int := if 0 ≤ x.toInt then (if 0 ≤ y.toInt then d else -d) else if 0 ≤ y.toInt then 8388608 - d else 8388608 + d
    let n := y.toInt.natAbs ^ 2 + x.toInt.natAbs ^ 2
    let ang := BitVec.ofInt 24 a
    if 2 ^ 46 ≤ n then (ang, 0x7FFFFF, true)
    else (ang, BitVec.ofInt 24 (max 0 (min 8388607 (pick ((isqrt n : Int) - 3) (isqrt n + 4) (Config.cordicErr 3 y x)))), false)

/-- A seed within 12 bits of its exact value, 2^11 LSB, in (0.5, 1]; `exact` rounds it down. A result of exactly 1 is 0x7F_FFFF. -/
def seedOf (op exact : Nat) (x : Word) : Word :=
  if 8388608 ≤ exact then 0x7FFFFF
  else BitVec.ofInt 24 (max 4194305 (min 8388607 (pick ((exact : Int) - 2047) (exact + 2048) (Config.seedErr op x))))

/-- RCPS (R47). -/
def rcpsW (x : Word) : Word × Bool :=
  if 0x400000 ≤ x.toNat ∧ x.toNat < 0x800000 then (seedOf 0 (2 ^ 45 / x.toNat) x, false) else (0x7FFFFF, true)

/-- RSQS (R47). -/
def rsqsW (x : Word) : Word × Bool :=
  if 0x200000 ≤ x.toNat ∧ x.toNat < 0x800000 then (seedOf 1 (isqrt (2 ^ 67 / x.toNat)) x, false) else (0x7FFFFF, true)

/-! ### Predicates (R44) -/

/-- CMP and CMPI. -/
def cmpS (a b : Word) (cc : BitVec 2) : Bool :=
  if cc = 0 then a == b else if cc = 1 then a != b else if cc = 2 then decide (a.toInt < b.toInt) else decide (b.toInt ≤ a.toInt)

/-- CMPU. -/
def cmpU (a b : Word) (cc : BitVec 2) : Bool :=
  if cc = 0 then decide (a.toNat < b.toNat) else if cc = 1 then decide (b.toNat ≤ a.toNat)
  else if cc = 2 then (a &&& b) != 0 else (a &&& b) == 0

/-- FLOG. -/
def flogic (a b : Bool) (op : BitVec 2) : Bool :=
  if op = 0 then a && b else if op = 1 then a || b else if op = 2 then xor a b else a && !b

end Sys2Proof.Machine
end

