-- ==== Sys2Proof/Machine/Kernels.lean ====
section
/-! DEFINITION. What the vendor kernels share (R233 to R246, R253, R264 to R267, R272, R282): their inputs, commits, fault requests, setpoints,
derating, offset calibration and the checks of every period. An activation's computation is done whole when its TASK_RELEASE comes, on the
newest records; currents are in mA, voltages in mV, speeds in 0.01 rpm and torques in 0.01 N·m as in the entries. Integers stand for the numbers
of the rules; where a rule names no gain of a controller, its output is a free value within the limits that the rule states (log entry 33). -/

namespace Sys2Proof.Machine

/-! ### Arithmetic -/

/-- 2π × n, from 2π = 6.283185307. -/
def twoPi (n : Int) : Int := n * 6283185307 / 1000000000

/-- A value limited to [lo, hi]; `lo` where they cross. -/
def clampI (lo hi x : Int) : Int := max lo (min hi x)

/-- The size of a vector, for parts below 2^31 in size. -/
def vecLen (a b : Int) : Int := (isqrt ((min a.natAbs (2 ^ 31)) ^ 2 + (min b.natAbs (2 ^ 31)) ^ 2) : Nat)

/-- The i-th free value of an activation. -/
def State.fv (s : State) (i : Nat) : Word := Config.free 24 (s.free + i)

/-- A free value from `lo` to `hi`. -/
def State.within (s : State) (i : Nat) (lo hi : Int) : Int := if hi ≤ lo then lo else pick lo hi (s.fv i).toNat

/-- The free values of an activation are used up. -/
def State.usedFree (s : State) : State := { s with free := s.free + 64 }

/-- cos a × x and sin a × x. -/
def rot (a : Nat) (x : Int) : Int × Int := let t := trig (a % 2 ^ 24); (t.1 * x / 2 ^ 60, t.2 * x / 2 ^ 60)

/-- The Clarke transform of three currents (R247). -/
def clarke (u v w : Int) : Int × Int := ((2 * u - v - w) / 3, (v - w) * 577350269 / 1000000000)

/-- The Park transform to an angle. -/
def park (x : Int × Int) (a : Nat) : Int × Int :=
  let p := rot a x.1
  let q := rot a x.2
  (p.1 + q.2, q.1 - p.2)

/-- The inverse Park transform from an angle. -/
def unpark (x : Int × Int) (a : Nat) : Int × Int :=
  let p := rot a x.1
  let q := rot a x.2
  (p.1 - q.2, p.2 + q.1)

/-- The phase values of a vector of the stationary frame. -/
def phases (x : Int × Int) : List Int :=
  let h := x.2 * 866025404 / 1000000000
  [x.1, h - x.1 / 2, -h - x.1 / 2]

/-! ### Stages, records and commits -/

/-- An entry of a stage's declaration. -/
def State.d (s : State) (e g : Nat) : Nat := s.dc 0xD e g
/-- A signed 24-bit entry of a stage's declaration. -/
def State.ds (s : State) (e g : Nat) : Int := asInt 24 (s.dc 0xD e g)
/-- The first cluster that a stage runs on. -/
def State.mainCl (s : State) (g : Nat) : Nat := (s.stageCls g).headD 0
/-- The ticks of the period that runs. -/
def State.perTicks (s : State) (g : Nat) : Nat := (s.cl (s.mainCl g)).len

/-- The mailbox of input i of a placed task. -/
def State.inBox (s : State) (t i : Nat) : Option Nat := ((s.task t).mboxes.getD i none).map (fun m => 4 * (s.task t).engine + m)

/-- A record waits in input i. -/
def State.hasRec (s : State) (t i : Nat) : Bool := (s.inBox t i).any (fun k => (s.mb k).valid)

/-- The newest record of input i is taken, and what is older is acknowledged with it (R62, R234). -/
def State.takeRec (s : State) (t i : Nat) : State × Option (List Word) :=
  match s.inBox t i with
  | none => (s, none)
  | some k =>
    let x := s.mb k
    if x.pending then ((s.mboxAck k).mboxAck k, some x.back) else if x.valid then (s.mboxAck k, some x.front) else (s, none)

/-- The results of a measurement record: what follows its two first words (R191, R196). -/
def recVals (l : List Word) (fs : Int) : List Int := (l.drop 2).map (fun w => w.toInt * fs / 8388608)

/-- A set is committed to a cluster (R117); a token that is not yet acknowledged is, for the store waits for it (R22). -/
def State.kCommit (s : State) (c : Nat) (f : ClSet → ClSet) : State :=
  let s := if (s.cl c).transfer.isSome then doCommitRecognised (Fin.ofNat 12 c) s else s
  (s.setCl c { s.cl c with pending := f (s.cl c).pending }).commitGo c

/-- A page is selected with MASK_EN = 1. -/
def onPage (p : Nat) (x : ClSet) : ClSet := { x with page := BitVec.ofNat 3 p, maskEn := true }

/-- Every cluster of a stage takes page 7, which turns every side off. -/
def State.pageOff (s : State) (g : Nat) : State := (s.stageCls g).reverse.foldl (fun s c => s.kCommit c (onPage 7)) s

/-- CMPA and CMPB of a slot. -/
def setPulse (k : Nat) (a b : Int) (x : ClSet) : ClSet :=
  { x with g := x.g.mapIdx (fun i y => if i = k then { y with cmpa := BitVec.ofInt 24 a, cmpb := BitVec.ofInt 24 b } else y) }

/-- CMPC of slot 0. -/
def setSample (v : Nat) (x : ClSet) : ClSet := { x with g := x.g.mapIdx (fun i y => if i = 0 then { y with cmpc := BitVec.ofNat 24 v } else y) }

/-- The period of a set, no mask. -/
def setPeriod (p : Nat) (x : ClSet) : ClSet := { x with period := BitVec.ofNat 20 p, maskEn := false }

/-- A state word of a task is written, within its state section. -/
def State.setStateWord (s : State) (t i : Nat) (v : Int) : State :=
  let x := s.task t
  if i < x.stateLen then s.setMemWord x.engine (x.state + i) (BitVec.ofInt 24 (clampI (-8388608) 8388607 v)) else s

/-- State words from a first one on. -/
def State.setStateWords (s : State) (t : Nat) (l : List Int) : State :=
  (l.zipIdx).foldl (fun s (p : Int × Nat) => s.setStateWord t p.2 p.1) s

/-- A record that the main task posts to another role's KIND 4 input, once in its TASK_DIV periods (R234, R260). -/
def State.postKind4 (s : State) (m t : Nat) : State :=
  if 96 ≤ t ∨ (s.task t).placed = false then s
  else
    let r := s.freeRec
    (List.range 4).foldl (fun s i =>
      if s.inputOf t i = (4, m) then (match s.inBox t i with | some k => s.postRecord k r.1 | none => s) else s) r.2

/-! ### Derating (R91, R246, R282) -/

/-- FSW_8 of the record of a stage; 8 without derating. -/
def State.fsw8 (s : State) (g : Nat) : Nat :=
  if s.dc 2 0x070 g = 0 then 8 else clampI 1 8 (s.memWord 0 (drRecord g)).toInt |>.toNat

/-- ILIM_PCT of the record of a stage; 100 without derating. -/
def State.ilim (s : State) (g : Nat) : Int := if s.dc 2 0x070 g = 0 then 100 else clampI 0 100 (s.memWord 0 (drRecord g + 1)).toInt

/-- The CLPERIOD that a main task commits: derated where its mode is one in which it may be. -/
def State.kPeriod (s : State) (g : Nat) (derates : Bool) : Nat :=
  s.en 4 0x030 (s.mainCl g) * 8 / (if derates then s.fsw8 g else 8)

/-- The comparators of ILIM_CW are narrowed about CW_ZERO (R246), through CWTHR where that changes what is asked (R199). -/
def State.narrow (s : State) (g : Nat) : State :=
  let p := s.ilim g
  let z : Int := s.d 0x029 g
  ((List.range 48).filter (fun c => (s.d 0x028 g).testBit c)).foldl (fun s c =>
    let hi := z + (((s.en 7 0x061 c : Nat) : Int) - z) * p / 100
    let lo := z - (z - ((s.en 7 0x062 c : Nat) : Int)) * p / 100
    let v := BitVec.ofInt 24 (clampI 0 1023 hi + 1024 * clampI 0 1023 lo)
    if BitVec.ofNat 24 ((s.cw c).reqHi.toNat + 1024 * (s.cw c).reqLo.toNat) = v then s else s.cwThr c v) s

/-- The current limit in force (R253). -/
def State.limitI (s : State) (g : Nat) : Int := s.enS 24 0xD 0x022 g * s.ilim g / 100

/-- A trip is effective in the period that runs, or a phase is off by a TRIP_LOCAL until its resume (R243, R253, R288). -/
def State.tripNow (s : State) (g : Nat) : Bool :=
  (s.stageCls g).any (fun c => (s.cl c).counted)
    || (s.stageGens g).any (fun n => (s.gen n).markH || (s.gen n).markL || s.resumeNeeded n)

/-- A PI whose gains the rules do not state, on an error `e`: the output within [lo, hi] and the new integrator. Without an error it adds nothing; its
integrator is frozen in a period in which the output was limited or with a trip (R247, R267). Free values i and i + 1. -/
def State.piLoop (s : State) (g i : Nat) (int e lo hi : Int) : Int × Int :=
  let p := if e = 0 then 0 else s.within i (lo - hi) (hi - lo)
  let n := if e = 0 ∨ s.tripNow g = true then int else s.within (i + 1) lo hi
  if lo ≤ p + n ∧ p + n ≤ hi then (p + n, n) else (clampI lo hi (p + int), int)

/-- The k-th leg's integrator. -/
def Kern.leg (x : Kern) (k : Nat) : Int := x.legI.getD k 0

/-! ### Setpoints (R245, R267) -/

/-- The tile address of the receive map that a task binds. -/
def State.mapOf (s : State) (t : Nat) : Option Nat :=
  ((List.range 32).find? (fun m => s.binds t 11 m false && s.en 0xE 0x004 m != 0)).map (fun m => s.en 0xE 0x004 m)

/-- The command of a stage and its alive counter: of the entry, or words 0 and 1 of the process map. -/
def State.command (s : State) (g t e : Nat) : Int × Nat :=
  if s.d 0x031 g = 0 then (s.enS 24 0xD e g, 0)
  else match s.mapOf t with
    | some a => ((s.memWord 0 a).toInt, (s.memWord 0 (a + 1)).toNat % 256)
    | none => (0, 0)

/-- A fresh setpoint of the map is one whose alive counter changed; without one within SP_TIMEOUT in RUN, the setpoint has expired and the
fault is raised once (R245). -/
def State.freshness (s : State) (g t : Nat) (alive : Nat) : State :=
  let x := s.kern g
  let fresh := s.d 0x031 g == 1 && alive != x.alive
  let x : Kern := if fresh then { x with setAt := s.t48.toNat, alive := alive, expired := false } else x
  let lim := s.d 0x034 g
  if (s.stg g).st = .run ∧ lim ≠ 0 ∧ 400000 * lim < s.since x.setAt ∧ x.expired = false then
    (s.setKern g { x with expired := true, left := x.ref }).faultReq t 3
  else s.setKern g x

/-- A reference × 400000 moves toward a target by at most `rate` × the ticks of a period. -/
def slew (x target rate : Int) : Int := if x < target then min target (x + rate) else max target (x - rate)

/-- The next reference × 400000: toward the command at `rate` per ms, or to 0 over RAMP_TIME where the setpoint has expired. -/
def State.nextRef (s : State) (g : Nat) (cmd rate : Int) : Int :=
  let x := s.kern g
  let n : Int := s.perTicks g
  if x.expired then slew x.ref 0 ((x.left.natAbs : Int) * n / (400000 * max 1 (s.d 0x027 g : Int)) + 1) else slew x.ref (400000 * cmd) (rate * n)

/-- The part, in 1/65536, of a current that is ramped to 0 over half of RAMP_TIME from the start of RAMPDOWN (R241). -/
def State.rampPart (s : State) (g : Nat) : Int :=
  let all : Int := 200000 * max 1 (s.d 0x027 g)
  max 0 (all - s.since (s.kern g).since) * 65536 / all

/-! ### Checks of every period (R239, R241, R253, R272) -/

/-- A count of consecutive periods. -/
def countIf (b : Bool) (n : Nat) : Nat := if b then n + 1 else 0

/-- A fault request of a kernel. -/
def State.kFault (s : State) (t cause : Nat) (b : Bool) : State := if b then s.faultReq t (BitVec.ofNat 8 cause) else s

/-- The offset calibration (R239): 64 measurements of the phase currents are averaged in ARMED, then OFS_DONE, or STAGE_CUR_OFFSET. -/
def State.calibrate (s : State) (g t : Nat) (raw : List Int) : State :=
  let x := s.kern g
  if x.ofsN ≥ 64 then s
  else
    let sum := (raw.zipIdx).map (fun p => p.1 + x.ofs.getD p.2 0)
    if x.ofsN + 1 < 64 then s.setKern g { x with ofsN := x.ofsN + 1, ofs := sum }
    else
      let mean := sum.map (fun v => v / 64)
      let bad := mean.any (fun v => decide (s.ds 0x02A g < v.natAbs))
      (s.setKern g { x with ofsN := 64, ofs := mean, ofsDone := !bad }).kFault t 4 bad

/-- The currents with their offsets removed. -/
def Kern.offset (x : Kern) (raw : List Int) : List Int :=
  (raw.zipIdx).map (fun p => if x.ofsN < 64 then p.1 else p.1 - x.ofs.getD p.2 0)

/-- The checks on current and bus voltage that the main task repeats each period (R253, R272). -/
def State.checkMain (s : State) (g t : Nat) : State :=
  let x := s.kern g
  let ov := x.cur.any (fun i => decide (s.ds 0x024 g < i.natAbs))
  let oc := countIf ov x.oc
  let hi := countIf (decide (s.ds 0x021 g < x.vbus)) x.high
  let lo := countIf (decide (x.vbus < s.ds 0x020 g)) x.low
  let s := s.setKern g { x with oc := oc, high := hi, low := lo }
  ((s.kFault t 5 (oc == s.d 0x025 g)).kFault t 6 (hi == 4)).kFault t 7 (lo == 4)

/-- The main task in RAMPDOWN: 8 periods with `quiet` currents end it with page 7 and RAMP_DONE (R241, R271). -/
def State.rampQuiet (s : State) (g : Nat) (quiet : Bool) : State :=
  let x := s.kern g
  let n := countIf quiet x.quiet
  if 8 ≤ n then (s.setKern g { x with quiet := n, rampDone := true }).pageOff g else s.setKern g { x with quiet := n }

/-- A phase of the start-up begins. -/
def State.toPhase (s : State) (g p : Nat) : State := s.setKern g { s.kern g with phase := p, since := s.t48.toNat, hold := 0 }

/-- Time in ms since the phase began. -/
def State.inPhase (s : State) (g ms : Nat) : Bool := decide (400000 * ms ≤ s.since (s.kern g).since)

/-! ### Losses (R260) -/

/-- The losses of one period join the record: for the high and low switch of each of three phases the conduction time's Σ|i|Δt and Σi²Δt, and
|i| at each of the two switching events of a period that switches. `cur` is the current of each phase and `duty` its share in 1/65536 of the
period. -/
def State.addLoss (s : State) (g : Nat) (cur duty : List Int) : State :=
  let x := s.kern g
  let n : Int := s.perTicks g
  let one (k : Nat) : List Int :=
    let i : Int := (cur.getD (k / 2) 0).natAbs
    let d := duty.getD (k / 2) 0
    let on := (if k % 2 = 0 then d else 65536 - d) * n / 65536
    let sw := if 0 < d ∧ d < 65536 then 2 * i else 0
    let o := x.loss.getD k []
    [o.getD 0 0 + i * on, o.getD 1 0 + i * i * on, o.getD 2 0 + sw]
  s.setKern g { x with loss := (List.range 6).map one, lossV := x.lossV + x.vbus, lossN := x.lossN + 1, lossT := x.lossT + n.toNat }

/-- A period in which nothing switches joins the loss record with its time and bus voltage alone. -/
def State.addIdle (s : State) (g : Nat) : State :=
  let x := s.kern g
  s.setKern g { x with lossV := x.lossV + x.vbus, lossN := x.lossN + 1, lossT := x.lossT + s.perTicks g }

/-- The records for the other roles: the loss record for TJ_MODEL covers the periods since the last. -/
def State.postRoles (s : State) (g m : Nat) : State :=
  let n := (s.cl (s.mainCl g)).rldnum.toNat
  let due (t : Nat) : Bool := decide (t < 96) && n % (max 1 (s.dc 2 0x014 t)) == 0
  let dt := s.dc 2 0x071 g
  let sp := s.d 0x005 g
  let gp := s.d 0x007 g
  let s := if due sp then s.postKind4 m sp else s
  let s := if due gp then s.postKind4 m gp else s
  if s.dc 2 0x070 g = 1 ∧ due dt then
    let x := s.kern g
    (s.setKern g { x with sent := x.loss, sentV := x.lossV / max 1 (x.lossN : Int), sentT := x.lossT,
                          loss := [], lossV := 0, lossN := 0, lossT := 0 }).postKind4 m dt
  else s

/-! ### Guards (R250, R272, R287) -/

/-- The guard's own checks of current and of LASTAPP: in RUN, no cluster may stand still for 4 periods. -/
def State.checkGuard (s : State) (g t : Nat) (cur : List Int) (vbus : Option Int) : State :=
  let x := s.guard g
  let ov := cur.any (fun i => decide (s.ds 0x024 g < i.natAbs))
  let oc := countIf ov x.oc
  let hi := countIf (vbus.any (fun v => decide (s.ds 0x021 g < v))) x.high
  let lo := countIf (vbus.any (fun v => decide (v < s.ds 0x020 g))) x.low
  let apps := (s.stageCls g).map (fun c => (s.cl c).lastapp)
  let still (k : Nat) : Bool := (s.stg g).st == .run && apps[k]? == x.apps[k]? && decide (k < apps.length)
  let dead := (List.range apps.length).map (fun k => countIf (still k) (x.dead.getD k 0))
  let s := s.setGuard g { x with oc := oc, high := hi, low := lo, apps := apps, dead := dead }
  s.kFault t 5 (oc == s.d 0x025 g) |>.kFault t 6 (hi == 4) |>.kFault t 7 (lo == 4) |>.kFault t 14 (dead.contains 4)

end Sys2Proof.Machine
end

