-- ==== Sys2Proof/Machine/Motor.lean ====
section
/-! DEFINITION. The vendor kernels of the motor stages (R239 to R258), of the thermal model (R260) and of the gate profiles (R261): FOC_CURRENT,
FOC_SPEED, SIX_STEP, MOTOR_GUARD, TJ_MODEL and GATE_PROFILE. -/

namespace Sys2Proof.Machine

/-! ### What the motor kernels share -/

/-- The phase currents of a measurement; in TWO-phase mode W is −(iU + iV) (R247). -/
def State.phaseCur (s : State) (g : Nat) (l : List Int) : List Int :=
  if s.d 0x107 g = 1 then [l.getD 0 0, l.getD 1 0, -(l.getD 0 0 + l.getD 1 0)] else [l.getD 0 0, l.getD 1 0, l.getD 2 0]

/-- The bus voltage that reaches a main task or guard (R234): the slot of VBUS_CH in the measurement, or in the newest TASK_IN3 record. -/
def State.busVolts (s : State) (g t : Nat) (meas : List Word) (in3 : Option (List Word)) : Option Int :=
  let slot (i : Nat) : Nat := (s.wantChans (s.inputOf t i).2).findIdx (· == s.d 0x02B g)
  let fs := s.ds 0x02C g
  if s.givesBus g (s.inputOf t 3) then in3.map (fun l => (recVals l fs).getD (slot 3) 0)
  else if s.givesBus g (s.inputOf t 0) then some ((recVals meas fs).getD (slot 0) 0)
  else none

/-- The speed of a QE interface in 0.01 rpm. -/
def State.qeRpm (s : State) (n : Nat) : Int :=
  let cpr : Int := s.en 8 0x014 n
  if cpr = 0 then 0 else (s.qe n).speed * 6000 / cpr

/-- POLE_PAIRS × QCAPANGLE (R249): the capture's angle in 2^-24 electrical turns, before ANG_OFS. -/
def State.qeElec (s : State) (g n : Nat) : Nat :=
  let cpr := s.en 8 0x014 n
  if cpr = 0 then 0 else s.d 0x100 g * ((s.qe n).capPos.toNat * 2 ^ 24 / cpr) % 2 ^ 24

/-- The electrical angle of the QE (R249), or the angle since the end of ALIGN (R251). -/
def State.qeAng (s : State) (g n : Nat) : Nat :=
  match (s.kern g).zero with
  | some z => (s.qeElec g n + 2 ^ 24 - z) % 2 ^ 24
  | none => (s.qeElec g n + s.d 0x106 g) % 2 ^ 24

/-- What the back-EMF observer delivers in an activation (R249): its angle, its speed and the size of the back-EMF are free values, for the rule
names its bandwidth alone. Its angle is valid while the back-EMF is at least EMF_MIN. -/
structure Obs where
  ang : Nat
  spd : Int
  emf : Int
  ok : Bool
  deriving DecidableEq, Repr

/-- The observer's values of this activation. -/
def State.observer (s : State) (g : Nat) : Obs :=
  let e : Int := (s.fv 2).toNat
  ⟨(s.fv 0).toNat, (s.fv 1).toInt, e, decide (s.ds 0x137 g ≤ e)⟩

/-- A QE interface has a valid absolute reference (R251). -/
def State.absRef (s : State) (n : Nat) : Bool := decide (2 ≤ s.en 8 0x020 n) && (s.qe n).idxSeen && !(s.qe n).suspect

/-- The angle that a speed turns in a number of ticks: 2^24 × p × rpm/60 × ticks/(4 × 10^8), rpm in hundredths. -/
def turned (p : Nat) (spd : Int) (ticks : Int) : Int := spd * p * ticks * 2 ^ 24 / (6000 * 400000000)

/-- The flux that iq meets in pWb: PSI + (LD − LQ) × id. -/
def State.flux (s : State) (g : Nat) (id : Int) : Int :=
  1000000 * (s.d 0x104 g : Int) + ((s.d 0x102 g : Int) - (s.d 0x103 g : Int)) * id

/-- The torque of currents in 0.01 N·m (R247, R286). -/
def State.torqueOf (s : State) (g : Nat) (id iq : Int) : Int := 3 * (s.d 0x100 g : Int) * s.flux g id * iq / 20000000000000

/-- The q current of a torque; where the flux is not positive the rule gives none, and it is a free value. -/
def State.iqFor (s : State) (g : Nat) (tq id : Int) : Int :=
  let f := 3 * (s.d 0x100 g : Int) * s.flux g id
  if f ≤ 0 then (s.fv 3).toInt else tq * 20000000000000 / f

/-- id of the MTPA table (R247) at |torque| / T_MAX: between two points the rule states no value, and it is a free value of their range. -/
def State.mtpa (s : State) (g : Nat) (tq : Int) : Int :=
  let m := s.ds 0x117 g
  if m ≤ 0 then s.ds 0x120 g
  else
    let x := min 15 (15 * (tq.natAbs : Int) / m)
    let a := s.ds (0x120 + x.toNat) g
    let b := s.ds (0x120 + min 15 (x.toNat + 1)) g
    if 15 * (tq.natAbs : Int) % m = 0 ∨ x = 15 then a else s.within 4 (min a b) (max a b)

/-- The references limited (R253): id to ± the limit, then iq to what is left of it; whether that limited them. -/
def limitDq (lim : Int) (x : Int × Int) : (Int × Int) × Bool :=
  let l := max 0 lim
  let d := clampI (-l) l x.1
  let r : Int := (isqrt (l * l - d * d).toNat : Nat)
  let q := clampI (-r) r x.2
  ((d, q), d != x.1 || q != x.2)

/-- The d and q current controllers (R247, steps 6 and 7): the limited voltages in mV; an integrator (in nV) is frozen in a period in which its
output was limited or with a trip. -/
def State.dqControl (s : State) (g : Nat) (i ref : Int × Int) (spd : Int) : State × (Int × Int) :=
  let x := s.kern g
  let bw := twoPi (s.d 0x110 g : Int)
  let ld : Int := s.d 0x102 g
  let lq : Int := s.d 0x103 g
  let rs : Int := s.d 0x101 g
  let n : Int := s.perTicks g
  let ed := ref.1 - i.1
  let eq := ref.2 - i.2
  let w := twoPi (spd * (s.d 0x100 g : Int)) / 6000
  let dI := x.dI + rs * ed * bw * n / 400000000
  let qI := x.qI + rs * eq * bw * n / 400000000
  let vd := ld * ed * bw / 1000000000 + dI / 1000000 - w * lq * i.2 / 1000000000 + s.within 5 (-1) 1
  let vq := lq * eq * bw / 1000000000 + qI / 1000000 + w * (ld * i.1 / 1000000 + (s.d 0x104 g : Int)) / 1000 + s.within 6 (-1) 1
  let lim := max 0 ((s.d 0x114 g : Int) * x.vbus * 577350269 / 100000000000)
  let m := vecLen vd vq
  let cut := decide (lim < m)
  let v : Int × Int := if cut then (vd * lim / m, vq * lim / m) else (vd, vq)
  let freeze := cut || s.tripNow g
  (s.setKern g { x with dI := if freeze then x.dI else dI, qI := if freeze then x.qI else qI, idRef := ref.1, iqRef := ref.2, vd := v.1, vq := v.2 }, v)

/-- The phase duties of a voltage vector (R247, step 8): space-vector modulation with min–max zero sequence, in 1/65536 of the bus voltage `b`.
Without a bus voltage the duties are free values. -/
def State.modulate (s : State) (b : Int) (v : Int × Int) (ang : Nat) : List Int :=
  let u := phases (unpark v ang)
  let z := -((u.foldl max (u.headD 0)) + (u.foldl min (u.headD 0))) / 2
  if b ≤ 0 then [s.within 7 0 65536, s.within 8 0 65536, s.within 9 0 65536]
  else u.map (fun x => clampI 0 65536 (32768 + 65536 * (x + z) / b))

/-- CMPA of a duty in 1/65536 over E fine steps (R248): round(E (1 − d) / 2). -/
def cmpaOf (e d : Int) : Int := (e * (65536 - d) + 65536) / 131072

/-- With I_SRC ADC_LOWSIDE no high side rises before the measurement is over (R248): the least CMPA, in fine steps. -/
def State.lowFirst (s : State) (g : Nat) : Int :=
  let seq := s.inputOf (s.d 0x004 g) 0
  if s.d 0x108 g = 1 then 32 * (s.d 0x115 g + 80 * (if seq.1 = 1 then s.en 7 0x021 seq.2 else 0) + 40 : Nat) else 0

/-- The compares of the phases (R248), committed with SAMPLE_TICK in a period of `p` ticks. -/
def State.commitDuty (s : State) (g p : Nat) (duty : List Int) : State :=
  let e : Int := 32 * p
  let a (k : Nat) : Int := max (s.lowFirst g) (cmpaOf e (duty.getD k 0))
  s.kCommit (s.mainCl g) (fun x =>
    setSample (32 * s.d 0x115 g) (setPulse 2 (a 2) (e - a 2) (setPulse 1 (a 1) (e - a 1) (setPulse 0 (a 0) (e - a 0) (setPeriod p x)))))

/-! ### FOC_CURRENT (R239 to R254) -/

/-- The status words of a motor stage (R235, R263): D.040 to D.049. -/
def State.motorWords (s : State) (g t : Nat) : State :=
  let x := s.kern g
  let o (i : Nat) : Int := x.ofs.getD i 0
  let ofs := if x.ofsDone then [o 0, o 1, o 2] else [0, 0, 0]
  s.setStateWords t ([x.spd, s.torqueOf g x.id x.iq, x.id, x.iq, x.vbus] ++ ofs
    ++ [s.ds 0x048 g, (b2n x.ofsDone + 2 * b2n x.limited + 4 * b2n x.rampDone + 8 * b2n x.valid : Nat)])

/-- START (R240, R251): the phase that applies first. -/
def State.focStart (s : State) (g : Nat) : State :=
  let n := s.d 0x003 g
  let x := s.kern g
  let align := s.d 0x105 g == 1 || !s.absRef n
  let x : Kern := { x with ref := 0, expired := false, setAt := s.t48.toNat, spI := 0, tq := 0, dI := 0, qI := 0, ang := 0, ol := 0, zero := none,
                           rampDone := false, quiet := 0, started := false, stallAt := none }
  (s.setKern g x).toPhase g (if align then 1 else 4)

/-- The stage runs step 5 of an identification (R259), whose command is ID_SPD. -/
def State.identSpin (s : State) (g : Nat) : Bool := (s.kern g).idn.step == 5

/-- The speed command (R245): of the entry or the map, within ± SPD_MAX, 0 once it has expired; ID_SPD in step 5 of an identification. -/
def State.speedCmd (s : State) (g t : Nat) : Int :=
  let m := s.ds 0x026 g
  clampI (-m) m (if s.identSpin g then s.ds 0x159 g else if (s.kern g).expired then 0 else (s.command g t 0x033).1)

/-- Reverse rotation is commanded: the sign of the speed command, or of the torque command. -/
def State.reverse (s : State) (g t : Nat) : Bool :=
  decide ((if s.d 0x030 g = 1 ∨ s.identSpin g = true then s.speedCmd g t else (s.command g t 0x032).1) < 0)

/-- In CLOSED with OBSERVER a speed below SPD_HANDOVER is raised to it; 0 holds it in the direction in which the rotor turns (R252, log entry 33). -/
def State.heldSpd (s : State) (g : Nat) (v : Int) : Int :=
  let h := s.ds 0x134 g
  if s.d 0x105 g = 1 ∧ (s.kern g).phase = 4 ∧ v.natAbs < h then (if v < 0 ∨ (v = 0 ∧ (s.kern g).spd < 0) then -h else h) else v

/-- The torque reference of CLOSED (R245, R247): the slewed command, or FOC_SPEED's, reduced from 95 % of SPD_MAX in torque mode. What torque takes
an identification to ID_SPD the rules do not say: a free value within ± T_MAX. -/
def State.torqueRef (s : State) (g t : Nat) : State × Int :=
  if s.identSpin g then (s, s.within 11 (-(s.ds 0x117 g)) (s.ds 0x117 g))
  else if s.d 0x030 g = 1 then (s, (s.kern g).tq)
  else
    let m := s.ds 0x117 g
    let c := clampI (-m) m (s.command g t 0x032).1
    let r := s.nextRef g c (s.enS 24 0xD 0x035 g)
    let s := s.setKern g { s.kern g with ref := r }
    let top := s.ds 0x026 g
    let v : Int := (s.kern g).spd.natAbs
    let q := r / 400000
    (s, if top ≤ 0 ∨ 20 * v ≤ 19 * top then q else if top ≤ v then 0 else q * (20 * (top - v)) / top)

/-- The references of CLOSED (R247, step 4): id of the table and of field weakening, which acts only toward negative id (its gains are not stated:
a free value), iq of the torque. -/
def State.closedRefs (s : State) (g t : Nat) : State × (Int × Int) :=
  let r := s.torqueRef g t
  let fw : Int := if s.d 0x118 g = 0 then 0 else -(r.1.fv 10).toNat
  let id := s.mtpa g r.2 + fw
  (r.1, (id, r.1.iqFor g r.2 id))

/-! ### IDENT (R259) -/

/-- The step of the identification job that runs on a stage; 0 without one, or while it ramps down. -/
def State.identPc (s : State) (g : Nat) : Nat :=
  ((s.ref.job.find? (fun (p : Nat × Job) => p.2.kind == .ident && p.2.arg == g)).map (fun p => if p.2.pc < 6 then p.2.pc else 0)).getD 0

/-- An index search is needed: the interface resets on an index, and has seen none (R215, R259). -/
def State.seeksIndex (s : State) (g : Nat) : Bool :=
  decide (2 ≤ s.en 8 0x020 (s.d 0x003 g)) && !(s.qe (s.d 0x003 g)).idxSeen

/-- The identification's kernel takes the next part of its step. -/
def State.identPart (s : State) (g k : Nat) : State :=
  s.setKern g { s.kern g with idn := { (s.kern g).idn with part := k, since := s.t48.toNat } }

/-- The kernel has a step's result. -/
def State.identRes (s : State) (g : Nat) (v : Int) : State := s.setKern g { s.kern g with idn := { (s.kern g).idn with res := some v } }

/-- The kernel begins a step of the identification when its command has come: step 5 with the start-up of R251. -/
def State.identBegin (s : State) (g : Nat) : State :=
  let k := s.identPc g
  let x := s.kern g
  if x.phase = 5 ∨ (s.stg g).st ≠ .run ∨ k = 0 ∨ k = x.idn.step then s
  else
    let s := if k = 5 then s.focStart g else s.toPhase g 6
    s.setKern g { s.kern g with idn := { Ident.none with step := k, since := s.t48.toNat } }

/-- The reference of IDENT and its angle: of step 1, id at half of ID_I_TEST and then at it; of step 4, the vector that searches the index at one
electrical turn per 100 ms, and then id at angle 0. -/
def State.identRef (s : State) (g : Nat) : (Int × Int) × Nat :=
  let i := s.ds 0x158 g
  let x := (s.kern g).idn
  match x.step with
  | 1 => ((if x.part = 0 then i / 2 else i, 0), 0)
  | 4 => ((i, 0), if x.part = 0 then s.since x.since * 2 ^ 24 / 40000000 % 2 ^ 24 else 0)
  | _ => ((0, 0), 0)

/-- The voltage of the pulses of steps 2 and 3, on the d axis and on the q axis at angle 0: 16 pairs of opposite pulses of one period each. Their
size the rule does not state: a free value, which the second pulse of a pair takes over. -/
def State.identPulse (s : State) (g : Nat) : Option (Int × Int) :=
  let x := (s.kern g).idn
  if (x.step = 2 ∨ x.step = 3) ∧ x.part < 32 then
    let v := if x.part % 2 = 0 then s.within 12 0 (max 0 (s.kern g).vbus) else -x.volt
    some (if x.step = 2 then (v, 0) else (0, v))
  else none

/-- The parts of a step and their results. Step 1: after 200 ms each, ID_RS = Δvd / Δid in µΩ. Steps 2 and 3: the pulses. Step 4: an index within
POLE_PAIRS + 1 electrical turns, then 500 ms; ID_OFS is the angle that makes the electrical angle 0 there (R249). Step 5: from ID_SPD on, 100 ms
with the currents at 0; ID_PSI = vq / ω in µWb. -/
def State.identEnd (s : State) (g : Nat) : State :=
  let k := s.kern g
  let x := k.idn
  let past (ms : Nat) : Bool := decide (400000 * ms ≤ s.since x.since)
  if x.res.isSome then s
  else match x.step with
    | 1 =>
      if past 200 = false then s
      else if x.part = 0 then (s.setKern g { k with idn := { x with volt := k.vd, cur := k.id } }).identPart g 1
      else s.identRes g (if k.id = x.cur then 0 else (k.vd - x.volt) * 1000000 / (k.id - x.cur))
    | 2 | 3 => if x.part < 32 then s.setKern g { k with idn := { x with part := x.part + 1, volt := if x.step = 2 then k.vd else k.vq } } else s.identRes g 0
    | 4 =>
      if x.part = 0 then
        (if s.seeksIndex g = false then s.identPart g 1
         else if past (100 * (s.d 0x100 g + 1)) then s.setKern g { k with idn := { x with lost := true } } else s)
      else if past 500 then s.identRes g (((2 ^ 24 - s.qeElec g (s.d 0x003 g)) % 2 ^ 24 : Nat) : Int) else s
    | 5 =>
      let want := s.ds 0x159 g
      if x.part = 0 then
        (if k.phase = 4 ∧ (if want < 0 then k.spd ≤ want else want ≤ k.spd) then (s.toPhase g 6).identPart g 1 else s)
      else if past 100 then
        let w := twoPi (k.spd * (s.d 0x100 g : Int))
        s.identRes g (if w = 0 then 0 else k.vq * 6000000 / w)
      else s
    | _ => s

/-- The references and the angle of the phase that runs (R251), and the speed they go with. The vector of OPEN_LOOP lies on the q axis of its own
frame; HANDOVER blends it, seen from the observer's frame, into the closed-loop reference. -/
def State.focRefs (s : State) (g t : Nat) (o : Obs) : State × (Int × Int) × Nat :=
  let x := s.kern g
  let obs := decide (s.d 0x105 g = 1)
  let n := s.d 0x003 g
  let ang := if obs then o.ang else s.qeAng g n
  let olA := x.ang / 2 ^ 16 % 2 ^ 24
  let sgn : Int := if s.reverse g t then -1 else 1
  match x.phase with
  | 1 =>
    let full := s.ds 0x130 g
    let q : Int := 400000 * (s.d 0x131 g) / 4
    (s, (if q ≤ 0 then full else min full (full * s.since x.since / q), 0), 0)
  | 2 => (s, (0, sgn * s.ds 0x132 g), olA)
  | 3 =>
    let r := s.closedRefs g t
    let b : Int := 400000 * max 1 (s.d 0x135 g : Int)
    let k := min b (s.since x.since)
    let v := park (unpark (0, sgn * s.ds 0x132 g) olA) o.ang
    (r.1, (v.1 + (r.2.1 - v.1) * k / b, v.2 + (r.2.2 - v.2) * k / b), o.ang)
  | 6 => let r := s.identRef g; (s, r.1, if s.identSpin g then ang else r.2)
  | 5 => let p := s.rampPart g; (s, (x.left * p / 65536, x.tq * p / 65536), ang)
  | _ => let r := s.closedRefs g t; (r.1, r.2, ang)

/-- The open-loop frame turns (R251): its speed rises at ACC_OL up to SPD_HANDOVER, with the sign of the command. -/
def State.olStep (s : State) (g t : Nat) : State :=
  let x := s.kern g
  let n : Int := s.perTicks g
  let h := s.ds 0x134 g
  let sgn : Int := if s.reverse g t then -1 else 1
  let v := min h (s.ds 0x133 g * s.since x.since / 400000)
  s.setKern g { x with ol := sgn * v, ang := (((x.ang : Int) + turned (s.d 0x100 g) (sgn * v) (n * 65536)) % 2 ^ 40).toNat }

/-- The ends of the phases (R251, R252). -/
def State.focPhase (s : State) (g t : Nat) (o : Obs) : State :=
  let x := s.kern g
  let n := s.d 0x003 g
  match x.phase with
  | 1 =>
    if s.inPhase g (s.d 0x131 g) then
      if s.d 0x105 g = 1 then s.toPhase g 2 else (s.setKern g { x with zero := some (s.qeElec g n) }).toPhase g 4
    else s
  | 2 =>
    let near := decide (5 * (o.spd - x.ol).natAbs ≤ x.ol.natAbs)
    let ok := decide (s.ds 0x134 g ≤ x.ol.natAbs) && o.ok && near
    let h := countIf ok x.hold
    if 32 ≤ h then s.toPhase g 3
    else
      let s' := (s.setKern g { x with hold := h }).olStep g t
      if s.inPhase g (s.d 0x136 g) then s'.kFault t 9 true else s'
  | 3 => if s.inPhase g (s.d 0x135 g) then s.toPhase g 4 else s
  | _ => s

/-- STAGE_OVERSPEED, in every activation (R253), and STAGE_STALL of a stage in CLOSED (R254). -/
def State.motionChecks (s : State) (g t : Nat) (stall : Bool) : State :=
  let x := s.kern g
  let at_ := if stall then some (x.stallAt.getD s.t48.toNat) else none
  let fast := countIf (decide (110 * s.ds 0x026 g < 100 * x.spd.natAbs)) x.fast
  let long := match at_ with
    | some a => decide (400000 * s.d 0x142 g ≤ s.since a)
    | none => false
  let s := s.setKern g { x with stallAt := if long then none else at_, fast := fast }
  (s.kFault t 8 (fast == 8)).kFault t 10 (x.phase == 4 && long)

/-- The rotor stands while current flows (R254). -/
def State.stalls (s : State) (g : Nat) (o : Obs) : Bool :=
  let x := s.kern g
  let n := s.d 0x003 g
  let slow (v : Int) : Bool := decide ((v.natAbs : Int) < s.ds 0x140 g)
  x.phase == 4 && decide (s.ds 0x141 g ≤ x.iq.natAbs) &&
    (if s.d 0x105 g = 1 then slow o.spd else (s.qe n).still || ((s.qe n).valid && slow (s.qeRpm n)))

/-- One activation of the motor's main task with its measurement: what both main kernels do before their control (R239, R245, R253). -/
def State.motorBegin (s : State) (g t : Nat) (meas : List Word) (in3 : Option (List Word)) (cur : List Int) : State :=
  let x := s.kern g
  let vb := (s.busVolts g t meas in3).getD x.vbus
  let s := if (s.stg g).st = .armed then s.calibrate g t cur else s
  let x := s.kern g
  let s := s.setKern g { x with cur := x.offset cur, vbus := vb }
  let s := (s.checkMain g t).narrow g
  s.freshness g t (s.command g t 0x032).2

/-- One activation of FOC_CURRENT (R247). -/
def State.focAct (s : State) (g t : Nat) : State :=
  let a := (s.takeRec t 1).1.takeRec t 2
  let b := a.1.takeRec t 3
  let m := b.1.takeRec t 0
  match m.2 with
  | none => s
  | some meas =>
    let s := m.1
    let obs := decide (s.d 0x105 g = 1)
    let n := s.d 0x003 g
    let s := s.motorBegin g t meas b.2 (s.phaseCur g (recVals meas (s.ds 0x048 g)))
    let st := (s.stg g).st
    let s := if st = .armed then s.setKern g { s.kern g with phase := 0, idn := Ident.none }
      else if st = .run ∧ (s.kern g).phase = 0 then (if s.en 0xD 0x015 g = 6 then (s.focStart g).toPhase g 6 else s.focStart g)
      else if st = .rampdown ∧ (s.kern g).phase ≠ 5 then
        let x := s.kern g
        (s.setKern g { x with left := x.idRef, tq := x.iqRef, rampDone := false, quiet := 0, idn := Ident.none }).toPhase g 5
      else s
    let s := s.identBegin g
    let o := s.observer g
    let x := s.kern g
    let spd := if x.phase = 2 then x.ol else if obs then o.spd else s.qeRpm n
    let s := s.setKern g { x with spd := spd, valid := o.ok }
    let s := if st = .armed then (s.pageOff g).addIdle g
      else
        let r := s.focRefs g t o
        let s := r.1
        let x := s.kern g
        let i := park (clarke (x.cur.getD 0 0) (x.cur.getD 1 0) (x.cur.getD 2 0)) r.2.2
        let l := limitDq (s.limitI g) r.2.1
        let s := s.setKern g { x with id := i.1, iq := i.2, limited := l.2 }
        let c : State × (Int × Int) := match s.identPulse g with
          | some v => (s.setKern g { s.kern g with vd := v.1, vq := v.2 }, v)
          | none => s.dqControl g i l.1 spd
        let s := c.1
        let p := s.kPeriod g (x.phase == 4)
        let late : Int := 2 * (p : Int) - s.d 0x115 g + p / 2
        let still := x.phase == 1 || (x.phase == 6 && x.idn.step != 5)
        let adv := ((r.2.2 : Int) + (if still then 0 else turned (s.d 0x100 g) spd late)) % 2 ^ 24
        let duty := s.modulate (s.kern g).vbus c.2 adv.toNat
        let s := if (s.kern g).rampDone then (s.pageOff g).addIdle g else (s.commitDuty g p duty).addLoss g x.cur duty
        if st = .rampdown then
          s.rampQuiet g ((s.kern g).cur.all (fun v => decide (50 * (v.natAbs : Int) < s.enS 24 0xD 0x022 g)))
        else (s.focPhase g t o).identEnd g
    let s := s.motionChecks g t (s.stalls g o)
    ((s.motorWords g t).postRoles g t).usedFree

/-! ### FOC_SPEED (R247) -/

/-- One activation of FOC_SPEED: a PI with Kp = J 2π SPD_BW and Ki = Kp 2π SPD_BW / 4, limited to ± T_MAX and to the torque that the present
current limit allows; its integrator (in 10^-6) is frozen while the output is limited, and with a trip (R253). -/
def State.speedAct (s : State) (g t : Nat) : State :=
  let s := ((s.takeRec t 0).1.takeRec t 1).1
  let c := s.command g t 0x033
  let s := if s.d 0x030 g = 1 then s.freshness g t c.2 else s
  let x := s.kern g
  let bw := twoPi (s.d 0x111 g : Int)
  let cmd := if (s.stg g).st = .run then s.speedCmd g t else 0
  let r := if x.expired then s.nextRef g 0 0 else 400000 * cmd
  let e := s.heldSpd g (r / 400000) - x.spd
  let dt : Int := s.perTicks g * s.dc 2 0x014 t
  let p := (s.d 0x113 g : Int) * bw * e * 1047198 / 10000000
  let i := x.spI + p * bw / 4 * dt / 400000000
  let allow := s.torqueOf g x.idRef (limitDq (s.limitI g) (x.idRef, 8388607)).1.2
  let lim := max 0 (min (s.ds 0x117 g) allow)
  let u := (p + i) / 1000000
  let v := clampI (-lim) lim u
  s.setKern g { x with tq := if x.phase = 5 then x.tq else v, spI := if v = u ∧ s.tripNow g = false then i else x.spI
                       ref := if s.d 0x030 g = 1 then r else x.ref }

/-! ### SIX_STEP (R255 to R258) -/

/-- The floating phase of a page, and the level its comparator shows after a forward crossing (R255). -/
def floating (k : Nat) : Nat × Bool :=
  match k with
  | 0 => (2, false) | 1 => (1, true) | 2 => (0, false) | 3 => (2, true) | 4 => (1, false) | _ => (0, true)

/-- The phase that a page pulses (R255). -/
def pulsing (k : Nat) : Nat := match k with | 0 | 1 => 0 | 2 | 3 => 1 | _ => 2

/-- The page of a sector: 3 above it in reverse (R255). -/
def pageOf (sector : Nat) (rev : Bool) : Nat := if rev then (sector + 3) % 6 else sector % 6

/-- The next sector in the direction of rotation. -/
def nextSector (sector : Nat) (rev : Bool) : Nat := if rev then (sector + 5) % 6 else (sector + 1) % 6

/-- The comparator of the floating phase of the sector that stands. -/
def State.zcOf (s : State) (g : Nat) (rev : Bool) : Nat := s.d (0x200 + (floating (pageOf (s.kern g).sector rev)).1) g

/-- T60 (R257): the mean of the last two intervals between valid crossings, in ticks; 0 before there are two. -/
def Kern.t60 (x : Kern) : Nat := match x.gaps with | [a, b] => (a + b) / 2 | _ => 0

/-- The ticks from a T48 to now, negative where it lies ahead. -/
def State.past (s : State) (a : Nat) : Int := asInt 48 (s.t48 - BitVec.ofNat 48 a).toNat

/-- The T48 at which the set of this activation takes effect: the start of the period after the next (R257). -/
def State.setBegins (s : State) (g : Nat) : Nat :=
  (BitVec.ofNat 48 ((s.cl (s.mainCl g)).start48 + 2 * s.perTicks g)).toNat

/-- What a sector is estimated to last: T60, or before there is one what the open-loop speed gives; 0 at standstill. -/
def State.sectorTime (s : State) (g : Nat) : Nat :=
  let x := s.kern g
  if x.t60 ≠ 0 then x.t60 else 400000000 * 6000 / (6 * x.ol.natAbs * max 1 (s.d 0x100 g))

/-- The T48 of a CWTIME stamp of the last 2^24 ticks. -/
def State.stampT48 (s : State) (w : Word) : Nat := (s.t48 - (s.t48 - w.setWidth 48) % 16777216).toNat

/-- The crossing in the sector that stands (R256): CHANGES advanced by exactly 1 since the end of blanking, OUT has the expected level, and none
was accepted in the sector. An accepted one gives the commutation time of R257. -/
def State.zcLook (s : State) (g t : Nat) : State :=
  let x := s.kern g
  let rev := s.reverse g t
  let c := s.zcOf g rev
  let y := s.cw c
  let t60 := x.t60
  let blank := s.d 0x204 g * t60 / 100
  match x.chg with
  | none => if (blank : Int) ≤ s.past x.commAt then s.setKern g { x with chg := some y.changes } else s
  | some n =>
    let level := (floating (pageOf x.sector rev)).2 != rev
    if x.done ∨ y.changes ≠ n + 1 ∨ y.out ≠ level then s
    else
      let at_ := s.stampT48 y.time
      let gap := (x.cross.map (fun p => (BitVec.ofNat 48 at_ - BitVec.ofNat 48 p).toNat)).getD 0
      let gaps := if x.cross.isNone then [] else (gap :: x.gaps).take 2
      let near := t60 = 0 ∨ (3 * t60 ≤ 4 * gap ∧ 4 * gap ≤ 5 * t60)
      let x := { x with cross := some at_, gaps := gaps, done := true, miss := 0, hold := if near then x.hold + 1 else 0 }
      let dly : Int := 400 * s.d 0x209 g
      let tc : Int := (at_ : Int) - dly + (x.t60 : Int) * (30 - (s.d 0x203 g : Int)) / 60
      s.setKern g { x with comm := some (tc % 2 ^ 48).toNat }

/-- The sector is left for the next with the set that this activation commits: a sector without a valid crossing counts toward STAGE_ZC_LOSS, and ends
the run of consecutive crossings. -/
def State.commutate (s : State) (g t : Nat) : State :=
  let x := s.kern g
  let miss := if x.done then 0 else x.miss + 1
  let s := s.setKern g { x with sector := nextSector x.sector (s.reverse g t), chg := none, done := false, comm := none,
                                commAt := s.setBegins g, miss := miss, hold := if x.done then x.hold else 0 }
  s.kFault t 11 ((s.kern g).phase == 4 && miss == s.d 0x205 g)

/-- A commutation that is due takes place in the set that this activation commits, which the period after the next runs (R257); a late one is
counted, and a sector below 4 periods is STAGE_OVERSPEED. A sector without a crossing passes when the time it was to last is over (log entry 33). -/
def State.sixCommute (s : State) (g t : Nat) : State :=
  let x := s.kern g
  let p := s.perTicks g
  match x.comm with
  | none =>
    let len := s.sectorTime g
    if x.done = false ∧ len ≠ 0 ∧ (len : Int) ≤ s.past x.commAt + 2 * p then s.commutate g t else s
  | some tc =>
    let early := (BitVec.ofNat 48 (s.setBegins g + p / 2) - BitVec.ofNat 48 tc).toNat
    if 2 ^ 47 ≤ early then s
    else
      let late := decide (x.t60 < 6 * p) && decide (p < early)
      let s := s.setKern g { x with late := if late then min 65535 (x.late + 1) else x.late }
      (s.commutate g t).kFault t 8 (decide (x.t60 ≠ 0) && decide (x.t60 < 4 * p))

/-- Forced commutation of OPEN_LOOP (R258): from sector 1, each sixth of an electrical turn of a frame whose speed rises at ACC_OL. -/
def State.sixForced (s : State) (g t : Nat) : State :=
  let s := s.olStep g t
  let x := s.kern g
  let rev := s.reverse g t
  let a := if rev then (2 ^ 40 - x.ang) % 2 ^ 40 else x.ang
  let m := a / 2 ^ 16 * 6 / 2 ^ 24
  let want := if rev then (7 - m) % 6 else (1 + m) % 6
  if want = x.sector then s else s.commutate g t

/-- The speed that T60 stands for, in 0.01 rpm: six sectors are an electrical turn. -/
def State.sixRpm (s : State) (g t : Nat) : Int :=
  let x := s.kern g
  if x.t60 = 0 then x.ol
  else
    let v : Int := (400000000 * 6000 / (6 * x.t60 * max 1 (s.d 0x100 g)) : Nat)
    if s.reverse g t then -v else v

/-- The speed in use: of the QE interface, or of T60 (R258). -/
def State.sixSpd (s : State) (g t : Nat) : Int := if s.d 0x003 g < 4 then s.qeRpm (s.d 0x003 g) else s.sixRpm g t

/-- The reference of the bus current (R258): in CLOSED of the torque through PSI, with the clamp of R253; in RAMPDOWN ramped to 0 (R241); none before. -/
def State.sixRef (s : State) (g t : Nat) : State :=
  let x := s.kern g
  let put (s : State) (v : Int) : State :=
    let l := limitDq (s.limitI g) (0, v)
    s.setKern g { s.kern g with idRef := 0, iqRef := l.1.2, limited := l.2 }
  match x.phase with
  | 4 => let r := s.torqueRef g t; put r.1 (r.1.iqFor g r.2 0)
  | 5 => put s (x.left * s.rampPart g / 65536)
  | _ => s.setKern g { x with iqRef := 0, limited := false }

/-- The duty of SIX_STEP in 1/65536: D_ALIGN, D_OL, or in CLOSED and RAMPDOWN what the PI on the bus current sets from its reference. -/
def State.sixDuty (s : State) (g : Nat) : State × Int :=
  let x := s.kern g
  match x.phase with
  | 1 => (s, 65536 * (s.d 0x206 g : Int) / 100)
  | 2 => let d := 65536 * (s.d 0x207 g : Int) / 100; (s.setKern g { x with qI := d }, d)
  | _ => let r := s.piLoop g 12 x.qI (x.iqRef - x.cur.getD 0 0) 0 65536; (s.setKern g { x with qI := r.2 }, r.1)

/-- The phases of SIX_STEP end (R258): after T_ALIGN; with N_ZC valid crossings near their place at SPD_HANDOVER; or STAGE_START_FAIL. -/
def State.sixPhase (s : State) (g t : Nat) : State :=
  let x := s.kern g
  match x.phase with
  | 1 =>
    if s.inPhase g (s.d 0x131 g) then
      (s.setKern g { x with ol := 0, ang := 0, sector := 1, chg := none, done := false, comm := none, commAt := s.setBegins g }).toPhase g 2
    else s
  | 2 =>
    if s.d 0x208 g ≤ x.hold ∧ s.ds 0x134 g ≤ (s.sixSpd g t).natAbs then (s.setKern g { x with ref := 0 }).toPhase g 4
    else s.kFault t 9 (s.inPhase g (s.d 0x136 g))
  | _ => s

/-- One activation of SIX_STEP: result 0 of the measurement is the bus current. -/
def State.sixAct (s : State) (g t : Nat) : State :=
  let b := (s.takeRec t 1).1.takeRec t 3
  let m := b.1.takeRec t 0
  match m.2 with
  | none => s
  | some meas =>
    let s := m.1
    let s := s.motorBegin g t meas b.2 [(recVals meas (s.ds 0x048 g)).getD 0 0]
    let st := (s.stg g).st
    let s := if st = .armed then s.setKern g { s.kern g with phase := 0 }
      else if st = .run ∧ (s.kern g).phase = 0 then
        ((s.focStart g).setKern g { (s.focStart g).kern g with sector := 0, cross := none, gaps := [], chg := none, done := false, comm := none, miss := 0 }).toPhase g 1
      else if st = .rampdown ∧ (s.kern g).phase ≠ 5 then
        (s.setKern g { s.kern g with left := (s.kern g).iqRef, rampDone := false, quiet := 0 }).toPhase g 5
      else s
    let half := (s.kern g).vbus
    let s := s.setKern g { s.kern g with spd := s.sixSpd g t, id := 0, iq := (s.kern g).cur.getD 0 0 }
    let s := if st = .armed then (s.pageOff g).addIdle g
      else
        -- R256: HI is the code for half of the bus voltage at each comparator's full scale of 1024 codes over V_FS of VBUS_CH
        let hi := if s.ds 0x02C g ≤ 0 then (s.fv 1).toInt else 512 * half / s.ds 0x02C g
        let s := [0x200, 0x201, 0x202].foldl (fun s e => s.cwThr (s.d e g) (BitVec.ofInt 24 (clampI 0 1023 hi))) s
        let ph := (s.kern g).phase
        let s := if ph = 1 then s else s.zcLook g t
        let s := if ph = 2 then s.sixForced g t else if ph = 1 then s else s.sixCommute g t
        let s := s.sixRef g t
        let p := s.kPeriod g (ph == 4)
        let d := s.sixDuty g
        let s := d.1
        let d := d.2
        let page := if ph = 1 then 0 else pageOf (s.kern g).sector (s.reverse g t)
        let e : Int := 32 * p
        let a := cmpaOf e d
        let i := (s.kern g).cur.getD 0 0
        let at_ (v w : Int) : List Int := (List.range 3).map (fun k => if k = (floating page).1 then 0 else if k = pulsing page then v else w)
        let s := if (s.kern g).rampDone then (s.pageOff g).addIdle g
          else (s.kCommit (s.mainCl g) (fun x => onPage page (setSample (32 * s.d 0x115 g)
            (setPulse 2 a (e - a) (setPulse 1 a (e - a) (setPulse 0 a (e - a) (setPeriod p x))))))).addLoss g (at_ i i) (at_ d 0)
        if st = .rampdown then
          s.rampQuiet g ((s.kern g).cur.all (fun v => decide (50 * (v.natAbs : Int) < s.enS 24 0xD 0x022 g)))
        else s.sixPhase g t
    let x := s.kern g
    let slow := decide ((x.spd.natAbs : Int) < s.ds 0x140 g)
    let s := s.motionChecks g t (x.phase == 4 && slow && decide (s.ds 0x141 g ≤ x.iq.natAbs))
    ((s.motorWords g t).postRoles g t).usedFree

/-! ### MOTOR_GUARD (R250) -/

/-- One activation of MOTOR_GUARD, on its own copy of the measurement and its own reading of the QE interface; the offsets, the angle of ALIGN and the
T60 speed of a stage without QE are those of the state of MAIN_TASK, which R234 binds for it. -/
def State.motorGuard (s : State) (g t : Nat) : State :=
  let b := (s.takeRec t 1).1.takeRec t 3
  let m := b.1.takeRec t 0
  match m.2 with
  | none => s
  | some meas =>
    let s := m.1
    let k := s.kern g
    let raw := recVals meas (s.ds 0x048 g)
    let three := decide (s.d 0x000 g = 1)
    let cur := k.offset (if three then s.phaseCur g raw else [raw.getD 0 0])
    let s := s.checkGuard g t cur none
    let x := s.guard g
    let sumMax := s.ds 0x050 g
    let off := three && s.d 0x107 g == 0 && decide (sumMax ≠ 0) && decide (sumMax < (cur.foldl (· + ·) 0).natAbs)
    let o := s.observer g
    let n := s.d 0x003 g
    let spd := if n < 4 ∧ (three = false ∨ s.d 0x105 g = 0) then s.qeRpm n else if three then o.spd else k.spd
    let apart := ((s.qeAng g n + 2 ^ 24 - o.ang) % 2 ^ 24 : Nat)
    let wide := decide (2 ^ 24 / 12 < min apart (2 ^ 24 - apart))
    let apartBad := three && decide (n < 4) && (s.qe n).on && o.ok && decide (s.ds 0x138 g < spd.natAbs) && wide
    let sum := countIf off x.sum
    let pos := countIf apartBad x.pos
    let fast := countIf (decide (110 * s.ds 0x026 g < 100 * spd.natAbs)) x.fast
    let s := s.setGuard g { x with sum := sum, pos := pos, fast := fast }
    (((s.kFault t 12 (sum == 3)).kFault t 13 (pos == 8)).kFault t 8 (fast == 8)).usedFree

/-! ### TJ_MODEL (R260) -/

/-- 2^40 × e^(−n/d). -/
def expNeg (n d : Nat) : Int :=
  let y : Int := (n * 2 ^ 40 / max 1 d : Nat)
  if 32 * 2 ^ 40 ≤ y then 0
  else
    let z := y / 64
    let e := ((List.range 14).reverse.foldl (fun (a : Int) (k : Nat) => 2 ^ 40 - z * a / 2 ^ 40 / ((k : Int) + 1)) (2 ^ 40))
    (List.range 6).foldl (fun (a : Int) _ => a * a / 2 ^ 40) e

/-- The reference temperature in 1/16 °C; none while it is SUSPECT or its lane not ACTIVE. -/
def State.tjRef (s : State) (g : Nat) : Option Int :=
  let r := s.d 0x300 g
  let i := if r < 16 then 12 + r else 28 + (r - 0x80)
  let x := s.sensor i
  if !x.valid || x.suspect || (decide (0x80 ≤ r) && (s.lane (r - 0x80)).st != .active) then none else some x.temp.toInt

/-- The loss of a switch in µW over the record (R260); `tj` is in nK above 0 °C. Where TJ_IREF, TJ_VREF or the time is 0 the rule gives no value. -/
def State.switchLoss (s : State) (g k : Nat) (tj : Int) : Int :=
  let x := s.kern g
  let r := x.sent.getD k []
  let ron : Int := s.d 0x302 g
  let ton := ron + ron * (s.d 0x303 g : Int) * (tj - 25000000000) / 1000000000000000
  let sw := s.ds 0x306 g * s.ds 0x305 g
  if x.sentT = 0 ∨ sw = 0 then (s.fv k).toNat
  else (s.ds 0x301 g * r.getD 0 0 + ton * r.getD 1 0 / 1000000 + (s.d 0x304 g : Int) * r.getD 2 0 * x.sentV * 400000000 / sw) / x.sentT

/-- One activation of TJ_MODEL: the Foster elements of six switches (in nK) take the loss record, and state words 0 and 1 the highest estimate in
1/16 °C and the count of updates. -/
def State.tjAct (s : State) (g t : Nat) : State :=
  let s := (s.takeRec t 1).1
  let m := s.takeRec t 0
  if m.2.isNone then s
  else
    let s := m.1
    match s.tjRef g with
    | none => s
    | some base =>
      let x := s.kern g
      let el (k j : Nat) : Int := x.foster.getD (4 * k + j) 0
      let temp (f : Nat → Int) : Int := base * 62500000 + (List.range 4).foldl (fun a j => a + f j) 0
      let new (k j : Nat) : Int :=
        let rth : Int := s.d (0x310 + j) g
        if rth = 0 then 0
        else el k j + (s.switchLoss g k (temp (el k)) * rth - el k j) * (2 ^ 40 - expNeg x.sentT (400000 * s.d (0x314 + j) g)) / 2 ^ 40
      let all := (List.range 24).map (fun n => new (n / 4) (n % 4))
      let tj := ((List.range 6).map (fun k => base * 62500000 + (List.range 4).foldl (fun a j => a + all.getD (4 * k + j) 0) 0)).foldl max (base * 62500000)
      ((s.setKern g { x with foster := all, tjN := x.tjN + 1 }).setStateWords t [tj / 62500000, (((x.tjN + 1) % 2 ^ 23 : Nat) : Int)]).usedFree

/-! ### GATE_PROFILE (R261) -/

/-- A band of a value against ascending edges: it moves only where the value passes an edge by `h` of that edge. -/
def band (old : Nat) (v : Int) (edges : List Int) (h : Int → Int) : Nat :=
  let up := (edges.filter (fun e => decide (e + h e ≤ v))).length
  let down := (edges.filter (fun e => decide (e - h e ≤ v))).length
  if old < up then up else if down < old then down else old

/-- One activation of GATE_PROFILE: the profile of every held generator's phase into its PROF pending register, whose nibbles are H_ON,
H_OFF, L_ON and L_OFF (R133). -/
def State.profAct (s : State) (g t : Nat) : State :=
  let s := ((s.takeRec t 0).1.takeRec t 1).1
  let x := s.kern g
  let dt := s.dc 2 0x071 g
  let tj : Int := if s.dc 2 0x070 g = 1 ∧ dt < 96 then asInt 24 (s.stateWord dt 0) else 0
  let gens := s.stageGens g
  let edges := [s.ds 0x400 g, s.ds 0x401 g, s.ds 0x402 g]
  let bs := (gens.zipIdx).map (fun p =>
    let o := x.bands.getD p.2 (0, 0)
    (band o.1 ((x.cur.getD p.2 0).natAbs) edges (fun e => e / 20), band o.2 tj [asInt 16 (s.d 0x403 g)] (fun _ => 32)))
  let s := s.setKern g { x with bands := bs }
  (gens.zip bs).foldl (fun s p =>
    let i := 2 * p.2.1 + p.2.2
    let on := s.d (0x410 + i) g % 16
    let off := s.d (0x418 + i) g % 16
    let v : BitVec 16 := BitVec.ofNat 16 (on + 16 * off + 256 * on + 4096 * off)
    let y := s.cl (p.1 / 4)
    s.setCl (p.1 / 4) { y with pending := { y.pending with g := y.pending.g.mapIdx (fun k z => if k = p.1 % 4 then { z with prof := v } else z) } }) s

end Sys2Proof.Machine
end

