-- ==== Sys2Proof/Machine/Conv.lean ====
section
/-! DEFINITION. The vendor kernels of the conversion and Eft stages (R264 to R288): PFC3_CTRL, PFC1_CTRL, DAB_CTRL, PSFB_CTRL, BUCK_CTRL, EFT_CTRL,
CONV_GUARD and EFT_GUARD; and the computation of an activation of any vendor kernel, `State.kernelRun`. -/

namespace Sys2Proof.Machine

/-! ### Measurements (R266) -/

/-- Stage type of a declaration. -/
def State.typ (s : State) (g : Nat) : Nat := s.d 0x000 g

/-- vOUT, vDC or vLINK of the voltage record. -/
def State.vOut (s : State) (g : Nat) : Int := (s.kern g).volt.getD (if s.typ g = 3 then 2 else 1) 0

/-- vIN, vGRID or vSTAR of the voltage record. -/
def State.vIn (s : State) (g : Nat) : Int := (s.kern g).volt.getD 0 0

/-- The number of currents that the table of R266 gives a type in its record of TASK_IN0; EFT's optional star current is not among them. -/
def State.curCount (s : State) (g : Nat) : Nat :=
  match s.typ g with
  | 4 => s.d 0x610 g
  | 5 | 6 => 2
  | 7 => (s.stageGens g).length
  | _ => 3

/-- The currents of the record of TASK_IN0, and for a DAB stage the transformer current of TASK_IN3 after them. -/
def State.convCur (s : State) (g : Nat) (in0 in3 : List Word) : List Int :=
  let fs := s.ds 0x048 g
  (recVals in0 fs).take (s.curCount g) ++ (if s.typ g = 5 then [(recVals in3 fs).getD 0 0] else [])

/-- The sum of the currents: the total of the legs or phases, or what flows in at the star point (R286). -/
def sumOf (l : List Int) : Int := l.foldl (· + ·) 0

/-- V(VBUS_CH): its slot of an input's record, else its latest result. -/
def State.convBus (s : State) (g t : Nat) (recs : List (Nat × List Word)) : Int :=
  let fs := s.ds 0x02C g
  let ch := s.d 0x02B g
  match recs.find? (fun p => s.givesBus g (s.inputOf t p.1)) with
  | some p => (recVals p.2 fs).getD ((s.wantChans (s.inputOf t p.1).2).findIdx (· == ch)) 0
  | none => s.chanVolts ch fs

/-- The checks of vOUT (R272): above VOUT_OV for 2 periods; below VOUT_UV for 8 in CLOSED. -/
def overUnder (s : State) (g : Nat) (v : Int) (n : Nat × Nat) : Nat × Nat :=
  (countIf (decide (s.ds 0x509 g < v)) n.1, countIf ((s.kern g).phase == 4 && decide (v < s.ds 0x50A g)) n.2)

/-- What every main kernel does first when the records of the period are there (R239, R266, R267, R272, R282); none before. -/
def State.convBegin (s : State) (g t : Nat) : Option State :=
  let dab := s.typ g == 5
  if (s.hasRec t 0 && s.hasRec t 2 && (!dab || s.hasRec t 3)) = false then none
  else
    let a := (s.takeRec t 1).1.takeRec t 0
    let b := a.1.takeRec t 2
    let c := if dab then b.1.takeRec t 3 else (b.1, none)
    let i := a.2.getD []
    let v := b.2.getD []
    let s := c.1
    let raw := s.convCur g i (c.2.getD [])
    let bus := s.convBus g t [(0, i), (2, v)]
    let s := if (s.stg g).st = .armed then s.calibrate g t raw else s
    let x := s.kern g
    let s := s.setKern g { x with cur := x.offset raw, volt := recVals v (s.ds 0x500 g), vbus := bus }
    let s := (s.checkMain g t).narrow g
    let x := s.kern g
    let n := overUnder s g (s.vOut g) (x.above, x.below)
    let s := ((s.setKern g { x with above := n.1, below := n.2 }).kFault t 0x10 (n.1 == 2)).kFault t 0x11 (n.2 == 8)
    let was := (s.kern g).expired
    let s := s.freshness g t (s.command g t (0x502 + s.d 0x501 g)).2
    let x := s.kern g
    some (if x.expired && !was && s.d 0x501 g == 0 then s.setKern g { x with left := x.iqRef } else s)

/-! ### References (R267, R271) -/

/-- The kernel moves its reference: VOUT_REF at VOUT_SLEW; a current or power over RAMP_TIME while the stage starts, then at once (log entry 33). -/
def State.convRef (s : State) (g t : Nat) : State :=
  let x := s.kern g
  let cmd := (s.command g t (0x502 + s.d 0x501 g)).1
  let n : Int := s.perTicks g
  let soft := x.phase == 8 || (x.phase == 10 && !s.inPhase g (s.d 0x027 g))
  let r :=
    if s.d 0x501 g = 0 then slew x.ref (400000 * cmd) (n * s.d 0x505 g)
    else if x.expired then s.nextRef g 0 0
    else if soft then slew x.ref (400000 * cmd) ((cmd.natAbs : Int) * n / max 1 (s.d 0x027 g : Int) + 1)
    else 400000 * cmd
  s.setKern g { x with ref := r }

/-- The limits of the inner reference: IOUT_LIM_NEG to IOUT_LIM_POS, P_LIM over vOUT and the current limit, all scaled by ILIM_PCT (R282). -/
def State.innerLimits (s : State) (g : Nat) : Int × Int :=
  let p := s.ilim g
  let i := s.limitI g
  let v := s.vOut g
  let w : Int := if v ≤ 0 then 8388607 else s.ds 0x508 g * p * 10000 / v
  (max (s.enS 24 0xD 0x507 g * p / 100) (max (-i) (-w)), min (s.enS 24 0xD 0x506 g * p / 100) (min i w))

/-- The reference of an EFT stage has the form of the source (R284). -/
def State.starAc (s : State) (g : Nat) : Bool := s.typ g == 8 && s.d 0x901 g == 0

/-- What the inner reference stands for in mA: of PFC_1P_IL, whose outer PI sets a conductance in µS (R275), its product with |vGRID|; of STAR_AC a
conductance times vSTAR, which the rule does not derive from the charging current: proportional to it by a free value (log entry 33). -/
def State.shaped (s : State) (g : Nat) (r : Int) : Int :=
  if s.typ g = 4 then r * (s.vIn g).natAbs / 1000000
  else if s.starAc g then r * s.within 42 0 16777215 / 65536 * s.vIn g / 1000000
  else r

/-- The inner reference (R267): of the voltage PI, whose gains are not stated; of IOUT_REF; or of P_REF over vOUT. In RAMPDOWN it falls to 0 over
half of RAMP_TIME; a setpoint timeout takes that of VOLTAGE mode to 0 over RAMP_TIME. The limits apply to the current that it stands for. -/
def State.innerRef (s : State) (g t : Nat) : State × Int :=
  let s := s.convRef g t
  let x := s.kern g
  let l := s.innerLimits g
  let n : Int := s.perTicks g
  let v := s.vOut g
  let wide := s.typ g == 4
  let o := s.piLoop g 40 x.spI (x.ref / 400000 - v) (if wide then -8388608 else l.1) (if wide then 8388607 else l.2)
  let volt := s.d 0x501 g == 0 && x.phase != 5 && !x.expired
  let want : Int :=
    if x.phase = 5 then x.left * s.rampPart g / 65536
    else if s.d 0x501 g = 0 then
      if x.expired then slew x.iqRef 0 ((x.left.natAbs : Int) * n / (400000 * max 1 (s.d 0x027 g : Int)) + 1) / 400000 else o.1
    else if s.d 0x501 g = 1 then x.ref / 400000
    else if v ≤ 0 then s.within 39 l.1 l.2
    else x.ref / 400000 * 1000000 / v
  let r := if wide then want else clampI l.1 l.2 want
  let i := s.shaped g r
  let i' := clampI l.1 l.2 i
  (s.setKern g { x with idRef := r, iqRef := 400000 * r, spI := if volt && i == i' then o.2 else x.spI
                        limited := want != r || i != i' || (volt && (r == l.1 || r == l.2)) }, i')

/-! ### Grid (R273, R274, R276) -/

/-- Lock holds or begins to hold; it is reached once it has held for 100 ms. -/
def State.gridLock (s : State) (g : Nat) (ok : Bool) : State :=
  let x := s.kern g
  s.setKern g { x with lockAt := if ok then some (x.lockAt.getD s.t48.toNat) else none }

/-- The grid is locked. -/
def State.locked (s : State) (g : Nat) : Bool := (s.kern g).lockAt.any (fun a => decide (40000000 ≤ s.since a))

/-- The grid voltage of PFC_3P in the stationary frame. -/
def State.gridVec (s : State) (g : Nat) : Int × Int :=
  let v := (s.kern g).volt
  ((2 * v.getD 0 0 + v.getD 1 0) / 3, v.getD 1 0 * 577350269 / 1000000000)

/-- The synchronous-frame PLL (R273): its frequency in mHz, for which the rule gives a bandwidth alone, is a free value; its angle turns with it, or in
a running stage without lock with the frequency held from before the loss (R274). It is locked while |vq| is at most 2 % of the voltage and the
frequency within its window. -/
def State.pll (s : State) (g : Nat) : State :=
  let x := s.kern g
  let v := s.gridVec g
  let m := vecLen v.1 v.2
  let q := (park v (x.ang / 2 ^ 16)).2
  let f : Nat := (s.fv 0).toNat
  let ok := decide (50 * (q.natAbs : Int) ≤ m) && decide (s.d 0x603 g ≤ f) && decide (f ≤ s.d 0x604 g)
  let lost := (x.phase == 8 || x.phase == 4) && (x.lostAt.isSome || !ok)
  let turn := if lost then x.heldF else f
  let s := s.setKern g { x with freq := f, heldF := if lost then x.heldF else f, vin := m * 1224745 / 1000000
                                ang := (x.ang + turn * s.perTicks g * 2 ^ 40 / 400000000000) % 2 ^ 40 }
  s.gridLock g ok

/-- The polarity of vGRID and its zero crossings (R276): each gives the frequency and the RMS of the half-cycle before it; locked while one comes
every half-cycle within the frequency window. -/
def State.zeroCross (s : State) (g : Nat) : State :=
  let v := s.vIn g
  let x := s.kern g
  let neg := if v = 0 then x.neg else decide (v < 0)
  let gap := (x.cross.map (fun a => s.since a)).getD 0
  let sq := x.sq + v * v
  let x : Kern := if neg = x.neg then { x with sq := sq, sqN := x.sqN + 1 }
    else { x with neg := neg, cross := some s.t48.toNat, freq := if gap = 0 then 0 else 200000000000 / gap, sq := 0, sqN := 0
                  vin := (isqrt (sq.toNat / (x.sqN + 1)) : Nat) }
  let ok := x.cross.any (fun a => decide (s.since a * s.d 0x603 g ≤ 200000000000)) && decide (s.d 0x603 g ≤ x.freq) && decide (x.freq ≤ s.d 0x604 g)
  (s.setKern g x).gridLock g ok

/-- A condition holds since a T48. -/
def State.heldSince (s : State) (old : Option Nat) (b : Bool) : Option Nat := if b then some (old.getD s.t48.toNat) else none

/-- A condition has held for longer than a number of ms. -/
def State.heldFor (s : State) (a : Option Nat) (ms : Nat) : Bool := a.any (fun a => decide (400000 * ms ≤ s.since a))

/-- The grid checks of a stage in RUN (R273, R274): lock lost, voltage and frequency, and GRID_WAIT for more than 2 s. A stage that has its lock
again starts from the measured vDC (R271). -/
def State.gridChecks (s : State) (g t : Nat) : State :=
  let x := s.kern g
  let v := s.heldSince x.badV (decide (x.vin < s.ds 0x601 g) || decide (s.ds 0x602 g < x.vin))
  let f := s.heldSince x.badF (decide (x.freq < s.d 0x603 g) || decide (s.d 0x604 g < x.freq))
  let runs := x.phase == 8 || x.phase == 4
  let l := s.heldSince x.lostAt (runs && !s.locked g)
  let bad := s.heldFor v 100 || s.heldFor f 100 || s.heldFor l (s.d 0x606 g) || (x.phase == 7 && s.inPhase g 2000)
  let s := s.setKern g { x with badV := if bad then none else v, badF := if bad then none else f, lostAt := if bad then none else l }
  s.kFault t 0x12 bad

/-! ### Start and stop (R271, R285) -/

/-- SOFTSTART: the reference starts from the measured vOUT, or from 0; the first switching set is prebiased. -/
def State.softStart (s : State) (g : Nat) : State :=
  (s.setKern g { s.kern g with ref := if s.d 0x501 g = 0 then 400000 * s.vOut g else 0, started := false, spI := 0, legI := [] }).toPhase g 8

/-- All the legs or phases of a stage. -/
def State.allLegs (s : State) (g : Nat) : Nat := if s.typ g = 4 then s.d 0x610 g else (s.stageGens g).length

/-- The phase that follows the stage's state: IDLE in ARMED, the first of the start-up in RUN, RAMPDOWN. -/
def State.convPhase (s : State) (g : Nat) : State :=
  let x := s.kern g
  match (s.stg g).st with
  | .armed => s.setKern g { x with phase := 0, started := false }
  | .run =>
    if x.phase ≠ 0 then s
    else
      let typ := s.typ g
      let x : Kern := { x with ref := 0, expired := false, setAt := s.t48.toNat, iqRef := 0, idRef := 0, rampDone := false, quiet := 0, started := false
                               legs := s.allLegs g, legsAt := s.t48.toNat, zcRamp := if typ = 7 then 8 else 0, trim := 0, bias := 0, change := none
                               lostAt := none, badV := if typ = 8 then x.badV else none, badF := none, spI := 0, legI := [], refs := []
                               tPk := 0, dPk := 0 }
      let s := s.setKern g x
      if typ = 3 ∨ typ = 4 then s.toPhase g 7 else if typ = 8 then s.toPhase g 9 else s.softStart g
  | .rampdown => if x.phase = 5 then s else (s.setKern g { x with left := x.idRef, rampDone := false, quiet := 0 }).toPhase g 5
  | _ => s

/-- What ends a phase: lock ends GRID_WAIT, or the hold of a stage that lost it; the reference reaching its command ends SOFTSTART; 16 periods end
STILL_CHECK. -/
def State.convPhaseEnd (s : State) (g t : Nat) : State :=
  let x := s.kern g
  match x.phase with
  | 7 => if s.locked g then s.softStart g else s
  | 8 => if x.ref = 400000 * (s.command g t (0x502 + s.d 0x501 g)).1 ∧ x.started then s.toPhase g 4 else s
  | 9 => if 16 ≤ x.hold + 1 then (s.setKern g { x with ref := 0, started := false }).toPhase g 10
         else s.setKern g { x with hold := x.hold + 1 }
  | _ => s

/-- A stage whose lock returned after a short loss enters SOFTSTART again. -/
def State.relock (s : State) (g : Nat) (was : Bool) : State :=
  if was && (s.kern g).lostAt.isNone && ((s.kern g).phase == 8 || (s.kern g).phase == 4) then s.softStart g else s

/-! ### Compares (R108, R109, R248, R275, R282) -/

/-- NEVER. -/
def neverI : Int := 0xFFFFFF

/-- The pulse of R248 for a duty in 1/65536, shifted within the period of `e` fine steps (R275). -/
def legPulse (e sk d : Int) : Int × Int :=
  let a := cmpaOf e d
  if d ≤ 0 then (neverI, neverI) else if 65536 ≤ d ∨ a = 0 then (0, neverI) else ((a + sk) % e, (e - a + sk) % e)

/-- The shift of leg k of n: round(k × E / n). -/
def legShift (e : Int) (k n : Nat) : Int := (2 * k * e + n) / (2 * max 1 (n : Int))

/-- Compares of several slots. -/
def withPulses (l : List (Nat × (Int × Int))) (x : ClSet) : ClSet := l.foldl (fun x q => setPulse q.1 q.2.1 q.2.2 x) x

/-- CMPC and CMPD of a cluster's slots: their INIT codes, scaled to the period that is committed. -/
def State.samples (s : State) (c p : Nat) (x : ClSet) : ClSet :=
  let code (e i : Nat) : Word :=
    let v := s.en 4 e (4 * c + i)
    if v = 0xFFFFFF then 0xFFFFFF else BitVec.ofNat 24 (v * p / max 1 (s.en 4 0x030 c))
  { x with g := x.g.mapIdx (fun i y => { y with cmpc := code 0x016 i, cmpd := code 0x017 i }) }

/-- A set of compares, samples and period. -/
def State.pulseSet (s : State) (c p : Nat) (l : List (Nat × (Int × Int))) (x : ClSet) : ClSet := withPulses l (s.samples c p (setPeriod p x))

/-- A value in 1/65536 of `b`, limited to [0, 1]; without a voltage it is free. -/
def State.ratio (s : State) (i : Nat) (a b : Int) : Int := if b ≤ 0 then s.within i 0 65536 else clampI 0 65536 (65536 * a / b)

/-- The current PIs of a number of loops, from their references and their currents, within ± `m`: the corrections. In the first switching set, which is
prebiased, there is none (R271). -/
def State.loops (s : State) (g i : Nat) (refs cur : List Int) (m : Int) : State × List Int :=
  let x := s.kern g
  let o := (List.range refs.length).map (fun k => s.piLoop g (i + 2 * k) (x.leg k) (refs.getD k 0 - cur.getD k 0) (-m) m)
  if x.started then (s.setKern g { x with refs := refs, legI := o.map Prod.snd }, o.map Prod.fst)
  else (s.setKern g { x with refs := refs }, refs.map (fun _ => 0))

/-- Legs are dropped and added (R275, R281), at most once per 10 ms: `add4` is four times the current per leg above which one is added, `drop` that
below which one is dropped; 0 disables it. -/
def State.shedLegs (s : State) (g least : Nat) (add4 drop : Int) : State :=
  let x := s.kern g
  let n := x.legs
  let total : Int := (sumOf x.cur).natAbs
  let go := fun (k : Nat) => s.setKern g { x with legs := k, legsAt := s.t48.toNat }
  if add4 = 0 ∨ s.since x.legsAt < 4000000 then s
  else if n < s.allLegs g ∧ add4 * n < 4 * total then go (n + 1)
  else if max 1 least < n ∧ total < drop * ((n : Int) - 1) then go (n - 1)
  else s

/-! ### PFC_3P and PFC_1P_IL -/

/-- A switching set of PFC3_CTRL (R273): the d reference is the inner one, q is Q_IREF; the voltage is the grid's, corrected by the current PIs; every
compare goes with the period that is committed (R282). -/
def State.pfc3Set (s : State) (g p : Nat) (inner : Int) : State :=
  let x := s.kern g
  let a := x.ang / 2 ^ 16
  let l := limitDq (s.limitI g) (inner, s.enS 24 0xD 0x605 g)
  let s := s.setKern g { x with limited := x.limited || l.2 }
  let i := park (clarke (x.cur.getD 0 0) (x.cur.getD 1 0) (x.cur.getD 2 0)) a
  let v := park (s.gridVec g) a
  let r := s.loops g 5 [l.1.1, l.1.2] [i.1, i.2] (max 0 (s.vOut g))
  let s := r.1
  let duty := s.modulate (s.vOut g) (v.1 + r.2.getD 0 0, v.2 + r.2.getD 1 0) a
  let e : Int := 32 * p
  let first := s.lowFirst g
  let pulse (k : Nat) : Int × Int := let c := max first (cmpaOf e (duty.getD k 0)); (c, e - c)
  let s := s.kCommit (s.mainCl g) (s.pulseSet (s.mainCl g) p [(0, pulse 0), (1, pulse 1), (2, pulse 2)])
  let s := s.addLoss g x.cur duty
  s.setKern g { s.kern g with ctrl := 128 * duty.getD 0 0 }

/-- A switching set of PFC1_CTRL (R275, R276): page 6 within ZC_BAND, after which the references rise over ZC_RAMP periods. What a leg that is dropped
is given the rule does not say: its compares are free values. -/
def State.pfc1Set (s : State) (g p : Nat) (inner : Int) : State :=
  let s := s.shedLegs g (s.d 0x613 g) (5 * s.ds 0x614 g) (s.ds 0x614 g)
  let x := s.kern g
  let v := s.vIn g
  let e : Int := 32 * p
  let n := s.d 0x610 g
  let inBand := decide ((v.natAbs : Int) < s.ds 0x611 g)
  let z := s.d 0x612 g
  let per := inner / max 1 (x.legs : Int)
  let per := if z = 0 ∨ z ≤ x.zcRamp then per else per * x.zcRamp / z
  let r := s.loops g 2 (List.replicate x.legs (if inBand then 0 else per)) (x.cur.map (fun i => if x.neg then -i else i)) 65536
  let s := r.1
  let h := s.ratio 1 v.natAbs (s.vOut g)
  let d := if x.neg then 65536 - h else h
  let duty := (List.range n).map (fun k => clampI 0 65536 (d + r.2.getD k 0))
  let pulses := (List.range n).map (fun k =>
    (k, if k < x.legs then legPulse e (legShift e k x.legs) (duty.getD k 0) else (((s.fv (44 + 2 * k)).toNat : Int), ((s.fv (45 + 2 * k)).toNat : Int))))
  let slow : Int × Int := if x.neg then (0, neverI) else (neverI, neverI)
  let s := s.kCommit (s.mainCl g) (fun y =>
    let y := s.pulseSet (s.mainCl g) p (pulses ++ [(3, slow)]) y
    if inBand then onPage 6 y else y)
  let s := if inBand then s.addIdle g else s.addLoss g x.cur duty
  s.setKern g { s.kern g with ctrl := 128 * d, zcRamp := if inBand then 0 else min z ((s.kern g).zcRamp + 1) }

/-! ### DAB -/

/-- φ in Q1.23 of a half turn (R277): the inverse of the power relation at the inner reference, plus the inner PI's output; within ± PHI_MAX. Where
the relation has no solution it is 90°, and without a voltage it is free. -/
def State.dabPhi (s : State) (g p : Nat) (inner pi : Int) : Int :=
  let m : Int := (s.d 0x702 g : Int) * 8388608 / 18000
  let b := (p : Int) * s.d 0x700 g * s.vIn g
  let k : Int := 8000 * inner * s.d 0x701 g * 8388608 / b
  let r : Int := if (4 * k.natAbs : Int) ≥ 8388608 then 4194304 else (8388608 - (isqrt (70368744177664 - 33554432 * k.natAbs) : Nat)) / 2
  let ff := if b ≤ 0 then s.within 1 (-m) m else if k < 0 then -r else r
  clampI (-m) m (ff + pi)

/-- A switching set of DAB_CTRL (R277, R278): the bias of the two records trims CMPB of slot 0, within ± BIAS_TRIM_MAX, toward 0; 16 periods above DAB_BIAS_MAX are DAB_DC_BIAS. The first set has φ = 0 and slot 0 high in [0, E/4). -/
def State.dabSet (s : State) (g t p : Nat) (inner : Int) : State :=
  let x := s.kern g
  let e : Int := 32 * p
  let bias := (x.cur.getD 0 0 + x.cur.getD 2 0) / 2
  let n := countIf (decide (s.ds 0x703 g < bias.natAbs)) x.bias
  let m : Int := s.d 0x704 g
  let r := s.loops g 2 [inner] [x.cur.getD 1 0] ((s.d 0x702 g : Int) * 8388608 / 18000)
  let s := r.1
  let phi := if x.started then s.dabPhi g p inner (r.2.getD 0 0) else 0
  let tr := s.piLoop g 4 x.trim (-bias) (-m) m
  let trim := if x.started then tr.1 else 0
  let x := s.kern g
  let s := (s.setKern g { x with bias := n, trim := if x.started then tr.2 else 0, ctrl := phi }).kFault t 0x13 (n == 16)
  let sh := (e * phi + 8388608) / 16777216
  let c := s.mainCl g
  let s := s.kCommit c (fun y =>
    let y := s.pulseSet c p [(0, (0, if x.started then e / 2 + trim else e / 4)), (1, (e / 2, neverI)),
      (2, (sh % e, (sh + e / 2) % e)), (3, ((sh + e / 2) % e, sh % e))] y
    { y with g := y.g.mapIdx (fun i z => if i = 0 then { z with cmpd := z.cmpc + BitVec.ofNat 24 (16 * p) } else z) })
  let i := x.cur.getD 0 0
  s.addLoss g [i, i, i] [32768, 32768, 32768]

/-! ### PSFB -/

/-- The rectifier's pulse (R280). -/
def State.srPulse (s : State) (g : Nat) (e : Int) : Int × Int := (s.d 0x713 g, e / 2 - s.d 0x714 g)

/-- A reload number at or after one. -/
def atOrAfter (a b : Word) : Bool := decide ((a - b).toNat < 2 ^ 23)

/-- The slave cluster of a rectifier (R280), committed before the master: page 7 from a change of the period until LASTAPP of both clusters shows an
application after it. -/
def State.psfbSlave (s : State) (g p : Nat) : State :=
  match s.stageCls g with
  | [m, c] =>
    if s.d 0x710 g ≠ 2 then s
    else
      let x := s.kern g
      let changes := (s.cl m).pending.period.toNat != p
      let next := fun (k : Nat) => (s.cl k).rldnum + 1
      let ch := if changes then some (next m, next c)
        else x.change.filter (fun q => !(atOrAfter (s.cl m).lastapp q.1 && atOrAfter (s.cl c).lastapp q.2))
      let s := s.setKern g { x with change := ch, skew := if changes then min 65535 (x.skew + 1) else x.skew }
      s.kCommit c (fun y => let y := s.pulseSet c p [(0, s.srPulse g (32 * p))] y; if ch.isSome then onPage 7 y else y)
  | _ => s

/-- A switching set of PSFB_CTRL (R279, R280): D comes from the inner PI, up to D_MAX; δ = round((1 − D) × E / 2). The first is prebiased: D is
vOUT / vIN over the transformer (R271). -/
def State.psfbSet (s : State) (g p : Nat) (inner : Int) : State :=
  let e : Int := 32 * p
  let x := s.kern g
  let top : Int := 65536 * (s.d 0x711 g : Int) / 100
  let o := s.piLoop g 2 (x.leg 0) (inner - x.cur.getD 1 0) 0 top
  let d := if x.started then o.1 else min top (s.ratio 1 (s.vOut g * (Config.turns g : Nat)) (65536 * s.vIn g))
  let s := s.setKern g { x with refs := [inner], legI := [if x.started then o.2 else d] }
  let dl := ((65536 - d) * e + 65536) / 131072
  let sr := if s.d 0x710 g = 1 then [(2, s.srPulse g e)] else []
  let c := s.mainCl g
  let s := s.psfbSlave g p
  let s := s.kCommit c (s.pulseSet c p ([(0, ((0 : Int), e / 2)), (1, ((e / 2 + dl) % e, dl % e))] ++ sr))
  let x := s.kern g
  let i := x.cur.getD 0 0
  (s.setKern g { x with ctrl := dl * 16777216 / max 1 e }).addLoss g [i, i, x.cur.getD 1 0] [32768, 32768, 32768]

/-! ### BUCK_MP -/

/-- A switching set of BUCK_CTRL (R281): in every held cluster the page of its active slots. Each phase's reference is the total over Non; a restored
phase starts at vOUT / vIN, and its reference rises from 0 over 8 periods. -/
def State.buckSet (s : State) (g p : Nat) (inner : Int) : State :=
  let was := (s.kern g).legs
  let s := s.shedLegs g (s.d 0x722 g) (4 * s.ds 0x720 g) (s.ds 0x721 g)
  let fresh := decide (was < (s.kern g).legs)
  let s := if fresh then s.setKern g { s.kern g with zcRamp := 0, legI := (s.kern g).legI.take was } else s
  let x := s.kern g
  let e : Int := 32 * p
  let gens := s.stageGens g
  let per := inner / max 1 (x.legs : Int)
  let r := s.loops g 2 ((List.range x.legs).map (fun k => if k + 1 = x.legs then per * x.zcRamp / 8 else per)) x.cur 65536
  let s := r.1
  let d := s.ratio 1 (s.vOut g) (s.vIn g)
  let duty := (List.range x.legs).map (fun k => if fresh ∧ k + 1 = x.legs then d else clampI 0 65536 (d + r.2.getD k 0))
  let pulse (k : Nat) : Int × Int := legPulse e (legShift e k x.legs) (duty.getD k 0)
  let s := (s.stageCls g).reverse.foldl (fun s c =>
    let held := (gens.zipIdx).filter (fun q => q.1 / 4 == c && decide (q.2 < x.legs))
    s.kCommit c (fun y => onPage (if held.isEmpty then 7 else held.length - 1) (s.pulseSet c p (held.map (fun q => (q.1 % 4, pulse q.2))) y))) s
  (s.setKern g { s.kern g with ctrl := 128 * d, zcRamp := min 8 (x.zcRamp + 1) }).addLoss g x.cur duty

/-! ### EFT (R283 to R287) -/

/-- The QE interface of the base stage. -/
def State.eftQe (s : State) (g : Nat) : Nat := s.d 0x003 (s.owner g)

/-- Differential current and torque estimate (R286): 1.5 × POLE_PAIRS × (PSI × iq + (LD − LQ) × id × iq) at the QE's electrical angle. -/
def State.eftEst (s : State) (g : Nat) (cur : List Int) : Int × Int :=
  let o := s.owner g
  let ab := clarke (cur.getD 0 0) (cur.getD 1 0) (cur.getD 2 0)
  let dq := park ab ((s.qeElec o (s.eftQe g) + s.d 0x106 o) % 2 ^ 24)
  (vecLen ab.1 ab.2, s.torqueOf o dq.1 dq.2)

/-- The rotor has moved (R287). -/
def State.rotorMoved (s : State) (g : Nat) : Bool :=
  let q := s.qe (s.eftQe g)
  decide (s.d 0x904 g < (s.rotDev g).natAbs) || (!q.still && q.valid)

/-- The counts of R287: torque and differential current. -/
def State.eftCounts (s : State) (g : Nat) (e : Int × Int) (n : Nat × Nat) : Nat × Nat :=
  (countIf (decide (s.ds 0x905 g < e.2.natAbs)) n.1, countIf (decide (s.ds 0x907 g < e.1)) n.2)

/-- The faults of R287 that both tasks raise. -/
def State.eftFaults (s : State) (g t : Nat) (n : Nat × Nat) : State :=
  ((s.kFault t 0x15 (s.rotorMoved g)).kFault t 0x16 (n.1 == s.d 0x906 g)).kFault t 0x17 (n.2 == s.d 0x908 g)

/-- EFT_CTRL's own checks and peaks (R286, R287), and vSTAR as RUN and R285 see it: for STAR_AC the peak of 25 ms. -/
def State.eftChecks (s : State) (g t : Nat) : State :=
  let x := s.kern g
  let v := s.vIn g
  let e := s.eftEst g x.cur
  let n := s.eftCounts g e (x.tN, x.dN)
  let full := s.heldFor x.lockAt 25 || x.lockAt.isNone
  let x : Kern := if s.d 0x901 g = 1 then { x with vin := v }
    else if full then { x with vin := max x.sq v, sq := v, lockAt := some s.t48.toNat } else { x with vin := max x.vin v, sq := max x.sq v }
  let out := s.heldSince x.badV (decide (v < s.ds 0x90A g) || decide (s.ds 0x90B g < v))
  let lost := s.heldFor out 25
  let ch := x.phase == 10
  let s := s.setKern g { x with tN := n.1, dN := n.2, badV := if lost then none else out
                                tPk := if ch then max x.tPk e.2.natAbs else x.tPk, dPk := if ch then max x.dPk e.1 else x.dPk }
  (s.eftFaults g t n).kFault t 0x19 lost

/-- A switching set of EFT_CTRL (R286): the common PI brings i0 to i* / 3 and corrects the low-side duty 1 − vSTAR / vLINK; the differential PIs bring
iα and iβ to 0, and their outputs go back to the legs; interleaved for Non = 3. -/
def State.eftSet (s : State) (g p : Nat) (inner : Int) : State :=
  let e : Int := 32 * p
  let x := s.kern g
  let ab := clarke (x.cur.getD 0 0) (x.cur.getD 1 0) (x.cur.getD 2 0)
  let r := s.loops g 2 [inner / 3, 0, 0] [sumOf x.cur / 3, ab.1, ab.2] 65536
  let s := r.1
  let d := s.ratio 1 (s.vIn g) (s.vOut g)
  let diff := phases (r.2.getD 1 0, r.2.getD 2 0)
  let duty := (List.range 3).map (fun k => 65536 - clampI 0 65536 (65536 - d + r.2.getD 0 0 + diff.getD k 0))
  let c := s.mainCl g
  let s := s.kCommit c (s.pulseSet c p ((List.range 3).map (fun k => (k, legPulse e (legShift e k 3) (duty.getD k 0)))))
  (s.setKern g { s.kern g with ctrl := 128 * d }).addLoss g (s.kern g).cur duty

/-! ### One activation of a main kernel -/

/-- The output current, or where none is measured all the currents, below 2 % of I_LIM (R271). -/
def State.convQuiet (s : State) (g : Nat) : Bool :=
  let c := (s.kern g).cur
  let l := match s.typ g with
    | 3 | 4 => c
    | 5 | 6 => [c.getD 1 0]
    | _ => [sumOf c]
  l.all (fun v => decide (50 * (v.natAbs : Int) < s.enS 24 0xD 0x022 g))

/-- The status words of a conversion stage (R264, R290): D.540 to D.549. A current that the stage does not measure is a free value. -/
def State.convWords (s : State) (g t p : Nat) (switching : Bool) : State :=
  let x := s.kern g
  let typ := s.typ g
  let vo := s.vOut g
  let free := (s.fv 30).toInt
  let c0 := x.cur.getD 0 0
  let c1 := x.cur.getD 1 0
  let tot := sumOf x.cur
  let ab := clarke c0 c1 (x.cur.getD 2 0)
  let gv := s.gridVec g
  let vi := if typ = 3 ∨ typ = 4 then x.vin else s.vIn g
  let iin := match typ with
    | 3 => vecLen ab.1 ab.2
    | 5 | 6 => c0
    | 7 => free
    | _ => tot
  let iout := match typ with
    | 5 | 6 => c1
    | 7 => tot
    | _ => (s.fv 31).toInt
  let w := match typ with
    | 3 => 3 * (gv.1 * ab.1 + gv.2 * ab.2) / 2000000
    | 4 | 8 => s.vIn g * tot / 1000000
    | _ => vo * iout / 1000000
  let band := typ == 4 && decide (((s.vIn g).natAbs : Int) < s.ds 0x611 g)
  let lock := (typ == 3 || typ == 4) && s.locked g
  s.setStateWords t [vi, vo, iin, iout, w, ((400000000 / max 1 p : Nat) : Int), x.ctrl,
    (b2n x.ofsDone + 2 * b2n x.limited + 4 * b2n x.rampDone + 8 * b2n lock + 16 * b2n band : Nat),
    (if typ = 3 ∨ typ = 4 then (min 8388607 x.freq : Nat) else 0 : Int),
    (if switching then (if typ = 4 ∨ typ = 7 then x.legs else (s.stageGens g).length) else 0 : Nat)]

/-- One activation of a conversion or Eft main kernel. -/
def State.convAct (s : State) (g t : Nat) : State :=
  match s.convBegin g t with
  | none => s
  | some s =>
    let typ := s.typ g
    let s := s.convPhase g
    let was := (s.kern g).lostAt.isSome
    let s := if typ = 3 then s.pll g else if typ = 4 then s.zeroCross g else if typ = 8 then s.eftChecks g t else s
    let s := if (typ = 3 ∨ typ = 4) ∧ (s.stg g).st = .run then (s.gridChecks g t).relock g was else s
    let x := s.kern g
    let switching := (x.phase == 8 || x.phase == 4 || x.phase == 10 || (x.phase == 5 && x.started && !x.rampDone))
      && !((typ == 3 || typ == 4) && !s.locked g)
    let p := s.kPeriod g (x.phase == (if typ = 8 then 10 else 4))
    let s :=
      if switching then
        let r := s.innerRef g t
        let s := match typ with
          | 3 => r.1.pfc3Set g p r.2
          | 4 => r.1.pfc1Set g p r.2
          | 5 => r.1.dabSet g t p r.2
          | 6 => r.1.psfbSet g p r.2
          | 7 => r.1.buckSet g p r.2
          | _ => r.1.eftSet g p r.2
        s.setKern g { s.kern g with started := true }
      else (s.pageOff g).addIdle g
    let s := if (s.stg g).st = .rampdown then s.rampQuiet g (s.convQuiet g) else s.convPhaseEnd g t
    ((s.convWords g t p switching).postRoles g t).usedFree

/-! ### CONV_GUARD and EFT_GUARD (R272, R287) -/

/-- One activation of the guard of a conversion or Eft stage, on its own copies of the records; in STILL_CHECK the position has to equal EFT_POS0 (R285). -/
def State.convGuard (s : State) (g t : Nat) : State :=
  let dab := s.typ g == 5
  if (s.hasRec t 0 && s.hasRec t 2 && (!dab || s.hasRec t 3)) = false then s
  else
    let a := (s.takeRec t 1).1.takeRec t 0
    let b := a.1.takeRec t 2
    let c := if dab then b.1.takeRec t 3 else (b.1, none)
    let i := a.2.getD []
    let v := b.2.getD []
    let s := c.1
    let cur := (s.kern g).offset (s.convCur g i (c.2.getD []))
    let s := s.checkGuard g t cur (some (s.convBus g t [(0, i), (2, v)]))
    let x := s.guard g
    let n := overUnder s g ((recVals v (s.ds 0x500 g)).getD (if s.typ g = 3 then 2 else 1) 0) (x.above, x.below)
    let s := ((s.setGuard g { x with above := n.1, below := n.2 }).kFault t 0x10 (n.1 == 2)).kFault t 0x11 (n.2 == 8)
    if s.typ g ≠ 8 then s
    else
      let x := s.guard g
      let n := s.eftCounts g (s.eftEst g cur) (x.tN, x.dN)
      let q := s.qe (s.eftQe g)
      let s := s.setGuard g { x with tN := n.1, dN := n.2, pos := q.faultN }
      let s := s.kFault t 0x15 ((s.kern g).phase == 9 && s.rotDev g != 0)
      (s.eftFaults g t n).kFault t 0x18 (q.suspect || !q.on || decide (x.pos < q.faultN))

/-! ### Contactors that open once the current allows it (R270, R285) -/

/-- The newest record of input i. -/
def State.newest (s : State) (t i : Nat) : Option (List Word) :=
  ((s.inBox t i).map s.mb).bind (fun x => if x.pending then some x.back else if x.valid then some x.front else none)

/-- The currents of a stage as last measured: of a record that its main task has not read, else those it took last. -/
def State.stageAmps (s : State) (g : Nat) : List Int :=
  let x := s.kern g
  match s.newest (s.d 0x004 g) 0 with
  | none => x.cur
  | some l =>
    x.offset (match s.typ g with
      | 1 => s.phaseCur g (recVals l (s.ds 0x048 g))
      | 2 => [(recVals l (s.ds 0x048 g)).getD 0 0]
      | _ => s.convCur g l ((s.newest (s.d 0x004 g) 3).getD []))

/-- The measured current, for an EFT stage that of the star point, is below CT_OPEN_I. -/
def State.ctLow (s : State) (g : Nat) : Bool :=
  let l := if s.typ g = 8 then [sumOf (s.stageAmps g)] else s.stageAmps g
  l.all (fun i => decide ((i.natAbs : Int) < s.ds 0x556 g))

/-- CONTACTOR_OPEN (R270): a contactor that is to open does, in its order; after a halt once the reaction is complete. MAIN_CT and STAR_CT, and every
contactor of a halted stage, wait until the current is below CT_OPEN_I, for at most 50 ms. -/
def doContactorOpen (st : Fin 12) (k : Fin 8) (s : State) : State :=
  let g := st.val
  let x := s.stg g
  let halted := x.st == .halted
  let first := ((s.ctOf g).takeWhile (fun c => c != k.val)).all (fun c => !x.opening.getLsbD c)
  let done := !halted || (s.stageGens g).all (fun n => !s.flt.unconf.contains n)
  let waits := halted || s.dc 0xD 0x000 g == 8 || s.dc 0xD 0x551 g == k.val
  if x.opening.getLsbD k ∧ first ∧ done ∧ (waits = false ∨ s.ctLow g ∨ 20000000 ≤ s.since x.openAt) then
    (s.setCt k false).setStg g { x with opening := x.opening &&& ~~~(1#8 <<< k.val) }
  else s

/-! ### The kernels -/

/-- The measurement records of a vendor kernel's activation have arrived (R244, R266); those of the other kernels wait for none. -/
def State.kernelHas (s : State) (t : Nat) : Bool :=
  match s.dc 2 0x010 t with
  | 0x110 | 0x112 | 0x113 | 0x120 => s.hasRec t 0
  | 0x130 | 0x131 | 0x132 | 0x133 | 0x134 | 0x135 | 0x136 | 0x137 =>
    s.hasRec t 0 && s.hasRec t 2 && (s.typ (s.dc 2 0x012 t) != 5 || s.hasRec t 3)
  | _ => true

/-- The computation of an activation of a vendor kernel in its role (R233, R247, R264): of a task of a stage that is armed. -/
def State.kernelRun (s : State) (t : Nat) : State :=
  let g := s.dc 2 0x012 t
  let id := s.dc 2 0x010 t
  if 12 ≤ g ∨ s.declared g = false ∨ (s.task t).placed = false then s
  else if (s.stg g).st ≠ .armed ∧ (s.stg g).st ≠ .run ∧ (s.stg g).st ≠ .rampdown then s
  else if s.d 0x004 g = t then
    match id with
    | 0x110 => s.focAct g t
    | 0x113 => s.sixAct g t
    | 0x130 | 0x131 | 0x132 | 0x133 | 0x134 | 0x135 => s.convAct g t
    | _ => s
  else if s.d 0x005 g = t then (if id = 0x111 then s.speedAct g t else s)
  else if s.d 0x006 g = t then
    (if id = 0x112 then s.motorGuard g t else if id = 0x136 ∨ id = 0x137 then s.convGuard g t else s)
  else if s.d 0x007 g = t then (if id = 0x121 then s.profAct g t else s)
  else if s.dc 2 0x070 g = 1 ∧ s.dc 2 0x071 g = t ∧ id = 0x120 then s.tjAct g t
  else s

end Sys2Proof.Machine
end

