-- ==== Sys2Proof/Machine/Engine.lean ====
section
/-! DEFINITION. The loop engines (02_loop_engines.md): how an instruction issues (R39, R55), what its address does to the program
counter (R50, R51), how an activation ends (R54, R59), loads and stores (R48, R49, R61), and the meaning of every instruction of R41. A
command is an instruction that the engine executes now: where the task must still wait (an outstanding load of an operand, four loads
outstanding, a full store buffer, a fence), it is stalled and nothing changes. -/

namespace Sys2Proof.Machine

/-! ### Contexts -/

/-- Cycles are charged to the activation (R55, R57): CYC rises and the budget timer falls to 0 at the lowest. -/
def Ctx.charge (x : Ctx) (n : Nat) : Ctx :=
  { x with cyc := x.cyc + BitVec.ofNat 24 n, budget := BitVec.ofNat 24 (x.budget.toNat - n) }

/-- The activation in context `k` holds engine `e` for `n` cycles. -/
def State.spend (s : State) (e k n : Nat) : State :=
  (s.setEng e { s.eng e with held := (s.eng e).held + n }).setCtx k ((s.ctx k).charge n)

/-- A word register. -/
def Ctx.r (x : Ctx) (i : Fin 16) : Word := x.w[i]

/-- A word register takes a result that is ready `late` cycles after the next issue (R55). -/
def Ctx.setW (x : Ctx) (i : Fin 16) (v : Word) (late : Nat) : Ctx :=
  { x with w := x.w.set i.val v i.isLt, rdy := x.rdy.set i.val (x.cyc.toNat + late) i.isLt }

/-- An accumulator takes a result; `late` for RND, ACX, ACSH and the other accumulator's ACADD (R55). -/
def Ctx.setAc (x : Ctx) (a : Fin 2) (v : BitVec 56 × Bool) (late : Nat) : Ctx :=
  { x with ac := x.ac.set a.val v.1 a.isLt, acv := x.acv || v.2, acRdy := x.acRdy.set a.val (x.cyc.toNat + late) a.isLt }

/-- SR.SAT is set where an operation saturated (R35). -/
def Ctx.orSat (x : Ctx) (b : Bool) : Ctx := { x with sat := x.sat || b }

/-- The condition of R39. -/
def Ctx.holds (x : Ctx) (c : BitVec 4) : Bool :=
  if c = 0 then true else x.f.getD (c.toNat % 4) false == decide (c.toNat < 12)

/-- A reserved COND (R39). -/
def condBad (c : BitVec 4) : Bool := c != 0 && decide (c.toNat < 8)

/-- SR as MFS reads it (R34). -/
def Ctx.sr (x : Ctx) : Nat :=
  b2n x.sat + 2 * b2n x.acv + 4 * b2n x.csat + 256 * b2n (decide (1 ≤ x.loops)) + 512 * b2n (decide (2 ≤ x.loops)) + 1024 * x.stack.length

/-- The four predicate flags as bits. -/
def Ctx.flags (x : Ctx) : Nat := (bits 4 x.f.toList).toNat

/-- The end of a loop body (R51): the innermost loop that ends at `ending` goes back to its start, or ends. Loops 0 to n - 1 are
examined from the innermost. -/
def Ctx.loopBack (ending : Nat) : Nat → Ctx → Nat → Ctx × Nat
  | 0, x, next => (x, next)
  | i + 1, x, next =>
    if (x.loopEnd.getD i 0).toNat = ending then
      let c := x.lc.getD i 0 - 1
      let y := { x with lc := x.lc.setIfInBounds i c }
      if c ≠ 0 then ({ y with loops := i + 1 }, (x.loopStart.getD i 0).toNat)
      else Ctx.loopBack ending i { y with loops := i } next
    else Ctx.loopBack ending i x next

/-- A taken branch to a target outside an active loop's body ends that loop and those nested in it (R51). -/
def Ctx.leave (x : Ctx) (target : Nat) : Ctx :=
  let out (i : Nat) : Bool := decide (target < (x.loopStart.getD i 0).toNat) || decide ((x.loopEnd.getD i 0).toNat < target)
  if 1 ≤ x.loops ∧ out 0 then { x with loops := 0 }
  else if 2 ≤ x.loops ∧ out 1 then { x with loops := 1 }
  else x

/-- An active loop ends at an address. -/
def Ctx.endsAt (x : Ctx) (a : Nat) : Bool := (List.range x.loops).any (fun i => (x.loopEnd.getD i 0).toNat == a)

/-! ### The end of an activation -/

/-- The pending subscriptions of a task on engine `e` (R52): in a shadow, those of the target. -/
def State.pendOn (s : State) (t e : Nat) : BitVec 16 :=
  match (s.task t).mig with
  | some m => if s.isShadow t e then m.pend else (s.task t).pend
  | none => (s.task t).pend

/-- They change. -/
def State.setPend (s : State) (t e : Nat) (v : BitVec 16) : State :=
  let x := s.task t
  match x.mig with
  | some m => if s.isShadow t e then s.setTask t { x with mig := some { m with pend := v } } else s.setTask t { x with pend := v }
  | none => s.setTask t { x with pend := v }

/-- The activation aborts (R59): counted on the engine, reported with the task as instance; an OPTIMISE or BACKGROUND task is shed
after three in a row; after MEM_ECC (cause 8) code and state are to be loaded again. An abort in a shadow abandons the migration and raises
nothing else (R88, R89); the cycles of the activation count for TASK_CYC_MAX (R100). -/
def State.abortAct (s : State) (t e k cause : Nat) : State :=
  let s := s.setCtx k { s.ctx k with active := false, sleep := none }
  let s := (s.bump (mkKey 3 0x013 e) 65535).put 3 0x014 e cause
  if s.isShadow t e then s.abortMig t false
  else
    let s := (s.report (0x010000 + 256 * t + cause)).abortMig t false
    let s := s.put 2 0x035 t (max (s.en 2 0x035 t) (s.ctx k).cyc.toNat)
    let x := s.task t
    let s := s.setTask t { x with aborts := x.aborts + 1, reload := x.reload || cause == 8 }
    if s.dc 2 0x011 t ≤ 1 then s else if 3 ≤ x.aborts + 1 then s.shedTask t false else s

/-- The shortest of the measured gaps from YIELD to release is long enough for the copy (R88): 2 ticks a word and 2 µs. -/
def gapFits (gaps : List Nat) (words : Nat) : Bool := !gaps.isEmpty && gaps.all (fun g => decide (2 * words + 800 ≤ g))

/-- YIELD ends the activation (R33, R54): the largest cycle count is kept (2.035). After it a copy of R88 or R90 may start, and a
shadow's verdict may be due. -/
def State.endAct (s : State) (t e k : Nat) : State :=
  let cyc := (s.ctx k).cyc.toNat
  let s := s.setCtx k { s.ctx k with active := false }
  let x := s.task t
  if s.isShadow t e then
    match x.mig with
    | some m => (s.setTask t { x with mig := some { m with yieldB := true } }).migVerdict t
    | none => s
  else
    let s := s.put 2 0x035 t (max (s.en 2 0x035 t) cyc)
    let x := { x with aborts := 0, yieldAt := some s.t48.toNat }
    match x.mig with
    | none => s.setTask t x
    | some m =>
      if m.shadow then (s.setTask t { x with mig := some { m with yieldA := true } }).migVerdict t
      else if m.loaded && !m.copying && !m.copied && (m.shadowless || (m.seen && gapFits x.gaps x.stateLen)) then
        s.setTask t { x with mig := some { m with copying := true } }
      else s.setTask t x

/-! ### Issue -/

/-- The task's code range on engine `e` (R50): its first address and its length. -/
def State.codeRange (s : State) (t e : Nat) : Nat × Nat :=
  match (s.task t).mig with
  | some m => (if s.isShadow t e then m.code else (s.task t).code, (s.task t).codeLen)
  | none => ((s.task t).code, (s.task t).codeLen)

/-- The next fetch is at `a` (R50): outside the code range it raises PC_RANGE. -/
def State.goto (s : State) (t e k a : Nat) : State :=
  let r := s.codeRange t e
  if r.1 ≤ a ∧ a < r.1 + r.2 then s.setCtx k { s.ctx k with pc := BitVec.ofNat 13 a } else s.abortAct t e k 2

/-- Execution goes on behind an instruction of `words` words, or back to the start of a loop (R51). -/
def State.advance (s : State) (t e k words : Nat) : State :=
  let x := s.ctx k
  let last := x.pc.toNat + words - 1
  let y := Ctx.loopBack last x.loops x (last + 1)
  (s.setCtx k y.1).goto t e k y.2

/-- The stall of R55 before an instruction: its operands, its accumulators and the CORDIC unit. -/
def Ctx.stall (x : Ctx) (uses : List (Fin 16)) (accs : List (Fin 2)) (cordic : Bool) : Nat :=
  let a := uses.foldl (fun n i => max n (x.rdy.getD i.val 0)) 0
  let b := accs.foldl (fun n i => max n (x.acRdy.getD i.val 0)) a
  (if cordic then max b x.cordic else b) - x.cyc.toNat

/-- A read of the activation of task `t` on engine `e`: a corrected error is a fault of R59 too, so it abandons a migration from that engine (R89). -/
def State.eccTask (s : State) (t e m a n : Nat) : Option State :=
  (s.eccRead e m a n).map (fun r => if s.upsets m (8192 * e + a) n 1 = 0 ∨ s.isShadow t e = true then r else r.abortMig t false)

/-- Engine `e` issues an instruction of `words` words. A budget timer at 0 ends the activation instead (R57); its words are fetched: an
extension outside the code range raises PC_RANGE (R50), and a double error in a word aborts it (R59). Decoding errors come first (R39); a false condition costs a cycle per word; the instruction waits for
outstanding loads of the registers it reads (`uses`) or writes (`dst`) and for what `blocked` says; then its stall and its issue cycles are
charged, with the switch from another task (R55), and `f` is its effect. An activation whose timer does not last so long overruns. -/
def State.issue (s : State) (e : Fin 16) (c : BitVec 4) (bad : Bool) (words : Nat) (dst uses : List (Fin 16)) (accs : List (Fin 2))
    (cordic : Bool) (blocked : Nat → Ctx → Bool) (f : Nat → Nat → State → State) : State :=
  match s.running e with
  | none => s
  | some (t, i) =>
    let k := 6 * e.val + i
    let g := s.eng e
    let sw := if g.last.isSome && g.last != some t then 2 else 0
    let x := (s.ctx k).charge sw
    let n := sw + x.stall uses accs cordic + words
    if g.halted then s
    else if (s.ctx k).budget = 0 then s.abortAct t e k 6
    else if (s.codeRange t e).1 + (s.codeRange t e).2 < (s.ctx k).pc.toNat + words then s.abortAct t e k 2
    else match (s.setEng e { g with last := some t }).eccTask t e 0 (s.ctx k).pc.toNat words with
      | none => s.abortAct t e k 8
      | some r =>
        if condBad c || bad then r.abortAct t e k 1
        else if x.holds c = false then (r.spend e k (sw + words)).advance t e k words
        else if x.loads.any (fun p => uses.contains p.1 || dst.contains p.1) || blocked t x then s
        else if (s.ctx k).budget.toNat < n then (r.spend e k n).abortAct t e k 6
        else f t k (r.spend e k n)

/-- Nothing blocks. -/
def free_ (_ : Nat) (_ : Ctx) : Bool := false

/-- An instruction that changes only registers of its context. -/
def State.regOp (s : State) (e : Fin 16) (c : BitVec 4) (bad : Bool) (words : Nat) (dst uses : List (Fin 16)) (accs : List (Fin 2))
    (cordic : Bool) (g : Ctx → Ctx) : State :=
  s.issue e c bad words dst uses accs cordic free_ (fun t k s => (s.setCtx k (g (s.ctx k))).advance t e k words)

/-- A word operation: rd takes a result of latency 1 + `late`, and SAT follows (R35). -/
def State.aluOp (s : State) (e : Fin 16) (c : BitVec 4) (bad : Bool) (rd : Fin 16) (uses : List (Fin 16)) (late : Nat)
    (g : Ctx → Word × Bool) : State :=
  s.regOp e c bad 1 [rd] uses [] false (fun x => (x.setW rd (g x).1 late).orSat (g x).2)

/-- M has no meaning: only 0b00 is listed (R42). -/
def mBad (m : BitVec 2) : Bool := m != 0

/-! ### Words (R41, R43) -/

/-- NOP (R41). -/
def doNop (e : Fin 16) (c : BitVec 4) (s : State) : State := s.regOp e c false 1 [] [] [] false id

/-- MOV (R41). -/
def doMov (e : Fin 16) (c : BitVec 4) (rd rs : Fin 16) (m : BitVec 2) (s : State) : State :=
  s.aluOp e c (mBad m) rd [rs] 0 (fun x => (x.r rs, false))

/-- LDI (R41). -/
def doLdi (e : Fin 16) (c : BitVec 4) (rd : Fin 16) (imm : BitVec 10) (s : State) : State :=
  s.aluOp e c false rd [] 0 (fun _ => (imm.signExtend 24, false))

/-- MOVI (R41): two words. -/
def doMovi (e : Fin 16) (c : BitVec 4) (rd : Fin 16) (imm : Word) (s : State) : State :=
  s.regOp e c false 2 [rd] [] [] false (fun x => x.setW rd imm 0)

/-- ADD (R41). -/
def doAdd (e : Fin 16) (c : BitVec 4) (rd rs rt : Fin 16) (m : BitVec 2) (s : State) : State :=
  s.aluOp e c (mBad m) rd [rs, rt] 0 (fun x => (x.r rs + x.r rt, false))

/-- ADDS (R35). -/
def doAdds (e : Fin 16) (c : BitVec 4) (rd rs rt : Fin 16) (m : BitVec 2) (s : State) : State :=
  s.aluOp e c (mBad m) rd [rs, rt] 0 (fun x => sat24 ((x.r rs).toInt + (x.r rt).toInt))

/-- SUB (R41). -/
def doSub (e : Fin 16) (c : BitVec 4) (rd rs rt : Fin 16) (m : BitVec 2) (s : State) : State :=
  s.aluOp e c (mBad m) rd [rs, rt] 0 (fun x => (x.r rs - x.r rt, false))

/-- SUBS (R35). -/
def doSubs (e : Fin 16) (c : BitVec 4) (rd rs rt : Fin 16) (m : BitVec 2) (s : State) : State :=
  s.aluOp e c (mBad m) rd [rs, rt] 0 (fun x => sat24 ((x.r rs).toInt - (x.r rt).toInt))

/-- NEG (R41). -/
def doNeg (e : Fin 16) (c : BitVec 4) (rd rs : Fin 16) (m : BitVec 2) (s : State) : State :=
  s.aluOp e c (mBad m) rd [rs] 0 (fun x => sat24 (-(x.r rs).toInt))

/-- ABS (R41). -/
def doAbs (e : Fin 16) (c : BitVec 4) (rd rs : Fin 16) (m : BitVec 2) (s : State) : State :=
  s.aluOp e c (mBad m) rd [rs] 0 (fun x => sat24 ((x.r rs).toInt.natAbs : Int))

/-- MIN (R41). -/
def doMin (e : Fin 16) (c : BitVec 4) (rd rs rt : Fin 16) (m : BitVec 2) (s : State) : State :=
  s.aluOp e c (mBad m) rd [rs, rt] 0 (fun x => (if (x.r rs).toInt ≤ (x.r rt).toInt then x.r rs else x.r rt, false))

/-- MAX (R41). -/
def doMax (e : Fin 16) (c : BitVec 4) (rd rs rt : Fin 16) (m : BitVec 2) (s : State) : State :=
  s.aluOp e c (mBad m) rd [rs, rt] 0 (fun x => (if (x.r rs).toInt ≤ (x.r rt).toInt then x.r rt else x.r rs, false))

/-- AND (R41). -/
def doAnd (e : Fin 16) (c : BitVec 4) (rd rs rt : Fin 16) (m : BitVec 2) (s : State) : State :=
  s.aluOp e c (mBad m) rd [rs, rt] 0 (fun x => (x.r rs &&& x.r rt, false))

/-- OR (R41). -/
def doOr (e : Fin 16) (c : BitVec 4) (rd rs rt : Fin 16) (m : BitVec 2) (s : State) : State :=
  s.aluOp e c (mBad m) rd [rs, rt] 0 (fun x => (x.r rs ||| x.r rt, false))

/-- XOR (R41). -/
def doXor (e : Fin 16) (c : BitVec 4) (rd rs rt : Fin 16) (m : BitVec 2) (s : State) : State :=
  s.aluOp e c (mBad m) rd [rs, rt] 0 (fun x => (x.r rs ^^^ x.r rt, false))

/-- NOT (R41). -/
def doNot (e : Fin 16) (c : BitVec 4) (rd rs : Fin 16) (m : BitVec 2) (s : State) : State :=
  s.aluOp e c (mBad m) rd [rs] 0 (fun x => (~~~(x.r rs), false))

/-- SHL (R43): M = 0 wraps, 1 saturates. -/
def doShl (e : Fin 16) (c : BitVec 4) (rd rs rt : Fin 16) (m : BitVec 2) (s : State) : State :=
  s.aluOp e c (decide (2 ≤ m.toNat)) rd [rs, rt] 0 (fun x => shlW (x.r rs) ((x.r rt).toNat % 32) (m == 1))

/-- SHR (R43): M = 0 logical, 1 arithmetic, 2 arithmetic rounded. -/
def doShr (e : Fin 16) (c : BitVec 4) (rd rs rt : Fin 16) (m : BitVec 2) (s : State) : State :=
  s.aluOp e c (m == 3) rd [rs, rt] 0 (fun x => (shrW (x.r rs) ((x.r rt).toNat % 32) m.toNat, false))

/-- SHLI (R43). -/
def doShli (e : Fin 16) (c : BitVec 4) (rd rs : Fin 16) (n : BitVec 5) (sa : Bool) (s : State) : State :=
  s.aluOp e c false rd [rs] 0 (fun x => shlW (x.r rs) n.toNat sa)

/-- SHRI (R43). -/
def doShri (e : Fin 16) (c : BitVec 4) (rd rs : Fin 16) (n : BitVec 5) (sa : Bool) (s : State) : State :=
  s.aluOp e c false rd [rs] 0 (fun x => (shrW (x.r rs) n.toNat (b2n sa), false))

/-- CLAMP (R43). -/
def doClamp (e : Fin 16) (c : BitVec 4) (rd rs rt : Fin 16) (m : BitVec 2) (s : State) : State :=
  s.aluOp e c (mBad m) rd [rs, rt] 0 (fun x => clampW (x.r rs) (x.r rt))

/-- NORM (R43). -/
def doNorm (e : Fin 16) (c : BitVec 4) (rd rs : Fin 16) (m : BitVec 2) (s : State) : State :=
  s.aluOp e c (mBad m) rd [rs] 0 (fun x => (normW (x.r rs), false))

/-- MULW (R37): latency 2. -/
def doMulw (e : Fin 16) (c : BitVec 4) (rd rs rt : Fin 16) (m : BitVec 2) (s : State) : State :=
  s.aluOp e c (m == 3) rd [rs, rt] 1 (fun x => sat24 (roundAc (product (x.r rs) (x.r rt) 0) m))

/-- RCPS (R47). -/
def doRcps (e : Fin 16) (c : BitVec 4) (rd rs : Fin 16) (m : BitVec 2) (s : State) : State :=
  s.aluOp e c (mBad m) rd [rs] 0 (fun x => rcpsW (x.r rs))

/-- RSQS (R47). -/
def doRsqs (e : Fin 16) (c : BitVec 4) (rd rs : Fin 16) (m : BitVec 2) (s : State) : State :=
  s.aluOp e c (mBad m) rd [rs] 0 (fun x => rsqsW (x.r rs))

/-- The register after rd. -/
def succR (rd : Fin 16) : Fin 16 := rd + 1

/-- A CORDIC instruction (R46, R55): the pair rd, rd + 1, latency 6; the unit is busy as long. An odd rd is an error (R42). -/
def State.cordicOp (s : State) (e : Fin 16) (c : BitVec 4) (m : BitVec 2) (rd : Fin 16) (uses : List (Fin 16))
    (g : Ctx → Word × Word × Bool) : State :=
  s.regOp e c (mBad m || rd.val % 2 == 1) 1 [rd, succR rd] uses [] true (fun x =>
    let y := (x.setW rd (g x).1 5).setW (succR rd) (g x).2.1 5
    { y with csat := x.csat || (g x).2.2, cordic := x.cyc.toNat + 5 })

/-- CSC (R46). -/
def doCsc (e : Fin 16) (c : BitVec 4) (rd rs : Fin 16) (m : BitVec 2) (s : State) : State :=
  s.cordicOp e c m rd [rs] (fun x => ((cscW (x.r rs)).1, (cscW (x.r rs)).2, false))

/-- CAT (R46). -/
def doCat (e : Fin 16) (c : BitVec 4) (rd rs rt : Fin 16) (m : BitVec 2) (s : State) : State :=
  s.cordicOp e c m rd [rs, rt] (fun x => catW (x.r rs) (x.r rt))

/-! ### Predicates (R44) -/

/-- An instruction that sets flag fd. -/
def State.flagOp (s : State) (e : Fin 16) (c : BitVec 4) (fd : Fin 4) (uses : List (Fin 16)) (g : Ctx → Bool) : State :=
  s.regOp e c false 1 [] uses [] false (fun x => { x with f := x.f.set fd.val (g x) fd.isLt })

/-- CMP (R44). -/
def doCmp (e : Fin 16) (c : BitVec 4) (fd : Fin 4) (rs rt : Fin 16) (cc : BitVec 2) (s : State) : State :=
  s.flagOp e c fd [rs, rt] (fun x => cmpS (x.r rs) (x.r rt) cc)

/-- CMPU (R44). -/
def doCmpu (e : Fin 16) (c : BitVec 4) (fd : Fin 4) (rs rt : Fin 16) (cc : BitVec 2) (s : State) : State :=
  s.flagOp e c fd [rs, rt] (fun x => cmpU (x.r rs) (x.r rt) cc)

/-- CMPI (R44). -/
def doCmpi (e : Fin 16) (c : BitVec 4) (fd : Fin 4) (rs : Fin 16) (imm : BitVec 6) (cc : BitVec 2) (s : State) : State :=
  s.flagOp e c fd [rs] (fun x => cmpS (x.r rs) (imm.signExtend 24) cc)

/-- FLOG (R44). -/
def doFlog (e : Fin 16) (c : BitVec 4) (fd : Fin 4) (op : BitVec 2) (fa fb : Fin 4) (s : State) : State :=
  s.flagOp e c fd [] (fun x => flogic x.f[fa] x.f[fb] op)

/-- SEL (R41). -/
def doSel (e : Fin 16) (c : BitVec 4) (rd rs rt : Fin 16) (fc : Fin 4) (s : State) : State :=
  s.aluOp e c false rd [rs, rt] 0 (fun x => (if x.f[fc] then x.r rs else x.r rt, false))

/-! ### Accumulators (R36, R41, R45) -/

/-- The other accumulator. -/
def otherAc (a : Fin 2) : Fin 2 := a + 1

/-- An operation on an accumulator; `accs` are those it waits for (R55). -/
def State.acOp (s : State) (e : Fin 16) (c : BitVec 4) (bad : Bool) (a : Fin 2) (uses : List (Fin 16)) (accs : List (Fin 2)) (late : Nat)
    (g : Ctx → BitVec 56 × Bool) : State :=
  s.regOp e c bad 1 [] uses accs false (fun x => x.setAc a (g x) late)

/-- MUL (R36). -/
def doMul (e : Fin 16) (c : BitVec 4) (a : Fin 2) (rs rt : Fin 16) (m : BitVec 2) (s : State) : State :=
  s.acOp e c (m == 3) a [rs, rt] [] 1 (fun x => sat56 (product (x.r rs) (x.r rt) m))

/-- MAC (R36). -/
def doMac (e : Fin 16) (c : BitVec 4) (a : Fin 2) (rs rt : Fin 16) (m : BitVec 2) (s : State) : State :=
  s.acOp e c (m == 3) a [rs, rt] [] 1 (fun x => sat56 (x.ac[a].toInt + product (x.r rs) (x.r rt) m))

/-- MSU (R36). -/
def doMsu (e : Fin 16) (c : BitVec 4) (a : Fin 2) (rs rt : Fin 16) (m : BitVec 2) (s : State) : State :=
  s.acOp e c (m == 3) a [rs, rt] [] 1 (fun x => sat56 (x.ac[a].toInt - product (x.r rs) (x.r rt) m))

/-- ACLD (R41): M = 0 loads rs × 2^23, 1 clears. -/
def doAcld (e : Fin 16) (c : BitVec 4) (a : Fin 2) (rs : Fin 16) (m : BitVec 2) (s : State) : State :=
  s.acOp e c (decide (2 ≤ m.toNat)) a (if m = 0 then [rs] else []) [] 0
    (fun x => if m = 0 then sat56 ((x.r rs).toInt * 8388608) else (0, false))

/-- ACADD (R41): M = 0 adds the other accumulator, 1 subtracts it, 2 copies it. -/
def doAcadd (e : Fin 16) (c : BitVec 4) (a : Fin 2) (m : BitVec 2) (s : State) : State :=
  s.acOp e c (m == 3) a [] [otherAc a] 0 (fun x =>
    let o := x.ac[otherAc a].toInt
    if m = 0 then sat56 (x.ac[a].toInt + o) else if m = 1 then sat56 (x.ac[a].toInt - o) else sat56 o)

/-- ACSH (R45): left saturating, right arithmetic and truncating. -/
def doAcsh (e : Fin 16) (c : BitVec 4) (a : Fin 2) (n : BitVec 6) (s : State) : State :=
  s.acOp e c false a [] [a] 0 (fun x =>
    if 0 ≤ n.toInt then sat56 (x.ac[a].toInt * 2 ^ n.toInt.toNat) else sat56 (x.ac[a].toInt / 2 ^ (-n.toInt).toNat))

/-- RND (R37). -/
def doRnd (e : Fin 16) (c : BitVec 4) (rd : Fin 16) (a : Fin 2) (m : BitVec 2) (s : State) : State :=
  s.regOp e c (m == 3) 1 [rd] [] [a] false (fun x =>
    let v := sat24 (roundAc x.ac[a].toInt m)
    (x.setW rd v.1 0).orSat v.2)

/-- ACX (R41): M = 0 bits [23:0], 1 [47:24], 2 [55:48] sign-extended. -/
def doAcx (e : Fin 16) (c : BitVec 4) (rd : Fin 16) (a : Fin 2) (m : BitVec 2) (s : State) : State :=
  s.regOp e c (m == 3) 1 [rd] [] [a] false (fun x =>
    x.setW rd (if m = 0 then x.ac[a].setWidth 24 else if m = 1 then x.ac[a].extractLsb' 24 24
      else (x.ac[a].extractLsb' 48 8).signExtend 24) 0)

/-! ### Special registers (R34) -/

/-- The special-register numbers that R34 lists. -/
def sregOk (n : Nat) : Bool := decide (n ≤ 9) || (decide (0x10 ≤ n) && decide (n < 0x20))

/-- What MFS reads of a listed special register: `t` the task, `e` the engine, `x` the context. -/
def Ctx.sreg (x : Ctx) (t e n : Nat) : Word :=
  match n with
  | 0 => BitVec.ofNat 24 x.sr
  | 1 => x.cyc
  | 2 => x.budget
  | 3 => BitVec.ofNat 24 t
  | 4 => BitVec.ofNat 24 e
  | 5 => x.relnum
  | 6 => x.reltime
  | 7 => x.lc.getD 0 0
  | 8 => x.lc.getD 1 0
  | 9 => BitVec.ofNat 24 x.flags
  | n =>
    if n < 0x14 then x.p.getD (n - 0x10) 0
    else if n < 0x18 then x.pb.getD (n - 0x14) 0
    else if n < 0x1C then (x.ps.getD (n - 0x18) 0).signExtend 24
    else (x.pl.getD (n - 0x1C) 0).setWidth 24

/-- The special registers that MTS writes. -/
def sregRw (n : Nat) : Bool := n == 0 || n == 9 || (decide (0x10 ≤ n) && decide (n < 0x20))

/-- What MTS does to a writable special register. -/
def Ctx.setSreg (x : Ctx) (n : Nat) (v : Word) : Ctx :=
  if n = 0 then { x with sat := v.getLsbD 0, acv := v.getLsbD 1, csat := v.getLsbD 2 }
  else if n = 9 then { x with f := Vector.ofFn (fun (i : Fin 4) => v.getLsbD i.val) }
  else if n < 0x14 then { x with p := x.p.setIfInBounds (n - 0x10) v }
  else if n < 0x18 then { x with pb := x.pb.setIfInBounds (n - 0x14) v }
  else if n < 0x1C then { x with ps := x.ps.setIfInBounds (n - 0x18) (v.setWidth 16) }
  else { x with pl := x.pl.setIfInBounds (n - 0x1C) (v.setWidth 16) }

/-- MFS (R34): CYC and BUDLEFT as they stand before the cycle of MFS itself. -/
def doMfs (e : Fin 16) (c : BitVec 4) (rd : Fin 16) (sreg : BitVec 6) (s : State) : State :=
  s.issue e c (!sregOk sreg.toNat) 1 [rd] [] [] false free_ (fun t k s' =>
    let x := s'.ctx k
    let before := s.ctx k
    let v := if sreg = 1 then x.cyc - 1
      else if sreg = 2 then BitVec.ofNat 24 (before.budget.toNat - ((x.cyc - before.cyc).toNat - 1))
      else x.sreg t e sreg.toNat
    (s'.setCtx k (x.setW rd v 0)).advance t e k 1)

/-- MTS (R34): an unlisted number is a decoding error (R42); a register marked RO raises ILLEGAL_OP once the condition holds (R39). -/
def doMts (e : Fin 16) (c : BitVec 4) (sreg : BitVec 6) (rs : Fin 16) (s : State) : State :=
  s.issue e c (!sregOk sreg.toNat) 1 [] [rs] [] false free_ (fun t k s =>
    if sregRw sreg.toNat then (s.setCtx k ((s.ctx k).setSreg sreg.toNat ((s.ctx k).r rs))).advance t e k 1 else s.abortAct t e k 1)

/-! ### Loads and stores (R48, R49, R55, R61) -/

/-- The outstanding loads of an engine, those of its pre-empted and sleeping tasks among them (R25). -/
def State.engLoads (s : State) (e : Nat) : Nat := ((List.range 6).map (fun i => (s.ctx (6 * e + i)).loads.length)).sum

/-- The entries of an engine's store buffer that are taken (R55). -/
def State.engStores (s : State) (e : Nat) : Nat := ((List.range 6).map (fun i => (s.ctx (6 * e + i)).acks.length)).sum

/-- A stall on the fabric: a fifth load of the engine (R25), or a fifth store in its buffer (R55). -/
def State.full (s : State) (e a : Nat) (store : Bool) : Bool :=
  !ownAccess a && (if store then decide (4 ≤ s.engStores e) else decide (4 ≤ s.engLoads e))

/-- The engine whose local data a load of an address below 0x2000 reads: the loading one, or that of a task whose state it reads through a
binding of KIND 10 (R71). Its own sections and absolute windows come first (log entry 59). -/
def State.localOf (s : State) (t e a : Nat) : Nat :=
  let x := s.task t
  let sec := s.sectionsOn t e
  let own : List Win := ⟨sec.1, x.stateLen, true, true⟩ :: ⟨sec.2, x.scratchLen, true, true⟩
    :: (x.wins.filter (fun d => d.1.toNat / 2 ^ 20 != 2)).filterMap (s.descWin t e)
  if own.any (fun w => w.has a) then e
  else
    let hit := x.wins.findSome? (fun d =>
      let b := s.dc 2 (0x024 + d.1.toNat % 8) t
      if d.1.toNat / 2 ^ 20 = 2 ∧ b / 2 ^ 20 = 10 ∧ (s.descWin t e d).any (fun w => w.has a) then some (s.task (b % 65536)).engine else none)
    hit.getD e

/-- A load of local data of engine `e` reads the word's error away, or finds it uncorrectable (R59); other words are not covered. -/
def State.eccLoad (s : State) (t e a : Nat) : Option State := if a < 0x2000 then s.eccTask t e 1 a 1 else some s

/-- A load through the filter: rd takes the word at once from local data and the own mailboxes, or when the fabric returns it. An
access outside the windows raises PORT_VIOLATION and reads 0. -/
def State.loadTo (s : State) (t e k : Nat) (rd : Fin 16) (a late words : Nat) : State :=
  if s.allows t e a false then
    match s.eccLoad t (s.localOf t e a) a with
    | none => s.abortAct t e k 8
    | some s =>
    let p := s.portRead (if a < 0x2000 then s.localOf t e a else e) a
    let x := p.2.ctx k
    if ownAccess a then (p.2.setCtx k (x.setW rd p.1 late)).advance t e k words
    else (p.2.setCtx k { x with loads := x.loads ++ [(rd, p.1)] }).advance t e k words
  else if s.closedWin t a then (s.setCtx k ((s.ctx k).setW rd 0 late)).advance t e k words
  else (s.setCtx k ((s.ctx k).setW rd 0 late)).abortAct t e k 5

/-- The post view (R64): the mailbox and the offset. -/
def postView (a : Nat) : Option (Nat × Nat) :=
  if 0x871000 ≤ a ∧ a < 0x872000 then some ((a - 0x871000) / 64, a % 64) else none

/-- A post needs a fence (R49). -/
def Ctx.fenced (x : Ctx) : Bool := x.loads.isEmpty && x.acks.isEmpty

/-- MBPOST is a post. -/
def isPost (a : Nat) : Bool := (postView a).any (fun p => p.2 == 0x20)

/-- A store of GO to COMMIT while the transfer register holds a set that is not acknowledged (R22, R117). -/
def State.commitBusy (s : State) (a : Nat) (v : Word) : Bool :=
  decide (0x800000 ≤ a) && decide (a < 0x800C00) && a % 256 == 0x42 && v.getLsbD 0 && (s.cl ((a - 0x800000) / 256)).transfer.isSome

/-- What a store of task `t` on engine `e` waits for: room in the store buffer, the fence of a post (R49), the token of the commit before it. -/
def State.storeWaits (s : State) (t e : Nat) (x : Ctx) (a : Nat) (v : Word) : Bool :=
  s.full e a true || (isPost a && !x.fenced) || (s.commitBusy a v && s.allows t e a true && !s.isShadow t e)

/-- A store that the filter allows, by where it goes. In a shadow only its own state, scratch and mailboxes change; stores to the PWM
window are captured, all others are suppressed (R88). `none` refuses a post (R64). -/
def State.storeAt (s : State) (t e a : Nat) (v : Word) : Option State :=
  let x := s.task t
  let sec := s.sectionsOn t e
  let inState := decide (sec.1 ≤ a) && decide (a < sec.1 + x.stateLen)
  let pwm := a / 65536 == 0x80
  let inScratch := decide (sec.2 ≤ a) && decide (a < sec.2 + x.scratchLen)
  let s := match x.mig with
    | some m =>
      if !m.shadow then s
      else if s.isShadow t e then
        s.setTask t { x with mig := some { m with
          capB := if pwm then m.capB ++ [(a, v)] else m.capB
          stB := if inState then m.stB ++ [(a - sec.1, v)] else m.stB } }
      else
        s.setTask t { x with mig := some { m with
          capA := if pwm then m.capA ++ [(a, v)] else m.capA
          stA := if inState then m.stA ++ [(a - sec.1, v)] else m.stA } }
    | none => s
  let shadow := s.isShadow t e
  match postView a with
  | some (b, o) =>
    if o = 0x20 then
      let len := v.toNat % 64
      let y := s.mb b
      if len = 0 ∨ 32 < len ∨ !(y.assigned && y.kind == 3 && y.inst.toNat == t) then none
      else if shadow then some s
      else some (s.postRecord b ((List.range len).map (fun i => s.postWord e i)))
    else if o < 0x20 ∧ !shadow then some (s.setPost e o v)
    else some s
  | none =>
    if shadow && !(inState || inScratch || a / 256 == 0x8700) then some s
    else some (s.portStore t e a v)

/-- A port refuses the value itself (R205): a software trigger of number 15. -/
def refusedStore (a : Nat) (v : Word) : Bool :=
  decide (0x830000 ≤ a) && decide (a < 0x830400) && a % 256 == 0x12 && v.toNat % 16 == 15

/-- A store through the filter, then the next instruction; PORT_VIOLATION where it is not allowed or is refused. A store through the
fabric waits for its acknowledgement. -/
def State.storeTo (s : State) (t e k a : Nat) (v : Word) (words : Nat) : State :=
  if s.allows t e a true && !refusedStore a v then
    match s.storeAt t e a v with
    | some s' =>
      let x := s'.ctx k
      (s'.whenS (!ownAccess a) (fun s' => s'.setCtx k { x with acks := x.acks ++ [a] })).advance t e k words
    | none => s.abortAct t e k 5
  else s.abortAct t e k 5

/-- The address through a pointer (R48). -/
def Ctx.ptrAddr (x : Ctx) (p : Fin 4) (am : BitVec 2) (off : BitVec 6) : Nat :=
  if am = 3 then (x.p[p] + off.signExtend 24).toNat else x.p[p].toNat

/-- The wrap step of R48. -/
def wrapPtr (new : Int) (base len : Nat) : Word :=
  BitVec.ofInt 24 (if len = 0 then new else if (base : Int) + len ≤ new then new - len else if new < base then new + len else new)

/-- The pointer after an access (R48). -/
def Ctx.ptrNext (x : Ctx) (p : Fin 4) (am : BitVec 2) : Ctx :=
  if am = 1 ∨ am = 2 then
    let d := x.ps[p].toInt
    let new : Int := if am = 1 then (x.p[p].toNat : Int) + d else (x.p[p].toNat : Int) - d
    { x with p := x.p.set p.val (wrapPtr new x.pb[p].toNat x.pl[p].toNat) p.isLt }
  else x

/-- A non-zero OFF without AM = 0b11 (R48). -/
def offBad (am : BitVec 2) (off : BitVec 6) : Bool := am != 3 && off != 0

/-- LD (R48). -/
def doLd (e : Fin 16) (c : BitVec 4) (rd : Fin 16) (p : Fin 4) (am : BitVec 2) (off : BitVec 6) (s : State) : State :=
  s.issue e c (offBad am off) 1 [rd] [] [] false (fun _ x => s.full e (x.ptrAddr p am off) false) (fun t k s =>
    let a := (s.ctx k).ptrAddr p am off
    (s.setCtx k ((s.ctx k).ptrNext p am)).loadTo t e k rd a 1 1)

/-- ST (R48). -/
def doSt (e : Fin 16) (c : BitVec 4) (p : Fin 4) (rs : Fin 16) (am : BitVec 2) (off : BitVec 6) (s : State) : State :=
  s.issue e c (offBad am off) 1 [] [rs] [] false
    (fun t x => s.storeWaits t e x (x.ptrAddr p am off) (x.r rs)) (fun t k s =>
    let a := (s.ctx k).ptrAddr p am off
    (s.setCtx k ((s.ctx k).ptrNext p am)).storeTo t e k a ((s.ctx k).r rs) 1)

/-- LDA (R41): two words. Its load latency counts from the first of its two issue cycles, as that of a fabric load does: DESIGN CHOICE (log entry
64). -/
def doLda (e : Fin 16) (c : BitVec 4) (rd : Fin 16) (addr : Word) (s : State) : State :=
  s.issue e c false 2 [rd] [] [] false (fun _ _ => s.full e addr.toNat false) (fun t k s => s.loadTo t e k rd addr.toNat 0 2)

/-- STA (R41): two words. -/
def doSta (e : Fin 16) (c : BitVec 4) (addr : Word) (rs : Fin 16) (s : State) : State :=
  s.issue e c false 2 [] [rs] [] false (fun t x => s.storeWaits t e x addr.toNat (x.r rs))
    (fun t k s => s.storeTo t e k addr.toNat ((s.ctx k).r rs) 2)

/-- LDR (R41). -/
def doLdr (e : Fin 16) (c : BitVec 4) (rd rs : Fin 16) (m : BitVec 2) (s : State) : State :=
  s.issue e c (mBad m) 1 [rd] [rs] [] false (fun _ x => s.full e (x.r rs).toNat false)
    (fun t k s => s.loadTo t e k rd ((s.ctx k).r rs).toNat 1 1)

/-- STR (R41): the source in [13:10]. -/
def doStr (e : Fin 16) (c : BitVec 4) (rt rs : Fin 16) (m : BitVec 2) (s : State) : State :=
  s.issue e c (mBad m) 1 [] [rt, rs] [] false (fun t x => s.storeWaits t e x (x.r rs).toNat (x.r rt))
    (fun t k s => s.storeTo t e k ((s.ctx k).r rs).toNat ((s.ctx k).r rt) 1)

/-- FENCE (R49): it ends once nothing is outstanding. -/
def doFence (e : Fin 16) (c : BitVec 4) (s : State) : State :=
  s.issue e c false 1 [] [] [] false (fun _ x => !x.fenced) (fun t k s => s.advance t e k 1)

/-! ### Branches and loops (R50, R51) -/

/-- A control instruction must not end a loop body (R51). -/
def State.control (s : State) (e : Fin 16) (c : BitVec 4) (bad : Bool) (words : Nat) (dst uses : List (Fin 16)) (blocked : Nat → Ctx → Bool)
    (cordic : Bool) (f : Nat → Nat → State → State) : State :=
  s.issue e c bad words dst uses [] cordic blocked (fun t k s =>
    if (s.ctx k).endsAt ((s.ctx k).pc.toNat + words - 1) then s.abortAct t e k 1 else f t k s)

/-- A taken branch: one cycle more, loops that it leaves end, the next fetch is at the target. -/
def State.branch (s : State) (t e k target : Nat) (leaves : Bool) : State :=
  let s := s.spend e k 1
  (s.setCtx k (if leaves then (s.ctx k).leave target else s.ctx k)).goto t e k target

/-- BRA (R50). -/
def doBra (e : Fin 16) (c : BitVec 4) (target : BitVec 13) (s : State) : State :=
  s.control e c false 1 [] [] free_ false (fun t k s => s.branch t e k target.toNat true)

/-- CALL (R50): it ends no loop. -/
def doCall (e : Fin 16) (c : BitVec 4) (target : BitVec 13) (s : State) : State :=
  s.control e c false 1 [] [] free_ false (fun t k s =>
    let x := s.ctx k
    if 4 ≤ x.stack.length then s.abortAct t e k 3
    else (s.setCtx k { x with stack := (x.pc + 1) :: x.stack }).branch t e k target.toNat false)

/-- JMPR (R50). -/
def doJmpr (e : Fin 16) (c : BitVec 4) (rs : Fin 16) (m : BitVec 2) (s : State) : State :=
  s.control e c (mBad m) 1 [] [rs] free_ false (fun t k s => s.branch t e k (((s.ctx k).r rs).toNat % 8192) true)

/-- RET (R50). -/
def doRet (e : Fin 16) (c : BitVec 4) (s : State) : State :=
  s.control e c false 1 [] [] free_ false (fun t k s =>
    let x := s.ctx k
    match x.stack with
    | [] => s.abortAct t e k 3
    | a :: r => (s.setCtx k { x with stack := r }).branch t e k a.toNat true)

/-- A hardware loop (R51): end E = address of the instruction + OFF; a count of 0 continues behind E and costs one cycle more. -/
def State.loop_ (s : State) (t e k off words : Nat) (count : Word) : State :=
  let x := s.ctx k
  let ending := x.pc.toNat + off
  if 2 ≤ x.loops then s.abortAct t e k 4
  else if count = 0 then (s.spend e k 1).goto t e k (ending + 1)
  else
    let y := { x with lc := x.lc.setIfInBounds x.loops count
                      loopStart := x.loopStart.setIfInBounds x.loops (BitVec.ofNat 13 (x.pc.toNat + words))
                      loopEnd := x.loopEnd.setIfInBounds x.loops (BitVec.ofNat 13 ending)
                      loops := x.loops + 1 }
    (s.setCtx k y).goto t e k (x.pc.toNat + words)

/-- LOOPI (R51): OFF at least 2. -/
def doLoopi (e : Fin 16) (c : BitVec 4) (off : BitVec 10) (count : Word) (s : State) : State :=
  s.control e c false 2 [] [] free_ false (fun t k s => if off.toNat < 2 then s.abortAct t e k 1 else s.loop_ t e k off.toNat 2 count)

/-- LOOPR (R51): OFF at least 1. -/
def doLoopr (e : Fin 16) (c : BitVec 4) (rs : Fin 16) (off : BitVec 10) (s : State) : State :=
  s.control e c false 1 [] [rs] free_ false (fun t k s =>
    if off.toNat < 1 then s.abortAct t e k 1 else s.loop_ t e k off.toNat 1 ((s.ctx k).r rs))

/-! ### Events and the end (R52 to R54) -/

/-- The lowest slot of a mask. -/
def lowestBit (v : BitVec 16) : Option Nat := (List.range 16).find? (fun i => v.getLsbD i)

/-- A masked pending slot is consumed into rd (R52); none, nothing changes. -/
def State.consume (s : State) (t e k : Nat) (rd : Fin 16) (mask : BitVec 16) : Option State :=
  (lowestBit (s.pendOn t e &&& mask)).map (fun i =>
    (s.setPend t e (s.pendOn t e &&& ~~~(1#16 <<< i))).setCtx k ((s.ctx k).setW rd (BitVec.ofNat 24 i) 0))

/-- WAITEV (R52): MASK in [15:0], POLL [16], CLEAR [17]; a reserved bit is a decoding error. -/
def doWaitev (e : Fin 16) (c : BitVec 4) (rd : Fin 16) (ext : Word) (s : State) : State :=
  let mask : BitVec 16 := ext.setWidth 16
  let poll := ext.getLsbD 16
  let clear := ext.getLsbD 17
  s.control e c (decide (2 ^ 18 ≤ ext.toNat)) 2 [rd] [] free_ false (fun t k s =>
    if (poll && clear) || (mask == 0 && !poll && !clear) then s.abortAct t e k 1
    else if clear then
      let hit := s.pendOn t e &&& mask
      let s := s.setPend t e (s.pendOn t e &&& ~~~mask)
      (s.setCtx k ((s.ctx k).setW rd (hit.setWidth 24) 0)).advance t e k 2
    else match s.consume t e k rd mask with
      | some s' => s'.advance t e k 2
      | none =>
        if poll then (s.setCtx k ((s.ctx k).setW rd 0xFFFFFF 0)).advance t e k 2
        else (s.setCtx k { s.ctx k with sleep := some (rd, mask) }).advance t e k 2)

/-- SEV (R54): after a fence; only the declared software events, and none from a shadow (R88). -/
def doSev (e : Fin 16) (c : BitVec 4) (n : BitVec 6) (s : State) : State :=
  s.issue e c false 1 [] [] [] false (fun _ x => !x.fenced) (fun t k s =>
    let r := sevRange (s.dc 2 0x01B t)
    if r.1 ≤ n.toNat ∧ n.toNat < r.1 + r.2 then
      (s.whenS (!s.isShadow t e) (·.raiseEv (448 + n.toNat))).advance t e k 1
    else s.abortAct t e k 5)

/-- YIELD (R54): once the CORDIC unit is idle and the fence is complete, the activation ends. -/
def doYield (e : Fin 16) (c : BitVec 4) (s : State) : State :=
  s.control e c false 1 [] [] (fun _ x => !x.fenced) true (fun t k s => s.endAct t e k)

/-- Debug access holds the engine (R54, R68): a HALT has taken it, no RESUME has let it go, and ENGDBG has stayed
selected. DESIGN CHOICE (log entry 18): the spec does not say whether a resumed engine is still held. -/
def State.debugHolds (s : State) (e : Nat) : Bool := (s.eng e).debug && s.tap.ir == 0x10

/-- BRK (R54): it halts the engine under debug access, else it raises ILLEGAL_OP. -/
def doBrk (e : Fin 16) (c : BitVec 4) (s : State) : State :=
  s.issue e c false 1 [] [] [] false free_ (fun t k s =>
    if s.debugHolds e then (s.setEng e { s.eng e with halted := true }).advance t e k 1 else s.abortAct t e k 1)

/-- ILLEGAL_OP (R39, R41, R42): an unlisted opcode or a reserved field. -/
def doIllegalOp (e : Fin 16) (s : State) : State := s.issue e 0 true 1 [] [] [] false free_ (fun _ _ s => s)

end Sys2Proof.Machine
end

