-- ==== Sys2Proof/Machine/Tasks.lean ====
section
/-! DEFINITION. What happens to tasks on the engines beside their instructions: the fabric's answers (R25, R49), events (R28, R52, R53),
releases and their ends (R33, R57, R58, R73, R74), migrations at a release (R88 to R90), mailbox records (R62), and the stores and loads
that have a row of their own. -/

namespace Sys2Proof.Machine

/-! ### Fabric -/

/-- The contexts of a task, live first, then its shadow: engine and slot. -/
def State.places (s : State) (t : Nat) : List (Nat × Nat) :=
  let x := s.task t
  if x.placed then
    (x.engine, x.slot) :: (match x.mig with | some m => if m.shadow then [(m.dst, m.slot)] else [] | none => [])
  else []

/-- The cycles that a task has waited for the fabric are charged to it while it holds the engine (R55, R57). The spec bounds no such
wait for every access: the number is a free value. -/
def State.waitCharge (s : State) (t e k : Nat) : State :=
  if (s.running e).any (fun p => p.1 == t) && !(s.eng e).halted then
    (s.spend e k (Config.free 24 s.free).toNat).tick
  else s

/-- FABRIC_LOAD_RETURN (R25, R55): the k-th outstanding load of a task returns into the context that issued it. -/
def doFabricLoadReturn (t : Fin 96) (k : Fin 4) (s : State) : State :=
  match (s.places t).find? (fun p => decide (k.val < (s.ctx (6 * p.1 + p.2)).loads.length)) with
  | none => s
  | some p =>
    let n := 6 * p.1 + p.2
    match (s.ctx n).loads[k.val]? with
    | none => s
    | some l =>
      let s := s.waitCharge t p.1 n
      let x := s.ctx n
      s.setCtx n (({ x with loads := x.loads.eraseIdx k.val } : Ctx).setW l.1 l.2 0)

/-- FABRIC_STORE_ACK (R49, R55): the k-th store of a task is acknowledged; its entry of the store buffer is free. -/
def doFabricStoreAck (t : Fin 96) (k : Fin 4) (s : State) : State :=
  match (s.places t).find? (fun p => decide (k.val < (s.ctx (6 * p.1 + p.2)).acks.length)) with
  | none => s
  | some p =>
    let n := 6 * p.1 + p.2
    let s := s.waitCharge t p.1 n
    s.setCtx n { s.ctx n with acks := (s.ctx n).acks.eraseIdx k.val }

/-! ### Events (R28, R52, R53) -/

/-- The subscription slots of a task, as engine `e` holds it, that take an event (R451). Two descriptors may name one slot: either event then sets
it. DESIGN CHOICE (log entry 64). -/
def State.slotsOf (s : State) (t e ev : Nat) : List Nat :=
  ((s.task t).subs.filter (fun w => subEvent (s.inForce t) e (s.boxesOn t e) w == some ev)).map (fun w => w.toNat / 2 ^ 20)

/-- An event reaches one subscription of a live task: it becomes pending, or is an overrun (R28, R59). -/
def State.pendLive (s : State) (t e i : Nat) : State :=
  let p := (s.task t).pend
  if p.getLsbD i then
    let x := s.task t
    let s := s.setTask t { x with subOvr := Tab.set (fun _ => 0) x.subOvr i (Tab.get (fun _ => 0) x.subOvr i + 1) }
    (((s.bump (mkKey 3 0x016 e) 65535).put 3 0x014 e 10).report (0x01000A + 256 * t)).abortMig t false
  else s.setTask t { s.task t with pend := p ||| (1#16 <<< i) }

/-- An event reaches the subscriptions of a migration's target once its mirror is armed (R88). -/
def State.pendMirror (s : State) (t ev : Nat) : State :=
  match (s.task t).mig with
  | some m =>
    if m.copied then
      let hits := ((s.task t).subs.filter (fun w => subEvent (s.inForce t) m.dst m.mboxes w == some ev)).map (fun w => w.toNat / 2 ^ 20)
      s.setTask t { s.task t with mig := some { m with pend := hits.foldl (fun v i => v ||| (1#16 <<< i)) m.pend } }
    else s
  | none => s

/-- EVENT_ARRIVAL (R28): a pulse on the event bus reaches every subscription of its event. -/
def doEventArrival (ev : Fin 512) (s : State) : State :=
  if !s.evBus.contains ev.val then s
  else
    let s : State := { s with evBus := s.evBus.erase ev.val }
    (List.range 96).foldl (fun s t =>
      if (s.task t).placed then
        let e := (s.task t).engine
        (s.slotsOf t e ev).foldl (fun s i => s.pendLive t e i) (s.pendMirror t ev)
      else s) s

/-- A sleeping context takes a masked pending event (R53). -/
def State.wakeOne (s : State) (t : Nat) (p : Nat × Nat) : State :=
  let k := 6 * p.1 + p.2
  match (s.ctx k).sleep with
  | none => s
  | some (rd, mask) =>
    if (s.pendOn t p.1 &&& mask) = 0 then s
    else
      let s := s.setCtx k { s.ctx k with sleep := none }
      (s.consume t p.1 k rd mask).getD s

/-- A vendor kernel that waits in its activation for its records computes once they have all arrived (R244, R266). -/
def State.kernelWake (s : State) (t : Nat) : State :=
  let x := s.task t
  if x.await && x.placed && (s.ctx (s.ctxKey t)).active && !(s.eng x.engine).halted && s.kernelHas t then
    (s.setTask t { x with await := false }).kernelRun t
  else s

/-- WAITEV_WAKE (R53): a sleeping task is ready again after a masked event; a vendor kernel that waits for its records goes on with them. -/
def doWaitevWake (t : Fin 96) (s : State) : State := ((s.places t).foldl (fun s p => s.wakeOne t p) s).kernelWake t

/-! ### Releases (R33, R73, R74, R88 to R90) -/

/-- An activation starts in a slot (R33): every register is cleared, PC is at the entry, the budget is loaded. Scratch is undefined at a
release (R65): its words are free values. -/
def State.startAct (s : State) (t e slot code scratch : Nat) : State :=
  let x := s.task t
  let n := x.scratchLen
  let words := (List.range n).map (fun i => Config.free 24 (s.free + i))
  let s : State := { s with free := s.free + n
                            mem := { s.mem with loc := Tab.setRange (fun _ => 0) s.mem.loc (8192 * e + scratch) words } }
  (s.heal 1 (8192 * e + scratch) n).setCtx (6 * e + slot) { Ctx.zero with
    pc := BitVec.ofNat 13 (code + x.entry), budget := BitVec.ofNat 24 (s.declBudget (s.inForce t))
    relnum := BitVec.ofNat 24 x.relnum, reltime := s.t24, active := true }

/-- What a release means for a migration (R88 to R90); true where the release is skipped. -/
def State.migRelease (s : State) (t : Nat) : State × Bool :=
  let x := s.task t
  match x.mig with
  | none => (s, false)
  | some m =>
    let put (m : Mig) : State := s.setTask t { x with mig := some m }
    if m.verdict = some true then (s.takeover t, false)
    else if m.shadow then (s.abortMig t false, false)
    else if m.copied then
      if m.shadowless then (s.takeover t, false) else (put { m with shadow := true }, false)
    else if m.shadowless then
      if m.copying then (s.bump (mkKey 2 0x037 t) 65535, true) else (s, false)
    else if m.loaded && m.seen then
      if 8 ≤ m.skips then (s.abortMig t false, false) else (put { m with copying := false, skips := m.skips + 1 }, false)
    else if m.loaded then (put { m with seen := true }, false)
    else (s, false)

/-- After MEM_ECC the Referee loads a task's code, relocated, and its initial state again before its next release (R59). -/
def State.reloadTask (s : State) (t : Nat) : State :=
  let x := s.task t
  if x.reload then
    let id := s.dc 2 0x010 t
    let s := s.setPm x.engine x.code ((List.range x.codeLen).map (fun i => s.codeWord id x.code x.state x.scratch i))
    (s.initState t).setTask t { x with reload := false }
  else s

/-- A release starts the next activation; an unfinished one counts as a DEADLINE_MISS and is not followed by another (R58). A halted
engine starts none (R68). -/
def State.release (s : State) (t : Nat) : State :=
  let x := s.task t
  let k := s.ctxKey t
  if (s.eng x.engine).halted then s
  else if (s.ctx k).active then s.abortAct t x.engine k 7
  else
    let s := s.reloadTask t
    let x := s.task t
    let gaps := match x.yieldAt with
      | some y => (s.since y :: x.gaps).take 8
      | none => x.gaps
    let x := { x with relnum := x.relnum + 1, release := s.t48.toNat, gaps := gaps, yieldAt := none, await := false }
    let s := (s.setTask t x).startAct t x.engine x.slot x.code x.scratch
    match x.mig with
    | some m => if m.shadow then s.startAct t m.dst m.slot m.code m.scratch else s
    | none => s

/-- A release starts an activation: the engine is not halted and the last activation has ended (R58, R68). -/
def State.starts (s : State) (t : Nat) : Bool := !(s.eng (s.task t).engine).halted && !(s.ctx (s.ctxKey t)).active

/-- An activation of a vendor kernel computes with its records, or waits for them in WAITEV (R244, R266). -/
def State.kernelStart (s : State) (t : Nat) : State :=
  if s.kernelHas t then s.kernelRun t else s.setTask t { s.task t with await := true }

/-- TASK_RELEASE (R73): the phase of a source event has passed for a task that is due. The computation of a vendor kernel's activation is done whole,
here where its records are there, else with the wake that follows the last of them (log entry 33). -/
def doTaskRelease (t : Fin 96) (s : State) : State :=
  if !s.due.contains t.val then s
  else
    let s : State := { s with due := s.due.erase t.val }
    if !s.mayRelease t then s
    else
      let r := s.migRelease t
      if r.2 then r.1 else if r.1.starts t then (r.1.release t).kernelStart t else r.1.release t

/-- The place of a task whose activation has used up its budget timer, the live one first. -/
def State.overPlace (s : State) (t : Nat) : Option (Nat × Nat) :=
  (s.places t).find? (fun p => (s.ctx (6 * p.1 + p.2)).active && !(s.eng p.1).halted && (s.ctx (6 * p.1 + p.2)).budget == 0)

/-- BUDGET_OVERRUN (R57): the timer of an activation is at 0 before its end. -/
def doBudgetOverrun (t : Fin 96) (s : State) : State :=
  match s.overPlace t with
  | some p => s.abortAct t p.1 (6 * p.1 + p.2) 6
  | none => s

/-- DEADLINE_MISS (R58): the deadline tick ends without YIELD. Checks are suspended on a halted engine (R68). -/
def doDeadlineMiss (t : Fin 96) (s : State) : State :=
  ((s.places t).filter (fun p => (s.ctx (6 * p.1 + p.2)).active && !(s.eng p.1).halted)).reverse.foldl
    (fun s p => s.abortAct t p.1 (6 * p.1 + p.2) 7) s

/-! ### Stores and loads with rows of their own -/

/-- A store by the task that engine `e` runs, through the filter (R61): PORT_VIOLATION aborts. A post waits for its fence (R49). -/
def State.rowStore (s : State) (e : Fin 16) (a : Nat) (v : Word) : State :=
  match s.running e with
  | none => s
  | some (t, i) =>
    let k := 6 * e.val + i
    if (s.eng e).halted || (isPost a && !(s.ctx k).fenced) || (s.commitBusy a v && s.allows t e a true && !s.isShadow t e) then s
    else if s.allows t e a true && !refusedStore a v then (s.storeAt t e a v).getD (s.abortAct t e k 5)
    else s.abortAct t e k 5

/-- MAILBOX_RECORD_COMPLETE (R62, R88): a record of the mailbox's producer completes, in the mirror's mailbox too; 1 to 32 words. -/
def doMailboxRecordComplete (e : Fin 16) (m : Fin 4) (kind : BitVec 4) (inst : BitVec 8) (words : List Word) (s : State) : State :=
  let k := 4 * e.val + m.val
  let x := s.mb k
  if x.assigned && x.kind == kind && x.inst == inst && !words.isEmpty && decide (words.length ≤ 32) then s.postRecord k words else s

/-- MBACK_ACK (R62, R63). -/
def doMbackAck (e : Fin 16) (m : Fin 4) (s : State) : State := s.rowStore e (0x870021 + 64 * m.val) 1

/-- MBACK_CLR_OVR (R63). -/
def doMbackClrOvr (e : Fin 16) (m : Fin 4) (s : State) : State := s.rowStore e (0x870021 + 64 * m.val) 2

/-- MBPOST (R64). -/
def doMbpost (e dst : Fin 16) (m : Fin 4) (len : BitVec 6) (s : State) : State :=
  s.rowStore e (0x871020 + 256 * dst.val + 64 * m.val) (len.setWidth 24)

/-- REGISTER_WRITE (R61). -/
def doRegisterWrite (e : Fin 16) (addr v : Word) (s : State) : State := s.rowStore e addr.toNat v

/-- COMMIT_GO (R117). -/
def doCommitGo (e : Fin 16) (cl : Fin 12) (s : State) : State := s.rowStore e (0x800042 + 256 * cl.val) 1

/-- ADSWT (R205). -/
def doAdswt (e : Fin 16) (a : Fin 4) (swn : BitVec 4) (s : State) : State := s.rowStore e (0x830012 + 256 * a.val) (swn.setWidth 24)

/-- CWTHR (R199). -/
def doCwthr (e : Fin 16) (k : Fin 48) (v : Word) (s : State) : State := s.rowStore e (0x832002 + 16 * k.val) v

/-- QPOS_READ (R223): a load of QPOS takes the reader's snapshot. -/
def doQposRead (e : Fin 16) (n : Fin 4) (s : State) : State :=
  match s.running e with
  | none => s
  | some (t, i) =>
    if (s.eng e).halted then s
    else if s.allows t e (0x840000 + 256 * n.val) false then (s.portRead e (0x840000 + 256 * n.val)).2
    else s.abortAct t e (6 * e.val + i) 5

/-- CLR_RAWREV (R212). -/
def doClrRawrev (e : Fin 16) (n : Fin 4) (s : State) : State := s.rowStore e (0x84000B + 256 * n.val) 1

/-- POS_SET (R211). -/
def doPosSet (e : Fin 16) (n : Fin 4) (s : State) : State := s.rowStore e (0x84000B + 256 * n.val) 2

/-- CTTGT (R217, R219). -/
def doCttgt (e : Fin 16) (n : Fin 4) (k : Fin 16) (v : Word) (s : State) : State := s.rowStore e (0x840010 + 256 * n.val + 4 * k.val) v

/-- CTCFG (R217). -/
def doCtcfg (e : Fin 16) (n : Fin 4) (k : Fin 16) (v : Word) (s : State) : State := s.rowStore e (0x840011 + 256 * n.val + 4 * k.val) v

/-- FAULT_REQUEST (R311). -/
def doFaultRequest (e : Fin 16) (cause : BitVec 8) (s : State) : State := s.rowStore e 0x850000 (cause.setWidth 24)

end Sys2Proof.Machine
end

