-- ==== Sys2Proof/Machine/Debug.lean ====
section
/-! DEFINITION. Debug and test access (R68, R446): the words of the loop engines' instructions (R38 to R42), which STEP fetches, and the
test access port. -/

namespace Sys2Proof.Machine

/-! ### Instruction words (R38 to R42) -/

/-- Bits hi to lo of an instruction word. -/
def iw (w : Word) (lo n : Nat) : BitVec n := w.extractLsb' lo n

/-- The reserved bits of an opcode's operands (R40, R41): each must be 0. -/
def opReserved (op : Nat) : Nat :=
  match op with
  | 0x00 | 0x07 | 0x37 | 0x3B | 0x3F => 0x3FFF
  | 0x01 | 0x0C | 0x0D | 0x13 | 0x19 | 0x1B | 0x1C | 0x1D | 0x34 | 0x35 | 0x3A => 0x3C
  | 0x03 | 0x32 | 0x33 | 0x3E => 0x3FF
  | 0x04 | 0x05 => 0x3C0
  | 0x06 => 0x3FC0
  | 0x20 | 0x21 => 0x3
  | 0x23 => 0x3F
  | 0x28 | 0x29 | 0x2A | 0x2B | 0x2C => 0x3800
  | 0x2D => 0x3BC0
  | 0x2E | 0x2F => 0x1FC
  | 0x38 | 0x39 => 0x2000
  | _ => 0

/-- The number of words of an instruction (R41). -/
def opWords (op : Nat) : Nat := if op = 0x03 ∨ op = 0x32 ∨ op = 0x33 ∨ op = 0x3C ∨ op = 0x3E then 2 else 1

/-- The opcode of an instruction word (R38). -/
def opOf (w : Word) : Nat := (iw w 14 6).toNat

/-- The instruction that a word and its extension spell for engine e (R38 to R42); an unlisted opcode and a reserved field are
ILLEGAL_OP. The values of SREG, M, CC and op are checked where the instruction executes. -/
def decodeWord (e : Fin 16) (w ext : Word) : Instr :=
  let c : BitVec 4 := iw w 20 4
  let r1 : Fin 16 := (iw w 10 4).toFin
  let r2 : Fin 16 := (iw w 6 4).toFin
  let r3 : Fin 16 := (iw w 2 4).toFin
  let m : BitVec 2 := iw w 0 2
  let a10 : Fin 2 := (iw w 10 1).toFin
  let a9 : Fin 2 := (iw w 9 1).toFin
  if w.toNat % 16384 &&& opReserved (opOf w) ≠ 0 then .illegalOp e
  else match opOf w with
  | 0x00 => .nop e c
  | 0x01 => .mov e c r1 r2 m
  | 0x02 => .ldi e c r1 (iw w 0 10)
  | 0x03 => .movi e c r1 ext
  | 0x04 => .mfs e c r1 (iw w 0 6)
  | 0x05 => .mts e c (iw w 0 6) r1
  | 0x06 => .sev e c (iw w 0 6)
  | 0x07 => .fence e c
  | 0x08 => .add e c r1 r2 r3 m
  | 0x09 => .adds e c r1 r2 r3 m
  | 0x0A => .sub e c r1 r2 r3 m
  | 0x0B => .subs e c r1 r2 r3 m
  | 0x0C => .neg e c r1 r2 m
  | 0x0D => .abs e c r1 r2 m
  | 0x0E => .min e c r1 r2 r3 m
  | 0x0F => .max e c r1 r2 r3 m
  | 0x10 => .and e c r1 r2 r3 m
  | 0x11 => .or e c r1 r2 r3 m
  | 0x12 => .xor e c r1 r2 r3 m
  | 0x13 => .not e c r1 r2 m
  | 0x14 => .shl e c r1 r2 r3 m
  | 0x15 => .shr e c r1 r2 r3 m
  | 0x16 => .shli e c r1 r2 (iw w 1 5) (w.getLsbD 0)
  | 0x17 => .shri e c r1 r2 (iw w 1 5) (w.getLsbD 0)
  | 0x18 => .clamp e c r1 r2 r3 m
  | 0x19 => .norm e c r1 r2 m
  | 0x1A => .mulw e c r1 r2 r3 m
  | 0x1B => .rcps e c r1 r2 m
  | 0x1C => .rsqs e c r1 r2 m
  | 0x1D => .csc e c r1 r2 m
  | 0x1E => .cat e c r1 r2 r3 m
  | 0x20 => .cmp e c (iw w 12 2).toFin r2 r3 (iw w 10 2)
  | 0x21 => .cmpu e c (iw w 12 2).toFin r2 r3 (iw w 10 2)
  | 0x22 => .cmpi e c (iw w 12 2).toFin r2 (iw w 0 6) (iw w 10 2)
  | 0x23 => .flog e c (iw w 12 2).toFin (iw w 10 2) (iw w 8 2).toFin (iw w 6 2).toFin
  | 0x24 => .sel e c r1 r2 r3 (iw w 0 2).toFin
  | 0x28 => .mul e c a10 r2 r3 m
  | 0x29 => .mac e c a10 r2 r3 m
  | 0x2A => .msu e c a10 r2 r3 m
  | 0x2B => .acld e c a10 r2 m
  | 0x2C => .acadd e c a10 m
  | 0x2D => .acsh e c a10 (iw w 0 6)
  | 0x2E => .rnd e c r1 a9 m
  | 0x2F => .acx e c r1 a9 m
  | 0x30 => .ld e c r1 (iw w 8 2).toFin (iw w 6 2) (iw w 0 6)
  | 0x31 => .st e c (iw w 8 2).toFin r1 (iw w 6 2) (iw w 0 6)
  | 0x32 => .lda e c r1 ext
  | 0x33 => .sta e c ext r1
  | 0x34 => .ldr e c r1 r2 m
  | 0x35 => .str e c r1 r2 m
  | 0x37 => .brk e c
  | 0x38 => .bra e c (iw w 0 13)
  | 0x39 => .call e c (iw w 0 13)
  | 0x3A => .jmpr e c r2 m
  | 0x3B => .ret e c
  | 0x3C => .loopi e c (iw w 0 10) ext
  | 0x3D => .loopr e c r1 (iw w 0 10)
  | 0x3E => .waitev e c r1 ext
  | 0x3F => .yield e c
  | _ => .illegalOp e

/-- An engine's instruction takes effect; any other command changes nothing here. -/
def runEngine (i : Instr) (s : State) : State :=
  match i with
  | .nop e c => doNop e c s
  | .mov e c rd rs m => doMov e c rd rs m s
  | .ldi e c rd imm => doLdi e c rd imm s
  | .movi e c rd imm => doMovi e c rd imm s
  | .mfs e c rd sreg => doMfs e c rd sreg s
  | .mts e c sreg rs => doMts e c sreg rs s
  | .sev e c n => doSev e c n s
  | .fence e c => doFence e c s
  | .add e c rd rs rt m => doAdd e c rd rs rt m s
  | .adds e c rd rs rt m => doAdds e c rd rs rt m s
  | .sub e c rd rs rt m => doSub e c rd rs rt m s
  | .subs e c rd rs rt m => doSubs e c rd rs rt m s
  | .neg e c rd rs m => doNeg e c rd rs m s
  | .abs e c rd rs m => doAbs e c rd rs m s
  | .min e c rd rs rt m => doMin e c rd rs rt m s
  | .max e c rd rs rt m => doMax e c rd rs rt m s
  | .and e c rd rs rt m => doAnd e c rd rs rt m s
  | .or e c rd rs rt m => doOr e c rd rs rt m s
  | .xor e c rd rs rt m => doXor e c rd rs rt m s
  | .not e c rd rs m => doNot e c rd rs m s
  | .shl e c rd rs rt m => doShl e c rd rs rt m s
  | .shr e c rd rs rt m => doShr e c rd rs rt m s
  | .shli e c rd rs n sa => doShli e c rd rs n sa s
  | .shri e c rd rs n sa => doShri e c rd rs n sa s
  | .clamp e c rd rs rt m => doClamp e c rd rs rt m s
  | .norm e c rd rs m => doNorm e c rd rs m s
  | .mulw e c rd rs rt m => doMulw e c rd rs rt m s
  | .rcps e c rd rs m => doRcps e c rd rs m s
  | .rsqs e c rd rs m => doRsqs e c rd rs m s
  | .csc e c rd rs m => doCsc e c rd rs m s
  | .cat e c rd rs rt m => doCat e c rd rs rt m s
  | .cmp e c fd rs rt cc => doCmp e c fd rs rt cc s
  | .cmpu e c fd rs rt cc => doCmpu e c fd rs rt cc s
  | .cmpi e c fd rs imm cc => doCmpi e c fd rs imm cc s
  | .flog e c fd op fa fb => doFlog e c fd op fa fb s
  | .sel e c rd rs rt fc => doSel e c rd rs rt fc s
  | .mul e c a rs rt m => doMul e c a rs rt m s
  | .mac e c a rs rt m => doMac e c a rs rt m s
  | .msu e c a rs rt m => doMsu e c a rs rt m s
  | .acld e c a rs m => doAcld e c a rs m s
  | .acadd e c a m => doAcadd e c a m s
  | .acsh e c a n => doAcsh e c a n s
  | .rnd e c rd a m => doRnd e c rd a m s
  | .acx e c rd a m => doAcx e c rd a m s
  | .ld e c rd p am off => doLd e c rd p am off s
  | .st e c p rs am off => doSt e c p rs am off s
  | .lda e c rd addr => doLda e c rd addr s
  | .sta e c addr rs => doSta e c addr rs s
  | .ldr e c rd rs m => doLdr e c rd rs m s
  | .str e c rt rs m => doStr e c rt rs m s
  | .brk e c => doBrk e c s
  | .bra e c target => doBra e c target s
  | .call e c target => doCall e c target s
  | .jmpr e c rs m => doJmpr e c rs m s
  | .ret e c => doRet e c s
  | .loopi e c off count => doLoopi e c off count s
  | .loopr e c rs off => doLoopr e c rs off s
  | .waitev e c rd ext => doWaitev e c rd ext s
  | .yield e c => doYield e c s
  | .illegalOp e => doIllegalOp e s
  | _ => s

/-! ### ENGDBG (R68, R446) -/

/-- ENGDBG is refused (R446): DEBUG_OFF in CUSTOMER word 0x17. -/
def State.debugOff (s : State) : Bool := (s.otpRead 2 0x17).getLsbD 0

/-- The instruction register takes a code. -/
def State.setIr (s : State) (c : BitVec 5) : State := { s with tap := { s.tap with ir := c, driven := none } }

/-- A command through ENGDBG: refused, it acts as BYPASS. -/
def State.engdbg (s : State) (f : State → State) : State :=
  if s.debugOff then s.setIr 0x1F else f (s.setIr 0x10)

/-- The result of a command, as the next capture shifts it out (R446). -/
def State.dbgResult (s : State) (cmd e ctx index data : Nat) : State :=
  { s with tap := { s.tap with dbg := fields 48 [(cmd, 44), (e, 40), (ctx, 37), (index, 24), (data, 0)] } }

/-- The tasks with a context on an engine. -/
def State.engineTasks (s : State) (e : Nat) : List Nat := (List.range 6).filterMap (s.slotTask e)

/-- HALT (R68): the engine stops; migrations from and to it end; ENGINE_HALTED stands if it holds a SAFETY or CONTROL task of a
stage. -/
def doHalt (e : Fin 16) (s : State) : State :=
  s.engdbg (fun s =>
    if (s.eng e).halted then s.setEng e { s.eng e with debug := true }
    else
      let s := s.setEng e { s.eng e with halted := true, debug := true }
      let s := (s.engineTasks e).foldl (fun s t => if (s.task t).mig.isSome then s.abortMig t false else s) s
      if s.engineStages e = [] then s else s.condOn (0x01000B + 256 * e.val))

/-- RESUME (R68): OPTIMISE and BACKGROUND tasks go on at their next release, and so do the tasks of stages that are not armed; what they
had begun ends. -/
def doResumeEngine (e : Fin 16) (s : State) : State :=
  s.engdbg (fun s =>
    if (s.eng e).halted then
      let s := (s.setEng e { s.eng e with halted := false, debug := false }).condOff (0x01000B + 256 * e.val)
      (List.range 6).foldl (fun s i =>
        match s.slotTask e i with
        | none => s
        | some t =>
          if 2 ≤ s.dc 2 0x011 t ∨ (s.liveStage (s.taskStage t)).isNone then
            s.setCtx (6 * e + i) { s.ctx (6 * e + i) with active := false, sleep := none }
          else s) s
    else s)

/-- The next instruction of an engine, fetched (R38, R41); `none` where the extension lies outside the code range (R50). -/
def State.fetch (s : State) (e : Fin 16) (t k : Nat) : Option Instr :=
  let pc := (s.ctx k).pc.toNat
  let w := s.pmWord e pc
  let r := s.codeRange t e
  if opWords (opOf w) = 2 ∧ r.1 + r.2 ≤ pc + 1 then none else some (decodeWord e w (s.pmWord e (pc + 1)))

/-- STEP (R68, R446): a halted engine executes one instruction and is halted again. -/
def doStep (e : Fin 16) (s : State) : State :=
  s.engdbg (fun s =>
    if (s.eng e).halted then
      match s.running e with
      | none => s
      | some (t, i) =>
        let s := s.setEng e { s.eng e with halted := false }
        let s := match s.fetch e t (6 * e + i) with
          | some c => runEngine c s
          | none => s.abortAct t e (6 * e + i) 2
        s.setEng e { s.eng e with halted := true }
    else s)

/-- The context that held the engine: that of the task which executed last, else of the one it would run. -/
def State.heldSlot (s : State) (e : Nat) : Nat :=
  match (s.eng e).last.bind (fun t => s.slotOn t e) with
  | some i => i
  | none => ((s.running e).map (·.2)).getD 0

/-- STATUS (R446): [0] HALTED, [3:1] the context that held the engine. -/
def doStatus (e : Fin 16) (s : State) : State :=
  s.engdbg (fun s => s.dbgResult 4 e 0 0 (b2n (s.eng e).halted + 2 * s.heldSlot e))

/-- READ_REG (R446): W0 to W15, PC, SR and FLAGS of a context; the spec states no result for another index or context. -/
def doReadReg (e : Fin 16) (ctx : Fin 6) (index : BitVec 13) (s : State) : State :=
  s.engdbg (fun s =>
    let x := s.ctx (6 * e + ctx)
    let i := index.toNat
    if i < 16 then s.dbgResult 5 e ctx i (x.w.getD i 0).toNat
    else if i = 0x20 then s.dbgResult 5 e ctx i x.pc.toNat
    else if i = 0x21 then s.dbgResult 5 e ctx i x.sr
    else if i = 0x22 then s.dbgResult 5 e ctx i x.flags
    else (s.dbgResult 5 e ctx i (Config.free 24 s.free).toNat).tick)

/-- READ_PM (R446). -/
def doReadPm (e : Fin 16) (addr : BitVec 13) (s : State) : State :=
  s.engdbg (fun s => s.dbgResult 6 e 0 addr.toNat (s.pmWord e addr.toNat).toNat)

/-! ### Boundary scan (R446, R427) -/

/-- The boundary register has 124 cells: each output pin of the core field input, output and output enable, each input pin one. -/
def boundaryLen : Nat := 124

/-- What shifts into the boundary register. -/
def cells (l : List Bool) : List Bool := (l ++ List.replicate boundaryLen false).take boundaryLen

/-- EXTEST (R446): only while nRST is held low from outside; else it acts as BYPASS. -/
def doExtest (l : List Bool) (s : State) : State :=
  if s.boot.nrstIn then { s with tap := { s.tap with ir := 0, updated := cells l, driven := some (cells l) } } else s.setIr 0x1F

/-- IDCODE (R446). -/
def doIdcode (s : State) : State := s.setIr 1

/-- The identification register (R446). -/
def State.idWord (s : State) : BitVec 32 := fields 32 [((s.otpRead 1 1).toNat % 16, 28), (0x9640, 12), (0x2B5, 1), (1, 0)]

/-- SAMPLE/PRELOAD (R446): the cells take what the pins show and then what is shifted in. -/
def doSamplePreload (sampled shifted : List Bool) (s : State) : State :=
  { s with tap := { s.tap with ir := 2, captured := cells sampled, updated := cells shifted, driven := none } }

/-- CLAMP (R446): the pins keep the preloaded cells, under EXTEST's condition. -/
def doClampTest (s : State) : State :=
  if s.boot.nrstIn then { s with tap := { s.tap with ir := 4, driven := some s.tap.updated } } else s.setIr 0x1F

/-- BYPASS and every unlisted code (R446); a listed code is another command's. -/
def doBypass (code : BitVec 5) (s : State) : State := if [0, 1, 2, 4, 0x10].contains code.toNat then s else s.setIr code

end Sys2Proof.Machine
end

