-- ==== Sys2Proof/Machine/Read.lean ====
section
/-! DEFINITION. What a READ of each entry returns (the entry tables of every chapter): most entries hold their value, the others show
the state of their block. -/

namespace Sys2Proof.Machine

/-! ### Identity, device, Referee, engines (R376, R100, R69, R424) -/

/-- ENG_STATE (3.010): OFF 0, IDLE 1, RUNNING 2, HALTED 3. -/
def State.engState (s : State) (e : Nat) : Nat :=
  if s.step (e / 4) = 0 then 0 else if (s.eng e).halted then 3
  else if (List.range 96).any (fun t => (s.task t).placed && (s.task t).engine == e) then 2 else 1

/-- JOB_AGE (2.094) in ms: from the T48 that 2.094 keeps. -/
def State.jobAge (s : State) (slot : Nat) : Nat :=
  if s.slotBusy slot then min 0xFFFFFF (s.since (s.en 2 0x094 slot) / 400000) else 0

/-- The computed entries of areas 0 to 3. -/
def State.readLow (s : State) (a e i : Nat) : Option Nat :=
  match a, e with
  | 0, 0x000 => some (s.otpRead 1 0).toNat
  | 0, 0x001 => some (s.otpRead 1 1).toNat
  | 0, 0x002 => some ((s.otpRead 1 2).toNat * 2 ^ 24 + (s.otpRead 1 3).toNat)
  | 0, 0x004 => some s.boot.fwVer.toNat
  | 1, 0x001 => some (b2n s.boot.factory + 2 * b2n s.boot.trial + 4 * b2n s.boot.keptAon)
  | 2, 0x001 => some s.tasksDeclared
  | 2, 0x002 => some s.refState
  | 2, 0x031 => some (s.taskStatus i)
  | 2, 0x045 => some (if s.step i = 0 then 0 else min 255 ((s.quadDensity i).1 * 100 / (s.quadDensity i).2))
  | 2, 0x094 => some (s.jobAge i)
  | 3, 0x010 => some (s.engState i)
  | 3, 0x011 => some ((List.range 96).filter (fun t => (s.task t).placed && (s.task t).engine == i)).length
  | 3, 0x020 => some s.kstoreFree
  | 3, 0x032 => some s.keyMode
  | _, _ => none

/-! ### PWM and lanes (R134, R166) -/

/-- The computed entries of areas 4 and 5. -/
def State.readMid (s : State) (a e i : Nat) : Option Nat :=
  let x := s.lane (if e / 16 = 0x08 then 32 + i else i)
  match a, e with
  | 4, 0x000 => some s.t48.toNat
  | 4, 0x001 => some s.rallyState
  | 4, 0x003 => some (min 65535 s.rallyAge)
  | 4, 0x020 => some (s.gstat i)
  | 4, 0x050 => some (s.cl i).st.code
  | 4, 0x051 => some (s.cl i).rldnum.toNat
  | 4, 0x052 => some (min 255 (s.cl i).tripcnt)
  | 5, 0x013 => some x.st.code
  | 5, 0x015 => some x.gen
  | 5, 0x016 => some x.satId.toNat
  | 5, 0x017 => some x.serial.toNat
  | 5, 0x018 => some x.sat
  | 5, 0x019 => some (low24 x.residM)
  | 5, 0x01A => some (low24 x.pathD)
  | 5, 0x01D => some (min 65535 x.retrains)
  | 5, 0x020 => some x.fail
  | 5, 0x021 => some (min 0xFFFFFF x.codeErr)
  | 5, 0x022 => some (min 0xFFFFFF x.crcErr)
  | 5, 0x023 => some (min 0xFFFFFF x.drop)
  | 5, 0x024 => some (min 65535 x.lateTx)
  | 5, 0x025 => some (min 65535 x.kills)
  | 5, 0x026 => some (min 65535 x.alarms)
  | 5, 0x027 => some x.satTemp.toNat
  | 5, 0x028 => some x.satFlag
  | 5, 0x042 => some ((x.readVal.map (·.toNat)).getD 0)
  | 5, 0x080 => some x.st.code
  | 5, 0x081 => some (min 0xFFFFFF (x.codeErr + x.crcErr))
  | 5, 0x082 => some (min 65535 x.retrains)
  | 5, 0x083 => some (low24 x.residM)
  | _, _ => none

/-! ### Drivers, acquisition, feedback (R182, R206, R228) -/

/-- HB_LAST_CAUSE (6.021): NONE 0, VDS 1, BST_UV 2, STP 3, GATE 4. -/
def hbCauseCode (c : BitVec 8) : Nat := if c = 1 then 1 else if c = 3 then 2 else if c = 2 then 3 else if c = 0x10 then 4 else 0

/-- QE_SPEED (8.031) in 0.01 rpm (R214). -/
def State.rpm (s : State) (n : Nat) : Nat :=
  let c := s.en 8 0x014 n
  if c = 0 then 0 else low24 (max (-8388608) (min 8388607 (((s.qe n).speed * 6000).tdiv (c : Int))))

/-- The computed entries of areas 6 to 8. BST_V (6.020) is measured and not stated: a free value. -/
def State.readAnalog (s : State) (a e i : Nat) : Option Nat :=
  match a, e with
  | 6, 0x001 => some s.drv.gvdd
  | 6, 0x011 => some (if (s.hb i).st = .test then 3 else (s.view i).st.toNat % 3)
  | 6, 0x020 => some (Config.free 24 s.free).toNat
  | 6, 0x021 => some (hbCauseCode (s.view i).cause)
  | 6, 0x040 => some (s.sensor (8 + i)).temp.toNat
  | 6, 0x041 => some (s.bankVolts i)
  | 6, 0x042 => some (s.bankFlags i)
  | 7, 0x046 => some (s.sdStat i)
  | 7, 0x067 => some (s.cwStat i)
  | 7, 0x080 => some (s.hkCode i)
  | 7, 0x081 => some (min 65535 (s.hkAge i))
  | 8, 0x01E => some ((s.qeHolder i).getD 0xFF)
  | 8, 0x030 => some (s.qe i).pos.toNat
  | 8, 0x031 => some (s.rpm i)
  | 8, 0x032 => some (qeSpeedWord (s.qe i)).toNat
  | 8, 0x033 => some (qeStat (s.qe i)).toNat
  | 8, 0x034 => some (qeAngle s i).toNat
  | 8, 0x035 => some (s.qe i).idxPos.toNat
  | _, _ => none

/-! ### Monitors, faults, non-volatile store (R328, R312, R354) -/

/-- LATCH_CODE and LATCH_INFO of a latch slot (A.020, A.021). -/
def State.latchEntry (s : State) (slot : Nat) (info : Bool) : Nat :=
  match s.flt.latch.find? (fun l => l.slot == slot) with
  | none => if info then 7 else 0
  | some l => if info then l.cls + 8 * b2n l.live + 16 * b2n l.cond + 32 * b2n l.inj + 256 * (l.seq % 65536) else l.code

/-- SC_REC (A.100) as a 24-byte number, word 0 first. -/
def State.scRec (s : State) (i : Nat) : Nat := (s.scAt i).words.foldl (fun a w => a * 2 ^ 24 + w.toNat) 0

/-- The computed entries of areas 9 to E. BUS_LOAD (C.049) is measured and not stated: a free value. -/
def State.readHigh (s : State) (a e i : Nat) : Option Nat :=
  match a, e with
  | 9, 0x010 => some (s.sensor i).temp.toNat
  | 9, 0x011 => some (s.monPort i / 65536 % 64)
  | 9, 0x020 => some s.mon.maxC.1.toNat
  | 9, 0x021 => some s.mon.maxC.2.toNat
  | 9, 0x022 => some s.mon.maxP.1.toNat
  | 9, 0x023 => some s.mon.maxP.2.toNat
  | 9, 0x024 => some s.mon.maxS.1.toNat
  | 9, 0x025 => some s.mon.maxS.2.toNat
  | 9, 0x04A => some (s.sensor (12 + i)).temp.toNat
  | 9, 0x04B => some (s.monPort (0x10 + i) / 65536 % 32)
  | 9, 0x054 => some (s.monPort (0x20 + i) / 65536 % 32)
  | 9, 0x060 => some (s.mon.volts.getD i 0).toNat
  | 9, 0x061 => some (s.monPort (0x48 + i) / 65536 % 8)
  | 9, 0x062 => some (s.mon.lowest.getD i 0).toNat
  | 0xA, 0x000 => some s.flt.latch.length
  | 0xA, 0x001 => some s.highest
  | 0xA, 0x005 => some (b2n s.drv.killPin)
  | 0xA, 0x020 => some (s.latchEntry i false)
  | 0xA, 0x021 => some (s.latchEntry i true)
  | 0xA, 0x100 => some (s.scRec i)
  | 0xA, 0x101 => some (if s.deferring then s.flt.copies.length else 0)
  | 0xB, 0x010 => some s.nvm.bank
  | 0xB, 0x011 => some (s.nvm.gen % 2 ^ 24)
  | 0xB, 0x012 => some s.nvm.seq
  | 0xB, 0x013 => some s.jrnFree
  | 0xB, 0x015 => some s.nvm.queue.length
  | 0xB, 0x018 => some s.shedState
  | 0xB, 0x030 => some s.kstoreLargest
  | 0xB, 0x040 => some (s.otpRead 0 i).toNat
  | 0xB, 0x041 => some (s.otpRead 1 i).toNat
  | 0xB, 0x042 => some (if isProtected 2 i then 0 else (s.otpRead 2 i).toNat)
  | 0xB, 0x060 => some (s.wstat 0 i)
  | 0xB, 0x061 => some (s.wstat 1 i)
  | 0xB, 0x062 => some (s.wstat 2 i)
  | 0xB, 0x071 => some (s.lockState i)
  | 0xB, 0x072 => some (s.otp i (sealWord i)).toNat
  | 0xC, 0x049 => some ((Config.free 8 s.free).toNat % 101)
  | 0xD, 0x558 => some (s.stages.cto.toNat + 256 * s.stages.ctf.toNat)
  | 0xE, 0x006 => some (let t := Tab.get (fun _ => 0) s.rxAt i
      if t = 0 then 65535 else min 65535 (s.since (t - 1) / 400000))
  | _, _ => none

/-! ### A READ -/

/-- The value that a READ of a key returns (R406). -/
def State.readEntry (s : State) (k : Nat) : Nat :=
  let a := keyArea k
  let e := keyEntry k
  let i := keyElem k
  (if a ≤ 3 then s.readLow a e i else if a ≤ 5 then s.readMid a e i else if a ≤ 8 then s.readAnalog a e i
    else s.readHigh a e i).getD (s.getKey k)

/-- The entry reads a free value. -/
def freeEntry (k : Nat) : Bool := (keyArea k == 6 && keyEntry k == 0x020) || (keyArea k == 0xC && keyEntry k == 0x049)

/-- What a READ does beside its response: a record counts as read (R301), a job slot in a final state is freed (R94), and the next
reading of a free value is another one. -/
def State.readEffect (s : State) (k : Nat) : State :=
  let a := keyArea k
  let e := keyEntry k
  let i := keyElem k
  if a = 0xA ∧ e = 0x100 then (if (s.scAt i).used then s.setSc i { s.scAt i with read := true } else s)
  else if a = 0xA ∧ e = 0x021 then
    match s.flt.latch.find? (fun l => l.slot == i) with
    | some l => if l.hasRec then s.updRec l.seq (fun r => { r with read := true }) else s
    | none => s
  else if a = 2 ∧ e = 0x090 then
    (if 4 ≤ s.en 2 0x090 i then s.put 2 0x090 i 0 else s)
  else s.whenS (freeEntry k) State.tick

/-- The bytes of a READ (R399). -/
def State.readBytes (s : State) (k : Nat) (r : EntRow) : List Byte := wireBytes r.ty (s.readEntry k)

/-- READ (R406): after the checks of R401. -/
def doRead (q : Req) (key : BitVec 24) (s : State) : State :=
  let k := key.toNat
  s.serve q 2 k 0x0102 (fun s =>
    match s.readCheck q.ses.val k with
    | .error e => s.refuse q 2 k e
    | .ok r => (s.respond q 2 0 0 k (s.readBytes k r)).readEffect k)

/-! ### NEXT_KEY, DESCRIBE, READ_RANGE (R406) -/

/-- The listed entries of an area in rising order of key: each row's runs of elements. -/
def areaRuns (a : Nat) : List (Nat × Nat) :=
  (areaEntries a).flatMap (fun r => (List.range r.cnt).map (fun c => (mkKey a (r.ent0 + r.stride * c) 0, r.n)))

/-- The lowest listed key above k. Area F exists only at FACTORY level, and no chapter lists its keys. -/
def nextOf (k : Nat) : Option Nat :=
  ((List.range 15).flatMap areaRuns).foldl (fun (best : Option Nat) (p : Nat × Nat) =>
    let c := if k < p.1 then some p.1 else if k + 1 < p.1 + p.2 then some (k + 1) else none
    match best, c with
    | none, c => c
    | some b, some c => some (min b c)
    | some b, none => some b) none

/-- NEXT_KEY. -/
def doNextKey (q : Req) (key : BitVec 24) (s : State) : State :=
  s.serve q 4 key.toNat 0x0201 (fun s =>
    match nextOf key.toNat with
    | some k => s.respond q 4 0 0 k []
    | none => s.refuse q 4 key.toNat ⟨errNoSuchKey, 0⟩)

/-- The access code of DESCRIBE. -/
def Access.code : Access → Nat
  | .ro => 0 | .rw => 1 | .wo => 2 | .rwi => 3

/-- The entries whose Default column is empty: every WO entry, and the RO entries whose value is the part's own. -/
def noDefault (r : EntRow) (e : Nat) : Bool :=
  r.acc == .wo || (r.area == 0 && [0x001, 0x002, 0x003, 0x004].contains e) || (r.area == 0xC && e == 0x011)
    || (r.area == 3 && [0x020, 0x032].contains e) || (r.area == 0xA && e == 0x100)

/-- DESCRIBE: it names the entry, for any level that may access it. -/
def doDescribe (q : Req) (key : BitVec 24) (s : State) : State :=
  let k := key.toNat
  s.serve q 5 k 0x0201 (fun s =>
    match entRow k with
    | none => s.refuse q 5 k ⟨errNoSuchKey, 0⟩
    | some r =>
      if s.level q.ses.val < r.level + 1 then s.refuse q 5 k ⟨errLevel, 0⟩
      else
        let head : List Byte := [BitVec.ofNat 8 (r.ty.code + 16 * r.acc.code + 64 * b2n r.kept), BitVec.ofNat 8 r.level, BitVec.ofNat 8 (r.n - 1)]
        s.respond q 5 0 0 k (head ++ if noDefault r (keyEntry k) then [] else wireBytes r.ty (entDefault k)))

/-- READ_RANGE: `n` elements in one snapshot; each passes the checks of a READ. Where elements fail different checks, the error of the first failing
element is answered: DESIGN CHOICE (log entry 65). -/
def doReadRange (q : Req) (key : BitVec 24) (n : BitVec 8) (s : State) : State :=
  let k := key.toNat
  let ks := (List.range n.toNat).map (fun i => k + i)
  s.serve q 9 k 0x0202 (fun s =>
    if (entRow k).isNone then s.refuse q 9 k ⟨errNoSuchKey, 0⟩
    else if n = 0 ∨ 32 < n.toNat then s.refuse q 9 k ⟨errRange, 0⟩
    else if 256 < keyElem k + n.toNat then s.refuse q 9 k ⟨errNoSuchKey, 0⟩
    else
      let rs := ks.map (fun j => s.readCheck q.ses.val j)
      match rs.findSome? (fun r => match r with | .error e => some e | .ok _ => none) with
      | some e => s.refuse q 9 k e
      | none =>
        if rs.any (fun r => match r with | .ok r => r.ty == .blob | .error _ => false) then s.refuse q 9 k ⟨errType, 0⟩
        else
          let body := ks.flatMap (fun j => match entRow j with | some r => s.readBytes j r | none => [])
          ks.foldl State.readEffect (s.respond q 9 0 0 k body))

end Sys2Proof.Machine
end

