-- ==== Sys2Proof/Machine/Write.lean ====
section
/-! DEFINITION. A WRITE of any entry (R401): what the rules of each chapter refuse beside an entry's own range, what a write does at once
beside storing its value, and the entries whose write is a command of its own. -/

namespace Sys2Proof.Machine

/-! ### Refusals by the value alone: RANGE (R401, step 6) -/

/-- A slot of a sequence names channel 15. -/
def namesCh15 (c0 c1 len : Nat) : Bool :=
  (List.range len).any (fun m => (if m < 12 then c0 / 16 ^ m else c1 / 16 ^ (m - 12)) % 16 == 15)

/-! ### Refusals by other entries and resources (R401, steps 5 and 7) -/

/-- The nominal values of a generator keep the edge budget (R118). -/
def nominalOk (dtr dtf minp period : Nat) : Bool := decide (dtr + dtf + 2 * minp < period * 32)

/-- The edge budget of generator `g` with one nominal value replaced. -/
def State.genBudget (s : State) (g : Nat) (e v : Nat) : Bool :=
  let f (n : Nat) : Nat := if n = e then v else s.en 4 n g
  nominalOk (f 0x012) (f 0x013) (f 0x014) (if e = 0x030 then v else s.en 4 0x030 (g / 4))

/-- Every placed task on a source passes R72 and R76 with the source's period replaced (R75). -/
def State.sourceOk (s : State) (src ticks : Nat) : Bool :=
  let per (n : Nat) : Nat := if n = src then ticks else s.srcTicks n
  let ts := (List.range 96).filter (fun t => (s.task t).placed && s.dc 2 0x013 t == src)
  ts.all (fun t => timingOk (s.inForce t) per
    && s.feasible (s.task t).engine (s.testStep ((s.task t).engine / 4)) (s.en 2 0x054 0) per [])

/-- SYNC, PHASE and PERIOD fit (R105). DESIGN CHOICE (log entry 61): a SYNC write is also refused where the cluster's own PHASE is not below the
nominal PERIOD of the master it names, which the list of refused writes does not say. -/
def State.syncOk (s : State) (c e v : Nat) : Bool :=
  let slaves := (List.range 12).filter (fun d => s.en 4 0x031 d == c)
  if e = 0x031 then v == 0xFF || (v != c && s.en 4 0x031 v == 0xFF && slaves.isEmpty && decide (s.en 4 0x032 c < s.en 4 0x030 v))
  else if e = 0x032 then s.en 4 0x031 c == 0xFF || decide (v < s.en 4 0x030 (s.en 4 0x031 c))
  else slaves.all (fun d => decide (s.en 4 0x032 d < v))

/-- A placed engine stays feasible with another DENSITY_MAX (R100). -/
def State.densityOk (s : State) (limit : Nat) : Bool :=
  (List.range 16).all (fun e => (s.engTasks e).isEmpty || s.feasible e (s.testStep (e / 4)) limit s.srcTicks [])

/-- The sequences of a converter keep to R185 and R183 with one entry of sequence `i` replaced. -/
def State.seqOk (s : State) (i e v : Nat) : Bool :=
  let f (n : Nat) : Nat := if n = e then v else s.en 7 n i
  let same := (List.range 8).any (fun k => 8 * (i / 8) + k != i && s.en 7 0x020 (8 * (i / 8) + k) == v && v != 0xFF)
  !(e == 0x020 && same) && !(decide (24 ≤ i) && namesCh15 (f 0x022) (f 0x023) (f 0x021))

/-- The latch groups keep to R196 with one OSR, or one mask, replaced. -/
def State.lgOk (s : State) (mask : Nat) (osr : Nat → Nat) : Bool :=
  let fs := (List.range 32).filter mask.testBit
  match fs with
  | [] => true
  | f :: r => r.all (fun h => osr h == osr f && s.genHolder h == s.genHolder f)

/-- The three bases of the dictionary keep to R391 with one replaced. -/
def State.basesOk (s : State) (e v : Nat) : Bool :=
  decide (v + 126 ≤ 0x7FF)
    && [0x014, 0x015, 0x016].all (fun n => n == e || decide (126 ≤ v - s.en 0xC n 0) || decide (126 ≤ s.en 0xC n 0 - v))

/-- A controller carries the dictionary, now or from the next start, or an enabled transmit map (R383). -/
def State.carries (s : State) (n : Nat) : Bool :=
  s.dictCan == n || s.en 0xC 0x012 0 == n || (List.range 32).any (fun m => s.en 0xE 0x200 m == 1 && s.en 0xE 0x201 m == n)

/-- The map that an entry of area E belongs to is enabled (R422): its ENABLE entry. -/
def mapEnable (k : Nat) : Option Nat :=
  let e := keyEntry k
  if e = 0x001 ∨ e = 0x002 ∨ e = 0x003 then some (mkKey 0xE 0x000 (keyElem k))
  else if 0x100 ≤ e ∧ e < 0x120 then some (mkKey 0xE 0x000 (e - 0x100))
  else if 0x201 ≤ e ∧ e ≤ 0x205 then some (mkKey 0xE 0x200 (keyElem k))
  else if 0x300 ≤ e ∧ e < 0x320 then some (mkKey 0xE 0x200 (e - 0x300))
  else if 0x400 ≤ e ∧ e < 0x420 then some (mkKey 0xE 0x200 (e - 0x400))
  else none

/-- The refusal of a rule that depends on other entries (R401, step 7, with the list of each chapter). -/
def State.ruleBreaks (s : State) (k v : Nat) : Bool :=
  let i := keyElem k
  match keyArea k, keyEntry k with
  | 2, 0x042 => decide (s.en 2 0x041 i < v)
  | 2, 0x054 => !s.densityOk v
  | 2, 0x060 => !s.sourceOk (128 + i) (400 * v)
  | 4, 0x012 => !s.genBudget i 0x012 v
  | 4, 0x013 => !s.genBudget i 0x013 v
  | 4, 0x014 => !s.genBudget i 0x014 v
  | 4, 0x030 => !(s.syncOk i 0x030 v && s.sourceOk i v && (List.range 4).all (fun j => s.genBudget (4 * i + j) 0x030 v))
  | 4, 0x031 => !s.syncOk i 0x031 v
  | 4, 0x032 => !s.syncOk i 0x032 v
  | 4, e => decide (0x040 ≤ e) && decide (e < 0x048) && (s.clHolder i).isSome
  | 7, 0x020 => !s.seqOk i 0x020 v
  | 7, 0x021 => !s.seqOk i 0x021 v
  | 7, 0x022 => !s.seqOk i 0x022 v
  | 7, 0x023 => !s.seqOk i 0x023 v
  | 7, 0x040 => (List.range 16).any (fun g => (s.en 7 0x051 g).testBit i
      && !s.lgOk (s.en 7 0x051 g) (fun f => if f = i then v else s.en 7 0x040 f))
  | 7, 0x051 => !s.lgOk v (fun f => s.en 7 0x040 f)
  | 8, 0x014 => s.en 8 0x015 i == 1 && decide (v < 4)
  | 8, 0x015 => v == 1 && decide (s.en 8 0x014 i < 4)
  | 9, 0x046 => decide (asInt 16 v < s.enS 16 9 0x045 i)
  | 9, 0x051 => decide (asInt 16 v < s.enS 16 9 0x050 i)
  | 0xC, 0x012 => s.en 0xC 0x021 v == 1
  | 0xC, 0x014 => !s.basesOk 0x014 v
  | 0xC, 0x015 => !s.basesOk 0x015 v
  | 0xC, 0x016 => !s.basesOk 0x016 v
  | 0xC, 0x021 => v == 1 && s.carries i
  | 0xA, 0x302 => !s.boot.factory
  | _, _ => false

/-- The refusals beside the checks of an entry's type and listed values. -/
def State.writeWhy (s : State) (k v : Nat) : Option Err :=
  if outOfRange k v then some ⟨errRange, 0⟩
  else if (mapEnable k).any (fun m => s.getKey m == 1) then some ⟨errWrongState, s.dev⟩
  else if s.ruleBreaks k v then some ⟨errRefused, 0⟩ else none

/-- GVDD_EN = 0 is refused while a stage that binds a half-bridge is ARMED, RUN or RAMPDOWN. -/
def State.writeArmed (s : State) (k v : Nat) : Option Nat :=
  if k = mkKey 6 0x003 0 ∧ v = 0 then lowStage (fun g => s.hbStages.contains g && (s.stg g).st.live) else none

/-! ### What a write does at once -/

/-- Configuration words that a lane delivers at its next training, or repeats before its stage leaves PRECHECK (R165, R172): bit `b` of what is
due. -/
def State.markDue (s : State) (l b : Nat) : State :=
  s.setLane l { s.lane l with cfgDue := (s.lane l).cfgDue ||| 2 ^ b }

/-- The configuration words that an entry of a sequence or a comparator is part of (R193): the converter or group, their first address and
the words. -/
def State.cfgOf (s : State) (k : Nat) : Option (Nat × Nat × List Word) :=
  let i := keyElem k
  let e := keyEntry k
  if keyArea k ≠ 7 then none
  else if 0x020 ≤ e ∧ e ≤ 0x023 then some (i / 8, 0x40 + 4 * (i % 8), s.seqCfg (i / 8) (i % 8))
  else if e = 0x060 ∨ e = 0x063 ∨ e = 0x064 ∨ e = 0x065 then
    some (cwGroup i, 0x60 + 2 * (i % 12), (s.cwCfg (cwGroup i) (i % 12)).take 1)
  else if e = 0x061 ∨ e = 0x062 then
    some (cwGroup i, 0x61 + 2 * (i % 12), (s.cwCfg (cwGroup i) (i % 12)).drop 1)
  else none

/-- The effect of a write beside its value: lanes and links owe their satellites the new words; sequence and comparator words are sent at once
(R193); SD_ENABLE = 0 releases the lane's source (R197). GVDD_EN = 0 turns GVDD off, which its refusals imply (DEDUCED, log entry 62). -/
def State.writeEffect (s : State) (k : Nat) : State :=
  let i := keyElem k
  let e := keyEntry k
  match keyArea k with
  | 5 =>
    if e = 0x031 then s.sdRelease i
    else if (0x100 ≤ e ∧ e < 0x120) ∨ e = 0x040 ∨ (0x200 ≤ e ∧ e < 0x240) then s.markDue i 0 else s
  | 6 => if k = mkKey 6 0x003 0 then (if s.getKey k = 0 then s.gvddOff else s)
    else if (entRow k).any (fun r => r.fol == .hb) then s.markDue (32 + i / 3) (i % 3) else s
  | 7 =>
    let s := if e = 0x061 ∨ e = 0x062 then
        s.setCw i { s.cw i with pend := true, clamped := false, reqHi := BitVec.ofNat 10 (s.en 7 0x061 i), reqLo := BitVec.ofNat 10 (s.en 7 0x062 i) }
      else s
    match s.cfgOf k with
    | some (d, a, ws) => s.sendCfgWord d a ws
    | none => s
  | 8 => if 0x020 ≤ e ∧ e ≤ 0x022 then qeIndexSee s i else s
  | _ => s

/-- A checked write of an entry whose words an ACTIVE link lane carries (R193): sent at once, its response follows the readback. -/
def State.writeAcross (s : State) (q : Req) (k v d a : Nat) : State :=
  if 32 ≤ s.nvm.queue.length + s.acq.waits.length then s.refuse q opWrite k ⟨errBusy, 0⟩
  else
    let old := s.getKey k
    let s := (s.putKey k v).writeEffect k
    let ws := match s.cfgOf k with
      | some x => x.2.2
      | none => []
    ({ s with acq := { s.acq with waits := s.acq.waits ++ [⟨q, k, old, d, a, ws⟩] } } : State).holdTag q

/-- A WRITE of an entry that has no command of its own: checked, applied and journalled (R401, R402). -/
def State.writePlain (s : State) (q : Req) (k v : Nat) : State :=
  match s.cfgOf k with
  | some (d, a, _) =>
    if (s.lane (32 + d)).st = .active then
      s.serve q opWrite k 0 (fun s =>
        match s.writeCheck q.ses.val k v 0 (s.writeArmed k v), s.writeWhy k v with
        | .error e, _ => s.refuse q opWrite k e
        | .ok _, some e => s.refuse q opWrite k e
        | .ok _, none => s.writeAcross q k v d a)
    else s.dictWriteR q k v 0 (fun s => s.writeArmed k v) (fun s => s.writeWhy k v) (fun s => s.writeEffect k)
  | none => s.dictWriteR q k v 0 (fun s => s.writeArmed k v) (fun s => s.writeWhy k v) (fun s => s.writeEffect k)

/-! ### Process maps (R422) -/

/-- The items of a receive map: byte offset, length, signed, LEFT. -/
def State.rxItems (s : State) (m : Nat) : List (Nat × Nat × Bool × Bool) :=
  (List.range (s.en 0xE 0x003 m)).map (fun i =>
    let v := s.en 0xE (0x100 + m) i
    (v % 64, v / 64 % 4, v.testBit 8, v.testBit 9))

/-- The bytes that the items of a receive map reach. -/
def State.rxReach (s : State) (m : Nat) : Nat := (s.rxItems m).foldl (fun a x => max a (x.1 + x.2.1)) 0

/-- The keys and sizes of a transmit map's items. -/
def State.txItems (s : State) (m : Nat) : List (Nat × Nat) :=
  (List.range (s.en 0xE 0x205 m)).map (fun i => (s.en 0xE (0x300 + m) i, s.en 0xE (0x400 + m) i))

/-- An identifier as a map holds it is one of the dictionary's on the dictionary controller. -/
def State.isDictId (s : State) (n v : Nat) : Bool := n == s.dictCan && [s.reqId, s.rspId, s.ntfId].contains v

/-- The identifier of an enabled map on a controller, other than map `m` of its kind. -/
def State.idUsed (s : State) (n v m : Nat) (tx : Bool) : Bool :=
  (List.range 32).any (fun j =>
    (s.en 0xE 0x000 j == 1 && s.en 0xE 0x001 j == n && s.en 0xE 0x002 j == v && (tx || j != m))
      || (s.en 0xE 0x200 j == 1 && s.en 0xE 0x201 j == n && s.en 0xE 0x202 j == v && (!tx || j != m)))

/-- Enabling is refused with RANGE (R422): the items exceed `cap`, the identifier, or MONITOR mode. A format that a map does not state is
FD. -/
def State.mapBad (s : State) (m n ident reach cap : Nat) (tx : Bool) : Bool :=
  decide (cap < reach) || s.isDictId n ident || s.idUsed n ident m tx || s.en 0xC 0x021 n == 1

/-- The armed stages whose tasks bind a receive map. -/
def State.rxBinders (s : State) (m : Nat) : Option Nat :=
  lowStage (fun g => (s.stg g).st.armedRwi && (s.stageTasks g).any (fun t =>
    (List.range 8).any (fun b => s.dc 2 (0x024 + b) t / 2 ^ 20 == 11 && s.dc 2 (0x024 + b) t % 65536 == m)))

/-- RXM_ENABLE (R420, R422): an enabled map gets its block in a shared tile; without room it is refused. -/
def doRxmEnable (q : Req) (m : Fin 32) (v : BitVec 48) (s : State) : State :=
  let n := v.toNat
  let room (s : State) : Bool := s.en 0xE 0x004 m != 0 || (s.tileRun 96 (s.en 0xE 0x003 m)).isSome
  s.dictWriteR q (mkKey 0xE 0x000 m) n 0
    (fun s => if n = 0 ∧ s.en 0xE 0x000 m = 1 then s.rxBinders m else none)
    (fun s => if n = 1 ∧ s.en 0xE 0x000 m = 0 then
        (if s.mapBad m (s.en 0xE 0x001 m) (s.en 0xE 0x002 m) (s.rxReach m) 64 false then some ⟨errRange, 0⟩
          else if room s then none else some ⟨errRefused, 0⟩)
      else none)
    (fun s => if n = 0 then s.put 0xE 0x004 m 0 else if s.en 0xE 0x004 m = 0 then s.placeRxm m else s)

/-- TXM_ENABLE (R421, R422). -/
def doTxmEnable (q : Req) (m : Fin 32) (v : BitVec 48) (s : State) : State :=
  let n := v.toNat
  s.dictWriteR q (mkKey 0xE 0x200 m) n 0 (fun _ => none)
    (fun s => if n = 1 ∧ s.en 0xE 0x200 m = 0 ∧ s.mapBad m (s.en 0xE 0x201 m) (s.en 0xE 0x202 m)
        ((s.txItems m).foldl (fun a x => a + x.2) 0) (if s.en 0xE 0x203 m = 0 then 8 else 64) true then some ⟨errRange, 0⟩ else none) id

/-! ### The entries whose write is a command of its own -/

/-- STAGE_CMD (R237). -/
def State.stageCmdOf (s : State) (q : Req) (g : Fin 12) (v : Nat) : State :=
  match v with
  | 0 => doDeclare q g s
  | 1 => doRemove q g s
  | 2 => doArm q g s
  | 3 => doRun q g s
  | 4 => doStop q g s
  | 5 => doStageDisarm q g s
  | _ => doClear q g s

/-- DEV_CMD (R356). -/
def State.deviceCmd (s : State) (q : Req) (v : Nat) : State :=
  match v with
  | 0 => doWarmRestart q s
  | 1 => doSoftReset q s
  | 2 => doRestartNormal q s
  | 3 => doStandby q s
  | 4 => doPark q s
  | 5 => doWake q s
  | _ => doFactoryTest q s

/-- A write of a listed key with an accepted value, by the command it is. -/
def State.writeCmd (s : State) (q : Req) (k v : Nat) : State :=
  let i := keyElem k
  let w : BitVec 48 := BitVec.ofNat 48 v
  match keyArea k, keyEntry k with
  | 1, 0x010 => s.deviceCmd q v
  | 1, 0x030 => if v = 0 then doDefaults q s else doRejectPatches q s
  | 2, 0x030 => if v = 0 then doTaskDeclare q (Fin.ofNat 96 i) s else doTaskRemove q (Fin.ofNat 96 i) s
  | 2, 0x041 => doQuadFmax q (Fin.ofNat 4 i) w s
  | 2, 0x096 => doJobCancel q (Fin.ofNat 64 i) w s
  | 3, 0x031 => doKimgDelete q (BitVec.ofNat 24 v) s
  | 5, 0x010 => doLaneEnable q (Fin.ofNat 32 i) w s
  | 5, 0x012 => if v = 0 then doTrain q (Fin.ofNat 32 i) s else doRetrainCmd q (Fin.ofNat 32 i) s
  | 5, 0x041 => doSatRead q (Fin.ofNat 32 i) w s
  | 6, 0x030 => doOstCmd q (Fin.ofNat 12 i) s
  | 7, 0x068 => doCwCheckCmd q (Fin.ofNat 48 i) s
  | 8, 0x010 => doQeEnable q (Fin.ofNat 4 i) w s
  | 8, 0x03C => doQeRawrevClr q (Fin.ofNat 4 i) w s
  | 0xA, 0x010 => doClearCode q w s
  | 0xA, 0x011 => doClearAll q w s
  | 0xA, 0x300 => doInjCode q w s
  | 0xA, 0x301 => doInjSource q w s
  | 0xB, 0x017 => doShedCmd q s
  | 0xB, 0x025 => doPatchFloorRaise q w s
  | 0xB, 0x050 => doOverrideWrite q 0 (BitVec.ofNat 8 i) w s
  | 0xB, 0x051 => doOverrideWrite q 1 (BitVec.ofNat 8 i) w s
  | 0xB, 0x052 => doOverrideWrite q 2 (BitVec.ofNat 8 i) w s
  | 0xB, 0x053 => doOvrClear q w s
  | 0xB, 0x073 => doOtpBurn q w s
  | 0xB, 0x074 => if v = 0 then doLock q (Fin.ofNat 3 i) s else doComplete q (Fin.ofNat 3 i) s
  | 0xB, 0x075 => doOtpAudit (some q) s
  | 0xC, 0x022 => if v = 0 then doCanStart q (Fin.ofNat 4 i) s else if v = 1 then doCanStop q (Fin.ofNat 4 i) s else doRecover q (Fin.ofNat 4 i) s
  | 0xD, 0x010 => s.stageCmdOf q (Fin.ofNat 12 i) v
  | 0xD, 0x150 => doIdCmd q (Fin.ofNat 12 i) s
  | 0xD, 0x15A => doIdApply q (Fin.ofNat 12 i) w s
  | 0xE, 0x000 => doRxmEnable q (Fin.ofNat 32 i) w s
  | 0xE, 0x200 => doTxmEnable q (Fin.ofNat 32 i) w s
  | 0xD, _ => if (entRow k).any (fun r => r.acc == .rw) then doParameterPost q (BitVec.ofNat 24 k) w s else s.writePlain q k v
  | _, _ => s.writePlain q k v

/-- A value of the wrong length (R399): TYPE, unless a check of R401 before it fails. -/
def State.writeType (s : State) (q : Req) (k : Nat) : State :=
  s.serve q opWrite k 0 (fun s =>
    match s.writeCheck q.ses.val k (s.getKey k) 0 none with
    | .error e => s.refuse q opWrite k (if e.code = errRange then ⟨errType, 0⟩ else e)
    | .ok _ => s.refuse q opWrite k ⟨errType, 0⟩)

/-- A write of `len` bytes that hold `v`: of a fixed-size entry. -/
def State.writeKey (s : State) (q : Req) (k len v : Nat) : State :=
  match entRow k with
  | none => s.writePlain q k v
  | some r =>
    if r.acc = .ro then s.writePlain q k v
    else if r.ty = .blob ∨ len ≠ r.ty.bytes then s.writeType q k
    else if r.accepts v then s.writeCmd q k v else s.writePlain q k v

/-- WRITE (R401). -/
def doWrite (q : Req) (key : BitVec 24) (len : BitVec 8) (v : BitVec 48) (s : State) : State :=
  s.writeKey q key.toNat len.toNat (v.toNat % 2 ^ (8 * len.toNat))

/-- Words of an image from its bytes. -/
def bytesWords : Nat → List Byte → List Word
  | 0, _ => []
  | n + 1, l => BitVec.ofNat 24 (ofBytes (l.take 3)) :: bytesWords n (l.drop 3)

/-- The image that a BLOB value carries (R399): a 3-byte length, then the bytes of whole words. -/
def blobWords (l : List Byte) : Option (List Word) :=
  let n := ofBytes (l.take 3)
  if l.length = n + 3 ∧ n % 3 = 0 then some (bytesWords (n / 3) (l.drop 3)) else none

/-- A write whose value came whole, as bytes. -/
def State.writeValue (s : State) (q : Req) (k : Nat) (l : List Byte) : State :=
  if (entRow k).any (fun r => r.ty == .blob && r.acc == .wo) then
    match blobWords l with
    | none => s.writeType q k
    | some w => if keyArea k = 3 then doKimgLoad q w s else doPatchLoad q w s
  else s.writeKey q k l.length (ofBytes l)

end Sys2Proof.Machine
end

