-- ==== Sys2Proof/WellFormed.lean ====
section
/-! DEFINITION. The commands that a sender can send: the lengths of their list operands, and the frames that a CAN bus has. Every
other limit of an operand is in its type. The meanings are total: they answer for an ill-formed command too. -/

namespace Sys2Proof

/-- The payload lengths that have a data length code (R378). -/
def dlcLengths : List Nat := [0, 1, 2, 3, 4, 5, 6, 7, 8, 12, 16, 20, 24, 32, 48, 64]

/-- A frame that the controllers' ISO 11898-1 has (R378): its length has a data length code, a classical frame has at most 8 bytes and
no bit rate switch, and a base identifier has 11 bits. -/
def CanFrame.ok (f : CanFrame) : Bool :=
  dlcLengths.contains f.data.length && (f.fdf || (decide (f.data.length ≤ 8) && !f.brs)) && (f.ide || decide (f.ident.toNat < 2048))

/-- Well-formed commands: a mailbox record of 1 to 32 words (R62); 124 boundary cells (R446); CFG frames of at most 7 words, TEST
of 24 characters (R145); 1 to 4 triggers of an ADC_TRIG (R187); the results that fit an ADC_RES and an HK_RES beside their
first words (R145, R192, R194); 12 and 4 die sensors (R314); a value of at most 6 bytes (R399); 1 to 61 bytes of a segment (R407);
and a MAC of 32 bytes (R412). -/
def Instr.wf : Instr → Bool
  | .mailboxRecordComplete _ _ _ _ words => decide (1 ≤ words.length ∧ words.length ≤ 32)
  | .extest bits => bits.length == 124
  | .samplePreload sampled shifted => sampled.length == 124 && shifted.length == 124
  | .cfgWr _ _ data _ => decide (1 ≤ data.length ∧ data.length ≤ 7)
  | .cfgRsp _ _ _ data .. => decide (data.length ≤ 7)
  | .test _ _ payload _ => payload.length == 24
  | .adcTrig _ trigs _ => decide (1 ≤ trigs.length ∧ trigs.length ≤ 4)
  | .adcRes _ _ _ _ results _ => decide (results.length ≤ 5)
  | .hkRes _ results _ => decide (results.length ≤ 7)
  | .slowRound die => decide (die.length ≤ 12)
  | .fastRound bank => decide (bank.length ≤ 4)
  | .canFrameReceived _ frame => frame.ok
  | .write _ _ len _ => decide (len.toNat ≤ 6)
  | .segData _ _ data => decide (1 ≤ data.length ∧ data.length ≤ 61)
  | .unlock _ _ code => code.length == 32
  | .nop .. | .mov .. | .ldi .. | .movi .. | .mfs .. | .mts .. | .sev .. | .fence .. | .add .. | .adds .. | .sub .. | .subs ..
  | .neg .. | .abs .. | .min .. | .max .. | .and .. | .or .. | .xor .. | .not .. | .shl .. | .shr .. | .shli .. | .shri .. | .clamp ..
  | .norm .. | .mulw .. | .rcps .. | .rsqs .. | .csc .. | .cat .. | .cmp .. | .cmpu .. | .cmpi .. | .flog .. | .sel .. | .mul ..
  | .mac .. | .msu .. | .acld .. | .acadd .. | .acsh .. | .rnd .. | .acx .. | .ld .. | .st .. | .lda .. | .sta .. | .ldr .. | .str ..
  | .brk .. | .bra .. | .call .. | .jmpr .. | .ret .. | .loopi .. | .loopr .. | .waitev .. | .yield .. | .illegalOp ..
  | .fabricLoadReturn .. | .eventArrival .. | .waitevWake .. | .taskRelease .. | .budgetOverrun .. | .deadlineMiss .. | .mbackAck ..
  | .mbackClrOvr .. | .mbpost .. | .registerWrite .. | .halt .. | .step .. | .resumeEngine .. | .status .. | .readReg .. | .readPm ..
  | .idcode .. | .clampTest .. | .bypass .. | .kimgLoad .. | .kimgDelete .. | .taskDeclare .. | .taskRemove .. | .freeTimerExpiry ..
  | .refereeRound .. | .quadSwitchOn .. | .quadFmax .. | .stateCopyDone .. | .jobStep .. | .jobCancel .. | .jobSlotExpiry ..
  | .rallyMeasure .. | .commitGo .. | .commitRecognised .. | .cutoff .. | .reload .. | .triggerFire .. | .cbcTrip .. | .latchTrip ..
  | .blankTimerExpiry .. | .edgeTick .. | .clkLoss .. | .laneTransmit .. | .edgeOn .. | .edgeOff .. | .holdOff .. | .profileSet ..
  | .resume .. | .mark .. | .volley .. | .timeAdj .. | .nopCommand .. | .edgeExecute .. | .holdEnd .. | .holdTimeout .. | .laneKill ..
  | .killEnd .. | .killReceived .. | .trainReq .. | .trainSet .. | .cfgRd .. | .trainRsp .. | .trainAck .. | .statusFrame ..
  | .edgeTele .. | .alarm .. | .volleyRep .. | .satAlarm .. | .alarmTimeout .. | .volleyExchange .. | .volleyMiss .. | .laneLost ..
  | .laneMisaligned .. | .laneCodeErr .. | .sdSlot .. | .retrain .. | .trainStepTimeout .. | .laneEnable .. | .train ..
  | .retrainCmd .. | .satRead .. | .tadpoleHoldOff .. | .linkActivityLoss .. | .bankOff .. | .killInput .. | .killRelease ..
  | .holdSwitchClamp .. | .hbStp .. | .hbGateFault .. | .hbVds .. | .hbBstWarn .. | .hbBstUv .. | .gvddRampDone .. | .gvddOverload ..
  | .ostCmd .. | .ostSettleEnd .. | .scheduleDue .. | .sequenceStart .. | .sequenceEnd .. | .adcResultTimeout .. | .ftTriggerSend ..
  | .adswt .. | .hkConversion .. | .sdLatchCentred .. | .cwWireChange .. | .cwthr .. | .cwthrApply .. | .cwCheckCmd ..
  | .cwReadback .. | .qeInputChange .. | .qePendingDecide .. | .qeEdge .. | .qeIndex .. | .qeSpeedCheck .. | .qcmpPulseEnd ..
  | .qeEnable .. | .qposRead .. | .clrRawrev .. | .qeRawrevClr .. | .posSet .. | .cttgt .. | .ctcfg .. | .declare .. | .remove ..
  | .arm .. | .run .. | .stop .. | .stageDisarm .. | .clear .. | .rampDone .. | .stageRampTimeout .. | .parameterPost ..
  | .statusMirror .. | .idCmd .. | .idApply .. | .contactorFail .. | .contactorOpen .. | .starCtOpened .. | .eftCtWeld ..
  | .faultReport .. | .faultRequest .. | .reactionComplete .. | .reactUnconfirmed .. | .tripMatrixSource .. | .clearCode ..
  | .clearAll .. | .scorecardCopy .. | .okayReadback .. | .notificationSend .. | .injCode .. | .injSource .. | .injectionEnd ..
  | .analogShutdown .. | .supplyWarn .. | .supplyWarnRelease .. | .deferEnd .. | .supplyReset .. | .journalWrite ..
  | .journalCommit .. | .shedCmd .. | .patchLoad .. | .patchFloorRaise .. | .overrideWrite .. | .ovrClear .. | .otpBurn .. | .lock ..
  | .complete .. | .otpAudit .. | .por .. | .pinReset .. | .watchdog .. | .lockstepError .. | .resetRelease .. | .bootStepComplete ..
  | .bootStepTimeout .. | .bootFail .. | .bootRetry .. | .startCounterClear .. | .warmRestart .. | .softReset .. | .restartNormal ..
  | .standby .. | .standbyEntered .. | .wakeEvent .. | .park .. | .wake .. | .factoryTest .. | .defaults .. | .rejectPatches ..
  | .canStart .. | .canStop .. | .recover .. | .canIntegrated .. | .canTxDone .. | .canArbitrationLost .. | .canError ..
  | .canRecovered .. | .canQueueLate .. | .txmPeriod .. | .rxmEnable .. | .txmEnable .. | .localTransaction .. | .localPortReset ..
  | .hello .. | .read .. | .nextKey .. | .describe .. | .segNext .. | .abort .. | .readRange .. | .challenge .. | .lockSession ..
  | .segTimeout .. | .serviceTimeout .. | .authLockoutEnd .. | .storedResponseExpiry .. | .jobProgress .. | .clockReturn ..
  | .fabricStoreAck .. | .analogShutdownRelease .. | .contactorFeedbackChange .. | .bstUvRelease .. | .standbyQueueTimeout ..
  | .adcSlotEnd .. | .edgeTimeReached .. | .receiverLock ..
    => true

end Sys2Proof
end

