-- ==== Sys2Proof/Machine/Protocol.lean ====
section
/-! DEFINITION. The Relben protocol (16_dictionary_protocol.md): sessions, transfers in segments, the unlocking of a level, request
frames, reception on CAN, the LOCAL port, notifications as they leave, and process maps. -/

namespace Sys2Proof.Machine

/-! ### Sessions (R411) -/

/-- The transport is served (R355, R424): not in BOOT and STANDBY, and LOCAL only where LOCAL_ENABLE was 1 at the start. -/
def State.served (s : State) (ses : Nat) : Bool :=
  !(s.dev == devBoot || s.dev == devStandby || (ses == 1 && s.dc 0 0x021 0 == 0))

/-- The job that a transfer feeds ends FAILED with the transfer's error (R408, R450). -/
def State.segJobFails (s : State) (g : Seg) (e : Nat) : State :=
  let i := g.tag.toNat
  let fed := g.write && ((entRow g.key).any (fun r => r.ty == .blob)) && (s.jobAt i).any (fun j => s.en 2 0x091 i == g.key && (j.kind == .kimgLoad || j.kind == .patchLoad))
  if fed then s.endJob i 5 e else s

/-- The transfers of a session in segments are ABORTED (R411). -/
def State.abortSegs (s : State) (n : Nat) : State :=
  let l := (s.sess n).segs
  let s := s.setSess n { s.sess n with segs := [] }
  l.foldl (fun s g => (s.bump (mkKey 0 0x015 n) 65535).segJobFails g errAborted) s

/-- Work that a session owned goes on with no one to answer: jobs keep their slots (R411). -/
def State.disown (s : State) (n : Nat) : State :=
  let other (o : Option Req) : Option Req := o.filter (fun q => q.ses.val != n)
  { s with
    ref := { s.ref with job := s.ref.job.map (fun (p : Nat × Job) => (p.1, { p.2 with owner := other p.2.owner })) }
    nvm := { s.nvm with queue := s.nvm.queue.map (fun r => { r with owner := other r.owner }) } }

/-- A session ends (R411): its transfers, its tags and its unsent responses, those in buffers not on the wire among them. START
(R361) and RECOVERED (R415) wait for the next session. -/
def State.endSession (s : State) (n : Nat) : State :=
  let s := (s.abortSegs n).disown n
  let x := s.sess n
  let s := s.setSess n { Sess.none with
    num := x.num, helloed := x.helloed, fails := x.fails, lockout := x.lockout
    notif := x.notif.filter (fun m => m.ntype == 1 || m.ntype == 7) }
  let s := (s.put 0 0x012 n 0).put 0 0x013 n 0
  if n = 0 then
    let d := s.dictCan
    let c := s.can d
    s.setCan d ((List.range 24).foldl (fun c b => if c.wire = some b then c else c.setBuf b TxBuf.empty) c)
  else s

/-- The versions of the protocol, highest first (R411). -/
def versions : List Nat := [0x0204, 0x0203, 0x0202, 0x0201, 0x0200, 0x0102]

/-- HELLO (R411): the session of the transport ends, and one of the highest common version opens at OPERATOR level; without one the
answer is VERSION. STANDBY under way refuses it (R369). -/
def doHello (ses : Fin 2) (tag : BitVec 6) (lo hi : BitVec 16) (s : State) : State :=
  let q : Req := ⟨ses, tag, false⟩
  let n := ses.val
  if !s.served n then s
  else if s.boot.standby ≠ 0 then s.refuse q 1 0 ⟨errRefused, 0⟩
  else
    let s := s.endSession n
    let x := s.sess n
    let num := if x.helloed then x.num + 1 else x.num
    let s := s.setSess n { x with num := num, helloed := true }
    match versions.find? (fun v => decide (lo.toNat ≤ v) && decide (v ≤ hi.toNat)) with
    | none => s.refuse q 1 0 ⟨errVersion, 0⟩
    | some v =>
      let s := (s.put 0 0x012 n v).put 0 0x013 n 1
      s.respond q 1 0 0 0 [BitVec.ofNat 8 (v / 256), BitVec.ofNat 8 v, BitVec.ofNat 8 s.node, BitVec.ofNat 8 s.dev, num,
        fields 8 [(b2n (s.dev == devTadpole), 0), (b2n s.boot.factory, 1)]]

/-! ### Transfers in segments (R407, R408) -/

/-- The transfer of a tag. -/
def State.segOf (s : State) (q : Req) (write : Bool) : Option Seg :=
  (s.sess q.ses.val).segs.find? (fun g => g.tag == q.tag && g.write == write)

/-- A transfer ends. -/
def State.dropSeg (s : State) (n : Nat) (g : Seg) : State :=
  let x := s.sess n
  s.setSess n { x with segs := x.segs.filter (fun h => !(h.tag == g.tag && h.write == g.write)) }

/-- A transfer changes. -/
def State.setSeg (s : State) (n : Nat) (g : Seg) : State :=
  let x := s.sess n
  s.setSess n { x with segs := x.segs.map (fun h => if h.tag = g.tag ∧ h.write = g.write then g else h) }

/-- A response of a transfer leaves; the tag and the stored response stay as they are. -/
def State.sendSeg (s : State) (q : Req) (body : List Byte) : State :=
  let x := s.sess q.ses.val
  s.setSess q.ses.val { x with resp := x.resp ++ [⟨q.tag, 6, 0, 0, 0, body⟩] }

/-- A transfer fails (R408): it ends, is counted, its job ends FAILED, and the error is answered. -/
def State.segFail (s : State) (q : Req) (g : Seg) (e : Nat) : State :=
  let n := q.ses.val
  (((s.dropSeg n g).bump (mkKey 0 0x015 n) 65535).segJobFails g e).refuse q g.op g.key ⟨e, 0⟩

/-! ### Unlocking (R412) -/

/-- The bytes of a nonce or a key as numbers. -/
def natBytes (v n : Nat) : List Nat := (beBytes v n).map (·.toNat)

/-- The SERVICE key: CUSTOMER words 0x0B to 0x15. -/
def State.serviceWords (s : State) : List Word := (List.range 11).map (fun i => s.otpRead 2 (0x0B + i))

/-- No word of the SERVICE key is burned. -/
def State.serviceUnburned (s : State) : Bool := (List.range 11).all (fun i => s.otp 2 (0x0B + i) == 0)

/-- The key of a level: 1 SERVICE, 2 FACTORY. -/
def State.authKey (s : State) (level : Nat) : List Nat :=
  if level = 2 then natBytes Config.factoryKey.toNat 32
  else if s.serviceUnburned then List.replicate 32 0
  else (wordsBytes s.serviceWords).take 32

/-- The MAC that unlocks a level: over nonce, serial number, session number, level and node. -/
def State.macOf (s : State) (n nonce level : Nat) : List Nat :=
  hmac (s.authKey level)
    (natBytes nonce 16 ++ wordsBytes [s.otpRead 1 2, s.otpRead 1 3] ++ [(s.sess n).num.toNat, level, s.node])

/-- CHALLENGE: the nonce is a free value. -/
def doChallenge (q : Req) (level : BitVec 8) (s : State) : State :=
  let n := q.ses.val
  s.serve q 10 0 0x0200 (fun s =>
    let x := s.sess n
    if level ≠ 1 ∧ level ≠ 2 then s.refuse q 10 0 ⟨errRange, 0⟩
    else match x.lockout with
      | some e => s.refuse q 10 0 ⟨errLockout, ((BitVec.ofNat 48 e - s.t48).toNat + 399999) / 400000⟩
      | none =>
        if level = 1 ∧ s.regionOk 2 = false then s.refuse q 10 0 ⟨errRefused, 0⟩
        else
          let v := (Config.free 128 s.free).toNat
          (s.tick.setSess n { x with nonce := some (v, level.toNat, s.t48.toNat) }).respond q 10 0 0 0 (beBytes v 16))

/-- An UNLOCK fails: it is counted, and CHALLENGE is locked out for 1 s, from the fifth failure on for 60 s. -/
def State.authFail (s : State) (q : Req) : State :=
  let n := q.ses.val
  let x := s.sess n
  let f := x.fails + 1
  let x : Sess := { x with nonce := none, fails := f, lockout := some (s.t48.toNat + (if 5 ≤ f then 60 else 1) * 400000000) }
  ((s.setSess n x).bump (mkKey 0 0x016 n) 65535).refuse q 11 0 ⟨errAuth, 0⟩

/-- UNLOCK: the nonce of the level, issued at most 10 s ago, serves once. -/
def State.unlockWith (s : State) (q : Req) (level : Nat) (mac : List Byte) : State :=
  let n := q.ses.val
  let x := s.sess n
  match x.nonce with
  | none => s.authFail q
  | some (v, l, t) =>
    if l ≠ level ∨ 4000000000 < s.since t ∨ mac.map (·.toNat) ≠ s.macOf n v level then s.authFail q
    else
      let s := (s.setSess n { x with nonce := none, fails := 0 }).put 0 0x013 n (level + 1)
      (s.whenS (level == 1 && s.serviceUnburned) (·.report 0x0C1206)).respond q 11 0 0 0 []

/-- UNLOCK (R412). -/
def doUnlock (q : Req) (level : BitVec 8) (mac : List Byte) (s : State) : State :=
  s.serve q 11 0 0x0200 (fun s => s.unlockWith q level.toNat mac)

/-- LOCK: the session returns to OPERATOR (R406). -/
def doLockSession (q : Req) (s : State) : State :=
  s.serve q 12 0 0x0200 (fun s => (s.put 0 0x013 q.ses.val 1).respond q 12 0 0 0 [])

/-- SERVICE_TIMEOUT (R412): a level above OPERATOR is left. -/
def doServiceTimeout (ses : Fin 2) (s : State) : State := if 2 ≤ s.level ses.val then s.put 0 0x013 ses.val 1 else s

/-- AUTH_LOCKOUT_END (R412). -/
def doAuthLockoutEnd (ses : Fin 2) (s : State) : State := s.setSess ses.val { s.sess ses.val with lockout := none }

/-- STORED_RESPONSE_EXPIRY (R409). -/
def doStoredResponseExpiry (ses : Fin 2) (tag : BitVec 6) (s : State) : State :=
  let x := s.sess ses.val
  s.setSess ses.val { x with stored := x.stored.filter (fun r => r.tag != tag) }

/-! ### A transfer to the device -/

/-- The entry takes an image (R408). -/
def imageKey (k : Nat) : Bool := (entRow k).any (fun r => r.ty == .blob && r.acc == .wo)

/-- The words of an image that the bytes of a value hold so far. -/
def imageSoFar (l : List Byte) : List Word := bytesWords ((l.length - 3) / 3) (l.drop 3)

/-- The job of an image gets the words that have arrived. -/
def State.feed (s : State) (q : Req) (g : Seg) : State :=
  let i := q.tag.toNat
  match s.jobAt i with
  | some j => if imageKey g.key && s.en 2 0x091 i == g.key && j.owner.any (fun o => o.ses == q.ses && o.tag == q.tag) then s.setJob i { j with data := imageSoFar g.data } else s
  | none => s

/-- A transfer to the device is complete (R408): the request is acted on. An image's job runs already: its response carries JOB, and the
tag stays in use while the job lives (R409). -/
def State.segDone (s : State) (q : Req) (g : Seg) : State :=
  let n := q.ses.val
  let s := s.dropSeg n g
  let i := q.tag.toNat
  if g.op = opWrite ∧ imageKey g.key then
    if (blobWords g.data).isNone then (s.segJobFails g errType).refuse q g.op g.key ⟨errType, 0⟩
    else
      let live := (s.jobAt i).isSome && s.en 2 0x091 i == g.key
      let s := s.respond q opWrite 0 0 g.key (statusBody 0 true 0)
      if live then s.holdTag q else s
  else
    let x := s.sess n
    let s := s.setSess n { x with inUse := x.inUse.filter (· != q.tag) }
    if g.op = opWrite then s.writeValue q g.key g.data
    else s.unlockWith q (ofBytes (g.data.take 1)) (g.data.drop 1)

/-- The first frame of a transfer to the device (R407): `total` is L. A write of an image starts its job now, with L known; its response
comes at the end. -/
def State.segStart (s : State) (q : Req) (op k total : Nat) (l : List Byte) : State :=
  let n := q.ses.val
  let g : Seg := ⟨q.tag, op, k, true, total, 0, 0, 0, l.take total⟩
  let begin (s : State) : State :=
    let s := s.holdTag q
    let x := s.sess n
    let s := s.setSess n { x with segs := g :: x.segs.filter (fun h => h.tag != q.tag) }
    let s := s.feed q g
    if total ≤ g.data.length then s.segDone q g else s
  s.serve q op k (if op = opWrite then 0x0102 else 0x0200) (fun s =>
    if op = opWrite ∧ imageKey k then
      if total < 3 ∨ total % 3 ≠ 0 then s.writeType q k
      else
        let z : List Word := List.replicate ((total - 3) / 3) 0
        let t := if keyArea k = 3 then doKimgLoad q z s else doPatchLoad q z s
        if (t.jobAt q.tag.toNat).any (fun j => j.owner.any (fun o => o.ses == q.ses && o.tag == q.tag)) ∧ !s.slotBusy q.tag.toNat then
          let x := s.sess n
          begin (t.setSess n { t.sess n with resp := x.resp, stored := x.stored })
        else t
    else begin s)

/-- SEG_DATA (R407, R408): acknowledged after every 8th; the last answers the request. Without a transfer it has no effect. -/
def doSegData (q : Req) (counter : BitVec 8) (data : List Byte) (s : State) : State :=
  match s.segOf q true with
  | none => s.serve q 6 0 0x0102 id
  | some g =>
    if counter ≠ g.counter + 1 then s.segFail q g errSegSequence
    else
      let g : Seg := { g with counter := counter, data := (g.data ++ data).take g.total }
      let s := (s.setSeg q.ses.val g).feed q g
      if g.total ≤ g.data.length then s.segDone q g
      else if counter - g.acked = 8 then (s.setSeg q.ses.val { g with acked := counter }).sendSeg q [counter]
      else s

/-- The next segments of a transfer from the device, `n` at most. -/
def State.sendSegs (s : State) (q : Req) (g : Seg) (cap : Nat) : Nat → State
  | 0 => s.setSeg q.ses.val g
  | n + 1 =>
    if g.total ≤ g.sent then s.dropSeg q.ses.val g
    else
      let c := g.counter + 1
      let s := s.sendSeg q (c :: (g.data.drop g.sent).take cap)
      let g : Seg := { g with counter := c, sent := min g.total (g.sent + cap) }
      if g.total ≤ g.sent then s.dropSeg q.ses.val g else s.sendSegs q g cap n

/-- SEG_NEXT (R407). -/
def doSegNext (q : Req) (n : BitVec 8) (s : State) : State :=
  s.serve q 7 0 0x0102 (fun s =>
    match s.segOf q false with
    | none => s.refuse q 7 0 ⟨errSegSequence, 0⟩
    | some g =>
      if n = 0 ∨ 8 < n.toNat then s.refuse q 7 g.key ⟨errRange, 0⟩
      else
        let m := q.ses.val
        s.sendSegs q g (segCap (s.ver m == 0x0102) (s.fmtOf m ⟨q.tag, 7, 0, 0, 0, []⟩)) n.toNat)

/-- ABORT (R406, R408): a transfer to the device is answered ABORTED; then ABORT is answered. -/
def doAbort (q : Req) (s : State) : State :=
  let n := q.ses.val
  match s.segOf q true with
  | some g => (s.segFail q g errAborted).respond q 8 0 0 g.key []
  | none =>
    s.serve q 8 0 0x0102 (fun s =>
      match s.segOf q false with
      | some g => ((s.dropSeg n g).bump (mkKey 0 0x015 n) 65535).respond q 8 0 0 g.key []
      | none => s.respond q 8 0 0 0 [])

/-- SEG_TIMEOUT (R408). -/
def doSegTimeout (ses : Fin 2) (tag : BitVec 6) (s : State) : State :=
  match (s.sess ses.val).segs.find? (fun g => g.tag == tag) with
  | some g => s.segFail ⟨ses, tag, false⟩ g errSegTimeout
  | none => s

/-! ### Request frames (R403, R411, R413) -/

/-- A request of the wrong form (R403). -/
def State.badFrame (s : State) (q : Req) (op k : Nat) : State := s.serve q op k 0 (fun s => s.refuse q op k ⟨errFormat, 0⟩)

/-- A body of `n` bytes, or what a frame padded to the next data length code leaves of one. -/
def bodyIs (head n len : Nat) : Bool := len == head + n || len == dlcUp (head + n)

/-- The bytes of a value in a frame: padding after a whole value falls away. -/
def trimValue (k head : Nat) (l : List Byte) : List Byte :=
  match entRow k with
  | none => l
  | some r =>
    let n := if r.ty == .blob then 3 + ofBytes (l.take 3) else r.ty.bytes
    if n ≤ l.length ∧ bodyIs head n (head + l.length) then l.take n else l

/-- A frame of a 2.x session (R403). -/
def State.frame2 (s : State) (ses : Fin 2) (l : List Byte) : State :=
  let b0 := (l.getD 0 0).toNat
  let b1 := (l.getD 1 0).toNat
  let op := b0 % 64
  let q : Req := ⟨ses, BitVec.ofNat 6 b1, decide (b0 / 64 % 2 = 1)⟩
  let seg := decide (128 ≤ b0)
  let k := ofBytes ((l.drop 2).take 3)
  let key : BitVec 24 := BitVec.ofNat 24 k
  let body := l.drop 5
  let bad := s.badFrame q op k
  let plain (n : Nat) : Bool := !seg && bodyIs 5 n l.length
  let arg : BitVec 8 := body.getD 0 0
  if l.length < 2 then s
  else if 64 ≤ b1 then bad
  else if op = 6 then (if !seg ∧ 3 < l.length then doSegData q (l.getD 2 0) (l.drop 3) s else bad)
  else if l.length < 5 then bad
  else if seg then
    if (op = 3 ∨ (op = 11 ∧ k = 0)) ∧ 8 ≤ l.length then s.segStart q op k (ofBytes (body.take 3)) (body.drop 3) else bad
  else match op with
    | 2 => if plain 0 then doRead q key s else bad
    | 3 => s.writeValue q k (trimValue k 5 body)
    | 4 => if plain 0 then doNextKey q key s else bad
    | 5 => if plain 0 then doDescribe q key s else bad
    | 7 => if plain 1 then doSegNext q arg s else bad
    | 8 => if plain 0 then doAbort q s else bad
    | 9 => if plain 1 then doReadRange q key arg s else bad
    | 10 => if plain 1 ∧ k = 0 then doChallenge q arg s else bad
    | 11 => if plain 33 ∧ k = 0 then doUnlock q arg ((body.drop 1).take 32) s else bad
    | 12 => if plain 0 ∧ k = 0 then doLockSession q s else bad
    | _ => bad

/-- A frame of a 1.2 session (R413). -/
def State.frame12 (s : State) (ses : Fin 2) (l : List Byte) : State :=
  let b0 := (l.getD 0 0).toNat
  let q : Req := ⟨ses, BitVec.ofNat 6 (b0 % 16), false⟩
  let k := ofBytes ((l.drop 1).take 3)
  let body := l.drop 4
  let long := decide (4 ≤ l.length)
  if l.length = 0 then s
  else match b0 / 16 with
    | 1 => if long then doRead q (BitVec.ofNat 24 k) s else s.badFrame q 2 k
    | 2 => if long then s.writeValue q k (trimValue12 k body) else s.badFrame q 3 k
    | 3 => if 2 < l.length then doSegData q (l.getD 1 0) (l.drop 2) s else s.badFrame q 6 0
    | 4 => if 5 ≤ l.length then doSegNext q (l.getD 4 0) s else s.badFrame q 7 k
    | 5 => doAbort q s
    | 6 => if 7 ≤ l.length then s.segStart q 3 k (ofBytes (body.take 3)) [] else s.badFrame q 3 k
    | _ => s.badFrame q 0 k
where
  /-- The value of a 1.2 WRITE is left-aligned in at most 4 bytes. -/
  trimValue12 (k : Nat) (l : List Byte) : List Byte :=
    match entRow k with
    | none => l
    | some r => if r.ty != .blob ∧ l.length = 4 ∧ r.ty.bytes ≤ 4 then l.take r.ty.bytes else l

/-- A HELLO frame (R411): eight bytes, the last two 0. -/
def State.helloFrame (s : State) (ses : Fin 2) (l : List Byte) : State :=
  let b1 := (l.getD 1 0).toNat
  let w (i : Nat) : BitVec 16 := BitVec.ofNat 16 (ofBytes ((l.drop i).take 2))
  if l.length = 8 ∧ b1 < 64 ∧ w 6 = 0 then doHello ses (BitVec.ofNat 6 b1) (w 2) (w 4) s
  else if s.served ses.val then s.refuse ⟨ses, BitVec.ofNat 6 b1, false⟩ 1 0 ⟨errFormat, 0⟩
  else s

/-- The first classical frame other than HELLO opens a 1.2 session at OPERATOR level (R411). -/
def State.open12 (s : State) : State := (s.put 0 0x012 0 0x0102).put 0 0x013 0 1

/-- A request frame has been received on a transport, in a format (R391, R411). -/
def State.request (s : State) (ses : Fin 2) (l : List Byte) (fmt : Nat) : State :=
  let n := ses.val
  let b0 := (l.getD 0 0).toNat
  if !s.served n || l.isEmpty then s
  else if b0 = 1 then s.helloFrame ses l
  else
    let s := if s.ver n = 0 ∧ n = 0 ∧ fmt = 0 then s.open12 else s
    let x := s.sess n
    let tag := if s.ver n = 0x0102 then b0 % 16 else (l.getD 1 0).toNat % 64
    let s := if s.tagInUse n (BitVec.ofNat 6 tag) then s
      else s.setSess n { x with fmt := Tab.set (fun _ => 2) x.fmt tag fmt }
    if s.ver n = 0x0102 then s.frame12 ses l else s.frame2 ses l

/-! ### Reception on CAN (R388, R420) -/

/-- The receive maps of a controller that take a frame (R388, R420). -/
def State.rxMaps (s : State) (n : Nat) (f : CanFrame) : List Nat :=
  (List.range 32).filter (fun m => s.en 0xE 0x000 m == 1 && s.en 0xE 0x001 m == n
    && s.en 0xE 0x002 m % 2 ^ 30 == f.ident.toNat + 2 ^ 29 * b2n f.ide)

/-- The word of an item of a received frame (R420). -/
def rxWord (l : List Byte) (x : Nat × Nat × Bool × Bool) : Word :=
  let n := x.2.1
  let v := ofBytes ((l.drop x.1).take n)
  let w := if x.2.2.1 then BitVec.ofInt 24 (asInt (8 * n) v) else BitVec.ofNat 24 v
  if x.2.2.2 then w <<< (24 - 8 * n) else w

/-- A receive map takes a frame (R420). -/
def State.rxTake (s : State) (m : Nat) (f : CanFrame) : State :=
  if f.data.length < s.rxReach m then s.bump (mkKey 0xE 0x007 m) 65535
  else
    let a := s.en 0xE 0x004 m
    let s := if a = 0 then s
      else ((s.rxItems m).zipIdx).foldl (fun s (p : (Nat × Nat × Bool × Bool) × Nat) => s.setMemWord 0 (a + p.2) (rxWord f.data p.1)) s
    let s := s.bump (mkKey 0xE 0x005 m) 0xFFFFFF
    let s : State := { s with rxAt := Tab.set (fun _ => 0) s.rxAt m (s.t48.toNat + 1) }
    s.raiseEv (412 + m)

/-- A frame joins a FIFO, or is discarded where 32 wait (R388). -/
def State.rxStore (s : State) (n : Nat) (first : Bool) (f : CanFrame) : State :=
  let c := s.can n
  let x : RxF := ⟨f, s.t24⟩
  if 32 ≤ (if first then c.rf0 else c.rf1).length then s.bump (mkKey 0xC 0x046 n) 65535
  else s.setCan n (if first then { c with rf0 := c.rf0 ++ [x] } else { c with rf1 := c.rf1 ++ [x] })

/-- The supervisor takes every frame of both FIFOs (R18, R388, R420). -/
def State.rxDrain (s : State) (n : Nat) : State :=
  let c := s.can n
  if s.dev = devBoot ∨ s.dev = devStandby then s
  else
    let s := s.setCan n { c with rf0 := [], rf1 := if s.dev = devTadpole then c.rf1 else [] }
    let s := c.rf0.foldl (fun s x => s.request 0 x.frame.data (b2n x.frame.fdf + b2n x.frame.brs)) s
    if s.dev = devTadpole then s
    else c.rf1.foldl (fun s x => (s.rxMaps n x.frame).foldl (fun s m => s.rxTake m x.frame) s) s

/-- A frame was received without error: ISO 11898-1 lowers REC, from 128 to a value between 119 and 127 (R389). The counters stand
while the controller only integrates (log entry 53). -/
def State.rxGood (s : State) (n : Nat) : State :=
  let c := s.can n
  if c.monitor ∨ c.st = .integrating then s
  else if 128 ≤ c.rxErr then (s.tick.setCan n { c with rxErr := 119 + (Config.free 8 s.free).toNat % 9 }).canJudge n
  else (s.setCan n { c with rxErr := c.rxErr - 1 }).canJudge n

/-- CAN_FRAME_RECEIVED (R382, R388): a frame of another node, which an integrating controller takes too. One with this node's response
or notification identifier raises DUP_NODE_ID at once (R392). -/
def doCanFrameReceived (n : Fin 4) (frame : CanFrame) (s : State) : State :=
  let c := s.can n
  if (c.st ≠ .errorActive ∧ c.st ≠ .errorPassive ∧ c.st ≠ .integrating) ∨ s.canClock = false ∨ frame.ok = false then s
  else
    let s := s.rxGood n
    let s := s.whenS (n.val == s.dictCan && !frame.ide && (frame.ident.toNat == s.rspId || frame.ident.toNat == s.ntfId))
      (·.report (0x0D0004 + 256 * n.val))
    let s := s.whenS (n.val == s.dictCan && !frame.ide && frame.ident.toNat == s.reqId) (fun s => s.rxStore n true frame)
    let s := s.whenS (!(s.rxMaps n frame).isEmpty) (fun s => s.rxStore n false frame)
    (s.rxDrain n).canKick n

/-! ### Transmit maps (R421) -/

/-- The low bytes of the value of an item. -/
def State.txBytes (s : State) (x : Nat × Nat) : List Byte :=
  let v := s.readEntry x.1
  let w : Int := match entRow x.1 with
    | some r => r.ty.value v
    | none => 0
  beBytes (BitVec.ofInt (8 * x.2) w).toNat x.2

/-- TXM_PERIOD (R421): the items are read in one step and the frame is written into MB(32 + m). -/
def doTxmPeriod (m : Fin 32) (s : State) : State :=
  let n := s.en 0xE 0x201 m
  let c := s.can n
  let off := s.dev = devBoot ∨ s.dev = devTadpole ∨ s.dev = devStandby
  if s.en 0xE 0x200 m = 0 ∨ c.st = .off ∨ c.monitor ∨ off then s
  else
    let items := s.txItems m
    let v := s.en 0xE 0x202 m
    let f := mkFrame (v % 2 ^ 29) (v.testBit 29) (s.en 0xE 0x203 m) (items.flatMap s.txBytes)
    let s := items.foldl (fun s (x : Nat × Nat) => s.whenS (freeEntry x.1) State.tick) s
    ((s.loadTx n (32 + m.val) f).bump (mkKey 0xE 0x206 m) 0xFFFFFF).canKick n

/-! ### Notifications leave (R306, R415) -/

/-- The notification of a queue that leaves next: the earliest T48. -/
def State.nextNotif (s : State) (l : List Notif) : Option (Notif × List Notif) :=
  let m := l.foldl (fun a x => max a (s.since x.t48)) 0
  let i := l.findIdx (fun x => s.since x.t48 == m)
  l[i]?.map (fun x => (x, l.eraseIdx i))

/-- The frame of a notification in a session: its 2.x form, or its 1.x form where the session or a CLASSIC format asks for it. -/
def State.notifFrame (s : State) (ses : Nat) (x : Notif) : Option (List Byte) :=
  if s.ver ses = 0x0102 ∨ (ses = 0 ∧ s.canEnt 0x013 0 = 0) then notif12 x else some (s.notif2 ses x)

/-- NOTIFICATION_SEND (R306, R415): into a free buffer of MB24 to MB31, or into the queue of the LOCAL port. A type that the 1.x form
lacks leaves nothing. -/
def doNotificationSend (ses : Fin 2) (s : State) : State :=
  let n := ses.val
  let x := s.sess n
  let d := s.dictCan
  let c := s.can d
  match s.nextNotif x.notif with
  | none => s
  | some (m, rest) =>
    let room := if n = 0 then (if c.st = .off ∨ c.monitor then none else (List.range 8).find? (fun b => (c.buf (24 + b)).free))
      else if s.en 0 0x023 0 = 1 then some 0 else none
    match room with
    | none => s
    | some b =>
      if s.ver n = 0 ∨ !s.served n then s
      else
        match s.notifFrame n m with
        | none => s.setSess n { x with notif := rest }
        | some l =>
          let full := decide (15 ≤ l.length)
          let s := s.setSess n { x with notif := rest, nseq := if full then x.nseq + 1 else x.nseq, lost := if full then 0 else x.lost }
          if n = 0 then
            (s.loadTx d (24 + b) (mkFrame s.ntfId false (if full then s.canEnt 0x013 0 else 0) l)).canKick d
          else { s with lport := { s.lport with queue := s.lport.queue ++ [l] } }

/-! ### The LOCAL port (R404, R405) -/

/-- A LOCAL port reset (R405): the session ends, the transmit queue empties, and the responses discarded are counted for RECOVERED (R415), which a 2.x
session on CAN gets too and the next session on LOCAL. -/
def State.localReset (s : State) : State :=
  let lost := (s.sess 1).resp.length + (if s.lport.kind = 1 then 1 else 0)
  let s := s.endSession 1
  let s : State := { s with lport := ⟨0, 0, [], false, []⟩ }
  let x := s.sess 1
  let n : Notif := ⟨s.t48.toNat, 7, 0, 1 :: beBytes (min 65535 lost) 2⟩
  (s.setSess 1 { x with notif := x.notif ++ [n] }).whenS (decide (0x0200 ≤ s.ver 0)) (·.notifyOne 0 n)

/-- LOCAL_PORT_RESET (R405). -/
def doLocalPortReset (s : State) : State := if s.served 1 then s.localReset else s

/-- The next frame is prepared where none is waiting: responses first, then notifications. -/
def State.localLoad (s : State) : State :=
  if s.lport.kind ≠ 0 then s
  else match s.takeResp 1 with
    | some (l, _, t) => { t with lport := { t.lport with kind := 1, out := l, sent := false } }
    | none =>
      match s.lport.queue with
      | [] => s
      | l :: r => { s with lport := { s.lport with kind := 2, out := l, sent := false, queue := r } }

/-- The 68 bytes that the device sends (R404). -/
def State.localMiso (s : State) : List Byte :=
  let more := !(s.sess 1).resp.isEmpty || !s.lport.queue.isEmpty
  let l := s.lport.out.take 64
  let b : List Byte := [BitVec.ofNat 8 (0x50 + s.lport.kind), BitVec.ofNat 8 (l.length + 128 * b2n more)] ++ l ++ List.replicate (64 - l.length) 0
  b ++ beBytes (crc16 b).toNat 2

/-- The level of nLIRQ: low while a frame waits. -/
def State.nLirq (s : State) : Bool := s.lport.kind == 0 && (s.sess 1).resp.isEmpty && s.lport.queue.isEmpty

/-- The 68 bytes from the host hold (R404). -/
def localOk (l : List Byte) : Bool :=
  let b0 := (l.getD 0 0).toNat
  l.length == 68 && ofBytes (l.drop 66) == (crc16 (l.take 66)).toNat
    && (b0 == 0xFF || (b0 / 16 == 0xA && decide ((l.getD 1 0).toNat % 128 ≤ 64)))

/-- A discarded transaction is counted; the eighth in a row resets the port (R404, R405). -/
def State.localBad (s : State) : State :=
  let s := s.bump (mkKey 0 0x022 0) 65535
  let s : State := { s with lport := { s.lport with bad := s.lport.bad + 1 } }
  if 8 ≤ s.lport.bad then (s.localReset).report 0x0D1006 else s

/-- LOCAL_TRANSACTION (R404): the device's frame is kept until a valid transaction after the one that carried it says that it was not
refused. -/
def doLocalTransaction (bytes : List Byte) (s : State) : State :=
  if !s.served 1 then s
  else
    let s := s.localLoad
    let had := s.lport.sent
    let s : State := { s with lport := { s.lport with sent := s.lport.kind != 0 } }
    if !localOk bytes then s.localBad
    else
      let b0 := (bytes.getD 0 0).toNat
      let s : State := { s with lport := { s.lport with bad := 0 } }
      if b0 = 0xFF then s.localReset
      else
        let s : State := if had && !b0.testBit 1 then { s with lport := { s.lport with kind := 0, out := [], sent := false } } else s
        let s := if b0.testBit 0 then s.request 1 ((bytes.drop 2).take ((bytes.getD 1 0).toNat % 128)) 1 else s
        s.localLoad

end Sys2Proof.Machine
end

