-- ==== Sys2Proof/Machine/Receive.lean ====
section
/-! DEFINITION. The receivers at the level of the characters (R136, R137, R145, R146): one code group arrives at the device or at the P-die, and
what it completes has the effect of its command or frame. -/

namespace Sys2Proof.Machine

/-! ### What a completed frame does -/

/-- A frame with a right CRC takes its effect at the device. Its characters have come one by one, so the receiver stays where they left it. A type
that does not travel upstream has none. -/
def State.upBytes (s : State) (l : Fin 36) (ty : Byte) (p : List Byte) (t4 : EdgeTime) : State :=
  let ws := wordsOf p
  let w (k : Nat) : Word := ws.getD k 0
  let fcs := frameCrc ty.toNat p
  let d : Fin 4 := Fin.ofNat 4 (l.val - 32)
  let s1 : State :=
    match ty.toNat with
    | 0x03 => doTest l true p fcs s
    | 0x81 => doTrainRsp l ((w 0).extractLsb' 16 8) ((w 0).setWidth 16) (w 1) (w 2 ++ w 3) (w 4) fcs s
    | 0x82 => doTrainAck l ((w 0).extractLsb' 16 8) ((w 0).setWidth 16) fcs s
    | 0x90 => doCfgRsp l ((w 0).setWidth 8) ((w 0).getLsbD 12) (ws.drop 1) fcs ((w 0).extractLsb' 8 3) s
    | 0xA0 => doStatusFrame l (w 0) (w 1) (w 2) (w 3) fcs s
    | 0xA1 => doEdgeTele l (w 0) (w 1) (w 2) fcs s
    | 0xA2 => doAlarm l (w 0) (w 1) fcs s
    | 0xA3 => doVolleyRep l ((w 0).setWidth 6) ((w 2).extractLsb' 16 8 ++ w 1) ((w 2).extractLsb' 8 8 ++ w 3) t4 fcs s
    | 0xB0 => if 32 ≤ l.val then doAdcRes d (w 0) (w 1) (w 2) (ws.drop 3) fcs s else s
    | 0xB1 => if l.val = 32 then doHkRes (w 0) (ws.drop 1) fcs s else s
    | _ => s
  s1.setRx l (s.rx l)

/-- A frame with a right CRC takes its effect at the P-die. -/
def State.downBytes (s : State) (d : Fin 4) (ty : Byte) (p : List Byte) : State :=
  let ws := wordsOf p
  let w (k : Nat) : Word := ws.getD k 0
  let fcs := frameCrc ty.toNat p
  let trig (k : Nat) : TrigWord := ⟨(w (2 * k)).setWidth 7, (w (2 * k)).getLsbD 7, (w (2 * k)).extractLsb' 16 8 ++ w (2 * k + 1)⟩
  match ty.toNat with
  | 0x01 => doTrainReq d ((w 0).extractLsb' 16 8) ((w 0).setWidth 16) fcs s
  | 0x02 => doTrainSet d ((w 0).extractLsb' 16 8) ((w 0).setWidth 16) fcs s
  | 0x03 => doTest ⟨32 + d.val, by omega⟩ false p fcs s
  | 0x10 => doCfgWr d ((w 0).setWidth 8) (ws.drop 1) fcs s
  | 0x11 => doCfgRd d ((w 0).setWidth 8) ⟨((w 0).extractLsb' 8 3).toNat, by omega⟩ fcs s
  | 0x20 => doAdcTrig d ((List.range (ws.length / 2)).map trig) fcs s
  | _ => s

/-- Six data characters are an edge command (R137 to R139). -/
def State.downCommand (s : State) (d : Fin 4) (w : BitVec 48) : State :=
  let x := edgeFields w
  let side := x.2.1
  let prof := x.2.2.1
  let seq := x.2.2.2.1
  let t := x.2.2.2.2
  match x.1.toNat with
  | 1 => doEdgeOn d side prof seq t s
  | 2 => doEdgeOff d side prof seq t s
  | 3 => doHoldOff d side prof seq t s
  | 4 => doProfileSet d side prof seq t s
  | 5 => doResume d side prof seq t s
  | 6 => doMark d side prof seq t s
  | 7 => doVolley d side prof seq t s
  | 8 => doTimeAdj d side prof seq t s
  | _ => doNopCommand d w s

/-! ### One code group at a receiver -/

/-- The P-die takes a code group: a code error is counted and spoils what it lies in (R136, R137). -/
def State.downGroup (s : State) (d : Fin 4) (g : BitVec 10) : State :=
  let x := s.dl d
  let c := readGroup x.rxRd g
  let r := x.asm.take false c
  let s := s.setDl d { x with
    asm := r.1, rxRd := rdAfter 10 x.rxRd g.toNat, codeErr := if c = none then x.codeErr + 1 else x.codeErr
    crcErr := if r.2 = .discarded ∧ x.asm.frame.isSome then x.crcErr + 1 else x.crcErr }
  match r.2 with
  | .command w => s.downCommand d w
  | .frame ty p => s.downBytes d ty p
  | .kill => doKillReceived d s
  | _ => s

/-- A character completes something at the device: a frame takes its effect, K28.1 is an alarm (R154), K28.7 is timestamped (R150): the phase
within the tick is free. -/
def State.upDone (s : State) (l : Fin 36) (x : Asmd) : State :=
  match x with
  | .frame ty p => s.upBytes l ty p (s.rx l).markAt
  | .kill => doSatAlarm l s
  | .mark => (s.setRx l { s.rx l with markAt := s.nowT + (Config.free 5 s.free).setWidth 32 }).tick
  | _ => s

/-- The frame in progress on a link lane is lost: its characters have left the P-die, and an ALARM frame has been sent all the same (R143). -/
def State.upLost (s : State) (l : Nat) : State :=
  if l < 32 then s
  else match (s.dl (l - 32)).up with
    | [] => s
    | f :: _ => (if f.ty = 0xA2 then s.alarmSent l else s).upPop l f.ty

/-- The device takes a code group in the next slot of the lane (R146): eight modulator bits in a sigma-delta slot, the alignment comma where one is
expected, and payload elsewhere. A code error is counted (R156); it replaces a modulator slot (R154) and spoils a frame (R137). -/
def State.upGroup (s : State) (l : Fin 36) (g : BitVec 10) : State :=
  let x := s.rx l
  let kind := x.kind (decide (32 ≤ l.val)) (s.lane l).gen
  let c := readGroup x.rd g
  let y := { x with rd := rdAfter 10 x.rd g.toNat, slot := (x.slot + 1) % 64 }
  let s := (s.setRx l y).whenS (c == none) (·.codeError l)
  match kind with
  | .sigmaDelta =>
    match c with
    | some (.data b) => s.sdSlot l b false
    | _ => s.sdSlot l 0 true
  | .alignment => s.commaSeen l (c == some (.special .comma))
  | .payload =>
    let r := x.asm.take false c
    let s := s.setRx l { s.rx l with asm := r.1 }
    let bad := r.2 == .discarded && c == some (.special .eof) && !x.asm.spoiled
    let s := s.whenS bad (fun s => s.setLane l { s.lane l with crcErr := min 0xFFFFFF ((s.lane l).crcErr + 1) })
    (s.whenS (r.2 == .discarded && x.asm.frame.isSome) (·.upLost l)).upDone l r.2

/-- LANE_CODE_ERR (R136, R137, R156): a code group that the receiver cannot read, or whichever group `g` is, reaches the device, or the P-die where
`down` says so. One that lies in a frame on a link lane loses the frame that the P-die is sending. -/
def doLaneCodeErr (l : Fin 36) (inFrame : Bool) (g : BitVec 10) (down : Bool) (s : State) : State :=
  if down then (if h : 32 ≤ l.val then s.downGroup ⟨l.val - 32, by omega⟩ g else s)
  else
    let lost := inFrame && decide (32 ≤ l.val) && readGroup (s.rx l).rd g == none && (s.rx l).asm.frame.isNone
    (s.upGroup l g).whenS lost (·.upLost l)

end Sys2Proof.Machine
end

