-- ==== Sys2Proof/Machine/Exec.lean ====
section
/-! DEFINITION. The meaning of each command as `exec` calls it: every command of the part answers a next state. The effects stand in the
files of their families. -/

namespace Sys2Proof.Machine

open Host

/-- NOP (R41). -/
def execNop (e : Fin 16) (c : BitVec 4) (s : State) : Outcome State Fault Refusal := .next (doNop e c s)
/-- MOV (R41). -/
def execMov (e : Fin 16) (c : BitVec 4) (rd : Fin 16) (rs : Fin 16) (m : BitVec 2) (s : State) : Outcome State Fault Refusal := .next (doMov e c rd rs m s)
/-- LDI (R41). -/
def execLdi (e : Fin 16) (c : BitVec 4) (rd : Fin 16) (imm : BitVec 10) (s : State) : Outcome State Fault Refusal := .next (doLdi e c rd imm s)
/-- MOVI (R41). -/
def execMovi (e : Fin 16) (c : BitVec 4) (rd : Fin 16) (imm : Word) (s : State) : Outcome State Fault Refusal := .next (doMovi e c rd imm s)
/-- MFS (R34). -/
def execMfs (e : Fin 16) (c : BitVec 4) (rd : Fin 16) (sreg : BitVec 6) (s : State) : Outcome State Fault Refusal := .next (doMfs e c rd sreg s)
/-- MTS (R34). -/
def execMts (e : Fin 16) (c : BitVec 4) (sreg : BitVec 6) (rs : Fin 16) (s : State) : Outcome State Fault Refusal := .next (doMts e c sreg rs s)
/-- SEV (R54). -/
def execSev (e : Fin 16) (c : BitVec 4) (n : BitVec 6) (s : State) : Outcome State Fault Refusal := .next (doSev e c n s)
/-- FENCE (R49). -/
def execFence (e : Fin 16) (c : BitVec 4) (s : State) : Outcome State Fault Refusal := .next (doFence e c s)
/-- ADD (R41). -/
def execAdd (e : Fin 16) (c : BitVec 4) (rd : Fin 16) (rs : Fin 16) (rt : Fin 16) (m : BitVec 2) (s : State) : Outcome State Fault Refusal := .next (doAdd e c rd rs rt m s)
/-- ADDS (R35). -/
def execAdds (e : Fin 16) (c : BitVec 4) (rd : Fin 16) (rs : Fin 16) (rt : Fin 16) (m : BitVec 2) (s : State) : Outcome State Fault Refusal := .next (doAdds e c rd rs rt m s)
/-- SUB (R41). -/
def execSub (e : Fin 16) (c : BitVec 4) (rd : Fin 16) (rs : Fin 16) (rt : Fin 16) (m : BitVec 2) (s : State) : Outcome State Fault Refusal := .next (doSub e c rd rs rt m s)
/-- SUBS (R35). -/
def execSubs (e : Fin 16) (c : BitVec 4) (rd : Fin 16) (rs : Fin 16) (rt : Fin 16) (m : BitVec 2) (s : State) : Outcome State Fault Refusal := .next (doSubs e c rd rs rt m s)
/-- NEG (R41). -/
def execNeg (e : Fin 16) (c : BitVec 4) (rd : Fin 16) (rs : Fin 16) (m : BitVec 2) (s : State) : Outcome State Fault Refusal := .next (doNeg e c rd rs m s)
/-- ABS (R41). -/
def execAbs (e : Fin 16) (c : BitVec 4) (rd : Fin 16) (rs : Fin 16) (m : BitVec 2) (s : State) : Outcome State Fault Refusal := .next (doAbs e c rd rs m s)
/-- MIN (R41). -/
def execMin (e : Fin 16) (c : BitVec 4) (rd : Fin 16) (rs : Fin 16) (rt : Fin 16) (m : BitVec 2) (s : State) : Outcome State Fault Refusal := .next (doMin e c rd rs rt m s)
/-- MAX (R41). -/
def execMax (e : Fin 16) (c : BitVec 4) (rd : Fin 16) (rs : Fin 16) (rt : Fin 16) (m : BitVec 2) (s : State) : Outcome State Fault Refusal := .next (doMax e c rd rs rt m s)
/-- AND (R41). -/
def execAnd (e : Fin 16) (c : BitVec 4) (rd : Fin 16) (rs : Fin 16) (rt : Fin 16) (m : BitVec 2) (s : State) : Outcome State Fault Refusal := .next (doAnd e c rd rs rt m s)
/-- OR (R41). -/
def execOr (e : Fin 16) (c : BitVec 4) (rd : Fin 16) (rs : Fin 16) (rt : Fin 16) (m : BitVec 2) (s : State) : Outcome State Fault Refusal := .next (doOr e c rd rs rt m s)
/-- XOR (R41). -/
def execXor (e : Fin 16) (c : BitVec 4) (rd : Fin 16) (rs : Fin 16) (rt : Fin 16) (m : BitVec 2) (s : State) : Outcome State Fault Refusal := .next (doXor e c rd rs rt m s)
/-- NOT (R41). -/
def execNot (e : Fin 16) (c : BitVec 4) (rd : Fin 16) (rs : Fin 16) (m : BitVec 2) (s : State) : Outcome State Fault Refusal := .next (doNot e c rd rs m s)
/-- SHL (R43). -/
def execShl (e : Fin 16) (c : BitVec 4) (rd : Fin 16) (rs : Fin 16) (rt : Fin 16) (m : BitVec 2) (s : State) : Outcome State Fault Refusal := .next (doShl e c rd rs rt m s)
/-- SHR (R43). -/
def execShr (e : Fin 16) (c : BitVec 4) (rd : Fin 16) (rs : Fin 16) (rt : Fin 16) (m : BitVec 2) (s : State) : Outcome State Fault Refusal := .next (doShr e c rd rs rt m s)
/-- SHLI (R43). -/
def execShli (e : Fin 16) (c : BitVec 4) (rd : Fin 16) (rs : Fin 16) (n : BitVec 5) (sgn : Bool) (s : State) : Outcome State Fault Refusal := .next (doShli e c rd rs n sgn s)
/-- SHRI (R43). -/
def execShri (e : Fin 16) (c : BitVec 4) (rd : Fin 16) (rs : Fin 16) (n : BitVec 5) (sgn : Bool) (s : State) : Outcome State Fault Refusal := .next (doShri e c rd rs n sgn s)
/-- CLAMP (R43). -/
def execClamp (e : Fin 16) (c : BitVec 4) (rd : Fin 16) (rs : Fin 16) (rt : Fin 16) (m : BitVec 2) (s : State) : Outcome State Fault Refusal := .next (doClamp e c rd rs rt m s)
/-- NORM (R43). -/
def execNorm (e : Fin 16) (c : BitVec 4) (rd : Fin 16) (rs : Fin 16) (m : BitVec 2) (s : State) : Outcome State Fault Refusal := .next (doNorm e c rd rs m s)
/-- MULW (R37). -/
def execMulw (e : Fin 16) (c : BitVec 4) (rd : Fin 16) (rs : Fin 16) (rt : Fin 16) (m : BitVec 2) (s : State) : Outcome State Fault Refusal := .next (doMulw e c rd rs rt m s)
/-- RCPS (R47). -/
def execRcps (e : Fin 16) (c : BitVec 4) (rd : Fin 16) (rs : Fin 16) (m : BitVec 2) (s : State) : Outcome State Fault Refusal := .next (doRcps e c rd rs m s)
/-- RSQS (R47). -/
def execRsqs (e : Fin 16) (c : BitVec 4) (rd : Fin 16) (rs : Fin 16) (m : BitVec 2) (s : State) : Outcome State Fault Refusal := .next (doRsqs e c rd rs m s)
/-- CSC (R46). -/
def execCsc (e : Fin 16) (c : BitVec 4) (rd : Fin 16) (rs : Fin 16) (m : BitVec 2) (s : State) : Outcome State Fault Refusal := .next (doCsc e c rd rs m s)
/-- CAT (R46). -/
def execCat (e : Fin 16) (c : BitVec 4) (rd : Fin 16) (rs : Fin 16) (rt : Fin 16) (m : BitVec 2) (s : State) : Outcome State Fault Refusal := .next (doCat e c rd rs rt m s)
/-- CMP (R44). -/
def execCmp (e : Fin 16) (c : BitVec 4) (fd : Fin 4) (rs : Fin 16) (rt : Fin 16) (cc : BitVec 2) (s : State) : Outcome State Fault Refusal := .next (doCmp e c fd rs rt cc s)
/-- CMPU (R44). -/
def execCmpu (e : Fin 16) (c : BitVec 4) (fd : Fin 4) (rs : Fin 16) (rt : Fin 16) (cc : BitVec 2) (s : State) : Outcome State Fault Refusal := .next (doCmpu e c fd rs rt cc s)
/-- CMPI (R44). -/
def execCmpi (e : Fin 16) (c : BitVec 4) (fd : Fin 4) (rs : Fin 16) (imm : BitVec 6) (cc : BitVec 2) (s : State) : Outcome State Fault Refusal := .next (doCmpi e c fd rs imm cc s)
/-- FLOG (R44). -/
def execFlog (e : Fin 16) (c : BitVec 4) (fd : Fin 4) (op : BitVec 2) (fa : Fin 4) (fb : Fin 4) (s : State) : Outcome State Fault Refusal := .next (doFlog e c fd op fa fb s)
/-- SEL (R41). -/
def execSel (e : Fin 16) (c : BitVec 4) (rd : Fin 16) (rs : Fin 16) (rt : Fin 16) (fc : Fin 4) (s : State) : Outcome State Fault Refusal := .next (doSel e c rd rs rt fc s)
/-- MUL (R36). -/
def execMul (e : Fin 16) (c : BitVec 4) (a : Fin 2) (rs : Fin 16) (rt : Fin 16) (m : BitVec 2) (s : State) : Outcome State Fault Refusal := .next (doMul e c a rs rt m s)
/-- MAC (R36). -/
def execMac (e : Fin 16) (c : BitVec 4) (a : Fin 2) (rs : Fin 16) (rt : Fin 16) (m : BitVec 2) (s : State) : Outcome State Fault Refusal := .next (doMac e c a rs rt m s)
/-- MSU (R36). -/
def execMsu (e : Fin 16) (c : BitVec 4) (a : Fin 2) (rs : Fin 16) (rt : Fin 16) (m : BitVec 2) (s : State) : Outcome State Fault Refusal := .next (doMsu e c a rs rt m s)
/-- ACLD (R41). -/
def execAcld (e : Fin 16) (c : BitVec 4) (a : Fin 2) (rs : Fin 16) (m : BitVec 2) (s : State) : Outcome State Fault Refusal := .next (doAcld e c a rs m s)
/-- ACADD (R41). -/
def execAcadd (e : Fin 16) (c : BitVec 4) (a : Fin 2) (m : BitVec 2) (s : State) : Outcome State Fault Refusal := .next (doAcadd e c a m s)
/-- ACSH (R45). -/
def execAcsh (e : Fin 16) (c : BitVec 4) (a : Fin 2) (n : BitVec 6) (s : State) : Outcome State Fault Refusal := .next (doAcsh e c a n s)
/-- RND (R37). -/
def execRnd (e : Fin 16) (c : BitVec 4) (rd : Fin 16) (a : Fin 2) (m : BitVec 2) (s : State) : Outcome State Fault Refusal := .next (doRnd e c rd a m s)
/-- ACX (R41). -/
def execAcx (e : Fin 16) (c : BitVec 4) (rd : Fin 16) (a : Fin 2) (m : BitVec 2) (s : State) : Outcome State Fault Refusal := .next (doAcx e c rd a m s)
/-- LD (R48). -/
def execLd (e : Fin 16) (c : BitVec 4) (rd : Fin 16) (p : Fin 4) (am : BitVec 2) (off : BitVec 6) (s : State) : Outcome State Fault Refusal := .next (doLd e c rd p am off s)
/-- ST (R48). -/
def execSt (e : Fin 16) (c : BitVec 4) (p : Fin 4) (rs : Fin 16) (am : BitVec 2) (off : BitVec 6) (s : State) : Outcome State Fault Refusal := .next (doSt e c p rs am off s)
/-- LDA (R41). -/
def execLda (e : Fin 16) (c : BitVec 4) (rd : Fin 16) (addr : Word) (s : State) : Outcome State Fault Refusal := .next (doLda e c rd addr s)
/-- STA (R41). -/
def execSta (e : Fin 16) (c : BitVec 4) (addr : Word) (rs : Fin 16) (s : State) : Outcome State Fault Refusal := .next (doSta e c addr rs s)
/-- LDR (R41). -/
def execLdr (e : Fin 16) (c : BitVec 4) (rd : Fin 16) (rs : Fin 16) (m : BitVec 2) (s : State) : Outcome State Fault Refusal := .next (doLdr e c rd rs m s)
/-- STR (R41). -/
def execStr (e : Fin 16) (c : BitVec 4) (rt : Fin 16) (rs : Fin 16) (m : BitVec 2) (s : State) : Outcome State Fault Refusal := .next (doStr e c rt rs m s)
/-- BRK (R54). -/
def execBrk (e : Fin 16) (c : BitVec 4) (s : State) : Outcome State Fault Refusal := .next (doBrk e c s)
/-- BRA (R50). -/
def execBra (e : Fin 16) (c : BitVec 4) (target : BitVec 13) (s : State) : Outcome State Fault Refusal := .next (doBra e c target s)
/-- CALL (R50). -/
def execCall (e : Fin 16) (c : BitVec 4) (target : BitVec 13) (s : State) : Outcome State Fault Refusal := .next (doCall e c target s)
/-- JMPR (R50). -/
def execJmpr (e : Fin 16) (c : BitVec 4) (rs : Fin 16) (m : BitVec 2) (s : State) : Outcome State Fault Refusal := .next (doJmpr e c rs m s)
/-- RET (R50). -/
def execRet (e : Fin 16) (c : BitVec 4) (s : State) : Outcome State Fault Refusal := .next (doRet e c s)
/-- LOOPI (R51). -/
def execLoopi (e : Fin 16) (c : BitVec 4) (off : BitVec 10) (count : Word) (s : State) : Outcome State Fault Refusal := .next (doLoopi e c off count s)
/-- LOOPR (R51). -/
def execLoopr (e : Fin 16) (c : BitVec 4) (rs : Fin 16) (off : BitVec 10) (s : State) : Outcome State Fault Refusal := .next (doLoopr e c rs off s)
/-- WAITEV (R52). -/
def execWaitev (e : Fin 16) (c : BitVec 4) (rd : Fin 16) (ext : Word) (s : State) : Outcome State Fault Refusal := .next (doWaitev e c rd ext s)
/-- YIELD (R54). -/
def execYield (e : Fin 16) (c : BitVec 4) (s : State) : Outcome State Fault Refusal := .next (doYield e c s)
/-- ILLEGAL_OP (R42). -/
def execIllegalOp (e : Fin 16) (s : State) : Outcome State Fault Refusal := .next (doIllegalOp e s)
/-- FABRIC_LOAD_RETURN (R25). -/
def execFabricLoadReturn (t : Fin 96) (k : Fin 4) (s : State) : Outcome State Fault Refusal := .next (doFabricLoadReturn t k s)
/-- EVENT_ARRIVAL (R28). -/
def execEventArrival (ev : Fin 512) (s : State) : Outcome State Fault Refusal := .next (doEventArrival ev s)
/-- WAITEV_WAKE (R53). -/
def execWaitevWake (t : Fin 96) (s : State) : Outcome State Fault Refusal := .next (doWaitevWake t s)
/-- TASK_RELEASE (R73). -/
def execTaskRelease (t : Fin 96) (s : State) : Outcome State Fault Refusal := .next (doTaskRelease t s)
/-- BUDGET_OVERRUN (R57). -/
def execBudgetOverrun (t : Fin 96) (s : State) : Outcome State Fault Refusal := .next (doBudgetOverrun t s)
/-- DEADLINE_MISS (R58). -/
def execDeadlineMiss (t : Fin 96) (s : State) : Outcome State Fault Refusal := .next (doDeadlineMiss t s)
/-- MAILBOX_RECORD_COMPLETE (R62). -/
def execMailboxRecordComplete (e : Fin 16) (m : Fin 4) (kind : BitVec 4) (inst : BitVec 8) (words : List Word) (s : State) : Outcome State Fault Refusal := .next (doMailboxRecordComplete e m kind inst words s)
/-- MBACK_ACK (R63). -/
def execMbackAck (e : Fin 16) (m : Fin 4) (s : State) : Outcome State Fault Refusal := .next (doMbackAck e m s)
/-- MBACK_CLR_OVR (R63). -/
def execMbackClrOvr (e : Fin 16) (m : Fin 4) (s : State) : Outcome State Fault Refusal := .next (doMbackClrOvr e m s)
/-- MBPOST (R64). -/
def execMbpost (e : Fin 16) (dst : Fin 16) (m : Fin 4) (len : BitVec 6) (s : State) : Outcome State Fault Refusal := .next (doMbpost e dst m len s)
/-- REGISTER_WRITE (R61). -/
def execRegisterWrite (e : Fin 16) (addr : Word) (v : Word) (s : State) : Outcome State Fault Refusal := .next (doRegisterWrite e addr v s)
/-- HALT (R68). -/
def execHalt (e : Fin 16) (s : State) : Outcome State Fault Refusal := .next (doHalt e s)
/-- STEP (R446). -/
def execStep (e : Fin 16) (s : State) : Outcome State Fault Refusal := .next (doStep e s)
/-- RESUME_ENGINE (R68). -/
def execResumeEngine (e : Fin 16) (s : State) : Outcome State Fault Refusal := .next (doResumeEngine e s)
/-- STATUS (R446). -/
def execStatus (e : Fin 16) (s : State) : Outcome State Fault Refusal := .next (doStatus e s)
/-- READ_REG (R446). -/
def execReadReg (e : Fin 16) (ctx : Fin 6) (index : BitVec 13) (s : State) : Outcome State Fault Refusal := .next (doReadReg e ctx index s)
/-- READ_PM (R446). -/
def execReadPm (e : Fin 16) (addr : BitVec 13) (s : State) : Outcome State Fault Refusal := .next (doReadPm e addr s)
/-- EXTEST (R446). -/
def execExtest (bits : List Bool) (s : State) : Outcome State Fault Refusal := .next (doExtest bits s)
/-- IDCODE (R446). -/
def execIdcode (s : State) : Outcome State Fault Refusal := .next (doIdcode s)
/-- SAMPLE_PRELOAD (R446). -/
def execSamplePreload (sampled : List Bool) (shifted : List Bool) (s : State) : Outcome State Fault Refusal := .next (doSamplePreload sampled shifted s)
/-- CLAMP_TEST (R446). -/
def execClampTest (s : State) : Outcome State Fault Refusal := .next (doClampTest s)
/-- BYPASS (R446). -/
def execBypass (code : BitVec 5) (s : State) : Outcome State Fault Refusal := .next (doBypass code s)
/-- KIMG_LOAD (R66). -/
def execKimgLoad (q : Req) (image : List Word) (s : State) : Outcome State Fault Refusal := .next (doKimgLoad q image s)
/-- KIMG_DELETE (R341). -/
def execKimgDelete (q : Req) (id : Word) (s : State) : Outcome State Fault Refusal := .next (doKimgDelete q id s)
/-- TASK_DECLARE (R72). -/
def execTaskDeclare (q : Req) (t : Fin 96) (s : State) : Outcome State Fault Refusal := .next (doTaskDeclare q t s)
/-- TASK_REMOVE (R100). -/
def execTaskRemove (q : Req) (t : Fin 96) (s : State) : Outcome State Fault Refusal := .next (doTaskRemove q t s)
/-- FREE_TIMER_EXPIRY (R75). -/
def execFreeTimerExpiry (ft : Fin 16) (s : State) : Outcome State Fault Refusal := .next (doFreeTimerExpiry ft s)
/-- REFEREE_ROUND (R84). -/
def execRefereeRound (s : State) : Outcome State Fault Refusal := .next (doRefereeRound s)
/-- QUAD_SWITCH_ON (R80). -/
def execQuadSwitchOn (quad : Fin 4) (s : State) : Outcome State Fault Refusal := .next (doQuadSwitchOn quad s)
/-- QUAD_FMAX (R81). -/
def execQuadFmax (q : Req) (quad : Fin 4) (v : BitVec 48) (s : State) : Outcome State Fault Refusal := .next (doQuadFmax q quad v s)
/-- STATE_COPY_DONE (R88). -/
def execStateCopyDone (t : Fin 96) (s : State) : Outcome State Fault Refusal := .next (doStateCopyDone t s)
/-- JOB_STEP (R95). -/
def execJobStep (obs : JobObs) (s : State) : Outcome State Fault Refusal := .next (doJobStep obs s)
/-- JOB_CANCEL (R98). -/
def execJobCancel (q : Req) (slot : Fin 64) (v : BitVec 48) (s : State) : Outcome State Fault Refusal := .next (doJobCancel q slot v s)
/-- JOB_SLOT_EXPIRY (R94). -/
def execJobSlotExpiry (slot : Fin 64) (s : State) : Outcome State Fault Refusal := .next (doJobSlotExpiry slot s)
/-- RALLY_MEASURE (R102). -/
def execRallyMeasure (line : Fin 48) (taps8 : BitVec 12) (s : State) : Outcome State Fault Refusal := .next (doRallyMeasure line taps8 s)
/-- COMMIT_GO (R117). -/
def execCommitGo (e : Fin 16) (cl : Fin 12) (s : State) : Outcome State Fault Refusal := .next (doCommitGo e cl s)
/-- COMMIT_RECOGNISED (R15). -/
def execCommitRecognised (cl : Fin 12) (s : State) : Outcome State Fault Refusal := .next (doCommitRecognised cl s)
/-- CUTOFF (R119). -/
def execCutoff (cl : Fin 12) (s : State) : Outcome State Fault Refusal := .next (doCutoff cl s)
/-- RELOAD (R119). -/
def execReload (cl : Fin 12) (s : State) : Outcome State Fault Refusal := .next (doReload cl s)
/-- TRIGGER_FIRE (R121). -/
def execTriggerFire (g : Fin 48) (d : Bool) (s : State) : Outcome State Fault Refusal := .next (doTriggerFire g d s)
/-- CBC_TRIP (R123). -/
def execCbcTrip (cl : Fin 12) (inputs : BitVec 4) (s : State) : Outcome State Fault Refusal := .next (doCbcTrip cl inputs s)
/-- LATCH_TRIP (R125). -/
def execLatchTrip (cl : Fin 12) (inputs : BitVec 4) (s : State) : Outcome State Fault Refusal := .next (doLatchTrip cl inputs s)
/-- BLANK_TIMER_EXPIRY (R126). -/
def execBlankTimerExpiry (cl : Fin 12) (b : Fin 2) (s : State) : Outcome State Fault Refusal := .next (doBlankTimerExpiry cl b s)
/-- EDGE_TICK (R115). -/
def execEdgeTick (g : Fin 48) (s : State) : Outcome State Fault Refusal := .next (doEdgeTick g s)
/-- CLK_LOSS (R23). -/
def execClkLoss (clk : BitVec 8) (s : State) : Outcome State Fault Refusal := .next (doClkLoss clk s)
/-- LANE_TRANSMIT (R147). -/
def execLaneTransmit (l : Fin 36) (s : State) : Outcome State Fault Refusal := .next (doLaneTransmit l s)
/-- EDGE_ON (R141). -/
def execEdgeOn (d : Fin 4) (side : BitVec 2) (prof : BitVec 4) (seq : BitVec 6) (t : EdgeTime) (s : State) : Outcome State Fault Refusal := .next (doEdgeOn d side prof seq t s)
/-- EDGE_OFF (R141). -/
def execEdgeOff (d : Fin 4) (side : BitVec 2) (prof : BitVec 4) (seq : BitVec 6) (t : EdgeTime) (s : State) : Outcome State Fault Refusal := .next (doEdgeOff d side prof seq t s)
/-- HOLD_OFF (R141). -/
def execHoldOff (d : Fin 4) (side : BitVec 2) (prof : BitVec 4) (seq : BitVec 6) (t : EdgeTime) (s : State) : Outcome State Fault Refusal := .next (doHoldOff d side prof seq t s)
/-- PROFILE_SET (R168). -/
def execProfileSet (d : Fin 4) (side : BitVec 2) (prof : BitVec 4) (seq : BitVec 6) (t : EdgeTime) (s : State) : Outcome State Fault Refusal := .next (doProfileSet d side prof seq t s)
/-- RESUME (R143). -/
def execResume (d : Fin 4) (side : BitVec 2) (prof : BitVec 4) (seq : BitVec 6) (t : EdgeTime) (s : State) : Outcome State Fault Refusal := .next (doResume d side prof seq t s)
/-- MARK (R158). -/
def execMark (d : Fin 4) (side : BitVec 2) (prof : BitVec 4) (seq : BitVec 6) (t : EdgeTime) (s : State) : Outcome State Fault Refusal := .next (doMark d side prof seq t s)
/-- VOLLEY (R150). -/
def execVolley (d : Fin 4) (side : BitVec 2) (prof : BitVec 4) (seq : BitVec 6) (t : EdgeTime) (s : State) : Outcome State Fault Refusal := .next (doVolley d side prof seq t s)
/-- TIME_ADJ (R162). -/
def execTimeAdj (d : Fin 4) (side : BitVec 2) (prof : BitVec 4) (seq : BitVec 6) (t : EdgeTime) (s : State) : Outcome State Fault Refusal := .next (doTimeAdj d side prof seq t s)
/-- NOP_COMMAND (R139). -/
def execNopCommand (d : Fin 4) (s : State) (w : BitVec 48 := 0) : Outcome State Fault Refusal := .next (doNopCommand d w s)
/-- EDGE_EXECUTE (R142). -/
def execEdgeExecute (hb : Fin 12) (s : State) : Outcome State Fault Refusal := .next (doEdgeExecute hb s)
/-- HOLD_END (R141). -/
def execHoldEnd (hb : Fin 12) (high : Bool) (s : State) : Outcome State Fault Refusal := .next (doHoldEnd hb high s)
/-- HOLD_TIMEOUT (R142). -/
def execHoldTimeout (hb : Fin 12) (s : State) : Outcome State Fault Refusal := .next (doHoldTimeout hb s)
/-- LANE_KILL (R153). -/
def execLaneKill (l : Fin 36) (s : State) : Outcome State Fault Refusal := .next (doLaneKill l s)
/-- KILL_END (R153). -/
def execKillEnd (l : Fin 36) (s : State) : Outcome State Fault Refusal := .next (doKillEnd l s)
/-- KILL_RECEIVED (R170). -/
def execKillReceived (d : Fin 4) (s : State) : Outcome State Fault Refusal := .next (doKillReceived d s)
/-- TRAIN_REQ (R148). -/
def execTrainReq (d : Fin 4) (genMax : BitVec 8) (nonce : BitVec 16) (s : State) (fcs : BitVec 16 := 0) : Outcome State Fault Refusal := .next (doTrainReq d genMax nonce fcs s)
/-- TRAIN_SET (R148). -/
def execTrainSet (d : Fin 4) (gen : BitVec 8) (nonce : BitVec 16) (s : State) (fcs : BitVec 16 := 0) : Outcome State Fault Refusal := .next (doTrainSet d gen nonce fcs s)
/-- CFG_WR (R172). -/
def execCfgWr (d : Fin 4) (addr : BitVec 8) (data : List Word) (s : State) (fcs : BitVec 16 := 0) : Outcome State Fault Refusal := .next (doCfgWr d addr data fcs s)
/-- CFG_RD (R145). -/
def execCfgRd (d : Fin 4) (addr : BitVec 8) (count : Fin 8) (s : State) (fcs : BitVec 16 := 0) : Outcome State Fault Refusal := .next (doCfgRd d addr count fcs s)
/-- TEST (R148). -/
def execTest (l : Fin 36) (upstream : Bool) (payload : List Byte) (s : State) (fcs : BitVec 16 := 0) : Outcome State Fault Refusal := .next (doTest l upstream payload fcs s)
/-- ADC_TRIG (R187). -/
def execAdcTrig (d : Fin 4) (trigs : List TrigWord) (s : State) (fcs : BitVec 16 := 0) : Outcome State Fault Refusal := .next (doAdcTrig d trigs fcs s)
/-- TRAIN_RSP (R148). -/
def execTrainRsp (l : Fin 36) (genMax : BitVec 8) (nonce : BitVec 16) (satId : Word) (serial : BitVec 48) (caps : Word) (s : State) (fcs : BitVec 16 := 0) : Outcome State Fault Refusal := .next (doTrainRsp l genMax nonce satId serial caps fcs s)
/-- TRAIN_ACK (R148). -/
def execTrainAck (l : Fin 36) (gen : BitVec 8) (nonce : BitVec 16) (s : State) (fcs : BitVec 16 := 0) : Outcome State Fault Refusal := .next (doTrainAck l gen nonce fcs s)
/-- CFG_RSP (R148). -/
def execCfgRsp (l : Fin 36) (addr : BitVec 8) (refused : Bool) (data : List Word) (s : State) (fcs : BitVec 16 := 0) (cnt : BitVec 3 := 0) : Outcome State Fault Refusal := .next (doCfgRsp l addr refused data fcs cnt s)
/-- STATUS_FRAME (R155). -/
def execStatusFrame (l : Fin 36) (w0 : Word) (w1 : Word) (w2 : Word) (w3 : Word) (s : State) (fcs : BitVec 16 := 0) : Outcome State Fault Refusal := .next (doStatusFrame l w0 w1 w2 w3 fcs s)
/-- EDGE_TELE (R155). -/
def execEdgeTele (l : Fin 36) (w0 : Word) (w1 : Word) (w2 : Word) (s : State) (fcs : BitVec 16 := 0) : Outcome State Fault Refusal := .next (doEdgeTele l w0 w1 w2 fcs s)
/-- ALARM (R154). -/
def execAlarm (l : Fin 36) (w0 : Word) (w1 : Word) (s : State) (fcs : BitVec 16 := 0) : Outcome State Fault Refusal := .next (doAlarm l w0 w1 fcs s)
/-- VOLLEY_REP (R150). -/
def execVolleyRep (l : Fin 36) (seq : BitVec 6) (r1 : EdgeTime) (s2 : EdgeTime) (t4 : EdgeTime) (s : State) (fcs : BitVec 16 := 0) : Outcome State Fault Refusal := .next (doVolleyRep l seq r1 s2 t4 fcs s)
/-- SAT_ALARM (R154). -/
def execSatAlarm (l : Fin 36) (s : State) : Outcome State Fault Refusal := .next (doSatAlarm l s)
/-- ALARM_TIMEOUT (R154). -/
def execAlarmTimeout (l : Fin 36) (s : State) : Outcome State Fault Refusal := .next (doAlarmTimeout l s)
/-- VOLLEY_EXCHANGE (R151). -/
def execVolleyExchange (l : Fin 36) (s : State) : Outcome State Fault Refusal := .next (doVolleyExchange l s)
/-- VOLLEY_MISS (R150). -/
def execVolleyMiss (l : Fin 36) (s : State) : Outcome State Fault Refusal := .next (doVolleyMiss l s)
/-- LANE_LOST (R156). -/
def execLaneLost (l : Fin 36) (s : State) : Outcome State Fault Refusal := .next (doLaneLost l s)
/-- LANE_MISALIGNED (R146). -/
def execLaneMisaligned (l : Fin 36) (s : State) : Outcome State Fault Refusal := .next (doLaneMisaligned l s)
/-- LANE_CODE_ERR (R156). -/
def execLaneCodeErr (l : Fin 36) (s : State) (inFrame : Bool := false) (g : BitVec 10 := 0) (down : Bool := false) : Outcome State Fault Refusal := .next (doLaneCodeErr l inFrame g down s)
/-- SD_SLOT (R154). -/
def execSdSlot (f : Fin 32) (bits : BitVec 8) (substituted : Bool) (s : State) : Outcome State Fault Refusal := .next (doSdSlot f bits substituted s)
/-- RETRAIN (R157). -/
def execRetrain (l : Fin 36) (s : State) : Outcome State Fault Refusal := .next (doRetrain l s)
/-- TRAIN_STEP_TIMEOUT (R148). -/
def execTrainStepTimeout (l : Fin 36) (s : State) : Outcome State Fault Refusal := .next (doTrainStepTimeout l s)
/-- LANE_ENABLE (R165). -/
def execLaneEnable (q : Req) (l : Fin 32) (v : BitVec 48) (s : State) : Outcome State Fault Refusal := .next (doLaneEnable q l v s)
/-- TRAIN (R148). -/
def execTrain (q : Req) (l : Fin 32) (s : State) : Outcome State Fault Refusal := .next (doTrain q l s)
/-- RETRAIN_CMD (R148). -/
def execRetrainCmd (q : Req) (l : Fin 32) (s : State) : Outcome State Fault Refusal := .next (doRetrainCmd q l s)
/-- SAT_READ (R165). -/
def execSatRead (q : Req) (l : Fin 32) (addr : BitVec 48) (s : State) : Outcome State Fault Refusal := .next (doSatRead q l addr s)
/-- TADPOLE_HOLD_OFF (R160). -/
def execTadpoleHoldOff (l : Fin 36) (s : State) : Outcome State Fault Refusal := .next (doTadpoleHoldOff l s)
/-- LINK_ACTIVITY_LOSS (R12). -/
def execLinkActivityLoss (d : Fin 4) (s : State) : Outcome State Fault Refusal := .next (doLinkActivityLoss d s)
/-- BANK_OFF (R170). -/
def execBankOff (b : Fin 4) (on : Bool) (s : State) : Outcome State Fault Refusal := .next (doBankOff b on s)
/-- KILL_INPUT (R305). -/
def execKillInput (s : State) : Outcome State Fault Refusal := .next (doKillInput s)
/-- KILL_RELEASE (R305). -/
def execKillRelease (s : State) : Outcome State Fault Refusal := .next (doKillRelease s)
/-- HOLD_SWITCH_CLAMP (R171). -/
def execHoldSwitchClamp (hb : Fin 12) (high : Bool) (s : State) : Outcome State Fault Refusal := .next (doHoldSwitchClamp hb high s)
/-- HB_STP (R175). -/
def execHbStp (hb : Fin 12) (s : State) : Outcome State Fault Refusal := .next (doHbStp hb s)
/-- HB_GATE_FAULT (R175). -/
def execHbGateFault (hb : Fin 12) (s : State) (high : Bool := false) : Outcome State Fault Refusal := .next (doHbGateFault hb high s)
/-- HB_VDS (R176). -/
def execHbVds (hb : Fin 12) (high : Bool) (s : State) : Outcome State Fault Refusal := .next (doHbVds hb high s)
/-- HB_BST_WARN (R174). -/
def execHbBstWarn (hb : Fin 12) (on : Bool) (s : State) : Outcome State Fault Refusal := .next (doHbBstWarn hb on s)
/-- HB_BST_UV (R174). -/
def execHbBstUv (hb : Fin 12) (s : State) : Outcome State Fault Refusal := .next (doHbBstUv hb s)
/-- GVDD_RAMP_DONE (R167). -/
def execGvddRampDone (s : State) : Outcome State Fault Refusal := .next (doGvddRampDone s)
/-- GVDD_OVERLOAD (R167). -/
def execGvddOverload (load : BitVec 16) (s : State) : Outcome State Fault Refusal := .next (doGvddOverload load s)
/-- OST_CMD (R177). -/
def execOstCmd (q : Req) (hb : Fin 12) (s : State) : Outcome State Fault Refusal := .next (doOstCmd q hb s)
/-- OST_SETTLE_END (R177). -/
def execOstSettleEnd (hb : Fin 12) (vb : BitVec 24) (vsh : BitVec 24) (vpeer : BitVec 24) (s : State) : Outcome State Fault Refusal := .next (doOstSettleEnd hb vb vsh vpeer s)
/-- SCHEDULE_DUE (R187). -/
def execScheduleDue (a : Fin 4) (s : State) : Outcome State Fault Refusal := .next (doScheduleDue a s)
/-- SEQUENCE_START (R188). -/
def execSequenceStart (a : Fin 4) (s : State) : Outcome State Fault Refusal := .next (doSequenceStart a s)
/-- SEQUENCE_END (R184). -/
def execSequenceEnd (a : Fin 4) (code : BitVec 16) (s : State) : Outcome State Fault Refusal := .next (doSequenceEnd a code s)
/-- ADC_RES (R192). -/
def execAdcRes (a : Fin 4) (w0 : Word) (w1 : Word) (w2 : Word) (results : List Word) (s : State) (fcs : BitVec 16 := 0) : Outcome State Fault Refusal := .next (doAdcRes a w0 w1 w2 results fcs s)
/-- ADC_RESULT_TIMEOUT (R192). -/
def execAdcResultTimeout (a : Fin 4) (trig : BitVec 7) (s : State) : Outcome State Fault Refusal := .next (doAdcResultTimeout a trig s)
/-- FT_TRIGGER_SEND (R187). -/
def execFtTriggerSend (ft : Fin 16) (s : State) : Outcome State Fault Refusal := .next (doFtTriggerSend ft s)
/-- ADSWT (R205). -/
def execAdswt (e : Fin 16) (a : Fin 4) (swn : BitVec 4) (s : State) : Outcome State Fault Refusal := .next (doAdswt e a swn s)
/-- HK_RES (R194). -/
def execHkRes (w0 : Word) (results : List Word) (s : State) (fcs : BitVec 16 := 0) : Outcome State Fault Refusal := .next (doHkRes w0 results fcs s)
/-- HK_CONVERSION (R194). -/
def execHkConversion (code : BitVec 12) (s : State) : Outcome State Fault Refusal := .next (doHkConversion code s)
/-- SD_LATCH_CENTRED (R196). -/
def execSdLatchCentred (g : Fin 16) (s : State) : Outcome State Fault Refusal := .next (doSdLatchCentred g s)
/-- CW_WIRE_CHANGE (R199). -/
def execCwWireChange (k : Fin 48) (above : Bool) (below : Bool) (s : State) : Outcome State Fault Refusal := .next (doCwWireChange k above below s)
/-- CWTHR (R199). -/
def execCwthr (e : Fin 16) (k : Fin 48) (v : Word) (s : State) : Outcome State Fault Refusal := .next (doCwthr e k v s)
/-- CWTHR_APPLY (R199). -/
def execCwthrApply (k : Fin 48) (s : State) : Outcome State Fault Refusal := .next (doCwthrApply k s)
/-- CW_CHECK_CMD (R200). -/
def execCwCheckCmd (q : Req) (k : Fin 48) (s : State) : Outcome State Fault Refusal := .next (doCwCheckCmd q k s)
/-- CW_READBACK (R201). -/
def execCwReadback (code : Option (BitVec 16)) (s : State) : Outcome State Fault Refusal := .next (doCwReadback code s)
/-- QE_INPUT_CHANGE (R209). -/
def execQeInputChange (n : Fin 4) (ab : BitVec 2) (s : State) : Outcome State Fault Refusal := .next (doQeInputChange n ab s)
/-- QE_PENDING_DECIDE (R209). -/
def execQePendingDecide (n : Fin 4) (s : State) : Outcome State Fault Refusal := .next (doQePendingDecide n s)
/-- QE_EDGE (R213). -/
def execQeEdge (n : Fin 4) (up : Bool) (s : State) : Outcome State Fault Refusal := .next (doQeEdge n up s)
/-- QE_INDEX (R215). -/
def execQeIndex (n : Fin 4) (level : Bool) (s : State) : Outcome State Fault Refusal := .next (doQeIndex n level s)
/-- QE_SPEED_CHECK (R213). -/
def execQeSpeedCheck (n : Fin 4) (s : State) : Outcome State Fault Refusal := .next (doQeSpeedCheck n s)
/-- QCMP_PULSE_END (R221). -/
def execQcmpPulseEnd (n : Fin 4) (s : State) : Outcome State Fault Refusal := .next (doQcmpPulseEnd n s)
/-- QE_ENABLE (R208). -/
def execQeEnable (q : Req) (n : Fin 4) (v : BitVec 48) (s : State) : Outcome State Fault Refusal := .next (doQeEnable q n v s)
/-- QPOS_READ (R223). -/
def execQposRead (e : Fin 16) (n : Fin 4) (s : State) : Outcome State Fault Refusal := .next (doQposRead e n s)
/-- CLR_RAWREV (R212). -/
def execClrRawrev (e : Fin 16) (n : Fin 4) (s : State) : Outcome State Fault Refusal := .next (doClrRawrev e n s)
/-- QE_RAWREV_CLR (R212). -/
def execQeRawrevClr (q : Req) (n : Fin 4) (v : BitVec 48) (s : State) : Outcome State Fault Refusal := .next (doQeRawrevClr q n v s)
/-- POS_SET (R211). -/
def execPosSet (e : Fin 16) (n : Fin 4) (s : State) : Outcome State Fault Refusal := .next (doPosSet e n s)
/-- CTTGT (R219). -/
def execCttgt (e : Fin 16) (n : Fin 4) (k : Fin 16) (v : Word) (s : State) : Outcome State Fault Refusal := .next (doCttgt e n k v s)
/-- CTCFG (R217). -/
def execCtcfg (e : Fin 16) (n : Fin 4) (k : Fin 16) (v : Word) (s : State) : Outcome State Fault Refusal := .next (doCtcfg e n k v s)
/-- DECLARE (R231). -/
def execDeclare (q : Req) (st : Fin 12) (s : State) : Outcome State Fault Refusal := .next (doDeclare q st s)
/-- REMOVE (R231). -/
def execRemove (q : Req) (st : Fin 12) (s : State) : Outcome State Fault Refusal := .next (doRemove q st s)
/-- ARM (R237). -/
def execArm (q : Req) (st : Fin 12) (s : State) : Outcome State Fault Refusal := .next (doArm q st s)
/-- RUN (R237). -/
def execRun (q : Req) (st : Fin 12) (s : State) : Outcome State Fault Refusal := .next (doRun q st s)
/-- STOP (R237). -/
def execStop (q : Req) (st : Fin 12) (s : State) : Outcome State Fault Refusal := .next (doStop q st s)
/-- STAGE_DISARM (R237). -/
def execStageDisarm (q : Req) (st : Fin 12) (s : State) : Outcome State Fault Refusal := .next (doStageDisarm q st s)
/-- CLEAR (R237). -/
def execClear (q : Req) (st : Fin 12) (s : State) : Outcome State Fault Refusal := .next (doClear q st s)
/-- RAMP_DONE (R237). -/
def execRampDone (st : Fin 12) (s : State) : Outcome State Fault Refusal := .next (doRampDone st s)
/-- STAGE_RAMP_TIMEOUT (R241). -/
def execStageRampTimeout (st : Fin 12) (s : State) : Outcome State Fault Refusal := .next (doStageRampTimeout st s)
/-- PARAMETER_POST (R235). -/
def execParameterPost (q : Req) (key : BitVec 24) (v : BitVec 48) (s : State) : Outcome State Fault Refusal := .next (doParameterPost q key v s)
/-- STATUS_MIRROR (R235). -/
def execStatusMirror (st : Fin 12) (s : State) : Outcome State Fault Refusal := .next (doStatusMirror st s)
/-- ID_CMD (R259). -/
def execIdCmd (q : Req) (st : Fin 12) (s : State) : Outcome State Fault Refusal := .next (doIdCmd q st s)
/-- ID_APPLY (R259). -/
def execIdApply (q : Req) (st : Fin 12) (v : BitVec 48) (s : State) : Outcome State Fault Refusal := .next (doIdApply q st v s)
/-- CONTACTOR_FAIL (R268). -/
def execContactorFail (st : Fin 12) (k : Fin 8) (s : State) : Outcome State Fault Refusal := .next (doContactorFail st k s)
/-- CONTACTOR_OPEN (R270). -/
def execContactorOpen (st : Fin 12) (k : Fin 8) (s : State) : Outcome State Fault Refusal := .next (doContactorOpen st k s)
/-- STAR_CT_OPENED (R285). -/
def execStarCtOpened (st : Fin 12) (s : State) : Outcome State Fault Refusal := .next (doStarCtOpened st s)
/-- EFT_CT_WELD (R285). -/
def execEftCtWeld (st : Fin 12) (s : State) : Outcome State Fault Refusal := .next (doEftCtWeld st s)
/-- FAULT_REPORT (R293). -/
def execFaultReport (code : BitVec 24) (s : State) : Outcome State Fault Refusal := .next (doFaultReport code s)
/-- FAULT_REQUEST (R311). -/
def execFaultRequest (e : Fin 16) (cause : BitVec 8) (s : State) : Outcome State Fault Refusal := .next (doFaultRequest e cause s)
/-- REACTION_COMPLETE (R293). -/
def execReactionComplete (s : State) : Outcome State Fault Refusal := .next (doReactionComplete s)
/-- REACT_UNCONFIRMED (R294). -/
def execReactUnconfirmed (out : Fin 44) (s : State) : Outcome State Fault Refusal := .next (doReactUnconfirmed out s)
/-- TRIP_MATRIX_SOURCE (R295). -/
def execTripMatrixSource (src : Fin 128) (level : Bool) (s : State) : Outcome State Fault Refusal := .next (doTripMatrixSource src level s)
/-- CLEAR_CODE (R298). -/
def execClearCode (q : Req) (code : BitVec 48) (s : State) : Outcome State Fault Refusal := .next (doClearCode q code s)
/-- CLEAR_ALL (R298). -/
def execClearAll (q : Req) (cls : BitVec 48) (s : State) : Outcome State Fault Refusal := .next (doClearAll q cls s)
/-- SCORECARD_COPY (R303). -/
def execScorecardCopy (s : State) : Outcome State Fault Refusal := .next (doScorecardCopy s)
/-- OKAY_READBACK (R304). -/
def execOkayReadback (level : Bool) (s : State) : Outcome State Fault Refusal := .next (doOkayReadback level s)
/-- NOTIFICATION_SEND (R306). -/
def execNotificationSend (ses : Fin 2) (s : State) : Outcome State Fault Refusal := .next (doNotificationSend ses s)
/-- INJ_CODE (R307). -/
def execInjCode (q : Req) (code : BitVec 48) (s : State) : Outcome State Fault Refusal := .next (doInjCode q code s)
/-- INJ_SOURCE (R307). -/
def execInjSource (q : Req) (src : BitVec 48) (s : State) : Outcome State Fault Refusal := .next (doInjSource q src s)
/-- INJECTION_END (R307). -/
def execInjectionEnd (src : Fin 128) (s : State) : Outcome State Fault Refusal := .next (doInjectionEnd src s)
/-- SLOW_ROUND (R314). -/
def execSlowRound (die : List (BitVec 16)) (s : State) : Outcome State Fault Refusal := .next (doSlowRound die s)
/-- FAST_ROUND (R314). -/
def execFastRound (bank : List (BitVec 16)) (s : State) : Outcome State Fault Refusal := .next (doFastRound bank s)
/-- ANALOG_SHUTDOWN (R318). -/
def execAnalogShutdown (ts : Fin 12) (s : State) : Outcome State Fault Refusal := .next (doAnalogShutdown ts s)
/-- SUPPLY_WARN (R322). -/
def execSupplyWarn (pp : Fin 6) (ov : Bool) (s : State) : Outcome State Fault Refusal := .next (doSupplyWarn pp ov s)
/-- SUPPLY_WARN_RELEASE (R323). -/
def execSupplyWarnRelease (pp : Fin 6) (ov : Bool) (s : State) : Outcome State Fault Refusal := .next (doSupplyWarnRelease pp ov s)
/-- DEFER_END (R323). -/
def execDeferEnd (s : State) : Outcome State Fault Refusal := .next (doDeferEnd s)
/-- SUPPLY_RESET (R322). -/
def execSupplyReset (pp : Fin 6) (ov : Bool) (s : State) : Outcome State Fault Refusal := .next (doSupplyReset pp ov s)
/-- JOURNAL_WRITE (R335). -/
def execJournalWrite (s : State) : Outcome State Fault Refusal := .next (doJournalWrite s)
/-- JOURNAL_COMMIT (R335). -/
def execJournalCommit (s : State) : Outcome State Fault Refusal := .next (doJournalCommit s)
/-- SHED_CMD (R338). -/
def execShedCmd (q : Req) (s : State) : Outcome State Fault Refusal := .next (doShedCmd q s)
/-- PATCH_LOAD (R342). -/
def execPatchLoad (q : Req) (image : List Word) (s : State) : Outcome State Fault Refusal := .next (doPatchLoad q image s)
/-- PATCH_FLOOR_RAISE (R343). -/
def execPatchFloorRaise (q : Req) (v : BitVec 48) (s : State) : Outcome State Fault Refusal := .next (doPatchFloorRaise q v s)
/-- OVERRIDE_WRITE (R347). -/
def execOverrideWrite (q : Req) (region : Fin 3) (ww : BitVec 8) (v : BitVec 48) (s : State) : Outcome State Fault Refusal := .next (doOverrideWrite q region ww v s)
/-- OVR_CLEAR (R347). -/
def execOvrClear (q : Req) (region : BitVec 48) (s : State) : Outcome State Fault Refusal := .next (doOvrClear q region s)
/-- OTP_BURN (R348). -/
def execOtpBurn (q : Req) (v : BitVec 48) (s : State) : Outcome State Fault Refusal := .next (doOtpBurn q v s)
/-- LOCK (R350). -/
def execLock (q : Req) (region : Fin 3) (s : State) : Outcome State Fault Refusal := .next (doLock q region s)
/-- COMPLETE (R350). -/
def execComplete (q : Req) (region : Fin 3) (s : State) : Outcome State Fault Refusal := .next (doComplete q region s)
/-- OTP_AUDIT (R351). -/
def execOtpAudit (q : Option Req) (s : State) : Outcome State Fault Refusal := .next (doOtpAudit q s)
/-- POR (R358). -/
def execPor (s : State) : Outcome State Fault Refusal := .next (doPor s)
/-- PIN_RESET (R358). -/
def execPinReset (s : State) : Outcome State Fault Refusal := .next (doPinReset s)
/-- WATCHDOG (R358). -/
def execWatchdog (s : State) : Outcome State Fault Refusal := .next (doWatchdog s)
/-- LOCKSTEP_ERROR (R358). -/
def execLockstepError (s : State) : Outcome State Fault Refusal := .next (doLockstepError s)
/-- RESET_RELEASE (R361). -/
def execResetRelease (s : State) : Outcome State Fault Refusal := .next (doResetRelease s)
/-- BOOT_STEP_COMPLETE (R361). -/
def execBootStepComplete (s : State) : Outcome State Fault Refusal := .next (doBootStepComplete s)
/-- BOOT_STEP_TIMEOUT (R361). -/
def execBootStepTimeout (s : State) : Outcome State Fault Refusal := .next (doBootStepTimeout s)
/-- BOOT_FAIL (R362). -/
def execBootFail (s : State) : Outcome State Fault Refusal := .next (doBootFail s)
/-- BOOT_RETRY (R362). -/
def execBootRetry (ok : Bool) (s : State) : Outcome State Fault Refusal := .next (doBootRetry ok s)
/-- START_COUNTER_CLEAR (R364). -/
def execStartCounterClear (s : State) : Outcome State Fault Refusal := .next (doStartCounterClear s)
/-- WARM_RESTART (R368). -/
def execWarmRestart (q : Req) (s : State) : Outcome State Fault Refusal := .next (doWarmRestart q s)
/-- SOFT_RESET (R358). -/
def execSoftReset (q : Req) (s : State) : Outcome State Fault Refusal := .next (doSoftReset q s)
/-- RESTART_NORMAL (R364). -/
def execRestartNormal (q : Req) (s : State) : Outcome State Fault Refusal := .next (doRestartNormal q s)
/-- STANDBY (R369). -/
def execStandby (q : Req) (s : State) : Outcome State Fault Refusal := .next (doStandby q s)
/-- STANDBY_ENTERED (R369). -/
def execStandbyEntered (s : State) : Outcome State Fault Refusal := .next (doStandbyEntered s)
/-- WAKE_EVENT (R370). -/
def execWakeEvent (src : Fin 6) (s : State) : Outcome State Fault Refusal := .next (doWakeEvent src s)
/-- PARK (R371). -/
def execPark (q : Req) (s : State) : Outcome State Fault Refusal := .next (doPark q s)
/-- WAKE (R371). -/
def execWake (q : Req) (s : State) : Outcome State Fault Refusal := .next (doWake q s)
/-- FACTORY_TEST (R372). -/
def execFactoryTest (q : Req) (s : State) : Outcome State Fault Refusal := .next (doFactoryTest q s)
/-- DEFAULTS (R367). -/
def execDefaults (q : Req) (s : State) : Outcome State Fault Refusal := .next (doDefaults q s)
/-- REJECT_PATCHES (R367). -/
def execRejectPatches (q : Req) (s : State) : Outcome State Fault Refusal := .next (doRejectPatches q s)
/-- CAN_START (R382). -/
def execCanStart (q : Req) (n : Fin 4) (s : State) : Outcome State Fault Refusal := .next (doCanStart q n s)
/-- CAN_STOP (R382). -/
def execCanStop (q : Req) (n : Fin 4) (s : State) : Outcome State Fault Refusal := .next (doCanStop q n s)
/-- RECOVER (R389). -/
def execRecover (q : Req) (n : Fin 4) (s : State) : Outcome State Fault Refusal := .next (doRecover q n s)
/-- CAN_INTEGRATED (R382). -/
def execCanIntegrated (n : Fin 4) (s : State) : Outcome State Fault Refusal := .next (doCanIntegrated n s)
/-- CAN_FRAME_RECEIVED (R388). -/
def execCanFrameReceived (n : Fin 4) (frame : CanFrame) (s : State) : Outcome State Fault Refusal := .next (doCanFrameReceived n frame s)
/-- CAN_TX_DONE (R384). -/
def execCanTxDone (n : Fin 4) (s : State) : Outcome State Fault Refusal := .next (doCanTxDone n s)
/-- CAN_ARBITRATION_LOST (R386). -/
def execCanArbitrationLost (n : Fin 4) (s : State) : Outcome State Fault Refusal := .next (doCanArbitrationLost n s)
/-- CAN_ERROR (R389). -/
def execCanError (n : Fin 4) (kind : BitVec 3) (transmitting : Bool) (clash : Bool) (weight : BitVec 4) (s : State) : Outcome State Fault Refusal := .next (doCanError n kind transmitting clash weight s)
/-- CAN_RECOVERED (R389). -/
def execCanRecovered (n : Fin 4) (s : State) : Outcome State Fault Refusal := .next (doCanRecovered n s)
/-- CAN_QUEUE_LATE (R393). -/
def execCanQueueLate (n : Fin 4) (s : State) : Outcome State Fault Refusal := .next (doCanQueueLate n s)
/-- TXM_PERIOD (R421). -/
def execTxmPeriod (m : Fin 32) (s : State) : Outcome State Fault Refusal := .next (doTxmPeriod m s)
/-- RXM_ENABLE (R422). -/
def execRxmEnable (q : Req) (m : Fin 32) (v : BitVec 48) (s : State) : Outcome State Fault Refusal := .next (doRxmEnable q m v s)
/-- TXM_ENABLE (R422). -/
def execTxmEnable (q : Req) (m : Fin 32) (v : BitVec 48) (s : State) : Outcome State Fault Refusal := .next (doTxmEnable q m v s)
/-- LOCAL_TRANSACTION (R404). -/
def execLocalTransaction (bytes : List Byte) (s : State) : Outcome State Fault Refusal := .next (doLocalTransaction bytes s)
/-- LOCAL_PORT_RESET (R405). -/
def execLocalPortReset (s : State) : Outcome State Fault Refusal := .next (doLocalPortReset s)
/-- HELLO (R411). -/
def execHello (ses : Fin 2) (tag : BitVec 6) (lo : BitVec 16) (hi : BitVec 16) (s : State) : Outcome State Fault Refusal := .next (doHello ses tag lo hi s)
/-- READ (R406). -/
def execRead (q : Req) (key : BitVec 24) (s : State) : Outcome State Fault Refusal := .next (doRead q key s)
/-- WRITE (R401). -/
def execWrite (q : Req) (key : BitVec 24) (len : BitVec 8) (v : BitVec 48) (s : State) : Outcome State Fault Refusal := .next (doWrite q key len v s)
/-- NEXT_KEY (R406). -/
def execNextKey (q : Req) (key : BitVec 24) (s : State) : Outcome State Fault Refusal := .next (doNextKey q key s)
/-- DESCRIBE (R406). -/
def execDescribe (q : Req) (key : BitVec 24) (s : State) : Outcome State Fault Refusal := .next (doDescribe q key s)
/-- SEG_DATA (R408). -/
def execSegData (q : Req) (counter : BitVec 8) (data : List Byte) (s : State) : Outcome State Fault Refusal := .next (doSegData q counter data s)
/-- SEG_NEXT (R407). -/
def execSegNext (q : Req) (n : BitVec 8) (s : State) : Outcome State Fault Refusal := .next (doSegNext q n s)
/-- ABORT (R406). -/
def execAbort (q : Req) (s : State) : Outcome State Fault Refusal := .next (doAbort q s)
/-- READ_RANGE (R406). -/
def execReadRange (q : Req) (key : BitVec 24) (n : BitVec 8) (s : State) : Outcome State Fault Refusal := .next (doReadRange q key n s)
/-- CHALLENGE (R412). -/
def execChallenge (q : Req) (level : BitVec 8) (s : State) : Outcome State Fault Refusal := .next (doChallenge q level s)
/-- UNLOCK (R412). -/
def execUnlock (q : Req) (level : BitVec 8) (mac : List Byte) (s : State) : Outcome State Fault Refusal := .next (doUnlock q level mac s)
/-- LOCK_SESSION (R406). -/
def execLockSession (q : Req) (s : State) : Outcome State Fault Refusal := .next (doLockSession q s)
/-- SEG_TIMEOUT (R408). -/
def execSegTimeout (ses : Fin 2) (tag : BitVec 6) (s : State) : Outcome State Fault Refusal := .next (doSegTimeout ses tag s)
/-- SERVICE_TIMEOUT (R412). -/
def execServiceTimeout (ses : Fin 2) (s : State) : Outcome State Fault Refusal := .next (doServiceTimeout ses s)
/-- AUTH_LOCKOUT_END (R412). -/
def execAuthLockoutEnd (ses : Fin 2) (s : State) : Outcome State Fault Refusal := .next (doAuthLockoutEnd ses s)
/-- STORED_RESPONSE_EXPIRY (R409). -/
def execStoredResponseExpiry (ses : Fin 2) (tag : BitVec 6) (s : State) : Outcome State Fault Refusal := .next (doStoredResponseExpiry ses tag s)
/-- JOB_PROGRESS (R410). -/
def execJobProgress (slot : Fin 64) (s : State) : Outcome State Fault Refusal := .next (doJobProgress slot s)
/-- CLOCK_RETURN (R383). -/
def execClockReturn (clk : BitVec 8) (s : State) : Outcome State Fault Refusal := .next (doClockReturn clk s)
/-- FABRIC_STORE_ACK (R49). -/
def execFabricStoreAck (t : Fin 96) (k : Fin 4) (s : State) : Outcome State Fault Refusal := .next (doFabricStoreAck t k s)
/-- ANALOG_SHUTDOWN_RELEASE (R318). -/
def execAnalogShutdownRelease (ts : Fin 12) (s : State) : Outcome State Fault Refusal := .next (doAnalogShutdownRelease ts s)
/-- CONTACTOR_FEEDBACK_CHANGE (R268). -/
def execContactorFeedbackChange (k : Fin 8) (level : Bool) (s : State) : Outcome State Fault Refusal := .next (doContactorFeedbackChange k level s)
/-- BST_UV_RELEASE (R174). -/
def execBstUvRelease (hb : Fin 12) (s : State) : Outcome State Fault Refusal := .next (doBstUvRelease hb s)
/-- STANDBY_QUEUE_TIMEOUT (R369). -/
def execStandbyQueueTimeout (s : State) : Outcome State Fault Refusal := .next (doStandbyQueueTimeout s)
/-- ADC_SLOT_END (R192). -/
def execAdcSlotEnd (a : Fin 4) (code : BitVec 16) (s : State) : Outcome State Fault Refusal := .next (doAdcSlotEnd a code s)
/-- EDGE_TIME_REACHED (R126). -/
def execEdgeTimeReached (g : Fin 48) (kind : Fin 4) (s : State) : Outcome State Fault Refusal := .next (doEdgeTimeReached g kind s)
/-- RECEIVER_LOCK (R148). -/
def execReceiverLock (l : Fin 36) (s : State) : Outcome State Fault Refusal := .next (doReceiverLock l s)

end Sys2Proof.Machine
end

