-- ==== Sys2Proof/Machine/Dispatch.lean ====
section
/-! DEFINITION. One arm per command: the meaning it calls. -/

namespace Sys2Proof.Machine

def exec (i : Instr) (s : State) : Host.Outcome State Fault Refusal :=
  match i with
  | .nop e c => Sys2Proof.Machine.execNop e c s
  | .mov e c rd rs m => Sys2Proof.Machine.execMov e c rd rs m s
  | .ldi e c rd imm => Sys2Proof.Machine.execLdi e c rd imm s
  | .movi e c rd imm => Sys2Proof.Machine.execMovi e c rd imm s
  | .mfs e c rd sreg => Sys2Proof.Machine.execMfs e c rd sreg s
  | .mts e c sreg rs => Sys2Proof.Machine.execMts e c sreg rs s
  | .sev e c n => Sys2Proof.Machine.execSev e c n s
  | .fence e c => Sys2Proof.Machine.execFence e c s
  | .add e c rd rs rt m => Sys2Proof.Machine.execAdd e c rd rs rt m s
  | .adds e c rd rs rt m => Sys2Proof.Machine.execAdds e c rd rs rt m s
  | .sub e c rd rs rt m => Sys2Proof.Machine.execSub e c rd rs rt m s
  | .subs e c rd rs rt m => Sys2Proof.Machine.execSubs e c rd rs rt m s
  | .neg e c rd rs m => Sys2Proof.Machine.execNeg e c rd rs m s
  | .abs e c rd rs m => Sys2Proof.Machine.execAbs e c rd rs m s
  | .min e c rd rs rt m => Sys2Proof.Machine.execMin e c rd rs rt m s
  | .max e c rd rs rt m => Sys2Proof.Machine.execMax e c rd rs rt m s
  | .and e c rd rs rt m => Sys2Proof.Machine.execAnd e c rd rs rt m s
  | .or e c rd rs rt m => Sys2Proof.Machine.execOr e c rd rs rt m s
  | .xor e c rd rs rt m => Sys2Proof.Machine.execXor e c rd rs rt m s
  | .not e c rd rs m => Sys2Proof.Machine.execNot e c rd rs m s
  | .shl e c rd rs rt m => Sys2Proof.Machine.execShl e c rd rs rt m s
  | .shr e c rd rs rt m => Sys2Proof.Machine.execShr e c rd rs rt m s
  | .shli e c rd rs n sgn => Sys2Proof.Machine.execShli e c rd rs n sgn s
  | .shri e c rd rs n sgn => Sys2Proof.Machine.execShri e c rd rs n sgn s
  | .clamp e c rd rs rt m => Sys2Proof.Machine.execClamp e c rd rs rt m s
  | .norm e c rd rs m => Sys2Proof.Machine.execNorm e c rd rs m s
  | .mulw e c rd rs rt m => Sys2Proof.Machine.execMulw e c rd rs rt m s
  | .rcps e c rd rs m => Sys2Proof.Machine.execRcps e c rd rs m s
  | .rsqs e c rd rs m => Sys2Proof.Machine.execRsqs e c rd rs m s
  | .csc e c rd rs m => Sys2Proof.Machine.execCsc e c rd rs m s
  | .cat e c rd rs rt m => Sys2Proof.Machine.execCat e c rd rs rt m s
  | .cmp e c fd rs rt cc => Sys2Proof.Machine.execCmp e c fd rs rt cc s
  | .cmpu e c fd rs rt cc => Sys2Proof.Machine.execCmpu e c fd rs rt cc s
  | .cmpi e c fd rs imm cc => Sys2Proof.Machine.execCmpi e c fd rs imm cc s
  | .flog e c fd op fa fb => Sys2Proof.Machine.execFlog e c fd op fa fb s
  | .sel e c rd rs rt fc => Sys2Proof.Machine.execSel e c rd rs rt fc s
  | .mul e c a rs rt m => Sys2Proof.Machine.execMul e c a rs rt m s
  | .mac e c a rs rt m => Sys2Proof.Machine.execMac e c a rs rt m s
  | .msu e c a rs rt m => Sys2Proof.Machine.execMsu e c a rs rt m s
  | .acld e c a rs m => Sys2Proof.Machine.execAcld e c a rs m s
  | .acadd e c a m => Sys2Proof.Machine.execAcadd e c a m s
  | .acsh e c a n => Sys2Proof.Machine.execAcsh e c a n s
  | .rnd e c rd a m => Sys2Proof.Machine.execRnd e c rd a m s
  | .acx e c rd a m => Sys2Proof.Machine.execAcx e c rd a m s
  | .ld e c rd p am off => Sys2Proof.Machine.execLd e c rd p am off s
  | .st e c p rs am off => Sys2Proof.Machine.execSt e c p rs am off s
  | .lda e c rd addr => Sys2Proof.Machine.execLda e c rd addr s
  | .sta e c addr rs => Sys2Proof.Machine.execSta e c addr rs s
  | .ldr e c rd rs m => Sys2Proof.Machine.execLdr e c rd rs m s
  | .str e c rt rs m => Sys2Proof.Machine.execStr e c rt rs m s
  | .brk e c => Sys2Proof.Machine.execBrk e c s
  | .bra e c target => Sys2Proof.Machine.execBra e c target s
  | .call e c target => Sys2Proof.Machine.execCall e c target s
  | .jmpr e c rs m => Sys2Proof.Machine.execJmpr e c rs m s
  | .ret e c => Sys2Proof.Machine.execRet e c s
  | .loopi e c off count => Sys2Proof.Machine.execLoopi e c off count s
  | .loopr e c rs off => Sys2Proof.Machine.execLoopr e c rs off s
  | .waitev e c rd ext => Sys2Proof.Machine.execWaitev e c rd ext s
  | .yield e c => Sys2Proof.Machine.execYield e c s
  | .illegalOp e => Sys2Proof.Machine.execIllegalOp e s
  | .fabricLoadReturn t k => Sys2Proof.Machine.execFabricLoadReturn t k s
  | .eventArrival ev => Sys2Proof.Machine.execEventArrival ev s
  | .waitevWake t => Sys2Proof.Machine.execWaitevWake t s
  | .taskRelease t => Sys2Proof.Machine.execTaskRelease t s
  | .budgetOverrun t => Sys2Proof.Machine.execBudgetOverrun t s
  | .deadlineMiss t => Sys2Proof.Machine.execDeadlineMiss t s
  | .mailboxRecordComplete e m kind inst words => Sys2Proof.Machine.execMailboxRecordComplete e m kind inst words s
  | .mbackAck e m => Sys2Proof.Machine.execMbackAck e m s
  | .mbackClrOvr e m => Sys2Proof.Machine.execMbackClrOvr e m s
  | .mbpost e dst m len => Sys2Proof.Machine.execMbpost e dst m len s
  | .registerWrite e addr v => Sys2Proof.Machine.execRegisterWrite e addr v s
  | .halt e => Sys2Proof.Machine.execHalt e s
  | .step e => Sys2Proof.Machine.execStep e s
  | .resumeEngine e => Sys2Proof.Machine.execResumeEngine e s
  | .status e => Sys2Proof.Machine.execStatus e s
  | .readReg e ctx index => Sys2Proof.Machine.execReadReg e ctx index s
  | .readPm e addr => Sys2Proof.Machine.execReadPm e addr s
  | .extest bits => Sys2Proof.Machine.execExtest bits s
  | .idcode => Sys2Proof.Machine.execIdcode s
  | .samplePreload sampled shifted => Sys2Proof.Machine.execSamplePreload sampled shifted s
  | .clampTest => Sys2Proof.Machine.execClampTest s
  | .bypass code => Sys2Proof.Machine.execBypass code s
  | .kimgLoad q image => Sys2Proof.Machine.execKimgLoad q image s
  | .kimgDelete q id => Sys2Proof.Machine.execKimgDelete q id s
  | .taskDeclare q t => Sys2Proof.Machine.execTaskDeclare q t s
  | .taskRemove q t => Sys2Proof.Machine.execTaskRemove q t s
  | .freeTimerExpiry ft => Sys2Proof.Machine.execFreeTimerExpiry ft s
  | .refereeRound => Sys2Proof.Machine.execRefereeRound s
  | .quadSwitchOn quad => Sys2Proof.Machine.execQuadSwitchOn quad s
  | .quadFmax q quad v => Sys2Proof.Machine.execQuadFmax q quad v s
  | .stateCopyDone t => Sys2Proof.Machine.execStateCopyDone t s
  | .jobStep obs => Sys2Proof.Machine.execJobStep obs s
  | .jobCancel q slot v => Sys2Proof.Machine.execJobCancel q slot v s
  | .jobSlotExpiry slot => Sys2Proof.Machine.execJobSlotExpiry slot s
  | .rallyMeasure line taps8 => Sys2Proof.Machine.execRallyMeasure line taps8 s
  | .commitGo e cl => Sys2Proof.Machine.execCommitGo e cl s
  | .commitRecognised cl => Sys2Proof.Machine.execCommitRecognised cl s
  | .cutoff cl => Sys2Proof.Machine.execCutoff cl s
  | .reload cl => Sys2Proof.Machine.execReload cl s
  | .triggerFire g d => Sys2Proof.Machine.execTriggerFire g d s
  | .cbcTrip cl inputs => Sys2Proof.Machine.execCbcTrip cl inputs s
  | .latchTrip cl inputs => Sys2Proof.Machine.execLatchTrip cl inputs s
  | .blankTimerExpiry cl b => Sys2Proof.Machine.execBlankTimerExpiry cl b s
  | .edgeTick g => Sys2Proof.Machine.execEdgeTick g s
  | .clkLoss clk => Sys2Proof.Machine.execClkLoss clk s
  | .laneTransmit l => Sys2Proof.Machine.execLaneTransmit l s
  | .edgeOn d side prof seq t => Sys2Proof.Machine.execEdgeOn d side prof seq t s
  | .edgeOff d side prof seq t => Sys2Proof.Machine.execEdgeOff d side prof seq t s
  | .holdOff d side prof seq t => Sys2Proof.Machine.execHoldOff d side prof seq t s
  | .profileSet d side prof seq t => Sys2Proof.Machine.execProfileSet d side prof seq t s
  | .resume d side prof seq t => Sys2Proof.Machine.execResume d side prof seq t s
  | .mark d side prof seq t => Sys2Proof.Machine.execMark d side prof seq t s
  | .volley d side prof seq t => Sys2Proof.Machine.execVolley d side prof seq t s
  | .timeAdj d side prof seq t => Sys2Proof.Machine.execTimeAdj d side prof seq t s
  | .nopCommand d w => Sys2Proof.Machine.execNopCommand d s w
  | .edgeExecute hb => Sys2Proof.Machine.execEdgeExecute hb s
  | .holdEnd hb high => Sys2Proof.Machine.execHoldEnd hb high s
  | .holdTimeout hb => Sys2Proof.Machine.execHoldTimeout hb s
  | .laneKill l => Sys2Proof.Machine.execLaneKill l s
  | .killEnd l => Sys2Proof.Machine.execKillEnd l s
  | .killReceived d => Sys2Proof.Machine.execKillReceived d s
  | .trainReq d genMax nonce fcs => Sys2Proof.Machine.execTrainReq d genMax nonce s fcs
  | .trainSet d gen nonce fcs => Sys2Proof.Machine.execTrainSet d gen nonce s fcs
  | .cfgWr d addr data fcs => Sys2Proof.Machine.execCfgWr d addr data s fcs
  | .cfgRd d addr count fcs => Sys2Proof.Machine.execCfgRd d addr count s fcs
  | .test l upstream payload fcs => Sys2Proof.Machine.execTest l upstream payload s fcs
  | .adcTrig d trigs fcs => Sys2Proof.Machine.execAdcTrig d trigs s fcs
  | .trainRsp l genMax nonce satId serial caps fcs => Sys2Proof.Machine.execTrainRsp l genMax nonce satId serial caps s fcs
  | .trainAck l gen nonce fcs => Sys2Proof.Machine.execTrainAck l gen nonce s fcs
  | .cfgRsp l addr refused data fcs cnt => Sys2Proof.Machine.execCfgRsp l addr refused data s fcs cnt
  | .statusFrame l w0 w1 w2 w3 fcs => Sys2Proof.Machine.execStatusFrame l w0 w1 w2 w3 s fcs
  | .edgeTele l w0 w1 w2 fcs => Sys2Proof.Machine.execEdgeTele l w0 w1 w2 s fcs
  | .alarm l w0 w1 fcs => Sys2Proof.Machine.execAlarm l w0 w1 s fcs
  | .volleyRep l seq r1 s2 t4 fcs => Sys2Proof.Machine.execVolleyRep l seq r1 s2 t4 s fcs
  | .satAlarm l => Sys2Proof.Machine.execSatAlarm l s
  | .alarmTimeout l => Sys2Proof.Machine.execAlarmTimeout l s
  | .volleyExchange l => Sys2Proof.Machine.execVolleyExchange l s
  | .volleyMiss l => Sys2Proof.Machine.execVolleyMiss l s
  | .laneLost l => Sys2Proof.Machine.execLaneLost l s
  | .laneMisaligned l => Sys2Proof.Machine.execLaneMisaligned l s
  | .laneCodeErr l inFrame g down => Sys2Proof.Machine.execLaneCodeErr l s inFrame g down
  | .sdSlot f bits substituted => Sys2Proof.Machine.execSdSlot f bits substituted s
  | .retrain l => Sys2Proof.Machine.execRetrain l s
  | .trainStepTimeout l => Sys2Proof.Machine.execTrainStepTimeout l s
  | .laneEnable q l v => Sys2Proof.Machine.execLaneEnable q l v s
  | .train q l => Sys2Proof.Machine.execTrain q l s
  | .retrainCmd q l => Sys2Proof.Machine.execRetrainCmd q l s
  | .satRead q l addr => Sys2Proof.Machine.execSatRead q l addr s
  | .tadpoleHoldOff l => Sys2Proof.Machine.execTadpoleHoldOff l s
  | .linkActivityLoss d => Sys2Proof.Machine.execLinkActivityLoss d s
  | .bankOff b on => Sys2Proof.Machine.execBankOff b on s
  | .killInput => Sys2Proof.Machine.execKillInput s
  | .killRelease => Sys2Proof.Machine.execKillRelease s
  | .holdSwitchClamp hb high => Sys2Proof.Machine.execHoldSwitchClamp hb high s
  | .hbStp hb => Sys2Proof.Machine.execHbStp hb s
  | .hbGateFault hb high => Sys2Proof.Machine.execHbGateFault hb s high
  | .hbVds hb high => Sys2Proof.Machine.execHbVds hb high s
  | .hbBstWarn hb on => Sys2Proof.Machine.execHbBstWarn hb on s
  | .hbBstUv hb => Sys2Proof.Machine.execHbBstUv hb s
  | .gvddRampDone => Sys2Proof.Machine.execGvddRampDone s
  | .gvddOverload load => Sys2Proof.Machine.execGvddOverload load s
  | .ostCmd q hb => Sys2Proof.Machine.execOstCmd q hb s
  | .ostSettleEnd hb vb vsh vpeer => Sys2Proof.Machine.execOstSettleEnd hb vb vsh vpeer s
  | .scheduleDue a => Sys2Proof.Machine.execScheduleDue a s
  | .sequenceStart a => Sys2Proof.Machine.execSequenceStart a s
  | .sequenceEnd a code => Sys2Proof.Machine.execSequenceEnd a code s
  | .adcRes a w0 w1 w2 results fcs => Sys2Proof.Machine.execAdcRes a w0 w1 w2 results s fcs
  | .adcResultTimeout a trig => Sys2Proof.Machine.execAdcResultTimeout a trig s
  | .ftTriggerSend ft => Sys2Proof.Machine.execFtTriggerSend ft s
  | .adswt e a swn => Sys2Proof.Machine.execAdswt e a swn s
  | .hkRes w0 results fcs => Sys2Proof.Machine.execHkRes w0 results s fcs
  | .hkConversion code => Sys2Proof.Machine.execHkConversion code s
  | .sdLatchCentred g => Sys2Proof.Machine.execSdLatchCentred g s
  | .cwWireChange k above below => Sys2Proof.Machine.execCwWireChange k above below s
  | .cwthr e k v => Sys2Proof.Machine.execCwthr e k v s
  | .cwthrApply k => Sys2Proof.Machine.execCwthrApply k s
  | .cwCheckCmd q k => Sys2Proof.Machine.execCwCheckCmd q k s
  | .cwReadback code => Sys2Proof.Machine.execCwReadback code s
  | .qeInputChange n ab => Sys2Proof.Machine.execQeInputChange n ab s
  | .qePendingDecide n => Sys2Proof.Machine.execQePendingDecide n s
  | .qeEdge n up => Sys2Proof.Machine.execQeEdge n up s
  | .qeIndex n level => Sys2Proof.Machine.execQeIndex n level s
  | .qeSpeedCheck n => Sys2Proof.Machine.execQeSpeedCheck n s
  | .qcmpPulseEnd n => Sys2Proof.Machine.execQcmpPulseEnd n s
  | .qeEnable q n v => Sys2Proof.Machine.execQeEnable q n v s
  | .qposRead e n => Sys2Proof.Machine.execQposRead e n s
  | .clrRawrev e n => Sys2Proof.Machine.execClrRawrev e n s
  | .qeRawrevClr q n v => Sys2Proof.Machine.execQeRawrevClr q n v s
  | .posSet e n => Sys2Proof.Machine.execPosSet e n s
  | .cttgt e n k v => Sys2Proof.Machine.execCttgt e n k v s
  | .ctcfg e n k v => Sys2Proof.Machine.execCtcfg e n k v s
  | .declare q st => Sys2Proof.Machine.execDeclare q st s
  | .remove q st => Sys2Proof.Machine.execRemove q st s
  | .arm q st => Sys2Proof.Machine.execArm q st s
  | .run q st => Sys2Proof.Machine.execRun q st s
  | .stop q st => Sys2Proof.Machine.execStop q st s
  | .stageDisarm q st => Sys2Proof.Machine.execStageDisarm q st s
  | .clear q st => Sys2Proof.Machine.execClear q st s
  | .rampDone st => Sys2Proof.Machine.execRampDone st s
  | .stageRampTimeout st => Sys2Proof.Machine.execStageRampTimeout st s
  | .parameterPost q key v => Sys2Proof.Machine.execParameterPost q key v s
  | .statusMirror st => Sys2Proof.Machine.execStatusMirror st s
  | .idCmd q st => Sys2Proof.Machine.execIdCmd q st s
  | .idApply q st v => Sys2Proof.Machine.execIdApply q st v s
  | .contactorFail st k => Sys2Proof.Machine.execContactorFail st k s
  | .contactorOpen st k => Sys2Proof.Machine.execContactorOpen st k s
  | .starCtOpened st => Sys2Proof.Machine.execStarCtOpened st s
  | .eftCtWeld st => Sys2Proof.Machine.execEftCtWeld st s
  | .faultReport code => Sys2Proof.Machine.execFaultReport code s
  | .faultRequest e cause => Sys2Proof.Machine.execFaultRequest e cause s
  | .reactionComplete => Sys2Proof.Machine.execReactionComplete s
  | .reactUnconfirmed out => Sys2Proof.Machine.execReactUnconfirmed out s
  | .tripMatrixSource src level => Sys2Proof.Machine.execTripMatrixSource src level s
  | .clearCode q code => Sys2Proof.Machine.execClearCode q code s
  | .clearAll q cls => Sys2Proof.Machine.execClearAll q cls s
  | .scorecardCopy => Sys2Proof.Machine.execScorecardCopy s
  | .okayReadback level => Sys2Proof.Machine.execOkayReadback level s
  | .notificationSend ses => Sys2Proof.Machine.execNotificationSend ses s
  | .injCode q code => Sys2Proof.Machine.execInjCode q code s
  | .injSource q src => Sys2Proof.Machine.execInjSource q src s
  | .injectionEnd src => Sys2Proof.Machine.execInjectionEnd src s
  | .slowRound die => Sys2Proof.Machine.execSlowRound die s
  | .fastRound bank => Sys2Proof.Machine.execFastRound bank s
  | .analogShutdown ts => Sys2Proof.Machine.execAnalogShutdown ts s
  | .supplyWarn pp ov => Sys2Proof.Machine.execSupplyWarn pp ov s
  | .supplyWarnRelease pp ov => Sys2Proof.Machine.execSupplyWarnRelease pp ov s
  | .deferEnd => Sys2Proof.Machine.execDeferEnd s
  | .supplyReset pp ov => Sys2Proof.Machine.execSupplyReset pp ov s
  | .journalWrite => Sys2Proof.Machine.execJournalWrite s
  | .journalCommit => Sys2Proof.Machine.execJournalCommit s
  | .shedCmd q => Sys2Proof.Machine.execShedCmd q s
  | .patchLoad q image => Sys2Proof.Machine.execPatchLoad q image s
  | .patchFloorRaise q v => Sys2Proof.Machine.execPatchFloorRaise q v s
  | .overrideWrite q region ww v => Sys2Proof.Machine.execOverrideWrite q region ww v s
  | .ovrClear q region => Sys2Proof.Machine.execOvrClear q region s
  | .otpBurn q v => Sys2Proof.Machine.execOtpBurn q v s
  | .lock q region => Sys2Proof.Machine.execLock q region s
  | .complete q region => Sys2Proof.Machine.execComplete q region s
  | .otpAudit q => Sys2Proof.Machine.execOtpAudit q s
  | .por => Sys2Proof.Machine.execPor s
  | .pinReset => Sys2Proof.Machine.execPinReset s
  | .watchdog => Sys2Proof.Machine.execWatchdog s
  | .lockstepError => Sys2Proof.Machine.execLockstepError s
  | .resetRelease => Sys2Proof.Machine.execResetRelease s
  | .bootStepComplete => Sys2Proof.Machine.execBootStepComplete s
  | .bootStepTimeout => Sys2Proof.Machine.execBootStepTimeout s
  | .bootFail => Sys2Proof.Machine.execBootFail s
  | .bootRetry ok => Sys2Proof.Machine.execBootRetry ok s
  | .startCounterClear => Sys2Proof.Machine.execStartCounterClear s
  | .warmRestart q => Sys2Proof.Machine.execWarmRestart q s
  | .softReset q => Sys2Proof.Machine.execSoftReset q s
  | .restartNormal q => Sys2Proof.Machine.execRestartNormal q s
  | .standby q => Sys2Proof.Machine.execStandby q s
  | .standbyEntered => Sys2Proof.Machine.execStandbyEntered s
  | .wakeEvent src => Sys2Proof.Machine.execWakeEvent src s
  | .park q => Sys2Proof.Machine.execPark q s
  | .wake q => Sys2Proof.Machine.execWake q s
  | .factoryTest q => Sys2Proof.Machine.execFactoryTest q s
  | .defaults q => Sys2Proof.Machine.execDefaults q s
  | .rejectPatches q => Sys2Proof.Machine.execRejectPatches q s
  | .canStart q n => Sys2Proof.Machine.execCanStart q n s
  | .canStop q n => Sys2Proof.Machine.execCanStop q n s
  | .recover q n => Sys2Proof.Machine.execRecover q n s
  | .canIntegrated n => Sys2Proof.Machine.execCanIntegrated n s
  | .canFrameReceived n frame => Sys2Proof.Machine.execCanFrameReceived n frame s
  | .canTxDone n => Sys2Proof.Machine.execCanTxDone n s
  | .canArbitrationLost n => Sys2Proof.Machine.execCanArbitrationLost n s
  | .canError n kind transmitting clash weight => Sys2Proof.Machine.execCanError n kind transmitting clash weight s
  | .canRecovered n => Sys2Proof.Machine.execCanRecovered n s
  | .canQueueLate n => Sys2Proof.Machine.execCanQueueLate n s
  | .txmPeriod m => Sys2Proof.Machine.execTxmPeriod m s
  | .rxmEnable q m v => Sys2Proof.Machine.execRxmEnable q m v s
  | .txmEnable q m v => Sys2Proof.Machine.execTxmEnable q m v s
  | .localTransaction bytes => Sys2Proof.Machine.execLocalTransaction bytes s
  | .localPortReset => Sys2Proof.Machine.execLocalPortReset s
  | .hello ses tag lo hi => Sys2Proof.Machine.execHello ses tag lo hi s
  | .read q key => Sys2Proof.Machine.execRead q key s
  | .write q key len v => Sys2Proof.Machine.execWrite q key len v s
  | .nextKey q key => Sys2Proof.Machine.execNextKey q key s
  | .describe q key => Sys2Proof.Machine.execDescribe q key s
  | .segData q counter data => Sys2Proof.Machine.execSegData q counter data s
  | .segNext q n => Sys2Proof.Machine.execSegNext q n s
  | .abort q => Sys2Proof.Machine.execAbort q s
  | .readRange q key n => Sys2Proof.Machine.execReadRange q key n s
  | .challenge q level => Sys2Proof.Machine.execChallenge q level s
  | .unlock q level mac => Sys2Proof.Machine.execUnlock q level mac s
  | .lockSession q => Sys2Proof.Machine.execLockSession q s
  | .segTimeout ses tag => Sys2Proof.Machine.execSegTimeout ses tag s
  | .serviceTimeout ses => Sys2Proof.Machine.execServiceTimeout ses s
  | .authLockoutEnd ses => Sys2Proof.Machine.execAuthLockoutEnd ses s
  | .storedResponseExpiry ses tag => Sys2Proof.Machine.execStoredResponseExpiry ses tag s
  | .jobProgress slot => Sys2Proof.Machine.execJobProgress slot s
  | .clockReturn clk => Sys2Proof.Machine.execClockReturn clk s
  | .fabricStoreAck t k => Sys2Proof.Machine.execFabricStoreAck t k s
  | .analogShutdownRelease ts => Sys2Proof.Machine.execAnalogShutdownRelease ts s
  | .contactorFeedbackChange k level => Sys2Proof.Machine.execContactorFeedbackChange k level s
  | .bstUvRelease hb => Sys2Proof.Machine.execBstUvRelease hb s
  | .standbyQueueTimeout => Sys2Proof.Machine.execStandbyQueueTimeout s
  | .adcSlotEnd a code => Sys2Proof.Machine.execAdcSlotEnd a code s
  | .edgeTimeReached g kind => Sys2Proof.Machine.execEdgeTimeReached g kind s
  | .receiverLock l => Sys2Proof.Machine.execReceiverLock l s

end Sys2Proof.Machine
end

