-- ==== Sys2Proof/Machine/Idle.lean ====
section
/-! DEFINITION. What passes when no command waits: one tick of CLK_TB (R20). -/

namespace Sys2Proof.Machine

/-- The words of each memory that holds check bits (R59, R329, R346): program memory, local data, the ferroelectric array, the OTP array. -/
def eccWords (m : Nat) : Nat := match m with | 0 => 131072 | 1 => 131072 | 2 => 524288 | _ => 768

/-- At any tick a word of a memory may come to differ from what was written, in one bit or in more: which, a free value says (log entry 23). -/
def State.upsetTick (s : State) : State :=
  let v := Config.free 32 s.free
  let m := v.toNat % 4
  let n := v.toNat / 4 % 4
  let a := v.toNat / 16
  let k := 2 ^ 20 * m + a
  if a < eccWords m ∧ 1 ≤ n ∧ n ≤ 2 then
    ({ s with mem := { s.mem with upset := Tab.set (fun _ => 0) s.mem.upset k (min 2 (s.upset m a + n)) } } : State).tick
  else s.tick

/-- What the P-die does at a tick (R155, R162): STATUS of every half-bridge each 100 µs, and a waiting adjustment where no edge is near. -/
def State.dieTick (s : State) : State :=
  [0, 1, 2, 3].foldl (fun s d =>
    let s := s.whenS ((s.dl d).adj != 0) (·.applyAdj d)
    if s.t48.toNat % 40000 = 0 ∧ (s.lane (32 + d)).st ≠ .off then (bankHbs d).foldl State.sendStatus s else s) s

/-- One tick of CLK_TB (R20, R105): T48 and the carriers count, unless the clock is lost (R23); the supervisor's slice that is due runs (R70,
R95), and a waiting response is loaded where a buffer is free (R385). Log entry 1. -/
def State.idle (s : State) : State :=
  let s : State := if s.pwm.clkLost.contains 0 then s else State.carriers { s with t48 := s.t48 + 1 }
  let s := s.dieTick.upsetTick.slice
  if (s.sess 0).resp.isEmpty then s else s.canKick s.dictCan

end Sys2Proof.Machine
end

