-- ==== Sys2Proof/Machine/Pins.lean ====
section
/-! DEFINITION. The levels of the device's output pins (R104, R135, R221, R304, R374, R377, R404). -/

namespace Sys2Proof.Machine

/-- What a pin shows: a driven level, or the level that an internal pull gives a pin that is not driven. -/
inductive Pin where
  | low | high | undriven | pulledUp | pulledDown
  deriving DecidableEq, Repr

/-- A pin driven at a level. -/
def Pin.ofLevel (b : Bool) : Pin := if b then .high else .low

/-- The device drives nothing: it is in reset (R374). -/
def State.held (s : State) : Bool := s.boot.inReset

/-- BOOT and TADPOLE, where the outputs of the stages are not driven or inactive (R374). -/
def State.early (s : State) : Bool := s.dev == devBoot || s.dev == devTadpole

/-- OKAY (R304, R374): undriven in reset and after OKAY_STUCK_HIGH, low until IDLE. -/
def State.okayPin (s : State) : Pin := if s.held || s.flt.okStuck then .undriven else if s.early then .low else .ofLevel s.okayHigh

/-- Contactor output CTOk (R267, R374). -/
def State.ctoPin (s : State) (k : Nat) : Pin :=
  if s.held then .pulledDown else if s.early then .low else .ofLevel (s.stages.cto.getLsbD k)

/-- PWMOp (R104, R374): its internal pull gives the level until the device first enters IDLE, which a boot that ends in SAFE has not done. -/
def State.pwmoOut (s : State) (p : Nat) : Pin :=
  if s.held || s.early || s.boot.safe || s.dev == devStandby then .pulledDown else .ofLevel (s.pwmoPin p)

/-- The transmit pair of lane L0 to L31 is driven (R135, R369, R374, R432): not in reset, in BOOT, in STANDBY, without VDDL, or while the lane is OFF. -/
def State.laneDriven (s : State) (l : Nat) : Bool :=
  !(s.held || s.dev == devBoot || s.dev == devStandby || (s.supply 4).reset || (s.lane l).st == .off)

/-- nLIRQ (R404, R428): open drain, low while the device has a frame waiting on LOCAL. -/
def State.nLirqPin (s : State) : Pin := if s.held || !s.served 1 || s.nLirq then .pulledUp else .low

/-- LMISO (R428): high impedance while nLCS is high, as between any two commands. -/
def State.lmisoPin (_s : State) : Pin := .undriven

/-- QCMPn (R221, R374): not driven in reset, BOOT and TADPOLE; its active level is low where QE_QCMP_POL is 1. -/
def State.qcmpPin (s : State) (n : Nat) : Pin :=
  if s.held || s.early then .undriven else .ofLevel ((s.qe n).qcmp != decide (s.en 8 0x01D n = 1))

/-- nRST (R358, R374): the device drives it low in a reset and releases it. -/
def State.nrstPin (s : State) : Pin := if s.held then .low else .undriven

/-- CANnSTB (R377): low only while CANn is enabled and not OFF, high in OFF and in STANDBY, undriven in reset. -/
def State.canStbPin (s : State) (n : Nat) : Pin :=
  if s.held then .undriven else .ofLevel ((s.can n).st == .off || s.dev == devStandby)

/-- The frame that CANn has on the wire, with the error state indicator of the controller's error state (R378). -/
def State.wireFrame (s : State) (n : Nat) : Option CanFrame :=
  let c := s.can n
  (c.wire.bind (fun b => (c.buf b).active)).map (fun f => { f with esi := f.fdf && c.st == .errorPassive })

/-- CANnTX (R374, R377): recessive while no frame is on its way; the bit of a frame that the controller transmits is a free value, for the
model has no bit time (log entry 39). -/
def State.canTxPin (s : State) (n : Nat) : Pin :=
  if s.held then .pulledUp
  else if (s.can n).wire.isSome then .ofLevel ((Config.free 1 s.free) == 1) else .high

end Sys2Proof.Machine
end

