-- ==== Sys2Proof/Machine/Words.lean ====
section
/-! DEFINITION. The words of the loop engines' instructions, written from the formats of R38, R40 and R41: the encoder whose inverse
Machine/Debug.lean reads at STEP. -/

namespace Sys2Proof.Machine

/-- An instruction word (R38): COND, OP and operands. -/
def word (c : BitVec 4) (op : BitVec 6) (operands : BitVec 14) : Word := c ++ op ++ operands

/-- A four-bit register field. -/
def r4 (i : Fin 16) : BitVec 4 := BitVec.ofFin i
/-- A two-bit pointer or flag field. -/
def r2 (i : Fin 4) : BitVec 2 := BitVec.ofFin i
/-- The accumulator field. -/
def r1 (i : Fin 2) : BitVec 1 := BitVec.ofFin i

/-- The word of an engine's instruction and its immediate extension, 0 where it has none (R38, R40, R41); fields that the mnemonic does
not name are 0. No other command has a word. -/
def engineWords (i : Instr) : Option (Word × Word) :=
  match i with
  | .nop _ c => some (word c 0x00 (0#14), 0)
  | .mov _ c rd rs m => some (word c 0x01 (r4 rd ++ r4 rs ++ 0#4 ++ m), 0)
  | .ldi _ c rd imm => some (word c 0x02 (r4 rd ++ imm), 0)
  | .movi _ c rd imm => some (word c 0x03 (r4 rd ++ 0#10), imm)
  | .mfs _ c rd sreg => some (word c 0x04 (r4 rd ++ 0#4 ++ sreg), 0)
  | .mts _ c sreg rs => some (word c 0x05 (r4 rs ++ 0#4 ++ sreg), 0)
  | .sev _ c n => some (word c 0x06 (0#8 ++ n), 0)
  | .fence _ c => some (word c 0x07 (0#14), 0)
  | .add _ c rd rs rt m => some (word c 0x08 (r4 rd ++ r4 rs ++ r4 rt ++ m), 0)
  | .adds _ c rd rs rt m => some (word c 0x09 (r4 rd ++ r4 rs ++ r4 rt ++ m), 0)
  | .sub _ c rd rs rt m => some (word c 0x0A (r4 rd ++ r4 rs ++ r4 rt ++ m), 0)
  | .subs _ c rd rs rt m => some (word c 0x0B (r4 rd ++ r4 rs ++ r4 rt ++ m), 0)
  | .neg _ c rd rs m => some (word c 0x0C (r4 rd ++ r4 rs ++ 0#4 ++ m), 0)
  | .abs _ c rd rs m => some (word c 0x0D (r4 rd ++ r4 rs ++ 0#4 ++ m), 0)
  | .min _ c rd rs rt m => some (word c 0x0E (r4 rd ++ r4 rs ++ r4 rt ++ m), 0)
  | .max _ c rd rs rt m => some (word c 0x0F (r4 rd ++ r4 rs ++ r4 rt ++ m), 0)
  | .and _ c rd rs rt m => some (word c 0x10 (r4 rd ++ r4 rs ++ r4 rt ++ m), 0)
  | .or _ c rd rs rt m => some (word c 0x11 (r4 rd ++ r4 rs ++ r4 rt ++ m), 0)
  | .xor _ c rd rs rt m => some (word c 0x12 (r4 rd ++ r4 rs ++ r4 rt ++ m), 0)
  | .not _ c rd rs m => some (word c 0x13 (r4 rd ++ r4 rs ++ 0#4 ++ m), 0)
  | .shl _ c rd rs rt m => some (word c 0x14 (r4 rd ++ r4 rs ++ r4 rt ++ m), 0)
  | .shr _ c rd rs rt m => some (word c 0x15 (r4 rd ++ r4 rs ++ r4 rt ++ m), 0)
  | .shli _ c rd rs n sa => some (word c 0x16 (r4 rd ++ r4 rs ++ n ++ BitVec.ofBool sa), 0)
  | .shri _ c rd rs n sa => some (word c 0x17 (r4 rd ++ r4 rs ++ n ++ BitVec.ofBool sa), 0)
  | .clamp _ c rd rs rt m => some (word c 0x18 (r4 rd ++ r4 rs ++ r4 rt ++ m), 0)
  | .norm _ c rd rs m => some (word c 0x19 (r4 rd ++ r4 rs ++ 0#4 ++ m), 0)
  | .mulw _ c rd rs rt m => some (word c 0x1A (r4 rd ++ r4 rs ++ r4 rt ++ m), 0)
  | .rcps _ c rd rs m => some (word c 0x1B (r4 rd ++ r4 rs ++ 0#4 ++ m), 0)
  | .rsqs _ c rd rs m => some (word c 0x1C (r4 rd ++ r4 rs ++ 0#4 ++ m), 0)
  | .csc _ c rd rs m => some (word c 0x1D (r4 rd ++ r4 rs ++ 0#4 ++ m), 0)
  | .cat _ c rd rs rt m => some (word c 0x1E (r4 rd ++ r4 rs ++ r4 rt ++ m), 0)
  | .cmp _ c fd rs rt cc => some (word c 0x20 (r2 fd ++ cc ++ r4 rs ++ r4 rt ++ 0#2), 0)
  | .cmpu _ c fd rs rt cc => some (word c 0x21 (r2 fd ++ cc ++ r4 rs ++ r4 rt ++ 0#2), 0)
  | .cmpi _ c fd rs imm cc => some (word c 0x22 (r2 fd ++ cc ++ r4 rs ++ imm), 0)
  | .flog _ c fd op fa fb => some (word c 0x23 (r2 fd ++ op ++ r2 fa ++ r2 fb ++ 0#6), 0)
  | .sel _ c rd rs rt fc => some (word c 0x24 (r4 rd ++ r4 rs ++ r4 rt ++ r2 fc), 0)
  | .mul _ c a rs rt m => some (word c 0x28 (0#3 ++ r1 a ++ r4 rs ++ r4 rt ++ m), 0)
  | .mac _ c a rs rt m => some (word c 0x29 (0#3 ++ r1 a ++ r4 rs ++ r4 rt ++ m), 0)
  | .msu _ c a rs rt m => some (word c 0x2A (0#3 ++ r1 a ++ r4 rs ++ r4 rt ++ m), 0)
  | .acld _ c a rs m => some (word c 0x2B (0#3 ++ r1 a ++ r4 rs ++ 0#4 ++ m), 0)
  | .acadd _ c a m => some (word c 0x2C (0#3 ++ r1 a ++ 0#8 ++ m), 0)
  | .acsh _ c a n => some (word c 0x2D (0#3 ++ r1 a ++ 0#4 ++ n), 0)
  | .rnd _ c rd a m => some (word c 0x2E (r4 rd ++ r1 a ++ 0#7 ++ m), 0)
  | .acx _ c rd a m => some (word c 0x2F (r4 rd ++ r1 a ++ 0#7 ++ m), 0)
  | .ld _ c rd p am off => some (word c 0x30 (r4 rd ++ r2 p ++ am ++ off), 0)
  | .st _ c p rs am off => some (word c 0x31 (r4 rs ++ r2 p ++ am ++ off), 0)
  | .lda _ c rd addr => some (word c 0x32 (r4 rd ++ 0#10), addr)
  | .sta _ c addr rs => some (word c 0x33 (r4 rs ++ 0#10), addr)
  | .ldr _ c rd rs m => some (word c 0x34 (r4 rd ++ r4 rs ++ 0#4 ++ m), 0)
  | .str _ c rd rs m => some (word c 0x35 (r4 rd ++ r4 rs ++ 0#4 ++ m), 0)
  | .brk _ c => some (word c 0x37 (0#14), 0)
  | .bra _ c target => some (word c 0x38 (0#1 ++ target), 0)
  | .call _ c target => some (word c 0x39 (0#1 ++ target), 0)
  | .jmpr _ c rs m => some (word c 0x3A (0#4 ++ r4 rs ++ 0#4 ++ m), 0)
  | .ret _ c => some (word c 0x3B (0#14), 0)
  | .loopi _ c off count => some (word c 0x3C (0#4 ++ off), count)
  | .loopr _ c rs off => some (word c 0x3D (r4 rs ++ off), 0)
  | .waitev _ c rd ext => some (word c 0x3E (r4 rd ++ 0#10), ext)
  | .yield _ c => some (word c 0x3F (0#14), 0)
  | _ => none

/-- The engine that an engine's instruction names. -/
def engineOf (i : Instr) : Option (Fin 16) :=
  match i with
  | .nop e .. => some e
  | .mov e .. => some e
  | .ldi e .. => some e
  | .movi e .. => some e
  | .mfs e .. => some e
  | .mts e .. => some e
  | .sev e .. => some e
  | .fence e .. => some e
  | .add e .. => some e
  | .adds e .. => some e
  | .sub e .. => some e
  | .subs e .. => some e
  | .neg e .. => some e
  | .abs e .. => some e
  | .min e .. => some e
  | .max e .. => some e
  | .and e .. => some e
  | .or e .. => some e
  | .xor e .. => some e
  | .not e .. => some e
  | .shl e .. => some e
  | .shr e .. => some e
  | .shli e .. => some e
  | .shri e .. => some e
  | .clamp e .. => some e
  | .norm e .. => some e
  | .mulw e .. => some e
  | .rcps e .. => some e
  | .rsqs e .. => some e
  | .csc e .. => some e
  | .cat e .. => some e
  | .cmp e .. => some e
  | .cmpu e .. => some e
  | .cmpi e .. => some e
  | .flog e .. => some e
  | .sel e .. => some e
  | .mul e .. => some e
  | .mac e .. => some e
  | .msu e .. => some e
  | .acld e .. => some e
  | .acadd e .. => some e
  | .acsh e .. => some e
  | .rnd e .. => some e
  | .acx e .. => some e
  | .ld e .. => some e
  | .st e .. => some e
  | .lda e .. => some e
  | .sta e .. => some e
  | .ldr e .. => some e
  | .str e .. => some e
  | .brk e .. => some e
  | .bra e .. => some e
  | .call e .. => some e
  | .jmpr e .. => some e
  | .ret e .. => some e
  | .loopi e .. => some e
  | .loopr e .. => some e
  | .waitev e .. => some e
  | .yield e .. => some e
  | _ => none

end Sys2Proof.Machine
end

