-- ==== Sys2Proof/Safety.lean ====
section
/-! DEFINITION. What counts as a sound state: the properties that every step is to keep. No command of the part stops the model, so
no run is unsafe for want of a next state. -/

namespace Sys2Proof.Machine

/-- Every word memory, and the list of the words that an upset has changed, is in the canonical form of Machine/Tab.lean (R60, R329, R345). -/
abbrev Mem.wf (m : Mem) : Prop :=
  Tab.wf (fun _ => (0 : Word)) m.pm ∧ Tab.wf (fun _ => (0 : Word)) m.loc ∧ Tab.wf (fun _ => (0 : Word)) m.tile ∧
  Tab.wf (fun _ => (0 : Word)) m.fram ∧ Tab.wf (fun _ => (0 : Word)) m.otp ∧ Tab.wf (fun _ => (0 : Word)) m.shadow ∧
  Tab.wf (fun _ => 0) m.upset

/-- The memories of a state are in canonical form. -/
abbrev State.MemOk (s : State) : Prop := s.mem.wf

end Sys2Proof.Machine
end

