-- ==== Sys2Proof/Certificates/Slice0/Obligations.lean ====
section
/-! DEFINITION. The statements for the provers. The helpers before a statement are its own vocabulary: what a command leaves as it was,
and the spec's words as a predicate. -/

open Sys2Proof Sys2Proof.Machine Host

namespace Sys2Proof.Machine

/-- A command answers a next state of which `P` holds. -/
def Answers (c : Instr) (s : State) (P : State → Prop) : Prop := ∃ t, exec c s = .next t ∧ P t

/-- No task migrates (R87). Where one does, a stage that leaves ARMED and RUN also abandons it (R89). -/
def NoMigration (s : State) : Prop := ∀ t, t < 96 → (s.task t).mig = none

end Sys2Proof.Machine

/-! ### The queue and time -/

/-- A step takes the command at the front of the queue, in the order in which the commands came (R417), and is `exec` of it on the state
with the queue's rest; no word spells a command. With no command waiting, no clock lost and no evaluation of the Referee due, a step is one tick of CLK_TB: T48 counts by one and wraps at 2^48
(R20), the carriers count, the P-die may send, a word may come to hold an error, and a response that waits may be loaded into a transmit buffer; nothing else changes. What an empty queue does is the model's choice (log entries 1 and 23). -/
def Obligations.StepRunsTheFrontCommand : Prop :=
    (∀ (c : Instr) (rest : List Instr) (s : State),
      step { s with pending := c :: rest } = exec c { s with pending := rest } ∧
      ∀ (nbits w : Nat), s.withFetchWord nbits w = s) ∧
    (∀ s : State, s.pending = [] → 0 ∉ s.pwm.clkLost → s.ref.due = false →
      ∃ t, step s = .next t ∧ t.t48 = s.t48 + 1 ∧
        t = { s with t48 := t.t48, free := s.free + 1, pwm := { s.pwm with cl := t.pwm.cl }, drv := { s.drv with dl := t.drv.dl },
                     mem := { s.mem with upset := t.mem.upset }, cans := t.cans, ses := t.ses, ent := t.ent })

/-! ### The loop engines (02_loop_engines.md) -/

namespace Sys2Proof.Machine

/-- The address of the next fetch behind an instruction of `words` words in context `x` (R51): the start of an active loop that ends
here and goes round again, or the word that follows. -/
def Ctx.nextFetch (x : Ctx) (words : Nat) : Nat :=
  (Ctx.loopBack (x.pc.toNat + words - 1) x.loops x (x.pc.toNat + words)).2

/-- The budget timer of context `x` outlasts any instruction (R55, R57): the `sw` cycles of a switch, any stall, and two words. -/
def Ctx.lasts (x : Ctx) (sw : Nat) : Prop :=
  x.budget ≠ 0 ∧ ∀ uses accs cordic, sw + (x.charge sw).stall uses accs cordic + 2 ≤ x.budget.toNat

/-- The words of a fetch of context `k` on engine `e` hold no error (R59). -/
def State.sound (s : State) (e k : Nat) : Prop :=
  s.upsets 0 (8192 * e + (s.ctx k).pc.toNat) 2 1 = 0 ∧ s.upsets 0 (8192 * e + (s.ctx k).pc.toNat) 2 2 = 0

/-- The cycles of the switch to task `t` (R55). -/
def State.switch (s : State) (e t : Nat) : Nat := if (s.eng e).last.isSome && (s.eng e).last != some t then 2 else 0

/-- An address is in the code range of task `t` on engine `e` (R50). -/
def State.inCode (s : State) (t : Nat) (e : Fin 16) (a : Nat) : Prop :=
  (s.codeRange t e.val).1 ≤ a ∧ a < (s.codeRange t e.val).1 + (s.codeRange t e.val).2

/-- The words of an instruction of `words` words in context `k` and the next fetch behind it are in the code range (R50). -/
def State.follows (s : State) (t : Nat) (e : Fin 16) (k words : Nat) : Prop :=
  s.inCode t e ((s.ctx k).pc.toNat + words - 1) ∧ s.inCode t e ((s.ctx k).nextFetch words)

/-- Engine `e` issues, for task `t` in context `k`, an instruction of COND `c` that uses the registers `regs`: the task is the one that
runs (R56), the engine is not halted, COND is listed and true (R39), no load of a register in use is outstanding (R55), the budget timer
outlasts the instruction (R57), its first word is in the code range (R50), and its words hold no error (R59). -/
structure Issues (s : State) (e : Fin 16) (c : BitVec 4) (regs : List (Fin 16)) (t k : Nat) : Prop where
  runs : ∃ i, s.running e.val = some (t, i) ∧ k = 6 * e.val + i
  live : (s.eng e.val).halted = false
  listed : c = 0 ∨ 8 ≤ c.toNat
  holds : c ≠ 0 → (s.ctx k).f.getD (c.toNat % 4) false = decide (c.toNat < 12)
  loaded : ∀ p ∈ (s.ctx k).loads, p.1 ∉ regs
  lasts : (s.ctx k).lasts (s.switch e t)
  here : s.inCode t e (s.ctx k).pc.toNat
  sound : s.sound e k

/-- Only context `k` changed, and engine `e` has executed task `task` last and counts the cycles; all else, every memory, mailbox, entry, other context and other
engine, is as before. -/
def OnlyContext (s t : State) (e : Fin 16) (task k : Nat) : Prop :=
  t = { s with loop := { s.loop with ctx := t.loop.ctx, engs := t.loop.engs } } ∧
  (∀ j, j ≠ k → t.ctx j = s.ctx j) ∧
  ∀ j, t.eng j = if j = e.val then { s.eng e.val with last := some task, held := (t.eng e.val).held } else s.eng j

/-- Context `x` after an instruction of `words` words without a branch: time passes in CYC, BUDLEFT and the readiness of results as in
`y`, loops that end here count (R51), and the next fetch follows. Nothing else changes. -/
def Ctx.after (x y : Ctx) (words : Nat) : Ctx :=
  let z := (Ctx.loopBack (x.pc.toNat + words - 1) x.loops x (x.pc.toNat + words)).1
  { x with
    cyc := y.cyc, budget := y.budget, rdy := y.rdy, acRdy := y.acRdy, cordic := y.cordic
    lc := z.lc, loops := z.loops, pc := BitVec.ofNat 13 (x.nextFetch words) }

/-- The command `i` answers a next state in which only context `k` changed: `f` of it, then what `Ctx.after` says. -/
def Completes (i : Instr) (s : State) (e : Fin 16) (words task k : Nat) (f : Ctx → Ctx) : Prop :=
  ∃ t, exec i s = .next t ∧ OnlyContext s t e task k ∧ t.ctx k = (f (s.ctx k)).after (t.ctx k) words

/-- Register `rd` takes `v`. -/
def Ctx.withW (x : Ctx) (rd : Fin 16) (v : Word) : Ctx := { x with w := x.w.set rd.val v rd.isLt }

/-- Register `rd` takes `v`, and SR.SAT is set where `b` says that the operation saturated; it never falls (R35). -/
def Ctx.withSat (x : Ctx) (rd : Fin 16) (v : Word) (b : Bool) : Ctx := { x.withW rd v with sat := x.sat || b }

/-- The word `v` and the flag `b` are the saturated value of `n` (R35): the nearer limit of [0x80_0000, 0x7F_FFFF], and SAT where `n` lies
outside. -/
def Saturates (n : Int) (v : Word) (b : Bool) : Prop :=
  v.toInt = max (-8388608) (min 8388607 n) ∧ (b = true ↔ n < -8388608 ∨ 8388607 < n)

/-- The accumulator value `v` and the flag `b` are the saturated value of `n` (R36). -/
def SaturatesAc (n : Int) (v : BitVec 56) (b : Bool) : Prop :=
  v.toInt = max (-(2 ^ 55)) (min (2 ^ 55 - 1) n) ∧ (b = true ↔ n < -(2 ^ 55) ∨ 2 ^ 55 - 1 < n)

end Sys2Proof.Machine

/-- NOP, the moves, the bitwise operations and SEL (R41), addition, subtraction, negation, magnitude, minimum, maximum, CLAMP and NORM (R35, R41, R43): rd
takes the result, and nothing else changes but SAT; wrapping operations deliver the low 24 bits and set no flag; saturating ones the nearer limit, with
SAT; CLAMP limits rs to [-rt, rt], 0 for a negative rt, and sets SAT where the result differs from rs; NORM counts the leading bits equal to bit 23, minus 1.
Readings that the model chose: log entry 10. -/
def Obligations.MovesBitsAndSumsComplete : Prop :=
    (∀ (s : State) (e rd rs rt : Fin 16) (c : BitVec 4) (fc : Fin 4) (imm : BitVec 10) (imm24 : Word) (t k : Nat),
      Issues s e c [rd, rs, rt] t k →
      (s.inCode t e ((s.ctx k).nextFetch 1) →
        Completes (.nop e c) s e 1 t k id ∧
        Completes (.mov e c rd rs 0) s e 1 t k (fun x => x.withW rd x.w[rs]) ∧
        Completes (.ldi e c rd imm) s e 1 t k (fun x => x.withW rd (BitVec.ofInt 24 imm.toInt)) ∧
        Completes (.and e c rd rs rt 0) s e 1 t k (fun x => x.withW rd (x.w[rs] &&& x.w[rt])) ∧
        Completes (.or e c rd rs rt 0) s e 1 t k (fun x => x.withW rd (x.w[rs] ||| x.w[rt])) ∧
        Completes (.xor e c rd rs rt 0) s e 1 t k (fun x => x.withW rd (x.w[rs] ^^^ x.w[rt])) ∧
        Completes (.not e c rd rs 0) s e 1 t k (fun x => x.withW rd (~~~x.w[rs])) ∧
        Completes (.sel e c rd rs rt fc) s e 1 t k (fun x => x.withW rd (if x.f[fc] then x.w[rs] else x.w[rt]))) ∧
      (s.follows t e k 2 →
        Completes (.movi e c rd imm24) s e 2 t k (fun x => x.withW rd imm24))) ∧
    (∀ (s : State) (e rd rs rt : Fin 16) (c : BitVec 4) (t k : Nat),
      Issues s e c [rd, rs, rt] t k → s.inCode t e ((s.ctx k).nextFetch 1) →
      Completes (.add e c rd rs rt 0) s e 1 t k (fun x => x.withW rd (BitVec.ofInt 24 (x.w[rs].toInt + x.w[rt].toInt))) ∧
      Completes (.sub e c rd rs rt 0) s e 1 t k (fun x => x.withW rd (BitVec.ofInt 24 (x.w[rs].toInt - x.w[rt].toInt))) ∧
      (∃ v b, Saturates ((s.ctx k).w[rs].toInt + (s.ctx k).w[rt].toInt) v b ∧
        Completes (.adds e c rd rs rt 0) s e 1 t k (·.withSat rd v b)) ∧
      (∃ v b, Saturates ((s.ctx k).w[rs].toInt - (s.ctx k).w[rt].toInt) v b ∧
        Completes (.subs e c rd rs rt 0) s e 1 t k (·.withSat rd v b)) ∧
      (∃ v b, Saturates (-(s.ctx k).w[rs].toInt) v b ∧ Completes (.neg e c rd rs 0) s e 1 t k (·.withSat rd v b)) ∧
      (∃ v b, Saturates (|(s.ctx k).w[rs].toInt|) v b ∧ Completes (.abs e c rd rs 0) s e 1 t k (·.withSat rd v b)) ∧
      (∃ v : Word, v.toInt = min (s.ctx k).w[rs].toInt (s.ctx k).w[rt].toInt ∧
        Completes (.min e c rd rs rt 0) s e 1 t k (·.withW rd v)) ∧
      (∃ v : Word, v.toInt = max (s.ctx k).w[rs].toInt (s.ctx k).w[rt].toInt ∧
        Completes (.max e c rd rs rt 0) s e 1 t k (·.withW rd v)) ∧
      (∃ v : Word, v.toInt = (if (s.ctx k).w[rt].toInt < 0 then 0
          else max (-(s.ctx k).w[rt].toInt) (min (s.ctx k).w[rt].toInt (s.ctx k).w[rs].toInt)) ∧
        Completes (.clamp e c rd rs rt 0) s e 1 t k (·.withSat rd v (decide (v ≠ (s.ctx k).w[rs])))) ∧
      (∃ n : Nat, n ≤ 23 ∧ (∀ i, i ≤ n → (s.ctx k).w[rs].getLsbD (23 - i) = (s.ctx k).w[rs].getLsbD 23) ∧
        (n < 23 → (s.ctx k).w[rs].getLsbD (22 - n) ≠ (s.ctx k).w[rs].getLsbD 23) ∧
        Completes (.norm e c rd rs 0) s e 1 t k (·.withW rd (BitVec.ofNat 24 n))))

/-- SHL, SHR, SHLI and SHRI with every listed mode (R35, R43): left shifts wrap or saturate; right shifts are logical, arithmetic toward
minus infinity, or arithmetic rounded half up. The shift amount is rt[4:0] or SH.
Readings that the model chose: log entry 14. -/
def Obligations.ShiftsComplete : Prop :=
  ∀ (s : State) (e rd rs rt : Fin 16) (c : BitVec 4) (n : BitVec 5) (t k : Nat),
    Issues s e c [rd, rs, rt] t k → s.inCode t e ((s.ctx k).nextFetch 1) →
    let a := (s.ctx k).w[rs]
    let m := (s.ctx k).w[rt].toNat % 32
    Completes (.shl e c rd rs rt 0) s e 1 t k (·.withW rd (BitVec.ofInt 24 (a.toInt * 2 ^ m))) ∧
    Completes (.shli e c rd rs n false) s e 1 t k (·.withW rd (BitVec.ofInt 24 (a.toInt * 2 ^ n.toNat))) ∧
    (∃ v b, Saturates (a.toInt * 2 ^ m) v b ∧ Completes (.shl e c rd rs rt 1) s e 1 t k (·.withSat rd v b)) ∧
    (∃ v b, Saturates (a.toInt * 2 ^ n.toNat) v b ∧ Completes (.shli e c rd rs n true) s e 1 t k (·.withSat rd v b)) ∧
    Completes (.shr e c rd rs rt 0) s e 1 t k (·.withW rd (BitVec.ofNat 24 (a.toNat / 2 ^ m))) ∧
    Completes (.shri e c rd rs n false) s e 1 t k (·.withW rd (BitVec.ofNat 24 (a.toNat / 2 ^ n.toNat))) ∧
    Completes (.shr e c rd rs rt 1) s e 1 t k (·.withW rd (BitVec.ofInt 24 ⌊(a.toInt : ℚ) / 2 ^ m⌋)) ∧
    Completes (.shri e c rd rs n true) s e 1 t k (·.withW rd (BitVec.ofInt 24 ⌊(a.toInt : ℚ) / 2 ^ n.toNat⌋)) ∧
    Completes (.shr e c rd rs rt 2) s e 1 t k (·.withW rd (BitVec.ofInt 24 ⌊(a.toInt : ℚ) / 2 ^ m + 1 / 2⌋))

namespace Sys2Proof.Machine

/-- Accumulator `a` takes `v`, and SR.ACV is set where `b` says that it saturated (R36). -/
def Ctx.withAc (x : Ctx) (a : Fin 2) (v : BitVec 56) (b : Bool) : Ctx := { x with ac := x.ac.set a.val v a.isLt, acv := x.acv || b }

/-- The word `v` and the flag `b` are the accumulator value `n` converted by rounding mode `m` (R37): half up, toward minus infinity, or
half even, then saturated. -/
def Converts (n : Int) (m : BitVec 2) (v : Word) (b : Bool) : Prop :=
  ∃ r : Int, Saturates r v b ∧
    (m = 0 → r = ⌊(n : ℚ) / 2 ^ 23 + 1 / 2⌋) ∧ (m = 1 → r = ⌊(n : ℚ) / 2 ^ 23⌋) ∧
    (m = 2 → |(n : ℚ) / 2 ^ 23 - r| ≤ 1 / 2 ∧ (|(n : ℚ) / 2 ^ 23 - r| = 1 / 2 → r % 2 = 0))

/-- A word as the operand of a product: signed or unsigned (R45). -/
def operand (a : Word) (unsigned : Bool) : Int := if unsigned then (a.toNat : Int) else a.toInt

end Sys2Proof.Machine

/-- MUL, MAC, MSU, ACLD, ACADD and ACSH (R36, R41, R45) with every listed M: accumulator `a` takes the exact result, saturated at the 56-bit limits with ACV; the
other accumulator, the registers and the other flags stay. Each M is listed in which an operand is unsigned. MULW, RND and ACX (R37, R41): MULW and RND convert
a product and an accumulator to a word, round, saturate and set SAT; ACX delivers the raw parts [23:0], [47:24] and [55:48] sign-extended. -/
def Obligations.AccumulatorsAndConversionsComplete : Prop :=
    (∀ (s : State) (e rs rt : Fin 16) (c : BitVec 4) (a b : Fin 2) (m : BitVec 2) (n : BitVec 6) (t k : Nat),
      Issues s e c [rs, rt] t k → s.inCode t e ((s.ctx k).nextFetch 1) → a ≠ b →
      let x := s.ctx k
      let p := operand x.w[rs] (m != 0) * operand x.w[rt] (m == 2)
      (m ≠ 3 →
        (∃ v f, SaturatesAc p v f ∧ Completes (.mul e c a rs rt m) s e 1 t k (·.withAc a v f)) ∧
        (∃ v f, SaturatesAc (x.ac[a].toInt + p) v f ∧ Completes (.mac e c a rs rt m) s e 1 t k (·.withAc a v f)) ∧
        (∃ v f, SaturatesAc (x.ac[a].toInt - p) v f ∧ Completes (.msu e c a rs rt m) s e 1 t k (·.withAc a v f))) ∧
      Completes (.acld e c a rs 0) s e 1 t k (·.withAc a (BitVec.ofInt 56 (x.w[rs].toInt * 2 ^ 23)) false) ∧
      Completes (.acld e c a rs 1) s e 1 t k (·.withAc a 0 false) ∧
      (∃ v f, SaturatesAc (x.ac[a].toInt + x.ac[b].toInt) v f ∧ Completes (.acadd e c a 0) s e 1 t k (·.withAc a v f)) ∧
      (∃ v f, SaturatesAc (x.ac[a].toInt - x.ac[b].toInt) v f ∧ Completes (.acadd e c a 1) s e 1 t k (·.withAc a v f)) ∧
      Completes (.acadd e c a 2) s e 1 t k (·.withAc a x.ac[b] false) ∧
      (∃ v f, SaturatesAc (if 0 ≤ n.toInt then x.ac[a].toInt * 2 ^ n.toInt.toNat else ⌊(x.ac[a].toInt : ℚ) / 2 ^ (-n.toInt).toNat⌋) v f ∧
        Completes (.acsh e c a n) s e 1 t k (·.withAc a v f))) ∧
    (∀ (s : State) (e rd rs rt : Fin 16) (c : BitVec 4) (a : Fin 2) (m : BitVec 2) (t k : Nat),
      Issues s e c [rd, rs, rt] t k → s.inCode t e ((s.ctx k).nextFetch 1) →
      (m ≠ 3 →
        (∃ v b, Converts ((s.ctx k).w[rs].toInt * (s.ctx k).w[rt].toInt) m v b ∧
          Completes (.mulw e c rd rs rt m) s e 1 t k (·.withSat rd v b)) ∧
        (∃ v b, Converts (s.ctx k).ac[a].toInt m v b ∧ Completes (.rnd e c rd a m) s e 1 t k (·.withSat rd v b))) ∧
      Completes (.acx e c rd a 0) s e 1 t k (fun x => x.withW rd (BitVec.ofNat 24 x.ac[a].toNat)) ∧
      Completes (.acx e c rd a 1) s e 1 t k (fun x => x.withW rd (BitVec.ofNat 24 (x.ac[a].toNat / 2 ^ 24))) ∧
      Completes (.acx e c rd a 2) s e 1 t k (fun x => x.withW rd (BitVec.ofInt 24 (x.ac[a].toInt / 2 ^ 48))))

namespace Sys2Proof.Machine

/-- Flag `fd` takes `v`. -/
def Ctx.withF (x : Ctx) (fd : Fin 4) (v : Bool) : Ctx := { x with f := x.f.set fd.val v fd.isLt }

/-- The registers `rd` and `rd + 1` take `v` and `w`, and SR.CSAT is set where `b` holds. -/
def Ctx.withPair (x : Ctx) (rd : Fin 16) (v w : Word) (b : Bool) : Ctx :=
  { (x.withW rd v).withW (rd + 1) w with csat := x.csat || b }

/-- The word `v` is at most 4 LSB from `c`, round the full turn (R46). -/
def nearAngle (v c : Word) : Prop := |(v - c).toInt| ≤ 4

end Sys2Proof.Machine

/-- CSC, CAT, RCPS and RSQS (R46, R47) of every operand. CSC and CAT of an even rd write the pair rd, rd + 1, and CSAT where a magnitude is 1 or more, and
nothing else. On the axes the results of CSC and the angle of CAT are within 4 LSB, +1 delivers 0x7F_FFFF, and CAT of (0, 0) gives 0 and 0. A seed is within
12 bits (2^11 LSB) of 1 / (2x) or 0.5 / sqrt(x), in (0.5, 1]; outside its domain it is 0x7F_FFFF with SAT.
Readings that the model chose: log entry 6. -/
def Obligations.CordicAndSeedsComplete : Prop :=
  ∀ (s : State) (e rd rs rt : Fin 16) (c : BitVec 4) (t k : Nat),
    s.inCode t e ((s.ctx k).nextFetch 1) →
    let x := s.ctx k
    let a := x.w[rs]
    (Issues s e c [rd, rd + 1, rs, rt] t k → rd.val % 2 = 0 →
      (∃ v w, Completes (.csc e c rd rs 0) s e 1 t k (·.withPair rd v w false) ∧
        (a = 0 → v = 0x7FFFFF ∧ |w.toInt| ≤ 4) ∧ (a = 0x400000 → |v.toInt| ≤ 4 ∧ w = 0x7FFFFF) ∧
        (a = 0x800000 → v.toInt ≤ 4 - 2 ^ 23 ∧ |w.toInt| ≤ 4) ∧ (a = 0xC00000 → |v.toInt| ≤ 4 ∧ w.toInt ≤ 4 - 2 ^ 23)) ∧
      (∃ v w b, Completes (.cat e c rd rs rt 0) s e 1 t k (·.withPair rd v w b) ∧
        (a = 0 ∧ x.w[rt] = 0 → v = 0 ∧ w = 0 ∧ b = false) ∧
        (a = 0 ∧ 0 < x.w[rt].toInt → nearAngle v 0) ∧ (0 < a.toInt ∧ x.w[rt] = 0 → nearAngle v 0x400000) ∧
        (a = 0 ∧ x.w[rt].toInt < 0 → nearAngle v 0x800000) ∧ (a.toInt < 0 ∧ x.w[rt] = 0 → nearAngle v 0xC00000) ∧
        (b = true ↔ 2 ^ 46 ≤ a.toInt ^ 2 + x.w[rt].toInt ^ 2) ∧ (b = true → w = 0x7FFFFF))) ∧
    (Issues s e c [rd, rs] t k →
      (∃ v b, Completes (.rcps e c rd rs 0) s e 1 t k (·.withSat rd v b) ∧
        (b = true ↔ a.toInt < 2 ^ 22) ∧ (b = true → v = 0x7FFFFF) ∧
        (b = false → 2 ^ 22 < v.toInt ∧ |(v.toInt : ℚ) - 2 ^ 45 / a.toInt| ≤ 2 ^ 11)) ∧
      (∃ v b, Completes (.rsqs e c rd rs 0) s e 1 t k (·.withSat rd v b) ∧
        (b = true ↔ a.toInt < 2 ^ 21) ∧ (b = true → v = 0x7FFFFF) ∧
        (b = false → 2 ^ 22 < v.toInt ∧ (v.toInt - 2 ^ 11) ^ 2 * a.toInt ≤ 2 ^ 67 ∧ 2 ^ 67 ≤ (v.toInt + 2 ^ 11) ^ 2 * a.toInt)))

namespace Sys2Proof.Machine

/-- The pointer registers as MTS leaves them: P, PB, PS or PL of number `i` (R34). -/
def Ctx.withPtr (x : Ctx) (n i : Nat) (v : Word) : Ctx :=
  if n = 0 then { x with p := x.p.setIfInBounds i v } else if n = 1 then { x with pb := x.pb.setIfInBounds i v }
  else if n = 2 then { x with ps := x.ps.setIfInBounds i (v.setWidth 16) } else { x with pl := x.pl.setIfInBounds i (v.setWidth 16) }

end Sys2Proof.Machine

/-- CMP, CMPI, CMPU and FLOG (R44) with each of their four conditions: they set Fd and nothing else. IMM6 is signed. MFS and MTS (R34): SR replaces SAT, ACV and CSAT alone
by bits [2:0]; FLAGS takes F3 to F0; the pointer registers take the written value, PS and PL its low 16 bits; reading gives the registers back, PS sign-extended;
TASKID and ENGID are the task and the engine; CYC and the loop counters read as they stand. -/
def Obligations.PredicatesAndSpecialRegistersComplete : Prop :=
    (∀ (s : State) (e rs rt : Fin 16) (c : BitVec 4) (fd fa fb : Fin 4) (imm : BitVec 6) (t k : Nat),
      Issues s e c [rs, rt] t k → s.inCode t e ((s.ctx k).nextFetch 1) →
      let x := s.ctx k
      let a := x.w[rs].toInt
      let b := x.w[rt].toInt
      Completes (.cmp e c fd rs rt 0) s e 1 t k (·.withF fd (a = b)) ∧
      Completes (.cmp e c fd rs rt 1) s e 1 t k (·.withF fd (a ≠ b)) ∧
      Completes (.cmp e c fd rs rt 2) s e 1 t k (·.withF fd (a < b)) ∧
      Completes (.cmp e c fd rs rt 3) s e 1 t k (·.withF fd (b ≤ a)) ∧
      Completes (.cmpi e c fd rs imm 0) s e 1 t k (·.withF fd (a = imm.toInt)) ∧
      Completes (.cmpi e c fd rs imm 1) s e 1 t k (·.withF fd (a ≠ imm.toInt)) ∧
      Completes (.cmpi e c fd rs imm 2) s e 1 t k (·.withF fd (a < imm.toInt)) ∧
      Completes (.cmpi e c fd rs imm 3) s e 1 t k (·.withF fd (imm.toInt ≤ a)) ∧
      Completes (.cmpu e c fd rs rt 0) s e 1 t k (·.withF fd (x.w[rs].toNat < x.w[rt].toNat)) ∧
      Completes (.cmpu e c fd rs rt 1) s e 1 t k (·.withF fd (x.w[rt].toNat ≤ x.w[rs].toNat)) ∧
      Completes (.cmpu e c fd rs rt 2) s e 1 t k (·.withF fd (∃ i : Fin 24, x.w[rs].getLsbD i ∧ x.w[rt].getLsbD i)) ∧
      Completes (.cmpu e c fd rs rt 3) s e 1 t k (·.withF fd (∀ i : Fin 24, ¬ (x.w[rs].getLsbD i ∧ x.w[rt].getLsbD i))) ∧
      Completes (.flog e c fd 0 fa fb) s e 1 t k (·.withF fd (x.f[fa] && x.f[fb])) ∧
      Completes (.flog e c fd 1 fa fb) s e 1 t k (·.withF fd (x.f[fa] || x.f[fb])) ∧
      Completes (.flog e c fd 2 fa fb) s e 1 t k (·.withF fd (x.f[fa] ^^ x.f[fb])) ∧
      Completes (.flog e c fd 3 fa fb) s e 1 t k (·.withF fd (x.f[fa] && !x.f[fb]))) ∧
    (∀ (s : State) (e rd rs : Fin 16) (c : BitVec 4) (n i : Fin 4) (t k : Nat),
      Issues s e c [rd, rs] t k → s.inCode t e ((s.ctx k).nextFetch 1) →
      let x := s.ctx k
      let v := x.w[rs]
      let num : BitVec 6 := BitVec.ofNat 6 (16 + 4 * n.val + i.val)
      Completes (.mts e c 0x00 rs) s e 1 t k (fun x => { x with sat := v.getLsbD 0, acv := v.getLsbD 1, csat := v.getLsbD 2 }) ∧
      Completes (.mts e c 0x09 rs) s e 1 t k
        (fun x => ((((x.withF 0 (v.getLsbD 0)).withF 1 (v.getLsbD 1)).withF 2 (v.getLsbD 2)).withF 3 (v.getLsbD 3))) ∧
      Completes (.mts e c num rs) s e 1 t k (·.withPtr n i v) ∧
      Completes (.mfs e c rd num) s e 1 t k (·.withW rd (
        if n = 0 then x.p[i] else if n = 1 then x.pb[i] else if n = 2 then BitVec.ofInt 24 x.ps[i].toInt
        else BitVec.ofNat 24 x.pl[i].toNat)) ∧
      Completes (.mfs e c rd 0x00) s e 1 t k (·.withW rd (BitVec.ofNat 24 (x.sat.toNat + 2 * x.acv.toNat + 4 * x.csat.toNat
        + 256 * (if 1 ≤ x.loops then 1 else 0) + 512 * (if 2 ≤ x.loops then 1 else 0) + 1024 * x.stack.length))) ∧
      Completes (.mfs e c rd 0x03) s e 1 t k (·.withW rd (BitVec.ofNat 24 t)) ∧
      Completes (.mfs e c rd 0x04) s e 1 t k (·.withW rd (BitVec.ofNat 24 e.val)) ∧
      Completes (.mfs e c rd 0x05) s e 1 t k (·.withW rd x.relnum) ∧
      Completes (.mfs e c rd 0x06) s e 1 t k (·.withW rd x.reltime) ∧
      Completes (.mfs e c rd 0x07) s e 1 t k (·.withW rd x.lc[0]) ∧
      Completes (.mfs e c rd 0x08) s e 1 t k (·.withW rd x.lc[1]) ∧
      Completes (.mfs e c rd 0x09) s e 1 t k (·.withW rd (BitVec.ofNat 24 (x.f[0].toNat + 2 * x.f[1].toNat + 4 * x.f[2].toNat + 8 * x.f[3].toNat))))

namespace Sys2Proof.Machine

/-- The address of LD and ST through pointer `p` (R48): Pp, or Pp + OFF with AM = 0b11. -/
def Ctx.address (x : Ctx) (p : Fin 4) (am : BitVec 2) (off : BitVec 6) : Nat :=
  if am = 3 then (x.p[p] + BitVec.ofInt 24 off.toInt).toNat else x.p[p].toNat

/-- Pointer `p` after LD and ST (R48): stepped by PSp up or down with AM = 0b01 or 0b10 and wrapped once into [PBp, PBp + PLp) where PLp is
not 0; unchanged with the other AM. -/
def Ctx.stepped (x : Ctx) (p : Fin 4) (am : BitVec 2) : Ctx :=
  let n : Int := if am = 1 then x.p[p].toNat + x.ps[p].toInt else x.p[p].toNat - x.ps[p].toInt
  let base : Int := x.pb[p].toNat
  let len : Int := x.pl[p].toNat
  let w : Int := if len ≠ 0 ∧ base + len ≤ n then n - len else if len ≠ 0 ∧ n < base then n + len else n
  if am = 1 ∨ am = 2 then { x with p := x.p.set p.val (BitVec.ofInt 24 w) p.isLt } else x

end Sys2Proof.Machine

/-- LD, LDA and LDR (R41, R48, R61) of an address that the port filter allows: local data without an error in the word (R59), of the engine itself or of the
task that a binding of KIND 10 names (R71), and the own mailbox view come at once; a word of a shared tile comes through the fabric, so that the load stays
outstanding with its word (R55), unless four loads of the engine are (R25); LD steps its pointer. No memory word changes. -/
def Obligations.LoadsComplete : Prop :=
  ∀ (s : State) (e rd rs : Fin 16) (c : BitVec 4) (p : Fin 4) (am : BitVec 2) (off : BitVec 6) (addr : Word) (t k : Nat),
    Issues s e c [rd, rs] t k → (am = 3 ∨ off = 0) →
    ∀ form ∈ [(Instr.lda e c rd addr, 2, addr.toNat, (id : Ctx → Ctx)), (Instr.ldr e c rd rs 0, 1, (s.ctx k).w[rs].toNat, id),
        (Instr.ld e c rd p am off, 1, (s.ctx k).address p am off, (·.stepped p am))],
      let a := form.2.2.1
      s.follows t e k form.2.1 → s.allows t e a false = true →
      let l := s.localOf t e a
      (a < 0x2000 → s.upsets 1 (8192 * l + a) 1 1 = 0 → s.upsets 1 (8192 * l + a) 1 2 = 0 →
        Completes form.1 s e form.2.1 t k (fun x => (form.2.2.2 x).withW rd (s.memWord l a))) ∧
      (0x870000 ≤ a → a < 0x870100 →
        Completes form.1 s e form.2.1 t k (fun x => (form.2.2.2 x).withW rd
          (BitVec.ofNat 24 (s.mboxPort (4 * e + (a - 0x870000) / 64) (a % 64))))) ∧
      (0x100000 ≤ a → a < 0x180000 → s.engLoads e < 4 →
        Completes form.1 s e form.2.1 t k (fun x => { form.2.2.2 x with loads := x.loads ++ [(rd, s.memWord e a)] }))

namespace Sys2Proof.Machine

/-- Two addresses of engines name one word: of the same engine's local data, or of the shared tiles. -/
def sameWord (e a f b : Nat) : Prop := a = b ∧ (a < 0x2000 → e = f)

end Sys2Proof.Machine

/-- ST, STA and STR (R41, R48, R55, R61) of an address in local data or in a shared tile that the port filter allows, for a task that does not
migrate: the addressed word takes the source and every other memory word reads as before; a store to a tile waits for its acknowledgement, where the engine's
buffer has room (R25); ST steps its pointer. -/
def Obligations.StoresComplete : Prop :=
  ∀ (s : State) (e rs rt : Fin 16) (c : BitVec 4) (p : Fin 4) (am : BitVec 2) (off : BitVec 6) (addr : Word) (t k : Nat),
    Issues s e c [rs, rt] t k → (am = 3 ∨ off = 0) → (s.task t).mig = none →
    ∀ form ∈ [(Instr.sta e c addr rt, 2, addr.toNat, (id : Ctx → Ctx)), (Instr.str e c rt rs 0, 1, (s.ctx k).w[rs].toNat, id),
        (Instr.st e c p rt am off, 1, (s.ctx k).address p am off, (·.stepped p am))],
      let a := form.2.2.1
      s.follows t e k form.2.1 → s.allows t e a true = true →
      a < 0x2000 ∨ (0x100000 ≤ a ∧ a < 0x180000 ∧ s.engStores e < 4) →
      ∃ u, exec form.1 s = .next u ∧ OnlyContext { s with mem := u.mem } u e t k ∧
        u.ctx k = (if a < 0x2000 then form.2.2.2 (s.ctx k)
          else { form.2.2.2 (s.ctx k) with acks := (s.ctx k).acks ++ [a] }).after (u.ctx k) form.2.1 ∧
        u.mem = { s.mem with loc := u.mem.loc, tile := u.mem.tile, upset := u.mem.upset } ∧
        u.memWord e a = (s.ctx k).w[rt] ∧
        ∀ f b, b < 0x2000 ∨ (0x100000 ≤ b ∧ b < 0x180000) → f < 16 → ¬ sameWord e a f b → u.memWord f b = s.memWord f b

namespace Sys2Proof.Machine

/-- A cluster whose pending CMPA of slot `i` takes `v`. -/
def Cl.withCmpa (x : Cl) (i : Fin 4) (v : Word) : Cl :=
  let g : GenSet := { x.pending.g[i] with cmpa := v }
  { x with pending := { x.pending with g := x.pending.g.set i.val g i.isLt } }

end Sys2Proof.Machine

/-- A store of a timing word to a generator slot of a cluster (R116, R132), and FENCE (R49): STA of a PWM address that the filter allows writes
the pending compare set and nothing that switches; FENCE changes nothing once no load and no store is outstanding, and waits before. -/
def Obligations.PwmStoresAndFences : Prop :=
  ∀ (s : State) (e rs : Fin 16) (c : BitVec 4) (cl : Fin 12) (slot : Fin 4) (t k : Nat), Issues s e c [rs] t k → (s.task t).mig = none →
    (∀ addr : Word, addr.toNat = 0x800000 + 256 * cl.val + 16 * slot.val → s.allows t e addr.toNat true = true →
      s.follows t e k 2 → s.engStores e < 4 →
      ∃ u, exec (.sta e c addr rs) s = .next u ∧ OnlyContext { s with pwm := u.pwm } u e t k ∧
        (∀ d, d ≠ cl.val → u.cl d = s.cl d) ∧ u.pwm = { s.pwm with cl := u.pwm.cl } ∧
        u.cl cl = (s.cl cl).withCmpa slot (s.ctx k).w[rs]) ∧
    (s.inCode t e ((s.ctx k).nextFetch 1) → (s.ctx k).loads = [] → (s.ctx k).acks = [] → Completes (.fence e c) s e 1 t k id) ∧
    ((s.ctx k).loads ≠ [] ∨ (s.ctx k).acks ≠ [] → exec (.fence e c) s = .next s)

namespace Sys2Proof.Machine

/-- The loops that stay active when execution goes to `a` (R51): a target outside a body ends that loop and those nested in it. -/
def Ctx.stay (x : Ctx) (a : Nat) : Nat :=
  if 1 ≤ x.loops ∧ (a < x.loopStart[0].toNat ∨ x.loopEnd[0].toNat < a) then 0
  else if 2 ≤ x.loops ∧ (a < x.loopStart[1].toNat ∨ x.loopEnd[1].toNat < a) then 1 else x.loops

/-- No active loop ends at `a`. -/
def Ctx.noEnd (x : Ctx) (a : Nat) : Prop := ∀ i, i < x.loops → (x.loopEnd.getD i 0).toNat ≠ a

/-- The command `i` answers a next state in which only context `k` changed: it is `x` with its time passed, and the next fetch at `a`. -/
def BranchesTo (i : Instr) (s : State) (e : Fin 16) (task k a : Nat) (x : Ctx) : Prop :=
  ∃ t, exec i s = .next t ∧ OnlyContext s t e task k ∧
    t.ctx k = { x with cyc := (t.ctx k).cyc, budget := (t.ctx k).budget, pc := BitVec.ofNat 13 a }

end Sys2Proof.Machine

/-- BRA, CALL, JMPR and RET (R50, R51) inside the code range and not at the end of a loop: the next fetch is at the target; CALL pushes PC + 1 and ends no loop,
RET pops; the others end the loops that they leave. LOOPI and LOOPR (R51) with less than two loops active: a count opens a loop whose body is the next word
up to E = address + OFF, with the counter of its depth; a count of 0 goes on behind E.
Readings that the model chose: log entries 10 and 14. -/
def Obligations.BranchesAndLoopsComplete : Prop :=
    (∀ (s : State) (e rs : Fin 16) (c : BitVec 4) (target a : BitVec 13) (r : List (BitVec 13)) (t k : Nat), Issues s e c [rs] t k →
      let x := s.ctx k
      let reg := x.w[rs].toNat % 8192
      x.noEnd x.pc.toNat →
      (s.inCode t e target.toNat → BranchesTo (.bra e c target) s e t k target.toNat { x with loops := x.stay target.toNat }) ∧
      (s.inCode t e target.toNat → x.stack.length < 4 →
        BranchesTo (.call e c target) s e t k target.toNat { x with stack := (x.pc + 1) :: x.stack }) ∧
      (s.inCode t e reg → BranchesTo (.jmpr e c rs 0) s e t k reg { x with loops := x.stay reg }) ∧
      (s.inCode t e a.toNat → x.stack = a :: r → BranchesTo (.ret e c) s e t k a.toNat { x with stack := r, loops := x.stay a.toNat })) ∧
    (∀ (s : State) (e rs : Fin 16) (c : BitVec 4) (off : BitVec 10) (count : Word) (t k : Nat), Issues s e c [rs] t k →
      let x := s.ctx k
      x.loops < 2 →
      ∀ form ∈ [(Instr.loopi e c off count, 2, count), (Instr.loopr e c rs off, 1, x.w[rs])],
        let stop := x.pc.toNat + off.toNat
        form.2.1 ≤ off.toNat → x.noEnd (x.pc.toNat + form.2.1 - 1) →
        (form.2.2 ≠ 0 → s.inCode t e (x.pc.toNat + form.2.1) →
          BranchesTo form.1 s e t k (x.pc.toNat + form.2.1)
            { x with
              loops := x.loops + 1, lc := x.lc.setIfInBounds x.loops form.2.2
              loopStart := x.loopStart.setIfInBounds x.loops (BitVec.ofNat 13 (x.pc.toNat + form.2.1))
              loopEnd := x.loopEnd.setIfInBounds x.loops (BitVec.ofNat 13 stop) }) ∧
        (form.2.2 = 0 → s.inCode t e (stop + 1) → BranchesTo form.1 s e t k (stop + 1) x))

/-- WAITEV in its four behaviours (R52) for a task that does not migrate, not at the end of a loop: it consumes the lowest masked pending slot
into rd; with none pending POLL writes 0xFF_FFFF, and without POLL the task sleeps on rd and MASK; CLEAR clears the masked slots into rd. SEV of a declared software
event (R54) puts EV(448 + n) on the event bus, nothing else; YIELD with nothing outstanding ends the activation and keeps the largest cycle count; BRK under
debug access halts the engine behind it.
Readings that the model chose: log entry 14. -/
def Obligations.WaitsEventsAndEndComplete : Prop :=
    (∀ (s : State) (e rd : Fin 16) (c : BitVec 4) (mask : BitVec 16) (poll : Bool) (t k : Nat), Issues s e c [rd] t k →
      s.follows t e k 2 → (s.ctx k).noEnd ((s.ctx k).pc.toNat + 1) → (s.task t).mig = none →
      let x := s.ctx k
      let wait : Word := BitVec.ofNat 24 (mask.toNat + 65536 * poll.toNat)
      let pend := (s.task t).pend
      let takes (i : Instr) (v : BitVec 16) (f : Ctx → Ctx) : Prop :=
        ∃ u, exec i s = .next u ∧ OnlyContext { s with ref := u.ref } u e t k ∧ u.ctx k = (f x).after (u.ctx k) 2 ∧
          u.ref = { s.ref with task := u.ref.task } ∧ ∀ j, u.task j = if j = t then { s.task t with pend := v } else s.task j
      (mask ≠ 0 ∨ poll = true →
        (∀ n : Fin 16, pend.getLsbD n → mask.getLsbD n → (∀ j, j < n.val → ¬ (pend.getLsbD j ∧ mask.getLsbD j)) →
          takes (.waitev e c rd wait) (pend &&& ~~~(1#16 <<< n.val)) (·.withW rd (BitVec.ofNat 24 n.val))) ∧
        (pend &&& mask = 0 →
          Completes (.waitev e c rd wait) s e 2 t k
            (fun x => if poll then x.withW rd 0xFFFFFF else { x with sleep := some (rd, mask) }))) ∧
      takes (.waitev e c rd (BitVec.ofNat 24 (mask.toNat + 131072))) (pend &&& ~~~mask) (·.withW rd ((pend &&& mask).setWidth 24))) ∧
    (∀ (s : State) (e : Fin 16) (c : BitVec 4) (n : BitVec 6) (t k : Nat), Issues s e c [] t k → (s.task t).mig = none →
      let x := s.ctx k
      (s.inCode t e (x.nextFetch 1) → x.loads = [] → x.acks = [] →
        (sevRange (s.dc 2 0x01B t)).1 ≤ n.toNat → n.toNat < (sevRange (s.dc 2 0x01B t)).1 + (sevRange (s.dc 2 0x01B t)).2 →
        ∃ u, exec (.sev e c n) s = .next u ∧ OnlyContext { s with evBus := s.evBus ++ [448 + n.toNat] } u e t k ∧
          u.ctx k = x.after (u.ctx k) 1) ∧
      (x.noEnd x.pc.toNat → x.loads = [] → x.acks = [] →
        ∃ u, exec (.yield e c) s = .next u ∧ OnlyContext { s with ref := u.ref, ent := u.ent } u e t k ∧
          u.ctx k = { x with active := false, cyc := (u.ctx k).cyc, budget := (u.ctx k).budget } ∧
          u.ref = { s.ref with task := u.ref.task } ∧
          (∀ j, u.task j = if j = t then { s.task t with aborts := 0, yieldAt := some s.t48.toNat } else s.task j) ∧
          ∀ j, u.getKey j = if j = mkKey 2 0x035 t then max (s.en 2 0x035 t) (u.ctx k).cyc.toNat else s.getKey j) ∧
      (s.inCode t e (x.nextFetch 1) → s.debugHolds e = true →
        ∃ u, exec (.brk e c) s = .next u ∧ u = { s with loop := { s.loop with ctx := u.loop.ctx, engs := u.loop.engs } } ∧
          u.ctx k = x.after (u.ctx k) 1 ∧ (u.eng e).halted = true ∧ (∀ j, j ≠ k → u.ctx j = s.ctx j) ∧ ∀ j, j ≠ e.val → u.eng j = s.eng j))

namespace Sys2Proof.Machine

/-- The activation of task `t` on engine `e` in context `k` aborts with `cause` (R59): the context is no longer active, DEADLINE and the other
checks of R59 see the cause in 3.014 and the count in 3.013, TASK_CYC_MAX takes in the cycles of the activation (R100), and TASK_ABORT is reported
with task and cause. -/
def Aborts (i : Instr) (s : State) (e : Fin 16) (t k cause : Nat) : Prop :=
  ∃ u, exec i s = .next u ∧
    u = { s with loop := { s.loop with ctx := u.loop.ctx, engs := u.loop.engs }, ref := u.ref, ent := u.ent, flt := u.flt } ∧
    (u.ctx k).active = false ∧ (u.ctx k).sleep = none ∧ (∀ j, j ≠ k → u.ctx j = s.ctx j) ∧
    u.flt = { s.flt with reports := s.flt.reports ++ [⟨0x010000 + 256 * t + cause, false⟩] } ∧
    (u.task t).aborts = (s.task t).aborts + 1 ∧
    ∀ j, u.getKey j = if j = mkKey 3 0x014 e then cause
      else if j = mkKey 2 0x035 t then max (s.en 2 0x035 t) (u.ctx k).cyc.toNat
      else if j = mkKey 3 0x013 e then min 65535 (s.getKey j + 1) else s.getKey j

end Sys2Proof.Machine

/-- The faults of R59 abort the activation of a task of class SAFETY or CONTROL that does not migrate. Decoding errors (R39 to R42) do with cause 1, ILLEGAL_OP, whatever
the condition: an unlisted opcode or reserved field, a reserved COND, an M, SREG or OFF that no table lists, an odd rd of CORDIC. The others need a true condition
(R39): a write of a special register marked RO (R34), a return-stack overflow or underflow (R50), a third loop (R51), a fetch of an instruction's or an extension's word outside the code range (R50), which comes before any effect, an access that the port filter forbids (R61), an
undeclared software event and BRK without debug access (R54).
Readings that the model chose: log entries 13 and 14. -/
def Obligations.EngineFaultsAbort : Prop :=
    (∀ (s : State) (e rd rs rt : Fin 16) (c d : BitVec 4) (p : Fin 4) (am m : BitVec 2) (off sreg : BitVec 6) (a : Fin 2) (t k i : Nat),
      s.running e.val = some (t, i) → k = 6 * e.val + i → (s.eng e.val).halted = false → (s.task t).mig = none → s.dc 2 0x011 t ≤ 1 →
      (s.ctx k).budget ≠ 0 → s.sound e k → s.inCode t e (s.ctx k).pc.toNat →
      Aborts (.illegalOp e) s e t k 1 ∧
      (1 ≤ c.toNat → c.toNat < 8 → Aborts (.nop e c) s e t k 1 ∧ Aborts (.yield e c) s e t k 1 ∧ Aborts (.add e c rd rs rt m) s e t k 1) ∧
      (m ≠ 0 → Aborts (.add e d rd rs rt m) s e t k 1 ∧ Aborts (.mov e d rd rs m) s e t k 1 ∧ Aborts (.jmpr e d rs m) s e t k 1) ∧
      (m = 3 → Aborts (.shr e d rd rs rt m) s e t k 1 ∧ Aborts (.mul e d a rs rt m) s e t k 1 ∧ Aborts (.rnd e d rd a m) s e t k 1) ∧
      (2 ≤ m.toNat → Aborts (.shl e d rd rs rt m) s e t k 1 ∧ Aborts (.acld e d a rs m) s e t k 1) ∧
      (rd.val % 2 = 1 → Aborts (.csc e d rd rs 0) s e t k 1 ∧ Aborts (.cat e d rd rs rt 0) s e t k 1) ∧
      (am ≠ 3 → off ≠ 0 → Aborts (.ld e d rd p am off) s e t k 1 ∧ Aborts (.st e d p rs am off) s e t k 1) ∧
      (10 ≤ sreg.toNat ∧ sreg.toNat < 16 ∨ 32 ≤ sreg.toNat → Aborts (.mfs e d rd sreg) s e t k 1 ∧ Aborts (.mts e d sreg rs) s e t k 1)) ∧
    (∀ (s : State) (e rd rs : Fin 16) (c : BitVec 4) (target : BitVec 13) (addr count : Word) (n sreg : BitVec 6) (off : BitVec 10) (t k : Nat),
      Issues s e c [rd, rs] t k → (s.task t).mig = none → s.dc 2 0x011 t ≤ 1 →
      let x := s.ctx k
      (1 ≤ sreg.toNat → sreg.toNat ≤ 8 → Aborts (.mts e c sreg rs) s e t k 1) ∧
      (x.noEnd x.pc.toNat → 4 ≤ x.stack.length → Aborts (.call e c target) s e t k 3) ∧
      (x.noEnd x.pc.toNat → x.stack = [] → Aborts (.ret e c) s e t k 3) ∧
      (s.inCode t e (x.pc.toNat + 1) → x.noEnd (x.pc.toNat + 1) → 2 ≤ off.toNat → 2 ≤ x.loops → Aborts (.loopi e c off count) s e t k 4) ∧
      (¬ x.noEnd x.pc.toNat → Aborts (.bra e c target) s e t k 1 ∧ Aborts (.ret e c) s e t k 1) ∧
      (x.noEnd x.pc.toNat → ¬ s.inCode t e target.toNat → Aborts (.bra e c target) s e t k 2) ∧
      (¬ s.inCode t e (x.nextFetch 1) → Aborts (.nop e c) s e t k 2) ∧
      (¬ s.inCode t e (x.pc.toNat + 1) → Aborts (.movi e c rd count) s e t k 2 ∧ Aborts (.sta e c addr rs) s e t k 2) ∧
      (s.inCode t e (x.pc.toNat + 1) → s.allows t e addr.toNat false = false → s.closedWin t addr.toNat = false →
        (addr.toNat < 0x2000 ∨ s.engLoads e < 4) → Aborts (.lda e c rd addr) s e t k 5) ∧
      (s.inCode t e (x.pc.toNat + 1) → s.allows t e addr.toNat true = false → (addr.toNat < 0x2000 ∨ s.engStores e < 4) → x.loads = [] → x.acks = [] →
        Aborts (.sta e c addr rs) s e t k 5) ∧
      (x.loads = [] → x.acks = [] → (n.toNat < (sevRange (s.dc 2 0x01B t)).1 ∨ (sevRange (s.dc 2 0x01B t)).1 + (sevRange (s.dc 2 0x01B t)).2 ≤ n.toNat) →
        Aborts (.sev e c n) s e t k 5) ∧
      (s.debugHolds e = false → Aborts (.brk e c) s e t k 1))

/-- A false condition (R39): the instruction has no effect but its cycles, one per word, and the next fetch; it waits for no operand. Cycles (R34, R55, R57): an
instruction whose operands are ready charges one cycle per word to CYC and to the budget timer; MFS reads CYC and BUDLEFT as they stood before its own cycle.
Readings that the model chose: log entry 10. -/
def Obligations.CyclesAndFalseConditions : Prop :=
    (∀ (s : State) (e rd rs rt : Fin 16) (c : BitVec 4) (imm addr : Word) (target : BitVec 13) (t k i : Nat),
      s.running e.val = some (t, i) → k = 6 * e.val + i → (s.eng e.val).halted = false → (s.eng e.val).last = some t →
      (s.ctx k).budget ≠ 0 → s.sound e k → 8 ≤ c.toNat → (s.ctx k).f.getD (c.toNat % 4) false ≠ decide (c.toNat < 12) →
      ∀ form ∈ [(Instr.add e c rd rs rt 0, 1), (Instr.movi e c rd imm, 2), (Instr.sta e c addr rs, 2), (Instr.lda e c rd addr, 2),
          (Instr.bra e c target, 1), (Instr.yield e c, 1), (Instr.brk e c, 1), (Instr.fence e c, 1)],
        s.follows t e k form.2 →
        Completes form.1 s e form.2 t k id ∧
        ∃ u, exec form.1 s = .next u ∧ (u.ctx k).rdy = (s.ctx k).rdy ∧ (u.ctx k).cyc = (s.ctx k).cyc + BitVec.ofNat 24 form.2 ∧
          (u.ctx k).budget.toNat = (s.ctx k).budget.toNat - form.2) ∧
    (∀ (s : State) (e rd rs rt : Fin 16) (c : BitVec 4) (imm : Word) (t k : Nat), Issues s e c [rd, rs, rt] t k → (s.eng e.val).last = some t →
      let x := s.ctx k
      x.rdy[rs] ≤ x.cyc.toNat → x.rdy[rt] ≤ x.cyc.toNat →
      (s.inCode t e (x.nextFetch 1) → ∃ u, exec (.add e c rd rs rt 0) s = .next u ∧
        (u.ctx k).cyc = x.cyc + 1 ∧ (u.ctx k).budget.toNat = x.budget.toNat - 1) ∧
      (s.follows t e k 2 → ∃ u, exec (.movi e c rd imm) s = .next u ∧
        (u.ctx k).cyc = x.cyc + 2 ∧ (u.ctx k).budget.toNat = x.budget.toNat - 2) ∧
      (s.inCode t e (x.nextFetch 1) → Completes (.mfs e c rd 0x01) s e 1 t k (·.withW rd x.cyc) ∧
        Completes (.mfs e c rd 0x02) s e 1 t k (·.withW rd x.budget)))

/-! ### Mailboxes, tasks and events (02_loop_engines.md, 03_referee.md) -/

namespace Sys2Proof.Machine

/-- Engine `e` executes task `t` in context `k` now (R56): it is the running one and the engine is not halted. -/
def Executes (s : State) (e : Fin 16) (t k : Nat) : Prop :=
  (∃ i, s.running e.val = some (t, i) ∧ k = 6 * e.val + i) ∧ (s.eng e.val).halted = false

/-- Only mailbox `k` changed, to `y`, and `evs` were put on the event bus. -/
def OnlyMailbox (s t : State) (k : Nat) (y : Mbox) (evs : List Nat) : Prop :=
  t = { s with loop := { s.loop with mbox := t.loop.mbox }, evBus := s.evBus ++ evs } ∧ ∀ j, t.mb j = if j = k then y else s.mb j

end Sys2Proof.Machine

/-- The two buffers of a mailbox (R62): a record that completes with VALID = 0 becomes the front, VALID is set, SEQ advances and the event is
raised; with VALID = 1 it waits in the back and PENDING is set, replacing a waiting record with OVR advanced; ACK clears VALID, and a waiting
record becomes the front at once with SEQ and the event. No task migrates (R88). -/
def Obligations.MailboxBuffers : Prop :=
  ∀ (s : State) (e : Fin 16) (m : Fin 4) (words : List Word),
    let k := 4 * e.val + m.val
    let x := s.mb k
    let front : Mbox := { x with front := words, time := s.t48.setWidth 24, valid := true, seq := x.seq + 1 }
    let waiting : Mbox := { x with back := words, backTime := s.t48.setWidth 24, pending := true }
    (x.assigned = true → 1 ≤ words.length → words.length ≤ 32 → NoMigration s →
      (x.valid = false → Answers (.mailboxRecordComplete e m x.kind x.inst words) s (OnlyMailbox s · k front [320 + k])) ∧
      (x.valid = true → x.pending = false → Answers (.mailboxRecordComplete e m x.kind x.inst words) s (OnlyMailbox s · k waiting [])) ∧
      (x.valid = true → x.pending = true →
        Answers (.mailboxRecordComplete e m x.kind x.inst words) s
          (OnlyMailbox s · k { waiting with ovr := BitVec.ofNat 8 (min 255 (x.ovr.toNat + 1)) } []))) ∧
    (∀ t c, Executes s e t c → s.allows t e (0x870021 + 64 * m.val) true = true → (s.task t).mig = none →
      (x.pending = false → Answers (.mbackAck e m) s (OnlyMailbox s · k { x with valid := false } [])) ∧
      (x.pending = true → Answers (.mbackAck e m) s
        (OnlyMailbox s · k { x with
          front := x.back, time := x.backTime, valid := true, pending := false, back := [], backTime := 0, seq := x.seq + 1 } [320 + k])))

/-- The post buffer and the engine's own ports (R61, R63, R64), for a task that does not migrate: CLR_OVR clears OVR; MBPOST of 1 to 32 words,
with no access outstanding, to a mailbox whose producer is the writer completes words 0 to LEN - 1 of the writer's buffer as a record; a post of
LEN 0 or to a foreign mailbox delivers nothing; REGISTER_WRITE stores a post word or a local word and nothing else. -/
def Obligations.PostsAndOwnPorts : Prop :=
  ∀ (s : State) (e dst : Fin 16) (m : Fin 4) (len : BitVec 6) (v : Word) (t c : Nat),
    Executes s e t c → (s.task t).mig = none →
    let k := 4 * dst.val + m.val
    let x := s.mb k
    let post := 0x871000 + 256 * dst.val + 64 * m.val
    (s.allows t e (0x870021 + 64 * m.val) true = true →
      Answers (.mbackClrOvr e m) s (OnlyMailbox s · (4 * e.val + m.val) { s.mb (4 * e.val + m.val) with ovr := 0 } [])) ∧
    (s.allows t e (post + 0x20) true = true → (s.ctx c).loads = [] → (s.ctx c).acks = [] → NoMigration s →
      (1 ≤ len.toNat → len.toNat ≤ 32 → x.assigned = true → x.kind = 3 → x.inst.toNat = t → x.valid = false →
        Answers (.mbpost e dst m len) s (OnlyMailbox s · k
          { x with front := (List.range len.toNat).map (s.postWord e.val), time := s.t48.setWidth 24, valid := true, seq := x.seq + 1 } [320 + k])) ∧
      (len = 0 ∨ x.assigned = false ∨ x.inst.toNat ≠ t → s.dc 2 0x011 t ≤ 1 → Aborts (.mbpost e dst m len) s e t c 5)) ∧
    (∀ j : Fin 32, s.allows t e (post + j.val) true = true → ∀ addr : Word, addr.toNat = post + j.val →
      Answers (.registerWrite e addr v) s (fun u => u = { s with loop := { s.loop with post := u.loop.post } } ∧
        ∀ w i, i < 32 → u.postWord w i = if w = e.val ∧ i = j.val then v else s.postWord w i)) ∧
    (∀ addr : Word, addr.toNat < 0x2000 → s.allows t e addr.toNat true = true →
      Answers (.registerWrite e addr v) s (fun u => u = { s with mem := { s.mem with loc := u.mem.loc, upset := u.mem.upset } } ∧
        ∀ f b, b < 0x2000 → u.memWord f b = if f = e.val ∧ b = addr.toNat then v else s.memWord f b))

/-- The fabric answers a live task that is placed and does not hold its engine (R25, R49, R55): the k-th outstanding load brings its word into
its register and is outstanding no longer; the k-th store's entry of the store buffer is free.
Readings that the model chose: log entry 11. -/
def Obligations.FabricAnswers : Prop :=
  ∀ (s : State) (t : Fin 96) (k : Fin 4) (r : Fin 16) (v : Word),
    let x := s.task t
    let n := s.ctxKey t
    x.placed = true → x.mig = none → (∀ p, s.running x.engine = some p → p.1 ≠ t.val) →
    ((s.ctx n).loads[k.val]? = some (r, v) →
      Answers (.fabricLoadReturn t k) s (fun u => u = { s with loop := { s.loop with ctx := u.loop.ctx } } ∧ (∀ j, j ≠ n → u.ctx j = s.ctx j) ∧
        u.ctx n = { (s.ctx n).withW r v with loads := (s.ctx n).loads.eraseIdx k.val, rdy := (u.ctx n).rdy })) ∧
    (k.val < (s.ctx n).acks.length →
      Answers (.fabricStoreAck t k) s (fun u => u = { s with loop := { s.loop with ctx := u.loop.ctx } } ∧ (∀ j, j ≠ n → u.ctx j = s.ctx j) ∧
        u.ctx n = { s.ctx n with acks := (s.ctx n).acks.eraseIdx k.val }))

/-- EVENT_ARRIVAL and WAITEV_WAKE (R28, R52, R53) for tasks that do not migrate: a pulse that waits on the bus leaves it and becomes pending in
each subscription of its event that held none, of each placed task; a sleeping task with a masked pending event takes the lowest one into
its register, which consumes it, and is ready again; one with no masked event sleeps on. An activation of a vendor kernel that waits for its
records computes once they are there (log entry 33). -/
def Obligations.EventsReachTasks : Prop :=
  ∀ (s : State) (ev : Fin 512) (t : Fin 96) (i : Fin 16) (r : Fin 16) (mask : BitVec 16), (∀ j, (s.task j).mig = none) →
    let x := s.task t
    let n := s.ctxKey t
    (ev.val ∈ s.evBus → (∀ j, j < 96 → (s.task j).placed = true → ∀ i ∈ s.slotsOf j (s.task j).engine ev, (s.task j).pend.getLsbD i = false ∧ i < 16) →
      (∀ j, j < 96 → (s.slotsOf j (s.task j).engine ev).Nodup) →
      Answers (.eventArrival ev) s (fun u => u = { s with evBus := s.evBus.erase ev.val, ref := { s.ref with task := u.ref.task } } ∧
        (∀ j, u.task j = if j < 96 ∧ (s.task j).placed = true then { s.task j with pend := (u.task j).pend } else s.task j) ∧
        ∀ j, j < 96 → (s.task j).placed = true → ∀ n : Fin 16,
          (u.task j).pend.getLsbD n = ((s.task j).pend.getLsbD n || (s.slotsOf j (s.task j).engine ev).contains n.val))) ∧
    (ev.val ∈ s.evBus → (∀ j, j < 96 → j ≠ t.val → (s.task j).placed = false) → x.placed = true → s.slotsOf t x.engine ev = [i.val] →
      x.pend.getLsbD i = true → 
      Answers (.eventArrival ev) s (fun u => (u.task t).pend = x.pend ∧
        u.flt.reports = s.flt.reports ++ [⟨0x01000A + 256 * t.val, false⟩] ∧
        u.en 3 0x014 x.engine = 10 ∧ u.en 3 0x016 x.engine = min 65535 (s.en 3 0x016 x.engine + 1))) ∧
    (x.placed = true → x.await = false → (s.ctx n).sleep = some (r, mask) → x.pend.getLsbD i = true → mask.getLsbD i = true →
      (∀ j, j < i.val → ¬ (x.pend.getLsbD j ∧ mask.getLsbD j)) →
      Answers (.waitevWake t) s (fun u =>
        u = { s with loop := { s.loop with ctx := u.loop.ctx }, ref := { s.ref with task := u.ref.task } } ∧
        u.ctx n = { (s.ctx n).withW r (BitVec.ofNat 24 i.val) with sleep := none, rdy := (u.ctx n).rdy } ∧ (∀ j, j ≠ n → u.ctx j = s.ctx j) ∧
        ∀ j, u.task j = if j = t.val then { x with pend := x.pend &&& ~~~(1#16 <<< i.val) } else s.task j)) ∧
    (x.placed = true → x.await = false → (s.ctx n).sleep = some (r, mask) → x.pend &&& mask = 0 → exec (.waitevWake t) s = .next s) ∧
    (x.placed = true → x.await = true → (s.ctx n).sleep = none → (s.ctx n).active = true → (s.eng x.engine).halted = false → s.kernelHas t = true →
      exec (.waitevWake t) s = .next ((s.setTask t { x with await := false }).kernelRun t))

/-- A release and the timers of an activation (R33, R57, R58, R68): a task that is due, whose engine runs, whose last activation has ended and whose code is not to be
loaded again (R59), starts at its entry with every register, flag, accumulator, pointer and return address zero, its budget loaded, RELNUM and RELTIME set; the
computation of a vendor kernel follows or waits for its records, any other kernel has none; a task that has not ended misses its deadline and starts no second activation; the timers abort
with BUDGET_OVERRUN (6) where the budget timer is at 0, and DEADLINE_MISS (7). Scratch is undefined at a release (R65): its words are not stated.
Readings that the model chose: log entries 15 and 33. -/
def Obligations.ActivationsStartAndEnd : Prop :=
  ∀ (s : State) (t : Fin 96) (e : Fin 16) (i : Fin 6),
    let x := s.task t
    let k := 6 * e.val + i.val
    let s' : State := { s with due := s.due.erase t.val }
    x.placed = true → x.engine = e.val → x.slot = i.val → x.mig = none → s.dc 2 0x011 t ≤ 1 →
    (t.val ∈ s.due → s.mayRelease t = true → (s.eng e).halted = false → (s.ctx k).active = false → x.reload = false →
      ∃ u : State, exec (.taskRelease t) s = .next (u.kernelStart t) ∧ (s.dc 2 0x010 t < 0x110 ∨ 0x137 < s.dc 2 0x010 t → u.kernelStart t = u) ∧
        u = { s' with
          free := u.free, mem := { s.mem with loc := u.mem.loc, upset := u.mem.upset }, loop := { s.loop with ctx := u.loop.ctx }
          ref := { s.ref with task := u.ref.task } } ∧
        u.ctx k = { Ctx.zero with
          pc := BitVec.ofNat 13 (x.code + x.entry), budget := BitVec.ofNat 24 (s.declBudget (s.dc 2 · t))
          relnum := BitVec.ofNat 24 (x.relnum + 1), reltime := s.t48.setWidth 24, active := true } ∧
        (∀ j, j ≠ k → u.ctx j = s.ctx j) ∧ (u.task t).release = s.t48.toNat ∧ (u.task t).relnum = x.relnum + 1 ∧
        (∀ f b, b < 0x2000 → ¬ (f = e.val ∧ x.scratch ≤ b ∧ b < x.scratch + x.scratchLen) → x.scratch + x.scratchLen ≤ 0x2000 →
          u.memWord f b = s.memWord f b)) ∧
    (t.val ∈ s.due → s.mayRelease t = true → (s.eng e).halted = false → (s.ctx k).active = true →
      Answers (.taskRelease t) s (fun u => (u.ctx k).active = false ∧
        u.flt.reports = s.flt.reports ++ [⟨0x010007 + 256 * t.val, false⟩])) ∧
    ((s.ctx k).active = true → (s.ctx k).budget = 0 → (s.eng e).halted = false → Aborts (.budgetOverrun t) s e t k 6) ∧
    ((s.ctx k).active = true → (s.eng e).halted = false → Aborts (.deadlineMiss t) s e t k 7)

/-! ### Debug and test access (R68, R446) -/

/-- HALT, RESUME, STEP and STATUS (R68, R446) with debug access allowed: HALT stops the engine and only that, and ENGINE_HALTED stands where it holds
a SAFETY or CONTROL task of a stage; STEP executes the instruction at the pc of the task that runs and halts again, with PC_RANGE where its extension lies outside the code range (R50); RESUME lets it run; STATUS
shows HALTED and the context that held the engine.
Readings that the model chose: log entry 18. -/
def Obligations.DebugRunsTheEngine : Prop :=
  ∀ (s : State) (e : Fin 16) (t i : Nat) (w : Instr), s.debugOff = false →
    let tap : Tap := { s.tap with ir := 0x10, driven := none }
    let k := 6 * e.val + i
    ((s.eng e).halted = false → (∀ j ∈ s.engineTasks e, (s.task j).mig = none) →
      Answers (.halt e) s (fun u => (u.eng e).halted = true ∧ u.tap = tap ∧ (∀ j, j ≠ e.val → u.eng j = s.eng j) ∧
        u = { s with tap := u.tap, loop := { s.loop with engs := u.loop.engs }, flt := u.flt } ∧
        (s.engineStages e ≠ [] → 0x01000B + 256 * e.val ∈ u.flt.live) ∧ (s.engineStages e = [] → u.flt = s.flt))) ∧
    ((s.eng e).halted = true → (∀ j ∈ s.engineTasks e, s.dc 2 0x011 j ≤ 1 ∧ (s.liveStage (s.taskStage j)).isSome) →
      Answers (.resumeEngine e) s (fun u => (u.eng e).halted = false ∧ u.tap = tap ∧ (∀ j, u.ctx j = s.ctx j) ∧
        (∀ j, j ≠ e.val → u.eng j = s.eng j) ∧ 0x01000B + 256 * e.val ∉ u.flt.live)) ∧
    ((s.eng e).halted = true → s.running e = some (t, i) → s.fetch e t k = some w →
      ∃ u, exec w ({ s with tap := tap }.setEng e { s.eng e with halted := false }) = .next u ∧
        exec (.step e) s = .next (u.setEng e { u.eng e with halted := true })) ∧
    ((s.eng e).halted = true → s.running e = some (t, i) → s.fetch e t k = none → (s.task t).mig = none → s.dc 2 0x011 t ≤ 1 →
      Answers (.step e) s (fun u => (u.eng e).halted = true ∧ (u.ctx k).active = false ∧ u.en 3 0x014 e = 2 ∧
        u.flt.reports = s.flt.reports ++ [⟨0x010002 + 256 * t, false⟩])) ∧
    Answers (.status e) s (fun u => u = { s with tap := { tap with dbg := u.tap.dbg } } ∧
      u.tap.dbg.getLsbD 0 = (s.eng e).halted ∧ u.tap.dbg.extractLsb' 44 4 = 4#4 ∧ u.tap.dbg.extractLsb' 40 4 = BitVec.ofNat 4 e.val)

/-- READ_REG and READ_PM (R446): the data word of the result is the register, the pc, SR or FLAGS of the context, or the program word; nothing else
changes. With DEBUG_OFF set, every ENGDBG command only selects BYPASS.
Readings that the model chose: log entry 18. -/
def Obligations.DebugReads : Prop :=
  ∀ (s : State) (e : Fin 16) (c : Fin 6) (r : Fin 16) (addr : BitVec 13),
    let tap : Tap := { s.tap with ir := 0x10, driven := none }
    let x := s.ctx (6 * e.val + c.val)
    let shows (i : Instr) (v : Word) : Prop := Answers i s (fun u => u = { s with tap := { tap with dbg := u.tap.dbg } } ∧ u.tap.dbg.extractLsb' 0 24 = v)
    (s.debugOff = false →
      shows (.readReg e c (BitVec.ofNat 13 r.val)) x.w[r] ∧ shows (.readReg e c 0x20) (x.pc.setWidth 24) ∧
      shows (.readPm e addr) (s.pmWord e.val addr.toNat) ∧
      Answers (.readReg e c 0x22) s (fun u => u = { s with tap := { tap with dbg := u.tap.dbg } } ∧ ∀ f : Fin 4, u.tap.dbg.getLsbD f = x.f[f]) ∧
      Answers (.readReg e c 0x21) s (fun u => u = { s with tap := { tap with dbg := u.tap.dbg } } ∧
        u.tap.dbg.getLsbD 0 = x.sat ∧ u.tap.dbg.getLsbD 1 = x.acv ∧ u.tap.dbg.getLsbD 2 = x.csat)) ∧
    (s.debugOff = true → ∀ i ∈ [Instr.halt e, .step e, .resumeEngine e, .status e, .readReg e c addr, .readPm e addr],
      exec i s = .next { s with tap := { s.tap with ir := 0x1F, driven := none } })

/-- Boundary scan (R427, R446): EXTEST and CLAMP drive the pins only while nRST is held low from outside, and act as BYPASS otherwise; SAMPLE/PRELOAD
takes the pins and then what is shifted in and drives nothing; IDCODE and BYPASS select their registers; nothing but the test access port
changes.
Readings that the model chose: log entry 19. -/
def Obligations.BoundaryScan : Prop :=
  ∀ (s : State) (l m : List Bool) (code : BitVec 5), l.length = 124 → m.length = 124 →
    let bypass : State := { s with tap := { s.tap with ir := 0x1F, driven := none } }
    (s.boot.nrstIn = true →
      exec (.extest l) s = .next { s with tap := { s.tap with ir := 0, updated := l, driven := some l } } ∧
      exec .clampTest s = .next { s with tap := { s.tap with ir := 4, driven := some s.tap.updated } }) ∧
    (s.boot.nrstIn = false → exec (.extest l) s = .next bypass ∧ exec .clampTest s = .next bypass) ∧
    exec (.samplePreload l m) s = .next { s with tap := { s.tap with ir := 2, captured := l, updated := m, driven := none } } ∧
    exec .idcode s = .next { s with tap := { s.tap with ir := 1, driven := none } } ∧
    (code ≠ 0 → code ≠ 1 → code ≠ 2 → code ≠ 4 → code ≠ 0x10 → exec (.bypass code) s = .next { s with tap := { s.tap with ir := code, driven := none } })

/-! ### Dictionary requests and jobs (03_referee.md, 16_dictionary_protocol.md) -/

namespace Sys2Proof.Machine

/-- The dictionary takes up request `q` (R355, R369, R409, R411): the device serves it, LOCAL is enabled if it came there, STANDBY is not being entered, its
tag is free and no response under it waits to be sent, it is no replay, and a session is open. -/
structure Served (s : State) (q : Req) : Prop where
  serves : s.dev ≠ devBoot ∧ s.dev ≠ devStandby
  enabled : q.ses.val = 1 → s.dc 0 0x021 0 ≠ 0
  tag : s.tagInUse q.ses.val q.tag = false
  stays : s.boot.standby = 0
  fresh : q.rpt = true → ∀ r ∈ (s.sess q.ses.val).stored, r.tag ≠ q.tag
  opened : s.ver q.ses.val ≠ 0

/-- A write of `v` to key `k` passes steps 1 to 6 of R401; `lev` is a level that the value needs, `armed` a stage that a rule of the entry names. -/
def Permits (s : State) (q : Req) (k v lev : Nat) (armed : Option Nat) : Prop := ∃ r, s.writeCheck q.ses.val k v lev armed = .ok r

/-- The session after a response: it is queued, stored under its tag, and the tag is free (R409). -/
def Sess.answered (x : Sess) (q : Req) (op err detail key : Nat) (body : List Byte) : Sess :=
  let r : Resp := ⟨q.tag, op, err, detail, key, body⟩
  { x with inUse := x.inUse.filter (· != q.tag), resp := x.resp ++ [r], stored := r :: x.stored.filter (fun o => o.tag != q.tag) }

/-- The response OK of a WRITE to `k` of an entry that is not journalled (R406), and no other change of the sessions. -/
def Confirms (s u : State) (q : Req) (k : Nat) : Prop :=
  ∀ j, u.sess j = if j = q.ses.val then (s.sess j).answered q 3 0 0 k [0] else s.sess j

/-- The response REFUSED of a WRITE to `k`, with its DETAIL (R423), and no other change of the sessions. -/
def RefusesWith (s u : State) (q : Req) (k detail : Nat) : Prop :=
  ∀ j, u.sess j = if j = q.ses.val then (s.sess j).answered q 3 errRefused detail k [] else s.sess j

/-- The entries of `l` have the values it gives; every other entry is as before. -/
def OnlyEntries (s u : State) (l : List (Nat × Nat)) : Prop :=
  (∀ p ∈ l, u.getKey p.1 = p.2) ∧ ∀ j, (∀ p ∈ l, p.1 ≠ j) → u.getKey j = s.getKey j

/-- A job of a kind is queued for `q` in the slot of its tag (R94, R98, R406): the slot shows it, the response carries JOB, and the tag stays in use. -/
def StartsJob (s u : State) (q : Req) (k arg : Nat) (kind : JobKind) (more : List (Nat × Nat)) : Prop :=
  let slot := q.tag.toNat
  u = { s with ref := { s.ref with job := u.ref.job }, ent := u.ent, ses := u.ses } ∧
  (∃ j, u.jobAt slot = some j ∧ j.kind = kind ∧ j.arg = arg ∧ j.owner = some q ∧ j.steps = 0 ∧ j.cancel = false ∧ j.born = s.t48.toNat) ∧
  (∀ n, n ≠ slot → u.jobAt n = s.jobAt n) ∧
  OnlyEntries s u ([(mkKey 2 0x090 slot, 1), (mkKey 2 0x091 slot, k), (mkKey 2 0x092 slot, 0), (mkKey 2 0x093 slot, 0),
    (mkKey 2 0x094 slot, s.t48.toNat), (mkKey 2 0x095 slot, kind.lock arg)] ++ more) ∧
  ∀ j, u.sess j = if j = q.ses.val then { (s.sess j).answered q 3 0 0 k [4] with inUse := q.tag :: (s.sess j).inUse.filter (· != q.tag) } else s.sess j

end Sys2Proof.Machine

/-- Every entry that starts a job (R69, R94, R148, R165, R177, R200, R259, R342, R348, R350, R351): a write that passes R401 and that its own rule does not
refuse queues the job in the slot of its tag, if that slot is free, and a busy slot refuses it with BUSY.
Readings that the model chose: log entry 20. -/
def Obligations.WritesStartJobs : Prop :=
  ∀ (s : State) (q : Req) (image : List Word) (id : Word) (lane : Fin 32) (addr : BitVec 48) (hb st : Fin 12) (cw : Fin 48) (burn : BitVec 48) (r : Fin 3),
    Served s q →
    ∀ row ∈ [(Instr.kimgLoad q image, mkKey 3 0x030 0, 0, 0, 0, JobKind.kimgLoad, [], true),
        (.kimgDelete q id, mkKey 3 0x031 0, id.toNat, 0, id.toNat, .kimgDelete, [],
          (s.kimgSlot id.toNat).isSome && (List.range 96).all (fun t => s.dc 2 0x010 t != id.toNat || id.toNat == 0)),
        (.patchLoad q image, mkKey 0xB 0x023 0, 0, 0, 0, .patchLoad, [], true),
        (.satRead q lane addr, mkKey 5 0x041 lane, addr.toNat, 0, lane.val, .satRead, [], true),
        (.ostCmd q hb, mkKey 6 0x030 hb, 0, 0, hb.val, .ost, [], true),
        (.cwCheckCmd q cw, mkKey 7 0x068 cw, 0, 0, cw.val, .cwCheck, [], true),
        (.idCmd q st, mkKey 0xD 0x150 st, 0, 0, st.val, .ident, [(mkKey 0xD 0x152 st, 1)],
          (s.stg st).st == .armed && s.ofsDone st && s.dc 0xD 0x000 st == 1),
        (.otpBurn q burn, mkKey 0xB 0x073 0, burn.toNat, regionLevel (burn.toNat / 2 ^ 40 % 4), burn.toNat, .otpBurn, [],
          burn.toNat / 2 ^ 40 % 4 != 3 && decide (burn.toNat / 2 ^ 32 % 256 < otpWords (burn.toNat / 2 ^ 40 % 4))),
        (.lock q r, mkKey 0xB 0x074 r, 0, regionLevel r, r.val, .otpLock, [], true),
        (.complete q r, mkKey 0xB 0x074 r, 1, regionLevel r, r.val, .otpComplete, [], s.lockState r == 2),
        (.otpAudit (some q), mkKey 0xB 0x075 0, 0, 0, 0, .otpAudit, [], true)],
      let slot := q.tag.toNat
      Permits s q row.2.1 row.2.2.1 row.2.2.2.1 none → row.2.2.2.2.2.2.2 = true →
      (s.en 2 0x090 slot = 0 → s.jobAt slot = none →
        Answers row.1 s (StartsJob s · q row.2.1 row.2.2.2.2.1 row.2.2.2.2.2.1 row.2.2.2.2.2.2.1)) ∧
      (s.en 2 0x090 slot ≠ 0 → exec row.1 s = .next (s.setSess q.ses.val ((s.sess q.ses.val).answered q 3 errBusy 0 row.2.1 [])))

/-- Jobs (R94, R96, R98, R410, R450), where no slice of the Referee is due (R95): JOB_STEP works, at a step boundary, for a runnable job of the highest effective priority, the oldest of equals; with none, nothing changes but what
the slots show; a cancelled KIMG_LOAD ends CANCELLED; a KIMG_DELETE ends DONE with its directory entry free; a KIMG_LOAD at its step limit ends FAILED with
JOB_TIMEOUT; a slot in a final state expires. JOB_CANCEL marks a job that can be cancelled, for its next step, and is REFUSED with DETAIL 1 of one that cannot; on a
free slot it has no effect but its response; progress is notified to a session of 2.4, at most once per 100 ms, with slot and progress.
Readings that the model chose: log entries 20 and 36. -/
def Obligations.JobsRunEndAndReport : Prop :=
    (∀ (s : State) (obs : JobObs) (slot : Fin 64) (j : Job),
      (∀ a b, s.midStep = none → s.chooseJob = some (a, b) → (a, b) ∈ s.ref.job ∧ s.runnable a b = true ∧ ∀ p ∈ s.ref.job, s.runnable p.1 p.2 = true →
        s.jobPrio p.2 < s.jobPrio b ∨ (s.jobPrio p.2 = s.jobPrio b ∧ b.born ≤ p.2.born)) ∧
      (s.chooseJob = none → s.ref.due = false → Answers (.jobStep obs) s (fun u => u = { s with ent := u.ent } ∧
        ∀ k, (∀ i, k ≠ mkKey 2 0x090 i) → u.getKey k = s.getKey k)) ∧
      (s.ref.due = false → s.ref.job = [(slot.val, j)] → j.kind = .kimgLoad → j.cancel = true →
        Answers (.jobStep obs) s (fun u => u.ref = { s.ref with job := [] } ∧ u.en 2 0x090 slot = 6 ∧ u.en 2 0x093 slot = 0 ∧ u.mem = s.mem)) ∧
      (s.ref.due = false → s.ref.job = [(slot.val, j)] → j.kind = .kimgLoad → j.cancel = false → s.deferring = false → s.nvm.writing = false → j.fed = true → j.limit ≤ j.steps →
        Answers (.jobStep obs) s (fun u => u.ref = { s.ref with job := [] } ∧ u.en 2 0x090 slot = 5 ∧ u.en 2 0x093 slot = 0x02000B + 256 * slot.val ∧
          ⟨0x02000B + 256 * slot.val, false⟩ ∈ u.flt.reports ∧ u.mem = s.mem)) ∧
      (s.ref.due = false → s.ref.job = [(slot.val, j)] → j.kind = .kimgDelete → j.cancel = false → s.deferring = false → s.nvm.writing = false → j.steps < j.limit → s.mem.upset = [] → ∀ kk, s.kimgSlot j.arg = some kk →
        Answers (.jobStep obs) s (fun u => u.ref = { s.ref with job := [] } ∧ u.en 2 0x090 slot = 4 ∧ u.en 2 0x092 slot = 100 ∧
          u.dirUsed kk = false ∧ u.en 3 0x021 kk = 0 ∧ u.mem = { s.mem with fram := u.mem.fram, upset := u.mem.upset })) ∧
      (4 ≤ s.en 2 0x090 slot → Answers (.jobSlotExpiry slot) s (fun u => u = { s with ent := u.ent } ∧ OnlyEntries s u [(mkKey 2 0x090 slot, 0)]))) ∧
    (∀ (s : State) (q : Req) (slot : Fin 64) (j : Job),
      (Served s q → Permits s q (mkKey 2 0x096 slot) 1 0 none →
        (s.jobAt slot = some j → j.cancellable = true → Answers (.jobCancel q slot 1) s (fun u => Confirms s u q (mkKey 2 0x096 slot) ∧
          u = { s with ref := { s.ref with job := u.ref.job }, ses := u.ses } ∧
          ∀ n, u.jobAt n = if n = slot.val then some { j with cancel := true } else s.jobAt n)) ∧
        (s.jobAt slot = some j → j.cancellable = false → Answers (.jobCancel q slot 1) s (fun u => RefusesWith s u q (mkKey 2 0x096 slot) 1 ∧
          u = { s with ses := u.ses })) ∧
        (s.jobAt slot = none → Answers (.jobCancel q slot 1) s (fun u => Confirms s u q (mkKey 2 0x096 slot) ∧ u = { s with ses := u.ses }))) ∧
      (s.jobAt slot = some j → j.born ≤ s.t48.toNat → s.en 2 0x092 slot ≤ 100 → s.flt.lastAt = [] → s.ver 0 = 0x0204 → s.ver 1 = 0 → (s.sess 0).notif.length < 64 →
        Answers (.jobProgress slot) s (fun u => u = { s with flt := { s.flt with lastAt := u.flt.lastAt }, ses := u.ses } ∧
          u.sess 0 = { s.sess 0 with notif := (s.sess 0).notif ++
            [⟨s.t48.toNat, 6, 0, [BitVec.ofNat 8 slot.val, BitVec.ofNat 8 (s.en 2 0x092 slot)]⟩] } ∧
          (∀ n, n ≠ 0 → u.sess n = s.sess n) ∧ exec (.jobProgress slot) u = .next u)))

namespace Sys2Proof.Machine

/-- A write of `v` to the journalled entry `k` (R335, R336, R409): the entry holds `v`, a record with the next SEQ waits in the write queue with `q` as its
owner, and the response waits for its commit with the tag in use. -/
def Journals (s u : State) (q : Req) (k v : Nat) : Prop :=
  u.getKey k = v ∧
  (∃ ty w, u.nvm = { s.nvm with queue := s.nvm.queue ++ [⟨k, ty, s.nvm.next, w, some q, false⟩], next := s.nvm.next + 1 }) ∧
  ∀ j, u.sess j = if j = q.ses.val then { s.sess j with inUse := q.tag :: (s.sess j).inUse.filter (· != q.tag) } else s.sess j

/-- The journal takes a changed value of `k` at once (R335, R336): its queue has room and no supply warning defers writes. -/
def CanJournal (s : State) (k v : Nat) : Prop := s.getKey k ≠ v ∧ s.nvm.queue.length < 32 ∧ s.deferring = false

end Sys2Proof.Machine

/-- TASK_DECLARE and TASK_REMOVE (R71, R72, R79, R100): a declaration that no check of R72 refuses comes into force as the entries hold it, the task is DECLARED
without a reason, and a placement job of the supervisor is queued; a refused one answers its reason and changes nothing else but 2.031 and 2.032; removing a placed
task frees its slot and its declaration, unless its stage is ARMED, RUN or RAMPDOWN.
Readings that the model chose: log entries 21 and 22. -/
def Obligations.TaskDeclareAndRemove : Prop :=
  ∀ (s : State) (q : Req) (t : Fin 96), Served s q →
    let x := s.task t
    let k := mkKey 2 0x030 t
    (Permits s q k 0 0 none → s.mem.upset = [] → (∀ f, s.refuseTask t = none → s.freeSlot = some f → x.codeLen = 0 → x.mig = none →
      Answers (.taskDeclare q t) s (fun u => Confirms s u q k ∧ u.en 2 0x031 t = 1 ∧ u.en 2 0x032 t = 0 ∧
        u = { s with ref := u.ref, ent := u.ent, decl := u.decl, ses := u.ses } ∧
        (∀ e, 0x010 ≤ e → e < 0x02C → u.dc 2 e t = s.en 2 e t) ∧
        (∀ p e, p < 96 → p ≠ t.val → u.dc 2 e p = s.dc 2 e p) ∧ (∀ j, j ≠ t.val → u.task j = s.task j) ∧
        ∃ j, u.jobAt f = some j ∧ j.kind = .place ∧ j.data = [BitVec.ofNat 24 t.val] ∧ j.owner = none)) ∧
      (∀ r, s.refuseTask t = some r → Answers (.taskDeclare q t) s (fun u => RefusesWith s u q k r ∧ u = { s with ent := u.ent, ses := u.ses } ∧
        OnlyEntries s u ((mkKey 2 0x032 t, r) :: if s.taskOn t then [] else [(mkKey 2 0x031 t, 6)])))) ∧
    (Permits s q k 1 0 none → s.liveStage (s.taskStage t) = none → x.codeLen ≠ 0 → x.engine < 16 → x.slot < 6 → x.mig = none →
      Answers (.taskRemove q t) s (fun u => Confirms s u q k ∧ u.en 2 0x031 t = 0 ∧ u.en 2 0x034 t = 0xFF ∧ u.taskOn t = false ∧
        u.task t = TaskRt.none ∧ u.slotTask x.engine x.slot = none ∧ u.ctx (s.ctxKey t) = Ctx.zero ∧ (∀ j, j ≠ t.val → u.task j = s.task j) ∧
        u = { s with ref := u.ref, ent := u.ent, decl := u.decl, ses := u.ses, loop := u.loop, due := u.due })) ∧
    (∀ g, Permits s q k 1 0 none → s.liveStage (s.taskStage t) = some g → 
      exec (.taskRemove q t) s = .next (s.setSess q.ses.val ((s.sess q.ses.val).answered q 3 errStageArmed g k [])))

/-- The Referee's quads (R80, R81, R84): a quad that is off comes on at its QUAD_FMAX once a task is being placed on it, not within 100 ms of its last change; a round outside IDLE, OPERATIONAL and SAFE
does nothing, and a round in them counts and leaves off every quad without a task whose step was not raised within 100 ms; QUAD_FMAX below QUAD_FMIN is REFUSED, and
above it, with no task on the quad, it is journalled.
Readings that the model chose: log entry 55. -/
def Obligations.RefereeMovesQuads : Prop :=
  ∀ (s : State) (q : Req) (quad : Fin 4) (v : BitVec 48),
    let k := mkKey 2 0x041 quad
    (s.recent quad = true → exec (.quadSwitchOn quad) s = .next s) ∧
    (s.step quad = 0 → s.quadBusy quad = true → s.recent quad = false → Answers (.quadSwitchOn quad) s (fun u => u.step quad = s.en 2 0x041 quad ∧
      (u.quad quad).lastChange = s.t48.toNat ∧ u = { s with ent := u.ent, ref := { s.ref with quad := u.ref.quad } } ∧
      (∀ j, j ≠ mkKey 2 0x040 quad → u.getKey j = s.getKey j) ∧ ∀ p, p ≠ quad.val → u.quad p = s.quad p)) ∧
    (s.dev ≠ devIdle → s.dev ≠ devOperational → s.dev ≠ devSafe → exec .refereeRound s = .next s) ∧
    (s.dev = devIdle ∨ s.dev = devOperational ∨ s.dev = devSafe →
      Answers .refereeRound s (fun u => u.ref.rounds = s.ref.rounds + 1 ∧
        (s.quadBusy quad = false → s.inShadow quad = false → ¬ ((s.quad quad).lastUp = true ∧ s.recent quad = true) → u.step quad = 0) ∧
        u = { s with ref := u.ref, due := u.due, ent := u.ent, free := u.free, flt := u.flt, ses := u.ses, mem := u.mem, loop := u.loop, evBus := u.evBus })) ∧
    (Served s q → Permits s q k v.toNat 0 none →
      (v.toNat < s.en 2 0x042 quad → Answers (.quadFmax q quad v) s (fun u => RefusesWith s u q k 0 ∧ u = { s with ses := u.ses })) ∧
      (s.en 2 0x042 quad ≤ v.toNat → s.quadBusy quad = false → CanJournal s k v.toNat →
        Answers (.quadFmax q quad v) s (fun u => Journals s u q k v.toNat ∧ u = { s with ent := u.ent, nvm := u.nvm, ses := u.ses } ∧
          ∀ j, j ≠ k → u.getKey j = s.getKey j)))

/-- STATE_COPY_DONE and the free timers (R75, R88): the copy takes the state section to the twin word by word, and then the target's mailboxes assigned to its inputs
show SEQ and OVR of the source's and the mirror is armed; a free timer with a period raises its event and makes the placed tasks that it releases due, and one
without a period does nothing.
Readings that the model chose: log entry 17. -/
def Obligations.CopiesAndFreeTimers : Prop :=
  ∀ (s : State) (t : Fin 96) (m : Mig) (ft : Fin 16),
    let x := s.task t
    (x.mig = some m → m.copying = true → x.engine < 16 → m.dst < 16 → x.engine ≠ m.dst →
      (∀ i, i < x.stateLen → ((x.state + i < 0x2000 ∧ m.twin + i < 0x2000) ∨
        (0x100000 ≤ x.state + i ∧ x.state + i < 0x180000 ∧ 0x100000 ≤ m.twin + i ∧ m.twin + i < 0x180000 ∧
          (x.state + x.stateLen ≤ m.twin ∨ m.twin + x.stateLen ≤ x.state)))) →
      Answers (.stateCopyDone t) s (fun u =>
        u = { s with mem := { s.mem with loc := u.mem.loc, tile := u.mem.tile, upset := u.mem.upset }, loop := { s.loop with mbox := u.loop.mbox }
                     ref := { s.ref with task := u.ref.task } } ∧
        (∀ i, i < x.stateLen → u.memWord m.dst (m.twin + i) = s.memWord x.engine (x.state + i) ∧
          u.memWord x.engine (x.state + i) = s.memWord x.engine (x.state + i)) ∧
        u.task t = { x with mig := some { m with copying := false, copied := true, pend := x.pend } } ∧ (∀ j, j ≠ t.val → u.task j = s.task j) ∧
        ∀ a b, x.mboxes = [some a] → m.mboxes = [some b] → a < 4 → b < 4 →
          (u.mb (4 * m.dst + b)).seq = (s.mb (4 * x.engine + a)).seq ∧ (u.mb (4 * m.dst + b)).ovr = (s.mb (4 * x.engine + a)).ovr ∧
          (u.mb (4 * m.dst + b)).assigned = true)) ∧
    (s.en 2 0x060 ft ≠ 0 → Answers (.freeTimerExpiry ft) s (fun u =>
      (∃ l, u.evBus = s.evBus ++ (384 + ft.val) :: l) ∧
      (∀ j, j ∈ u.due ↔ j ∈ s.due ∨ (j < 96 ∧ (s.task j).placed = true ∧ (s.task j).shed = false ∧ s.dc 2 0x013 j = 128 + ft.val)) ∧
      u = { s with evBus := u.evBus, due := u.due, acq := u.acq, qes := u.qes, loop := u.loop, ent := u.ent })) ∧
    (s.en 2 0x060 ft = 0 → exec (.freeTimerExpiry ft) s = .next s)

/-! ### Clusters and generators (04_pwm.md) -/

namespace Sys2Proof.Machine

/-- Only cluster `c` changed, to `y`. -/
def OnlyCluster (s u : State) (c : Nat) (y : Cl) : Prop :=
  u = { s with pwm := { s.pwm with cl := u.pwm.cl } } ∧ ∀ j, u.cl j = if j = c then y else s.cl j

/-- A value of generator `n` is below its floor (R118). -/
def State.belowFloor (s : State) (n : Nat) (x : GenSet) : Prop :=
  x.dtr.toNat < s.en 4 0x012 n ∨ x.dtf.toNat < s.en 4 0x013 n ∨ x.minp.toNat < s.en 4 0x014 n

/-- `y` is the set `x` of cluster `c` raised to the floors (R118); nothing else of it changed. -/
def State.Floored (s : State) (c : Nat) (x y : ClSet) : Prop :=
  y.period = x.period ∧ y.page = x.page ∧ y.maskEn = x.maskEn ∧ ∀ i : Fin 4,
    y.g[i].dtr.toNat = max x.g[i].dtr.toNat (s.en 4 0x012 (4 * c + i.val)) ∧ y.g[i].dtf.toNat = max x.g[i].dtf.toNat (s.en 4 0x013 (4 * c + i.val)) ∧
    y.g[i].minp.toNat = max x.g[i].minp.toNat (s.en 4 0x014 (4 * c + i.val)) ∧
    (y.g[i].floored = true ↔ s.belowFloor (4 * c + i.val) x.g[i]) ∧
    y.g[i] = { x.g[i] with dtr := y.g[i].dtr, dtf := y.g[i].dtf, minp := y.g[i].minp, floored := y.g[i].floored }

/-- The 16-bit counters of `l` advanced by one each, up to 65535, and no other entry changed. -/
def Counts (s u : State) (l : List Nat) : Prop :=
  ∀ j, (j ∈ l → u.getKey j = min 65535 (s.getKey j + 1)) ∧ (j ∉ l → u.getKey j = s.getKey j)

end Sys2Proof.Machine

/-- From a store of COMMIT.GO to the apply stage (R15, R117 to R119). The store copies the pending set; a recognised set is raised to the floors,
then rejected by its period (REASON 1) or its edge budget (REASON 2), with the count and PWM_SET_REJECT, the waiting set staying; else it waits and
replaces a set not applied, which counts as superseded; one behind the cutoff, rejected or not, counts as late; the cutoff takes the waiting set into the apply
stage. While a set's token is not acknowledged a second store waits (R22). A cluster that is OFF takes no commit.
Readings that the model chose: log entry 24. -/
def Obligations.CommitsAndCutoffs : Prop :=
  ∀ (s : State) (e : Fin 16) (c : Fin 12) (t k : Nat) (x x' : ClSet),
    let y := s.cl c
    (Executes s e t k → s.allows t e (0x800042 + 256 * c.val) true = true → (s.task t).mig = none →
      (y.st ≠ .off → y.transfer = none → Answers (.commitGo e c) s (OnlyCluster s · c { y with transfer := some y.pending })) ∧
      (y.st = .off ∨ y.transfer ≠ none → exec (.commitGo e c) s = .next s)) ∧
    (y.st ≠ .off → y.transfer = some x → s.Floored c x x' →
      let p := x.period.toNat
      let fits := s.en 4 0x030 c ≤ p ∧ p ≤ min (8 * s.en 4 0x030 c) 524288
      let budget := ∀ i : Fin 4, x'.g[i].dtr.toNat + x'.g[i].dtf.toNat + 2 * x'.g[i].minp.toNat < p * 32
      let low := ((List.finRange 4).filter (fun i => x'.g[i].floored)).map (fun i => mkKey 4 0x023 (4 * c.val + i.val))
      (∀ r, (¬ fits ∧ r = 1) ∨ (fits ∧ ¬ budget ∧ r = 2) → Answers (.commitRecognised c) s (fun u =>
        OnlyCluster { s with ent := u.ent, flt := { s.flt with reports := s.flt.reports ++ [⟨0x030003 + 256 * c.val, false⟩] } } u c
          { y with transfer := none, rejReason := r, late := y.cut } ∧
        Counts s u (low ++ [mkKey 4 0x056 c] ++ (if y.cut then [mkKey 4 0x054 c] else [])))) ∧
      (fits → budget → Answers (.commitRecognised c) s (fun u =>
        OnlyCluster { s with ent := u.ent } u c { y with transfer := none, waiting := some x', apply := none, late := y.cut } ∧
        Counts s u (low ++ (if y.waiting.isSome || y.apply.isSome then [mkKey 4 0x055 c] else []) ++ (if y.cut then [mkKey 4 0x054 c] else []))))) ∧
    (y.transfer = none → exec (.commitRecognised c) s = .next s) ∧
    (y.st = .off → y.transfer = some x → Answers (.commitRecognised c) s (OnlyCluster s · c { y with transfer := none })) ∧
    (y.st = .off → exec (.cutoff c) s = .next s) ∧
    (y.st ≠ .off → y.waiting = none → Answers (.cutoff c) s (OnlyCluster s · c { y with cut := true })) ∧
    (y.st ≠ .off → y.waiting = some x → Answers (.cutoff c) s (OnlyCluster s · c { y with apply := some x, waiting := none, cut := true }))

/-- RELOAD (R105, R119, R124) of a cluster that counts by itself, with no CBC input enabled: the next period begins, the set in the apply
stage is applied and LASTAPP reports the reload, or the last set stays and LASTAPP too; TRIPCNT leaks; EV(96 + c) is raised. A cluster that is OFF and waits
for no start does nothing. -/
def Obligations.ReloadBeginsAPeriod : Prop :=
  ∀ (s : State) (c : Fin 12), let y := s.cl c
    (y.st ≠ .off → s.master c = none → (∀ i, i < 4 → s.tripCfg c i % 4 ≠ 1) → Answers (.reload c) s (fun u =>
      let z := u.cl c
      z.st = y.st ∧ z.rldnum = y.rldnum + 1 ∧ z.carrier = 0 ∧ z.start48 = (y.start48 + y.len) % 2 ^ 48 ∧ z.len = y.applied.period.toNat ∧
      z.cur = some y.applied ∧ z.apply = none ∧ z.waiting = y.waiting ∧ z.pending = y.pending ∧ z.outen = y.outenReq ∧ z.runOn = (y.outen && y.st == .running) ∧
      (∀ x, y.apply = some x → z.applied = x ∧ z.lastapp = y.rldnum + 1) ∧ (y.apply = none → z.applied = y.applied ∧ z.lastapp = y.lastapp) ∧
      z.tripHit = 0 ∧ z.counted = false ∧ z.cut = false ∧ z.holdH = decide (y.st = .latched) ∧ z.holdL = decide (y.st = .latched) ∧
      (y.counted = true → z.tripcnt = y.tripcnt ∧ z.clean = y.clean) ∧
      (y.counted = false → (y.clean + 1 < s.en 4 0x035 c ∨ s.en 4 0x035 c = 0) → z.tripcnt = y.tripcnt ∧ z.clean = y.clean + 1) ∧
      (y.counted = false → s.en 4 0x035 c ≠ 0 → s.en 4 0x035 c ≤ y.clean + 1 → z.tripcnt = y.tripcnt - 1 ∧ z.clean = 0) ∧
      u.evBus = s.evBus ++ [96 + c.val] ∧ (∀ j, j ≠ c.val → u.cl j = s.cl j) ∧
      u = { s with pwm := { s.pwm with cl := u.pwm.cl, gen := u.pwm.gen }, ent := u.ent, lanes := u.lanes, drv := u.drv, acq := u.acq, evBus := u.evBus
                   due := u.due })) ∧
    (y.st = .off → y.starting = false → exec (.reload c) s = .next s)

namespace Sys2Proof.Machine

/-- The timers that edge `kind` of generator `g` starts (R126): those with a length that select it, unless a trip holds its side off. -/
def State.startsTimer (s : State) (g kind b : Nat) : Bool :=
  !(if kind < 2 then (s.cl (g / 4)).holdH else (s.cl (g / 4)).holdL) && decide (s.en 4 (0x036 + 2 * b) (g / 4) ≠ 0) &&
    (s.en 4 (0x037 + 2 * b) (g / 4)).testBit (4 * (g % 4) + kind)

/-- A cluster after edge `kind` of generator `g`: a timer that it starts runs. -/
def State.timersAfter (s : State) (g kind : Nat) : Cl :=
  { s.cl (g / 4) with bt := #v[(s.cl (g / 4)).bt[0] || s.startsTimer g kind 0, (s.cl (g / 4)).bt[1] || s.startsTimer g kind 1] }

end Sys2Proof.Machine

/-- Triggers, edges, timers and the Rally (R102, R103, R107, R121, R126). TRIGGER_FIRE of a code that is not NEVER raises EV(2n) for CMPC and EV(2n + 1) for
CMPD, whatever OUTEN is; a code that is NEVER or behind the period does not fire. An edge at its T starts the timers that select it; a timer expires.
The next edge of a PWMO pair puts its side on or off through its line's tap, and a held side stays off. A measured chain that one tick spans in 32 to 63 taps gets its table and goes into
service; an invalid one counts and raises RALLY_FAIL. -/
def Obligations.TriggersEdgesAndTheRally : Prop :=
  ∀ (s : State) (g line : Fin 48) (d : Bool) (x : ClSet) (kind : Fin 4) (c : Fin 12) (b : Fin 2) (taps : BitVec 12) (y : Edge) (r : List Edge),
    let cs := x.g.getD (g.val % 4) GenSet.reset
    let code := if d then cs.cmpd else cs.cmpc
    let cl := s.cl (g.val / 4)
    let one (m : Line) (k : Nat) (u : State) : Prop := ∀ j, u.line j = if j = k then m else s.line j
    let old := s.line line
    (cl.cur = some x → code ≠ 0xFFFFFF → code.toNat < 32 * cl.len → Answers (.triggerFire g d) s (fun u =>
      (∃ l, u.evBus = s.evBus ++ (2 * g.val + d.toNat) :: l) ∧ u = { s with evBus := u.evBus, acq := u.acq, qes := u.qes, loop := u.loop, ent := u.ent })) ∧
    (cl.cur = some x → code = 0xFFFFFF ∨ 32 * cl.len ≤ code.toNat → exec (.triggerFire g d) s = .next s) ∧
    (cl.st ≠ .off → Answers (.edgeTimeReached g kind) s (OnlyCluster s · (g.val / 4) (s.timersAfter g kind))) ∧
    Answers (.blankTimerExpiry c b) s (OnlyCluster s · c { s.cl c with bt := (s.cl c).bt.set b.val false }) ∧
    ((s.gen g).edges = y :: r → Answers (.edgeTick g) s (fun u =>
      let on := y.on && !(if y.high then cl.holdH else cl.holdL) && decide (cl.st = .running) && cl.runOn && !s.flt.src.getLsbD 119 && !s.flt.injSrc.getLsbD 119
      OnlyCluster { s with pwm := { s.pwm with gen := u.pwm.gen, line := u.pwm.line } } u (g.val / 4)
        (s.timersAfter g ((if y.high then 0 else 2) + if y.on then 0 else 1)) ∧
      u.gen g = { s.gen g with edges := r, pinH := if y.high then on else (s.gen g).pinH, pinL := if y.high then (s.gen g).pinL else on } ∧
      (∀ j, j ≠ g.val → u.gen j = s.gen j) ∧ (g.val < 44 → u.pwm.line = s.pwm.line) ∧
      (44 ≤ g.val → let p := 2 * (g.val - 44) + (if y.high then 0 else 1)
        ∀ j, u.line j = if j = p then { s.line p with tap := (s.line p).tapOf (y.t % 32) } else s.line j))) ∧
    ((s.gen g).edges = [] → exec (.edgeTick g) s = .next s) ∧
    (256 ≤ taps.toNat → taps.toNat ≤ 504 → Answers (.rallyMeasure line taps) s (fun u => u = { s with pwm := { s.pwm with line := u.pwm.line } } ∧
      one { old with a := if old.useB then some taps.toNat else old.a, b := if old.useB then old.b else some taps.toNat,
                     useB := !old.useB, measured := true, at48 := s.t48.toNat } line u)) ∧
    (taps.toNat < 256 ∨ 504 < taps.toNat → Answers (.rallyMeasure line taps) s (fun u =>
      u = { s with pwm := { s.pwm with line := u.pwm.line }, ent := u.ent
                   flt := { s.flt with reports := s.flt.reports ++ [⟨0x030004 + 256 * line.val, false⟩] } } ∧ Counts s u [mkKey 4 0x002 0] ∧
      one { old with a := if old.useB then none else old.a, b := if old.useB then old.b else none, measured := true } line u))

/-- Trips and lost clocks (R23, R122 to R127, R131, R383). An effective CBC trip of a running cluster holds both sides off (HIGH_OFF: the high side), sets
TRIP_HIT, and the first of a period counts in TRIPCNT and raises EV(108 + c); at TRIP_N the cluster latches with PWM_CBC_LIMIT. A LATCH trip latches at once with
PWM_TRIP_LATCH and leaves TRIPCNT, and decides over a CBC trip of the same tick. A blanked input has no effect. A lost clock is listed and its condition stands; CLK_TB gates the PWMO pins through source
119, CLK_CAN drops the frames in progress, and both end when the clock returns. -/
def Obligations.TripsAndClocks : Prop :=
  ∀ (s : State) (c : Fin 12) (i : Fin 4) (clk : BitVec 8),
    let y := s.cl c
    let f := s.tripCfg c i
    let ins : BitVec 4 := 1#4 <<< i.val
    let code := 0x0A0001 + 256 * clk.toNat
    (y.st = .running → f % 4 = 1 → f / 8 % 4 = 0 → y.tripcnt < 255 → s.tripInputs c 2 (s.tripLive c) = [] → Answers (.cbcTrip c ins) s (fun u =>
      let z := u.cl c
      z.tripHit = y.tripHit ||| ins ∧ z.counted = true ∧ z.holdH = true ∧ (f.testBit 2 = false → z.holdL = true) ∧
      (y.counted = true → z.tripcnt = y.tripcnt ∧ z.st = .running ∧ u.evBus = s.evBus) ∧
      (y.counted = false → z.tripcnt = y.tripcnt + 1 ∧ z.clean = 0 ∧ u.evBus = s.evBus ++ [108 + c.val] ∧
        (y.tripcnt + 1 < s.en 4 0x034 c → z.st = .running ∧ u.flt = s.flt ∧ (f.testBit 2 = true → z.holdL = y.holdL)) ∧
        (s.en 4 0x034 c ≤ y.tripcnt + 1 → z.st = .latched ∧ ⟨0x030001 + 256 * c.val, false⟩ ∈ u.flt.reports)) ∧
      (∀ j, j ≠ c.val → u.cl j = s.cl j) ∧
      u = { s with pwm := { s.pwm with cl := u.pwm.cl, gen := u.pwm.gen }, lanes := u.lanes, evBus := u.evBus, ent := u.ent, flt := u.flt })) ∧
    (∀ r, y.st = .running → f % 4 = 2 → f / 8 % 4 = 0 → r = .latchTrip c ins ∨ r = .cbcTrip c ins → Answers r s (fun u =>
      let z := u.cl c
      z.st = .latched ∧ z.holdH = true ∧ z.holdL = true ∧ z.tripHit = y.tripHit ||| ins ∧ z.tripcnt = y.tripcnt ∧
      0x030002 + 256 * c.val ∈ u.flt.live ∧ (∀ j, j ≠ c.val → u.cl j = s.cl j) ∧
      u = { s with pwm := { s.pwm with cl := u.pwm.cl, gen := u.pwm.gen }, lanes := u.lanes, evBus := u.evBus, ent := u.ent, flt := u.flt })) ∧
    ((f / 8 % 4 = 1 ∨ f / 8 % 4 = 3) ∧ y.bt[0] = true ∨ (f / 8 % 4 = 2 ∨ f / 8 % 4 = 3) ∧ y.bt[1] = true →
      exec (.cbcTrip c ins) s = .next s ∧ exec (.latchTrip c ins) s = .next s) ∧
    (y.st = .latched → exec (.cbcTrip c ins) s = .next s ∧ exec (.latchTrip c ins) s = .next s) ∧
    (clkListed clk.toNat = true → clk.toNat ∉ s.pwm.clkLost → Answers (.clkLoss clk) s (fun u =>
      u.pwm.clkLost = s.pwm.clkLost ++ [clk.toNat] ∧ code ∈ u.flt.live ∧ (clk = 0 → u.flt.src.getLsbD 119 = true) ∧
      (clk = 2 → ∀ n, n < 4 → u.can n = { s.can n with wire := none }) ∧ (clk ≠ 2 → u.cans = s.cans) ∧
      u = { s with pwm := u.pwm, flt := u.flt, lanes := u.lanes, cans := u.cans, ent := u.ent })) ∧
    (clk.toNat ∈ s.pwm.clkLost → Answers (.clockReturn clk) s (fun u =>
      clk.toNat ∉ u.pwm.clkLost ∧ code ∉ u.flt.live ∧ (clk = 0 → u.flt.src.getLsbD 119 = false) ∧
      (∀ j, u.cl j = s.cl j) ∧ u = { s with pwm := { s.pwm with clkLost := u.pwm.clkLost }, flt := u.flt, ses := u.ses, cans := u.cans, ent := u.ent, nvm := u.nvm })) ∧
    (clk.toNat ∉ s.pwm.clkLost → exec (.clockReturn clk) s = .next s)

/-! ### Lanes and integrated drivers (05_gate_lanes.md, 06_integrated_drivers.md) -/

namespace Sys2Proof.Machine

/-- Only lane `l` changed, to `x`. -/
def OnlyLane (s u : State) (l : Nat) (x : Lane) : Prop :=
  u = { s with lanes := u.lanes } ∧ ∀ j, u.lane j = if j = l then x else s.lane j

/-- Only lane `l` changed, to one of which `P` holds. -/
def LaneIs (s u : State) (l : Nat) (P : Lane → Prop) : Prop :=
  u = { s with lanes := u.lanes } ∧ P (u.lane l) ∧ ∀ j, j ≠ l → u.lane j = s.lane j

/-- Lane `l` takes `x`; on a link lane the frame that the P-die sent has arrived; nothing else changed. -/
def LaneTakes (s u : State) (l : Nat) (x : Lane) : Prop :=
  u = { s with lanes := u.lanes, drv := { s.drv with dl := u.drv.dl } } ∧ (∀ j, u.lane j = if j = l then x else s.lane j) ∧
  ∀ d, d + 32 ≠ l → u.dl d = s.dl d

/-- `y` is `x` after the characters `cs` have left in 8b/10b code (R136), with a K28.5 before them where more than 127 characters would else leave without
one (R137). -/
def Lane.Puts (x y : Lane) (cs : List LChar) : Prop :=
  let due := decide (127 < x.sinceK + cs.length)
  let out := if due then LChar.special .comma :: cs else cs
  y = { x with prog := y.prog, tx := (sendChars x.rd out).1, rd := (sendChars x.rd out).2
               sinceK := if cs = [LChar.special .comma] then 0 else if due then cs.length else x.sinceK + cs.length }

/-- `y` is `x` after command `c` has entered the serialiser, after the characters `pre`: the next SEQ, the six characters of its word, counted
in CMDCNT (R138, R140). -/
def Lane.Sends (x : Lane) (pre : List LChar) (c : LaneCmd) (y : Lane) : Prop :=
  let w := edgeWord (BitVec.ofNat 4 c.op) c.side c.prof (x.seq + 1) c.t
  Lane.Puts { x with seq := x.seq + 1, cmdcnt := x.cmdcnt + 1, line := some c } y (pre ++ edgeChars w)

end Sys2Proof.Machine

/-- The transmitter (R138, R140, R142, R145, R147, R150): a lane that serves sends its priority HOLD_OFFs first, then edge commands, VOLLEY, TIME_ADJ, PROFILE_SET and frames,
each command with the next SEQ, VOLLEY and frames where they end in time; an EDGE_ON with less than 16000 fine steps of lead is dropped and counted. A lower item in the serialiser is interrupted with ABORT
and goes back to its queue; with nothing to send K28.5 leaves. Under a kill K28.1 leaves, on a FAILED lane K28.5; a lane that is OFF or static
sends nothing. An exchange is queued while the Volley runs, and a HOLD_ONLY lane repeats HOLD_OFF, which a kill drops and counts. -/
def Obligations.LanesTransmitInOrder : Prop :=
  ∀ (s : State) (l : Fin 36) (c : LaneCmd) (r : List LaneCmd) (f : Frame) (fs : List Frame),
    let x := s.lane l
    let now : EdgeTime := BitVec.ofNat 32 (s.t48.toNat * 32)
    let lead := (c.t - now).toInt
    let t1 : EdgeTime := now + BitVec.ofNat 32 (32 * (if l.val < 32 then 10 else 5) * if 127 < x.sinceK + 7 then 1 else 0)
    let drives := x.st ≠ .off ∧ s.flt.static.getLsbD l = false ∧ 0 ∉ s.pwm.clkLost
    let serves := drives ∧ x.kill = false ∧ x.st ≠ .failed
    let idle (n : Nat) : Prop := ∀ p, s.inSend l = some p → p.level ≤ n
    let t := Instr.laneTransmit l
    (¬ drives → exec t s = .next s) ∧
    (drives → x.kill = true → Answers t s (LaneIs s · l (x.Puts · [.special .kill]))) ∧
    (drives → x.kill = false → x.st = .failed → Answers t s (LaneIs s · l (x.Puts · [.special .comma]))) ∧
    (serves →
      (x.qHold = c :: r → idle 2 → Answers t s (LaneIs s · l ({ x with qHold := r }.Sends [] c))) ∧
      (x.qHold = c :: r → ∀ p, s.inSend l = some p → 2 < p.level →
        Answers t s (LaneIs s · l ({ x.unsend p with qHold := r }.Sends [.special .abort] c))) ∧
      (x.qHold = [] → x.qEdge = c :: r → idle 3 → (c.op ≠ 1 ∨ 16000 ≤ lead) → Answers t s (LaneIs s · l ({ x with qEdge := r }.Sends [] c))) ∧
      (x.qHold = [] → x.qEdge = c :: r → idle 3 → c.op = 1 → lead < 16000 → Answers t s (fun u =>
        LaneIs { s with flt := u.flt } u l ({ x with qEdge := r, lateTx := min 65535 (x.lateTx + 1) }.Puts · []))) ∧
      (x.qHold = [] → x.qEdge = [] →
        (x.qVolley = true → s.fits l 4 7 = true → idle 4 → Answers t s (fun u => LaneIs { s with pwm := { s.pwm with line := u.pwm.line } } u l (fun y =>
          y.t1 = some t1 ∧ y.vseq = x.seq + 1 ∧
          { x with qVolley := false, t1 := y.t1, vseq := y.vseq }.Sends [.special .mark] ⟨7, 0, 0, t1, 0⟩ y))) ∧
        (x.qVolley = false →
          (x.qAdj = c :: r → idle 5 → Answers t s (LaneIs s · l ({ x with qAdj := r }.Sends [] c))) ∧
          (x.qAdj = [] → x.qProf = c :: r → idle 6 → Answers t s (LaneIs s · l ({ x with qProf := r }.Sends [] c))) ∧
          (x.qAdj = [] → x.qProf = [] → x.qFrame = f :: fs → s.fits l 7 (6 + 3 * f.words.length) = true → idle 7 →
            Answers t s (LaneIs s · l ({ x with qFrame := fs }.Puts · (frameChars f.ty (payloadOf f.words))))) ∧
          (x.qAdj = [] → x.qProf = [] → (∀ g gs, x.qFrame = g :: gs → s.fits l 7 (6 + 3 * g.words.length) = false) → idle 8 →
            Answers t s (LaneIs s · l (x.Puts · [.special .comma])))))) ∧
    (x.vlock ≠ 0 → x.kill = false → Answers (.volleyExchange l) s (OnlyLane s · l { x with qVolley := true })) ∧
    (x.vlock = 0 ∨ x.kill = true → exec (.volleyExchange l) s = .next s) ∧
    (x.st = .holdOnly → x.kill = true → Answers (.tadpoleHoldOff l) s (OnlyLane s · l { x with drop := min 0xFFFFFF (x.drop + 1) })) ∧
    (x.st = .holdOnly → x.kill = false → Answers (.tadpoleHoldOff l) s (OnlyLane s · l { x with
      qHold := x.qHold ++ [⟨3, 3, if l.val < 32 then 0 else 7, now + 1280000, 0⟩] })) ∧
    (x.st ≠ .holdOnly → exec (.tadpoleHoldOff l) s = .next s)

namespace Sys2Proof.Machine

/-- A training of lane `l` fails with a cause (R148): the lane is FAILED, the cause is held, and LANE_NO_TRAIN stands. -/
def TrainingFails (u : State) (l cause : Nat) : Prop := (u.lane l).st = .failed ∧ (u.lane l).fail = cause ∧ 0x040001 + 256 * l ∈ u.flt.live

/-- Only the P-die's end of link lane `d` changed, to `x`. -/
def OnlyDl (s u : State) (d : Nat) (x : DLane) : Prop :=
  u = { s with drv := { s.drv with dl := u.drv.dl } } ∧ ∀ j, u.dl j = if j = d then x else s.dl j

end Sys2Proof.Machine

/-- Training (R145, R148, R149, R161, R172): receiver lock, TRAIN_RSP, TRAIN_ACK, the TEST frames and CFG_RSP complete the step that waits for them and are ignored
elsewhere, the answer to a CFG_WR whatever its COUNT; a wrong TEST frame fails step 4; steps 1, 4 and 5 fail at their timeout, steps 2 and 3 repeat their request and fail at the third, step 3 of a link lane never. A frame with a wrong CRC
counts and has no other effect. The P-die answers TRAIN_REQ, TRAIN_SET, TEST, CFG_WR and CFG_RD, and counts a TEST frame with wrong bits as a code error. LANE_ENABLE and LANE_CMD start the training and its job, and 0 switches a lane off.
Readings that the model chose: log entry 12. -/
def Obligations.TrainingGoesStepByStep : Prop :=
  ∀ (s : State) (q : Req) (l : Fin 36) (m : Fin 32) (d : Fin 4) (g : BitVec 8) (nonce : BitVec 16) (id caps w : Word) (serial : BitVec 48)
    (payload : List Byte) (addr : BitVec 8) (data : List Word) (n : Fin 8) (cnt : BitVec 3) (f : Nat) (fcs : BitVec 16),
    let x := s.lane l
    let y := s.lane m
    let b := s.dl d
    let z := { b with rxRd := (s.lane (32 + d)).rd, asm := Asm.empty }
    let en := mkKey 5 0x010 m
    let busy := s.en 2 0x090 q.tag.toNat
    let gen := if l.val < 32 then min (s.en 5 0x011 l + 1) x.genSat else 3
    let gn : Word := g ++ nonce
    let rsp := frameCrc 0x81 (payloadOf [gn, id, serial.extractLsb' 24 24, serial.extractLsb' 0 24, caps])
    let ack := frameCrc 0x82 (payloadOf [gn])
    let tst := frameCrc 3 payload
    let wrong (i : Instr) : Prop := Answers i s (LaneTakes s · l { x with crcErr := min 0xFFFFFF (x.crcErr + 1) })
    let lost (i : Instr) : Prop := Answers i s (OnlyDl s · d { z with crcErr := z.crcErr + 1 })
    (x.step = 1 → (s.supply 4).reset = false → Answers (.receiverLock l) s (OnlyLane s · l { x with answered := true })) ∧
    (x.step ≠ 1 ∨ (s.supply 4).reset = true → exec (.receiverLock l) s = .next s) ∧
    (x.step = 2 → nonce = x.nonce → Answers (.trainRsp l g nonce id serial caps rsp) s (LaneTakes s · l
      { x with answered := true, genSat := g.toNat, satId := id, serial := serial, caps := caps })) ∧
    (x.step ≠ 2 ∨ nonce ≠ x.nonce → Answers (.trainRsp l g nonce id serial caps rsp) s (LaneTakes s · l x)) ∧
    (fcs ≠ rsp → wrong (.trainRsp l g nonce id serial caps fcs)) ∧
    (x.step = 3 → nonce = x.nonce → g.toNat = gen → Answers (.trainAck l g nonce ack) s (LaneTakes s · l { x with answered := true, gen := g.toNat })) ∧
    (x.step ≠ 3 ∨ nonce ≠ x.nonce → Answers (.trainAck l g nonce ack) s (LaneTakes s · l x)) ∧
    (fcs ≠ ack → wrong (.trainAck l g nonce fcs)) ∧
    (x.step = 4 → x.answered = false → testOk x.tail payload = true → Answers (.test l true payload tst) s (LaneTakes s · l
      { x with good := x.good + 1, answered := decide (64 ≤ x.good + 1), tail := testTail payload })) ∧
    (x.step = 4 → x.answered = false → testOk x.tail payload = false ∨ fcs ≠ tst → Answers (.test l true payload fcs) s (TrainingFails · l 4)) ∧
    (x.step ≠ 4 → lenOk payload.length = true → Answers (.test l true payload tst) s (LaneTakes s · l x)) ∧
    (x.step ≠ 4 → fcs ≠ tst → wrong (.test l true payload fcs)) ∧
    (l.val = 32 + d.val → lenOk payload.length = true → Answers (.test l false payload tst) s (OnlyDl s · d
      { b with up := b.up ++ [⟨3, wordsOf (testPayload b.tests)⟩], tests := b.tests + 1, tail := testTail payload
               codeErr := if testOk b.tail payload then b.codeErr else b.codeErr + 1 })) ∧
    (l.val = 32 + d.val → fcs ≠ tst → Answers (.test l false payload fcs) s (OnlyDl s · d { b with crcErr := b.crcErr + 1 })) ∧
    (x.step = 6 → s.cfgMatches l addr.toNat data = true → data.length ≤ 7 → data = [] ∨ data.length = cnt.toNat + 1 →
      fcs = frameCrc 0x90 (payloadOf (cfgRspHead addr (cnt.toNat + 1) false :: data)) → Answers (.cfgRsp l addr false data fcs cnt) s (LaneTakes s · l
        { x with good := x.good + data.length, answered := decide (s.cfgCount l ≤ x.good + data.length) })) ∧
    (x.step = 0 ∨ x.answered = true → exec (.trainStepTimeout l) s = .next s) ∧
    (x.answered = false →
      (x.step = 1 ∨ x.step = 4 ∨ x.step = 5 → Answers (.trainStepTimeout l) s (TrainingFails · l x.step)) ∧
      (x.step = 2 ∨ (x.step = 3 ∧ l.val < 32) → 3 ≤ x.tries → Answers (.trainStepTimeout l) s (TrainingFails · l 2)) ∧
      (x.step = 6 ∨ x.step = 7 → 3 ≤ x.tries → Answers (.trainStepTimeout l) s (TrainingFails · l x.step)) ∧
      (x.step = 2 → x.tries < 3 → Answers (.trainStepTimeout l) s (OnlyLane s · l { x with
        tries := x.tries + 1
        qFrame := x.qFrame ++ [⟨1, [BitVec.ofNat 24 (65536 * (if l.val < 32 then s.en 5 0x011 l + 1 else 3) + x.nonce.toNat)]⟩] })) ∧
      (x.step = 3 → x.tries < 3 ∨ 32 ≤ l.val → Answers (.trainStepTimeout l) s (OnlyLane s · l { x with
        tries := x.tries + 1, qFrame := x.qFrame ++ [⟨2, [BitVec.ofNat 24 (65536 * gen + x.nonce.toNat)]⟩] }))) ∧
    Answers (.trainReq d g nonce (frameCrc 1 (payloadOf [gn]))) s (fun u => (u.dl d).nonce = nonce ∧ (u.dl d).seq = none ∧ (u.dl d).lost = false ∧ (u.dl d).train = true ∧
      (∃ a ws, (u.dl d).up = a ++ [⟨0x81, BitVec.ofNat 24 (nonce.toNat + 3 * 65536) :: ws⟩] ∧ ws.length = 4) ∧
      (∀ i, i < 3 → (u.hb (3 * d.val + i)).st ≠ .run) ∧ u = { s with drv := u.drv, flt := u.flt, acq := u.acq, free := u.free }) ∧
    (fcs ≠ frameCrc 1 (payloadOf [gn]) → lost (.trainReq d g nonce fcs)) ∧
    (nonce = z.nonce → z.lost = false → Answers (.trainSet d g nonce (frameCrc 2 (payloadOf [gn]))) s (OnlyDl s · d { z with
        gen := g, up := z.up ++ [⟨0x82, [BitVec.ofNat 24 (nonce.toNat + 65536 * g.toNat)]⟩] })) ∧
    (nonce ≠ z.nonce → Answers (.trainSet d g nonce (frameCrc 2 (payloadOf [gn]))) s (OnlyDl s · d z)) ∧
    (fcs ≠ frameCrc 2 (payloadOf [gn]) → lost (.trainSet d g nonce fcs)) ∧
    ((∀ i, i < 3 → (s.hb (3 * d.val + i)).st = .safeHold) → z.lost = false → addr.toNat < 0x80 →
      Answers (.cfgWr d addr [w] (frameCrc 0x10 (payloadOf [BitVec.ofNat 24 addr.toNat, w]))) s (fun u =>
        u.cfgWord d addr.toNat = w.toNat ∧ (∃ a, (u.dl d).up = a ++ [⟨0x90, [BitVec.ofNat 24 addr.toNat]⟩]) ∧
        (∀ b a, b < 4 → a < 256 → (b ≠ d.val ∨ a ≠ addr.toNat) → u.cfgWord b a = s.cfgWord b a) ∧
        u = { s with drv := u.drv, flt := u.flt, acq := u.acq, evBus := u.evBus, ses := u.ses, ent := u.ent, nvm := u.nvm })) ∧
    (fcs ≠ frameCrc 0x10 (payloadOf [BitVec.ofNat 24 addr.toNat, w]) → lost (.cfgWr d addr [w] fcs)) ∧
    (z.lost = false → Answers (.cfgRd d addr n (frameCrc 0x11 (payloadOf [BitVec.ofNat 24 (addr.toNat + 256 * n.val)]))) s (OnlyDl s · d
      { z with up := z.up ++ [⟨0x90, BitVec.ofNat 24 (addr.toNat + 256 * n.val) ::
        (List.range (n.val + 1)).map (fun k => BitVec.ofNat 24 (s.cfgWord d ((addr.toNat + k) % 256)))⟩] })) ∧
    (Served s q →
      (Permits s q en 1 0 none → CanJournal s en 1 → y.st = .off → s.laneJob m = none → s.freeSlot = some f →
        Answers (.laneEnable q m 1) s (fun u => Journals s u q en 1 ∧ (u.lane m).st = .training ∧
          (∃ j, u.jobAt f = some j ∧ j.kind = .train ∧ j.arg = m.val) ∧ u.evBus = s.evBus ++ [224 + m.val / 4] ∧
          u = { s with ent := u.ent, nvm := u.nvm, ses := u.ses, lanes := u.lanes, evBus := u.evBus, acq := u.acq, flt := u.flt
                       ref := { s.ref with job := u.ref.job } })) ∧
      (s.laneLive m = none → Permits s q en 0 0 none → CanJournal s en 0 → s.laneJob m = none →
        Answers (.laneEnable q m 0) s (fun u => u.getKey en = 0 ∧ (u.lane m).st = .off ∧ (u.lane m).gen = 0 ∧ (u.lane m).vlock = 0)) ∧
      (Permits s q (mkKey 5 0x012 m) 0 0 none → s.en 5 0x010 m = 1 → s.laneJob m = none → busy = 0 →
        (y.st = .failed ∨ y.st = .off → Answers (.train q m) s (fun u => (u.lane m).st = .training ∧
          ∃ j, u.jobAt q.tag.toNat = some j ∧ j.kind = .train ∧ j.arg = m.val ∧ j.owner = some q))) ∧
      (Permits s q (mkKey 5 0x012 m) 1 0 none → s.en 5 0x010 m = 1 → s.laneJob m = none → busy = 0 →
        (y.st = .active ∨ y.st = .holdOnly → Answers (.retrainCmd q m) s (fun u => (u.lane m).st = .retraining ∧
          ⟨0x040003 + 256 * m.val, false⟩ ∈ u.flt.reports ∧ (u.lane m).resumeNeeded = true ∧
          ∃ j, u.jobAt q.tag.toNat = some j ∧ j.kind = .retrain ∧ j.arg = m.val ∧ j.owner = some q))) ∧
      (Permits s q (mkKey 5 0x012 m) 0 0 none → s.en 5 0x010 m = 0 → Answers (.train q m) s (fun u =>
        RefusesWith s u q (mkKey 5 0x012 m) 0 ∧ u = { s with ses := u.ses })))

namespace Sys2Proof.Machine

/-- Only half-bridge `h` changed, to `x`. -/
def OnlyHb (s u : State) (h : Nat) (x : Hb) : Prop := u = { s with drv := { s.drv with hb := u.drv.hb } } ∧ ∀ j, u.hb j = if j = h then x else s.hb j

/-- Link lane `d` takes a command with this SEQ (R140): its half-bridges are all in SAFE_HOLD, or it is the next one. -/
def InOrder (s : State) (d : Nat) (seq : BitVec 6) : Prop := s.laneLiveHb d = false ∨ (s.dl d).seq = none ∨ (s.dl d).seq = some (seq - 1)

/-- The half-bridges of bank `d` are outside RUN. -/
def BankOff (u : State) (d : Nat) : Prop := ∀ i, i < 3 → (u.hb (3 * d + i)).st ≠ .run

end Sys2Proof.Machine

/-- Edge commands on the P-die (R139 to R143, R150, R158, R162, R168, R170, R171), for half-bridge h = 3d + i, profile p and a command in sequence: an EDGE_ON with enough lead joins
the queue in order of T, a late one is missed and counted; EDGE_OFF is queued, or acts at once; HOLD_OFF turns off and holds; PROFILE_SET stores; RESUME leaves SAFE_HOLD; MARK
and a gap in SEQ put the bank into SAFE_HOLD; one with T before the marker, a MARK too, is discarded; VOLLEY is answered; TIME_ADJ moves the offset; a NOP does nothing and a reserved OP counts; a queued edge executes at its T.
Readings that the model chose: log entry 30. -/
def Obligations.EdgeCommandsOnThePDie : Prop :=
  ∀ (s : State) (d : Fin 4) (i : Fin 3) (p : BitVec 2) (high : Bool) (seq : BitVec 6) (t : EdgeTime) (e : QEdge) (r : List QEdge) (k : Fin 12) (w : BitVec 48),
    let h := 3 * d.val + i.val
    let x := s.hb h
    let y := { s.dl d with rxRd := (s.lane (32 + d)).rd, asm := Asm.empty }
    let prof : BitVec 4 := BitVec.ofNat 4 (4 * i.val + p.toNat)
    let side : BitVec 2 := if high then 1 else 2
    let now := (s.t48.toNat * 32 : Int) + y.theta
    let lead := (t - BitVec.ofInt 32 now).toInt
    let z : DLane := { y with seq := some seq, lastSeq := seq }
    let linked (u : State) (w : DLane) : Prop := ∀ j, u.dl j = if j = d.val then w else s.dl j
    let op := (w.extractLsb' 44 4).toNat
    let sq := w.extractLsb' 32 6
    (InOrder s d seq → s.hbEn h = true → lead ≤ 67108864 → y.markT ≤ now + lead →
      (x.st = .run → x.stpWait = false → (x.held high).isNone → x.resumeT ≤ now + lead → 15360 ≤ lead → cmdsOf (⟨high, true, p, now + lead, seq⟩ :: x.queue) ≤ 32 →
        Answers (.edgeOn d side prof seq t) s (fun u => linked u z ∧
          (∀ j, j ≠ h → u.hb j = s.hb j) ∧ u.hb h = { x with queue := (u.hb h).queue } ∧ (u.hb h).queue.Perm (⟨high, true, p, now + lead, seq⟩ :: x.queue) ∧
          (x.queue.Pairwise (fun a b => a.t ≤ b.t) → (u.hb h).queue.Pairwise (fun a b => a.t ≤ b.t)) ∧ u = { s with drv := u.drv })) ∧
      (x.st = .run → x.stpWait = false → (x.held high).isNone → x.resumeT ≤ now + lead → lead < 15360 →
        Answers (.edgeOn d side prof seq t) s (fun u => u.drv.hb = s.drv.hb ∧ (u.dl d).late = y.late + 1 ∧ u = { s with drv := u.drv, free := u.free })) ∧
      (x.st = .run → 15360 ≤ lead → cmdsOf (⟨high, false, p, now + lead, seq⟩ :: x.queue) ≤ 32 → Answers (.edgeOff d side prof seq t) s (fun u => linked u z ∧
        u.hb h = { x with queue := (u.hb h).queue } ∧ (u.hb h).queue.Perm (⟨high, false, p, now + lead, seq⟩ :: x.queue) ∧ u = { s with drv := u.drv })) ∧
      (x.st = .run → lead < 15360 → (x.held high).isNone → Answers (.edgeOff d side prof seq t) s (fun u =>
        (if high then (u.hb h).hOn else (u.hb h).lOn) = false ∧ (if high then (u.hb h).lOn = x.lOn else (u.hb h).hOn = x.hOn) ∧ (u.hb h).queue = x.queue)) ∧
      (x.st = .run → x.holdH = none → x.holdL = none → 0 < lead →
        Answers (.holdOff d 3 (1#4 <<< i.val) seq t) s (fun u => (u.hb h).hOn = false ∧ (u.hb h).lOn = false ∧ (u.hb h).st = .run ∧
          (u.hb h).holdH = some (now + lead) ∧ (u.hb h).holdL = some (now + lead) ∧ (u.hb h).stpWait = false ∧
          (∀ a ∈ (u.hb h).queue, a ∈ x.queue ∧ (a.on = true → now + lead ≤ a.t)) ∧ ∀ j, j ≠ h → u.hb j = s.hb j)) ∧
      (x.st = .safeHold → x.bstUv = false → s.dieHeld d = false → Answers (.resume d 0 prof seq t) s (fun u => (u.hb h).st = .run ∧
        (u.hb h).resumeT = now + lead ∧ (u.hb h).hOn = x.hOn ∧ (u.hb h).lOn = x.lOn ∧ ∀ j, j ≠ h → u.hb j = s.hb j)) ∧
      (x.st ≠ .run → Answers (.edgeOn d side prof seq t) s (OnlyDl s · d z) ∧ Answers (.edgeOff d side prof seq t) s (OnlyDl s · d z))) ∧
    (InOrder s d seq → s.hbEn h = true → x.acceptsCfg = true → Answers (.profileSet d side prof seq t) s (fun u => (u.hb h).st ≠ .run ∧
      ∀ j, Tab.get (fun _ => 0xF7F7) u.drv.prof j = if j = 64 * d.val + 16 * (if high then 0 else 1) + prof.toNat then t.setWidth 24
        else Tab.get (fun _ => 0xF7F7) s.drv.prof j)) ∧
    (InOrder s d seq → y.markT ≤ now + lead →
      Answers (.mark d 0 prof seq t) s (fun u => (u.dl d).markT = now + lead ∧ (u.dl d).train = false ∧ BankOff u d ∧ ∀ j, j / 3 ≠ d.val → u.hb j = s.hb j)) ∧
    (InOrder s d seq → now + lead < y.markT → lead ≤ 67108864 → ∀ c ∈ [Instr.edgeOn d side prof seq t, .edgeOff d side prof seq t, .holdOff d 3 1 seq t, .resume d 0 prof seq t,
      .mark d 0 prof seq t], Answers c s (OnlyDl s · d z)) ∧
    (InOrder s d seq → y.lost = false → Answers (.volley d 0 prof seq t) s (fun u => u = { s with drv := { s.drv with dl := u.drv.dl }, free := u.free } ∧
      (u.dl d).r1 = BitVec.ofInt 32 now ∧ ∃ ws, (u.dl d).up = y.up ++ [⟨0xA3, seq.setWidth 24 :: ws⟩] ∧ ws.length = 3)) ∧
    (InOrder s d seq → s.laneLiveHb d = false → Answers (.timeAdj d 0 prof seq t) s (OnlyDl s · d { z with theta := y.theta + t.toInt })) ∧
    (InOrder s d seq → s.laneLiveHb d = true →
      (t.toInt.natAbs ≤ 4 → y.adj = 0 → s.edgeSoon d = false → Answers (.timeAdj d 0 prof seq t) s (OnlyDl s · d { z with theta := y.theta + t.toInt })) ∧
      (4 < t.toInt.natAbs → Answers (.timeAdj d 0 prof seq t) s (fun u => BankOff u d ∧ (u.dl d).theta = y.theta))) ∧
    (s.laneLiveHb d = true → (∃ b, y.seq = some b ∧ seq ≠ b + 1) →
      ∀ c ∈ [Instr.edgeOn d side prof seq t, .edgeOff d side prof seq t, .holdOff d side prof seq t, .profileSet d side prof seq t, .resume d 0 prof seq t,
        .mark d 0 prof seq t, .volley d 0 prof seq t, .timeAdj d 0 prof seq t], Answers c s (fun u => BankOff u d ∧ (u.dl d).gap = y.gap + 1 ∧ (u.dl d).seq = y.seq)) ∧
    (op < 9 → exec (.nopCommand d w) s = .next s) ∧
    (9 ≤ op → InOrder s d sq → Answers (.nopCommand d w) s (OnlyDl s · d { y with seq := some sq, lastSeq := sq, badOp := y.badOp + 1 })) ∧
    ((s.hb k).queue = [] → exec (.edgeExecute k) s = .next s) ∧
    ((s.hb k).queue = e :: r → (s.hb k).stpWait = false → (s.hb k).holdH = none → (s.hb k).holdL = none → (s.hb k).hOn = false → (s.hb k).lOn = false →
      Answers (.edgeExecute k) s (fun u => (u.hb k).queue = r ∧ (u.hb k).hOn = (e.high && e.on) ∧ (u.hb k).lOn = (!e.high && e.on) ∧ (u.hb k).st = (s.hb k).st ∧
        (e.on = true → ((u.hb k).driveOf e.high).word = s.dieProf k e.high e.prof ∧ ((u.hb k).driveOf (!e.high)) = (s.hb k).driveOf (!e.high)) ∧ ∀ j, j ≠ k.val → u.hb j = s.hb j)) ∧
    Answers (.holdEnd k high) s (OnlyHb s · k { s.hb k with holdH := if high then none else (s.hb k).holdH, holdL := if high then (s.hb k).holdL else none }) ∧
    ((s.hb k).stpWait = false → exec (.holdTimeout k) s = .next s) ∧
    ((s.hb k).stpWait = true → Answers (.holdTimeout k) s (fun u => BankOff u (k.val / 3)))

/-- The Volley and retrains (R150, R151, R156, R157): a report of the pending exchange gives d = half of ((T4 - T1) - (S2 - R1)) and θ = (R1 - T1) - d, and PATH_DELAY is the mean of the last eight d; LOCKING counts small offsets up to eight for
LOCKED and corrects a large one; LOCKED counts offsets beyond 8 up to three for a loss; three misses are a loss too. A trigger retrains an ACTIVE lane that retrains by itself, the
fourth within 1 s fails it, and a lane that is not ACTIVE does nothing. A code error in a payload slot counts, at the device and at the P-die, and a frame that holds it is discarded. -/
def Obligations.VolleysAndRetrains : Prop :=
  ∀ (s : State) (l : Fin 36) (r1 s2 t1 t4 : EdgeTime) (c : Instr) (bits : BitVec 10) (inFrame : Bool),
    let x := s.lane l
    let n := (t4 - t1).toInt - (s2 - r1).toInt
    let d : Int := Int.tdiv n 2
    let th : Int := (r1 - t1).toInt - d
    let fcs := frameCrc 0xA3 (payloadOf [x.vseq.setWidth 24, r1.setWidth 24,
      BitVec.ofNat 24 (65536 * (r1.toNat / 2 ^ 24) + 256 * (s2.toNat / 2 ^ 24)), s2.setWidth 24])
    let rep := Instr.volleyRep l x.vseq r1 s2 t4 fcs
    let ds := (d :: x.delays).take 8
    let mean : Int := if ds.length = 8 then Int.tdiv (ds.foldl (· + ·) 0) 8 else x.pathD
    let recent := x.autoAt.filter (fun a => s.since a < 400000000)
    let errs := s.t48.toNat :: x.codeAt.filter (fun a => s.since a < 400000)
    let rx := s.rx l
    let bad := rx.kind (decide (32 ≤ l.val)) x.gen = .payload ∧ rx.asm.frame = none ∧ readGroup rx.rd bits = none
    let lost (u : State) : Prop := (u.lane l).vlock = 0 ∧ (l.val < 32 → 0x040004 + 256 * l.val ∈ u.flt.live)
    (x.t1 = none → Answers rep s (LaneTakes s · l x)) ∧
    (x.t1 = some t1 →
      (x.vlock = 1 → th.natAbs ≤ 2 → x.good < 7 → x.exchanges < 63 → Answers rep s (fun u => LaneTakes s u l { x with
        t1 := none, miss := 0, delays := ds, pathD := mean, exchanges := x.exchanges + 1, good := x.good + 1
        thetas := (th :: x.thetas).take 8, alone := x.alone - 1 })) ∧
      (x.vlock = 1 → th.natAbs ≤ 2 → x.good = 7 → Answers rep s (fun u => (u.lane l).vlock = 2 ∧ (u.lane l).t1 = none ∧
        ((u.lane l).answered = true ↔ x.answered = true ∨ x.step = 5) ∧ LaneTakes s u l (u.lane l))) ∧
      (x.vlock = 1 → 2 < th.natAbs → x.exchanges < 63 → Answers rep s (fun u => LaneTakes s u l { x with
        t1 := none, miss := 0, delays := ds, pathD := mean, exchanges := x.exchanges + 1, good := 0, thetas := (th :: x.thetas).take 8, alone := 8
        qAdj := x.qAdj ++ [⟨8, 0, 0, BitVec.ofInt 32 (-th), 0⟩] })) ∧
      (x.vlock = 1 → x.exchanges = 63 → (2 < th.natAbs ∨ x.good < 7) → Answers rep s (TrainingFails · l 5)) ∧
      (x.vlock = 2 → th.natAbs ≤ 8 → Answers rep s (fun u => (u.lane l).vlock = 2 ∧ (u.lane l).bad = 0 ∧ LaneTakes s u l (u.lane l))) ∧
      (x.vlock = 2 → 8 < th.natAbs → x.bad < 2 → Answers rep s (fun u => (u.lane l).vlock = 2 ∧ (u.lane l).bad = x.bad + 1 ∧ LaneTakes s u l (u.lane l))) ∧
      (x.vlock = 2 → 8 < th.natAbs → 2 ≤ x.bad → Answers rep s lost) ∧
      (x.vlock = 2 → x.miss < 2 → Answers (.volleyMiss l) s (OnlyLane s · l { x with t1 := none, miss := x.miss + 1 })) ∧
      (x.vlock = 2 → 2 ≤ x.miss → Answers (.volleyMiss l) s lost)) ∧
    (x.t1 = none → exec (.volleyMiss l) s = .next s) ∧
    (x.st ≠ .active → exec (.retrain l) s = .next s ∧ exec (.laneLost l) s = .next s ∧ Answers (.laneMisaligned l) s (OnlyLane s · l x)) ∧
    (x.st = .active → l.val < 32 → s.en 5 0x01C l = 1 → c = .retrain l ∨ c = .laneLost l ∨ c = .laneMisaligned l →
      (recent.length < 3 → Answers c s (fun u => (u.lane l).st = .retraining ∧ (u.lane l).resumeNeeded = true ∧ (u.lane l).qEdge = [] ∧
        (u.lane l).retrains = min 65535 (x.retrains + 1) ∧ (u.lane l).autoAt = s.t48.toNat :: recent ∧ ⟨0x040003 + 256 * l.val, false⟩ ∈ u.flt.reports ∧
        (c = .laneLost l → 0x040002 + 256 * l.val ∈ u.flt.live) ∧ ∀ j, j ≠ l.val → u.lane j = s.lane j)) ∧
      (3 ≤ recent.length → Answers c s (fun u => (u.lane l).st = .failed ∧ 0x040005 + 256 * l.val ∈ u.flt.live ∧ ∀ j, j ≠ l.val → u.lane j = s.lane j))) ∧
    (bad → x.st = .active → errs.length < 16 → Answers (.laneCodeErr l false bits) s (fun u =>
      OnlyLane { s with flt := { s.flt with reports := u.flt.reports, lastAt := u.flt.lastAt } } u l
        { x with codeErr := min 0xFFFFFF (x.codeErr + 1), codeAt := errs })) ∧
    (bad → x.st ≠ .active → x.step ≠ 4 → Answers (.laneCodeErr l false bits) s (OnlyLane s · l { x with codeErr := min 0xFFFFFF (x.codeErr + 1) })) ∧
    (bad → x.st ≠ .active → x.step ≠ 4 → ∀ (k : Fin 4) (f : Frame) (r : List Frame), l.val = 32 + k.val → (s.dl k).up = f :: r → f.ty ≠ 0xA2 →
      Answers (.laneCodeErr l true bits) s (fun u => (u.lane l).codeErr = min 0xFFFFFF (x.codeErr + 1) ∧ (u.dl k).up = r)) ∧
    (bad → x.st ≠ .active → x.step = 4 → Answers (.laneCodeErr l false bits) s (TrainingFails · l 4)) ∧
    (∀ k : Fin 4, l.val = 32 + k.val → (s.dl k).asm.frame = none → readGroup (s.dl k).rxRd bits = none →
      Answers (.laneCodeErr l inFrame bits true) s (fun u => (u.dl k).codeErr = (s.dl k).codeErr + 1 ∧ u = { s with drv := { s.drv with dl := u.drv.dl } } ∧
        ∀ i, i ≠ k.val → u.dl i = s.dl i)) ∧
    (l.val < 32 → exec (.laneCodeErr l inFrame bits true) s = .next s)

/-- Kills, alarms and telemetry (R145, R153 to R155, R163, R164, R168): a kill empties the queues, sends K28.1 (none on a pair held static), sets RESUME_NEEDED and counts, and ends with its request, after a K28.5. SAT_ALARM asserts the lane's source; the ALARM frame
brings the cause and raises its fault, the source being released once the collector has it, and without a frame within its time the cause is UNKNOWN. A half-bridge leaves ALARM once its frame is sent, whether or not it is taken. A frame with a wrong CRC only counts. STATUS and EDGE_TELE are held for the ports.
Readings that the model chose: log entry 29. -/
def Obligations.AlarmsAndTelemetry : Prop :=
  ∀ (s : State) (l : Fin 36) (m : Fin 32) (d : Fin 4) (w0 w1 w2 w3 : Word),
    let x := s.lane l
    let y := s.lane m
    let killed (n : Nat) (z w : Lane) : Prop :=
      let q := { z with kill := true, qHold := [], qEdge := [], qVolley := false, t1 := none, kills := min 65535 (z.kills + 1) }
      if s.flt.static.getLsbD n then w = { q with prog := none } else q.Puts w (List.replicate 8 (LChar.special .kill))
    let c := w0.toNat % 256
    let code := (if c = 1 then 0x040010 else if c = 3 then 0x040012 else 0x040013) + 256 * m.val
    let fcsA := frameCrc 0xA2 (payloadOf [w0, w1])
    let fcsS := frameCrc 0xA0 (payloadOf [w0, w1, w2, w3])
    let fcsT := frameCrc 0xA1 (payloadOf [w0, w1, w2])
    let i := w0.toNat / 2 ^ 22
    (∀ b, y.kill = false → y.st ≠ .off →
      ((∀ p, s.inSend m = some p → p.level < 5) ∧ b = y) ∨ (∃ p, s.inSend m = some p ∧ 5 ≤ p.level ∧ b = y.unsend p) →
      Answers (.laneKill (m.castLE (by decide))) s (LaneIs s · m (killed m { b with resumeNeeded := true }))) ∧
    (x.kill = false → x.st = .off → Answers (.laneKill l) s (OnlyLane s · l { x with kill := true })) ∧
    (x.kill = true → exec (.laneKill l) s = .next s) ∧
    ((s.lane (32 + d.val)).kill = false → (s.lane (32 + d.val)).st ≠ .off → s.inSend (32 + d.val) = none → Answers (.laneKill ⟨32 + d.val, by omega⟩) s (fun u =>
      killed (32 + d.val) (s.lane (32 + d.val)) (u.lane (32 + d.val)) ∧ (∀ i, i < 3 → (u.view (3 * d.val + i)).resumeNeeded = true) ∧
      u = { s with lanes := u.lanes, drv := { s.drv with view := u.drv.view } })) ∧
    (s.killReq l = false → x.kill = true → Answers (.killEnd l) s (LaneIs s · l ({ x with kill := false }.Puts · [.special .comma]))) ∧
    (s.killReq l = true ∨ x.kill = false → exec (.killEnd l) s = .next s) ∧
    (x.st = .off → exec (.satAlarm l) s = .next s) ∧
    (y.st ≠ .off → Answers (.satAlarm (m.castLE (by decide))) s (fun u => u.flt.src = s.flt.src ||| (1#128 <<< (80 + m.val)) ∧
      OnlyLane { s with flt := { s.flt with src := u.flt.src } } u m { y with alarm := true, alarms := min 65535 (y.alarms + 1) })) ∧
    (c = 1 ∨ c = 3 ∨ c = 4 → (s.en 5 0x030 m).testBit 2 = false →
      (code ∉ s.flt.live → Answers (.alarm (m.castLE (by decide)) w0 w1 fcsA) s (fun u =>
        OnlyLane { s with flt := u.flt } u m { y with cause := w0.setWidth 8, alarmCode := some code, resumeNeeded := true } ∧
        u.flt = { s.flt with live := s.flt.live ++ [code], reports := s.flt.reports ++ [⟨code, false⟩] })) ∧
      (code ∈ s.flt.live → (∀ r ∈ s.flt.reports, r.code ≠ code) → Answers (.alarm (m.castLE (by decide)) w0 w1 fcsA) s (fun u =>
        OnlyLane { s with flt := { s.flt with src := u.flt.src } } u m { y with cause := w0.setWidth 8, alarm := false, alarmCode := none, resumeNeeded := true } ∧
        u.flt.src.getLsbD (80 + m.val) = false))) ∧
    (∀ fcs, fcs ≠ fcsA → Answers (.alarm (m.castLE (by decide)) w0 w1 fcs) s (OnlyLane s · m { y with crcErr := min 0xFFFFFF (y.crcErr + 1) })) ∧
    (∀ fcs, w0.toNat / 256 % 4 ≠ 3 → (s.dl d).up.find? (fun f => f.ty == 0xA2) = some ⟨0xA2, [w0, w1]⟩ →
      Answers (.alarm ⟨32 + d.val, by omega⟩ w0 w1 fcs) s (fun u => let h := 3 * d.val + w0.toNat / 256 % 4
        (u.hb h).st = (if (s.hb h).st = .alarm then .safeHold else (s.hb h).st) ∧ (u.lane (32 + d.val)).crcErr =
          if fcs = fcsA then (s.lane (32 + d.val)).crcErr else min 0xFFFFFF ((s.lane (32 + d.val)).crcErr + 1))) ∧
    (x.alarm = true → x.alarmCode = none → Answers (.alarmTimeout l) s (fun u =>
      OnlyLane { s with flt := u.flt, free := s.free + 1 } u l { x with cause := Config.free 8 s.free, alarmCode := some (0x040019 + 256 * l.val) } ∧
      u.flt = { s.flt with reports := s.flt.reports ++ [⟨0x040019 + 256 * l.val, false⟩] })) ∧
    (x.alarm = false ∨ x.alarmCode ≠ none → exec (.alarmTimeout l) s = .next s) ∧
    (y.step ≠ 7 → (s.en 5 0x030 m).testBit 0 = false → s.flt.live = [] → y.sat = w0.toNat % 4 → Answers (.statusFrame (m.castLE (by decide)) w0 w1 w2 w3 fcsS) s (fun u =>
      OnlyLane { s with pwm := u.pwm, flt := { s.flt with unconf := u.flt.unconf } } u m { y with
        offConf := w0.getLsbD 2, bstWarn := w0.getLsbD 3 && decide (2 ≤ y.gen), vsecUv := w0.getLsbD 4, satLate := BitVec.ofNat 8 (w0.toNat / 256)
        satTemp := w1.setWidth 16, profCrc := w2.setWidth 16, satStp := BitVec.ofNat 8 (w2.toNat / 65536), satGap := BitVec.ofNat 8 (w3.toNat / 256), statusAt := some s.t48.toNat
        resumeNeeded := y.resumeNeeded || decide (w0.toNat % 4 = 0) } ∧
      (∀ j, u.gen j = if j = m.val then { s.gen j with bstWarn := w0.getLsbD 3 && decide (2 ≤ y.gen) } else s.gen j) ∧
      ∀ j, j ∈ u.flt.unconf ↔ j ∈ s.flt.unconf ∧ ¬ (w0.getLsbD 2 = true ∧ j = m.val))) ∧
    ((s.en 5 0x030 m).testBit 1 = false → Answers (.edgeTele (m.castLE (by decide)) w0 w1 w2 fcsT) s (OnlyLane s · m
      { y with etdly := w1.setWidth 16, ettrn := w2.setWidth 16 })) ∧
    (w0.toNat / 2 ^ 14 % 4 ≠ 3 → Answers (.edgeTele ⟨32 + d.val, by omega⟩ w0 w1 w2 fcsT) s (fun u =>
      u = { s with lanes := u.lanes, drv := { s.drv with view := u.drv.view, dl := u.drv.dl } } ∧ (∀ j, u.lane j = s.lane j) ∧ ∀ j, u.view j =
        if j = 3 * d.val + w0.toNat / 2 ^ 14 % 4 then { s.view j with etd := w1.setWidth 16, ett := w2.setWidth 16 } else s.view j)) ∧
    (i ≠ 3 → Answers (.statusFrame ⟨32 + d.val, by omega⟩ w0 w1 w2 w3 fcsS) s (fun u => ∀ j, u.view j =
      if j = 3 * d.val + i then { s.view j with st := w0.setWidth 2, offConf := w0.getLsbD 2, bstWarn := w0.getLsbD 3
                                                resumeNeeded := (s.view j).resumeNeeded || decide (w0.toNat % 4 = 0) } else s.view j)) ∧
    Answers (.killReceived d) s (fun u => BankOff u d ∧ (∀ j, j / 3 ≠ d.val → u.hb j = s.hb j) ∧ u = { s with drv := u.drv, flt := u.flt })

/-- Half-bridges turn off and their monitors (R12, R143, R167, R170, R171, R174 to R177, R179, R181, R305): loss of activity, the bank-off wire, KILL and a half-bridge's own protection turn gates off; gate-drive and bootstrap
undervoltage, VDS and gate faults, in the order of R179 where they share a tick, count and raise what they name; the hold switches close; GVDD goes READY and shows its load; an off-state test judges its samples.
Readings that the model chose: log entry 30. -/
def Obligations.HalfBridgesTurnOff : Prop :=
  ∀ (s : State) (d : Fin 4) (h : Fin 12) (high on : Bool) (load : BitVec 16) (vbus vsh vp : BitVec 24) (slot : Nat) (j : Job),
    let x := s.hb h
    let vdsEn := (s.cfgWord (h.val / 3) (16 * (h.val % 3) + 1)).testBit (if high then 0 else 1)
    let gate := if high then x.hOn else x.lOn
    let now := some s.t48.toNat
    let watched := gate = true ∨ ((if high then x.wasH else x.wasL) = true ∧ x.offAt = now)
    let vb := (j.data.headD 0).toNat
    let own : HbSt := if x.st = .test then .test else if s.hbEn h then .alarm else .safeHold
    let off (u : State) : Prop := (u.hb h).hOn = false ∧ (u.hb h).lOn = false ∧ (u.hb h).queue = []
    let others (u : State) : Prop := ∀ k, k ≠ h.val → u.hb k = s.hb k
    Answers (.linkActivityLoss d) s (fun u => BankOff u d ∧ (u.dl d).lost = true ∧ (u.dl d).train = true ∧ (u.dl d).up = (s.dl d).up.filter (fun f => f.ty == 0xA2) ∧ (∀ k, k / 3 ≠ d.val → u.hb k = s.hb k) ∧
      u = { s with drv := u.drv, flt := u.flt }) ∧
    Answers (.bankOff d on) s (fun u => u.drv.bankWire.getLsbD d = on ∧ (on = true → BankOff u d) ∧
      (u.evBus = if s.drv.bankWire.getLsbD d = on then s.evBus else s.evBus ++ [316 + d.val]) ∧ u = { s with drv := u.drv, flt := u.flt, evBus := u.evBus }) ∧
    Answers .killInput s (fun u => u.drv.killPin = true ∧ u.flt.src.getLsbD 118 = true ∧ (∀ b, b < 4 → BankOff u b ∧ u.drv.bankWire.getLsbD b = true) ∧
      (∀ l, l < 32 → (u.lane l).kill = true) ∧ 0x0B0001 ∈ u.flt.live) ∧
    Answers .killRelease s (fun u => u.drv.killPin = false ∧ u.flt.src.getLsbD 118 = false ∧ 0x0B0001 ∉ u.flt.live ∧ u.lanes = s.lanes) ∧
    Answers (.holdSwitchClamp h high) s (OnlyHb s · h { x with clampH := high || x.clampH, clampL := !high || x.clampL }) ∧
    Answers (.hbStp h) s (fun u => (u.hb h).hOn = false ∧ (u.hb h).lOn = false ∧ (u.hb h).stpWait = decide (x.st = .run) ∧ (u.hb h).st = x.st ∧ others u ∧
      (x.alarmAt ≠ now → (u.hb h).cause = 2) ∧ Counts s u [mkKey 6 0x022 h] ∧ u = { s with drv := u.drv, flt := u.flt, ent := u.ent }) ∧
    Answers (.hbGateFault h high) s (fun u => off u ∧ (u.hb h).gateFault = true ∧ (u.hb h).st = own ∧
      (x.alarmAt ≠ now → (u.hb h).cause = 0x10) ∧ others u ∧ u = { s with drv := u.drv, flt := u.flt }) ∧
    (watched → vdsEn = true → Answers (.hbVds h high) s (fun u => off u ∧ (u.hb h).st = own ∧ (u.hb h).cause = 1 ∧
      (u.hb h).driveH.sink = s.softOff h ∧ (u.hb h).driveL.sink = s.softOff h ∧ (u.hb h).driveH.forced = true ∧ (u.hb h).driveL.forced = true ∧ (u.hb h).vds = x.vds + 1 ∧ others u ∧ Counts s u [mkKey 6 0x024 h])) ∧
    (¬ watched ∨ vdsEn = false → exec (.hbVds h high) s = .next s) ∧
    (x.bstWarn = false → Answers (.hbBstWarn h true) s (fun u => (u.hb h).bstWarn = true ∧ (u.hb h).st = x.st ∧ others u ∧ Counts s u [mkKey 6 0x025 h] ∧
      0x050003 + 256 * h.val ∈ u.flt.live)) ∧
    Answers (.hbBstWarn h false) s (fun u => (u.hb h).bstWarn = false ∧ 0x050003 + 256 * h.val ∉ u.flt.live ∧ others u) ∧
    (x.bstUv = true → exec (.hbBstUv h) s = .next s) ∧
    (x.bstUv = false → Answers (.hbBstUv h) s (fun u => (u.hb h).bstUv = true ∧ (u.hb h).bstUvCnt = x.bstUvCnt + 1 ∧ others u ∧ Counts s u [mkKey 6 0x023 h] ∧
      (x.st = .run → x.resumeAt ≠ now → off u ∧ (u.hb h).st = own ∧ (x.alarmAt ≠ now → (u.hb h).cause = 3)) ∧
      (x.st = .run → x.resumeAt = now → off u ∧ (u.hb h).st = .safeHold) ∧ (x.st = .safeHold ∨ x.st = .test → (u.hb h).st = x.st))) ∧
    Answers (.bstUvRelease h) s (fun u => u.hb h = { x with bstUv := false } ∧ others u ∧ 0x050002 + 256 * h.val ∉ u.flt.live) ∧
    Answers .gvddRampDone s (fun u => u = { s with drv := { s.drv with gvdd := if s.drv.gvdd = 1 then 2 else s.drv.gvdd }, evBus := u.evBus } ∧
      (s.drv.gvdd = 1 → (s.supply 5).warn = false → (s.supply 5).reset = false → u.evBus = s.evBus ++ [316, 317, 318, 319])) ∧
    Answers (.gvddOverload load) s (fun u => u.en 6 0x002 0 = load.toNat ∧ (200 < load.toNat ↔ 0x05FF07 ∈ u.flt.live) ∧
      u.drv = { s.drv with gvdd := if 200 < load.toNat ∧ s.drv.gvdd = 2 then 4 else if load.toNat ≤ 200 ∧ s.drv.gvdd = 4 then 2 else s.drv.gvdd }) ∧
    (s.ostRun h = none → exec (.ostSettleEnd h vbus vsh vp) s = .next s) ∧
    (s.ostRun h = some (slot, j) → slot < 64 → j.pc = 1 →
      (9 * vb ≤ 10 * vsh.toNat → Answers (.ostSettleEnd h vbus vsh vp) s (fun u => u.en 6 0x032 h = vsh.toNat ∧ u.en 6 0x031 h = 2 ∧ (u.hb h).cur = 0 ∧
        (u.hb h).st ≠ .test ∧ ⟨0x050008 + 256 * h.val, false⟩ ∈ u.flt.reports)) ∧
      (10 * vsh.toNat < 9 * vb → s.en 6 0x037 h ≠ 2 → Answers (.ostSettleEnd h vbus vsh vp) s (fun u => u.en 6 0x032 h = vsh.toNat ∧ u.en 6 0x031 h = 1 ∧
        (u.hb h).cur = 0 ∧ (u.hb h).st ≠ .test ∧ u.en 2 0x090 slot = 4)))

/-! ### Acquisition and position feedback (07_acquisition.md, 08_position_feedback.md) -/

namespace Sys2Proof.Machine

/-- Trigger `n` at time `t` was sent to every converter of `as` with a sequence on it (R187, R192): the record of that sequence is awaited there, and
nowhere else. -/
def Awaits (s u : State) (as : List Nat) (n : Nat) (t : EdgeTime) : Prop :=
  (∀ a, (∀ ss, a ∈ as → s.seqOf a n = some ss → u.adc a = { s.adc a with await := (s.adc a).await ++ [(n, t, ss)] }) ∧
    (a ∉ as ∨ s.seqOf a n = none → u.adc a = s.adc a)) ∧
  u = { s with lanes := u.lanes, acq := { s.acq with adc := u.acq.adc } }

/-- An ADC_RES frame of `n` words waits on its way up from bank `d`, after the frame in progress and before every frame that is none (R192). -/
def ResGoesUp (s u : State) (d n : Nat) : Prop :=
  ∃ ws i, ws.length = n ∧ (u.dl d).up = (s.dl d).up.take i ++ [⟨0xB0, ws⟩] ++ (s.dl d).up.drop i ∧ 1 ≤ i ∧ ∀ g ∈ ((s.dl d).up.take i).drop 1, g.ty = 0xB0

end Sys2Proof.Machine

/-- Triggers become records (R184, R187 to R192, R205): a free timer's or software trigger is sent to the converters that have a sequence on it; a trigger that arrives is scheduled, queued
when untimed or late, or dropped beyond the range; the schedule feeds the queue; a free converter starts the lowest-numbered queued trigger; slots collect codes, and the
last one sends them up, before other frames; the record with LAST counts and raises EV(128 + sequence); a frame with a wrong CRC is discarded; a record that does not come
is given up and delivered DROPPED.
Readings that the model chose: log entry 31. -/
def Obligations.TriggersBecomeRecords : Prop :=
  ∀ (s : State) (e : Fin 16) (t k : Nat) (ft : Fin 16) (a : Fin 4) (swn : BitVec 4) (n : BitVec 7) (at_ : EdgeTime) (x : Trig) (r : List Trig) (q : SeqRun) (code : BitVec 16)
    (w0 w1 w2 w : Word) (ss : Nat) (tp : EdgeTime) (fcs : BitVec 16),
    let c := s.adc a
    let lead := (at_ - BitVec.ofInt 32 ((s.t48.toNat * 32 : Int) + (s.dl a).theta)).toInt
    let others (u : State) : Prop := ∀ j, j ≠ a.val → u.adc j = s.adc j
    let go (m : Bool) : BitVec 16 := frameCrc 0x20 (payloadOf (trigWords n.toNat m at_))
    let trig := w0.toNat % 128
    let res := frameCrc 0xB0 (payloadOf [w0, w1, w2, w])
    let drops (u : State) : Prop := Counts s u [mkKey 7 0x030 a] ∧ (u.adc a).drop = min 255 (c.drop + 1) ∧ others u
    Answers (.ftTriggerSend ft) s (fun u => Awaits s u [0, 1, 2, 3] (96 + ft.val) (BitVec.ofNat 32 ((s.t48.toNat + min 4000 (400 * s.en 2 0x060 ft)) * 32))) ∧
    (Executes s e t k → s.allows t e (0x830012 + 256 * a.val) true = true → (s.task t).mig = none → swn ≠ 15 →
      Answers (.adswt e a swn) s (fun u => Awaits s u [a.val] (112 + swn.toNat) (BitVec.ofNat 32 (s.t48.toNat * 32)))) ∧
    (Executes s e t k → s.dc 2 0x011 t ≤ 1 → (s.task t).mig = none → Aborts (.adswt e a 15) s e t k 5) ∧
    (c.queue.length < 4 → Answers (.adcTrig a [⟨n, true, at_⟩] (go true)) s (fun u => u.adc a = { c with queue := c.queue ++ [⟨n.toNat, true, false, at_⟩] } ∧ others u ∧
      u.en 7 0x034 a = max (s.en 7 0x034 a) (c.queue.length + 1))) ∧
    (0 ≤ lead → lead ≤ 67108864 → c.sched.length < 16 → Answers (.adcTrig a [⟨n, false, at_⟩] (go false)) s (fun u =>
      u.adc a = { c with sched := (u.adc a).sched } ∧ (u.adc a).sched.Perm (⟨n.toNat, false, false, at_⟩ :: c.sched) ∧ others u ∧
      u = { s with acq := { s.acq with adc := u.acq.adc }, drv := { s.drv with dl := u.drv.dl } })) ∧
    (67108864 < lead → n ≠ 127 → Answers (.adcTrig a [⟨n, false, at_⟩] (go false)) s (fun u => drops u ∧ (u.adc a).sched = c.sched ∧ (u.adc a).queue = c.queue)) ∧
    (lead < 0 → c.queue.length < 4 → Answers (.adcTrig a [⟨n, false, at_⟩] (go false)) s (fun u =>
      u.adc a = { c with late := min 255 (c.late + 1), queue := c.queue ++ [⟨n.toNat, false, true, at_⟩] } ∧ others u ∧
      u.en 7 0x031 a = min 65535 (s.en 7 0x031 a + 1))) ∧
    (c.sched = [] → exec (.scheduleDue a) s = .next s) ∧
    (c.sched = x :: r → c.queue.length < 4 → Answers (.scheduleDue a) s (fun u => u.adc a = { c with sched := r, queue := c.queue ++ [x] } ∧ others u)) ∧
    (c.run.isSome → exec (.sequenceStart a) s = .next s) ∧
    (c.queue = [] → exec (.sequenceStart a) s = .next s) ∧
    (c.run = none → x ∈ c.queue → (∀ y ∈ c.queue, y = x ∨ x.trig < y.trig) → x.trig ≠ 127 → ∀ i, s.dieSeq a x.trig = some i →
      Answers (.sequenceStart a) s (fun u => (u.adc a).queue = c.queue.erase x ∧ (∃ y, (u.adc a).run = some y ∧ y.seq = 8 * a.val + i ∧ y.trig = x ∧ y.slot = 0 ∧
        y.codes = [] ∧ y.len = s.cfgWord a (0x40 + 4 * i) / 256 % 16 + 1 ∧ y.chans.length = y.len) ∧ (u.adc a).sched = c.sched ∧ others u)) ∧
    (c.run = none → exec (.adcSlotEnd a code) s = .next s ∧ exec (.sequenceEnd a code) s = .next s) ∧
    (c.run = some q → q.slot + 1 < q.len → q.codes.length < 4 → Answers (.adcSlotEnd a code) s (fun u =>
      u.adc a = { c with run := some { q with slot := q.slot + 1, codes := q.codes ++ [code] } } ∧ others u ∧ u = { s with acq := { s.acq with adc := u.acq.adc } })) ∧
    (c.run = some q → q.slot + 1 < q.len → q.codes.length = 4 → (s.dl a).lost = false → Answers (.adcSlotEnd a code) s (fun u =>
      u.adc a = { c with run := some { q with slot := q.slot + 1, codes := [] } } ∧ others u ∧
      ResGoesUp s u a 8)) ∧
    (c.run = some q → q.len ≤ q.slot + 1 → (s.dl a).lost = false → Answers (.sequenceEnd a code) s (fun u => u.adc a = { c with run := none } ∧ others u ∧
      ResGoesUp s u a (q.codes.length + 4))) ∧
    (w2.getLsbD 8 = false → Answers (.adcRes a w0 w1 w2 [w] res) s (fun u =>
      u.adc a = { c with part := (if c.partTrig = trig then c.part else []) ++ [w], partTrig := trig } ∧ others u ∧ u.acq.res = s.acq.res)) ∧
    (w2.getLsbD 8 = true → c.part = [] → c.await = [(trig, tp, ss)] → Answers (.adcRes a w0 w1 w2 [w] res) s (fun u =>
      u.adc a = { c with await := [] } ∧ others u ∧
      (s.en 7 0x010 (16 * a.val + w.toNat / 65536 % 16) = 0 →
        (Tab.get (fun _ => (0 : Word)) u.acq.res (16 * a.val + w.toNat / 65536 % 16)).toInt =
          max 0 (min 8388607 (((w.toNat % 65536 : Nat) + s.enS 16 7 0x011 (16 * a.val + w.toNat / 65536 % 16)) * 128))) ∧
      (∀ ch, ch ≠ 16 * a.val + w.toNat / 65536 % 16 → Tab.get (fun _ => (0 : Word)) u.acq.res ch = Tab.get (fun _ => (0 : Word)) s.acq.res ch) ∧
      u.en 7 0x025 ss = min 0xFFFFFF (s.en 7 0x025 ss + 1) ∧ (∃ l, u.evBus = s.evBus ++ l ++ [128 + ss]) ∧
      u = { s with lanes := u.lanes, drv := u.drv, acq := u.acq, ent := u.ent, loop := u.loop, evBus := u.evBus })) ∧
    (fcs ≠ res → Answers (.adcRes a w0 w1 w2 [w] fcs) s (LaneTakes s · (32 + a.val)
      { s.lane (32 + a.val) with crcErr := min 0xFFFFFF ((s.lane (32 + a.val)).crcErr + 1) })) ∧
    ((∀ z ∈ c.await, z.1 ≠ n.toNat) → exec (.adcResultTimeout a n) s = .next s) ∧
    (c.await = [(n.toNat, tp, ss)] → Answers (.adcResultTimeout a n) s (fun u =>
      u.adc a = { c with part := if c.partTrig = n.toNat then [] else c.part, await := [] } ∧ others u ∧ u.acq.res = s.acq.res ∧
      ∃ l, u.evBus = s.evBus ++ l ++ [128 + ss]))

/-- Filters, comparators and housekeeping (R154, R194 to R201): the scan goes on unless a requested conversion is due; HK_RES holds its channel; eight modulator bits enter a filter, a
substituted slot holds the alternating pattern and counts; a centred latch delivers; a comparator's wire is timestamped, counted and reaches the matrix; CWTHR only narrows the window and is applied by the DACs;
a readback judges one DAC, and two failures raise CW_DAC_FAULT.
Readings that the model chose: log entry 31. -/
def Obligations.FiltersAndComparators : Prop :=
  ∀ (s : State) (e : Fin 16) (t c : Nat) (code : BitVec 12) (rb : BitVec 16) (w w0 v : Word) (ch : Nat) (rq : List Nat) (tr : Nat × Nat) (wl : List (Nat × Nat)) (f : Fin 32) (bits : BitVec 8) (sub : Bool) (g : Fin 16) (k : Fin 48) (above below : Bool) (d : Nat),
    let q := s.acq
    let x := s.cw k
    let z := s.sd f
    let others (u : State) : Prop := ∀ j, j ≠ k.val → u.cw j = s.cw j
    let fed := decide ((s.lane f).st = .active) && decide (2 ≤ (s.lane f).gen) && decide (s.en 5 0x031 f = 1)
    let ins : List (Bool × Bool) := ((List.range 8).map (fun i => (if sub || !fed then i % 2 == 1 else bits.getLsbD i, sub || !fed))).reverse
    let mode := s.cfgWord (k.val / 12) (0x60 + 2 * (k.val % 12)) / 16 % 8
    let out := (mode == 1 && above) || (mode == 2 && below) || (mode == 3 && (above || below)) || (mode == 4 && !above && !below)
    let y := s.cw (d / 2)
    let want : Int := (if d % 2 = 0 then y.appHi.toNat else y.appLo.toNat) * 64 + 32
    let failed := 384 < ((rb.toNat : Int) - want).natAbs
    (q.hkReq = ch :: rq → ch < 32 → 3 ≤ q.hkSince → (s.dl 0).lost = false → Answers (.hkConversion code) s (fun u =>
      u.acq = { q with hkReq := rq, hkSince := 0, hkRun := true } ∧
      (u.dl 0).up = (s.dl 0).up ++ [⟨0xB1, [BitVec.ofNat 24 ch, BitVec.ofNat 24 (code.toNat + 4096 * ch)]⟩] ∧ u = { s with acq := u.acq, drv := u.drv })) ∧
    ((q.hkReq = [] ∨ q.hkSince < 3) → q.hkNext < 32 → (s.dl 0).lost = false → Answers (.hkConversion code) s (fun u =>
      u.acq = { q with hkNext := (q.hkNext + 1) % 32, hkSince := q.hkSince + 1, hkRun := true } ∧
      (u.dl 0).up = (s.dl 0).up ++ [⟨0xB1, [BitVec.ofNat 24 q.hkNext, BitVec.ofNat 24 (code.toNat + 4096 * q.hkNext)]⟩] ∧ u = { s with acq := u.acq, drv := u.drv })) ∧
    Answers (.hkRes w0 [w] (frameCrc 0xB1 (payloadOf [w0, w]))) s (fun u => (∀ ch, Tab.get (fun _ => ((0 : BitVec 12), 0)) u.acq.hk ch =
        if ch = w.toNat / 4096 % 32 then (w.setWidth 12, s.t48.toNat) else Tab.get (fun _ => ((0 : BitVec 12), 0)) q.hk ch) ∧
      (u.evBus = if w.toNat / 4096 % 32 = 31 then s.evBus ++ [188] else s.evBus) ∧ u = { s with lanes := u.lanes, acq := { q with hk := u.acq.hk }, drv := u.drv, ent := u.ent, evBus := u.evBus }) ∧
    Answers (.sdSlot f bits sub) s (fun u => (u.sd f).bits = (ins ++ z.bits).take 774 ∧ (u.sd f).fed = fed ∧
      (u.sd f).data.toInt = max (-8388608) (min 8388607 (sdScale (filterSum (sinc3 (s.en 7 0x040 f)) (3 * s.en 7 0x040 f - 2) (u.sd f).bits 0)
        ((s.en 7 0x040 f ^ 3 : Nat) : Int) (s.enS 24 7 0x045 f))) ∧
      ((u.sd f).lostCnt = z.lostCnt + if sub && fed then 1 else 0) ∧ (fed = false → (u.sd f).oc = false) ∧ (∀ j, j ≠ f.val → u.sd j = s.sd j)) ∧
    ((s.lg g).wait = [] → exec (.sdLatchCentred g) s = .next s) ∧
    ((s.lg g).wait = tr :: wl → Answers (.sdLatchCentred g) s (fun u => u.lg g = { s.lg g with count := (s.lg g).count + 1, wait := wl } ∧ (∀ j, j ≠ g.val → u.lg j = s.lg j) ∧
      (∃ l, u.evBus = s.evBus ++ l ++ [160 + g.val]) ∧ u.en 7 0x054 g = min 0xFFFFFF (s.en 7 0x054 g + 1))) ∧
    (out = x.out → Answers (.cwWireChange k above below) s (fun u => u.cw k = { x with above := above, below := below } ∧ others u ∧
      u = { s with acq := { q with cw := u.acq.cw } })) ∧
    (out ≠ x.out → Answers (.cwWireChange k above below) s (fun u => u.cw k = { x with
        above := above, below := below, out := out, changes := x.changes + 1, time := s.t48.setWidth 24 } ∧ others u ∧
      u.evBus = s.evBus ++ [176 + k.val / 4] ∧ u.flt.src.getLsbD k = out ∧
      (x.masked = false → s.en 0xA 0x204 k ≠ 7 → (0x060004 + 256 * k.val ∈ u.flt.live ↔ out = true)))) ∧
    (Executes s e t c → s.allows t e (0x832002 + 16 * k.val) true = true → (s.task t).mig = none → Answers (.cwthr e k v) s (fun u =>
      let hi := min (v.toNat % 1024) (s.en 7 0x061 k)
      let lo := max (v.toNat / 1024 % 1024) (s.en 7 0x062 k)
      u.cw k = { x with
        pend := true, clamped := decide (hi ≠ v.toNat % 1024 ∨ lo ≠ v.toNat / 1024 % 1024), reqHi := BitVec.ofNat 10 hi, reqLo := BitVec.ofNat 10 lo } ∧
      others u ∧ u = { s with lanes := u.lanes, acq := { q with cw := u.acq.cw } })) ∧
    (x.pend = true → x.masked = false → Answers (.cwthrApply k) s (fun u =>
      u.cw k = { x with pend := false, appHi := x.reqHi, appLo := x.reqLo } ∧ others u ∧
      u.cfgWord (k.val / 12) (0x61 + 2 * (k.val % 12)) = x.reqHi.toNat + 1024 * x.reqLo.toNat ∧ u = { s with acq := { q with cw := u.acq.cw }, drv := { s.drv with cfg := u.drv.cfg } })) ∧
    (x.pend = false ∨ x.masked = true → exec (.cwthrApply k) s = .next s) ∧
    (s.dev ≠ devIdle → s.dev ≠ devOperational → exec (.cwReadback (some rb)) s = .next s) ∧
    (s.dev = devIdle → s.nextDac (q.rb.getD 95) = some d →
      Answers (.cwReadback none) s (fun u => u = { s with lanes := u.lanes }) ∧
      (¬ failed → Answers (.cwReadback (some rb)) s (fun u => u.acq.rb = some d ∧ (if d % 2 = 0 then (u.cw (d / 2)).failHi else (u.cw (d / 2)).failLo) = false ∧
        u.flt.reports = s.flt.reports)) ∧
      (failed → (if d % 2 = 0 then y.failHi else y.failLo) = false → Answers (.cwReadback (some rb)) s (fun u => u.acq.rb = some d ∧
        (if d % 2 = 0 then (u.cw (d / 2)).failHi else (u.cw (d / 2)).failLo) = true ∧ u.flt = s.flt)) ∧
      (failed → (if d % 2 = 0 then y.failHi else y.failLo) = true → Answers (.cwReadback (some rb)) s (fun u => 0x060006 + 256 * (d / 2) ∈ u.flt.live)))

namespace Sys2Proof.Machine

/-- Only interface `n` changed, to `x`. -/
def OnlyQe (s u : State) (n : Nat) (x : Qe) : Prop := u = { s with qes := u.qes } ∧ ∀ j, u.qe j = if j = n then x else s.qe j

end Sys2Proof.Machine

/-- Position feedback (R208 to R213, R215, R217 to R223): a candidate that comes too soon is pending; an accepted edge moves the position by one modulo M, in its direction, and an armed entry at the new
position fires; an impossible transition is ILLEGAL and leaves the position; the index latches the position; the speed check finds standstill and limits SPEED; the compare table arms
by its target; a load of QPOS takes the reader's snapshot; the interface starts at 0, with POS_SUSPECT and RAWREV as they were, and stops with QCMP inactive.
Readings that the model chose: log entry 32. -/
def Obligations.PositionFeedback : Prop :=
  ∀ (s : State) (e : Fin 16) (t c : Nat) (r : Req) (n : Fin 4) (ab : BitVec 2) (up level : Bool) (k : Fin 16) (v : Word),
    let q := s.qe n
    let m := if s.en 8 0x015 n = 1 ∧ s.en 8 0x014 n ≠ 0 then s.en 8 0x014 n else 16777216
    let pos : Word := BitVec.ofNat 24 (((q.pos.toNat : Int) + if up then 1 else -1) % (m : Int)).toNat
    let near := ∃ z, q.last = some z ∧ s.since z < s.en 8 0x013 n
    let since := s.since (q.last.getD 0)
    let own (u : State) : Prop := ∀ j, j ≠ n.val → u.qe j = s.qe j
    let port (o : Nat) (w : Bool) : Prop := Executes s e t c ∧ s.allows t e (0x840000 + 256 * n.val + o) w = true ∧ (s.task t).mig = none
    let x := q.ct[k]
    let tgt : Word := BitVec.ofNat 24 (v.toNat % m)
    (q.on = false → Answers (.qeInputChange n ab) s (OnlyQe s · n { q with samp := ab }) ∧
      ∀ i ∈ [Instr.qePendingDecide n, .qeEdge n up, .qeSpeedCheck n], exec i s = .next s) ∧
    (q.on = true →
      (q.pend = true ∨ ab = q.acc → Answers (.qeInputChange n ab) s (OnlyQe s · n { q with samp := ab })) ∧
      (q.pend = false → ab ≠ q.acc → near → Answers (.qeInputChange n ab) s (OnlyQe s · n { q with samp := ab, pend := true })) ∧
      (q.pend = false → ab = ~~~q.acc → ¬ near → s.en 8 0x020 n = 0 → Answers (.qeInputChange n ab) s (fun u => (u.qe n).pos = q.pos ∧ (u.qe n).suspect = true ∧ (u.qe n).acc = ab ∧
        (u.qe n).illegal = q.illegal + 1 ∧ (u.qe n).valid = false ∧ (u.qe n).speed = 0 ∧ u.en 8 0x038 n = min 65535 (s.en 8 0x038 n + 1) ∧
        u.evBus = s.evBus ++ [256 + 8 * n.val + 6] ∧ own u)) ∧
      (q.pend = false → Answers (.qePendingDecide n) s (fun u => u = s)) ∧
      (q.pend = true → q.samp = q.acc → Answers (.qePendingDecide n) s (fun u => u.qe n = { q with pend := false, reject := q.reject + 1 } ∧ own u ∧
        u.en 8 0x03A n = min 65535 (s.en 8 0x03A n + 1))) ∧
      (s.en 8 0x020 n = 0 → Answers (.qeEdge n up) s (fun u => (u.qe n).pos = pos ∧ (u.qe n).last = some s.t48.toNat ∧ (u.qe n).prev = some (!up) ∧ (u.qe n).pend = false ∧ own u ∧
        (u.qe n).suspect = q.suspect ∧
        (x.armed = true → x.target = pos → (x.cfg.toNat % 4 = 3 ∨ x.cfg.toNat % 4 = if up then 1 else 2) →
          (u.qe n).ct[k].fires = x.fires + 1 ∧ (x.cfg.getLsbD 5 = true → 256 + 8 * n.val ∈ u.evBus) ∧ (x.step = 0 → (u.qe n).ct[k].armed = decide (x.cfg.toNat % 4 = 3))) ∧
        (x.armed = false ∨ x.target ≠ pos → (u.qe n).ct[k] = x))) ∧
      (q.still = true → exec (.qeSpeedCheck n) s = .next s) ∧
      (q.still = false → s.en 8 0x016 n * 400 ≤ since → Answers (.qeSpeedCheck n) s (fun u => u.qe n = { q with still := true, speed := 0, valid := true, hist := [] } ∧ own u ∧
        256 + 8 * n.val + 4 ∈ u.evBus ∧ u = { s with qes := u.qes, evBus := u.evBus })) ∧
      (q.still = false → since < s.en 8 0x016 n * 400 → q.valid = true → q.period < since → Answers (.qeSpeedCheck n) s (OnlyQe s · n
        { q with speed := if 0 ≤ q.speed then min q.speed (400000000 / since : Nat) else max q.speed (-(400000000 / since : Nat)) }))) ∧
    (s.en 8 0x020 n = 0 → Answers (.qeIndex n level) s (OnlyQe s · n { q with
      idxLevel := level, idxDone := q.idxDone && (level != decide (s.en 8 0x022 n = 1)) })) ∧
    (s.en 8 0x020 n = 1 → q.on = true → q.idxDone = false → s.en 8 0x021 n = 4 → s.en 8 0x022 n = 0 → Answers (.qeIndex n true) s (fun u =>
      (u.qe n).idxPos = q.pos ∧ (u.qe n).idxSeen = true ∧ (u.qe n).idxDone = true ∧ (u.qe n).pos = q.pos ∧ own u ∧ 256 + 8 * n.val + 1 ∈ u.evBus ∧
      u.en 8 0x036 n = min 65535 (s.en 8 0x036 n + 1))) ∧
    (q.pulse = true → Answers (.qcmpPulseEnd n) s (fun u => OnlyQe { s with pwm := { s.pwm with line := u.pwm.line } } u n { q with qcmp := false, pulse := false })) ∧
    (q.pulse = false → exec (.qcmpPulseEnd n) s = .next s) ∧
    (port 0 false → Answers (.qposRead e n) s (fun u => OnlyQe s u n { q with snaps := (u.qe n).snaps } ∧
      Tab.get (fun _ => Snap.reset) (u.qe n).snaps e = ⟨BitVec.ofInt 24 q.speed, qePer q, qeStat q, BitVec.ofNat 24 (q.last.getD 0), qeAngle s n⟩)) ∧
    (port 0x0B true → Answers (.clrRawrev e n) s (OnlyQe s · n { q with rawrev := false }) ∧
      Answers (.posSet e n) s (fun u => (u.qe n).pos = BitVec.ofNat 24 (q.posSet.toNat % m) ∧ (u.qe n).suspect = false ∧ own u ∧ u = { s with qes := u.qes })) ∧
    (port (0x10 + 4 * k.val) true → x.reqCfg.toNat % 4 ≠ 0 → x.reqCfg.getLsbD 6 = false → Answers (.cttgt e n k v) s (fun u =>
      (u.qe n).ct[k] = { x with target := tgt, cfg := x.reqCfg, step := x.reqStep, armed := true, behind := ctBehind m (ctDir x.reqCfg) tgt q.pos } ∧
      (∀ j : Fin 16, j ≠ k → (u.qe n).ct[j] = q.ct[j]) ∧ u.qe n = { q with ct := (u.qe n).ct } ∧ own u ∧ u = { s with qes := u.qes })) ∧
    (port (0x11 + 4 * k.val) true → Answers (.ctcfg e n k v) s (fun u =>
      (u.qe n).ct[k] = { x with reqCfg := v.setWidth 7, armed := x.armed && decide (v.toNat % 4 ≠ 0) } ∧
      (∀ j : Fin 16, j ≠ k → (u.qe n).ct[j] = q.ct[j]) ∧ u.qe n = { q with ct := (u.qe n).ct } ∧ own u ∧ u = { s with qes := u.qes })) ∧
    (Served s r →
      (Permits s r (mkKey 8 0x03C n) 1 0 none → Answers (.qeRawrevClr r n 1) s (fun u => Confirms s u r (mkKey 8 0x03C n) ∧ u.qe n = { q with rawrev := false } ∧ own u)) ∧
      (Permits s r (mkKey 8 0x010 n) 1 0 none → CanJournal s (mkKey 8 0x010 n) 1 → q.on = false → s.en 8 0x020 n = 0 → Answers (.qeEnable r n 1) s (fun u =>
        Journals s u r (mkKey 8 0x010 n) 1 ∧ (u.qe n).on = true ∧ (u.qe n).pos = 0 ∧ (u.qe n).suspect = q.suspect ∧ (u.qe n).rawrev = q.rawrev ∧ (u.qe n).still = true ∧ (u.qe n).acc = q.samp ∧ own u)) ∧
      (s.liveStage (s.qeHolder n) = none → Permits s r (mkKey 8 0x010 n) 0 0 none → CanJournal s (mkKey 8 0x010 n) 0 → Answers (.qeEnable r n 0) s (fun u =>
        Journals s u r (mkKey 8 0x010 n) 0 ∧ u.qe n = { q with on := false, qcmp := false, pulse := false, pend := false } ∧ own u)))

/-! ### Faults (11_faults.md) -/

namespace Sys2Proof.Machine

/-- Of the reports that wait none is of `code`, and none goes before it (R307, R308). -/
def IsFirst (s : State) (code : Nat) : Prop := ∀ r ∈ s.flt.reports, r.code ≠ code ∧ r.before ⟨code, false⟩ = false

/-- A report of `code` reaches the collector from outside (R293), before every other that waits, is listed with class `cls` (R310), has no latch entry, and opens its own record
(R300, R302): no window takes it, the class is recorded, and the latch table has room. -/
structure Fresh (s : State) (code cls : Nat) : Prop where
  listed : s.classOf code = some cls
  outside : IsFirst s code
  unlatched : ∀ l ∈ s.flt.latch, l.code ≠ code
  own : ∀ w, s.flt.win = some w ∨ w ∈ s.flt.wins → cls < 3 ∨ 4000 ≤ s.since w.at48 ∨ w.inj = true
  recorded : s.en 0xA 0x006 0 ≤ cls
  room : s.flt.latch.length < 64

/-- A new record and latch entry of a real fault (R297, R299): at the next SEQ, COUNT 1, class as classified, and one entry that points to it. -/
def Recorded (s u : State) (code cls : Nat) : Prop :=
  let n := s.en 0xA 0x009 0
  let live := kindC code && s.flt.live.contains code
  u.en 0xA 0x009 0 = (n + 1) % 65536 ∧ u.en 0xA 0x008 0 = n % 32 ∧ n ∈ u.flt.copies ∧
  u.scAt (n % 32) = ⟨true, s.t48.toNat, code, cls, cls, false, kindC code && !live, false, false, false, 0, 1, [], n, false⟩ ∧
  ∃ slot, u.flt.latch = s.flt.latch ++ [⟨slot, code, cls, live, kindC code, false, n, true, decide (3 ≤ cls)⟩]

end Sys2Proof.Machine

/-- Fault reports and reactions (R291, R293, R297, R299, R300, R311): NOTE, WARN and DERATE are recorded and latched and nothing reacts; TRIP_STAGE latches the target's clusters and halts it with HALT_CODE;
TRIP_ALL latches every running cluster, kills every ACTIVE lane, asserts every bank-off wire and halts every stage from PRECHECK on; SAFE_STOP also takes the device to SAFE and opens every contactor. A
repeat of the class raises COUNT, makes no record and reacts not again; a merged fault goes into the window's record; a code that is not listed does nothing; an alarm source that waits for its code is released (R154). A kernel's request reports its cause on its stage.
Readings that the model chose: log entry 26. -/
def Obligations.FaultsAreRecordedAndReact : Prop :=
  ∀ (s : State) (c : BitVec 24) (cls g l cl : Nat) (e : Fin 16) (t k : Nat) (cause : BitVec 8) (w : RWin) (r : ScRec) (x : Latch),
    NoMigration s →
    let code := c.toNat
    let go := Instr.faultReport c
    let al := if code / 65536 = 4 then code / 256 % 256 else 32 + code / 256 % 256 / 3
    (Fresh s code cls → s.deferring = false → (∀ p ∈ s.ref.job, p.1 < 64) →
      (cls < 3 → Answers go s (fun u => Recorded s u code cls ∧ u.flt.win = s.flt.win ∧
        (∀ j, u.lane j = if j = al ∧ (s.lane j).alarmCode = some code then { s.lane j with alarm := false, alarmCode := none } else s.lane j) ∧
        u = { s with flt := u.flt, ent := u.ent, ses := u.ses, lanes := u.lanes })) ∧
      (cls = 4 → g ∈ s.targets code → (s.stg g).st.armedRwi = true → Answers go s (fun u => (u.stg g).st = .halted ∧ u.en 0xD 0x014 g = code ∧ u.en 0xD 0x011 g = 6 ∧
        (cl ∈ s.stageCls g → (s.cl cl).st = .running → (u.cl cl).st = .latched) ∧ (∀ h, h < 12 → h ∉ s.targets code → u.stg h = s.stg h) ∧
        u.scAt (s.en 0xA 0x009 0 % 32) = ⟨true, s.t48.toNat, code, 4, 4, false, kindC code && !s.flt.live.contains code, false, false, false, 0, 1, [], s.en 0xA 0x009 0, false⟩ ∧
        u.flt.win = some ⟨s.en 0xA 0x009 0, s.t48.toNat, false, true⟩)) ∧
      (cls = 5 ∨ cls = 6 → Answers go s (fun u => (∀ h, h < 12 → (s.stg h).st.armedRwi = true → (u.stg h).st = .halted) ∧
        (∀ j, j < 12 → (s.cl j).st = .running → (u.cl j).st = .latched) ∧ (l < 36 → (s.lane l).st = .active → (u.lane l).kill = true) ∧
        (∀ b, b < 4 → BankOff u b ∧ u.drv.bankWire.getLsbD b = true) ∧ u.flt.win = some ⟨s.en 0xA 0x009 0, s.t48.toNat, false, true⟩ ∧
        (cls = 6 → s.dev = devIdle ∨ s.dev = devOperational ∨ s.dev = devPark → u.dev = devSafe ∧ u.stages.cto = 0)))) ∧
    (s.classOf code = some cls → cls < 3 → x ∈ s.flt.latch → (∀ y ∈ s.flt.latch, y.code = code → y = x) → x.code = code → x.inj = false → x.cls = cls → x.hasRec = true →
      s.scSeq x.seq = some r → IsFirst s code → s.deferring = false →
      Answers go s (fun u => u.scAt (x.seq % 32) = { r with count := min 65535 (r.count + 1), cls := max r.cls cls } ∧ u.en 0xA 0x009 0 = s.en 0xA 0x009 0 ∧
        u.flt.latch.length = s.flt.latch.length)) ∧
    (s.classOf code = some cls → cls = 3 → codeGroup code ≠ 6 → (∀ y ∈ s.flt.latch, y.code ≠ code) → IsFirst s code → s.flt.win = some w → w.inj = false →
      s.since w.at48 < 4000 → s.scSeq w.seq = some r → s.flt.latch.length < 64 → s.deferring = false →
      Answers go s (fun u => u.scAt (w.seq % 32) = { r with
          merged := true, mergeCnt := min 31 (r.mergeCnt + 1), cls := max r.cls 3, mg := if r.mg.length < 4 then r.mg ++ [codeGroup code] else r.mg } ∧
        u.flt.win = some w ∧ u.en 0xA 0x009 0 = s.en 0xA 0x009 0 ∧ u.flt.latch.length = s.flt.latch.length + 1)) ∧
    (s.classOf code = none → (∀ z ∈ s.flt.reports, z.code = code) → (s.lane al).alarmCode ≠ some code → Answers go s (fun u => u = { s with flt := { s.flt with reports := u.flt.reports } })) ∧
    (Executes s e t k → t < 96 → s.allows t e 0x850000 true = true →
      (s.taskStage t = some g → kindK cause.toNat = true → Answers (.faultRequest e cause) s (fun u =>
        u = { s with flt := { s.flt with reports := s.flt.reports ++ [⟨0x080000 + 256 * g + cause.toNat, false⟩], fsent := s.flt.fsent + 1 } })) ∧
      (s.taskStage t = none ∨ kindK cause.toNat = false → Answers (.faultRequest e cause) s (fun u =>
        u = { s with flt := { s.flt with frej := u.flt.frej } } ∧ u.flt.frej.toNat = min 255 (s.flt.frej.toNat + 1))))

/-- Windows, clearing, OKAY, sources and injection (R293, R294, R296, R298, R300, R303, R304, R306, R307): the window closes when every output is confirmed; an unconfirmed output is forced off and reported; a clear takes
entries that are neither live nor in a window nor SAFE_STOP, and refuses to clear others by code; a copy writes the record's eight words; OKAY that reads otherwise than driven is a fault; a source's level reaches the matrix
and its fault; injection works in factory test mode alone; a notification leaves through a free buffer with NSEQ.
Readings that the model chose: log entries 27 and 28. -/
def Obligations.FaultsClearAndOkay : Prop :=
  ∀ (s : State) (q : Req) (o : Fin 44) (c v : BitVec 48) (src : Fin 128) (level : Bool) (w : RWin) (seq i : Nat) (rest : List Nat) (r : ScRec) (n : Notif),
    let hi := s.okayHigh
    let safe := s.dev = devSafe ∨ (s.dev = devBoot ∧ s.boot.safe = true)
    let kc := mkKey 0xA 0x010 0
    let others (u : State) : Prop := ∀ j : Nat, j ≠ src.val → j < 128 → u.flt.src.getLsbD j = s.flt.src.getLsbD j
    (s.flt.win = none ∨ s.flt.unconf ≠ [] → exec .reactionComplete s = .next s) ∧
    (s.flt.win = some w → s.flt.unconf = [] → Answers .reactionComplete s (fun u => u.flt.win = none ∧ u.flt.wins = [] ∧ (∀ l ∈ u.flt.latch, l.inWin = false) ∧
      u.flt.latch.length = s.flt.latch.length ∧ (¬ safe → u.flt.kills = 0 ∧ u.flt.bankOff = 0) ∧ (safe → u.flt.kills = s.flt.kills ∧ u.flt.bankOff = s.flt.bankOff) ∧ u.flt.ring = s.flt.ring)) ∧
    (o.val ∉ s.flt.unconf → exec (.reactUnconfirmed o) s = .next s) ∧
    (o.val ∈ s.flt.unconf → Answers (.reactUnconfirmed o) s (fun u => o.val ∉ u.flt.unconf ∧ ⟨0x0B0006 + 256 * o.val, false⟩ ∈ u.flt.reports ∧
      (o.val < 32 → u.flt.static.getLsbD o = true) ∧ (32 ≤ o.val → u.flt.bankOff.getLsbD ((o.val - 32) / 3) = true ∧ BankOff u ((o.val - 32) / 3)))) ∧
    (Served s q →
      (Permits s q kc c.toNat 0 none →
        ((∃ l ∈ s.flt.latch, l.code = c.toNat ∧ (l.live = true ∨ l.inWin = true ∨ l.cls = 6)) → Answers (.clearCode q c) s (fun u =>
          RefusesWith s u q kc 0 ∧ u = { s with ses := u.ses })) ∧
        ((∀ l ∈ s.flt.latch, l.code = c.toNat → l.live = false ∧ l.inWin = false ∧ l.cls ≠ 6) → Answers (.clearCode q c) s (fun u =>
          (∀ l ∈ u.flt.latch, l ∈ s.flt.latch ∧ l.code ≠ c.toNat) ∧ (∃ a ∈ (u.sess q.ses.val).resp, a = ⟨q.tag, 3, 0, 0, kc, [0]⟩))) ∧
        ((∀ l ∈ s.flt.latch, l.code ≠ c.toNat) → Answers (.clearCode q c) s (fun u => Confirms s u q kc ∧ u = { s with ses := u.ses }))) ∧
      (Permits s q (mkKey 0xA 0x011 0) v.toNat 0 none → Answers (.clearAll q v) s (fun u =>
        (∀ l ∈ u.flt.latch, l ∈ s.flt.latch ∧ ¬ (l.cls ≤ v.toNat ∧ l.live = false ∧ l.inWin = false ∧ l.cls ≠ 6)) ∧
        ∃ a ∈ (u.sess q.ses.val).resp, a.tag = q.tag ∧ a.err = 0 ∧ a.body.length = 3)) ∧
      (Permits s q (mkKey 0xA 0x300 0) c.toNat 0 none →
        (s.boot.factory = true → Answers (.injCode q c) s (fun u => u.flt = { s.flt with reports := s.flt.reports ++ [⟨c.toNat, true⟩] } ∧
          Confirms s u q (mkKey 0xA 0x300 0) ∧ Counts s u [mkKey 0xA 0x303 0])) ∧
        (s.boot.factory = false → Answers (.injCode q c) s (fun u => RefusesWith s u q (mkKey 0xA 0x300 0) 0 ∧ u = { s with ses := u.ses }))) ∧
      (Permits s q (mkKey 0xA 0x301 0) c.toNat 0 none →
        (s.boot.factory = true → c.toNat < 120 → Answers (.injSource q c) s (fun u => u.flt.injSrc = s.flt.injSrc ||| (1#128 <<< c.toNat) ∧ u.flt.src = s.flt.src ∧
          Confirms s u q (mkKey 0xA 0x301 0))) ∧
        (s.boot.factory = false → c.toNat < 120 → Answers (.injSource q c) s (fun u => RefusesWith s u q (mkKey 0xA 0x301 0) 0 ∧ u = { s with ses := u.ses })))) ∧
    (s.flt.copies = [] ∧ s.nvm.blocks = [] ∨ s.deferring = true ∨ s.nvm.writing = true → exec .scorecardCopy s = .next s) ∧
    (s.flt.copies = seq :: rest → s.deferring = false → s.nvm.writing = false → s.nvm.order = [] → s.nvm.blocks = [] → s.scSeq seq = some r → Answers .scorecardCopy s (fun u => u.flt = { s.flt with copies := rest } ∧
      (i < 8 → Tab.get (fun _ => 0) u.mem.fram (0x74000 + 8 * (seq % 32) + i) = r.words.getD i 0) ∧
      (∀ a, (a < 0x74000 + 8 * (seq % 32) ∨ 0x74000 + 8 * (seq % 32) + 8 ≤ a) → Tab.get (fun _ => 0) u.mem.fram a = Tab.get (fun _ => 0) s.mem.fram a) ∧
      u = { s with flt := u.flt, mem := { s.mem with fram := u.mem.fram, upset := u.mem.upset } })) ∧
    (level = true → hi = false → Answers (.okayReadback level) s (fun u => u.flt.okStuck = true ∧ 0x0B0002 ∈ u.flt.live ∧ u.en 0xA 0x003 0 = 1)) ∧
    (level = false → hi = true → Answers (.okayReadback level) s (fun u => 0x0B0003 ∈ u.flt.live ∧ u.flt.okStuck = s.flt.okStuck ∧ u.en 0xA 0x003 0 = 0)) ∧
    (level = hi → Answers (.okayReadback level) s (fun u => 0x0B0002 ∉ u.flt.live ∧ 0x0B0003 ∉ u.flt.live ∧ u.flt.reports = s.flt.reports)) ∧
    (120 ≤ src.val → exec (.tripMatrixSource src level) s = .next s) ∧
    (src.val < 120 → Answers (.tripMatrixSource src level) s (fun u => u.flt.src.getLsbD src = level ∧ others u ∧
      (src.val < 48 → s.en 0xA 0x204 src ≠ 7 → (0x060004 + 256 * src.val ∈ u.flt.live ↔ level = true)) ∧
      (48 ≤ src.val → src.val < 80 → s.en 0xA 0x204 src ≠ 7 → (0x060003 + 256 * (src.val - 48) ∈ u.flt.live ↔ level = true)) ∧
      (src = 118 → (0x0B0001 ∈ u.flt.live ↔ level = true)))) ∧
    Answers (.injectionEnd src) s (fun u => u.flt.injSrc = s.flt.injSrc &&& ~~~(1#128 <<< src.val) ∧ u.flt.src = s.flt.src) ∧
    ((s.sess 0).notif = [] → exec (.notificationSend 0) s = .next s) ∧
    ((s.sess 1).notif = [n] → s.en 0 0x023 0 = 1 → s.ver 1 = 0x0204 → s.served 1 = true → Answers (.notificationSend 1) s (fun u =>
      u.sess 1 = { s.sess 1 with notif := [], nseq := (s.sess 1).nseq + 1, lost := 0 } ∧ (∀ j, j ≠ 1 → u.sess j = s.sess j) ∧
      u.lport = { s.lport with queue := s.lport.queue ++ [s.notif2 1 n] } ∧ u = { s with ses := u.ses, lport := u.lport }))

/-! ### Stages (09_motor_stages.md, 10_conversion_stages.md) -/

namespace Sys2Proof.Machine

/-- Request `q` has a response to its WRITE of `k` in its session. -/
def Responds (u : State) (q : Req) (k err detail : Nat) (body : List Byte) : Prop :=
  ⟨q.tag, 3, err, detail, k, body⟩ ∈ (u.sess q.ses.val).resp

/-- A stage command is refused with its reason in STAGE_REFUSE and in DETAIL (R237, R400), and nothing else changes. -/
def StageRefuses (s : State) (c : Instr) (q : Req) (g r : Nat) : Prop :=
  Answers c s (fun u => u = { s with ent := u.ent, ses := u.ses } ∧ OnlyEntries s u [(mkKey 0xD 0x012 g, r)] ∧ RefusesWith s u q (mkKey 0xD 0x010 g) r)

end Sys2Proof.Machine

/-- The stage commands (R230, R231, R237, R240, R241, R270, R283): each takes the stage from its state to the next one, with its effect on the clusters, or is refused with its reason. DECLARE takes the entries into force, those of derating too;
ARM queues the precheck; RUN sets OUTEN; DISARM and CLEAR stop the clusters; a ramp that ends or takes too long clears OUTEN and leaves the stage ARMED.
Readings that the model chose: log entry 34. -/
def Obligations.StageCommandsMoveStages : Prop :=
  ∀ (s : State) (q : Req) (st : Fin 12) (c r : Nat), Served s q → NoMigration s → (∀ v, v ≤ 6 → Permits s q (mkKey 0xD 0x010 st) v 0 none) →
    let g := st.val
    let x := s.stg g
    let k := mkKey 0xD 0x010 g
    let is (u : State) (z : StageSt) : Prop := (u.stg g).st = z ∧ u.en 0xD 0x011 g = z.code ∧ u.en 0xD 0x012 g = 0 ∧ (∀ h, h ≠ g → u.stg h = s.stg h) ∧ Responds u q k 0 0 [0]
    (s.refuseStage g = some r → StageRefuses s (.declare q st) q g r) ∧
    (s.refuseStage g = none → Answers (.declare q st) s (fun u => is u .ready ∧ (∀ e ∈ stageEntries, u.dc 0xD e g = s.en 0xD e g) ∧ ∀ e, 0x070 ≤ e → e ≤ 0x077 → u.dc 2 e g = s.en 2 e g)) ∧
    (x.st ≠ .ready → StageRefuses s (.remove q st) q g 1) ∧
    (x.st = .ready → s.eftOver g = [] → s.stageTasks g ≠ [] → StageRefuses s (.remove q st) q g 13) ∧
    (x.st = .ready → s.eftOver g = [] → s.stageTasks g = [] → Answers (.remove q st) s (fun u => is u .off ∧ ∀ e ∈ stageEntries, u.dc 0xD e g = entDefault (mkKey 0xD e g))) ∧
    (s.refuseArm g = some r → StageRefuses s (.arm q st) q g r) ∧
    (s.refuseArm g = none → s.en 2 0x090 q.tag.toNat = 0 → Answers (.arm q st) s (fun u => (u.stg g).st = .precheck ∧ (u.stg g).since = s.t48.toNat ∧ Responds u q k 0 0 [4] ∧
      (∃ j, u.jobAt q.tag.toNat = some j ∧ j.kind = .precheck ∧ j.arg = g ∧ j.owner = some q) ∧ u.en 2 0x090 q.tag.toNat = 1 ∧ ∀ h, h ≠ g → u.stg h = s.stg h)) ∧
    (s.refuseArm g = none → s.en 2 0x090 q.tag.toNat ≠ 0 → exec (.arm q st) s = .next (s.setSess q.ses.val ((s.sess q.ses.val).answered q 3 errBusy 0 k []))) ∧
    (s.refuseRun g = some r → StageRefuses s (.run q st) q g r) ∧
    (s.refuseRun g = none → Answers (.run q st) s (fun u => is u .run ∧ (c ∈ s.stageCls g → (u.cl c).outenReq = true ∧ (u.cl c).st = (s.cl c).st) ∧ (c ∉ s.stageCls g → u.cl c = s.cl c))) ∧
    (x.st = .run → Answers (.stop q st) s (fun u => is u .rampdown ∧ u.en 0xD 0x015 g = 5 ∧ u.pwm = s.pwm)) ∧
    (x.st ≠ .run → StageRefuses s (.stop q st) q g 1) ∧
    (x.st = .armed → x.disarming = false → s.dc 0xD 0x000 g ≠ 8 → Answers (.stageDisarm q st) s (fun u => is u .ready ∧ (c ∈ s.stageCls g → (u.cl c).st = .off ∧ (u.cl c).outen = false))) ∧
    (x.st = .armed → x.disarming = false → s.dc 0xD 0x000 g = 8 → s.ctOf g ≠ [] → Answers (.stageDisarm q st) s (fun u =>
      (u.stg g).st = .armed ∧ (u.stg g).disarming = true ∧ Responds u q k 0 0 [0])) ∧
    (x.st ≠ .armed ∨ x.disarming = true → StageRefuses s (.stageDisarm q st) q g 1) ∧
    (x.st = .halted → s.en 0xD 0x014 g ∈ s.flt.live → StageRefuses s (.clear q st) q g 12) ∧
    (x.st = .halted → s.en 0xD 0x014 g ∉ s.flt.live → Answers (.clear q st) s (fun u => is u .ready ∧ (c ∈ s.stageCls g → (u.cl c).st = .off) ∧
      ∀ l ∈ u.flt.latch, l ∈ s.flt.latch ∧ ¬ (l.live = false ∧ l.inWin = false ∧ l.cls ≠ 6 ∧ g ∈ s.targets l.code))) ∧
    (x.st ≠ .halted → StageRefuses s (.clear q st) q g 1) ∧
    (x.st ≠ .rampdown → exec (.rampDone st) s = .next s ∧ exec (.stageRampTimeout st) s = .next s) ∧
    (x.st = .rampdown → ∀ i ∈ [Instr.rampDone st, .stageRampTimeout st], Answers i s (fun u => (u.stg g).st = .armed ∧ u.en 0xD 0x015 g = 0 ∧
      (c ∈ s.stageCls g → (u.cl c).outenReq = false) ∧ (∀ h, h ≠ g → u.stg h = s.stg h) ∧
      (i = .stageRampTimeout st → u.flt.reports = s.flt.reports ++ [⟨0x080002 + 256 * g, false⟩])))

/-- Posts, the status mirror and the contactors (R235, R259, R264, R268, R270, R285): a write of an RW entry is journalled, one of an unlisted key answers NO_SUCH_KEY, I_LIM at or above I_CBC is refused; the mirror shows state words 0 to 7 and 9 of MAIN_TASK; ID_APPLY
copies the results in READY alone; a feedback that disagrees is CONTACTOR_FAIL, and ends with the feedback; a contactor that is to open does in its order, MAIN_CT and those of a halted stage once the current is below CT_OPEN_I or 50 ms have passed; an EFT stage is READY when its star contactor reads open, and a welded one is a
fault.
Readings that the model chose: log entries 33 and 34. -/
def Obligations.PostsMirrorsAndContactors : Prop :=
  ∀ (s : State) (q : Req) (st : Fin 12) (key : BitVec 24) (v : BitVec 48) (k : Fin 8) (level : Bool) (row : EntRow) (i : Nat),
    let g := st.val
    let x := s.stg g
    let t := s.dc 0xD 0x004 g
    let lim := mkKey 0xD 0x022 g
    let ap := mkKey 0xD 0x15A g
    let waits := x.st = .halted ∨ s.dc 0xD 0x000 g = 8 ∨ s.dc 0xD 0x551 g = k.val
    let due := 20000000 ≤ s.since x.openAt
    let cts (u : State) : Prop := u = { s with stages := u.stages }
    (Served s q →
      (entRow key.toNat = some row → row.acc = .rw → row.area = 0xD → row.kept = true → keyEntry key.toNat ≠ 0x022 → Permits s q key.toNat v.toNat 0 none → CanJournal s key.toNat v.toNat →
        (s.stg (keyElem key.toNat)).st.armedRwi = false → Answers (.parameterPost q key v) s (fun u => Journals s u q key.toNat v.toNat ∧ u = { s with ent := u.ent, nvm := u.nvm, ses := u.ses })) ∧
      (Permits s q lim v.toNat 0 none → s.enS 24 0xD 0x023 g ≤ asInt 24 (v.toNat % 2 ^ 24) → Answers (.parameterPost q (BitVec.ofNat 24 lim) v) s (fun u =>
        RefusesWith s u q lim 0 ∧ u = { s with ses := u.ses })) ∧
      (Permits s q ap 1 0 none → x.st ≠ .ready → Answers (.idApply q st 1) s (fun u => RefusesWith s u q ap 0 ∧ u = { s with ses := u.ses })) ∧
      (Permits s q ap 1 0 none → x.st = .ready → s.deferring = false → Answers (.idApply q st 1) s (fun u => u.en 0xD 0x101 g = s.en 0xD 0x153 g ∧ u.en 0xD 0x102 g = s.en 0xD 0x154 g ∧
        u.en 0xD 0x103 g = s.en 0xD 0x155 g ∧ u.en 0xD 0x104 g = s.en 0xD 0x156 g ∧ u.en 0xD 0x106 g = s.en 0xD 0x157 g ∧ Responds u q ap 0 0 [0] ∧
        u = { s with ent := u.ent, nvm := u.nvm, ses := u.ses }))) ∧
    (Served s q → entRow key.toNat = none → Answers (.parameterPost q key v) s (fun u => u = { s with ses := u.ses } ∧
      ∀ j, u.sess j = if j = q.ses.val then (s.sess j).answered q 3 errNoSuchKey 0 key.toNat [] else s.sess j)) ∧
    (entRow key.toNat = some row → row.acc ≠ .rw ∨ row.area ≠ 0xD → exec (.parameterPost q key v) s = .next s) ∧
    (x.st = .off ∨ 96 ≤ t ∨ (s.task t).placed = false → exec (.statusMirror st) s = .next s) ∧
    (x.st ≠ .off → x.st ≠ .run → t < 96 → (s.task t).placed = true → s.dc 0xD 0x000 g = 1 → s.en 2 0x070 g = 0 → Answers (.statusMirror st) s (fun u => u = { s with ent := u.ent } ∧
      (i < 8 → u.en 0xD (0x040 + i) g = s.stateWord t i) ∧ u.en 0xD 0x049 g = s.stateWord t 9 % 256)) ∧
    (s.declared g = true → k.val ∈ s.ctOf g → s.dc 0xD 0x000 g ≠ 8 ∨ x.disarming = false ∧ x.st ≠ .halted → (s.dc 0xD 0x557 g).testBit k = true → s.stages.ctf.getLsbD k ≠ s.stages.cto.getLsbD k →
      Answers (.contactorFail st k) s (fun u => 0x080014 + 256 * g ∈ u.flt.live ∧ u = { s with flt := u.flt })) ∧
    (s.stages.ctf.getLsbD k = s.stages.cto.getLsbD k ∨ k.val ∉ s.ctOf g → exec (.contactorFail st k) s = .next s) ∧
    (x.opening.getLsbD k = true → s.ctOf g = [k.val] → (x.st = .halted → ∀ n ∈ s.stageGens g, n ∉ s.flt.unconf) → ¬ waits ∨ s.ctLow g = true ∨ due → Answers (.contactorOpen st k) s (fun u => u.stages.cto = s.stages.cto &&& ~~~(1#8 <<< k.val) ∧
      u.stg g = { x with opening := x.opening &&& ~~~(1#8 <<< k.val) } ∧ (∀ h, h ≠ g → u.stg h = s.stg h) ∧ cts u)) ∧
    (x.opening.getLsbD k = false ∨ (waits ∧ s.ctLow g = false ∧ ¬ due) → exec (.contactorOpen st k) s = .next s) ∧
    (x.disarming = false → exec (.starCtOpened st) s = .next s ∧ (x.st ≠ .halted → exec (.eftCtWeld st) s = .next s)) ∧
    (s.dc 0xD 0x000 g = 8 → s.dc 0xD 0x902 g = k.val → x.disarming = true → s.stages.cto.getLsbD k = false →
      (s.stages.ctf.getLsbD k = false → Answers (.starCtOpened st) s (fun u => (u.stg g).st = .ready ∧ (u.stg g).disarming = false ∧ ∀ h, h ≠ g → u.stg h = s.stg h)) ∧
      ((s.dc 0xD 0x557 g).testBit k = true → s.stages.ctf.getLsbD k = true → Answers (.eftCtWeld st) s (fun u => 0x08001A + 256 * g ∈ u.flt.live ∧ u = { s with flt := u.flt }))) ∧
    Answers (.contactorFeedbackChange k level) s (fun u => u.stages.ctf.getLsbD k = level ∧ (∀ j, j < 8 → j ≠ k.val → u.stages.ctf.getLsbD j = s.stages.ctf.getLsbD j) ∧
      u.stages.cto = s.stages.cto ∧ (∀ h, u.stg h = s.stg h) ∧ (∀ h, s.findStage (fun p => (s.ctOf p).contains k.val) = some h → s.ctOf h = [k.val] → level = s.stages.cto.getLsbD k →
        0x080014 + 256 * h ∉ u.flt.live))

/-! ### Monitors and the deferral of writes (12_monitors.md) -/

/-- Temperature rounds and the shutdown comparators (R313, R314, R317, R318, R321): a slow round takes every reading, holds a warning at its second round, measures the supplies and raises EV288; a fast round reads
the sensors in fast mode, raises EV289, and does nothing where there is none; a comparator of the C-die reports its sensor, one of the P-die turns every half-bridge off; its condition ends with the last of the four and of their measured levels.
Readings that the model chose: log entry 56. -/
def Obligations.TemperaturesAreMonitored : Prop :=
  ∀ (s : State) (die bank : List (BitVec 16)) (ts : Fin 12) (b i : Nat) (v : BitVec 16),
    let x := s.sensor ts
    let hot := 0x090003 + 256 * ts.val
    let others (u : State) : Prop := ∀ j, j ≠ ts.val → u.sensor j = s.sensor j
    let stands (level : Bool) : Prop := ∃ j, 8 ≤ j ∧ j < 12 ∧ (j ≠ ts.val ∧ (s.sensor j).acmp = true ∨ level = true ∧ (s.sensor j).held[2] = true)
    Answers (.slowRound die) s (fun u => (∃ l, u.evBus = s.evBus ++ l ++ [288]) ∧ u.mon.measured = true ∧ (∀ p : Fin 6, u.mon.lowest[p] ≤ u.mon.volts[p]) ∧ s.free + 6 ≤ u.free ∧
      (ts.val < 8 → die[ts.val]? = some v → (-880 ≤ v.toInt → v.toInt ≤ 3200 → (u.sensor ts).temp = v ∧ (u.sensor ts).valid = true) ∧
        (v.toInt < -880 ∨ 3200 < v.toInt → (u.sensor ts).valid = false ∧ (u.sensor ts).suspect = true)) ∧
      (ts.val < 8 → die[ts.val]? = some v → 2160 ≤ v.toInt → v.toInt ≤ 3200 → x.suspect = false → x.far < 7 → x.held = .replicate 3 false → x.up[0] = 1 → x.seenAt = none →
        (u.sensor ts).held[0] = true ∧ 0x090001 + 256 * ts.val ∈ u.flt.live ∧ 290 ∈ u.evBus)) ∧
    ((∀ j, j < 60 → (s.sensor j).fast = false) → exec (.fastRound bank) s = .next s) ∧
    (i < 60 → (s.sensor i).fast = true → Answers (.fastRound bank) s (fun u => ∃ l, u.evBus = s.evBus ++ l ++ [289])) ∧
    (ts.val < 8 → Answers (.analogShutdown ts) s (fun u => u.sensor ts = { x with acmp := true } ∧ others u ∧ hot ∈ u.flt.live ∧ u = { s with mon := u.mon, flt := u.flt })) ∧
    (8 ≤ ts.val → b < 4 → Answers (.analogShutdown ts) s (fun u => u.sensor ts = { x with acmp := true } ∧ others u ∧ BankOff u b ∧
      u.flt.src.getLsbD 117 = true ∧ 0x09FE03 ∈ u.flt.live ∧ u = { s with mon := u.mon, drv := u.drv, flt := u.flt, ent := u.ent, ses := u.ses })) ∧
    (ts.val < 8 → Answers (.analogShutdownRelease ts) s (fun u => u.sensor ts = { x with acmp := false } ∧ others u ∧
      (x.held[2] = false → hot ∉ u.flt.live) ∧ (x.held[2] = true → u.flt = s.flt))) ∧
    (8 ≤ ts.val → Answers (.analogShutdownRelease ts) s (fun u => u.sensor ts = { x with acmp := false } ∧ others u ∧
      (x.held[2] = false → hot ∉ u.flt.live) ∧ (u.flt.src.getLsbD 117 = true ↔ stands false) ∧
      (¬ stands true → 0x09FE03 ∉ u.flt.live) ∧ (stands true → (0x09FE03 ∈ s.flt.live ↔ 0x09FE03 ∈ u.flt.live))))

/-- Supplies (R321, R322, R323, R358): a warning sets its flag, count, event and fault; of VSUP, VDDC and VDDIO it also begins the deferral and sheds OPTIMISE and BACKGROUND tasks; a release takes the fault away with the last warning of
the rail and starts the debounce; its end ends the deferral, and what was deferred first is written. A reset level of VSUP, VDDC and VDDIO resets the device and keeps the arrays; of VDDA and GVDD it turns every half-bridge off; of VDDL it is reported, in BOOT once the device has left it.
Readings that the model chose: log entry 50. -/
def Obligations.SuppliesWarnDeferAndReset : Prop :=
  ∀ (s : State) (p : Fin 6) (ov : Bool) (t b : Nat) (ws : List (Nat × List Word)),
    let x := s.supply p
    let on : Bool := s.dev != devStandby && !s.boot.inReset
    let warned (u : State) : Prop := u.supply p = (if ov then { x with ovwarn := true } else { x with warn := true }) ∧ (∀ j, j ≠ p.val → u.supply j = s.supply j) ∧
      u.mon.warnCnt = s.mon.warnCnt + 1 ∧ u.en 9 0x063 p = min 65535 (s.en 9 0x063 p + 1) ∧ 0x090010 + 256 * p.val ∈ u.flt.live
    let y : Supply := if ov then { x with ovwarn := false, ovreset := false } else { x with warn := false, reset := false }
    (on = false → exec (.supplyWarn p ov) s = .next s) ∧
    (on = true → ov = true ∨ p = 3 ∨ p = 4 → Answers (.supplyWarn p ov) s (fun u => warned u ∧ u.evBus = s.evBus ++ [294] ∧
      u = { s with mon := u.mon, ent := u.ent, evBus := u.evBus, flt := u.flt })) ∧
    (on = true → ov = false → p = 5 → Answers (.supplyWarn p ov) s (fun u => warned u ∧ u.evBus = s.evBus ++ (if s.gvddOk then [316, 317, 318, 319, 294] else [294]) ∧
      u = { s with mon := u.mon, ent := u.ent, evBus := u.evBus, flt := u.flt })) ∧
    (on = true → ov = false → p.val < 3 → Answers (.supplyWarn p ov) s (fun u => warned u ∧ u.deferring = true ∧ u.mon.debounce = false ∧ u.evBus = s.evBus ++ [294] ∧
      u.nvm.queue.length = s.nvm.queue.length ∧ u.mem = s.mem ∧
      (t < 96 → (s.task t).placed = true → 2 ≤ s.dc 2 0x011 t → (u.task t).shed = true) ∧
      (s.dc 2 0x011 t < 2 → u.task t = s.task t))) ∧
    Answers (.supplyWarnRelease p ov) s (fun u => u.supply p = y ∧ (∀ j, j ≠ p.val → u.supply j = s.supply j) ∧
      ((y.warn || y.ovwarn) = false → 0x090010 + 256 * p.val ∉ u.flt.live) ∧
      ((y.warn || y.ovwarn) = true → 0x090010 + 256 * p.val ∈ s.flt.live → 0x090010 + 256 * p.val ∈ u.flt.live) ∧
      (p.val < 3 → ov = false → s.deferring = true → (∀ j, j < 3 → j ≠ p.val → (s.supply j).warn = false) → u.mon.debounce = true) ∧
      (3 ≤ p.val ∨ ov = true → u.mon.debounce = s.mon.debounce) ∧ u.deferring = s.deferring) ∧
    (s.mon.debounce = false ∨ (∃ j, j < 3 ∧ (s.supply j).warn = true) → exec .deferEnd s = .next s) ∧
    (s.mon.debounce = true → (∀ j, j < 3 → (s.supply j).warn = false) → Answers .deferEnd s (fun u => u.deferring = false ∧ u.mon = { s.mon with debounce := false } ∧
      u.nvm = { s.nvm with deferred := false, blocks := u.nvm.blocks, order := u.nvm.order } ∧ u.evBus = s.evBus ++ [295] ∧
      (s.nvm.blocks = [] → u.mem = s.mem ∧ u.nvm.order = s.nvm.order) ∧
      (s.nvm.blocks = [ws] → s.nvm.order = [2] → s.nvm.writing = false → u.nvm.blocks = [] ∧ u.nvm.order = [] ∧ u.mem = (s.setRuns ws).mem) ∧
      u = { s with mon := u.mon, ent := u.ent, evBus := u.evBus, nvm := u.nvm, mem := { s.mem with fram := u.mem.fram, upset := u.mem.upset } })) ∧
    (ov = true → p = 0 ∨ p = 5 → exec (.supplyReset p ov) s = .next s) ∧
    (p.val < 3 → ov = false ∨ p ≠ 0 → Answers (.supplyReset p ov) s (fun u => u.boot.inReset = true ∧ u.boot.bor.toNat = 2 + p.val ∧ u.boot.keptAon = false ∧
      u.boot.cause = (if s.boot.inReset then min (2 + p.val) s.boot.cause else 2 + p.val) ∧ u.dev = devBoot ∧ u.mem.otp = s.mem.otp ∧ (s.nvm.writing = false → u.mem.fram = s.mem.fram) ∧
      u.nvm.queue = [] ∧ u.ref.job = [] ∧ u.pending = s.pending)) ∧
    (3 ≤ p.val → on = false → ov = false ∨ p ≠ 5 → Answers (.supplyReset p ov) s (fun u => u = { s with mon := { s.mon with supply := u.mon.supply } } ∧
      ∀ j, u.supply j = if j = p.val then (if ov then { x with ovreset := true } else { x with reset := true }) else s.supply j)) ∧
    (on = true → p = 3 → Answers (.supplyReset p ov) s (fun u => (b < 4 → BankOff u b) ∧ u.flt.src.getLsbD 116 = true ∧ ⟨0x090311, false⟩ ∈ u.flt.reports ∧
      u.supply p = (if ov then { x with ovreset := true } else { x with reset := true }))) ∧
    (on = true → p = 4 → Answers (.supplyReset p ov) s (fun u => u.drv = s.drv ∧ u.flt.reports = s.flt.reports ++ (if s.dev = devBoot then [] else [⟨0x090411, false⟩]) ∧
      u.supply p = (if ov then { x with ovreset := true } else { x with reset := true }))) ∧
    (on = true → p = 5 → ov = false → Answers (.supplyReset p ov) s (fun u => (b < 4 → BankOff u b) ∧ u.drv.gvdd = 3 ∧ u.flt.src.getLsbD 115 = true ∧ 0x05FF06 ∈ u.flt.live ∧
      u.supply p = { x with reset := true }))

/-! ### The nonvolatile store (13_nonvolatile_store.md) -/

/-- The journal (R333, R335, R336, R338): the first write of the oldest waiting record stores its words 1 to 4 + LEN, unless writes are deferred or one is being written; the commit stores word 0, moves the end of the bank
and answers the request with SEQ; below SHED_THRESHOLD it starts Shed. SHED_CMD starts Shed where none runs or waits. -/
def Obligations.JournalWritesAndCommits : Prop :=
  ∀ (s : State) (q o : Req) (r : JRec) (rest : List JRec) (a i : Nat),
    let w := recWords r.key r.ty r.seq s.nvm.gen r.words
    let at_ := bankBase s.nvm.bank + s.nvm.pos
    let left := bankWords - (s.nvm.pos + (5 + r.words.length))
    let k := mkKey 0xB 0x017 0
    let runs (u : State) : Prop := ∃ p ∈ u.ref.job, p.2.kind = .shed
    let heals (u : State) : Prop := ∀ p ∈ u.mem.upset, p ∈ s.mem.upset
    (s.nvm.queue = [] ∨ s.nvm.writing = true ∨ s.deferring = true → exec .journalWrite s = .next s) ∧
    (s.nvm.queue = r :: rest → s.nvm.writing = false → s.deferring = false → s.nvm.order = [] → s.nvm.shed = none → s.nvm.pos + (5 + r.words.length) ≤ bankWords → Answers .journalWrite s (fun u =>
      u = { s with nvm := { s.nvm with writing := true }, mem := { s.mem with fram := u.mem.fram, upset := u.mem.upset } } ∧ heals u ∧
      (1 ≤ i → i < 5 + r.words.length → u.fram (at_ + i) = w.getD i 0) ∧ (a ≤ at_ ∨ at_ + 5 + r.words.length ≤ a → u.fram a = s.fram a))) ∧
    (s.nvm.queue = [] ∨ s.nvm.writing = false → s.boot.standby ≠ 1 → exec .journalCommit s = .next s) ∧
    (s.nvm.queue = r :: rest → s.nvm.writing = true → r.owner = some o → s.nvm.blocks = [] → s.boot.standby ≠ 1 →
      let done (u : State) : Prop := u.fram at_ = w.getD 0 0 ∧ (a ≠ at_ → u.fram a = s.fram a) ∧ heals u ∧
        u.nvm = { s.nvm with queue := rest, writing := false, seq := r.seq, pos := s.nvm.pos + (5 + r.words.length) } ∧
        ∀ j, u.sess j = if j = o.ses.val then (s.sess j).answered o 3 0 0 r.key (1 :: beBytes r.seq 6) else s.sess j
      (s.en 0xB 0x016 0 ≤ left → Answers .journalCommit s (fun u => done u ∧
        u = { s with nvm := u.nvm, ses := u.ses, mem := { s.mem with fram := u.mem.fram, upset := u.mem.upset } })) ∧
      (left < s.en 0xB 0x016 0 → s.freeSlot.isSome = true → Answers .journalCommit s (fun u => done u ∧ runs u ∧
        u = { s with nvm := u.nvm, ses := u.ses, mem := { s.mem with fram := u.mem.fram, upset := u.mem.upset }, ref := { s.ref with job := u.ref.job }, ent := u.ent } ∧ ∀ p ∈ s.ref.job, s.freeSlot ≠ some p.1 → p ∈ u.ref.job))) ∧
    (Served s q → Permits s q k 0 0 none →
      (runs s → Answers (.shedCmd q) s (fun u => Confirms s u q k ∧ u = { s with ses := u.ses })) ∧
      (¬ runs s → s.freeSlot.isSome = true → Answers (.shedCmd q) s (fun u => Confirms s u q k ∧ runs u ∧ u = { s with ses := u.ses, ref := { s.ref with job := u.ref.job }, ent := u.ent })))

/-- The patch floor and the overrides (R343, R347): PATCH_FLOOR_RAISE takes a value up to the PATCH_VER of the slot that runs, never lowers the floor, and keeps it in the status region, whose write waits for the second write of a record and for a deferral; an override replaces what a reader of its word sees, is
refused of a region that is INVALID or locked and of a protected, hash, lock or seal word, and goes with OVR_CLEAR of its region. The array itself is not touched. -/
def Obligations.FloorAndOverridesComplete : Prop :=
  ∀ (s : State) (q : Req) (v ov : BitVec 48) (p w x j : Nat) (r reg : Fin 3) (ww : BitVec 8), Served s q →
    let kf := mkKey 0xB 0x025 0
    let ko := mkKey 0xB (0x050 + r.val) ww.toNat
    let kc := mkKey 0xB 0x053 0
    let floor := max (s.en 0xB 0x024 0) v.toNat
    let barred := s.regionOk r = false ∨ s.lockState r ≠ 0 ∨ isProtected r ww.toNat = true ∨ isHash r ww.toNat = true ∨ ww.toNat = lockWord r ∨ ww.toNat = sealWord r
    (Permits s q kf v.toNat 0 none → s.boot.slot = some p → v.toNat ≤ s.en 0xB 0x021 p → s.deferring = true ∨ s.nvm.writing = true ∨ s.nvm.blocks ≠ [] →
      Answers (.patchFloorRaise q v) s (fun u => u.en 0xB 0x024 0 = floor ∧ u.nvm.blocks = s.nvm.blocks ++ [statusRuns 2 [BitVec.ofNat 24 floor, 0, 0]] ∧ Confirms s u q kf ∧
        u = { s with ent := u.ent, ses := u.ses, nvm := u.nvm })) ∧
    (Permits s q kf v.toNat 0 none → s.boot.slot = some p → v.toNat ≤ s.en 0xB 0x021 p → s.deferring = false → s.nvm.writing = false → s.nvm.blocks = [] → Answers (.patchFloorRaise q v) s (fun u =>
      u.en 0xB 0x024 0 = floor ∧ (u.status 2).getD 0 0 = BitVec.ofNat 24 floor ∧ Confirms s u q kf ∧
      (x < statusAt 2 0 ∨ statusAt 3 0 ≤ x → u.fram x = s.fram x) ∧ u = { s with ent := u.ent, ses := u.ses, mem := { s.mem with fram := u.mem.fram, upset := u.mem.upset } })) ∧
    (Permits s q kf v.toNat 0 none → s.boot.slot = none ∨ (s.boot.slot = some p ∧ s.en 0xB 0x021 p < v.toNat) → Answers (.patchFloorRaise q v) s (fun u =>
      RefusesWith s u q kf 0 ∧ u = { s with ses := u.ses })) ∧
    (Permits s q ko ov.toNat (regionLevel r) none → ¬ barred → Answers (.overrideWrite q r ww ov) s (fun u =>
      u.otpRead r ww.toNat = ov.setWidth 24 ∧ (j ≠ 256 * r.val + ww.toNat → Tab.get (fun _ => none) u.nvm.ovr j = Tab.get (fun _ => none) s.nvm.ovr j) ∧
      Confirms s u q ko ∧ u = { s with nvm := { s.nvm with ovr := u.nvm.ovr }, ent := u.ent, ses := u.ses })) ∧
    (Permits s q ko ov.toNat (regionLevel r) none → barred → Answers (.overrideWrite q r ww ov) s (fun u => RefusesWith s u q ko 0 ∧ u = { s with ses := u.ses })) ∧
    (Permits s q kc reg.val (regionLevel reg) none → Answers (.ovrClear q (BitVec.ofNat 48 reg.val)) s (fun u =>
      (w < otpWords reg → u.override reg w = none) ∧ (j / 256 ≠ reg.val → Tab.get (fun _ => none) u.nvm.ovr j = Tab.get (fun _ => none) s.nvm.ovr j) ∧
      Confirms s u q kc ∧ u = { s with nvm := { s.nvm with ovr := u.nvm.ovr }, ent := u.ent, ses := u.ses }))

/-! ### Start-up and power states (14_startup_and_power_states.md) -/

namespace Sys2Proof.Machine

/-- The state after a reset of a cause (R358, R360, R373): the device is held in reset in BOOT, every running part, declaration, session and job is as after power-on, and the arrays and the commands that wait
are kept; a supply of VDDA, VDDL and GVDD at a reset level still is (R432), and the KILL pin keeps its kills asserted (R305). -/
structure InResetFrom (s u : State) (cause : Nat) : Prop where
  held : u.boot.inReset = true ∧ u.boot.step = 0 ∧ u.dev = devBoot
  why : u.boot.cause = if s.boot.inReset then min cause s.boot.cause else cause
  plain : u.ent = State.reset.ent ∧ u.decl = State.reset.decl ∧ u.loop = State.reset.loop ∧ u.ref = State.reset.ref ∧ u.ses = State.reset.ses ∧
    u.mon = { State.reset.mon with supply := u.mon.supply } ∧ u.pwm.cl = State.reset.pwm.cl ∧ u.cans = State.reset.cans
  kill : (s.drv.killPin = false → u.flt = State.reset.flt ∧ u.lanes = State.reset.lanes ∧ u.drv.bankWire = State.reset.drv.bankWire) ∧
    (s.drv.killPin = true → u.flt.src.getLsbD 118 = true ∧ (∀ l, l < 32 → (u.lane l).kill = true) ∧ u.drv.bankWire = 0xF)
  supplies : ∀ p, u.supply p = if p = 3 ∨ p = 4 ∨ p = 5 then { Supply.ok with reset := (s.supply p).reset, ovreset := (s.supply p).ovreset } else Supply.ok
  words : u.mem.pm = State.reset.mem.pm ∧ u.mem.loc = State.reset.mem.loc ∧ u.mem.tile = State.reset.mem.tile ∧ u.mem.otp = s.mem.otp
  kept : (s.nvm.writing = false → u.mem.fram = s.mem.fram) ∧ u.pending = s.pending ∧ u.stages.ctf = s.stages.ctf ∧ u.drv.killPin = s.drv.killPin ∧ u.nvm.queue = []

/-- The always-on domain outlives the reset (R360, R364): the start-attempt counter and its records stay, and what the next start records is noted. -/
def KeepsAlwaysOn (s u : State) (reached : Nat) : Prop :=
  u.boot.keptAon = true ∧ u.boot.count = s.boot.count ∧ u.boot.fails = s.boot.fails ∧ u.boot.uncleared = s.boot.uncleared ∧ u.boot.reached = reached

end Sys2Proof.Machine

/-- The resets (R358 to R361, R364): POR, the nRST pin, the watchdog, a lockstep error and a boot failure reset the device with their cause; all but POR keep the always-on domain. The release starts the boot sequence: RESET_CAUSE shows the
cause, and a kept start-attempt counter takes a record of the start that ended and rises by one, 3 before that meaning Tadpole mode.
Readings that the model chose: log entry 47. -/
def Obligations.ResetsAndTheirRelease : Prop :=
  ∀ (s : State),
    let b := s.boot
    let dead : Bool := b.inReset || s.dev == devStandby
    Answers .por s (fun u => InResetFrom s u 1 ∧ u.boot.keptAon = false ∧ u.boot.bor = 0 ∧ u.boot.count = 0) ∧
    Answers .pinReset s (fun u => InResetFrom s u 5 ∧ u.boot.nrstIn = true ∧ u.boot.bor = b.bor ∧ (b.inReset = false → KeepsAlwaysOn s u s.reachedNow ∧ u.boot.fault = s.topFault)) ∧
    (dead = true → exec .watchdog s = .next s ∧ exec .lockstepError s = .next s) ∧
    (dead = false → Answers .watchdog s (fun u => InResetFrom s u 6 ∧ KeepsAlwaysOn s u s.reachedNow ∧ u.boot.reason = 0)) ∧
    (dead = false → Answers .lockstepError s (fun u => InResetFrom s u 7 ∧ KeepsAlwaysOn s u s.reachedNow ∧ u.boot.reason = 0)) ∧
    (b.failed = 0 ∨ b.inReset = true → exec .bootFail s = .next s) ∧
    (b.failed ≠ 0 → b.inReset = false → Answers .bootFail s (fun u => InResetFrom s u 9 ∧ KeepsAlwaysOn s u s.reachedNow ∧ u.boot.reason = b.failed)) ∧
    (b.inReset = false → exec .resetRelease s = .next s) ∧
    (b.inReset = true → Answers .resetRelease s (fun u => u.boot.inReset = false ∧ u.boot.step = 2 ∧ u.boot.nrstIn = false ∧ u.boot.uncleared = true ∧ u.en 1 0x011 0 = b.cause ∧
      (b.cause ≠ 0x0A → u.en 1 0x013 0 = 0) ∧ (∀ src, b.cause = 0x0A → b.heldWake = some src → u.en 1 0x013 0 = src + 1) ∧ ⟨0x0B0007 + 256 * b.cause, false⟩ ∈ u.flt.reports ∧
      (s.drv.killPin = true → 0x0B0001 ∈ u.flt.live ∧ u.flt.src.getLsbD 118 = true) ∧
      (b.keptAon = false → u.boot.count = b.count ∧ u.boot.fails = b.fails) ∧
      (b.keptAon = true → u.boot.count = min 15 (b.count + 1) ∧ u.en 1 0x020 0 = min 15 (b.count + 1) ∧ (u.boot.tadpole = true ↔ 3 ≤ b.count) ∧
        (b.uncleared = false → u.boot.fails = b.fails) ∧
        (b.uncleared = true → u.boot.fails = ((b.cause * 2 ^ 40 + b.reached * 2 ^ 32 + b.reason * 2 ^ 24 + b.fault) :: b.fails).take 3))))

/-- The boot sequence (R346, R360 to R364): each step of R361 in its order, T48 from 0 at step 3, the OTP sensed at step 4, the counter at step 6, the links at step 8, and IDLE, SAFE or TADPOLE with START at step 11; a step that takes too long
records its reason and waits for the reset, but repeats in a start bound for Tadpole mode where the reason is XTAL, PLL or SELFTEST; the counter returns to 0 after 1 s.
Readings that the model chose: log entry 48. -/
def Obligations.BootSequenceRunsItsSteps : Prop :=
  ∀ (s : State) (ok : Bool) (r w p : Nat), s.booting = true →
    let b := s.boot
    let go := Instr.bootStepComplete
    let goes (u : State) (n : Nat) : Prop := u.boot.step = n ∧ u.boot.failed = 0 ∧ u.dev = devBoot
    let n := min 15 (((s.status 0).getD 0 0).toNat % 16 + 1)
    let reason := if b.step = 2 then 1 else if b.step = 3 then 2 else if b.step = 5 then 5 else if b.step = 8 then 6 else 7
    let links := [32, 33, 34, 35]
    (b.stuck = 0 →
      (b.step = 2 → Answers go s (fun u => goes u 3 ∧ u = { s with boot := u.boot })) ∧
      (b.step = 3 → Answers go s (fun u => goes u 4 ∧ u.t48 = 0 ∧ ∀ l ∈ links, (u.lane l).st = .training)) ∧
      (b.step = 4 → (∀ i, i < 3 → s.lockState i = 0) → s.mem.upset = [] → Answers go s (fun u => goes u 5 ∧ u.boot.otpFail = 0 ∧ (r < 3 → u.regionOk r = true ∧
        (w < otpWords r → Tab.get (fun _ => 0) u.mem.shadow (256 * r + w) = s.otp r w)))) ∧
      (b.step = 4 → s.lockState 0 ≠ 0 → s.otp 0 (sealWord 0) ≠ sealOf 0 (s.otp 0) → Answers go s (fun u => goes u 5 ∧ u.boot.otpFail = 3 ∧ u.regionOk 0 = false)) ∧
      (b.step = 5 → Answers go s (fun u => goes u 6)) ∧
      (b.step = 6 → b.otpFail = 0 → b.keptAon = true → s.deferring = false → Answers go s (fun u => goes u 7 ∧ u.en 1 0x020 0 = b.count ∧ u.boot.count = b.count ∧
        (u.status 0).getD 0 0 = BitVec.ofNat 24 b.count)) ∧
      (b.step = 6 → b.otpFail = 0 → b.keptAon = false → Answers go s (fun u => goes u 7 ∧ u.boot.count = n ∧ u.en 1 0x020 0 = n ∧
        (u.boot.tadpole = true ↔ 3 ≤ ((s.status 0).getD 0 0).toNat % 16))) ∧
      (b.step = 6 → b.otpFail ≠ 0 → b.keptAon = true → b.tadpole = false → Answers go s (fun u => u.boot.failed = b.otpFail ∧ u.en 1 0x014 0 = b.otpFail ∧ u.boot.step = 6)) ∧
      (b.step = 7 → Answers go s (fun u => goes u 8)) ∧
      (b.step = 8 → (∃ l ∈ links, (s.lane l).st = .failed) → Answers go s (fun u => u.boot.failed = 6 ∧ u.en 1 0x014 0 = 6 ∧ u.boot.step = 8)) ∧
      (b.step = 8 → (∀ l ∈ links, (s.lane l).st = .active) → s.rallyState ≠ 0 → Answers go s (fun u => goes u 9)) ∧
      (b.step = 8 → (∃ l ∈ links, (s.lane l).st = .training) → (∀ l ∈ links, (s.lane l).st ≠ .failed) → exec go s = .next s) ∧
      (b.step = 9 → Answers go s (fun u => goes u 10)) ∧
      (b.step = 10 → Answers go s (fun u => goes u 11)) ∧
      (b.step = 11 → (∀ g, g < 12 → (s.stg g).st = .off) → (∀ i, i < 2 → s.ver i = 0) → Answers go s (fun u => u.boot.step = 0 ∧
        u.dev = (if b.tadpole then devTadpole else if b.safe then devSafe else devIdle) ∧ (∀ i, i < 2 → ∃ m ∈ (u.sess i).notif, m.ntype = 1)))) ∧
    (b.stuck ≠ 0 → exec go s = .next s ∧ exec .bootStepTimeout s = .next s) ∧
    (∀ t : State, t.booting = false → exec go t = .next t ∧ exec .bootStepTimeout t = .next t ∧ exec (.bootRetry ok) t = .next t) ∧
    (b.stuck = 0 → b.tadpole = true → reason = 1 ∨ reason = 2 ∨ reason = 5 → Answers .bootStepTimeout s (fun u => u.en 1 0x014 0 = reason ∧
      u = { s with boot := { b with stuck := b.step }, ent := u.ent })) ∧
    (b.stuck = 0 → b.tadpole = false ∨ (reason ≠ 1 ∧ reason ≠ 2 ∧ reason ≠ 5) → Answers .bootStepTimeout s (fun u =>
      u.boot.failed = reason ∧ u.en 1 0x014 0 = reason ∧ u = { s with boot := u.boot, ent := u.ent })) ∧
    (b.stuck = 0 ∨ ok = false → exec (.bootRetry ok) s = .next s) ∧
    (b.stuck ≠ 0 → exec (.bootRetry true) s = exec go { s with boot := { b with stuck := 0 } }) ∧
    (∀ t : State, t.dev ≠ devIdle → t.dev ≠ devOperational → t.dev ≠ devPark → exec .startCounterClear t = .next t) ∧
    (∀ t : State, t.dev = devIdle ∨ t.dev = devOperational ∨ t.dev = devPark → Answers .startCounterClear t (fun u => u.boot.count = 0 ∧ u.boot.uncleared = false ∧ u.en 1 0x020 0 = 0 ∧ u.dev = t.dev ∧
      (t.boot.trial = false → u.en 0xB 0x020 p = t.en 0xB 0x020 p ∧ (t.deferring = false → (u.status 0).getD 0 0 = 0)) ∧
      (t.boot.trial = true → t.dev ≠ devPark → t.boot.slot = some p → p < 2 → u.en 0xB 0x020 p = 3 ∧ u.boot.trial = false ∧
        (t.en 0xB 0x020 (1 - p) = 3 → u.en 0xB 0x020 (1 - p) = 1))))

/-- The device commands (R356, R358, R364, R366 to R372, R376): each is accepted in its states and refused with the wrong-state error elsewhere. A warm restart ends every declaration and job of a stage, clears what is not live and enters IDLE; SOFT_RESET and RESTART_NORMAL reset with their
cause; STANDBY turns everything off once the journal is empty and keeps the wake sources; a wake starts the device with cause WAKE; PARK turns every quad off; FACTORY_TEST opens factory test mode; DEFAULTS leaves no journal bank in use, REJECT_PATCHES rejects both slots.
Readings that the model chose: log entries 51 to 53. -/
def Obligations.DeviceCommandsMoveTheDevice : Prop :=
  ∀ (s : State) (q : Req) (src : Fin 6) (g l n t a bank : Nat), Served s q →
    let k := mkKey 1 0x010 0
    let kr := mkKey 1 0x030 0
    let does (v lev : Nat) : Prop := Permits s q k v lev none
    let wrong (c : Instr) (key : Nat) : Prop := Answers c s (fun u => Responds u q key errWrongState s.dev [] ∧ u = { s with ses := u.ses })
    let refused (c : Instr) (key : Nat) : Prop := Answers c s (fun u => RefusesWith s u q key 0 ∧ u = { s with ses := u.ses })
    let unarmed := ∀ h, h < 12 → (s.stg h).st.armedRwi = false
    let allOff := ∀ h, h < 12 → s.declared h = false
    let serves := s.dev = devTadpole ∨ (s.dev = devIdle ∧ allOff)
    let idleArray := s.deferring = false ∧ s.nvm.writing = false ∧ s.nvm.blocks = []
    (does 0 0 → s.dev ≠ devSafe → wrong (.warmRestart q) k) ∧
    (does 0 0 → s.dev = devSafe → (∃ x ∈ s.flt.latch, x.cls = 6 ∧ x.live = true) → refused (.warmRestart q) k) ∧
    (does 0 0 → s.dev = devSafe → (∀ x ∈ s.flt.latch, x.cls = 6 → x.live = false) → Answers (.warmRestart q) s (fun u => u.dev = devIdle ∧ Responds u q k 0 0 [0] ∧
      u.flt.kills = 0 ∧ u.flt.bankOff = 0 ∧ (∀ x ∈ u.flt.latch, ∃ y ∈ s.flt.latch, y.code = x.code ∧ (y.live = true ∨ y.inWin = true)) ∧
      (g < 12 → (s.en 0xD 0x000 g = 0 → (u.stg g).st = .off) ∧ (u.stg g).st.armedRwi = false ∧ ∀ e ∈ setpoints, u.en 0xD e g = entDefault (mkKey 0xD e g)))) ∧
    (does 1 0 → unarmed → s.boot.inReset = false → s.dev ∈ [devTadpole, devIdle, devOperational, devSafe, devPark] →
      Answers (.softReset q) s (fun u => InResetFrom s u 8 ∧ KeepsAlwaysOn s u s.reachedNow)) ∧
    (does 2 0 → s.dev ≠ devTadpole → wrong (.restartNormal q) k) ∧
    (does 2 0 → s.dev = devTadpole → s.boot.inReset = false → Answers (.restartNormal q) s (fun u =>
      u.boot.inReset = true ∧ u.boot.cause = 0x0B ∧ u.boot.keptAon = true ∧ u.boot.count = 0 ∧ u.dev = devBoot)) ∧
    (does 3 0 → s.dev ≠ devIdle → wrong (.standby q) k) ∧
    (does 3 0 → s.dev = devIdle → s.nvm.queue ≠ [] → Answers (.standby q) s (fun u => u.boot = { s.boot with standby := 1, standbyReq := some q } ∧
      q.tag ∈ (u.sess q.ses.val).inUse ∧ u = { s with boot := u.boot, ses := u.ses })) ∧
    (does 3 0 → s.dev = devIdle → s.nvm.queue = [] → Answers (.standby q) s (fun u => u.boot.standby = 5 ∧ Responds u q k 0 0 [0] ∧ (l < 36 → (u.lane l).st = .off) ∧ u.drv.gvdd = 0 ∧
      u.boot.count = 0 ∧ u.boot.wake.timer = s.en 1 0x040 0 ∧ (u.boot.wake.localOn = true ↔ s.en 1 0x041 0 = 1) ∧ u.dev = s.dev)) ∧
    (∀ z : State,
      (z.boot.standby ≠ 1 → exec .standbyQueueTimeout z = .next z) ∧
      (z.boot.standby = 1 → z.boot.standbyReq = some q → Answers .standbyQueueTimeout z (fun u => u.boot = { z.boot with standby := 0, standbyReq := none } ∧
        RefusesWith z u q k 0 ∧ u = { z with boot := u.boot, ses := u.ses })) ∧
      (z.boot.standby ≠ 5 → exec .standbyEntered z = .next z) ∧
      (z.boot.standby = 5 → z.boot.heldWake = none → Answers .standbyEntered z (fun u => u.dev = devStandby ∧ u.boot.inReset = false ∧ u.boot.standby = 0 ∧ u.boot.wake = z.boot.wake ∧
        u.mem.otp = z.mem.otp ∧ (z.nvm.writing = false → u.mem.fram = z.mem.fram))) ∧
      (z.boot.standby = 5 → z.boot.heldWake = some n → Answers .standbyEntered z (fun u => u.boot.inReset = true ∧ u.boot.cause = 0x0A ∧ u.boot.heldWake = some n)) ∧
      (z.dev = devStandby → z.boot.wake.enabled src = false → exec (.wakeEvent src) z = .next z) ∧
      (z.dev = devStandby → z.boot.wake.enabled src = true → z.boot.inReset = false → Answers (.wakeEvent src) z (fun u => InResetFrom z u 0x0A ∧ u.boot.heldWake = some src.val)) ∧
      (z.dev ≠ devStandby → z.boot.standby = 5 → z.boot.wake.enabled src = true → Answers (.wakeEvent src) z (fun u =>
        u = { z with boot := { z.boot with heldWake := some (z.boot.heldWake.getD src) } })) ∧
      (z.dev ≠ devStandby → z.boot.standby ≠ 5 → z.boot.standby ≠ 1 → exec (.wakeEvent src) z = .next z)) ∧
    (does 4 0 → s.dev ≠ devIdle → wrong (.park q) k) ∧
    (does 4 0 → s.dev = devIdle → Answers (.park q) s (fun u => u.dev = devPark ∧ Responds u q k 0 0 [0] ∧ (n < 4 → u.en 2 0x040 n = 0) ∧
      (t < 96 → s.taskOn t = true → (u.task t).codeLen = 0 ∧ u.en 2 0x031 t = 1) ∧ (a < 131072 → Tab.get (fun _ => 0) u.mem.pm a = 0))) ∧
    (does 5 0 → s.dev ≠ devPark → wrong (.wake q) k) ∧
    (does 5 0 → s.dev = devPark → Answers (.wake q) s (fun u => u.dev = devIdle ∧ Responds u q k 0 0 [0] ∧
      (s.boot.safe = false → s.toPlace ≠ [] → s.freeSlot.isSome = true → ∃ p ∈ u.ref.job, p.2.kind = .place))) ∧
    (does 6 2 → s.dev ≠ devIdle → wrong (.factoryTest q) k) ∧
    (does 6 2 → s.dev = devIdle → ¬ allOff → refused (.factoryTest q) k) ∧
    (does 6 2 → s.dev = devIdle → allOff → Answers (.factoryTest q) s (fun u => u = { s with boot := { s.boot with factory := true }, ses := u.ses } ∧ Confirms s u q k)) ∧
    (Permits s q kr 0 0 none → (serves → idleArray → Answers (.defaults q) s (fun u => Confirms s u q kr ∧ u = { s with mem := { s.mem with fram := u.mem.fram, upset := u.mem.upset }, ses := u.ses } ∧
        (bank < 2 → u.bankState bank = if s.bankState bank = 0 then 0 else 4))) ∧
      (s.dev ≠ devTadpole → s.dev ≠ devIdle → wrong (.defaults q) kr)) ∧
    (Permits s q kr 1 0 none → (serves → idleArray → Answers (.rejectPatches q) s (fun u => Confirms s u q kr ∧ (bank < 2 → u.en 0xB 0x020 bank = 4 ∧ u.en 0xB 0x021 bank = s.en 0xB 0x021 bank) ∧
        u = { s with mem := { s.mem with fram := u.mem.fram, upset := u.mem.upset }, ent := u.ent, ses := u.ses })) ∧
        (serves → s.deferring = false → s.nvm.writing = true ∨ s.nvm.blocks ≠ [] → Answers (.rejectPatches q) s (fun u => Confirms s u q kr ∧ (bank < 2 → u.en 0xB 0x020 bank = 4) ∧
          s.nvm.blocks.length < u.nvm.blocks.length ∧ u = { s with ent := u.ent, nvm := { s.nvm with blocks := u.nvm.blocks }, ses := u.ses })) ∧
      (s.dev = devIdle → ¬ allOff → refused (.rejectPatches q) kr))

/-! ### CAN FD (15_can_fd.md) and process maps (16_dictionary_protocol.md) -/

/-- The controllers (R380 to R384, R386, R387, R389, R393): START in OFF with a timing that holds goes to INTEGRATING; STOP turns a controller off at once or after its frame, but not the dictionary controller through itself; RECOVER leaves BUS_OFF; in Tadpole mode each is a wrong state (R395); 11 recessive bits end INTEGRATING;
a frame sent lowers TEC and empties its buffer; lost arbitration counts no attempt; an error raises TEC or REC, 128 being ERROR_PASSIVE and 256 BUS_OFF; a frame received with this node's response or notification identifier is reported; recovery clears both; waiting too long is reported of the dictionary controller alone.
Readings that the model chose: log entries 38, 39 and 53 (the counters stand while a controller integrates). -/
def Obligations.CanControllersFollowTheBus : Prop :=
  ∀ (s : State) (q : Req) (n : Fin 4) (kind : BitVec 3) (weight : BitVec 4) (clash : Bool) (b m : Nat) (frame : CanFrame),
    let c := s.can n
    let k := mkKey 0xC 0x022 n
    let tad : Prop := s.dev = devTadpole
    let onBus : Prop := c.st = .errorActive ∨ c.st = .errorPassive
    let clock : Prop := 2 ∉ s.pwm.clkLost
    let others (u : State) : Prop := ∀ j, j ≠ n.val → u.can j = s.can j
    let judged (t r : Nat) : CanSt := if 128 ≤ t ∨ 128 ≤ r then .errorPassive else .errorActive
    let refused (i : Instr) : Prop := Answers i s (fun u => RefusesWith s u q k 0 ∧ u = { s with ses := u.ses })
    (Served s q →
      (tad → 1 ≤ s.level q.ses.val → ∀ i ∈ [Instr.canStart q n, .canStop q n, .recover q n],
        Answers i s (fun u => Responds u q k errWrongState devTadpole [] ∧ u = { s with ses := u.ses })) ∧
      (Permits s q k 0 0 none →
        (c.st ≠ .off ∨ timingFits (s.canTiming n) = false → refused (.canStart q n)) ∧
        (c.st = .off → timingFits (s.canTiming n) = true → Answers (.canStart q n) s (fun u =>
          u.can n = { c with st := .integrating, tec := 0, rxErr := 0, timing := s.canTiming n, monitor := decide (s.en 0xC 0x021 n = 1), wire := none, stopping := false } ∧
          others u ∧ u.en 0xC 0x023 n = 1 ∧ u.en 0xC 0x03B n = 0 ∧ Confirms s u q k ∧ u = { s with cans := u.cans, ent := u.ent, ses := u.ses }))) ∧
      (Permits s q k 1 0 none →
        (c.st = .off ∨ (q.ses = 0 ∧ n.val = s.dictCan) → refused (.canStop q n)) ∧
        (c.st ≠ .off → q.ses ≠ 0 ∨ n.val ≠ s.dictCan → c.wire.isSome = true → Answers (.canStop q n) s (fun u =>
          u.can n = { c with stopping := true } ∧ others u ∧ Confirms s u q k ∧ u = { s with cans := u.cans, ses := u.ses })) ∧
        (c.st ≠ .off → q.ses ≠ 0 ∨ n.val ≠ s.dictCan → c.wire = none → Answers (.canStop q n) s (fun u =>
          u.can n = { c with st := .off, stopping := false, bufs := [] } ∧ others u ∧ u.en 0xC 0x023 n = 0 ∧ Responds u q k 0 0 [0]))) ∧
      (Permits s q k 2 0 none →
        (c.st ≠ .busOff → refused (.recover q n)) ∧
        (c.st = .busOff → Answers (.recover q n) s (fun u => u.can n = { c with st := .recovering } ∧ others u ∧ u.en 0xC 0x023 n = 5 ∧ Confirms s u q k)))) ∧
    (c.st ≠ .integrating ∨ ¬ clock → exec (.canIntegrated n) s = .next s) ∧
    (c.st = .integrating → clock → Answers (.canIntegrated n) s (fun u => (u.can n).st = judged c.tec c.rxErr ∧ (u.can n).tec = c.tec ∧ (u.can n).rxErr = c.rxErr ∧ others u)) ∧
    ((¬ onBus ∧ c.st ≠ .integrating) ∨ ¬ clock ∨ frame.ok = false → exec (.canFrameReceived n frame) s = .next s) ∧
    (c.st = .integrating → clock → frame.ok = true → n.val ≠ s.dictCan → c.rf0 = [] → Answers (.canFrameReceived n frame) s (fun u =>
      (u.can n).st = .integrating ∧ (u.can n).tec = c.tec ∧ (u.can n).rxErr = c.rxErr ∧ (u.can n).wire = c.wire ∧ others u)) ∧
    (onBus → clock → frame.ok = true → n.val = s.dictCan → c.rf0 = [] → frame.ide = false → frame.ident.toNat = s.rspId ∨ frame.ident.toNat = s.ntfId → frame.ident.toNat ≠ s.reqId →
      Answers (.canFrameReceived n frame) s (fun u => ⟨0x0D0004 + 256 * n.val, false⟩ ∈ u.flt.reports ∧ others u)) ∧
    (c.wire = none ∨ ¬ onBus ∨ ¬ clock ∨ c.monitor = true → exec (.canTxDone n) s = .next s ∧ exec (.canArbitrationLost n) s = .next s) ∧
    (onBus → clock → c.monitor = false → c.stopping = false → c.wire = some b → 32 ≤ b → b < 64 → (c.buf b).shadow = none →
      Answers (.canTxDone n) s (fun u => (u.can n).tec = c.tec - 1 ∧ (u.can n).rxErr = c.rxErr ∧ (u.can n).buf b = TxBuf.empty ∧ others u ∧ (u.can n).st = judged (c.tec - 1) c.rxErr ∧
        (u.can n).wire ≠ some b) ∧
      Answers (.canArbitrationLost n) s (fun u => (u.can n).buf b = c.buf b ∧ (u.can n).tec = c.tec ∧ (u.can n).st = c.st ∧ others u)) ∧
    (¬ onBus ∨ ¬ clock ∨ kind = 0 ∨ kind = 7 → ∀ tx, exec (.canError n kind tx clash weight) s = .next s) ∧
    (onBus → clock → kind ≠ 0 → kind ≠ 7 → c.monitor = false →
      Answers (.canError n kind false clash weight) s (fun u => (u.can n).tec = c.tec ∧ (u.can n).rxErr = min 128 (c.rxErr + weight.toNat) ∧ u.en 0xC 0x043 n % 8 = kind.toNat ∧
        (c.tec ≤ 255 → (u.can n).st = judged c.tec (min 128 (c.rxErr + weight.toNat))) ∧ others u) ∧
      (c.wire = some b → 32 ≤ b → b < 64 → c.stopping = false → c.tec + weight.toNat ≤ 255 → Answers (.canError n kind true clash weight) s (fun u =>
        (u.can n).tec = c.tec + weight.toNat ∧ (u.can n).rxErr = c.rxErr ∧ (u.can n).st = judged (c.tec + weight.toNat) c.rxErr ∧ others u ∧
        ((c.buf b).shadow = none → s.txLimit n b = none → (u.can n).buf b = { c.buf b with tries := (c.buf b).tries + 1 }) ∧
        ((c.buf b).shadow = none → s.txLimit n b = some m → m ≤ (c.buf b).tries → (u.can n).buf b = TxBuf.empty))) ∧
      (c.wire = some b → 32 ≤ b → b < 64 → c.stopping = false → 255 < c.tec + weight.toNat → Answers (.canError n kind true clash weight) s (fun u =>
        (u.can n).st = (if s.en 0xC 0x024 n = 0 ∨ tad then .recovering else .busOff) ∧ 0x0D0002 + 256 * n.val ∈ u.flt.live ∧ u.en 0xC 0x042 n = min 65535 (s.en 0xC 0x042 n + 1) ∧
        u.en 0xC 0x040 n = 255 ∧ others u))) ∧
    (c.st ≠ .recovering ∨ ¬ clock → exec (.canRecovered n) s = .next s) ∧
    (c.st = .recovering → clock → Answers (.canRecovered n) s (fun u => (u.can n).st = .errorActive ∧ (u.can n).tec = 0 ∧ (u.can n).rxErr = 0 ∧ others u ∧ 0x0D0002 + 256 * n.val ∉ u.flt.live)) ∧
    (n.val ≠ s.dictCan → exec (.canQueueLate n) s = .next s) ∧
    (n.val = s.dictCan → (s.sess 0).resp ≠ [] → (∀ p ∈ s.flt.lastAt, p.1 ≠ 0x0D0005 + 256 * n.val) → Answers (.canQueueLate n) s (fun u =>
      u.flt.reports = s.flt.reports ++ [⟨0x0D0005 + 256 * n.val, false⟩] ∧ u = { s with flt := u.flt }))

/-- Process maps (R388, R420 to R422): an enabled receive map gets its block in a shared tile, or is refused; a frame that it takes stores the words of its items there, counts and raises EV(412 + m), and one too short only counts; an enabled transmit map writes the frame of its items into MB(32 + m)
at its period; a map whose frame does not fit is refused with RANGE.
Readings that the model chose: log entry 41. -/
def Obligations.ProcessMapsMoveData : Prop :=
  ∀ (s : State) (q : Req) (m : Fin 32) (n : Fin 4) (frame : CanFrame) (a i : Nat) (x : Nat × Nat × Bool × Bool),
    let kr := mkKey 0xE 0x000 m
    let kt := mkKey 0xE 0x200 m
    let c := s.can n
    let rxBad := s.mapBad m (s.en 0xE 0x001 m) (s.en 0xE 0x002 m) (s.rxReach m) 64 false
    let txBad := s.mapBad m (s.en 0xE 0x201 m) (s.en 0xE 0x202 m) ((s.txItems m).foldl (fun a x => a + x.2) 0) (if s.en 0xE 0x203 m = 0 then 8 else 64) true
    let range (j : Instr) (k : Nat) : Prop := Answers j s (fun u => Responds u q k errRange 0 [] ∧ u = { s with ses := u.ses })
    let o := s.en 0xE 0x201 m
    let f := mkFrame (s.en 0xE 0x202 m % 2 ^ 29) ((s.en 0xE 0x202 m).testBit 29) (s.en 0xE 0x203 m) ((s.txItems m).flatMap s.txBytes)
    let off : Prop := s.en 0xE 0x200 m = 0 ∨ (s.can o).st = .off ∨ (s.can o).monitor = true ∨ s.dev = devBoot ∨ s.dev = devTadpole ∨ s.dev = devStandby
    let takes : Prop := (c.st = .errorActive ∨ c.st = .errorPassive) ∧ 2 ∉ s.pwm.clkLost ∧ frame.ok = true ∧ s.rxMaps n frame = [m.val] ∧ c.rf0 = [] ∧ c.rf1 = [] ∧
      (n.val ≠ s.dictCan ∨ frame.ide = true ∨ frame.ident.toNat ≠ s.reqId) ∧ s.dev ≠ devBoot ∧ s.dev ≠ devStandby ∧ s.dev ≠ devTadpole
    (Served s q → s.en 0xE 0x000 m = 0 → Permits s q kr 1 0 none →
      (rxBad = true → range (.rxmEnable q m 1) kr) ∧
      (rxBad = false → s.en 0xE 0x004 m = 0 → s.tileRun 96 (s.en 0xE 0x003 m) = none → Answers (.rxmEnable q m 1) s (fun u => RefusesWith s u q kr 0 ∧ u = { s with ses := u.ses })) ∧
      (rxBad = false → s.en 0xE 0x004 m = 0 → s.tileRun 96 (s.en 0xE 0x003 m) = some a → CanJournal s kr 1 → Answers (.rxmEnable q m 1) s (fun u => Journals s u q kr 1 ∧ u.en 0xE 0x004 m = a))) ∧
    (Served s q → s.en 0xE 0x000 m = 1 → Permits s q kr 0 0 none → s.rxBinders m = none → CanJournal s kr 0 → Answers (.rxmEnable q m 0) s (fun u => Journals s u q kr 0 ∧ u.en 0xE 0x004 m = 0)) ∧
    (Served s q → s.en 0xE 0x200 m = 0 → Permits s q kt 1 0 none →
      (txBad = true → range (.txmEnable q m 1) kt) ∧
      (txBad = false → CanJournal s kt 1 → Answers (.txmEnable q m 1) s (fun u => Journals s u q kt 1 ∧ u = { s with ent := u.ent, nvm := u.nvm, ses := u.ses }))) ∧
    (off → exec (.txmPeriod m) s = .next s) ∧
    (¬ off → o < 4 → Answers (.txmPeriod m) s (fun u => u.en 0xE 0x206 m = min 0xFFFFFF (s.en 0xE 0x206 m + 1) ∧
      ((s.can o).wire ≠ some (32 + m.val) → ((u.can o).buf (32 + m.val)).active = some f ∧ ((u.can o).buf (32 + m.val)).shadow = none) ∧
      ((s.can o).wire = some (32 + m.val) → ((u.can o).buf (32 + m.val)).shadow = some f ∧ ((u.can o).buf (32 + m.val)).active = ((s.can o).buf (32 + m.val)).active))) ∧
    (takes → s.rxReach m ≤ frame.data.length → Answers (.canFrameReceived n frame) s (fun u => u.en 0xE 0x005 m = min 0xFFFFFF (s.en 0xE 0x005 m + 1) ∧ 412 + m.val ∈ u.evBus ∧
      Tab.get (fun _ => 0) u.rxAt m = s.t48.toNat + 1 ∧
      (s.en 0xE 0x004 m = a → 0x100000 ≤ a → a + (s.rxItems m).length ≤ 0x180000 → (s.rxItems m)[i]? = some x → u.memWord 0 (a + i) = rxWord frame.data x))) ∧
    (takes → frame.data.length < s.rxReach m → Answers (.canFrameReceived n frame) s (fun u => u.en 0xE 0x007 m = min 65535 (s.en 0xE 0x007 m + 1) ∧
      u.en 0xE 0x005 m = s.en 0xE 0x005 m ∧ u.mem = s.mem))

/-! ### The Relben protocol (16_dictionary_protocol.md) -/

namespace Sys2Proof.Machine

/-- Only the sessions changed, and of them only the requester's: the response to operation `op` (R406, R409). -/
def Replies (s u : State) (q : Req) (op err detail k : Nat) (body : List Byte) : Prop :=
  u = { s with ses := u.ses } ∧ ∀ j, u.sess j = if j = q.ses.val then (s.sess j).answered q op err detail k body else s.sess j

/-- A READ of key `k` does nothing beside its response (R94, R301): the key is no JOB_STATE, record or latch entry, and no free value. -/
def ReadsOnly (k : Nat) : Prop := freeEntry k = false ∧ (keyArea k, keyEntry k) ∉ [(2, 0x090), (0xA, 0x100), (0xA, 0x021)]

end Sys2Proof.Machine

/-- An access to a dictionary key that no chapter lists is answered with the no-such-key error, and nothing else changes (R8): a READ, a WRITE, a DESCRIBE and a READ_RANGE of it. -/
def Obligations.UnlistedKeysAreRefused : Prop :=
  ∀ (s : State) (q : Req) (key : BitVec 24) (len : BitVec 8) (v : BitVec 48) (n : BitVec 8), Served s q → 0x0202 ≤ s.ver q.ses.val → entRow key.toNat = none →
    ∀ c ∈ [(Instr.read q key, 2), (.write q key len v, 3), (.describe q key, 5), (.readRange q key n, 9)],
      Answers c.1 s (fun u => Replies s u q c.2 errNoSuchKey 0 key.toNat [])

/-- The requests of the dictionary (R399, R401, R402, R406, R411): HELLO opens a session of the highest common version at OPERATOR level; READ answers the bytes of the entry; WRITE of an entry with no command of its own stores and answers or journals; a command's entry does
what its command does; a wrong length is TYPE; NEXT_KEY, DESCRIBE and READ_RANGE answer without other effect.
Readings that the model chose: log entries 44 and 54. -/
def Obligations.DictionaryRequestsAreAnswered : Prop :=
  ∀ (s : State) (q : Req) (ses : Fin 2) (tag : BitVec 6) (lo hi : BitVec 16) (key : BitVec 24) (len n : BitVec 8) (v : BitVec 48) (r : EntRow) (e : Err) (ver j : Nat) (g : Fin 12),
    let x := s.sess ses
    let k := key.toNat
    let me := s.ver q.ses.val
    let num := if x.helloed then x.num + 1 else x.num
    let common := versions.find? (fun w => decide (lo.toNat ≤ w) && decide (w ≤ hi.toNat))
    let ks := (List.range n.toNat).map (fun i => k + i)
    (s.served ses = false → exec (.hello ses tag lo hi) s = .next s) ∧
    (s.served ses = true → s.boot.standby = 0 → x.segs = [] →
      (common = some ver → Answers (.hello ses tag lo hi) s (fun u => u.ver ses = ver ∧ u.level ses = 1 ∧
        (u.sess ses).resp = [⟨tag, 1, 0, 0, 0, [BitVec.ofNat 8 (ver / 256), BitVec.ofNat 8 ver, BitVec.ofNat 8 s.node, BitVec.ofNat 8 s.dev, num,
          BitVec.ofNat 8 ((if s.dev = devTadpole then 1 else 0) + (if s.boot.factory then 2 else 0))]⟩] ∧
        (u.sess ses).num = num ∧ (u.sess ses).inUse = [] ∧ (u.sess ses).segs = [] ∧ (u.sess ses).nonce = none ∧ (∀ i, i ≠ ses.val → u.sess i = s.sess i) ∧
        (∀ p ∈ u.ref.job, ∀ o, p.2.owner = some o → o.ses ≠ ses))) ∧
      (common = none → Answers (.hello ses tag lo hi) s (fun u => u.ver ses = 0 ∧ u.level ses = 0 ∧ (u.sess ses).resp = [⟨tag, 1, errVersion, 0, 0, []⟩]))) ∧
    (Served s q →
      (0x0102 ≤ me →
        (s.readCheck q.ses.val k = .error e → Answers (.read q key) s (fun u => Replies s u q 2 e.code e.detail k [])) ∧
        (s.readCheck q.ses.val k = .ok r → ReadsOnly k → Answers (.read q key) s (fun u => Replies s u q 2 0 0 k (wireBytes r.ty (s.readEntry k)))) ∧
        (s.readCheck q.ses.val k = .ok r → freeEntry k = true → Answers (.read q key) s (fun u => Replies { s with free := s.free + 1 } u q 2 0 0 k (wireBytes r.ty (s.readEntry k)))) ∧
        (s.readCheck q.ses.val k = .ok r → keyArea k = 2 → keyEntry k = 0x090 → 4 ≤ s.en 2 0x090 (keyElem k) → Answers (.read q key) s (fun u =>
          u = { s with ent := u.ent, ses := u.ses } ∧ u.en 2 0x090 (keyElem k) = 0 ∧ (u.sess q.ses.val).resp = (s.sess q.ses.val).resp ++ [⟨q.tag, 2, 0, 0, k, wireBytes r.ty (s.readEntry k)⟩])) ∧
        (s.readCheck q.ses.val k = .ok r → keyArea k = 0xA → keyEntry k = 0x100 → (s.scAt (keyElem k)).used = true → Answers (.read q key) s (fun u =>
          u.scAt (keyElem k) = { s.scAt (keyElem k) with read := true } ∧ u = { s with flt := u.flt, ses := u.ses }))) ∧
      (entRow k = some r → keyArea k = 0 ∨ keyArea k = 4 ∨ keyArea k = 9 ∨ k = mkKey 0xA 0x302 0 → r.acc = .rw ∨ r.acc = .rwi → r.ty ≠ .blob → len.toNat = r.ty.bytes → v.toNat < 2 ^ (8 * len.toNat) → Permits s q k v.toNat 0 none →
        (s.writeWhy k v.toNat = some e → Answers (.write q key len v) s (fun u => Replies s u q 3 e.code e.detail k [])) ∧
        (s.writeWhy k v.toNat = none → r.kept = false → Answers (.write q key len v) s (fun u => Confirms s u q k ∧ u.getKey k = v.toNat ∧ u = { s with ent := u.ent, ses := u.ses } ∧
          (j ≠ k → u.getKey j = s.getKey j))) ∧
        (s.writeWhy k v.toNat = none → r.kept = true → CanJournal s k v.toNat → Answers (.write q key len v) s (fun u => Journals s u q k v.toNat ∧ u = { s with ent := u.ent, nvm := u.nvm, ses := u.ses })) ∧
        (s.writeWhy k v.toNat = none → r.kept = true → s.getKey k = v.toNat → Answers (.write q key len v) s (fun u => Replies s u q 3 0 0 k [3]))) ∧
      (entRow k = some r → r.acc ≠ .ro → len.toNat ≠ r.ty.bytes → Permits s q k (s.getKey k) 0 none → Answers (.write q key len v) s (fun u => Replies s u q 3 errType 0 k [])) ∧
      (∀ c ∈ [(1, Instr.remove q g), (0, .declare q g), (2, .arm q g), (3, .run q g), (4, .stop q g), (5, .stageDisarm q g), (6, .clear q g)],
        exec (.write q (BitVec.ofNat 24 (mkKey 0xD 0x010 g)) 1 c.1) s = exec c.2 s) ∧
      (0x0201 ≤ me →
        (nextOf k = some j → Answers (.nextKey q key) s (fun u => Replies s u q 4 0 0 j [])) ∧
        (nextOf k = none → Answers (.nextKey q key) s (fun u => Replies s u q 4 errNoSuchKey 0 k [])) ∧
        (entRow k = some r → s.level q.ses.val ≤ r.level → Answers (.describe q key) s (fun u => Replies s u q 5 errLevel 0 k [])) ∧
        (entRow k = some r → r.level < s.level q.ses.val → Answers (.describe q key) s (fun u => Replies s u q 5 0 0 k
          ([BitVec.ofNat 8 (r.ty.code + 16 * r.acc.code + 64 * b2n r.kept), BitVec.ofNat 8 r.level, BitVec.ofNat 8 (r.n - 1)] ++
            if noDefault r (keyEntry k) then [] else wireBytes r.ty (entDefault k))))) ∧
      (0x0202 ≤ me →
        (entRow k = some r → n.toNat = 0 ∨ 32 < n.toNat → Answers (.readRange q key n) s (fun u => Replies s u q 9 errRange 0 k [])) ∧
        (1 ≤ n.toNat → n.toNat ≤ 32 → keyElem k + n.toNat ≤ 256 → (∀ i ∈ ks, ReadsOnly i) → (∀ i ∈ ks, ∃ y, s.readCheck q.ses.val i = .ok y ∧ y.ty ≠ .blob) →
          Answers (.readRange q key n) s (fun u => Replies s u q 9 0 0 k (ks.flatMap (fun i => ((entRow i).map (s.readBytes i)).getD []))))))

namespace Sys2Proof.Machine

/-- Request `q` has a response to operation `op` on `k` in its session. -/
def RespondsTo (u : State) (q : Req) (op err k : Nat) (body : List Byte) : Prop := ⟨q.tag, op, err, 0, k, body⟩ ∈ (u.sess q.ses.val).resp

end Sys2Proof.Machine

/-- Levels and transfers (R406 to R409, R412): CHALLENGE answers a nonce of free bits; UNLOCK with its MAC raises the level and otherwise is counted and locks CHALLENGE out; LOCK and the SERVICE timeout return to OPERATOR; a write in segments takes its bytes in the order of the counter, is acknowledged at
every 8th and fails out of order, on ABORT and at its timeout; SEG_NEXT sends the next bytes.
Readings that the model chose: log entries 43 to 45. -/
def Obligations.LevelsAndTransfersFollowTheirRules : Prop :=
  ∀ (s : State) (q : Req) (ses : Fin 2) (tag : BitVec 6) (level ctr n : BitVec 8) (mac data : List Byte) (v l t e : Nat) (g : Seg),
    let i := q.ses.val
    let x := s.sess i
    let nonce := (Config.free 128 s.free).toNat
    let good := l = level.toNat ∧ s.since t ≤ 4000000000 ∧ mac.map (·.toNat) = s.macOf i v level.toNat
    let plain := (entRow g.key).any (fun r => r.ty == .blob) = false
    let ended (u : State) (w : Bool) : Prop := u.segOf q w = none
    let count := mkKey 0 0x015 i
    let cap := segCap (s.ver i == 0x0102) (s.fmtOf i ⟨q.tag, 7, 0, 0, 0, []⟩)
    (Served s q → 0x0200 ≤ s.ver i →
      (level ≠ 1 → level ≠ 2 → Answers (.challenge q level) s (fun u => Replies s u q 10 errRange 0 0 [])) ∧
      (level = 1 ∨ level = 2 → x.lockout = some e → Answers (.challenge q level) s (fun u => Replies s u q 10 errLockout (((BitVec.ofNat 48 e - s.t48).toNat + 399999) / 400000) 0 [])) ∧
      (level = 1 → x.lockout = none → s.regionOk 2 = false → Answers (.challenge q level) s (fun u => Replies s u q 10 errRefused 0 0 [])) ∧
      (level = 2 ∨ (level = 1 ∧ s.regionOk 2 = true) → x.lockout = none → Answers (.challenge q level) s (fun u => u = { s with free := s.free + 1, ses := u.ses } ∧
        u.sess i = ({ x with nonce := some (nonce, level.toNat, s.t48.toNat) } : Sess).answered q 10 0 0 0 (beBytes nonce 16) ∧ ∀ j, j ≠ i → u.sess j = s.sess j)) ∧
      (x.nonce = some (v, l, t) → good → Answers (.unlock q level mac) s (fun u => u.level i = level.toNat + 1 ∧
        u.sess i = ({ x with nonce := none, fails := 0 } : Sess).answered q 11 0 0 0 [] ∧ u = { s with ent := u.ent, ses := u.ses, flt := u.flt })) ∧
      (x.nonce = none ∨ (x.nonce = some (v, l, t) ∧ ¬ good) → Answers (.unlock q level mac) s (fun u => u.level i = s.level i ∧ u.en 0 0x016 i = min 65535 (s.en 0 0x016 i + 1) ∧
        u.sess i = ({ x with nonce := none, fails := x.fails + 1, lockout := some (s.t48.toNat + (if 5 ≤ x.fails + 1 then 60 else 1) * 400000000) } : Sess).answered q 11 errAuth 0 0 [] ∧
        u = { s with ent := u.ent, ses := u.ses })) ∧
      Answers (.lockSession q) s (fun u => u.level i = 1 ∧ u.sess i = x.answered q 12 0 0 0 [] ∧ u = { s with ent := u.ent, ses := u.ses })) ∧
    (s.level ses < 2 → exec (.serviceTimeout ses) s = .next s) ∧
    (2 ≤ s.level ses → Answers (.serviceTimeout ses) s (fun u => u = { s with ent := u.ent } ∧ OnlyEntries s u [(mkKey 0 0x013 ses, 1)])) ∧
    Answers (.authLockoutEnd ses) s (fun u => u = { s with ses := u.ses } ∧ ∀ j, u.sess j = if j = ses.val then { s.sess ses with lockout := none } else s.sess j) ∧
    Answers (.storedResponseExpiry ses tag) s (fun u => u = { s with ses := u.ses } ∧
      ∀ j, u.sess j = if j = ses.val then { s.sess ses with stored := (s.sess ses).stored.filter (fun r => r.tag != tag) } else s.sess j) ∧
    (Served s q → 0x0102 ≤ s.ver i → s.segOf q true = none → exec (.segData q ctr data) s = .next s) ∧
    (s.segOf q true = some g → plain →
      (ctr ≠ g.counter + 1 → Answers (.segData q ctr data) s (fun u => ended u true ∧ RespondsTo u q g.op errSegSequence g.key [] ∧ Counts s u [count] ∧ u = { s with ent := u.ent, ses := u.ses })) ∧
      (ctr = g.counter + 1 → (g.data ++ data).length < g.total → ctr - g.acked ≠ 8 → Answers (.segData q ctr data) s (fun u =>
        u.segOf q true = some { g with counter := ctr, data := g.data ++ data } ∧ (u.sess i).resp = x.resp ∧ u = { s with ses := u.ses })) ∧
      (ctr = g.counter + 1 → (g.data ++ data).length < g.total → ctr - g.acked = 8 → Answers (.segData q ctr data) s (fun u =>
        u.segOf q true = some { g with counter := ctr, acked := ctr, data := g.data ++ data } ∧ (u.sess i).resp = x.resp ++ [⟨q.tag, 6, 0, 0, 0, [ctr]⟩] ∧ u = { s with ses := u.ses })) ∧
      Answers (.abort q) s (fun u => ended u true ∧ Counts s u [count] ∧ u = { s with ent := u.ent, ses := u.ses } ∧
        (u.sess i).resp = x.resp ++ [⟨q.tag, g.op, errAborted, 0, g.key, []⟩, ⟨q.tag, 8, 0, 0, g.key, []⟩]) ∧
      Answers (.segTimeout q.ses q.tag) s (fun u => ((u.sess i).segs.length < x.segs.length) ∧ u.en 0 0x015 i = min 65535 (s.en 0 0x015 i + 1) ∧
        ∃ h ∈ x.segs, h.tag = q.tag ∧ RespondsTo u q h.op errSegTimeout h.key [])) ∧
    ((∀ h ∈ x.segs, h.tag ≠ q.tag) → exec (.segTimeout q.ses q.tag) s = .next s) ∧
    (Served s q → 0x0102 ≤ s.ver i →
      (s.segOf q false = none → Answers (.segNext q n) s (fun u => Replies s u q 7 errSegSequence 0 0 [])) ∧
      (s.segOf q false = some g → n.toNat = 0 ∨ 8 < n.toNat → Answers (.segNext q n) s (fun u => Replies s u q 7 errRange 0 g.key [])) ∧
      (s.segOf q false = some g → n = 1 → g.sent < g.total → Answers (.segNext q n) s (fun u => u = { s with ses := u.ses } ∧
        (u.sess i).resp = x.resp ++ [⟨q.tag, 6, 0, 0, 0, (g.counter + 1) :: (g.data.drop g.sent).take cap⟩] ∧
        (g.sent + cap < g.total → u.segOf q false = some { g with counter := g.counter + 1, sent := g.sent + cap }) ∧ (g.total ≤ g.sent + cap → ended u false))) ∧
      (s.segOf q true = none → s.segOf q false = some g → Answers (.abort q) s (fun u => ended u false ∧ Counts s u [count] ∧ (u.sess i).resp = x.resp ++ [⟨q.tag, 8, 0, 0, g.key, []⟩])) ∧
      (s.segOf q true = none → s.segOf q false = none → Answers (.abort q) s (fun u => Replies s u q 8 0 0 0 [])))

/-! ### The LOCAL port (16_dictionary_protocol.md) -/

namespace Sys2Proof.Machine

/-- The effect of a port reset (R405): the LOCAL session has ended with its tags, responses and transfers (R411), the transmit queue is empty, and RECOVERED waits with the count of the responses discarded; a 2.x session on CAN gets it too (R415). -/
def PortReset (s u : State) : Prop :=
  let y := u.sess 1
  let lost := (s.sess 1).resp.length + (if s.lport.kind = 1 then 1 else 0)
  let m : Notif := ⟨s.t48.toNat, 7, 0, 1 :: beBytes (min 65535 lost) 2⟩
  u.ver 1 = 0 ∧ u.level 1 = 0 ∧ y.inUse = [] ∧ y.resp = [] ∧ y.stored = [] ∧ y.segs = [] ∧ y.nonce = none ∧ u.lport = ⟨0, 0, [], false, []⟩ ∧
  (∀ p ∈ u.ref.job, ∀ o, p.2.owner = some o → o.ses ≠ 1) ∧
  (s.ver 0 < 0x0200 → u.sess 0 = s.sess 0) ∧
  (0x0200 ≤ s.ver 0 → (s.sess 0).notif.length < 64 → u.sess 0 = { s.sess 0 with notif := (s.sess 0).notif ++ [m] }) ∧
  y.notif = (s.sess 1).notif.filter (fun m => m.ntype == 1 || m.ntype == 7) ++ [m]

end Sys2Proof.Machine

/-- A LOCAL port reset is a transaction whose byte 0 is 0xFF with a valid CRC, or the eighth of consecutive discarded transactions, which also raises LOCAL_PORT_ERROR (R405). It ends the LOCAL session, empties the transmit queue and counts every response it discards for the recovery
notification. Fewer discarded transactions do none of this. -/
def Obligations.LocalPortResets : Prop :=
  ∀ (s : State) (l : List Byte), s.served 1 = true → (s.sess 1).segs = [] →
    let valid := l.length = 68 ∧ ofBytes (l.drop 66) = (crc16 (l.take 66)).toNat
    let bad := l.length = 68 ∧ ofBytes (l.drop 66) ≠ (crc16 (l.take 66)).toNat
    (valid → l[0]? = some 0xFF → Answers (.localTransaction l) s (fun u => PortReset s u ∧ u.flt.reports = s.flt.reports)) ∧
    (bad → 7 ≤ s.lport.bad → Answers (.localTransaction l) s (fun u => PortReset s u ∧ u.flt.reports = s.flt.reports ++ [⟨0x0D1006, false⟩])) ∧
    (bad → s.lport.bad < 7 → Answers (.localTransaction l) s (fun u => u.lport.bad = s.lport.bad + 1 ∧ u.en 0 0x022 0 = min 65535 (s.en 0 0x022 0 + 1) ∧ u.flt = s.flt ∧ u.ver 1 = s.ver 1 ∧
      (u.sess 1).notif = (s.sess 1).notif)) ∧
    Answers .localPortReset s (PortReset s)

/-- Transactions of the LOCAL port (R404, R405, R411): where LOCAL is not served nothing happens; a frame that a transaction has carried leaves with the next valid one that does not refuse it, and stays with one that does; a discarded transaction
that carried it changes nothing of it; a HELLO in a transaction opens the session, and its response waits.
Readings that the model chose: log entry 46. -/
def Obligations.LocalTransactionsCarryFrames : Prop :=
  ∀ (s : State) (l : List Byte) (tag lo0 lo1 hi0 hi1 : Byte) (ver : Nat),
    let valid := l.length = 68 ∧ ofBytes (l.drop 66) = (crc16 (l.take 66)).toNat ∧ ∀ b, l[1]? = some b → b.toNat % 128 ≤ 64
    let idle := (s.sess 1).resp = [] ∧ s.lport.queue = []
    (s.served 1 = false → exec (.localTransaction l) s = .next s ∧ exec .localPortReset s = .next s) ∧
    (s.served 1 = true → valid → idle → s.lport.kind ≠ 0 → s.lport.sent = true →
      (l[0]? = some 0xA0 → Answers (.localTransaction l) s (fun u => u = { s with lport := ⟨0, 0, [], false, []⟩ })) ∧
      (l[0]? = some 0xA2 → Answers (.localTransaction l) s (fun u => u = { s with lport := { s.lport with bad := 0 } }))) ∧
    (s.served 1 = true → l.length = 68 → ofBytes (l.drop 66) ≠ (crc16 (l.take 66)).toNat → s.lport.bad < 7 → idle → s.lport.kind ≠ 0 → s.lport.sent = true →
      Answers (.localTransaction l) s (fun u => u = { s with ent := u.ent, lport := { s.lport with bad := s.lport.bad + 1 } })) ∧
    (s.served 1 = true → valid → idle → s.lport.kind ≠ 0 → s.lport.sent = false → l[0]? = some 0xA0 → Answers (.localTransaction l) s (fun u =>
      u = { s with lport := { s.lport with bad := 0, sent := true } })) ∧
    (s.served 1 = true → valid → idle → s.lport.kind = 0 → s.lport.sent = false → l[0]? = some 0xA0 → Answers (.localTransaction l) s (fun u =>
      u = { s with lport := { s.lport with bad := 0 } })) ∧
    (s.served 1 = true → valid → idle → s.lport.kind = 0 → (s.sess 1).segs = [] → s.boot.standby = 0 → tag.toNat < 64 →
      l.take 10 = [0xA1, 8, 1, tag, lo0, lo1, hi0, hi1, 0, 0] →
      versions.find? (fun w => decide (256 * lo0.toNat + lo1.toNat ≤ w) && decide (w ≤ 256 * hi0.toNat + hi1.toNat)) = some ver →
      Answers (.localTransaction l) s (fun u => u.ver 1 = ver ∧ u.level 1 = 1 ∧ u.lport.kind = 1 ∧ u.lport.sent = false ∧
        u.lport.out.take 4 = [1, tag, BitVec.ofNat 8 (ver / 256), BitVec.ofNat 8 ver]))

/-! ### Words, memory and reset -/

/-- The encoding of the engines' instructions (R38 to R42): the words that an instruction of an engine spells decode to it, with every field at every value; and a word that decodes to an instruction is the word that spells it, but in ACLD, ACADD, JMPR and LOOPI, whose formats name a
field that they do not use: every other word is ILLEGAL_OP.
Readings that the model chose: log entry 13. -/
def Obligations.EngineWordsDecode : Prop :=
  (∀ (i : Instr) (e : Fin 16) (w x : Word), engineWords i = some (w, x) → engineOf i = some e → decodeWord e w x = i) ∧
  (∀ (e : Fin 16) (w x : Word), opOf w ∉ [0x2B, 0x2C, 0x3A, 0x3C] →
    decodeWord e w x = .illegalOp e ∨ ∃ y, engineWords (decodeWord e w x) = some (w, y) ∧ (y = x ∨ y = 0))

/-- Every step keeps the canonical form of the word memories (R60, R329, R345): program memory, local data, the shared tiles, the ferroelectric array, the OTP array and its shadows; a word that holds what an unlisted address reads as is not listed.
Every command completes: from every state it answers a next state, and one whose memories are in canonical form leaves them so. -/
def Obligations.EveryStepKeepsMemoryCanonical : Prop :=
  (∀ s t : State, s.MemOk → step s = .next t → t.MemOk) ∧
  ∀ (c : Instr) (s : State), s.MemOk → ∃ t, exec c s = .next t ∧ t.MemOk

/-- The state after reset (R327, R358, R360, R373, R382): the device is held in reset in BOOT with cause POR, the entries show their defaults, every cluster, lane, stage and controller is off, no PWMO pin and no transmit pair is driven (R135, R374), every half-bridge is in SAFE_HOLD, no session is open, no fault is latched or live, no
command waits, and the memories are in canonical form, which every step keeps. The values that the spec does not give are the model's (log entries 2 to 4). -/
def Obligations.ResetHoldsEverythingOff : Prop :=
  let r := State.reset
  r.MemOk ∧ r.pending = [] ∧ (∀ k, r.getKey k = entDefault k) ∧ r.boot.inReset = true ∧ r.boot.cause = 1 ∧ r.dev = devBoot ∧ r.okayHigh = false ∧
  (∀ c, (r.cl c).st = .off) ∧ (∀ l, (r.lane l).st = .off) ∧ (∀ g, (r.stg g).st = .off) ∧ (∀ n, (r.can n).st = .off) ∧ (∀ p, r.pwmoOut p = .pulledDown) ∧ (∀ l, r.laneDriven l = false) ∧ (∀ h, (r.hb h).st = .safeHold) ∧
  (∀ n, n < 2 → r.ver n = 0 ∧ r.level n = 0) ∧ r.flt.latch = [] ∧ r.flt.live = [] ∧ r.nvm.queue = [] ∧ (∀ e i, (r.ctx (6 * e + i)).active = false) ∧
  r.mon.maxC = (0x8000, 0xFF) ∧ (∀ n, (r.sensor n).valid = false) ∧ r.tap.ir = Tap.reset.ir
end

