-- ==== Sys2Proof/Laws/Tab.lean ====
section
/-! SUPPORT. The laws of the sparse map: read after write, and that every write keeps the canonical form. -/

namespace Sys2Proof.Machine

variable {V : Type}

theorem Tab.get_del (d : Nat → V) : ∀ (m : Tab V) (k j : Nat), Tab.get d (Tab.del m k) j = if j = k then d k else Tab.get d m j
  | [], k, j => by simp only [Tab.del, Tab.get]; split <;> simp_all
  | p :: r, k, j => by
    rw [Tab.del]
    split
    · rename_i e
      rw [Tab.get_del d r k j]
      split
      · rfl
      · rw [Tab.get, if_neg (by omega)]
    · rename_i e
      rw [Tab.get, Tab.get, Tab.get_del d r k j]
      by_cases hp : p.1 = j
      · rw [if_pos hp, if_pos hp, if_neg (by omega)]
      · rw [if_neg hp, if_neg hp]

theorem Tab.get_put (d : Nat → V) : ∀ (m : Tab V) (k : Nat) (v : V) (j : Nat),
    Tab.get d (Tab.put m k v) j = if j = k then v else Tab.get d m j
  | [], k, v, j => by simp only [Tab.put, Tab.get, eq_comm]
  | p :: r, k, v, j => by
    rw [Tab.put]
    split
    · simp only [Tab.get, eq_comm]
    · split
      · rename_i e; simp only [Tab.get, e]; by_cases h : k = j <;> simp [h, eq_comm]
      · rename_i _ e
        rw [Tab.get, Tab.get, Tab.get_put d r k v j]
        by_cases hp : p.1 = j
        · rw [if_pos hp, if_pos hp, if_neg (by omega)]
        · rw [if_neg hp, if_neg hp]

/-- What a map reads as when the entries of some keys fall away. -/
theorem Tab.get_filter (d : Nat → V) (f : Nat → Bool) : ∀ (m : Tab V) (k : Nat),
    Tab.get d (m.filter (fun p => f p.1)) k = if f k then Tab.get d m k else d k
  | [], k => by simp [Tab.get]
  | p :: r, k => by
    rw [List.filter_cons]
    by_cases hp : f p.1
    · rw [if_pos hp, Tab.get, Tab.get, Tab.get_filter d f r k]
      by_cases h : p.1 = k
      · rw [if_pos h, if_pos h, if_pos (h ▸ hp)]
      · rw [if_neg h, if_neg h]
    · rw [if_neg hp, Tab.get_filter d f r k, Tab.get]
      by_cases h : p.1 = k
      · rw [if_neg (h ▸ hp), if_neg (h ▸ hp)]
      · rw [if_neg h]

theorem Tab.mem_del : ∀ {m : Tab V} {k : Nat} {p : Nat × V}, p ∈ Tab.del m k → p ∈ m
  | [], _, _, h => h
  | q :: r, k, p, h => by
    rw [Tab.del] at h
    split at h
    · exact List.mem_cons_of_mem _ (Tab.mem_del h)
    · rcases List.mem_cons.1 h with h | h
      · exact h ▸ List.mem_cons_self
      · exact List.mem_cons_of_mem _ (Tab.mem_del h)

theorem Tab.mem_put : ∀ {m : Tab V} {k : Nat} {v : V} {p : Nat × V}, p ∈ Tab.put m k v → p = (k, v) ∨ p ∈ m
  | [], _, _, _, h => by rw [Tab.put, List.mem_singleton] at h; exact .inl h
  | q :: r, k, v, p, h => by
    rw [Tab.put] at h
    split at h
    · simpa using h
    · split at h
      · rcases List.mem_cons.1 h with h | h
        · exact .inl h
        · exact .inr (List.mem_cons_of_mem _ h)
      · rcases List.mem_cons.1 h with h | h
        · exact .inr (h ▸ List.mem_cons_self)
        · rcases Tab.mem_put h with h | h
          · exact .inl h
          · exact .inr (List.mem_cons_of_mem _ h)

theorem Tab.sorted_del : ∀ {m : Tab V} {k : Nat}, m.Pairwise (fun a b => a.1 < b.1) →
    (Tab.del m k).Pairwise (fun a b => a.1 < b.1)
  | [], _, h => h
  | p :: r, k, h => by
    rw [List.pairwise_cons] at h
    rw [Tab.del]
    split
    · exact Tab.sorted_del h.2
    · exact List.pairwise_cons.2 ⟨fun q hq => h.1 q (Tab.mem_del hq), Tab.sorted_del h.2⟩

theorem Tab.sorted_put : ∀ {m : Tab V} {k : Nat} {v : V}, m.Pairwise (fun a b => a.1 < b.1) →
    (Tab.put m k v).Pairwise (fun a b => a.1 < b.1)
  | [], _, _, _ => List.pairwise_singleton ..
  | p :: r, k, v, h => by
    have h' := List.pairwise_cons.1 h
    rw [Tab.put]
    split
    · refine List.pairwise_cons.2 ⟨fun q hq => ?_, h⟩
      rcases List.mem_cons.1 hq with e | hq
      · subst e; assumption
      · have := h'.1 q hq; simp only; omega
    · split
      · rename_i e; exact List.pairwise_cons.2 ⟨fun q hq => by have := h'.1 q hq; simp only; omega, h'.2⟩
      · refine List.pairwise_cons.2 ⟨fun q hq => ?_, Tab.sorted_put h'.2⟩
        rcases Tab.mem_put hq with e | hq
        · subst e; simp only; omega
        · exact h'.1 q hq

variable [DecidableEq V]

/-- Read after write. -/
theorem Tab.get_set (d : Nat → V) (m : Tab V) (k : Nat) (v : V) (j : Nat) :
    Tab.get d (Tab.set d m k v) j = if j = k then v else Tab.get d m j := by
  rw [Tab.set]
  split
  · rename_i e; rw [Tab.get_del, e]
  · exact Tab.get_put d m k v j

/-- A write keeps the canonical form. -/
theorem Tab.set_wf {d : Nat → V} {m : Tab V} {k : Nat} {v : V} (h : Tab.wf d m) : Tab.wf d (Tab.set d m k v) := by
  rw [Tab.set]
  split
  · exact ⟨Tab.sorted_del h.1, fun p hp => h.2 p (Tab.mem_del hp)⟩
  · rename_i e
    refine ⟨Tab.sorted_put h.1, fun p hp => ?_⟩
    rcases Tab.mem_put hp with rfl | hp
    · exact e
    · exact h.2 p hp

/-- A run of writes keeps the canonical form. -/
theorem Tab.setRange_wf {d : Nat → V} {l : List V} {m : Tab V} {k : Nat} (h : Tab.wf d m) : Tab.wf d (Tab.setRange d m k l) := by
  induction l generalizing m k with
  | nil => exact h
  | cons v r ih => exact ih (Tab.set_wf h)

omit [DecidableEq V] in
/-- Taking entries out keeps the canonical form. -/
theorem Tab.filter_wf {d : Nat → V} {m : Tab V} {p : Nat × V → Bool} (h : Tab.wf d m) : Tab.wf d (m.filter p) :=
  ⟨h.1.filter p, fun q hq => h.2 q (List.mem_filter.1 hq).1⟩

end Sys2Proof.Machine
end

