-- ==== Sys2Proof/Laws/Memory.lean ====
section
/-! SUPPORT. The laws of the part's word memories: what a word reads as after a write, and that every operation that writes one
keeps all of them in canonical form. -/

namespace Sys2Proof.Machine

/-! ### A run of words -/

/-- Read after the write of a run of words. -/
theorem Tab.get_setRange {V : Type} [DecidableEq V] (d : Nat → V) (l : List V) : ∀ (m : Tab V) (k j : Nat),
    Tab.get d (Tab.setRange d m k l) j = if k ≤ j ∧ j < k + l.length then l.getD (j - k) (d j) else Tab.get d m j := by
  induction l with
  | nil => intro m k j; rw [Tab.setRange, List.length_nil, if_neg (by omega)]
  | cons v r ih =>
    intro m k j
    rw [Tab.setRange, ih, Tab.get_set, List.length_cons]
    by_cases h : j = k
    · subst h; rw [if_neg (by omega), if_pos rfl, if_pos (by omega), Nat.sub_self]; rfl
    · by_cases h2 : k + 1 ≤ j ∧ j < k + 1 + r.length
      · obtain ⟨n, rfl⟩ : ∃ n, j = k + 1 + n := ⟨j - (k + 1), by omega⟩
        rw [if_pos h2, if_pos (by omega), show k + 1 + n - (k + 1) = n by omega, show k + 1 + n - k = n + 1 by omega]
        rfl
      · rw [if_neg h2, if_neg h, if_neg (by omega)]

/-! ### Words made right again -/

/-- A correction touches no word. -/
@[simp] theorem State.memWord_heal (s : State) (m a n f b : Nat) : (s.heal m a n).memWord f b = s.memWord f b := rfl

@[simp] theorem State.pmWord_heal (s : State) (m a n f b : Nat) : (s.heal m a n).pmWord f b = s.pmWord f b := rfl

/-- A word of a run that was made right holds no error. -/
theorem State.upset_heal (s : State) (m a n k : Nat) :
    (s.heal m a n).upset m k = if a ≤ k ∧ k < a + n then 0 else s.upset m k := by
  refine (Tab.get_filter _ (fun x => decide (x < 2 ^ 20 * m + a) || decide (2 ^ 20 * m + a + n ≤ x)) s.mem.upset (2 ^ 20 * m + k)).trans ?_
  by_cases h : a ≤ k ∧ k < a + n
  · rw [if_pos h, if_neg (by simp only [Bool.or_eq_true, decide_eq_true_eq]; omega)]
  · rw [if_neg h, if_pos (by simp only [Bool.or_eq_true, decide_eq_true_eq]; omega)]
    rfl

/-! ### Read after write -/

theorem State.memWord_setMemWord_loc (s : State) (e a f b : Nat) (v : Word) (ha : a < 0x2000) (hb : b < 0x2000) :
    (s.setMemWord e a v).memWord f b = if 8192 * f + b = 8192 * e + a then v else s.memWord f b := by
  rw [State.setMemWord, if_pos ha, State.memWord_heal]
  simp only [State.memWord, if_pos hb, Tab.get_set]

theorem State.memWord_setMemWord_tile (s : State) (e a f b : Nat) (v : Word) (ha : 0x100000 ≤ a ∧ a < 0x180000)
    (hb : 0x100000 ≤ b ∧ b < 0x180000) : (s.setMemWord e a v).memWord f b = if b = a then v else s.memWord f b := by
  have h1 : ¬ a < 0x2000 := by omega
  have h2 : ¬ b < 0x2000 := by omega
  simp only [State.memWord, State.setMemWord, if_neg h1, if_neg h2, if_pos ha, if_pos hb, Tab.get_set]
  by_cases h : b = a
  · rw [if_pos h, if_pos (by omega)]
  · rw [if_neg h, if_neg (by omega)]

/-- A write of a word of local data is not seen in the tiles. -/
theorem State.memWord_setMemWord_loc_tile (s : State) (e a f b : Nat) (v : Word) (ha : a < 0x2000) (hb : 0x2000 ≤ b) :
    (s.setMemWord e a v).memWord f b = s.memWord f b := by
  rw [State.setMemWord, if_pos ha, State.memWord_heal]
  simp only [State.memWord, if_neg (Nat.not_lt.2 hb)]

/-- A write of a word of a tile is not seen in local data. -/
theorem State.memWord_setMemWord_tile_loc (s : State) (e a f b : Nat) (v : Word) (ha : 0x2000 ≤ a) (hb : b < 0x2000) :
    (s.setMemWord e a v).memWord f b = s.memWord f b := by
  simp only [State.memWord, State.setMemWord, if_neg (Nat.not_lt.2 ha), if_pos hb]
  split <;> rfl

theorem State.fram_setFram (s : State) (a j : Nat) (l : List Word) :
    (s.setFram a l).fram j = if a ≤ j ∧ j < a + l.length then l.getD (j - a) 0 else s.fram j := by
  have hu : (s.setFram a l).upset 2 j = if a ≤ j ∧ j < a + l.length then 0 else s.upset 2 j := State.upset_heal _ 2 a l.length j
  have hv : Tab.get (fun _ => 0) (s.setFram a l).mem.fram j =
      if a ≤ j ∧ j < a + l.length then l.getD (j - a) 0 else Tab.get (fun _ => 0) s.mem.fram j := Tab.get_setRange _ l _ a j
  rw [State.fram, hu, hv, State.fram]
  split
  · rw [if_neg (by decide)]
  · rfl

theorem State.pmWord_setPm (s : State) (e a f j : Nat) (l : List Word) :
    (s.setPm e a l).pmWord f j =
      if 8192 * e + a ≤ 8192 * f + j ∧ 8192 * f + j < 8192 * e + a + l.length then l.getD (8192 * f + j - (8192 * e + a)) 0
      else s.pmWord f j := by
  rw [State.setPm, State.pmWord_heal]
  exact Tab.get_setRange _ l _ _ _

theorem State.otp_setOtp (s : State) (r w r' w' : Nat) (v : Word) :
    (s.setOtp r w v).otp r' w' = if 256 * r' + w' = 256 * r + w then v else s.otp r' w' :=
  Tab.get_set _ _ _ _ _

/-! ### Every operation keeps the canonical form -/

theorem State.memOk_reset : State.reset.MemOk := by decide

/-- A state whose memories are another's. -/
theorem State.MemOk.of_eq {s t : State} (h : s.MemOk) (e : t.mem = s.mem) : t.MemOk := by
  rw [State.MemOk, e]; exact h

theorem State.MemOk.heal {s : State} (h : s.MemOk) (m a n : Nat) : (s.heal m a n).MemOk :=
  ⟨h.1, h.2.1, h.2.2.1, h.2.2.2.1, h.2.2.2.2.1, h.2.2.2.2.2.1, Tab.filter_wf h.2.2.2.2.2.2⟩

theorem State.MemOk.setFram {s : State} (h : s.MemOk) (a : Nat) (l : List Word) : (s.setFram a l).MemOk := by
  rw [State.setFram]
  exact State.MemOk.heal (by exact ⟨h.1, h.2.1, h.2.2.1, Tab.setRange_wf h.2.2.2.1, h.2.2.2.2⟩) _ _ _

theorem State.MemOk.setPm {s : State} (h : s.MemOk) (e a : Nat) (l : List Word) : (s.setPm e a l).MemOk := by
  rw [State.setPm]
  exact State.MemOk.heal (by exact ⟨Tab.setRange_wf h.1, h.2⟩) _ _ _

theorem State.MemOk.setMemWord {s : State} (h : s.MemOk) (e a : Nat) (v : Word) : (s.setMemWord e a v).MemOk := by
  rw [State.setMemWord]
  split
  · exact State.MemOk.heal (by exact ⟨h.1, Tab.set_wf h.2.1, h.2.2⟩) _ _ _
  · split
    · exact ⟨h.1, h.2.1, Tab.set_wf h.2.2.1, h.2.2.2⟩
    · exact h

theorem State.MemOk.setOtp {s : State} (h : s.MemOk) (r w : Nat) (v : Word) : (s.setOtp r w v).MemOk :=
  ⟨h.1, h.2.1, h.2.2.1, h.2.2.2.1, Tab.set_wf h.2.2.2.2.1, h.2.2.2.2.2⟩

theorem State.MemOk.setShadow {s : State} (h : s.MemOk) (r w : Nat) (v : Word) : (s.setShadow r w v).MemOk :=
  ⟨h.1, h.2.1, h.2.2.1, h.2.2.2.1, h.2.2.2.2.1, Tab.set_wf h.2.2.2.2.2.1, h.2.2.2.2.2.2⟩

/-- A fold keeps the canonical form where each of its steps does. -/
theorem State.MemOk.foldl {A : Type} {f : State → A → State} (hf : ∀ s a, s.MemOk → (f s a).MemOk) :
    ∀ (l : List A) (s : State), s.MemOk → (l.foldl f s).MemOk
  | [], _, h => h
  | a :: r, s, h => State.MemOk.foldl hf r (f s a) (hf s a h)

/-- The effect under a condition keeps the canonical form where the effect does. -/
theorem State.MemOk.whenS {s : State} (h : s.MemOk) (c : Bool) {f : State → State} (hf : ∀ s, s.MemOk → (f s).MemOk) :
    (s.whenS c f).MemOk := by
  rw [State.whenS]; split
  · exact hf s h
  · exact h

theorem State.MemOk.quadOff {s : State} (h : s.MemOk) (q : Nat) : (s.quadOff q).MemOk :=
  ⟨Tab.filter_wf h.1, Tab.filter_wf h.2.1, h.2.2.1, h.2.2.2.1, h.2.2.2.2.1, h.2.2.2.2.2.1, Tab.filter_wf h.2.2.2.2.2.2⟩

theorem State.MemOk.finishWrite {s : State} (h : s.MemOk) : s.finishWrite.MemOk := by
  rw [State.finishWrite]; split
  · exact h.setFram _ _
  · exact h

/-- What a kill holds leaves every memory alone. -/
theorem State.killHeld_mem (s : State) : s.killHeld.mem = s.mem := rfl

/-- A reset keeps the arrays and empties every other memory (R360). -/
theorem State.MemOk.resetTo {s : State} (h : s.MemOk) (cause : Nat) (keep : Bool) (reached : Nat) :
    (s.resetTo cause keep reached).MemOk := by
  unfold State.resetTo
  extract_lets
  refine State.MemOk.whenS ?_ _ (fun s h => h.of_eq s.killHeld_mem)
  exact ⟨State.memOk_reset.1, State.memOk_reset.2.1, State.memOk_reset.2.2.1, h.finishWrite.2.2.2.1, h.finishWrite.2.2.2.2.1,
    State.memOk_reset.2.2.2.2.2.1, Tab.filter_wf h.finishWrite.2.2.2.2.2.2⟩

theorem State.MemOk.startAct {s : State} (h : s.MemOk) (t e slot code scratch : Nat) :
    (s.startAct t e slot code scratch).MemOk :=
  State.MemOk.heal (by exact ⟨h.1, Tab.setRange_wf h.2.1, h.2.2⟩) _ _ _

theorem State.MemOk.setRuns {s : State} (h : s.MemOk) (ws : List (Nat × List Word)) : (s.setRuns ws).MemOk :=
  State.MemOk.foldl (by exact fun s p h => h.setFram p.1 p.2) ws s h

theorem State.MemOk.drainN (n : Nat) : ∀ {s : State}, s.MemOk → (s.drainN n).MemOk := by
  induction n with
  | zero => exact fun h => h
  | succ n ih =>
    intro s h
    rw [State.drainN]
    split
    · exact ih (State.MemOk.setRuns (by exact h) _)
    · exact h

theorem doScorecardCopy_memOk {s : State} (h : s.MemOk) : (doScorecardCopy s).MemOk := by
  rw [doScorecardCopy]
  refine State.MemOk.drainN _ ?_
  rw [State.copyFirst]
  split
  · exact h
  · split
    · exact h
    · simp only
      split
      · exact State.MemOk.heal (by exact ⟨h.1, h.2.1, h.2.2.1, Tab.setRange_wf h.2.2.2.1, h.2.2.2.2⟩) _ _ _
      · exact h

/-- An upset of the arrays or of an engine's memories is listed in canonical form. -/
theorem State.MemOk.setUpset {s : State} (h : s.MemOk) (k v : Nat) :
    ({ s with mem := { s.mem with upset := Tab.set (fun _ => 0) s.mem.upset k v } } : State).MemOk :=
  ⟨h.1, h.2.1, h.2.2.1, h.2.2.2.1, h.2.2.2.2.1, h.2.2.2.2.2.1, Tab.set_wf h.2.2.2.2.2.2⟩

theorem State.MemOk.put {s : State} (h : s.MemOk) (a e i v : Nat) : (s.put a e i v).MemOk := h.of_eq rfl

theorem State.MemOk.report {s : State} (h : s.MemOk) (c : Nat) : (s.report c).MemOk := h.of_eq rfl

theorem State.MemOk.setCorrected {s : State} (h : s.MemOk) (r w : Nat) : (s.setCorrected r w).MemOk := h.of_eq rfl

theorem State.MemOk.sense {s : State} (h : s.MemOk) (r : Nat) : (s.sense r).MemOk := by
  rw [State.sense]
  exact State.MemOk.whenS (State.MemOk.put (State.MemOk.foldl (by exact fun s w h => h.setShadow r w _) _ _
    (State.MemOk.foldl (by exact fun s w h => h.setCorrected r w) _ _ h)) _ _ _ _) _ (fun s h => h.report _)

end Sys2Proof.Machine
end

