-- ==== Sys2Proof/Laws/State.lean ====
section
/-! SUPPORT. What the named updates of Machine/Ops.lean, Machine/Images.lean and Machine/Otp.lean leave alone, one lemma for each field of
State, and what they leave where they write. -/

namespace Sys2Proof.Machine

variable (s : State)

@[simp] theorem State.putKey_pending (k v : Nat) : (s.putKey k v).pending = s.pending := rfl
@[simp] theorem State.putKey_t48 (k v : Nat) : (s.putKey k v).t48 = s.t48 := rfl
@[simp] theorem State.putKey_free (k v : Nat) : (s.putKey k v).free = s.free := rfl
@[simp] theorem State.putKey_decl (k v : Nat) : (s.putKey k v).decl = s.decl := rfl
@[simp] theorem State.putKey_evBus (k v : Nat) : (s.putKey k v).evBus = s.evBus := rfl
@[simp] theorem State.putKey_due (k v : Nat) : (s.putKey k v).due = s.due := rfl
@[simp] theorem State.putKey_loop (k v : Nat) : (s.putKey k v).loop = s.loop := rfl
@[simp] theorem State.putKey_mem (k v : Nat) : (s.putKey k v).mem = s.mem := rfl
@[simp] theorem State.putKey_ref (k v : Nat) : (s.putKey k v).ref = s.ref := rfl
@[simp] theorem State.putKey_flt (k v : Nat) : (s.putKey k v).flt = s.flt := rfl
@[simp] theorem State.putKey_ses (k v : Nat) : (s.putKey k v).ses = s.ses := rfl
@[simp] theorem State.putKey_lport (k v : Nat) : (s.putKey k v).lport = s.lport := rfl
@[simp] theorem State.putKey_pwm (k v : Nat) : (s.putKey k v).pwm = s.pwm := rfl
@[simp] theorem State.putKey_lanes (k v : Nat) : (s.putKey k v).lanes = s.lanes := rfl
@[simp] theorem State.putKey_drv (k v : Nat) : (s.putKey k v).drv = s.drv := rfl
@[simp] theorem State.putKey_acq (k v : Nat) : (s.putKey k v).acq = s.acq := rfl
@[simp] theorem State.putKey_qes (k v : Nat) : (s.putKey k v).qes = s.qes := rfl
@[simp] theorem State.putKey_stages (k v : Nat) : (s.putKey k v).stages = s.stages := rfl
@[simp] theorem State.putKey_nvm (k v : Nat) : (s.putKey k v).nvm = s.nvm := rfl
@[simp] theorem State.putKey_mon (k v : Nat) : (s.putKey k v).mon = s.mon := rfl
@[simp] theorem State.putKey_boot (k v : Nat) : (s.putKey k v).boot = s.boot := rfl
@[simp] theorem State.putKey_cans (k v : Nat) : (s.putKey k v).cans = s.cans := rfl
@[simp] theorem State.putKey_rxAt (k v : Nat) : (s.putKey k v).rxAt = s.rxAt := rfl
@[simp] theorem State.putKey_tap (k v : Nat) : (s.putKey k v).tap = s.tap := rfl

@[simp] theorem State.put_pending (a e i v : Nat) : (s.put a e i v).pending = s.pending := rfl
@[simp] theorem State.put_t48 (a e i v : Nat) : (s.put a e i v).t48 = s.t48 := rfl
@[simp] theorem State.put_free (a e i v : Nat) : (s.put a e i v).free = s.free := rfl
@[simp] theorem State.put_decl (a e i v : Nat) : (s.put a e i v).decl = s.decl := rfl
@[simp] theorem State.put_evBus (a e i v : Nat) : (s.put a e i v).evBus = s.evBus := rfl
@[simp] theorem State.put_due (a e i v : Nat) : (s.put a e i v).due = s.due := rfl
@[simp] theorem State.put_loop (a e i v : Nat) : (s.put a e i v).loop = s.loop := rfl
@[simp] theorem State.put_mem (a e i v : Nat) : (s.put a e i v).mem = s.mem := rfl
@[simp] theorem State.put_ref (a e i v : Nat) : (s.put a e i v).ref = s.ref := rfl
@[simp] theorem State.put_flt (a e i v : Nat) : (s.put a e i v).flt = s.flt := rfl
@[simp] theorem State.put_ses (a e i v : Nat) : (s.put a e i v).ses = s.ses := rfl
@[simp] theorem State.put_lport (a e i v : Nat) : (s.put a e i v).lport = s.lport := rfl
@[simp] theorem State.put_pwm (a e i v : Nat) : (s.put a e i v).pwm = s.pwm := rfl
@[simp] theorem State.put_lanes (a e i v : Nat) : (s.put a e i v).lanes = s.lanes := rfl
@[simp] theorem State.put_drv (a e i v : Nat) : (s.put a e i v).drv = s.drv := rfl
@[simp] theorem State.put_acq (a e i v : Nat) : (s.put a e i v).acq = s.acq := rfl
@[simp] theorem State.put_qes (a e i v : Nat) : (s.put a e i v).qes = s.qes := rfl
@[simp] theorem State.put_stages (a e i v : Nat) : (s.put a e i v).stages = s.stages := rfl
@[simp] theorem State.put_nvm (a e i v : Nat) : (s.put a e i v).nvm = s.nvm := rfl
@[simp] theorem State.put_mon (a e i v : Nat) : (s.put a e i v).mon = s.mon := rfl
@[simp] theorem State.put_boot (a e i v : Nat) : (s.put a e i v).boot = s.boot := rfl
@[simp] theorem State.put_cans (a e i v : Nat) : (s.put a e i v).cans = s.cans := rfl
@[simp] theorem State.put_rxAt (a e i v : Nat) : (s.put a e i v).rxAt = s.rxAt := rfl
@[simp] theorem State.put_tap (a e i v : Nat) : (s.put a e i v).tap = s.tap := rfl

@[simp] theorem State.putDecl_pending (k v : Nat) : (s.putDecl k v).pending = s.pending := rfl
@[simp] theorem State.putDecl_t48 (k v : Nat) : (s.putDecl k v).t48 = s.t48 := rfl
@[simp] theorem State.putDecl_free (k v : Nat) : (s.putDecl k v).free = s.free := rfl
@[simp] theorem State.putDecl_ent (k v : Nat) : (s.putDecl k v).ent = s.ent := rfl
@[simp] theorem State.putDecl_evBus (k v : Nat) : (s.putDecl k v).evBus = s.evBus := rfl
@[simp] theorem State.putDecl_due (k v : Nat) : (s.putDecl k v).due = s.due := rfl
@[simp] theorem State.putDecl_loop (k v : Nat) : (s.putDecl k v).loop = s.loop := rfl
@[simp] theorem State.putDecl_mem (k v : Nat) : (s.putDecl k v).mem = s.mem := rfl
@[simp] theorem State.putDecl_ref (k v : Nat) : (s.putDecl k v).ref = s.ref := rfl
@[simp] theorem State.putDecl_flt (k v : Nat) : (s.putDecl k v).flt = s.flt := rfl
@[simp] theorem State.putDecl_ses (k v : Nat) : (s.putDecl k v).ses = s.ses := rfl
@[simp] theorem State.putDecl_lport (k v : Nat) : (s.putDecl k v).lport = s.lport := rfl
@[simp] theorem State.putDecl_pwm (k v : Nat) : (s.putDecl k v).pwm = s.pwm := rfl
@[simp] theorem State.putDecl_lanes (k v : Nat) : (s.putDecl k v).lanes = s.lanes := rfl
@[simp] theorem State.putDecl_drv (k v : Nat) : (s.putDecl k v).drv = s.drv := rfl
@[simp] theorem State.putDecl_acq (k v : Nat) : (s.putDecl k v).acq = s.acq := rfl
@[simp] theorem State.putDecl_qes (k v : Nat) : (s.putDecl k v).qes = s.qes := rfl
@[simp] theorem State.putDecl_stages (k v : Nat) : (s.putDecl k v).stages = s.stages := rfl
@[simp] theorem State.putDecl_nvm (k v : Nat) : (s.putDecl k v).nvm = s.nvm := rfl
@[simp] theorem State.putDecl_mon (k v : Nat) : (s.putDecl k v).mon = s.mon := rfl
@[simp] theorem State.putDecl_boot (k v : Nat) : (s.putDecl k v).boot = s.boot := rfl
@[simp] theorem State.putDecl_cans (k v : Nat) : (s.putDecl k v).cans = s.cans := rfl
@[simp] theorem State.putDecl_rxAt (k v : Nat) : (s.putDecl k v).rxAt = s.rxAt := rfl
@[simp] theorem State.putDecl_tap (k v : Nat) : (s.putDecl k v).tap = s.tap := rfl

@[simp] theorem State.tick_pending : (s.tick).pending = s.pending := rfl
@[simp] theorem State.tick_t48 : (s.tick).t48 = s.t48 := rfl
@[simp] theorem State.tick_ent : (s.tick).ent = s.ent := rfl
@[simp] theorem State.tick_decl : (s.tick).decl = s.decl := rfl
@[simp] theorem State.tick_evBus : (s.tick).evBus = s.evBus := rfl
@[simp] theorem State.tick_due : (s.tick).due = s.due := rfl
@[simp] theorem State.tick_loop : (s.tick).loop = s.loop := rfl
@[simp] theorem State.tick_mem : (s.tick).mem = s.mem := rfl
@[simp] theorem State.tick_ref : (s.tick).ref = s.ref := rfl
@[simp] theorem State.tick_flt : (s.tick).flt = s.flt := rfl
@[simp] theorem State.tick_ses : (s.tick).ses = s.ses := rfl
@[simp] theorem State.tick_lport : (s.tick).lport = s.lport := rfl
@[simp] theorem State.tick_pwm : (s.tick).pwm = s.pwm := rfl
@[simp] theorem State.tick_lanes : (s.tick).lanes = s.lanes := rfl
@[simp] theorem State.tick_drv : (s.tick).drv = s.drv := rfl
@[simp] theorem State.tick_acq : (s.tick).acq = s.acq := rfl
@[simp] theorem State.tick_qes : (s.tick).qes = s.qes := rfl
@[simp] theorem State.tick_stages : (s.tick).stages = s.stages := rfl
@[simp] theorem State.tick_nvm : (s.tick).nvm = s.nvm := rfl
@[simp] theorem State.tick_mon : (s.tick).mon = s.mon := rfl
@[simp] theorem State.tick_boot : (s.tick).boot = s.boot := rfl
@[simp] theorem State.tick_cans : (s.tick).cans = s.cans := rfl
@[simp] theorem State.tick_rxAt : (s.tick).rxAt = s.rxAt := rfl
@[simp] theorem State.tick_tap : (s.tick).tap = s.tap := rfl

@[simp] theorem State.raiseEv_pending (n : Nat) : (s.raiseEv n).pending = s.pending := rfl
@[simp] theorem State.raiseEv_t48 (n : Nat) : (s.raiseEv n).t48 = s.t48 := rfl
@[simp] theorem State.raiseEv_free (n : Nat) : (s.raiseEv n).free = s.free := rfl
@[simp] theorem State.raiseEv_ent (n : Nat) : (s.raiseEv n).ent = s.ent := rfl
@[simp] theorem State.raiseEv_decl (n : Nat) : (s.raiseEv n).decl = s.decl := rfl
@[simp] theorem State.raiseEv_due (n : Nat) : (s.raiseEv n).due = s.due := rfl
@[simp] theorem State.raiseEv_loop (n : Nat) : (s.raiseEv n).loop = s.loop := rfl
@[simp] theorem State.raiseEv_mem (n : Nat) : (s.raiseEv n).mem = s.mem := rfl
@[simp] theorem State.raiseEv_ref (n : Nat) : (s.raiseEv n).ref = s.ref := rfl
@[simp] theorem State.raiseEv_flt (n : Nat) : (s.raiseEv n).flt = s.flt := rfl
@[simp] theorem State.raiseEv_ses (n : Nat) : (s.raiseEv n).ses = s.ses := rfl
@[simp] theorem State.raiseEv_lport (n : Nat) : (s.raiseEv n).lport = s.lport := rfl
@[simp] theorem State.raiseEv_pwm (n : Nat) : (s.raiseEv n).pwm = s.pwm := rfl
@[simp] theorem State.raiseEv_lanes (n : Nat) : (s.raiseEv n).lanes = s.lanes := rfl
@[simp] theorem State.raiseEv_drv (n : Nat) : (s.raiseEv n).drv = s.drv := rfl
@[simp] theorem State.raiseEv_acq (n : Nat) : (s.raiseEv n).acq = s.acq := rfl
@[simp] theorem State.raiseEv_qes (n : Nat) : (s.raiseEv n).qes = s.qes := rfl
@[simp] theorem State.raiseEv_stages (n : Nat) : (s.raiseEv n).stages = s.stages := rfl
@[simp] theorem State.raiseEv_nvm (n : Nat) : (s.raiseEv n).nvm = s.nvm := rfl
@[simp] theorem State.raiseEv_mon (n : Nat) : (s.raiseEv n).mon = s.mon := rfl
@[simp] theorem State.raiseEv_boot (n : Nat) : (s.raiseEv n).boot = s.boot := rfl
@[simp] theorem State.raiseEv_cans (n : Nat) : (s.raiseEv n).cans = s.cans := rfl
@[simp] theorem State.raiseEv_rxAt (n : Nat) : (s.raiseEv n).rxAt = s.rxAt := rfl
@[simp] theorem State.raiseEv_tap (n : Nat) : (s.raiseEv n).tap = s.tap := rfl

@[simp] theorem State.report_pending (c : Nat) : (s.report c).pending = s.pending := rfl
@[simp] theorem State.report_t48 (c : Nat) : (s.report c).t48 = s.t48 := rfl
@[simp] theorem State.report_free (c : Nat) : (s.report c).free = s.free := rfl
@[simp] theorem State.report_ent (c : Nat) : (s.report c).ent = s.ent := rfl
@[simp] theorem State.report_decl (c : Nat) : (s.report c).decl = s.decl := rfl
@[simp] theorem State.report_evBus (c : Nat) : (s.report c).evBus = s.evBus := rfl
@[simp] theorem State.report_due (c : Nat) : (s.report c).due = s.due := rfl
@[simp] theorem State.report_loop (c : Nat) : (s.report c).loop = s.loop := rfl
@[simp] theorem State.report_mem (c : Nat) : (s.report c).mem = s.mem := rfl
@[simp] theorem State.report_ref (c : Nat) : (s.report c).ref = s.ref := rfl
@[simp] theorem State.report_ses (c : Nat) : (s.report c).ses = s.ses := rfl
@[simp] theorem State.report_lport (c : Nat) : (s.report c).lport = s.lport := rfl
@[simp] theorem State.report_pwm (c : Nat) : (s.report c).pwm = s.pwm := rfl
@[simp] theorem State.report_lanes (c : Nat) : (s.report c).lanes = s.lanes := rfl
@[simp] theorem State.report_drv (c : Nat) : (s.report c).drv = s.drv := rfl
@[simp] theorem State.report_acq (c : Nat) : (s.report c).acq = s.acq := rfl
@[simp] theorem State.report_qes (c : Nat) : (s.report c).qes = s.qes := rfl
@[simp] theorem State.report_stages (c : Nat) : (s.report c).stages = s.stages := rfl
@[simp] theorem State.report_nvm (c : Nat) : (s.report c).nvm = s.nvm := rfl
@[simp] theorem State.report_mon (c : Nat) : (s.report c).mon = s.mon := rfl
@[simp] theorem State.report_boot (c : Nat) : (s.report c).boot = s.boot := rfl
@[simp] theorem State.report_cans (c : Nat) : (s.report c).cans = s.cans := rfl
@[simp] theorem State.report_rxAt (c : Nat) : (s.report c).rxAt = s.rxAt := rfl
@[simp] theorem State.report_tap (c : Nat) : (s.report c).tap = s.tap := rfl

@[simp] theorem State.reportInj_pending (c : Nat) : (s.reportInj c).pending = s.pending := rfl
@[simp] theorem State.reportInj_t48 (c : Nat) : (s.reportInj c).t48 = s.t48 := rfl
@[simp] theorem State.reportInj_free (c : Nat) : (s.reportInj c).free = s.free := rfl
@[simp] theorem State.reportInj_ent (c : Nat) : (s.reportInj c).ent = s.ent := rfl
@[simp] theorem State.reportInj_decl (c : Nat) : (s.reportInj c).decl = s.decl := rfl
@[simp] theorem State.reportInj_evBus (c : Nat) : (s.reportInj c).evBus = s.evBus := rfl
@[simp] theorem State.reportInj_due (c : Nat) : (s.reportInj c).due = s.due := rfl
@[simp] theorem State.reportInj_loop (c : Nat) : (s.reportInj c).loop = s.loop := rfl
@[simp] theorem State.reportInj_mem (c : Nat) : (s.reportInj c).mem = s.mem := rfl
@[simp] theorem State.reportInj_ref (c : Nat) : (s.reportInj c).ref = s.ref := rfl
@[simp] theorem State.reportInj_ses (c : Nat) : (s.reportInj c).ses = s.ses := rfl
@[simp] theorem State.reportInj_lport (c : Nat) : (s.reportInj c).lport = s.lport := rfl
@[simp] theorem State.reportInj_pwm (c : Nat) : (s.reportInj c).pwm = s.pwm := rfl
@[simp] theorem State.reportInj_lanes (c : Nat) : (s.reportInj c).lanes = s.lanes := rfl
@[simp] theorem State.reportInj_drv (c : Nat) : (s.reportInj c).drv = s.drv := rfl
@[simp] theorem State.reportInj_acq (c : Nat) : (s.reportInj c).acq = s.acq := rfl
@[simp] theorem State.reportInj_qes (c : Nat) : (s.reportInj c).qes = s.qes := rfl
@[simp] theorem State.reportInj_stages (c : Nat) : (s.reportInj c).stages = s.stages := rfl
@[simp] theorem State.reportInj_nvm (c : Nat) : (s.reportInj c).nvm = s.nvm := rfl
@[simp] theorem State.reportInj_mon (c : Nat) : (s.reportInj c).mon = s.mon := rfl
@[simp] theorem State.reportInj_boot (c : Nat) : (s.reportInj c).boot = s.boot := rfl
@[simp] theorem State.reportInj_cans (c : Nat) : (s.reportInj c).cans = s.cans := rfl
@[simp] theorem State.reportInj_rxAt (c : Nat) : (s.reportInj c).rxAt = s.rxAt := rfl
@[simp] theorem State.reportInj_tap (c : Nat) : (s.reportInj c).tap = s.tap := rfl

@[simp] theorem State.setCtx_pending (k : Nat) (x : Ctx) : (s.setCtx k x).pending = s.pending := rfl
@[simp] theorem State.setCtx_t48 (k : Nat) (x : Ctx) : (s.setCtx k x).t48 = s.t48 := rfl
@[simp] theorem State.setCtx_free (k : Nat) (x : Ctx) : (s.setCtx k x).free = s.free := rfl
@[simp] theorem State.setCtx_ent (k : Nat) (x : Ctx) : (s.setCtx k x).ent = s.ent := rfl
@[simp] theorem State.setCtx_decl (k : Nat) (x : Ctx) : (s.setCtx k x).decl = s.decl := rfl
@[simp] theorem State.setCtx_evBus (k : Nat) (x : Ctx) : (s.setCtx k x).evBus = s.evBus := rfl
@[simp] theorem State.setCtx_due (k : Nat) (x : Ctx) : (s.setCtx k x).due = s.due := rfl
@[simp] theorem State.setCtx_mem (k : Nat) (x : Ctx) : (s.setCtx k x).mem = s.mem := rfl
@[simp] theorem State.setCtx_ref (k : Nat) (x : Ctx) : (s.setCtx k x).ref = s.ref := rfl
@[simp] theorem State.setCtx_flt (k : Nat) (x : Ctx) : (s.setCtx k x).flt = s.flt := rfl
@[simp] theorem State.setCtx_ses (k : Nat) (x : Ctx) : (s.setCtx k x).ses = s.ses := rfl
@[simp] theorem State.setCtx_lport (k : Nat) (x : Ctx) : (s.setCtx k x).lport = s.lport := rfl
@[simp] theorem State.setCtx_pwm (k : Nat) (x : Ctx) : (s.setCtx k x).pwm = s.pwm := rfl
@[simp] theorem State.setCtx_lanes (k : Nat) (x : Ctx) : (s.setCtx k x).lanes = s.lanes := rfl
@[simp] theorem State.setCtx_drv (k : Nat) (x : Ctx) : (s.setCtx k x).drv = s.drv := rfl
@[simp] theorem State.setCtx_acq (k : Nat) (x : Ctx) : (s.setCtx k x).acq = s.acq := rfl
@[simp] theorem State.setCtx_qes (k : Nat) (x : Ctx) : (s.setCtx k x).qes = s.qes := rfl
@[simp] theorem State.setCtx_stages (k : Nat) (x : Ctx) : (s.setCtx k x).stages = s.stages := rfl
@[simp] theorem State.setCtx_nvm (k : Nat) (x : Ctx) : (s.setCtx k x).nvm = s.nvm := rfl
@[simp] theorem State.setCtx_mon (k : Nat) (x : Ctx) : (s.setCtx k x).mon = s.mon := rfl
@[simp] theorem State.setCtx_boot (k : Nat) (x : Ctx) : (s.setCtx k x).boot = s.boot := rfl
@[simp] theorem State.setCtx_cans (k : Nat) (x : Ctx) : (s.setCtx k x).cans = s.cans := rfl
@[simp] theorem State.setCtx_rxAt (k : Nat) (x : Ctx) : (s.setCtx k x).rxAt = s.rxAt := rfl
@[simp] theorem State.setCtx_tap (k : Nat) (x : Ctx) : (s.setCtx k x).tap = s.tap := rfl

@[simp] theorem State.setEng_pending (k : Nat) (x : Eng) : (s.setEng k x).pending = s.pending := rfl
@[simp] theorem State.setEng_t48 (k : Nat) (x : Eng) : (s.setEng k x).t48 = s.t48 := rfl
@[simp] theorem State.setEng_free (k : Nat) (x : Eng) : (s.setEng k x).free = s.free := rfl
@[simp] theorem State.setEng_ent (k : Nat) (x : Eng) : (s.setEng k x).ent = s.ent := rfl
@[simp] theorem State.setEng_decl (k : Nat) (x : Eng) : (s.setEng k x).decl = s.decl := rfl
@[simp] theorem State.setEng_evBus (k : Nat) (x : Eng) : (s.setEng k x).evBus = s.evBus := rfl
@[simp] theorem State.setEng_due (k : Nat) (x : Eng) : (s.setEng k x).due = s.due := rfl
@[simp] theorem State.setEng_mem (k : Nat) (x : Eng) : (s.setEng k x).mem = s.mem := rfl
@[simp] theorem State.setEng_ref (k : Nat) (x : Eng) : (s.setEng k x).ref = s.ref := rfl
@[simp] theorem State.setEng_flt (k : Nat) (x : Eng) : (s.setEng k x).flt = s.flt := rfl
@[simp] theorem State.setEng_ses (k : Nat) (x : Eng) : (s.setEng k x).ses = s.ses := rfl
@[simp] theorem State.setEng_lport (k : Nat) (x : Eng) : (s.setEng k x).lport = s.lport := rfl
@[simp] theorem State.setEng_pwm (k : Nat) (x : Eng) : (s.setEng k x).pwm = s.pwm := rfl
@[simp] theorem State.setEng_lanes (k : Nat) (x : Eng) : (s.setEng k x).lanes = s.lanes := rfl
@[simp] theorem State.setEng_drv (k : Nat) (x : Eng) : (s.setEng k x).drv = s.drv := rfl
@[simp] theorem State.setEng_acq (k : Nat) (x : Eng) : (s.setEng k x).acq = s.acq := rfl
@[simp] theorem State.setEng_qes (k : Nat) (x : Eng) : (s.setEng k x).qes = s.qes := rfl
@[simp] theorem State.setEng_stages (k : Nat) (x : Eng) : (s.setEng k x).stages = s.stages := rfl
@[simp] theorem State.setEng_nvm (k : Nat) (x : Eng) : (s.setEng k x).nvm = s.nvm := rfl
@[simp] theorem State.setEng_mon (k : Nat) (x : Eng) : (s.setEng k x).mon = s.mon := rfl
@[simp] theorem State.setEng_boot (k : Nat) (x : Eng) : (s.setEng k x).boot = s.boot := rfl
@[simp] theorem State.setEng_cans (k : Nat) (x : Eng) : (s.setEng k x).cans = s.cans := rfl
@[simp] theorem State.setEng_rxAt (k : Nat) (x : Eng) : (s.setEng k x).rxAt = s.rxAt := rfl
@[simp] theorem State.setEng_tap (k : Nat) (x : Eng) : (s.setEng k x).tap = s.tap := rfl

@[simp] theorem State.setMb_pending (k : Nat) (x : Mbox) : (s.setMb k x).pending = s.pending := rfl
@[simp] theorem State.setMb_t48 (k : Nat) (x : Mbox) : (s.setMb k x).t48 = s.t48 := rfl
@[simp] theorem State.setMb_free (k : Nat) (x : Mbox) : (s.setMb k x).free = s.free := rfl
@[simp] theorem State.setMb_ent (k : Nat) (x : Mbox) : (s.setMb k x).ent = s.ent := rfl
@[simp] theorem State.setMb_decl (k : Nat) (x : Mbox) : (s.setMb k x).decl = s.decl := rfl
@[simp] theorem State.setMb_evBus (k : Nat) (x : Mbox) : (s.setMb k x).evBus = s.evBus := rfl
@[simp] theorem State.setMb_due (k : Nat) (x : Mbox) : (s.setMb k x).due = s.due := rfl
@[simp] theorem State.setMb_mem (k : Nat) (x : Mbox) : (s.setMb k x).mem = s.mem := rfl
@[simp] theorem State.setMb_ref (k : Nat) (x : Mbox) : (s.setMb k x).ref = s.ref := rfl
@[simp] theorem State.setMb_flt (k : Nat) (x : Mbox) : (s.setMb k x).flt = s.flt := rfl
@[simp] theorem State.setMb_ses (k : Nat) (x : Mbox) : (s.setMb k x).ses = s.ses := rfl
@[simp] theorem State.setMb_lport (k : Nat) (x : Mbox) : (s.setMb k x).lport = s.lport := rfl
@[simp] theorem State.setMb_pwm (k : Nat) (x : Mbox) : (s.setMb k x).pwm = s.pwm := rfl
@[simp] theorem State.setMb_lanes (k : Nat) (x : Mbox) : (s.setMb k x).lanes = s.lanes := rfl
@[simp] theorem State.setMb_drv (k : Nat) (x : Mbox) : (s.setMb k x).drv = s.drv := rfl
@[simp] theorem State.setMb_acq (k : Nat) (x : Mbox) : (s.setMb k x).acq = s.acq := rfl
@[simp] theorem State.setMb_qes (k : Nat) (x : Mbox) : (s.setMb k x).qes = s.qes := rfl
@[simp] theorem State.setMb_stages (k : Nat) (x : Mbox) : (s.setMb k x).stages = s.stages := rfl
@[simp] theorem State.setMb_nvm (k : Nat) (x : Mbox) : (s.setMb k x).nvm = s.nvm := rfl
@[simp] theorem State.setMb_mon (k : Nat) (x : Mbox) : (s.setMb k x).mon = s.mon := rfl
@[simp] theorem State.setMb_boot (k : Nat) (x : Mbox) : (s.setMb k x).boot = s.boot := rfl
@[simp] theorem State.setMb_cans (k : Nat) (x : Mbox) : (s.setMb k x).cans = s.cans := rfl
@[simp] theorem State.setMb_rxAt (k : Nat) (x : Mbox) : (s.setMb k x).rxAt = s.rxAt := rfl
@[simp] theorem State.setMb_tap (k : Nat) (x : Mbox) : (s.setMb k x).tap = s.tap := rfl

@[simp] theorem State.setTask_pending (k : Nat) (x : TaskRt) : (s.setTask k x).pending = s.pending := rfl
@[simp] theorem State.setTask_t48 (k : Nat) (x : TaskRt) : (s.setTask k x).t48 = s.t48 := rfl
@[simp] theorem State.setTask_free (k : Nat) (x : TaskRt) : (s.setTask k x).free = s.free := rfl
@[simp] theorem State.setTask_ent (k : Nat) (x : TaskRt) : (s.setTask k x).ent = s.ent := rfl
@[simp] theorem State.setTask_decl (k : Nat) (x : TaskRt) : (s.setTask k x).decl = s.decl := rfl
@[simp] theorem State.setTask_evBus (k : Nat) (x : TaskRt) : (s.setTask k x).evBus = s.evBus := rfl
@[simp] theorem State.setTask_due (k : Nat) (x : TaskRt) : (s.setTask k x).due = s.due := rfl
@[simp] theorem State.setTask_loop (k : Nat) (x : TaskRt) : (s.setTask k x).loop = s.loop := rfl
@[simp] theorem State.setTask_mem (k : Nat) (x : TaskRt) : (s.setTask k x).mem = s.mem := rfl
@[simp] theorem State.setTask_flt (k : Nat) (x : TaskRt) : (s.setTask k x).flt = s.flt := rfl
@[simp] theorem State.setTask_ses (k : Nat) (x : TaskRt) : (s.setTask k x).ses = s.ses := rfl
@[simp] theorem State.setTask_lport (k : Nat) (x : TaskRt) : (s.setTask k x).lport = s.lport := rfl
@[simp] theorem State.setTask_pwm (k : Nat) (x : TaskRt) : (s.setTask k x).pwm = s.pwm := rfl
@[simp] theorem State.setTask_lanes (k : Nat) (x : TaskRt) : (s.setTask k x).lanes = s.lanes := rfl
@[simp] theorem State.setTask_drv (k : Nat) (x : TaskRt) : (s.setTask k x).drv = s.drv := rfl
@[simp] theorem State.setTask_acq (k : Nat) (x : TaskRt) : (s.setTask k x).acq = s.acq := rfl
@[simp] theorem State.setTask_qes (k : Nat) (x : TaskRt) : (s.setTask k x).qes = s.qes := rfl
@[simp] theorem State.setTask_stages (k : Nat) (x : TaskRt) : (s.setTask k x).stages = s.stages := rfl
@[simp] theorem State.setTask_nvm (k : Nat) (x : TaskRt) : (s.setTask k x).nvm = s.nvm := rfl
@[simp] theorem State.setTask_mon (k : Nat) (x : TaskRt) : (s.setTask k x).mon = s.mon := rfl
@[simp] theorem State.setTask_boot (k : Nat) (x : TaskRt) : (s.setTask k x).boot = s.boot := rfl
@[simp] theorem State.setTask_cans (k : Nat) (x : TaskRt) : (s.setTask k x).cans = s.cans := rfl
@[simp] theorem State.setTask_rxAt (k : Nat) (x : TaskRt) : (s.setTask k x).rxAt = s.rxAt := rfl
@[simp] theorem State.setTask_tap (k : Nat) (x : TaskRt) : (s.setTask k x).tap = s.tap := rfl

@[simp] theorem State.setQuad_pending (k : Nat) (x : Quad) : (s.setQuad k x).pending = s.pending := rfl
@[simp] theorem State.setQuad_t48 (k : Nat) (x : Quad) : (s.setQuad k x).t48 = s.t48 := rfl
@[simp] theorem State.setQuad_free (k : Nat) (x : Quad) : (s.setQuad k x).free = s.free := rfl
@[simp] theorem State.setQuad_ent (k : Nat) (x : Quad) : (s.setQuad k x).ent = s.ent := rfl
@[simp] theorem State.setQuad_decl (k : Nat) (x : Quad) : (s.setQuad k x).decl = s.decl := rfl
@[simp] theorem State.setQuad_evBus (k : Nat) (x : Quad) : (s.setQuad k x).evBus = s.evBus := rfl
@[simp] theorem State.setQuad_due (k : Nat) (x : Quad) : (s.setQuad k x).due = s.due := rfl
@[simp] theorem State.setQuad_loop (k : Nat) (x : Quad) : (s.setQuad k x).loop = s.loop := rfl
@[simp] theorem State.setQuad_mem (k : Nat) (x : Quad) : (s.setQuad k x).mem = s.mem := rfl
@[simp] theorem State.setQuad_flt (k : Nat) (x : Quad) : (s.setQuad k x).flt = s.flt := rfl
@[simp] theorem State.setQuad_ses (k : Nat) (x : Quad) : (s.setQuad k x).ses = s.ses := rfl
@[simp] theorem State.setQuad_lport (k : Nat) (x : Quad) : (s.setQuad k x).lport = s.lport := rfl
@[simp] theorem State.setQuad_pwm (k : Nat) (x : Quad) : (s.setQuad k x).pwm = s.pwm := rfl
@[simp] theorem State.setQuad_lanes (k : Nat) (x : Quad) : (s.setQuad k x).lanes = s.lanes := rfl
@[simp] theorem State.setQuad_drv (k : Nat) (x : Quad) : (s.setQuad k x).drv = s.drv := rfl
@[simp] theorem State.setQuad_acq (k : Nat) (x : Quad) : (s.setQuad k x).acq = s.acq := rfl
@[simp] theorem State.setQuad_qes (k : Nat) (x : Quad) : (s.setQuad k x).qes = s.qes := rfl
@[simp] theorem State.setQuad_stages (k : Nat) (x : Quad) : (s.setQuad k x).stages = s.stages := rfl
@[simp] theorem State.setQuad_nvm (k : Nat) (x : Quad) : (s.setQuad k x).nvm = s.nvm := rfl
@[simp] theorem State.setQuad_mon (k : Nat) (x : Quad) : (s.setQuad k x).mon = s.mon := rfl
@[simp] theorem State.setQuad_boot (k : Nat) (x : Quad) : (s.setQuad k x).boot = s.boot := rfl
@[simp] theorem State.setQuad_cans (k : Nat) (x : Quad) : (s.setQuad k x).cans = s.cans := rfl
@[simp] theorem State.setQuad_rxAt (k : Nat) (x : Quad) : (s.setQuad k x).rxAt = s.rxAt := rfl
@[simp] theorem State.setQuad_tap (k : Nat) (x : Quad) : (s.setQuad k x).tap = s.tap := rfl

@[simp] theorem State.setDerate_pending (k : Nat) (x : Derate) : (s.setDerate k x).pending = s.pending := rfl
@[simp] theorem State.setDerate_t48 (k : Nat) (x : Derate) : (s.setDerate k x).t48 = s.t48 := rfl
@[simp] theorem State.setDerate_free (k : Nat) (x : Derate) : (s.setDerate k x).free = s.free := rfl
@[simp] theorem State.setDerate_ent (k : Nat) (x : Derate) : (s.setDerate k x).ent = s.ent := rfl
@[simp] theorem State.setDerate_decl (k : Nat) (x : Derate) : (s.setDerate k x).decl = s.decl := rfl
@[simp] theorem State.setDerate_evBus (k : Nat) (x : Derate) : (s.setDerate k x).evBus = s.evBus := rfl
@[simp] theorem State.setDerate_due (k : Nat) (x : Derate) : (s.setDerate k x).due = s.due := rfl
@[simp] theorem State.setDerate_loop (k : Nat) (x : Derate) : (s.setDerate k x).loop = s.loop := rfl
@[simp] theorem State.setDerate_mem (k : Nat) (x : Derate) : (s.setDerate k x).mem = s.mem := rfl
@[simp] theorem State.setDerate_flt (k : Nat) (x : Derate) : (s.setDerate k x).flt = s.flt := rfl
@[simp] theorem State.setDerate_ses (k : Nat) (x : Derate) : (s.setDerate k x).ses = s.ses := rfl
@[simp] theorem State.setDerate_lport (k : Nat) (x : Derate) : (s.setDerate k x).lport = s.lport := rfl
@[simp] theorem State.setDerate_pwm (k : Nat) (x : Derate) : (s.setDerate k x).pwm = s.pwm := rfl
@[simp] theorem State.setDerate_lanes (k : Nat) (x : Derate) : (s.setDerate k x).lanes = s.lanes := rfl
@[simp] theorem State.setDerate_drv (k : Nat) (x : Derate) : (s.setDerate k x).drv = s.drv := rfl
@[simp] theorem State.setDerate_acq (k : Nat) (x : Derate) : (s.setDerate k x).acq = s.acq := rfl
@[simp] theorem State.setDerate_qes (k : Nat) (x : Derate) : (s.setDerate k x).qes = s.qes := rfl
@[simp] theorem State.setDerate_stages (k : Nat) (x : Derate) : (s.setDerate k x).stages = s.stages := rfl
@[simp] theorem State.setDerate_nvm (k : Nat) (x : Derate) : (s.setDerate k x).nvm = s.nvm := rfl
@[simp] theorem State.setDerate_mon (k : Nat) (x : Derate) : (s.setDerate k x).mon = s.mon := rfl
@[simp] theorem State.setDerate_boot (k : Nat) (x : Derate) : (s.setDerate k x).boot = s.boot := rfl
@[simp] theorem State.setDerate_cans (k : Nat) (x : Derate) : (s.setDerate k x).cans = s.cans := rfl
@[simp] theorem State.setDerate_rxAt (k : Nat) (x : Derate) : (s.setDerate k x).rxAt = s.rxAt := rfl
@[simp] theorem State.setDerate_tap (k : Nat) (x : Derate) : (s.setDerate k x).tap = s.tap := rfl

@[simp] theorem State.setCl_pending (k : Nat) (x : Cl) : (s.setCl k x).pending = s.pending := rfl
@[simp] theorem State.setCl_t48 (k : Nat) (x : Cl) : (s.setCl k x).t48 = s.t48 := rfl
@[simp] theorem State.setCl_free (k : Nat) (x : Cl) : (s.setCl k x).free = s.free := rfl
@[simp] theorem State.setCl_ent (k : Nat) (x : Cl) : (s.setCl k x).ent = s.ent := rfl
@[simp] theorem State.setCl_decl (k : Nat) (x : Cl) : (s.setCl k x).decl = s.decl := rfl
@[simp] theorem State.setCl_evBus (k : Nat) (x : Cl) : (s.setCl k x).evBus = s.evBus := rfl
@[simp] theorem State.setCl_due (k : Nat) (x : Cl) : (s.setCl k x).due = s.due := rfl
@[simp] theorem State.setCl_loop (k : Nat) (x : Cl) : (s.setCl k x).loop = s.loop := rfl
@[simp] theorem State.setCl_mem (k : Nat) (x : Cl) : (s.setCl k x).mem = s.mem := rfl
@[simp] theorem State.setCl_ref (k : Nat) (x : Cl) : (s.setCl k x).ref = s.ref := rfl
@[simp] theorem State.setCl_flt (k : Nat) (x : Cl) : (s.setCl k x).flt = s.flt := rfl
@[simp] theorem State.setCl_ses (k : Nat) (x : Cl) : (s.setCl k x).ses = s.ses := rfl
@[simp] theorem State.setCl_lport (k : Nat) (x : Cl) : (s.setCl k x).lport = s.lport := rfl
@[simp] theorem State.setCl_lanes (k : Nat) (x : Cl) : (s.setCl k x).lanes = s.lanes := rfl
@[simp] theorem State.setCl_drv (k : Nat) (x : Cl) : (s.setCl k x).drv = s.drv := rfl
@[simp] theorem State.setCl_acq (k : Nat) (x : Cl) : (s.setCl k x).acq = s.acq := rfl
@[simp] theorem State.setCl_qes (k : Nat) (x : Cl) : (s.setCl k x).qes = s.qes := rfl
@[simp] theorem State.setCl_stages (k : Nat) (x : Cl) : (s.setCl k x).stages = s.stages := rfl
@[simp] theorem State.setCl_nvm (k : Nat) (x : Cl) : (s.setCl k x).nvm = s.nvm := rfl
@[simp] theorem State.setCl_mon (k : Nat) (x : Cl) : (s.setCl k x).mon = s.mon := rfl
@[simp] theorem State.setCl_boot (k : Nat) (x : Cl) : (s.setCl k x).boot = s.boot := rfl
@[simp] theorem State.setCl_cans (k : Nat) (x : Cl) : (s.setCl k x).cans = s.cans := rfl
@[simp] theorem State.setCl_rxAt (k : Nat) (x : Cl) : (s.setCl k x).rxAt = s.rxAt := rfl
@[simp] theorem State.setCl_tap (k : Nat) (x : Cl) : (s.setCl k x).tap = s.tap := rfl

@[simp] theorem State.setGen_pending (k : Nat) (x : Gen) : (s.setGen k x).pending = s.pending := rfl
@[simp] theorem State.setGen_t48 (k : Nat) (x : Gen) : (s.setGen k x).t48 = s.t48 := rfl
@[simp] theorem State.setGen_free (k : Nat) (x : Gen) : (s.setGen k x).free = s.free := rfl
@[simp] theorem State.setGen_ent (k : Nat) (x : Gen) : (s.setGen k x).ent = s.ent := rfl
@[simp] theorem State.setGen_decl (k : Nat) (x : Gen) : (s.setGen k x).decl = s.decl := rfl
@[simp] theorem State.setGen_evBus (k : Nat) (x : Gen) : (s.setGen k x).evBus = s.evBus := rfl
@[simp] theorem State.setGen_due (k : Nat) (x : Gen) : (s.setGen k x).due = s.due := rfl
@[simp] theorem State.setGen_loop (k : Nat) (x : Gen) : (s.setGen k x).loop = s.loop := rfl
@[simp] theorem State.setGen_mem (k : Nat) (x : Gen) : (s.setGen k x).mem = s.mem := rfl
@[simp] theorem State.setGen_ref (k : Nat) (x : Gen) : (s.setGen k x).ref = s.ref := rfl
@[simp] theorem State.setGen_flt (k : Nat) (x : Gen) : (s.setGen k x).flt = s.flt := rfl
@[simp] theorem State.setGen_ses (k : Nat) (x : Gen) : (s.setGen k x).ses = s.ses := rfl
@[simp] theorem State.setGen_lport (k : Nat) (x : Gen) : (s.setGen k x).lport = s.lport := rfl
@[simp] theorem State.setGen_lanes (k : Nat) (x : Gen) : (s.setGen k x).lanes = s.lanes := rfl
@[simp] theorem State.setGen_drv (k : Nat) (x : Gen) : (s.setGen k x).drv = s.drv := rfl
@[simp] theorem State.setGen_acq (k : Nat) (x : Gen) : (s.setGen k x).acq = s.acq := rfl
@[simp] theorem State.setGen_qes (k : Nat) (x : Gen) : (s.setGen k x).qes = s.qes := rfl
@[simp] theorem State.setGen_stages (k : Nat) (x : Gen) : (s.setGen k x).stages = s.stages := rfl
@[simp] theorem State.setGen_nvm (k : Nat) (x : Gen) : (s.setGen k x).nvm = s.nvm := rfl
@[simp] theorem State.setGen_mon (k : Nat) (x : Gen) : (s.setGen k x).mon = s.mon := rfl
@[simp] theorem State.setGen_boot (k : Nat) (x : Gen) : (s.setGen k x).boot = s.boot := rfl
@[simp] theorem State.setGen_cans (k : Nat) (x : Gen) : (s.setGen k x).cans = s.cans := rfl
@[simp] theorem State.setGen_rxAt (k : Nat) (x : Gen) : (s.setGen k x).rxAt = s.rxAt := rfl
@[simp] theorem State.setGen_tap (k : Nat) (x : Gen) : (s.setGen k x).tap = s.tap := rfl

@[simp] theorem State.setLane_pending (k : Nat) (x : Lane) : (s.setLane k x).pending = s.pending := rfl
@[simp] theorem State.setLane_t48 (k : Nat) (x : Lane) : (s.setLane k x).t48 = s.t48 := rfl
@[simp] theorem State.setLane_free (k : Nat) (x : Lane) : (s.setLane k x).free = s.free := rfl
@[simp] theorem State.setLane_ent (k : Nat) (x : Lane) : (s.setLane k x).ent = s.ent := rfl
@[simp] theorem State.setLane_decl (k : Nat) (x : Lane) : (s.setLane k x).decl = s.decl := rfl
@[simp] theorem State.setLane_evBus (k : Nat) (x : Lane) : (s.setLane k x).evBus = s.evBus := rfl
@[simp] theorem State.setLane_due (k : Nat) (x : Lane) : (s.setLane k x).due = s.due := rfl
@[simp] theorem State.setLane_loop (k : Nat) (x : Lane) : (s.setLane k x).loop = s.loop := rfl
@[simp] theorem State.setLane_mem (k : Nat) (x : Lane) : (s.setLane k x).mem = s.mem := rfl
@[simp] theorem State.setLane_ref (k : Nat) (x : Lane) : (s.setLane k x).ref = s.ref := rfl
@[simp] theorem State.setLane_flt (k : Nat) (x : Lane) : (s.setLane k x).flt = s.flt := rfl
@[simp] theorem State.setLane_ses (k : Nat) (x : Lane) : (s.setLane k x).ses = s.ses := rfl
@[simp] theorem State.setLane_lport (k : Nat) (x : Lane) : (s.setLane k x).lport = s.lport := rfl
@[simp] theorem State.setLane_pwm (k : Nat) (x : Lane) : (s.setLane k x).pwm = s.pwm := rfl
@[simp] theorem State.setLane_drv (k : Nat) (x : Lane) : (s.setLane k x).drv = s.drv := rfl
@[simp] theorem State.setLane_acq (k : Nat) (x : Lane) : (s.setLane k x).acq = s.acq := rfl
@[simp] theorem State.setLane_qes (k : Nat) (x : Lane) : (s.setLane k x).qes = s.qes := rfl
@[simp] theorem State.setLane_stages (k : Nat) (x : Lane) : (s.setLane k x).stages = s.stages := rfl
@[simp] theorem State.setLane_nvm (k : Nat) (x : Lane) : (s.setLane k x).nvm = s.nvm := rfl
@[simp] theorem State.setLane_mon (k : Nat) (x : Lane) : (s.setLane k x).mon = s.mon := rfl
@[simp] theorem State.setLane_boot (k : Nat) (x : Lane) : (s.setLane k x).boot = s.boot := rfl
@[simp] theorem State.setLane_cans (k : Nat) (x : Lane) : (s.setLane k x).cans = s.cans := rfl
@[simp] theorem State.setLane_rxAt (k : Nat) (x : Lane) : (s.setLane k x).rxAt = s.rxAt := rfl
@[simp] theorem State.setLane_tap (k : Nat) (x : Lane) : (s.setLane k x).tap = s.tap := rfl

@[simp] theorem State.setRx_pending (k : Nat) (x : Rx) : (s.setRx k x).pending = s.pending := rfl
@[simp] theorem State.setRx_t48 (k : Nat) (x : Rx) : (s.setRx k x).t48 = s.t48 := rfl
@[simp] theorem State.setRx_free (k : Nat) (x : Rx) : (s.setRx k x).free = s.free := rfl
@[simp] theorem State.setRx_ent (k : Nat) (x : Rx) : (s.setRx k x).ent = s.ent := rfl
@[simp] theorem State.setRx_decl (k : Nat) (x : Rx) : (s.setRx k x).decl = s.decl := rfl
@[simp] theorem State.setRx_evBus (k : Nat) (x : Rx) : (s.setRx k x).evBus = s.evBus := rfl
@[simp] theorem State.setRx_due (k : Nat) (x : Rx) : (s.setRx k x).due = s.due := rfl
@[simp] theorem State.setRx_loop (k : Nat) (x : Rx) : (s.setRx k x).loop = s.loop := rfl
@[simp] theorem State.setRx_mem (k : Nat) (x : Rx) : (s.setRx k x).mem = s.mem := rfl
@[simp] theorem State.setRx_ref (k : Nat) (x : Rx) : (s.setRx k x).ref = s.ref := rfl
@[simp] theorem State.setRx_flt (k : Nat) (x : Rx) : (s.setRx k x).flt = s.flt := rfl
@[simp] theorem State.setRx_ses (k : Nat) (x : Rx) : (s.setRx k x).ses = s.ses := rfl
@[simp] theorem State.setRx_lport (k : Nat) (x : Rx) : (s.setRx k x).lport = s.lport := rfl
@[simp] theorem State.setRx_pwm (k : Nat) (x : Rx) : (s.setRx k x).pwm = s.pwm := rfl
@[simp] theorem State.setRx_drv (k : Nat) (x : Rx) : (s.setRx k x).drv = s.drv := rfl
@[simp] theorem State.setRx_acq (k : Nat) (x : Rx) : (s.setRx k x).acq = s.acq := rfl
@[simp] theorem State.setRx_qes (k : Nat) (x : Rx) : (s.setRx k x).qes = s.qes := rfl
@[simp] theorem State.setRx_stages (k : Nat) (x : Rx) : (s.setRx k x).stages = s.stages := rfl
@[simp] theorem State.setRx_nvm (k : Nat) (x : Rx) : (s.setRx k x).nvm = s.nvm := rfl
@[simp] theorem State.setRx_mon (k : Nat) (x : Rx) : (s.setRx k x).mon = s.mon := rfl
@[simp] theorem State.setRx_boot (k : Nat) (x : Rx) : (s.setRx k x).boot = s.boot := rfl
@[simp] theorem State.setRx_cans (k : Nat) (x : Rx) : (s.setRx k x).cans = s.cans := rfl
@[simp] theorem State.setRx_rxAt (k : Nat) (x : Rx) : (s.setRx k x).rxAt = s.rxAt := rfl
@[simp] theorem State.setRx_tap (k : Nat) (x : Rx) : (s.setRx k x).tap = s.tap := rfl

@[simp] theorem State.setHb_pending (k : Nat) (x : Hb) : (s.setHb k x).pending = s.pending := rfl
@[simp] theorem State.setHb_t48 (k : Nat) (x : Hb) : (s.setHb k x).t48 = s.t48 := rfl
@[simp] theorem State.setHb_free (k : Nat) (x : Hb) : (s.setHb k x).free = s.free := rfl
@[simp] theorem State.setHb_ent (k : Nat) (x : Hb) : (s.setHb k x).ent = s.ent := rfl
@[simp] theorem State.setHb_decl (k : Nat) (x : Hb) : (s.setHb k x).decl = s.decl := rfl
@[simp] theorem State.setHb_evBus (k : Nat) (x : Hb) : (s.setHb k x).evBus = s.evBus := rfl
@[simp] theorem State.setHb_due (k : Nat) (x : Hb) : (s.setHb k x).due = s.due := rfl
@[simp] theorem State.setHb_loop (k : Nat) (x : Hb) : (s.setHb k x).loop = s.loop := rfl
@[simp] theorem State.setHb_mem (k : Nat) (x : Hb) : (s.setHb k x).mem = s.mem := rfl
@[simp] theorem State.setHb_ref (k : Nat) (x : Hb) : (s.setHb k x).ref = s.ref := rfl
@[simp] theorem State.setHb_flt (k : Nat) (x : Hb) : (s.setHb k x).flt = s.flt := rfl
@[simp] theorem State.setHb_ses (k : Nat) (x : Hb) : (s.setHb k x).ses = s.ses := rfl
@[simp] theorem State.setHb_lport (k : Nat) (x : Hb) : (s.setHb k x).lport = s.lport := rfl
@[simp] theorem State.setHb_pwm (k : Nat) (x : Hb) : (s.setHb k x).pwm = s.pwm := rfl
@[simp] theorem State.setHb_lanes (k : Nat) (x : Hb) : (s.setHb k x).lanes = s.lanes := rfl
@[simp] theorem State.setHb_acq (k : Nat) (x : Hb) : (s.setHb k x).acq = s.acq := rfl
@[simp] theorem State.setHb_qes (k : Nat) (x : Hb) : (s.setHb k x).qes = s.qes := rfl
@[simp] theorem State.setHb_stages (k : Nat) (x : Hb) : (s.setHb k x).stages = s.stages := rfl
@[simp] theorem State.setHb_nvm (k : Nat) (x : Hb) : (s.setHb k x).nvm = s.nvm := rfl
@[simp] theorem State.setHb_mon (k : Nat) (x : Hb) : (s.setHb k x).mon = s.mon := rfl
@[simp] theorem State.setHb_boot (k : Nat) (x : Hb) : (s.setHb k x).boot = s.boot := rfl
@[simp] theorem State.setHb_cans (k : Nat) (x : Hb) : (s.setHb k x).cans = s.cans := rfl
@[simp] theorem State.setHb_rxAt (k : Nat) (x : Hb) : (s.setHb k x).rxAt = s.rxAt := rfl
@[simp] theorem State.setHb_tap (k : Nat) (x : Hb) : (s.setHb k x).tap = s.tap := rfl

@[simp] theorem State.setDl_pending (k : Nat) (x : DLane) : (s.setDl k x).pending = s.pending := rfl
@[simp] theorem State.setDl_t48 (k : Nat) (x : DLane) : (s.setDl k x).t48 = s.t48 := rfl
@[simp] theorem State.setDl_free (k : Nat) (x : DLane) : (s.setDl k x).free = s.free := rfl
@[simp] theorem State.setDl_ent (k : Nat) (x : DLane) : (s.setDl k x).ent = s.ent := rfl
@[simp] theorem State.setDl_decl (k : Nat) (x : DLane) : (s.setDl k x).decl = s.decl := rfl
@[simp] theorem State.setDl_evBus (k : Nat) (x : DLane) : (s.setDl k x).evBus = s.evBus := rfl
@[simp] theorem State.setDl_due (k : Nat) (x : DLane) : (s.setDl k x).due = s.due := rfl
@[simp] theorem State.setDl_loop (k : Nat) (x : DLane) : (s.setDl k x).loop = s.loop := rfl
@[simp] theorem State.setDl_mem (k : Nat) (x : DLane) : (s.setDl k x).mem = s.mem := rfl
@[simp] theorem State.setDl_ref (k : Nat) (x : DLane) : (s.setDl k x).ref = s.ref := rfl
@[simp] theorem State.setDl_flt (k : Nat) (x : DLane) : (s.setDl k x).flt = s.flt := rfl
@[simp] theorem State.setDl_ses (k : Nat) (x : DLane) : (s.setDl k x).ses = s.ses := rfl
@[simp] theorem State.setDl_lport (k : Nat) (x : DLane) : (s.setDl k x).lport = s.lport := rfl
@[simp] theorem State.setDl_pwm (k : Nat) (x : DLane) : (s.setDl k x).pwm = s.pwm := rfl
@[simp] theorem State.setDl_lanes (k : Nat) (x : DLane) : (s.setDl k x).lanes = s.lanes := rfl
@[simp] theorem State.setDl_acq (k : Nat) (x : DLane) : (s.setDl k x).acq = s.acq := rfl
@[simp] theorem State.setDl_qes (k : Nat) (x : DLane) : (s.setDl k x).qes = s.qes := rfl
@[simp] theorem State.setDl_stages (k : Nat) (x : DLane) : (s.setDl k x).stages = s.stages := rfl
@[simp] theorem State.setDl_nvm (k : Nat) (x : DLane) : (s.setDl k x).nvm = s.nvm := rfl
@[simp] theorem State.setDl_mon (k : Nat) (x : DLane) : (s.setDl k x).mon = s.mon := rfl
@[simp] theorem State.setDl_boot (k : Nat) (x : DLane) : (s.setDl k x).boot = s.boot := rfl
@[simp] theorem State.setDl_cans (k : Nat) (x : DLane) : (s.setDl k x).cans = s.cans := rfl
@[simp] theorem State.setDl_rxAt (k : Nat) (x : DLane) : (s.setDl k x).rxAt = s.rxAt := rfl
@[simp] theorem State.setDl_tap (k : Nat) (x : DLane) : (s.setDl k x).tap = s.tap := rfl

@[simp] theorem State.setView_pending (k : Nat) (x : HbView) : (s.setView k x).pending = s.pending := rfl
@[simp] theorem State.setView_t48 (k : Nat) (x : HbView) : (s.setView k x).t48 = s.t48 := rfl
@[simp] theorem State.setView_free (k : Nat) (x : HbView) : (s.setView k x).free = s.free := rfl
@[simp] theorem State.setView_ent (k : Nat) (x : HbView) : (s.setView k x).ent = s.ent := rfl
@[simp] theorem State.setView_decl (k : Nat) (x : HbView) : (s.setView k x).decl = s.decl := rfl
@[simp] theorem State.setView_evBus (k : Nat) (x : HbView) : (s.setView k x).evBus = s.evBus := rfl
@[simp] theorem State.setView_due (k : Nat) (x : HbView) : (s.setView k x).due = s.due := rfl
@[simp] theorem State.setView_loop (k : Nat) (x : HbView) : (s.setView k x).loop = s.loop := rfl
@[simp] theorem State.setView_mem (k : Nat) (x : HbView) : (s.setView k x).mem = s.mem := rfl
@[simp] theorem State.setView_ref (k : Nat) (x : HbView) : (s.setView k x).ref = s.ref := rfl
@[simp] theorem State.setView_flt (k : Nat) (x : HbView) : (s.setView k x).flt = s.flt := rfl
@[simp] theorem State.setView_ses (k : Nat) (x : HbView) : (s.setView k x).ses = s.ses := rfl
@[simp] theorem State.setView_lport (k : Nat) (x : HbView) : (s.setView k x).lport = s.lport := rfl
@[simp] theorem State.setView_pwm (k : Nat) (x : HbView) : (s.setView k x).pwm = s.pwm := rfl
@[simp] theorem State.setView_lanes (k : Nat) (x : HbView) : (s.setView k x).lanes = s.lanes := rfl
@[simp] theorem State.setView_acq (k : Nat) (x : HbView) : (s.setView k x).acq = s.acq := rfl
@[simp] theorem State.setView_qes (k : Nat) (x : HbView) : (s.setView k x).qes = s.qes := rfl
@[simp] theorem State.setView_stages (k : Nat) (x : HbView) : (s.setView k x).stages = s.stages := rfl
@[simp] theorem State.setView_nvm (k : Nat) (x : HbView) : (s.setView k x).nvm = s.nvm := rfl
@[simp] theorem State.setView_mon (k : Nat) (x : HbView) : (s.setView k x).mon = s.mon := rfl
@[simp] theorem State.setView_boot (k : Nat) (x : HbView) : (s.setView k x).boot = s.boot := rfl
@[simp] theorem State.setView_cans (k : Nat) (x : HbView) : (s.setView k x).cans = s.cans := rfl
@[simp] theorem State.setView_rxAt (k : Nat) (x : HbView) : (s.setView k x).rxAt = s.rxAt := rfl
@[simp] theorem State.setView_tap (k : Nat) (x : HbView) : (s.setView k x).tap = s.tap := rfl

@[simp] theorem State.setSensor_pending (k : Nat) (x : Sensor) : (s.setSensor k x).pending = s.pending := rfl
@[simp] theorem State.setSensor_t48 (k : Nat) (x : Sensor) : (s.setSensor k x).t48 = s.t48 := rfl
@[simp] theorem State.setSensor_free (k : Nat) (x : Sensor) : (s.setSensor k x).free = s.free := rfl
@[simp] theorem State.setSensor_ent (k : Nat) (x : Sensor) : (s.setSensor k x).ent = s.ent := rfl
@[simp] theorem State.setSensor_decl (k : Nat) (x : Sensor) : (s.setSensor k x).decl = s.decl := rfl
@[simp] theorem State.setSensor_evBus (k : Nat) (x : Sensor) : (s.setSensor k x).evBus = s.evBus := rfl
@[simp] theorem State.setSensor_due (k : Nat) (x : Sensor) : (s.setSensor k x).due = s.due := rfl
@[simp] theorem State.setSensor_loop (k : Nat) (x : Sensor) : (s.setSensor k x).loop = s.loop := rfl
@[simp] theorem State.setSensor_mem (k : Nat) (x : Sensor) : (s.setSensor k x).mem = s.mem := rfl
@[simp] theorem State.setSensor_ref (k : Nat) (x : Sensor) : (s.setSensor k x).ref = s.ref := rfl
@[simp] theorem State.setSensor_flt (k : Nat) (x : Sensor) : (s.setSensor k x).flt = s.flt := rfl
@[simp] theorem State.setSensor_ses (k : Nat) (x : Sensor) : (s.setSensor k x).ses = s.ses := rfl
@[simp] theorem State.setSensor_lport (k : Nat) (x : Sensor) : (s.setSensor k x).lport = s.lport := rfl
@[simp] theorem State.setSensor_pwm (k : Nat) (x : Sensor) : (s.setSensor k x).pwm = s.pwm := rfl
@[simp] theorem State.setSensor_lanes (k : Nat) (x : Sensor) : (s.setSensor k x).lanes = s.lanes := rfl
@[simp] theorem State.setSensor_drv (k : Nat) (x : Sensor) : (s.setSensor k x).drv = s.drv := rfl
@[simp] theorem State.setSensor_acq (k : Nat) (x : Sensor) : (s.setSensor k x).acq = s.acq := rfl
@[simp] theorem State.setSensor_qes (k : Nat) (x : Sensor) : (s.setSensor k x).qes = s.qes := rfl
@[simp] theorem State.setSensor_stages (k : Nat) (x : Sensor) : (s.setSensor k x).stages = s.stages := rfl
@[simp] theorem State.setSensor_nvm (k : Nat) (x : Sensor) : (s.setSensor k x).nvm = s.nvm := rfl
@[simp] theorem State.setSensor_boot (k : Nat) (x : Sensor) : (s.setSensor k x).boot = s.boot := rfl
@[simp] theorem State.setSensor_cans (k : Nat) (x : Sensor) : (s.setSensor k x).cans = s.cans := rfl
@[simp] theorem State.setSensor_rxAt (k : Nat) (x : Sensor) : (s.setSensor k x).rxAt = s.rxAt := rfl
@[simp] theorem State.setSensor_tap (k : Nat) (x : Sensor) : (s.setSensor k x).tap = s.tap := rfl

@[simp] theorem State.setSupply_pending (k : Nat) (x : Supply) : (s.setSupply k x).pending = s.pending := rfl
@[simp] theorem State.setSupply_t48 (k : Nat) (x : Supply) : (s.setSupply k x).t48 = s.t48 := rfl
@[simp] theorem State.setSupply_free (k : Nat) (x : Supply) : (s.setSupply k x).free = s.free := rfl
@[simp] theorem State.setSupply_ent (k : Nat) (x : Supply) : (s.setSupply k x).ent = s.ent := rfl
@[simp] theorem State.setSupply_decl (k : Nat) (x : Supply) : (s.setSupply k x).decl = s.decl := rfl
@[simp] theorem State.setSupply_evBus (k : Nat) (x : Supply) : (s.setSupply k x).evBus = s.evBus := rfl
@[simp] theorem State.setSupply_due (k : Nat) (x : Supply) : (s.setSupply k x).due = s.due := rfl
@[simp] theorem State.setSupply_loop (k : Nat) (x : Supply) : (s.setSupply k x).loop = s.loop := rfl
@[simp] theorem State.setSupply_mem (k : Nat) (x : Supply) : (s.setSupply k x).mem = s.mem := rfl
@[simp] theorem State.setSupply_ref (k : Nat) (x : Supply) : (s.setSupply k x).ref = s.ref := rfl
@[simp] theorem State.setSupply_flt (k : Nat) (x : Supply) : (s.setSupply k x).flt = s.flt := rfl
@[simp] theorem State.setSupply_ses (k : Nat) (x : Supply) : (s.setSupply k x).ses = s.ses := rfl
@[simp] theorem State.setSupply_lport (k : Nat) (x : Supply) : (s.setSupply k x).lport = s.lport := rfl
@[simp] theorem State.setSupply_pwm (k : Nat) (x : Supply) : (s.setSupply k x).pwm = s.pwm := rfl
@[simp] theorem State.setSupply_lanes (k : Nat) (x : Supply) : (s.setSupply k x).lanes = s.lanes := rfl
@[simp] theorem State.setSupply_drv (k : Nat) (x : Supply) : (s.setSupply k x).drv = s.drv := rfl
@[simp] theorem State.setSupply_acq (k : Nat) (x : Supply) : (s.setSupply k x).acq = s.acq := rfl
@[simp] theorem State.setSupply_qes (k : Nat) (x : Supply) : (s.setSupply k x).qes = s.qes := rfl
@[simp] theorem State.setSupply_stages (k : Nat) (x : Supply) : (s.setSupply k x).stages = s.stages := rfl
@[simp] theorem State.setSupply_nvm (k : Nat) (x : Supply) : (s.setSupply k x).nvm = s.nvm := rfl
@[simp] theorem State.setSupply_boot (k : Nat) (x : Supply) : (s.setSupply k x).boot = s.boot := rfl
@[simp] theorem State.setSupply_cans (k : Nat) (x : Supply) : (s.setSupply k x).cans = s.cans := rfl
@[simp] theorem State.setSupply_rxAt (k : Nat) (x : Supply) : (s.setSupply k x).rxAt = s.rxAt := rfl
@[simp] theorem State.setSupply_tap (k : Nat) (x : Supply) : (s.setSupply k x).tap = s.tap := rfl

@[simp] theorem State.setCan_pending (k : Nat) (x : Can) : (s.setCan k x).pending = s.pending := rfl
@[simp] theorem State.setCan_t48 (k : Nat) (x : Can) : (s.setCan k x).t48 = s.t48 := rfl
@[simp] theorem State.setCan_free (k : Nat) (x : Can) : (s.setCan k x).free = s.free := rfl
@[simp] theorem State.setCan_ent (k : Nat) (x : Can) : (s.setCan k x).ent = s.ent := rfl
@[simp] theorem State.setCan_decl (k : Nat) (x : Can) : (s.setCan k x).decl = s.decl := rfl
@[simp] theorem State.setCan_evBus (k : Nat) (x : Can) : (s.setCan k x).evBus = s.evBus := rfl
@[simp] theorem State.setCan_due (k : Nat) (x : Can) : (s.setCan k x).due = s.due := rfl
@[simp] theorem State.setCan_loop (k : Nat) (x : Can) : (s.setCan k x).loop = s.loop := rfl
@[simp] theorem State.setCan_mem (k : Nat) (x : Can) : (s.setCan k x).mem = s.mem := rfl
@[simp] theorem State.setCan_ref (k : Nat) (x : Can) : (s.setCan k x).ref = s.ref := rfl
@[simp] theorem State.setCan_flt (k : Nat) (x : Can) : (s.setCan k x).flt = s.flt := rfl
@[simp] theorem State.setCan_ses (k : Nat) (x : Can) : (s.setCan k x).ses = s.ses := rfl
@[simp] theorem State.setCan_lport (k : Nat) (x : Can) : (s.setCan k x).lport = s.lport := rfl
@[simp] theorem State.setCan_pwm (k : Nat) (x : Can) : (s.setCan k x).pwm = s.pwm := rfl
@[simp] theorem State.setCan_lanes (k : Nat) (x : Can) : (s.setCan k x).lanes = s.lanes := rfl
@[simp] theorem State.setCan_drv (k : Nat) (x : Can) : (s.setCan k x).drv = s.drv := rfl
@[simp] theorem State.setCan_acq (k : Nat) (x : Can) : (s.setCan k x).acq = s.acq := rfl
@[simp] theorem State.setCan_qes (k : Nat) (x : Can) : (s.setCan k x).qes = s.qes := rfl
@[simp] theorem State.setCan_stages (k : Nat) (x : Can) : (s.setCan k x).stages = s.stages := rfl
@[simp] theorem State.setCan_nvm (k : Nat) (x : Can) : (s.setCan k x).nvm = s.nvm := rfl
@[simp] theorem State.setCan_mon (k : Nat) (x : Can) : (s.setCan k x).mon = s.mon := rfl
@[simp] theorem State.setCan_boot (k : Nat) (x : Can) : (s.setCan k x).boot = s.boot := rfl
@[simp] theorem State.setCan_rxAt (k : Nat) (x : Can) : (s.setCan k x).rxAt = s.rxAt := rfl
@[simp] theorem State.setCan_tap (k : Nat) (x : Can) : (s.setCan k x).tap = s.tap := rfl

@[simp] theorem State.setAdc_pending (k : Nat) (x : Adc) : (s.setAdc k x).pending = s.pending := rfl
@[simp] theorem State.setAdc_t48 (k : Nat) (x : Adc) : (s.setAdc k x).t48 = s.t48 := rfl
@[simp] theorem State.setAdc_free (k : Nat) (x : Adc) : (s.setAdc k x).free = s.free := rfl
@[simp] theorem State.setAdc_ent (k : Nat) (x : Adc) : (s.setAdc k x).ent = s.ent := rfl
@[simp] theorem State.setAdc_decl (k : Nat) (x : Adc) : (s.setAdc k x).decl = s.decl := rfl
@[simp] theorem State.setAdc_evBus (k : Nat) (x : Adc) : (s.setAdc k x).evBus = s.evBus := rfl
@[simp] theorem State.setAdc_due (k : Nat) (x : Adc) : (s.setAdc k x).due = s.due := rfl
@[simp] theorem State.setAdc_loop (k : Nat) (x : Adc) : (s.setAdc k x).loop = s.loop := rfl
@[simp] theorem State.setAdc_mem (k : Nat) (x : Adc) : (s.setAdc k x).mem = s.mem := rfl
@[simp] theorem State.setAdc_ref (k : Nat) (x : Adc) : (s.setAdc k x).ref = s.ref := rfl
@[simp] theorem State.setAdc_flt (k : Nat) (x : Adc) : (s.setAdc k x).flt = s.flt := rfl
@[simp] theorem State.setAdc_ses (k : Nat) (x : Adc) : (s.setAdc k x).ses = s.ses := rfl
@[simp] theorem State.setAdc_lport (k : Nat) (x : Adc) : (s.setAdc k x).lport = s.lport := rfl
@[simp] theorem State.setAdc_pwm (k : Nat) (x : Adc) : (s.setAdc k x).pwm = s.pwm := rfl
@[simp] theorem State.setAdc_lanes (k : Nat) (x : Adc) : (s.setAdc k x).lanes = s.lanes := rfl
@[simp] theorem State.setAdc_drv (k : Nat) (x : Adc) : (s.setAdc k x).drv = s.drv := rfl
@[simp] theorem State.setAdc_qes (k : Nat) (x : Adc) : (s.setAdc k x).qes = s.qes := rfl
@[simp] theorem State.setAdc_stages (k : Nat) (x : Adc) : (s.setAdc k x).stages = s.stages := rfl
@[simp] theorem State.setAdc_nvm (k : Nat) (x : Adc) : (s.setAdc k x).nvm = s.nvm := rfl
@[simp] theorem State.setAdc_mon (k : Nat) (x : Adc) : (s.setAdc k x).mon = s.mon := rfl
@[simp] theorem State.setAdc_boot (k : Nat) (x : Adc) : (s.setAdc k x).boot = s.boot := rfl
@[simp] theorem State.setAdc_cans (k : Nat) (x : Adc) : (s.setAdc k x).cans = s.cans := rfl
@[simp] theorem State.setAdc_rxAt (k : Nat) (x : Adc) : (s.setAdc k x).rxAt = s.rxAt := rfl
@[simp] theorem State.setAdc_tap (k : Nat) (x : Adc) : (s.setAdc k x).tap = s.tap := rfl

@[simp] theorem State.setSd_pending (k : Nat) (x : Sd) : (s.setSd k x).pending = s.pending := rfl
@[simp] theorem State.setSd_t48 (k : Nat) (x : Sd) : (s.setSd k x).t48 = s.t48 := rfl
@[simp] theorem State.setSd_free (k : Nat) (x : Sd) : (s.setSd k x).free = s.free := rfl
@[simp] theorem State.setSd_ent (k : Nat) (x : Sd) : (s.setSd k x).ent = s.ent := rfl
@[simp] theorem State.setSd_decl (k : Nat) (x : Sd) : (s.setSd k x).decl = s.decl := rfl
@[simp] theorem State.setSd_evBus (k : Nat) (x : Sd) : (s.setSd k x).evBus = s.evBus := rfl
@[simp] theorem State.setSd_due (k : Nat) (x : Sd) : (s.setSd k x).due = s.due := rfl
@[simp] theorem State.setSd_loop (k : Nat) (x : Sd) : (s.setSd k x).loop = s.loop := rfl
@[simp] theorem State.setSd_mem (k : Nat) (x : Sd) : (s.setSd k x).mem = s.mem := rfl
@[simp] theorem State.setSd_ref (k : Nat) (x : Sd) : (s.setSd k x).ref = s.ref := rfl
@[simp] theorem State.setSd_flt (k : Nat) (x : Sd) : (s.setSd k x).flt = s.flt := rfl
@[simp] theorem State.setSd_ses (k : Nat) (x : Sd) : (s.setSd k x).ses = s.ses := rfl
@[simp] theorem State.setSd_lport (k : Nat) (x : Sd) : (s.setSd k x).lport = s.lport := rfl
@[simp] theorem State.setSd_pwm (k : Nat) (x : Sd) : (s.setSd k x).pwm = s.pwm := rfl
@[simp] theorem State.setSd_lanes (k : Nat) (x : Sd) : (s.setSd k x).lanes = s.lanes := rfl
@[simp] theorem State.setSd_drv (k : Nat) (x : Sd) : (s.setSd k x).drv = s.drv := rfl
@[simp] theorem State.setSd_qes (k : Nat) (x : Sd) : (s.setSd k x).qes = s.qes := rfl
@[simp] theorem State.setSd_stages (k : Nat) (x : Sd) : (s.setSd k x).stages = s.stages := rfl
@[simp] theorem State.setSd_nvm (k : Nat) (x : Sd) : (s.setSd k x).nvm = s.nvm := rfl
@[simp] theorem State.setSd_mon (k : Nat) (x : Sd) : (s.setSd k x).mon = s.mon := rfl
@[simp] theorem State.setSd_boot (k : Nat) (x : Sd) : (s.setSd k x).boot = s.boot := rfl
@[simp] theorem State.setSd_cans (k : Nat) (x : Sd) : (s.setSd k x).cans = s.cans := rfl
@[simp] theorem State.setSd_rxAt (k : Nat) (x : Sd) : (s.setSd k x).rxAt = s.rxAt := rfl
@[simp] theorem State.setSd_tap (k : Nat) (x : Sd) : (s.setSd k x).tap = s.tap := rfl

@[simp] theorem State.setLg_pending (k : Nat) (x : Lg) : (s.setLg k x).pending = s.pending := rfl
@[simp] theorem State.setLg_t48 (k : Nat) (x : Lg) : (s.setLg k x).t48 = s.t48 := rfl
@[simp] theorem State.setLg_free (k : Nat) (x : Lg) : (s.setLg k x).free = s.free := rfl
@[simp] theorem State.setLg_ent (k : Nat) (x : Lg) : (s.setLg k x).ent = s.ent := rfl
@[simp] theorem State.setLg_decl (k : Nat) (x : Lg) : (s.setLg k x).decl = s.decl := rfl
@[simp] theorem State.setLg_evBus (k : Nat) (x : Lg) : (s.setLg k x).evBus = s.evBus := rfl
@[simp] theorem State.setLg_due (k : Nat) (x : Lg) : (s.setLg k x).due = s.due := rfl
@[simp] theorem State.setLg_loop (k : Nat) (x : Lg) : (s.setLg k x).loop = s.loop := rfl
@[simp] theorem State.setLg_mem (k : Nat) (x : Lg) : (s.setLg k x).mem = s.mem := rfl
@[simp] theorem State.setLg_ref (k : Nat) (x : Lg) : (s.setLg k x).ref = s.ref := rfl
@[simp] theorem State.setLg_flt (k : Nat) (x : Lg) : (s.setLg k x).flt = s.flt := rfl
@[simp] theorem State.setLg_ses (k : Nat) (x : Lg) : (s.setLg k x).ses = s.ses := rfl
@[simp] theorem State.setLg_lport (k : Nat) (x : Lg) : (s.setLg k x).lport = s.lport := rfl
@[simp] theorem State.setLg_pwm (k : Nat) (x : Lg) : (s.setLg k x).pwm = s.pwm := rfl
@[simp] theorem State.setLg_lanes (k : Nat) (x : Lg) : (s.setLg k x).lanes = s.lanes := rfl
@[simp] theorem State.setLg_drv (k : Nat) (x : Lg) : (s.setLg k x).drv = s.drv := rfl
@[simp] theorem State.setLg_qes (k : Nat) (x : Lg) : (s.setLg k x).qes = s.qes := rfl
@[simp] theorem State.setLg_stages (k : Nat) (x : Lg) : (s.setLg k x).stages = s.stages := rfl
@[simp] theorem State.setLg_nvm (k : Nat) (x : Lg) : (s.setLg k x).nvm = s.nvm := rfl
@[simp] theorem State.setLg_mon (k : Nat) (x : Lg) : (s.setLg k x).mon = s.mon := rfl
@[simp] theorem State.setLg_boot (k : Nat) (x : Lg) : (s.setLg k x).boot = s.boot := rfl
@[simp] theorem State.setLg_cans (k : Nat) (x : Lg) : (s.setLg k x).cans = s.cans := rfl
@[simp] theorem State.setLg_rxAt (k : Nat) (x : Lg) : (s.setLg k x).rxAt = s.rxAt := rfl
@[simp] theorem State.setLg_tap (k : Nat) (x : Lg) : (s.setLg k x).tap = s.tap := rfl

@[simp] theorem State.setCw_pending (k : Nat) (x : Cw) : (s.setCw k x).pending = s.pending := rfl
@[simp] theorem State.setCw_t48 (k : Nat) (x : Cw) : (s.setCw k x).t48 = s.t48 := rfl
@[simp] theorem State.setCw_free (k : Nat) (x : Cw) : (s.setCw k x).free = s.free := rfl
@[simp] theorem State.setCw_ent (k : Nat) (x : Cw) : (s.setCw k x).ent = s.ent := rfl
@[simp] theorem State.setCw_decl (k : Nat) (x : Cw) : (s.setCw k x).decl = s.decl := rfl
@[simp] theorem State.setCw_evBus (k : Nat) (x : Cw) : (s.setCw k x).evBus = s.evBus := rfl
@[simp] theorem State.setCw_due (k : Nat) (x : Cw) : (s.setCw k x).due = s.due := rfl
@[simp] theorem State.setCw_loop (k : Nat) (x : Cw) : (s.setCw k x).loop = s.loop := rfl
@[simp] theorem State.setCw_mem (k : Nat) (x : Cw) : (s.setCw k x).mem = s.mem := rfl
@[simp] theorem State.setCw_ref (k : Nat) (x : Cw) : (s.setCw k x).ref = s.ref := rfl
@[simp] theorem State.setCw_flt (k : Nat) (x : Cw) : (s.setCw k x).flt = s.flt := rfl
@[simp] theorem State.setCw_ses (k : Nat) (x : Cw) : (s.setCw k x).ses = s.ses := rfl
@[simp] theorem State.setCw_lport (k : Nat) (x : Cw) : (s.setCw k x).lport = s.lport := rfl
@[simp] theorem State.setCw_pwm (k : Nat) (x : Cw) : (s.setCw k x).pwm = s.pwm := rfl
@[simp] theorem State.setCw_lanes (k : Nat) (x : Cw) : (s.setCw k x).lanes = s.lanes := rfl
@[simp] theorem State.setCw_drv (k : Nat) (x : Cw) : (s.setCw k x).drv = s.drv := rfl
@[simp] theorem State.setCw_qes (k : Nat) (x : Cw) : (s.setCw k x).qes = s.qes := rfl
@[simp] theorem State.setCw_stages (k : Nat) (x : Cw) : (s.setCw k x).stages = s.stages := rfl
@[simp] theorem State.setCw_nvm (k : Nat) (x : Cw) : (s.setCw k x).nvm = s.nvm := rfl
@[simp] theorem State.setCw_mon (k : Nat) (x : Cw) : (s.setCw k x).mon = s.mon := rfl
@[simp] theorem State.setCw_boot (k : Nat) (x : Cw) : (s.setCw k x).boot = s.boot := rfl
@[simp] theorem State.setCw_cans (k : Nat) (x : Cw) : (s.setCw k x).cans = s.cans := rfl
@[simp] theorem State.setCw_rxAt (k : Nat) (x : Cw) : (s.setCw k x).rxAt = s.rxAt := rfl
@[simp] theorem State.setCw_tap (k : Nat) (x : Cw) : (s.setCw k x).tap = s.tap := rfl

@[simp] theorem State.setQe_pending (k : Nat) (x : Qe) : (s.setQe k x).pending = s.pending := rfl
@[simp] theorem State.setQe_t48 (k : Nat) (x : Qe) : (s.setQe k x).t48 = s.t48 := rfl
@[simp] theorem State.setQe_free (k : Nat) (x : Qe) : (s.setQe k x).free = s.free := rfl
@[simp] theorem State.setQe_ent (k : Nat) (x : Qe) : (s.setQe k x).ent = s.ent := rfl
@[simp] theorem State.setQe_decl (k : Nat) (x : Qe) : (s.setQe k x).decl = s.decl := rfl
@[simp] theorem State.setQe_evBus (k : Nat) (x : Qe) : (s.setQe k x).evBus = s.evBus := rfl
@[simp] theorem State.setQe_due (k : Nat) (x : Qe) : (s.setQe k x).due = s.due := rfl
@[simp] theorem State.setQe_loop (k : Nat) (x : Qe) : (s.setQe k x).loop = s.loop := rfl
@[simp] theorem State.setQe_mem (k : Nat) (x : Qe) : (s.setQe k x).mem = s.mem := rfl
@[simp] theorem State.setQe_ref (k : Nat) (x : Qe) : (s.setQe k x).ref = s.ref := rfl
@[simp] theorem State.setQe_flt (k : Nat) (x : Qe) : (s.setQe k x).flt = s.flt := rfl
@[simp] theorem State.setQe_ses (k : Nat) (x : Qe) : (s.setQe k x).ses = s.ses := rfl
@[simp] theorem State.setQe_lport (k : Nat) (x : Qe) : (s.setQe k x).lport = s.lport := rfl
@[simp] theorem State.setQe_pwm (k : Nat) (x : Qe) : (s.setQe k x).pwm = s.pwm := rfl
@[simp] theorem State.setQe_lanes (k : Nat) (x : Qe) : (s.setQe k x).lanes = s.lanes := rfl
@[simp] theorem State.setQe_drv (k : Nat) (x : Qe) : (s.setQe k x).drv = s.drv := rfl
@[simp] theorem State.setQe_acq (k : Nat) (x : Qe) : (s.setQe k x).acq = s.acq := rfl
@[simp] theorem State.setQe_stages (k : Nat) (x : Qe) : (s.setQe k x).stages = s.stages := rfl
@[simp] theorem State.setQe_nvm (k : Nat) (x : Qe) : (s.setQe k x).nvm = s.nvm := rfl
@[simp] theorem State.setQe_mon (k : Nat) (x : Qe) : (s.setQe k x).mon = s.mon := rfl
@[simp] theorem State.setQe_boot (k : Nat) (x : Qe) : (s.setQe k x).boot = s.boot := rfl
@[simp] theorem State.setQe_cans (k : Nat) (x : Qe) : (s.setQe k x).cans = s.cans := rfl
@[simp] theorem State.setQe_rxAt (k : Nat) (x : Qe) : (s.setQe k x).rxAt = s.rxAt := rfl
@[simp] theorem State.setQe_tap (k : Nat) (x : Qe) : (s.setQe k x).tap = s.tap := rfl

@[simp] theorem State.setStg_pending (k : Nat) (x : Stg) : (s.setStg k x).pending = s.pending := rfl
@[simp] theorem State.setStg_t48 (k : Nat) (x : Stg) : (s.setStg k x).t48 = s.t48 := rfl
@[simp] theorem State.setStg_free (k : Nat) (x : Stg) : (s.setStg k x).free = s.free := rfl
@[simp] theorem State.setStg_ent (k : Nat) (x : Stg) : (s.setStg k x).ent = s.ent := rfl
@[simp] theorem State.setStg_decl (k : Nat) (x : Stg) : (s.setStg k x).decl = s.decl := rfl
@[simp] theorem State.setStg_evBus (k : Nat) (x : Stg) : (s.setStg k x).evBus = s.evBus := rfl
@[simp] theorem State.setStg_due (k : Nat) (x : Stg) : (s.setStg k x).due = s.due := rfl
@[simp] theorem State.setStg_loop (k : Nat) (x : Stg) : (s.setStg k x).loop = s.loop := rfl
@[simp] theorem State.setStg_mem (k : Nat) (x : Stg) : (s.setStg k x).mem = s.mem := rfl
@[simp] theorem State.setStg_ref (k : Nat) (x : Stg) : (s.setStg k x).ref = s.ref := rfl
@[simp] theorem State.setStg_flt (k : Nat) (x : Stg) : (s.setStg k x).flt = s.flt := rfl
@[simp] theorem State.setStg_ses (k : Nat) (x : Stg) : (s.setStg k x).ses = s.ses := rfl
@[simp] theorem State.setStg_lport (k : Nat) (x : Stg) : (s.setStg k x).lport = s.lport := rfl
@[simp] theorem State.setStg_pwm (k : Nat) (x : Stg) : (s.setStg k x).pwm = s.pwm := rfl
@[simp] theorem State.setStg_lanes (k : Nat) (x : Stg) : (s.setStg k x).lanes = s.lanes := rfl
@[simp] theorem State.setStg_drv (k : Nat) (x : Stg) : (s.setStg k x).drv = s.drv := rfl
@[simp] theorem State.setStg_acq (k : Nat) (x : Stg) : (s.setStg k x).acq = s.acq := rfl
@[simp] theorem State.setStg_qes (k : Nat) (x : Stg) : (s.setStg k x).qes = s.qes := rfl
@[simp] theorem State.setStg_nvm (k : Nat) (x : Stg) : (s.setStg k x).nvm = s.nvm := rfl
@[simp] theorem State.setStg_mon (k : Nat) (x : Stg) : (s.setStg k x).mon = s.mon := rfl
@[simp] theorem State.setStg_boot (k : Nat) (x : Stg) : (s.setStg k x).boot = s.boot := rfl
@[simp] theorem State.setStg_cans (k : Nat) (x : Stg) : (s.setStg k x).cans = s.cans := rfl
@[simp] theorem State.setStg_rxAt (k : Nat) (x : Stg) : (s.setStg k x).rxAt = s.rxAt := rfl
@[simp] theorem State.setStg_tap (k : Nat) (x : Stg) : (s.setStg k x).tap = s.tap := rfl

@[simp] theorem State.setSess_pending (k : Nat) (x : Sess) : (s.setSess k x).pending = s.pending := rfl
@[simp] theorem State.setSess_t48 (k : Nat) (x : Sess) : (s.setSess k x).t48 = s.t48 := rfl
@[simp] theorem State.setSess_free (k : Nat) (x : Sess) : (s.setSess k x).free = s.free := rfl
@[simp] theorem State.setSess_ent (k : Nat) (x : Sess) : (s.setSess k x).ent = s.ent := rfl
@[simp] theorem State.setSess_decl (k : Nat) (x : Sess) : (s.setSess k x).decl = s.decl := rfl
@[simp] theorem State.setSess_evBus (k : Nat) (x : Sess) : (s.setSess k x).evBus = s.evBus := rfl
@[simp] theorem State.setSess_due (k : Nat) (x : Sess) : (s.setSess k x).due = s.due := rfl
@[simp] theorem State.setSess_loop (k : Nat) (x : Sess) : (s.setSess k x).loop = s.loop := rfl
@[simp] theorem State.setSess_mem (k : Nat) (x : Sess) : (s.setSess k x).mem = s.mem := rfl
@[simp] theorem State.setSess_ref (k : Nat) (x : Sess) : (s.setSess k x).ref = s.ref := rfl
@[simp] theorem State.setSess_flt (k : Nat) (x : Sess) : (s.setSess k x).flt = s.flt := rfl
@[simp] theorem State.setSess_lport (k : Nat) (x : Sess) : (s.setSess k x).lport = s.lport := rfl
@[simp] theorem State.setSess_pwm (k : Nat) (x : Sess) : (s.setSess k x).pwm = s.pwm := rfl
@[simp] theorem State.setSess_lanes (k : Nat) (x : Sess) : (s.setSess k x).lanes = s.lanes := rfl
@[simp] theorem State.setSess_drv (k : Nat) (x : Sess) : (s.setSess k x).drv = s.drv := rfl
@[simp] theorem State.setSess_acq (k : Nat) (x : Sess) : (s.setSess k x).acq = s.acq := rfl
@[simp] theorem State.setSess_qes (k : Nat) (x : Sess) : (s.setSess k x).qes = s.qes := rfl
@[simp] theorem State.setSess_stages (k : Nat) (x : Sess) : (s.setSess k x).stages = s.stages := rfl
@[simp] theorem State.setSess_nvm (k : Nat) (x : Sess) : (s.setSess k x).nvm = s.nvm := rfl
@[simp] theorem State.setSess_mon (k : Nat) (x : Sess) : (s.setSess k x).mon = s.mon := rfl
@[simp] theorem State.setSess_boot (k : Nat) (x : Sess) : (s.setSess k x).boot = s.boot := rfl
@[simp] theorem State.setSess_cans (k : Nat) (x : Sess) : (s.setSess k x).cans = s.cans := rfl
@[simp] theorem State.setSess_rxAt (k : Nat) (x : Sess) : (s.setSess k x).rxAt = s.rxAt := rfl
@[simp] theorem State.setSess_tap (k : Nat) (x : Sess) : (s.setSess k x).tap = s.tap := rfl

@[simp] theorem State.setKern_pending (k : Nat) (x : Kern) : (s.setKern k x).pending = s.pending := rfl
@[simp] theorem State.setKern_t48 (k : Nat) (x : Kern) : (s.setKern k x).t48 = s.t48 := rfl
@[simp] theorem State.setKern_free (k : Nat) (x : Kern) : (s.setKern k x).free = s.free := rfl
@[simp] theorem State.setKern_ent (k : Nat) (x : Kern) : (s.setKern k x).ent = s.ent := rfl
@[simp] theorem State.setKern_decl (k : Nat) (x : Kern) : (s.setKern k x).decl = s.decl := rfl
@[simp] theorem State.setKern_evBus (k : Nat) (x : Kern) : (s.setKern k x).evBus = s.evBus := rfl
@[simp] theorem State.setKern_due (k : Nat) (x : Kern) : (s.setKern k x).due = s.due := rfl
@[simp] theorem State.setKern_loop (k : Nat) (x : Kern) : (s.setKern k x).loop = s.loop := rfl
@[simp] theorem State.setKern_mem (k : Nat) (x : Kern) : (s.setKern k x).mem = s.mem := rfl
@[simp] theorem State.setKern_ref (k : Nat) (x : Kern) : (s.setKern k x).ref = s.ref := rfl
@[simp] theorem State.setKern_flt (k : Nat) (x : Kern) : (s.setKern k x).flt = s.flt := rfl
@[simp] theorem State.setKern_ses (k : Nat) (x : Kern) : (s.setKern k x).ses = s.ses := rfl
@[simp] theorem State.setKern_lport (k : Nat) (x : Kern) : (s.setKern k x).lport = s.lport := rfl
@[simp] theorem State.setKern_pwm (k : Nat) (x : Kern) : (s.setKern k x).pwm = s.pwm := rfl
@[simp] theorem State.setKern_lanes (k : Nat) (x : Kern) : (s.setKern k x).lanes = s.lanes := rfl
@[simp] theorem State.setKern_drv (k : Nat) (x : Kern) : (s.setKern k x).drv = s.drv := rfl
@[simp] theorem State.setKern_acq (k : Nat) (x : Kern) : (s.setKern k x).acq = s.acq := rfl
@[simp] theorem State.setKern_qes (k : Nat) (x : Kern) : (s.setKern k x).qes = s.qes := rfl
@[simp] theorem State.setKern_nvm (k : Nat) (x : Kern) : (s.setKern k x).nvm = s.nvm := rfl
@[simp] theorem State.setKern_mon (k : Nat) (x : Kern) : (s.setKern k x).mon = s.mon := rfl
@[simp] theorem State.setKern_boot (k : Nat) (x : Kern) : (s.setKern k x).boot = s.boot := rfl
@[simp] theorem State.setKern_cans (k : Nat) (x : Kern) : (s.setKern k x).cans = s.cans := rfl
@[simp] theorem State.setKern_rxAt (k : Nat) (x : Kern) : (s.setKern k x).rxAt = s.rxAt := rfl
@[simp] theorem State.setKern_tap (k : Nat) (x : Kern) : (s.setKern k x).tap = s.tap := rfl

@[simp] theorem State.setGuard_pending (k : Nat) (x : Guard) : (s.setGuard k x).pending = s.pending := rfl
@[simp] theorem State.setGuard_t48 (k : Nat) (x : Guard) : (s.setGuard k x).t48 = s.t48 := rfl
@[simp] theorem State.setGuard_free (k : Nat) (x : Guard) : (s.setGuard k x).free = s.free := rfl
@[simp] theorem State.setGuard_ent (k : Nat) (x : Guard) : (s.setGuard k x).ent = s.ent := rfl
@[simp] theorem State.setGuard_decl (k : Nat) (x : Guard) : (s.setGuard k x).decl = s.decl := rfl
@[simp] theorem State.setGuard_evBus (k : Nat) (x : Guard) : (s.setGuard k x).evBus = s.evBus := rfl
@[simp] theorem State.setGuard_due (k : Nat) (x : Guard) : (s.setGuard k x).due = s.due := rfl
@[simp] theorem State.setGuard_loop (k : Nat) (x : Guard) : (s.setGuard k x).loop = s.loop := rfl
@[simp] theorem State.setGuard_mem (k : Nat) (x : Guard) : (s.setGuard k x).mem = s.mem := rfl
@[simp] theorem State.setGuard_ref (k : Nat) (x : Guard) : (s.setGuard k x).ref = s.ref := rfl
@[simp] theorem State.setGuard_flt (k : Nat) (x : Guard) : (s.setGuard k x).flt = s.flt := rfl
@[simp] theorem State.setGuard_ses (k : Nat) (x : Guard) : (s.setGuard k x).ses = s.ses := rfl
@[simp] theorem State.setGuard_lport (k : Nat) (x : Guard) : (s.setGuard k x).lport = s.lport := rfl
@[simp] theorem State.setGuard_pwm (k : Nat) (x : Guard) : (s.setGuard k x).pwm = s.pwm := rfl
@[simp] theorem State.setGuard_lanes (k : Nat) (x : Guard) : (s.setGuard k x).lanes = s.lanes := rfl
@[simp] theorem State.setGuard_drv (k : Nat) (x : Guard) : (s.setGuard k x).drv = s.drv := rfl
@[simp] theorem State.setGuard_acq (k : Nat) (x : Guard) : (s.setGuard k x).acq = s.acq := rfl
@[simp] theorem State.setGuard_qes (k : Nat) (x : Guard) : (s.setGuard k x).qes = s.qes := rfl
@[simp] theorem State.setGuard_nvm (k : Nat) (x : Guard) : (s.setGuard k x).nvm = s.nvm := rfl
@[simp] theorem State.setGuard_mon (k : Nat) (x : Guard) : (s.setGuard k x).mon = s.mon := rfl
@[simp] theorem State.setGuard_boot (k : Nat) (x : Guard) : (s.setGuard k x).boot = s.boot := rfl
@[simp] theorem State.setGuard_cans (k : Nat) (x : Guard) : (s.setGuard k x).cans = s.cans := rfl
@[simp] theorem State.setGuard_rxAt (k : Nat) (x : Guard) : (s.setGuard k x).rxAt = s.rxAt := rfl
@[simp] theorem State.setGuard_tap (k : Nat) (x : Guard) : (s.setGuard k x).tap = s.tap := rfl

@[simp] theorem State.setLine_pending (k : Nat) (x : Line) : (s.setLine k x).pending = s.pending := rfl
@[simp] theorem State.setLine_t48 (k : Nat) (x : Line) : (s.setLine k x).t48 = s.t48 := rfl
@[simp] theorem State.setLine_free (k : Nat) (x : Line) : (s.setLine k x).free = s.free := rfl
@[simp] theorem State.setLine_ent (k : Nat) (x : Line) : (s.setLine k x).ent = s.ent := rfl
@[simp] theorem State.setLine_decl (k : Nat) (x : Line) : (s.setLine k x).decl = s.decl := rfl
@[simp] theorem State.setLine_evBus (k : Nat) (x : Line) : (s.setLine k x).evBus = s.evBus := rfl
@[simp] theorem State.setLine_due (k : Nat) (x : Line) : (s.setLine k x).due = s.due := rfl
@[simp] theorem State.setLine_loop (k : Nat) (x : Line) : (s.setLine k x).loop = s.loop := rfl
@[simp] theorem State.setLine_mem (k : Nat) (x : Line) : (s.setLine k x).mem = s.mem := rfl
@[simp] theorem State.setLine_ref (k : Nat) (x : Line) : (s.setLine k x).ref = s.ref := rfl
@[simp] theorem State.setLine_flt (k : Nat) (x : Line) : (s.setLine k x).flt = s.flt := rfl
@[simp] theorem State.setLine_ses (k : Nat) (x : Line) : (s.setLine k x).ses = s.ses := rfl
@[simp] theorem State.setLine_lport (k : Nat) (x : Line) : (s.setLine k x).lport = s.lport := rfl
@[simp] theorem State.setLine_lanes (k : Nat) (x : Line) : (s.setLine k x).lanes = s.lanes := rfl
@[simp] theorem State.setLine_drv (k : Nat) (x : Line) : (s.setLine k x).drv = s.drv := rfl
@[simp] theorem State.setLine_acq (k : Nat) (x : Line) : (s.setLine k x).acq = s.acq := rfl
@[simp] theorem State.setLine_qes (k : Nat) (x : Line) : (s.setLine k x).qes = s.qes := rfl
@[simp] theorem State.setLine_stages (k : Nat) (x : Line) : (s.setLine k x).stages = s.stages := rfl
@[simp] theorem State.setLine_nvm (k : Nat) (x : Line) : (s.setLine k x).nvm = s.nvm := rfl
@[simp] theorem State.setLine_mon (k : Nat) (x : Line) : (s.setLine k x).mon = s.mon := rfl
@[simp] theorem State.setLine_boot (k : Nat) (x : Line) : (s.setLine k x).boot = s.boot := rfl
@[simp] theorem State.setLine_cans (k : Nat) (x : Line) : (s.setLine k x).cans = s.cans := rfl
@[simp] theorem State.setLine_rxAt (k : Nat) (x : Line) : (s.setLine k x).rxAt = s.rxAt := rfl
@[simp] theorem State.setLine_tap (k : Nat) (x : Line) : (s.setLine k x).tap = s.tap := rfl

@[simp] theorem State.setCfgWord_pending (d a : Nat) (w : Word) : (s.setCfgWord d a w).pending = s.pending := rfl
@[simp] theorem State.setCfgWord_t48 (d a : Nat) (w : Word) : (s.setCfgWord d a w).t48 = s.t48 := rfl
@[simp] theorem State.setCfgWord_free (d a : Nat) (w : Word) : (s.setCfgWord d a w).free = s.free := rfl
@[simp] theorem State.setCfgWord_ent (d a : Nat) (w : Word) : (s.setCfgWord d a w).ent = s.ent := rfl
@[simp] theorem State.setCfgWord_decl (d a : Nat) (w : Word) : (s.setCfgWord d a w).decl = s.decl := rfl
@[simp] theorem State.setCfgWord_evBus (d a : Nat) (w : Word) : (s.setCfgWord d a w).evBus = s.evBus := rfl
@[simp] theorem State.setCfgWord_due (d a : Nat) (w : Word) : (s.setCfgWord d a w).due = s.due := rfl
@[simp] theorem State.setCfgWord_loop (d a : Nat) (w : Word) : (s.setCfgWord d a w).loop = s.loop := rfl
@[simp] theorem State.setCfgWord_mem (d a : Nat) (w : Word) : (s.setCfgWord d a w).mem = s.mem := rfl
@[simp] theorem State.setCfgWord_ref (d a : Nat) (w : Word) : (s.setCfgWord d a w).ref = s.ref := rfl
@[simp] theorem State.setCfgWord_flt (d a : Nat) (w : Word) : (s.setCfgWord d a w).flt = s.flt := rfl
@[simp] theorem State.setCfgWord_ses (d a : Nat) (w : Word) : (s.setCfgWord d a w).ses = s.ses := rfl
@[simp] theorem State.setCfgWord_lport (d a : Nat) (w : Word) : (s.setCfgWord d a w).lport = s.lport := rfl
@[simp] theorem State.setCfgWord_pwm (d a : Nat) (w : Word) : (s.setCfgWord d a w).pwm = s.pwm := rfl
@[simp] theorem State.setCfgWord_lanes (d a : Nat) (w : Word) : (s.setCfgWord d a w).lanes = s.lanes := rfl
@[simp] theorem State.setCfgWord_acq (d a : Nat) (w : Word) : (s.setCfgWord d a w).acq = s.acq := rfl
@[simp] theorem State.setCfgWord_qes (d a : Nat) (w : Word) : (s.setCfgWord d a w).qes = s.qes := rfl
@[simp] theorem State.setCfgWord_stages (d a : Nat) (w : Word) : (s.setCfgWord d a w).stages = s.stages := rfl
@[simp] theorem State.setCfgWord_nvm (d a : Nat) (w : Word) : (s.setCfgWord d a w).nvm = s.nvm := rfl
@[simp] theorem State.setCfgWord_mon (d a : Nat) (w : Word) : (s.setCfgWord d a w).mon = s.mon := rfl
@[simp] theorem State.setCfgWord_boot (d a : Nat) (w : Word) : (s.setCfgWord d a w).boot = s.boot := rfl
@[simp] theorem State.setCfgWord_cans (d a : Nat) (w : Word) : (s.setCfgWord d a w).cans = s.cans := rfl
@[simp] theorem State.setCfgWord_rxAt (d a : Nat) (w : Word) : (s.setCfgWord d a w).rxAt = s.rxAt := rfl
@[simp] theorem State.setCfgWord_tap (d a : Nat) (w : Word) : (s.setCfgWord d a w).tap = s.tap := rfl

@[simp] theorem State.setCt_pending (k : Nat) (b : Bool) : (s.setCt k b).pending = s.pending := rfl
@[simp] theorem State.setCt_t48 (k : Nat) (b : Bool) : (s.setCt k b).t48 = s.t48 := rfl
@[simp] theorem State.setCt_free (k : Nat) (b : Bool) : (s.setCt k b).free = s.free := rfl
@[simp] theorem State.setCt_ent (k : Nat) (b : Bool) : (s.setCt k b).ent = s.ent := rfl
@[simp] theorem State.setCt_decl (k : Nat) (b : Bool) : (s.setCt k b).decl = s.decl := rfl
@[simp] theorem State.setCt_evBus (k : Nat) (b : Bool) : (s.setCt k b).evBus = s.evBus := rfl
@[simp] theorem State.setCt_due (k : Nat) (b : Bool) : (s.setCt k b).due = s.due := rfl
@[simp] theorem State.setCt_loop (k : Nat) (b : Bool) : (s.setCt k b).loop = s.loop := rfl
@[simp] theorem State.setCt_mem (k : Nat) (b : Bool) : (s.setCt k b).mem = s.mem := rfl
@[simp] theorem State.setCt_ref (k : Nat) (b : Bool) : (s.setCt k b).ref = s.ref := rfl
@[simp] theorem State.setCt_flt (k : Nat) (b : Bool) : (s.setCt k b).flt = s.flt := rfl
@[simp] theorem State.setCt_ses (k : Nat) (b : Bool) : (s.setCt k b).ses = s.ses := rfl
@[simp] theorem State.setCt_lport (k : Nat) (b : Bool) : (s.setCt k b).lport = s.lport := rfl
@[simp] theorem State.setCt_pwm (k : Nat) (b : Bool) : (s.setCt k b).pwm = s.pwm := rfl
@[simp] theorem State.setCt_lanes (k : Nat) (b : Bool) : (s.setCt k b).lanes = s.lanes := rfl
@[simp] theorem State.setCt_drv (k : Nat) (b : Bool) : (s.setCt k b).drv = s.drv := rfl
@[simp] theorem State.setCt_acq (k : Nat) (b : Bool) : (s.setCt k b).acq = s.acq := rfl
@[simp] theorem State.setCt_qes (k : Nat) (b : Bool) : (s.setCt k b).qes = s.qes := rfl
@[simp] theorem State.setCt_nvm (k : Nat) (b : Bool) : (s.setCt k b).nvm = s.nvm := rfl
@[simp] theorem State.setCt_mon (k : Nat) (b : Bool) : (s.setCt k b).mon = s.mon := rfl
@[simp] theorem State.setCt_boot (k : Nat) (b : Bool) : (s.setCt k b).boot = s.boot := rfl
@[simp] theorem State.setCt_cans (k : Nat) (b : Bool) : (s.setCt k b).cans = s.cans := rfl
@[simp] theorem State.setCt_rxAt (k : Nat) (b : Bool) : (s.setCt k b).rxAt = s.rxAt := rfl
@[simp] theorem State.setCt_tap (k : Nat) (b : Bool) : (s.setCt k b).tap = s.tap := rfl

@[simp] theorem State.setFram_pending (a : Nat) (l : List Word) : (s.setFram a l).pending = s.pending := rfl
@[simp] theorem State.setFram_t48 (a : Nat) (l : List Word) : (s.setFram a l).t48 = s.t48 := rfl
@[simp] theorem State.setFram_free (a : Nat) (l : List Word) : (s.setFram a l).free = s.free := rfl
@[simp] theorem State.setFram_ent (a : Nat) (l : List Word) : (s.setFram a l).ent = s.ent := rfl
@[simp] theorem State.setFram_decl (a : Nat) (l : List Word) : (s.setFram a l).decl = s.decl := rfl
@[simp] theorem State.setFram_evBus (a : Nat) (l : List Word) : (s.setFram a l).evBus = s.evBus := rfl
@[simp] theorem State.setFram_due (a : Nat) (l : List Word) : (s.setFram a l).due = s.due := rfl
@[simp] theorem State.setFram_loop (a : Nat) (l : List Word) : (s.setFram a l).loop = s.loop := rfl
@[simp] theorem State.setFram_ref (a : Nat) (l : List Word) : (s.setFram a l).ref = s.ref := rfl
@[simp] theorem State.setFram_flt (a : Nat) (l : List Word) : (s.setFram a l).flt = s.flt := rfl
@[simp] theorem State.setFram_ses (a : Nat) (l : List Word) : (s.setFram a l).ses = s.ses := rfl
@[simp] theorem State.setFram_lport (a : Nat) (l : List Word) : (s.setFram a l).lport = s.lport := rfl
@[simp] theorem State.setFram_pwm (a : Nat) (l : List Word) : (s.setFram a l).pwm = s.pwm := rfl
@[simp] theorem State.setFram_lanes (a : Nat) (l : List Word) : (s.setFram a l).lanes = s.lanes := rfl
@[simp] theorem State.setFram_drv (a : Nat) (l : List Word) : (s.setFram a l).drv = s.drv := rfl
@[simp] theorem State.setFram_acq (a : Nat) (l : List Word) : (s.setFram a l).acq = s.acq := rfl
@[simp] theorem State.setFram_qes (a : Nat) (l : List Word) : (s.setFram a l).qes = s.qes := rfl
@[simp] theorem State.setFram_stages (a : Nat) (l : List Word) : (s.setFram a l).stages = s.stages := rfl
@[simp] theorem State.setFram_nvm (a : Nat) (l : List Word) : (s.setFram a l).nvm = s.nvm := rfl
@[simp] theorem State.setFram_mon (a : Nat) (l : List Word) : (s.setFram a l).mon = s.mon := rfl
@[simp] theorem State.setFram_boot (a : Nat) (l : List Word) : (s.setFram a l).boot = s.boot := rfl
@[simp] theorem State.setFram_cans (a : Nat) (l : List Word) : (s.setFram a l).cans = s.cans := rfl
@[simp] theorem State.setFram_rxAt (a : Nat) (l : List Word) : (s.setFram a l).rxAt = s.rxAt := rfl
@[simp] theorem State.setFram_tap (a : Nat) (l : List Word) : (s.setFram a l).tap = s.tap := rfl

@[simp] theorem State.setPm_pending (e a : Nat) (l : List Word) : (s.setPm e a l).pending = s.pending := rfl
@[simp] theorem State.setPm_t48 (e a : Nat) (l : List Word) : (s.setPm e a l).t48 = s.t48 := rfl
@[simp] theorem State.setPm_free (e a : Nat) (l : List Word) : (s.setPm e a l).free = s.free := rfl
@[simp] theorem State.setPm_ent (e a : Nat) (l : List Word) : (s.setPm e a l).ent = s.ent := rfl
@[simp] theorem State.setPm_decl (e a : Nat) (l : List Word) : (s.setPm e a l).decl = s.decl := rfl
@[simp] theorem State.setPm_evBus (e a : Nat) (l : List Word) : (s.setPm e a l).evBus = s.evBus := rfl
@[simp] theorem State.setPm_due (e a : Nat) (l : List Word) : (s.setPm e a l).due = s.due := rfl
@[simp] theorem State.setPm_loop (e a : Nat) (l : List Word) : (s.setPm e a l).loop = s.loop := rfl
@[simp] theorem State.setPm_ref (e a : Nat) (l : List Word) : (s.setPm e a l).ref = s.ref := rfl
@[simp] theorem State.setPm_flt (e a : Nat) (l : List Word) : (s.setPm e a l).flt = s.flt := rfl
@[simp] theorem State.setPm_ses (e a : Nat) (l : List Word) : (s.setPm e a l).ses = s.ses := rfl
@[simp] theorem State.setPm_lport (e a : Nat) (l : List Word) : (s.setPm e a l).lport = s.lport := rfl
@[simp] theorem State.setPm_pwm (e a : Nat) (l : List Word) : (s.setPm e a l).pwm = s.pwm := rfl
@[simp] theorem State.setPm_lanes (e a : Nat) (l : List Word) : (s.setPm e a l).lanes = s.lanes := rfl
@[simp] theorem State.setPm_drv (e a : Nat) (l : List Word) : (s.setPm e a l).drv = s.drv := rfl
@[simp] theorem State.setPm_acq (e a : Nat) (l : List Word) : (s.setPm e a l).acq = s.acq := rfl
@[simp] theorem State.setPm_qes (e a : Nat) (l : List Word) : (s.setPm e a l).qes = s.qes := rfl
@[simp] theorem State.setPm_stages (e a : Nat) (l : List Word) : (s.setPm e a l).stages = s.stages := rfl
@[simp] theorem State.setPm_nvm (e a : Nat) (l : List Word) : (s.setPm e a l).nvm = s.nvm := rfl
@[simp] theorem State.setPm_mon (e a : Nat) (l : List Word) : (s.setPm e a l).mon = s.mon := rfl
@[simp] theorem State.setPm_boot (e a : Nat) (l : List Word) : (s.setPm e a l).boot = s.boot := rfl
@[simp] theorem State.setPm_cans (e a : Nat) (l : List Word) : (s.setPm e a l).cans = s.cans := rfl
@[simp] theorem State.setPm_rxAt (e a : Nat) (l : List Word) : (s.setPm e a l).rxAt = s.rxAt := rfl
@[simp] theorem State.setPm_tap (e a : Nat) (l : List Word) : (s.setPm e a l).tap = s.tap := rfl

@[simp] theorem State.setOtp_pending (r w : Nat) (v : Word) : (s.setOtp r w v).pending = s.pending := rfl
@[simp] theorem State.setOtp_t48 (r w : Nat) (v : Word) : (s.setOtp r w v).t48 = s.t48 := rfl
@[simp] theorem State.setOtp_free (r w : Nat) (v : Word) : (s.setOtp r w v).free = s.free := rfl
@[simp] theorem State.setOtp_ent (r w : Nat) (v : Word) : (s.setOtp r w v).ent = s.ent := rfl
@[simp] theorem State.setOtp_decl (r w : Nat) (v : Word) : (s.setOtp r w v).decl = s.decl := rfl
@[simp] theorem State.setOtp_evBus (r w : Nat) (v : Word) : (s.setOtp r w v).evBus = s.evBus := rfl
@[simp] theorem State.setOtp_due (r w : Nat) (v : Word) : (s.setOtp r w v).due = s.due := rfl
@[simp] theorem State.setOtp_loop (r w : Nat) (v : Word) : (s.setOtp r w v).loop = s.loop := rfl
@[simp] theorem State.setOtp_ref (r w : Nat) (v : Word) : (s.setOtp r w v).ref = s.ref := rfl
@[simp] theorem State.setOtp_flt (r w : Nat) (v : Word) : (s.setOtp r w v).flt = s.flt := rfl
@[simp] theorem State.setOtp_ses (r w : Nat) (v : Word) : (s.setOtp r w v).ses = s.ses := rfl
@[simp] theorem State.setOtp_lport (r w : Nat) (v : Word) : (s.setOtp r w v).lport = s.lport := rfl
@[simp] theorem State.setOtp_pwm (r w : Nat) (v : Word) : (s.setOtp r w v).pwm = s.pwm := rfl
@[simp] theorem State.setOtp_lanes (r w : Nat) (v : Word) : (s.setOtp r w v).lanes = s.lanes := rfl
@[simp] theorem State.setOtp_drv (r w : Nat) (v : Word) : (s.setOtp r w v).drv = s.drv := rfl
@[simp] theorem State.setOtp_acq (r w : Nat) (v : Word) : (s.setOtp r w v).acq = s.acq := rfl
@[simp] theorem State.setOtp_qes (r w : Nat) (v : Word) : (s.setOtp r w v).qes = s.qes := rfl
@[simp] theorem State.setOtp_stages (r w : Nat) (v : Word) : (s.setOtp r w v).stages = s.stages := rfl
@[simp] theorem State.setOtp_nvm (r w : Nat) (v : Word) : (s.setOtp r w v).nvm = s.nvm := rfl
@[simp] theorem State.setOtp_mon (r w : Nat) (v : Word) : (s.setOtp r w v).mon = s.mon := rfl
@[simp] theorem State.setOtp_boot (r w : Nat) (v : Word) : (s.setOtp r w v).boot = s.boot := rfl
@[simp] theorem State.setOtp_cans (r w : Nat) (v : Word) : (s.setOtp r w v).cans = s.cans := rfl
@[simp] theorem State.setOtp_rxAt (r w : Nat) (v : Word) : (s.setOtp r w v).rxAt = s.rxAt := rfl
@[simp] theorem State.setOtp_tap (r w : Nat) (v : Word) : (s.setOtp r w v).tap = s.tap := rfl

@[simp] theorem State.setShadow_pending (r w : Nat) (v : Word) : (s.setShadow r w v).pending = s.pending := rfl
@[simp] theorem State.setShadow_t48 (r w : Nat) (v : Word) : (s.setShadow r w v).t48 = s.t48 := rfl
@[simp] theorem State.setShadow_free (r w : Nat) (v : Word) : (s.setShadow r w v).free = s.free := rfl
@[simp] theorem State.setShadow_ent (r w : Nat) (v : Word) : (s.setShadow r w v).ent = s.ent := rfl
@[simp] theorem State.setShadow_decl (r w : Nat) (v : Word) : (s.setShadow r w v).decl = s.decl := rfl
@[simp] theorem State.setShadow_evBus (r w : Nat) (v : Word) : (s.setShadow r w v).evBus = s.evBus := rfl
@[simp] theorem State.setShadow_due (r w : Nat) (v : Word) : (s.setShadow r w v).due = s.due := rfl
@[simp] theorem State.setShadow_loop (r w : Nat) (v : Word) : (s.setShadow r w v).loop = s.loop := rfl
@[simp] theorem State.setShadow_ref (r w : Nat) (v : Word) : (s.setShadow r w v).ref = s.ref := rfl
@[simp] theorem State.setShadow_flt (r w : Nat) (v : Word) : (s.setShadow r w v).flt = s.flt := rfl
@[simp] theorem State.setShadow_ses (r w : Nat) (v : Word) : (s.setShadow r w v).ses = s.ses := rfl
@[simp] theorem State.setShadow_lport (r w : Nat) (v : Word) : (s.setShadow r w v).lport = s.lport := rfl
@[simp] theorem State.setShadow_pwm (r w : Nat) (v : Word) : (s.setShadow r w v).pwm = s.pwm := rfl
@[simp] theorem State.setShadow_lanes (r w : Nat) (v : Word) : (s.setShadow r w v).lanes = s.lanes := rfl
@[simp] theorem State.setShadow_drv (r w : Nat) (v : Word) : (s.setShadow r w v).drv = s.drv := rfl
@[simp] theorem State.setShadow_acq (r w : Nat) (v : Word) : (s.setShadow r w v).acq = s.acq := rfl
@[simp] theorem State.setShadow_qes (r w : Nat) (v : Word) : (s.setShadow r w v).qes = s.qes := rfl
@[simp] theorem State.setShadow_stages (r w : Nat) (v : Word) : (s.setShadow r w v).stages = s.stages := rfl
@[simp] theorem State.setShadow_nvm (r w : Nat) (v : Word) : (s.setShadow r w v).nvm = s.nvm := rfl
@[simp] theorem State.setShadow_mon (r w : Nat) (v : Word) : (s.setShadow r w v).mon = s.mon := rfl
@[simp] theorem State.setShadow_boot (r w : Nat) (v : Word) : (s.setShadow r w v).boot = s.boot := rfl
@[simp] theorem State.setShadow_cans (r w : Nat) (v : Word) : (s.setShadow r w v).cans = s.cans := rfl
@[simp] theorem State.setShadow_rxAt (r w : Nat) (v : Word) : (s.setShadow r w v).rxAt = s.rxAt := rfl
@[simp] theorem State.setShadow_tap (r w : Nat) (v : Word) : (s.setShadow r w v).tap = s.tap := rfl

/-! ### Read after write -/

theorem State.ctx_setCtx (k j : Nat) (x : Ctx) : (s.setCtx k x).ctx j = if j = k then x else s.ctx j := Tab.get_set _ _ _ _ _
theorem State.eng_setEng (k j : Nat) (x : Eng) : (s.setEng k x).eng j = if j = k then x else s.eng j := Tab.get_set _ _ _ _ _
theorem State.mb_setMb (k j : Nat) (x : Mbox) : (s.setMb k x).mb j = if j = k then x else s.mb j := Tab.get_set _ _ _ _ _
theorem State.task_setTask (k j : Nat) (x : TaskRt) : (s.setTask k x).task j = if j = k then x else s.task j := Tab.get_set _ _ _ _ _
theorem State.quad_setQuad (k j : Nat) (x : Quad) : (s.setQuad k x).quad j = if j = k then x else s.quad j := Tab.get_set _ _ _ _ _
theorem State.derate_setDerate (k j : Nat) (x : Derate) : (s.setDerate k x).derate j = if j = k then x else s.derate j := Tab.get_set _ _ _ _ _
theorem State.cl_setCl (k j : Nat) (x : Cl) : (s.setCl k x).cl j = if j = k then x else s.cl j := Tab.get_set _ _ _ _ _
theorem State.gen_setGen (k j : Nat) (x : Gen) : (s.setGen k x).gen j = if j = k then x else s.gen j := Tab.get_set _ _ _ _ _
theorem State.lane_setLane (k j : Nat) (x : Lane) : (s.setLane k x).lane j = if j = k then x else s.lane j := Tab.get_set _ _ _ _ _
theorem State.rx_setRx (k j : Nat) (x : Rx) : (s.setRx k x).rx j = if j = k then x else s.rx j := Tab.get_set _ _ _ _ _
theorem State.hb_setHb (k j : Nat) (x : Hb) : (s.setHb k x).hb j = if j = k then x else s.hb j := Tab.get_set _ _ _ _ _
theorem State.dl_setDl (k j : Nat) (x : DLane) : (s.setDl k x).dl j = if j = k then x else s.dl j := Tab.get_set _ _ _ _ _
theorem State.view_setView (k j : Nat) (x : HbView) : (s.setView k x).view j = if j = k then x else s.view j := Tab.get_set _ _ _ _ _
theorem State.sensor_setSensor (k j : Nat) (x : Sensor) : (s.setSensor k x).sensor j = if j = k then x else s.sensor j := Tab.get_set _ _ _ _ _
theorem State.supply_setSupply (k j : Nat) (x : Supply) : (s.setSupply k x).supply j = if j = k then x else s.supply j := Tab.get_set _ _ _ _ _
theorem State.can_setCan (k j : Nat) (x : Can) : (s.setCan k x).can j = if j = k then x else s.can j := Tab.get_set _ _ _ _ _
theorem State.adc_setAdc (k j : Nat) (x : Adc) : (s.setAdc k x).adc j = if j = k then x else s.adc j := Tab.get_set _ _ _ _ _
theorem State.sd_setSd (k j : Nat) (x : Sd) : (s.setSd k x).sd j = if j = k then x else s.sd j := Tab.get_set _ _ _ _ _
theorem State.lg_setLg (k j : Nat) (x : Lg) : (s.setLg k x).lg j = if j = k then x else s.lg j := Tab.get_set _ _ _ _ _
theorem State.cw_setCw (k j : Nat) (x : Cw) : (s.setCw k x).cw j = if j = k then x else s.cw j := Tab.get_set _ _ _ _ _
theorem State.qe_setQe (k j : Nat) (x : Qe) : (s.setQe k x).qe j = if j = k then x else s.qe j := Tab.get_set _ _ _ _ _
theorem State.stg_setStg (k j : Nat) (x : Stg) : (s.setStg k x).stg j = if j = k then x else s.stg j := Tab.get_set _ _ _ _ _
theorem State.sess_setSess (k j : Nat) (x : Sess) : (s.setSess k x).sess j = if j = k then x else s.sess j := Tab.get_set _ _ _ _ _
theorem State.kern_setKern (k j : Nat) (x : Kern) : (s.setKern k x).kern j = if j = k then x else s.kern j := Tab.get_set _ _ _ _ _
theorem State.guard_setGuard (k j : Nat) (x : Guard) : (s.setGuard k x).guard j = if j = k then x else s.guard j := Tab.get_set _ _ _ _ _
theorem State.line_setLine (k j : Nat) (x : Line) : (s.setLine k x).line j = if j = k then x else s.line j := Tab.get_set _ _ _ _ _
theorem State.getKey_putKey (k j v : Nat) : (s.putKey k v).getKey j = if j = k then v else s.getKey j := Tab.get_set _ _ _ _ _

end Sys2Proof.Machine
end

