-- ==== Sys2Proof/Laws/Ops.lean ====
section
/-! SUPPORT. What the shared operations of the collector's inputs and of the dictionary can do, said once for each. -/

namespace Sys2Proof.Machine

theorem State.whenS_cases (s : State) (c : Bool) (f : State → State) :
    (c = true ∧ s.whenS c f = f s) ∨ (c = false ∧ s.whenS c f = s) := by
  cases c
  · exact .inr ⟨rfl, rfl⟩
  · exact .inl ⟨rfl, rfl⟩

/-- A condition that stands already changes nothing; a new one is recorded as standing and reported. -/
theorem State.condOn_cases (s : State) (code : Nat) :
    (code ∈ s.flt.live ∧ s.condOn code = s) ∨
    (code ∉ s.flt.live ∧
      s.condOn code = { s with flt := { s.flt with live := s.flt.live ++ [code], reports := s.flt.reports ++ [⟨code, false⟩] } }) := by
  rw [State.condOn]
  by_cases h : code ∈ s.flt.live
  · exact .inl ⟨h, if_pos (List.contains_iff_mem.2 h)⟩
  · exact .inr ⟨h, if_neg (fun e => h (List.contains_iff_mem.1 e))⟩

/-- A limited report is either suppressed, or made with its time noted. -/
theorem State.every_cases (s : State) (code n : Nat) :
    s.every code n = s ∨ ∃ l, s.every code n =
      { s with flt := { s.flt with lastAt := (code, s.t48.toNat) :: l, reports := s.flt.reports ++ [⟨code, false⟩] } } := by
  rw [State.every]
  split
  · split
    · exact .inl rfl
    · exact .inr ⟨_, rfl⟩
  · exact .inr ⟨_, rfl⟩

/-- What serving a request can do: nothing, a counted discard, a refusal, the stored response once more, or the request itself. -/
theorem State.serve_cases {s t : State} {q : Req} {op key since : Nat} {f : State → State} (ht : s.serve q op key since f = t) :
    t = s ∨ t = s.bump (mkKey 0 0x014 q.ses.val) 65535 ∨ (∃ e, t = s.refuse q op key e) ∨ (∃ r, t = s.resend q r) ∨ t = f s := by
  subst ht
  simp only [State.serve]
  split
  · exact .inl rfl
  · split
    · exact .inr (.inl rfl)
    · split
      · exact .inr (.inr (.inl ⟨_, rfl⟩))
      · split
        · split
          · exact .inr (.inr (.inr (.inl ⟨_, rfl⟩)))
          · split
            · exact .inr (.inr (.inl ⟨_, rfl⟩))
            · split
              · exact .inr (.inr (.inl ⟨_, rfl⟩))
              · exact .inr (.inr (.inr (.inr rfl)))
        · split
          · exact .inr (.inr (.inl ⟨_, rfl⟩))
          · split
            · exact .inr (.inr (.inl ⟨_, rfl⟩))
            · exact .inr (.inr (.inr (.inr rfl)))

/-- What a dictionary write can do: what serving can, a refusal of its checks, or the write applied. -/
theorem State.dictWriteR_cases {s t : State} {q : Req} {k v lev : Nat} {armed : State → Option Nat} {why : State → Option Err}
    {effect : State → State} (ht : s.dictWriteR q k v lev armed why effect = t) :
    t = s ∨ t = s.bump (mkKey 0 0x014 q.ses.val) 65535 ∨ (∃ e, t = s.refuse q opWrite k e) ∨ (∃ r, t = s.resend q r) ∨
    ∃ r, s.writeCheck q.ses.val k v lev (armed s) = .ok r ∧ why s = none ∧ t = s.applyWrite q k v r effect := by
  rw [State.dictWriteR] at ht
  rcases State.serve_cases ht with h | h | h | h | h
  · exact .inl h
  · exact .inr (.inl h)
  · exact .inr (.inr (.inl h))
  · exact .inr (.inr (.inr (.inl h)))
  · subst h
    split
    · exact .inr (.inr (.inl ⟨_, rfl⟩))
    · rename_i r e
      split
      · exact .inr (.inr (.inl ⟨_, rfl⟩))
      · rename_i w
        exact .inr (.inr (.inr (.inr ⟨r, e, w, rfl⟩)))

/-! ### None of them touches the word memories -/

@[simp] theorem State.condOn_mem (s : State) (code : Nat) : (s.condOn code).mem = s.mem := by
  rcases s.condOn_cases code with ⟨_, h⟩ | ⟨_, h⟩ <;> rw [h]

@[simp] theorem State.every_mem (s : State) (code n : Nat) : (s.every code n).mem = s.mem := by
  rcases s.every_cases code n with h | ⟨_, h⟩ <;> rw [h]

@[simp] theorem State.limited_mem (s : State) (code : Nat) : (s.limited code).mem = s.mem := s.every_mem code _

@[simp] theorem State.condEvery_mem (s : State) (code n : Nat) : (s.condEvery code n).mem = s.mem := by
  rw [State.condEvery]; split
  · rfl
  · rw [State.every_mem]

end Sys2Proof.Machine
end

