-- ==== Sys2Proof/Tests/Slice0.lean ====
section
/-! SUPPORT. The model's own tests: the checks of WellFormed refuse an ill-formed command each; some commands do what the spec's words,
tables and worked numbers say, on small states; some words of the engines' encoding; and for every statement with hypotheses a state and
operands that meet them (the theorems meets_ with the statement's name, a clause at a time, at a boundary where there is a range). -/

namespace Sys2Proof.Tests

open Sys2Proof Sys2Proof.Machine

set_option Elab.async false

/-- The state after a command. -/
def ran (c : Instr) (s : State) : State :=
  match exec c s with
  | .next t => t
  | _ => s

/-! ### Well-formed commands (R62, R145, R187, R378, R399, R407, R412, R446) -/

theorem test_wf_mailbox : (Instr.mailboxRecordComplete 0 0 0 0 []).wf = false ∧ (Instr.mailboxRecordComplete 0 0 0 0 [1]).wf := by
  decide +kernel

theorem test_wf_boundary : (Instr.extest (.replicate 123 true)).wf = false ∧ (Instr.extest (.replicate 124 true)).wf ∧
    (Instr.samplePreload [] (.replicate 124 true)).wf = false := by decide +kernel

theorem test_wf_lane_frames : (Instr.cfgWr 0 0 [] 0).wf = false ∧ (Instr.cfgWr 0 0 (.replicate 8 0) 0).wf = false ∧
    (Instr.cfgRsp 0 0 false (.replicate 8 0) 0).wf = false ∧ (Instr.test 0 true (.replicate 23 0) 0).wf = false ∧
    (Instr.adcTrig 0 [] 0).wf = false ∧ (Instr.adcRes 0 0 0 0 (.replicate 6 0) 0).wf = false ∧
    (Instr.hkRes 0 (.replicate 8 0) 0).wf = false := by decide +kernel

theorem test_wf_rounds : (Instr.slowRound (.replicate 13 0)).wf = false ∧ (Instr.fastRound (.replicate 5 0)).wf = false := by
  decide +kernel

/-- Nine bytes have no data length code; a classical frame has no bit rate switch; a base identifier has 11 bits. -/
theorem test_wf_can_frames : (Instr.canFrameReceived 0 ⟨1, false, true, false, false, .replicate 9 0⟩).wf = false ∧
    (Instr.canFrameReceived 0 ⟨1, false, false, true, false, []⟩).wf = false ∧
    (Instr.canFrameReceived 0 ⟨2048, false, true, false, false, []⟩).wf = false ∧
    (Instr.canFrameReceived 0 ⟨2047, false, true, true, false, .replicate 64 0⟩).wf := by decide +kernel

theorem test_wf_dictionary : (Instr.write ⟨0, 0, false⟩ 0 7 0).wf = false ∧ (Instr.segData ⟨0, 0, false⟩ 0 []).wf = false ∧
    (Instr.segData ⟨0, 0, false⟩ 0 (.replicate 62 0)).wf = false ∧ (Instr.unlock ⟨0, 0, false⟩ 1 (.replicate 31 0)).wf = false := by
  decide +kernel
/-! ### The queue -/

/-- From reset one command at the front is taken (R417), and the queue is shorter by it. -/
theorem test_step_takes_front : (match step { State.reset with pending := [.killInput, .killRelease] } with
    | .next t => t.pending == [.killRelease] && t.drv.killPin
    | _ => false) = true := by decide +kernel

theorem meets_StepRunsTheFrontCommand : State.reset.pending = [] ∧ 0 ∉ State.reset.pwm.clkLost ∧ State.reset.ref.due = false := by decide +kernel

/-! ### The engines -/

/-- Task 0 of class SAFETY in slot 0 of engine 0, running with the registers `w`, its next fetch at `pc` of a code range of 64 words at
0x100, its state at 0x400 and one window over every address. -/
def engS (w : List Word) (pc : BitVec 13) : State :=
  let s := State.reset.setEng 0 { Eng.idle with slots := Eng.idle.slots.set 0 (some 0), last := some 0 }
  let s := s.setCtx 0 { Ctx.zero with w := .ofFn (fun i => w.getD i.val 0), pc := pc, budget := 1000, active := true }
  let s := s.setTask 0 { TaskRt.none with
    placed := true, code := 0x100, codeLen := 64, state := 0x400, stateLen := 32, scratch := 0x500, scratchLen := 16
    wins := [(0x0C0000, 0x100000, 0xFFFF), (0x0C0000, 0x170000, 0xFFFF),
      (0x0C0000, 0x800000, 0xFFFF), (0x0C0000, 0x830000, 0xFFFF), (0x0C0000, 0x840000, 0xFFFF), (0x0C0000, 0x850000, 0xFFFF),
      (0x0C0000, 0x870000, 0xFF), (0x0C0000, 0x871000, 0xFFF)] }
  (s.putDecl (mkKey 2 0x010 0) 5).putDecl (mkKey 2 0x011 0) 0

/-- Its context changed. -/
def engC (s : State) (f : Ctx → Ctx) : State := s.setCtx 0 (f (s.ctx 0))

/-- At the last word of the code range but one; F0 holds. -/
def engF : State := engC (engS [] 0x13D) (fun x => { x with f := x.f.set 0 true })

theorem foldl_max_le {α : Type} (f : α → Nat) {b : Nat} (hf : ∀ a, f a ≤ b) : ∀ (l : List α) (n : Nat), n ≤ b →
    l.foldl (fun n i => max n (f i)) n ≤ b
  | [], _, h => h
  | a :: l, n, h => foldl_max_le f hf l (max n (f a)) (max_le h (hf a))

/-- A budget timer outlasts what no result delays by more than `b` cycles. -/
theorem lasts_of {x : Ctx} {sw b : Nat} (hb : x.budget ≠ 0) (hr : ∀ i : Fin 16, x.rdy.getD i.val 0 ≤ b)
    (ha : ∀ i : Fin 2, x.acRdy.getD i.val 0 ≤ b) (hc : x.cordic ≤ b) (hs : sw + b + 2 ≤ x.budget.toNat) : x.lasts sw := by
  refine ⟨hb, fun uses accs cordic => ?_⟩
  have h1 := foldl_max_le (fun i : Fin 16 => x.rdy.getD i.val 0) hr uses 0 (Nat.zero_le b)
  have h2 := foldl_max_le (fun i : Fin 2 => x.acRdy.getD i.val 0) ha accs _ h1
  have h3 : (x.charge sw).stall uses accs cordic ≤ b := by
    refine Nat.le_trans (Nat.sub_le _ _) ?_
    split
    · exact max_le h2 hc
    · exact h2
  omega

/-- How an engine that runs task 0 in context 0 comes to issue an instruction with nothing outstanding. -/
theorem issues_of {s : State} {c : BitVec 4} {regs : List (Fin 16)} (h : s.running 0 = some (0, 0)) (hh : (s.eng 0).halted = false)
    (hc : c = 0 ∨ 8 ≤ c.toNat) (hf : c ≠ 0 → (s.ctx 0).f.getD (c.toNat % 4) false = decide (c.toNat < 12))
    (hl : (s.ctx 0).loads = []) (ht : (s.ctx 0).lasts (s.switch 0 0)) (hi : s.inCode 0 0 (s.ctx 0).pc.toNat) (hu : s.sound 0 0) : Issues s 0 c regs 0 0 :=
  ⟨⟨0, h, rfl⟩, hh, hc, hf, by rw [hl]; exact fun p hp => absurd hp List.not_mem_nil, ht, hi, hu⟩

/-- The timer of a context of 1000 cycles in which nothing is delayed. -/
theorem lasts_here {s : State} (hb : (s.ctx 0).budget = 1000) (hr : ∀ i : Fin 16, (s.ctx 0).rdy.getD i.val 0 ≤ 0)
    (ha : ∀ i : Fin 2, (s.ctx 0).acRdy.getD i.val 0 ≤ 0) (hc : (s.ctx 0).cordic ≤ 0) (hs : s.switch 0 0 = 0) :
    (s.ctx 0).lasts (s.switch 0 0) :=
  lasts_of (b := 0) (by rw [hb]; decide) hr ha hc (by rw [hs, hb]; decide)

theorem engF_issues (regs : List (Fin 16)) : Issues engF 0 8 regs 0 0 := by
  refine issues_of ?_ ?_ ?_ ?_ ?_ (lasts_here ?_ ?_ ?_ ?_ ?_) ⟨?_, ?_⟩ ⟨?_, ?_⟩ <;> decide +kernel

theorem meets_MovesBitsAndSumsComplete : Issues engF 0 8 [2, 3, 4] 0 0 ∧ engF.inCode 0 0 ((engF.ctx 0).nextFetch 1) ∧
    engF.follows 0 0 0 2 := by
  exact ⟨engF_issues _, ⟨by decide +kernel, by decide +kernel⟩, ⟨⟨by decide +kernel, by decide +kernel⟩, ⟨by decide +kernel, by decide +kernel⟩⟩⟩

/-- A wrapping sum drops its carry; a saturating one keeps the limit and sets SAT (R35). -/
theorem test_add_wraps : ((ran (.add 0 0 1 2 3 0) (engS [0, 0, 0x7FFFFF, 1] 0x100)).ctx 0).w[1] = 0x800000 ∧
    ((ran (.adds 0 0 1 2 3 0) (engS [0, 0, 0x7FFFFF, 1] 0x100)).ctx 0).w[1] = 0x7FFFFF ∧
    ((ran (.adds 0 0 1 2 3 0) (engS [0, 0, 0x7FFFFF, 1] 0x100)).ctx 0).sat = true := by decide +kernel

/-- R43: a wrapping and a saturating left shift, and -3 shifted right by one: arithmetic goes to -2, rounded half up to -1. -/
theorem test_shifts : ((ran (.shli 0 0 1 2 1 false) (engS [0, 0, 0x600000] 0x100)).ctx 0).w[1] = 0xC00000 ∧
    ((ran (.shli 0 0 1 2 1 true) (engS [0, 0, 0x600000] 0x100)).ctx 0).w[1] = 0x7FFFFF ∧
    ((ran (.shri 0 0 1 2 1 true) (engS [0, 0, 0xFFFFFD] 0x100)).ctx 0).w[1] = 0xFFFFFE ∧
    ((ran (.shr 0 0 1 2 3 2) (engS [0, 0, 0xFFFFFD, 1] 0x100)).ctx 0).w[1] = 0xFFFFFF := by decide +kernel

theorem meets_ShiftsComplete : Issues engF 0 8 [2, 3, 4] 0 0 ∧ engF.inCode 0 0 ((engF.ctx 0).nextFetch 1) :=
  ⟨engF_issues _, by decide +kernel, by decide +kernel⟩

theorem meets_AccumulatorsAndConversionsComplete : Issues engF 0 8 [3, 4] 0 0 ∧ Issues engF 0 8 [2, 3, 4] 0 0 ∧
    engF.inCode 0 0 ((engF.ctx 0).nextFetch 1) ∧ (0 : Fin 2) ≠ 1 ∧ (2 : BitVec 2) ≠ 3 :=
  ⟨engF_issues _, engF_issues _, ⟨by decide +kernel, by decide +kernel⟩, by decide, by decide⟩

/-- R36, R45: -1 × -1 is 2^46 in an accumulator, and 0x80_0000 × 0x80_0000 unsigned too; R37: it converts to the limit with SAT. -/
theorem test_products : ((ran (.mul 0 0 0 1 1 0) (engS [0, 0x800000] 0x100)).ctx 0).ac[0] = 0x400000000000 ∧
    ((ran (.mul 0 0 0 1 1 1) (engS [0, 0x800000] 0x100)).ctx 0).ac[0] = 0xFFC00000000000 ∧
    ((ran (.mulw 0 0 2 1 1 0) (engS [0, 0x800000] 0x100)).ctx 0).w[2] = 0x7FFFFF ∧
    ((ran (.mulw 0 0 2 1 1 0) (engS [0, 0x800000] 0x100)).ctx 0).sat = true := by decide +kernel

/-- The register pair of a CORDIC instruction, and the values of rs and rt that its clauses name. -/
theorem meets_CordicAndSeedsComplete : Issues engF 0 8 [14, 15, 3, 4] 0 0 ∧ engF.inCode 0 0 ((engF.ctx 0).nextFetch 1) ∧
    (engF.ctx 0).w[3] = 0 ∧ (engF.ctx 0).w[4] = 0 ∧ Issues (engS [0x400000, 0x800000, 0x3FFFFF] 0x100) 0 0 [14, 15, 0, 3] 0 0 ∧
    ((engS [0x400000, 0x800000, 0x3FFFFF] 0x100).ctx 0).w[0] = 0x400000 ∧
    2 ^ 46 ≤ ((engS [0x400000, 0x800000, 0x3FFFFF] 0x100).ctx 0).w[1].toInt ^ 2 + 0 := by
  refine ⟨engF_issues _, ⟨by decide +kernel, by decide +kernel⟩, by decide +kernel, by decide +kernel, ?_, by decide +kernel, by decide +kernel⟩
  refine issues_of ?_ ?_ ?_ ?_ ?_ (lasts_here ?_ ?_ ?_ ?_ ?_) ⟨?_, ?_⟩ ⟨?_, ?_⟩ <;> decide +kernel

theorem meets_PredicatesAndSpecialRegistersComplete : Issues engF 0 8 [3, 4] 0 0 ∧ engF.inCode 0 0 ((engF.ctx 0).nextFetch 1) :=
  ⟨engF_issues _, by decide +kernel, by decide +kernel⟩

/-- R44: unsigned and signed comparison of 0xFF_FFFF and 1, and the flag logic and-not. -/
theorem test_predicates : ((ran (.cmp 0 0 1 1 2 2) (engS [0, 0xFFFFFF, 1] 0x100)).ctx 0).f[1] = true ∧
    ((ran (.cmpu 0 0 1 1 2 0) (engS [0, 0xFFFFFF, 1] 0x100)).ctx 0).f[1] = false ∧
    ((ran (.flog 0 0 1 3 0 2) (engC (engS [] 0x100) (fun x => { x with f := x.f.set 0 true }))).ctx 0).f[1] = true := by decide +kernel

/-- Three loads and three stores outstanding; the registers and the pointer 0 hold addresses. -/
def engL : State := engC (engS [0x41F, 0x17FFFF, 0x8700FF, 0x1FFF] 0x13D) (fun x => { x with
  loads := [(9, 1), (10, 2), (11, 3)], acks := [0x100000, 0x100001, 0x100002], p := x.p.set 0 0x400 })

theorem engL_issues (regs : List (Fin 16)) (h : 9 ∉ regs ∧ 10 ∉ regs ∧ 11 ∉ regs) : Issues engL 0 0 regs 0 0 := by
  refine ⟨⟨0, by decide +kernel, rfl⟩, by decide +kernel, by decide, by decide, ?_, lasts_here ?_ ?_ ?_ ?_ ?_, ⟨?_, ?_⟩, ⟨?_, ?_⟩⟩ <;> try decide +kernel
  rw [show (engL.ctx 0).loads = [(9, 1), (10, 2), (11, 3)] by decide +kernel]
  simpa using h

/-- Each form at the edge of an allowed window: the last word of the state section, a tile's last word, the mailbox view's last. -/
theorem meets_LoadsComplete : Issues engL 0 0 [8, 1] 0 0 ∧ engL.inCode 0 0 ((engL.ctx 0).nextFetch 1) ∧
    engL.follows 0 0 0 2 ∧ engL.allows 0 0 0x41F false = true ∧
    (engL.ctx 0).w[1].toNat = 0x17FFFF ∧ engL.allows 0 0 0x17FFFF false = true ∧ engL.allows 0 0 0x8700FF false = true ∧
    (engL.ctx 0).address 0 3 0x1F = 0x41F ∧ engL.engLoads 0 < 4 ∧
    engL.localOf 0 0 0x41F = 0 ∧ engL.mem.upset = [] :=
  ⟨engL_issues _ (by decide), ⟨by decide +kernel, by decide +kernel⟩, ⟨⟨by decide +kernel, by decide +kernel⟩, ⟨by decide +kernel, by decide +kernel⟩⟩, by decide +kernel⟩

theorem meets_StoresComplete : Issues engL 0 0 [1, 8] 0 0 ∧ engL.inCode 0 0 ((engL.ctx 0).nextFetch 1) ∧
    engL.follows 0 0 0 2 ∧ (engL.task 0).mig = none ∧ engL.allows 0 0 0x41F true = true ∧
    engL.allows 0 0 0x17FFFF true = true ∧ (engL.ctx 0).address 0 0 0 = 0x400 ∧ engL.engStores 0 < 4 ∧
    ¬ sameWord 0 0x41F 1 0x41F ∧ ¬ sameWord 0 0x17FFFF 1 0x17FFFE :=
  ⟨engL_issues _ (by decide), ⟨by decide +kernel, by decide +kernel⟩, ⟨⟨by decide +kernel, by decide +kernel⟩, ⟨by decide +kernel, by decide +kernel⟩⟩, by decide +kernel,
    by decide +kernel, by decide +kernel, by decide +kernel, by decide +kernel, by unfold sameWord; decide, by unfold sameWord; decide⟩

/-- R48: the pointer steps by PS and wraps once into its window. -/
theorem test_pointer_wraps : ((ran (.ld 0 0 1 0 1 0) (engC (engS [] 0x100) (fun x =>
    { x with p := x.p.set 0 0x402, ps := x.ps.set 0 3, pb := x.pb.set 0 0x400, pl := x.pl.set 0 4 }))).ctx 0).p[0] = 0x401 := by
  decide +kernel

/-- The last slot of the last cluster, with three stores waiting; nothing and something outstanding at a FENCE. -/
theorem meets_PwmStoresAndFences : Issues engL 0 0 [1] 0 0 ∧ (engL.task 0).mig = none ∧ engL.allows 0 0 0x800B30 true = true ∧
    engL.follows 0 0 0 2 ∧ engL.engStores 0 < 4 ∧ (engL.ctx 0).loads ≠ [] ∧ Issues engF 0 8 [1] 0 0 ∧
    (engF.ctx 0).loads = [] ∧ (engF.ctx 0).acks = [] ∧ engF.inCode 0 0 ((engF.ctx 0).nextFetch 1) :=
  ⟨engL_issues _ (by decide), by decide +kernel, by decide +kernel, ⟨⟨by decide +kernel, by decide +kernel⟩, ⟨by decide +kernel, by decide +kernel⟩⟩, by decide +kernel,
    by decide +kernel, engF_issues _, by decide +kernel, by decide +kernel, ⟨by decide +kernel, by decide +kernel⟩⟩

/-- One loop open and three addresses on the return stack. -/
def engB : State := engC (engS [0x13F] 0x110) (fun x => { x with
  loops := 1, loopStart := x.loopStart.set 0 0x108, loopEnd := x.loopEnd.set 0 0x118, stack := [0x13F, 0x100, 0x101] })

theorem noEnd_of {x : Ctx} {a : Nat} (h : x.endsAt a = false) : x.noEnd a := by
  intro i hi e
  rw [Ctx.endsAt, List.any_eq_false] at h
  exact h i (List.mem_range.2 hi) (by simpa using e)

theorem engB_issues (regs : List (Fin 16)) : Issues engB 0 0 regs 0 0 := by
  refine issues_of ?_ ?_ ?_ ?_ ?_ (lasts_here ?_ ?_ ?_ ?_ ?_) ⟨?_, ?_⟩ ⟨?_, ?_⟩ <;> decide +kernel

/-- Targets at the last word of the code range; a loop of one word, and one that ends at the last word but one. -/
theorem meets_BranchesAndLoopsComplete : Issues engB 0 0 [0] 0 0 ∧ (engB.ctx 0).noEnd (engB.ctx 0).pc.toNat ∧
    engB.inCode 0 0 0x13F ∧ (engB.ctx 0).stack.length < 4 ∧ (engB.ctx 0).w[0].toNat % 8192 = 0x13F ∧
    (engB.ctx 0).stack = 0x13F :: [0x100, 0x101] ∧ (engB.ctx 0).loops < 2 ∧ (engB.ctx 0).noEnd ((engB.ctx 0).pc.toNat + 2 - 1) ∧
    engB.inCode 0 0 ((engB.ctx 0).pc.toNat + 1) ∧ engB.inCode 0 0 ((engB.ctx 0).pc.toNat + 2) ∧
    engB.inCode 0 0 ((engB.ctx 0).pc.toNat + 0x2E + 1) :=
  ⟨engB_issues _, noEnd_of (by decide +kernel), ⟨by decide +kernel, by decide +kernel⟩, by decide +kernel, by decide +kernel,
    by decide +kernel, by decide +kernel, noEnd_of (by decide +kernel), ⟨by decide +kernel, by decide +kernel⟩,
    ⟨by decide +kernel, by decide +kernel⟩, ⟨by decide +kernel, by decide +kernel⟩⟩

/-- R51: the last word of a loop's body goes back to its start while the counter is not yet 1, and on when it is. -/
theorem test_loop_end : ((ran (.nop 0 0) (engC (engS [] 0x118) (fun x => { x with
      loops := 1, loopStart := x.loopStart.set 0 0x108, loopEnd := x.loopEnd.set 0 0x118, lc := x.lc.set 0 2 }))).ctx 0).pc = 0x108 ∧
    ((ran (.nop 0 0) (engC (engS [] 0x118) (fun x => { x with
      loops := 1, loopStart := x.loopStart.set 0 0x108, loopEnd := x.loopEnd.set 0 0x118, lc := x.lc.set 0 1 }))).ctx 0).pc = 0x119 := by
  decide +kernel
/-- Task 0 with pending subscriptions in slots 3 and 15, and the software events 62 and 63. -/
def engW : State :=
  let s := engF.setTask 0 { engF.task 0 with pend := 0x8008 }
  s.putDecl (mkKey 2 0x01B 0) 0x023E

theorem engW_issues (regs : List (Fin 16)) : Issues engW 0 8 regs 0 0 := by
  refine issues_of ?_ ?_ ?_ ?_ ?_ (lasts_here ?_ ?_ ?_ ?_ ?_) ⟨?_, ?_⟩ ⟨?_, ?_⟩ <;> decide +kernel

/-- Slot 15 under the mask of slot 15 alone; the mask 0x7FF7 takes none; both ends of the declared events; BRK under debug access. -/
theorem meets_WaitsEventsAndEndComplete : Issues engW 0 8 [2] 0 0 ∧ engW.follows 0 0 0 2 ∧
    engW.inCode 0 0 ((engW.ctx 0).nextFetch 1) ∧ (engW.ctx 0).noEnd ((engW.ctx 0).pc.toNat + 1) ∧ (engW.task 0).mig = none ∧
    (engW.task 0).pend.getLsbD 15 ∧ (0x8000 : BitVec 16).getLsbD 15 ∧
    (∀ j, j < 15 → ¬ ((engW.task 0).pend.getLsbD j ∧ (0x8000 : BitVec 16).getLsbD j)) ∧ (engW.task 0).pend &&& 0x7FF7 = 0 ∧
    (engW.ctx 0).loads = [] ∧ (engW.ctx 0).acks = [] ∧ sevRange (engW.dc 2 0x01B 0) = (62, 2) ∧
    (({ engW.setEng 0 { engW.eng 0 with debug := true } with tap := { engW.tap with ir := 0x10 } } : State).debugHolds 0) = true :=
  ⟨engW_issues _, ⟨⟨by decide +kernel, by decide +kernel⟩, ⟨by decide +kernel, by decide +kernel⟩⟩, ⟨by decide +kernel, by decide +kernel⟩, noEnd_of (by decide +kernel),
    by decide +kernel, by decide +kernel, by decide, by decide +kernel, by decide +kernel, by decide +kernel, by decide +kernel,
    by decide +kernel, by decide +kernel⟩

/-- R52: WAITEV consumes the lowest masked pending slot; R54: SEV of an event that is not declared is a port violation. -/
theorem test_waitev_and_sev : ((ran (.waitev 0 0 1 0xFFFF) engW).ctx 0).w[1] = 3 ∧ ((ran (.waitev 0 0 1 0xFFFF) engW).task 0).pend = 0x8000 ∧
    (ran (.sev 0 0 63) engW).evBus = [511] ∧ (ran (.sev 0 0 61) engW).en 3 0x014 0 = 5 := by decide +kernel

/-- The running task of class SAFETY; reserved COND 1 and 7; the odd register 1; special registers 10, 15, 32, 1 and 8. -/
theorem meets_EngineFaultsAbort_decoding : engF.running 0 = some (0, 0) ∧ (engF.eng 0).halted = false ∧ (engF.task 0).mig = none ∧
    engF.dc 2 0x011 0 ≤ 1 ∧ engF.inCode 0 0 (engF.ctx 0).pc.toNat ∧ 1 ≤ (7 : BitVec 4).toNat ∧ (7 : BitVec 4).toNat < 8 ∧ 2 ≤ (2 : BitVec 2).toNat ∧
    (1 : Fin 16).val % 2 = 1 ∧ (engF.ctx 0).budget ≠ 0 ∧ engF.mem.upset = [] ∧ 32 ≤ (32 : BitVec 6).toNat ∧ (8 : BitVec 6).toNat ≤ 8 ∧ (15 : BitVec 6).toNat < 16 :=
  ⟨by decide +kernel, by decide +kernel, by decide +kernel, by decide +kernel, ⟨by decide +kernel, by decide +kernel⟩, by decide +kernel⟩

/-- The return stack full and empty; a third loop; a branch at a loop's end; a target, a fetch and an address outside; no event declared. -/
def engX : State := engC (engS [] 0x13F) (fun x => { x with
  loops := 2, loopStart := x.loopStart.set 0 0x108, loopEnd := x.loopEnd.set 0 0x130, stack := [1, 2, 3, 4] })

theorem engX_issues (regs : List (Fin 16)) : Issues engX 0 0 regs 0 0 := by
  refine issues_of ?_ ?_ ?_ ?_ ?_ (lasts_here ?_ ?_ ?_ ?_ ?_) ⟨?_, ?_⟩ ⟨?_, ?_⟩ <;> decide +kernel

theorem not_inCode {s : State} {a : Nat} (h : decide ((s.codeRange 0 (0 : Fin 16)).1 ≤ a ∧
    a < (s.codeRange 0 (0 : Fin 16)).1 + (s.codeRange 0 (0 : Fin 16)).2) = false) : ¬ s.inCode 0 0 a :=
  fun e => of_decide_eq_false h e

theorem meets_EngineFaultsAbort : Issues engX 0 0 [2, 3] 0 0 ∧ (engX.task 0).mig = none ∧ engX.dc 2 0x011 0 ≤ 1 ∧
    (engX.ctx 0).noEnd (engX.ctx 0).pc.toNat ∧ (engX.ctx 0).noEnd ((engX.ctx 0).pc.toNat + 1) ∧ 4 ≤ (engX.ctx 0).stack.length ∧
    (engF.ctx 0).stack = [] ∧ (engF.ctx 0).noEnd (engF.ctx 0).pc.toNat ∧ 2 ≤ (engX.ctx 0).loops ∧
    ¬ engX.inCode 0 0 ((engX.ctx 0).nextFetch 1) ∧ ¬ engX.inCode 0 0 0xFF ∧ ¬ engX.inCode 0 0 0x140 ∧
    engX.allows 0 0 0x420 false = false ∧ engX.closedWin 0 0x420 = false ∧ engX.allows 0 0 0x3FF true = false ∧
    engX.engLoads 0 < 4 ∧ engX.engStores 0 < 4 ∧ 1 ≤ (1 : BitVec 6).toNat ∧
    (engX.ctx 0).loads = [] ∧ (engX.ctx 0).acks = [] ∧ (sevRange (engX.dc 2 0x01B 0)).1 + (sevRange (engX.dc 2 0x01B 0)).2 ≤ 0 ∧
    engX.debugHolds 0 = false ∧ ¬ engX.inCode 0 0 ((engX.ctx 0).pc.toNat + 1) ∧
    (engC engX (fun x => { x with pc := 0x13E })).inCode 0 0 (0x13E + 1) ∧
    Issues (engC engX (fun x => { x with pc := 0x13E })) 0 0 [2, 3] 0 0 :=
  ⟨engX_issues _, by decide +kernel, by decide +kernel, noEnd_of (by decide +kernel), noEnd_of (by decide +kernel), by decide +kernel,
    by decide +kernel, noEnd_of (by decide +kernel), by decide +kernel, not_inCode (by decide +kernel), not_inCode (by decide +kernel),
    not_inCode (by decide +kernel), by decide +kernel, by decide +kernel, by decide +kernel, by decide +kernel, by decide +kernel,
    by decide +kernel, by decide +kernel, by decide +kernel, by decide +kernel, by decide +kernel, not_inCode (by decide +kernel),
    ⟨by decide +kernel, by decide +kernel⟩, by
      refine issues_of ?_ ?_ ?_ ?_ ?_ (lasts_here ?_ ?_ ?_ ?_ ?_) ⟨?_, ?_⟩ ⟨?_, ?_⟩ <;> decide +kernel⟩

/-- A branch at the last address of a loop's body. -/
theorem meets_EngineFaultsAbort_loop_end : (engC engB (fun x => { x with pc := 0x118 })).running 0 = some (0, 0) ∧
    ¬ ((engC engB (fun x => { x with pc := 0x118 })).ctx 0).noEnd 0x118 :=
  ⟨by decide +kernel, fun h => h 0 (by decide +kernel) (by decide +kernel)⟩

/-- R59: a branch out of the code range aborts the activation with PC_RANGE, reported with the task as instance. -/
theorem test_pc_range : (ran (.bra 0 0 0x140) (engS [] 0x100)).en 3 0x014 0 = 2 ∧
    (ran (.bra 0 0 0x140) (engS [] 0x100)).flt.reports = [⟨0x010002, false⟩] ∧
    ((ran (.bra 0 0 0x140) (engS [] 0x100)).ctx 0).active = false := by decide +kernel

/-- F1 is 0 under COND 9, and F0 is 1 under COND 12 (R39). -/
theorem meets_CyclesAndFalseConditions : engF.running 0 = some (0, 0) ∧ (engF.eng 0).halted = false ∧ (engF.eng 0).last = some 0 ∧
    (engF.ctx 0).f.getD ((9 : BitVec 4).toNat % 4) false ≠ decide ((9 : BitVec 4).toNat < 12) ∧
    (engF.ctx 0).f.getD ((12 : BitVec 4).toNat % 4) false ≠ decide ((12 : BitVec 4).toNat < 12) ∧
    engF.inCode 0 0 ((engF.ctx 0).nextFetch 1) ∧ engF.follows 0 0 0 1 ∧ engF.follows 0 0 0 2 ∧ Issues engF 0 8 [2, 3, 4] 0 0 ∧
    (engF.ctx 0).rdy[3] ≤ (engF.ctx 0).cyc.toNat ∧ (engF.ctx 0).budget ≠ 0 ∧ engF.mem.upset = [] :=
  ⟨by decide +kernel, by decide +kernel, by decide +kernel, by decide +kernel, by decide +kernel, ⟨by decide +kernel, by decide +kernel⟩,
    ⟨⟨by decide +kernel, by decide +kernel⟩, ⟨by decide +kernel, by decide +kernel⟩⟩,
    ⟨⟨by decide +kernel, by decide +kernel⟩, ⟨by decide +kernel, by decide +kernel⟩⟩, engF_issues _, by decide +kernel⟩

/-! ### Mailboxes, tasks and events -/

/-- What a table holds, it holds for a listed key or by default. -/
theorem get_of_all {V : Type} {d : Nat → V} {P : V → Prop} (hd : ∀ j, P (d j)) : ∀ {m : Tab V} (j : Nat), (∀ p ∈ m, P p.2) → P (Tab.get d m j)
  | [], j, _ => hd j
  | q :: r, j, h => by
    rw [Tab.get]
    split
    · exact h q List.mem_cons_self
    · exact get_of_all hd j (fun p hp => h p (List.mem_cons_of_mem _ hp))

theorem no_mig {s : State} (h : s.ref.task.all (fun p => p.2.mig.isNone) = true) (j : Nat) : (s.task j).mig = none := by
  refine get_of_all (P := fun x : TaskRt => x.mig = none) (fun _ => rfl) j fun p hp => ?_
  simpa using List.all_eq_true.1 h p hp

/-- A mailbox assigned to the task 0 as its producer. -/
def mbS (valid pending : Bool) : State :=
  engS [] 0x100 |>.setMb 3 { Mbox.empty with
    kind := 3, inst := 0, assigned := true, valid := valid, pending := pending, seq := 255, ovr := 255, front := [7], back := [8] }

/-- Records of 1 and of 32 words; the front free, taken, and both buffers taken; the last mailbox view of the engine. -/
theorem meets_MailboxBuffers : ((mbS false false).mb 3).assigned = true ∧ 1 ≤ (List.replicate 1 (5 : Word)).length ∧
    (List.replicate 32 (5 : Word)).length ≤ 32 ∧ ((mbS false false).mb 3).valid = false ∧ ((mbS true false).mb 3).valid = true ∧
    ((mbS true false).mb 3).pending = false ∧ ((mbS true true).mb 3).valid = true ∧ ((mbS true true).mb 3).pending = true ∧
    Executes (mbS true true) 0 0 0 ∧ Executes (mbS true false) 0 0 0 ∧ (mbS true true).allows 0 0 (0x870021 + 64 * 3) true = true ∧
    ((mbS true true).task 0).mig = none ∧ ∀ v p, NoMigration (mbS v p) := by
  refine ⟨?_, by decide, by decide, ?_, ?_, ?_, ?_, ?_, ⟨⟨0, ?_, rfl⟩, ?_⟩, ⟨⟨0, ?_, rfl⟩, ?_⟩, ?_, ?_, fun v p j _ => ?_⟩
  case refine_13 => cases v <;> cases p <;> exact no_mig (by decide +kernel) j
  all_goals decide +kernel

/-- R62: with both buffers taken the waiting record is replaced, OVR stays at 255, and no event is raised; SEQ wraps at the next front. -/
theorem test_mailbox_buffers : ((ran (.mailboxRecordComplete 0 3 3 0 [9]) (mbS true true)).mb 3).back = [9] ∧
    ((ran (.mailboxRecordComplete 0 3 3 0 [9]) (mbS true true)).mb 3).ovr = 255 ∧
    ((ran (.mbackAck 0 3) (mbS true true)).mb 3).front = [8] ∧ ((ran (.mbackAck 0 3) (mbS true true)).mb 3).seq = 0 ∧
    (ran (.mbackAck 0 3) (mbS true true)).evBus = [323] := by decide +kernel

/-- Posts of 1 and 32 words to mailbox 3 of engine 0, the last word of the post window, and the last word of local data that the task may
write. -/
theorem meets_PostsAndOwnPorts : Executes (mbS false false) 0 0 0 ∧ ((mbS false false).task 0).mig = none ∧
    (mbS false false).allows 0 0 (0x870021 + 64 * 3) true = true ∧ (mbS false false).allows 0 0 (0x871000 + 64 * 3 + 0x20) true = true ∧
    ((mbS false false).ctx 0).loads = [] ∧ ((mbS false false).ctx 0).acks = [] ∧ 1 ≤ (1 : BitVec 6).toNat ∧ (32 : BitVec 6).toNat ≤ 32 ∧
    ((mbS false false).mb 3).assigned = true ∧ ((mbS false false).mb 3).kind = 3 ∧ ((mbS false false).mb 3).inst.toNat = 0 ∧
    ((mbS false false).mb 3).valid = false ∧ ((mbS false false).mb 2).assigned = false ∧ (mbS false false).dc 2 0x011 0 ≤ 1 ∧
    (mbS false false).allows 0 0 (0x871000 + 64 * 3 + 31) true = true ∧ (mbS false false).allows 0 0 0x41F true = true ∧ NoMigration (mbS false false) := by
  refine ⟨⟨⟨0, ?_, rfl⟩, ?_⟩, ?_, ?_, ?_, ?_, ?_, ?_, ?_, ?_, ?_, ?_, ?_, ?_, ?_, ?_, ?_, fun j _ => no_mig (by decide +kernel) j⟩ <;> decide +kernel

/-- Engine 0 waits for its task, which sleeps with three loads and three stores outstanding. -/
theorem meets_FabricAnswers :
    let s := engC engL (fun x => { x with sleep := some (1, 2) })
    (s.task 0).placed = true ∧ (s.task 0).mig = none ∧ (∀ p, s.running (s.task 0).engine = some p → p.1 ≠ 0) ∧
    (s.ctx (s.ctxKey 0)).loads[2]? = some (11, 3) ∧ 2 < (s.ctx (s.ctxKey 0)).acks.length := by
  refine ⟨by decide +kernel, by decide +kernel, fun p h => ?_, by decide +kernel, by decide +kernel⟩
  rw [show (engC engL _).running _ = none by decide +kernel] at h
  cases h

/-- R53, R55: the returned word reaches its register. -/
theorem test_load_returns : ((ran (.fabricLoadReturn 0 2) (engC engL (fun x => { x with sleep := some (1, 2) }))).ctx 0).w[11] = 3 ∧
    ((ran (.fabricLoadReturn 0 2) (engC engL (fun x => { x with sleep := some (1, 2) }))).ctx 0).loads = [(9, 1), (10, 2)] := by decide +kernel

/-- Task 0 alone, subscribed to EV(511) in slot 15, with its event on the bus; it sleeps on all of its slots. -/
def evS (pend : BitVec 16) : State :=
  let s := engC (engS [] 0x100) (fun x => { x with sleep := some (1, 0x8008) })
  { s.setTask 0 { s.task 0 with subs := [0xF001FF], pend := pend } with evBus := [511, 448] }

theorem meets_EventsReachTasks : (∀ j, ((evS 0).task j).mig = none) ∧ 511 ∈ (evS 0).evBus ∧
    (∀ j, j < 96 → ((evS 0).task j).placed = true → ∀ i ∈ (evS 0).slotsOf j ((evS 0).task j).engine 511,
      ((evS 0).task j).pend.getLsbD i = false ∧ i < 16) ∧
    (∀ j, j < 96 → ((evS 0).slotsOf j ((evS 0).task j).engine 511).Nodup) ∧
    (∀ j, j < 96 → j ≠ 0 → ((evS 0x8000).task j).placed = false) ∧ ((evS 0).task 0).placed = true ∧
    (evS 0x8000).slotsOf 0 ((evS 0x8000).task 0).engine 511 = [15] ∧ ((evS 0x8000).task 0).pend.getLsbD 15 = true ∧
    ((evS 0x8000).ctx ((evS 0x8000).ctxKey 0)).sleep = some (1, 0x8008) ∧ (0x8008 : BitVec 16).getLsbD 15 = true ∧
    (∀ j, j < 15 → ¬ (((evS 0x8000).task 0).pend.getLsbD j ∧ (0x8008 : BitVec 16).getLsbD j)) ∧ ((evS 0).task 0).pend &&& 0x8008 = 0 ∧
    ((evS 0).task 0).await = false ∧ ((evS 0x8000).task 0).await = false := by
  refine ⟨no_mig (by decide +kernel), ?_, ?_, ?_, ?_, ?_, ?_, ?_, ?_, ?_, ?_, ?_, ?_, ?_⟩ <;> decide +kernel

/-- An activation that waits, of a kernel whose records are there. -/
theorem meets_EventsReachTasks_waiting :
    let s := engC (engS [] 0x100) (fun x => { x with active := true })
    let s := s.setTask 0 { s.task 0 with await := true }
    (s.task 0).placed = true ∧ (s.task 0).await = true ∧ (s.ctx 0).sleep = none ∧ (s.ctx 0).active = true ∧ (s.eng (s.task 0).engine).halted = false ∧
    s.kernelHas 0 = true := by decide +kernel

/-- Task 0 due, its context ended or not; its window for its scratch ends with local data. -/
def actS (active : Bool) : State :=
  let s := engC (engS [5] 0x100) (fun x => { x with active := active })
  { s.setTask 0 { s.task 0 with scratch := 0x1FF0, relnum := 6 } with due := [3, 0], t48 := 0x0300_0000_0007 }.putDecl (mkKey 2 0x012 0) 0xFF

theorem meets_ActivationsStartAndEnd : ((actS false).task 0).placed = true ∧ ((actS false).task 0).engine = 0 ∧
    ((actS false).task 0).slot = 0 ∧ ((actS false).task 0).mig = none ∧ (actS false).dc 2 0x011 0 ≤ 1 ∧ 0 ∈ (actS false).due ∧
    (actS false).mayRelease 0 = true ∧ ((actS false).eng 0).halted = false ∧ ((actS false).ctx 0).active = false ∧
    ((actS true).ctx 0).active = true ∧ (actS true).running 0 = some (0, 0) ∧ (actS true).mayRelease 0 = true ∧
    ((actS false).task 0).scratch + ((actS false).task 0).scratchLen ≤ 0x2000 ∧ ((actS false).task 0).reload = false ∧
    (actS false).dc 2 0x010 0 < 0x110 ∧ ((engC (actS true) (fun x => { x with budget := 0 })).ctx 0).budget = 0 ∧
    ((engC (actS true) (fun x => { x with budget := 0 })).ctx 0).active = true := by decide +kernel

/-- R33: registers are zero at the entry, RELNUM counts, and RELTIME is the low part of T48. -/
theorem test_release : ((ran (.taskRelease 0) (actS false)).ctx 0).w[0] = 0 ∧ ((ran (.taskRelease 0) (actS false)).ctx 0).relnum = 7 ∧
    ((ran (.taskRelease 0) (actS false)).ctx 0).reltime = 7 ∧ ((ran (.taskRelease 0) (actS false)).ctx 0).active = true := by decide +kernel

/-! ### Debug and test access -/

/-- Engine 0 runs task 0 of stage 0, which is ARMED; its next word is NOP. -/
def dbgS (halted : Bool) : State :=
  let s := engS [] 0x100
  let s := (s.setEng 0 { s.eng 0 with halted := halted }).putDecl (mkKey 2 0x012 0) 0
  s.setStg 0 { s.stg 0 with st := .armed }

theorem meets_DebugRunsTheEngine : (dbgS false).debugOff = false ∧ ((dbgS false).eng 0).halted = false ∧
    (∀ j ∈ (dbgS false).engineTasks 0, ((dbgS false).task j).mig = none) ∧ (dbgS false).engineStages 0 ≠ [] ∧
    (engS [] 0x100).engineStages 1 = [] ∧ ((dbgS true).eng 0).halted = true ∧
    (∀ j ∈ (dbgS true).engineTasks 0, (dbgS true).dc 2 0x011 j ≤ 1 ∧ ((dbgS true).liveStage ((dbgS true).taskStage j)).isSome) ∧
    (dbgS true).running 0 = some (0, 0) ∧ (dbgS true).fetch 0 0 0 = some (.nop 0 0) := by
  refine ⟨?_, ?_, ?_, ?_, ?_, ?_, ?_, ?_, ?_⟩ <;> decide +kernel

/-- The last word of the code range holds MOVI, whose extension lies outside. -/
def dbgX : State := engC ((dbgS true).setPm 0 0x13F [0x80C000]) (fun x => { x with pc := 0x13F })

theorem meets_DebugRunsTheEngine_outside : dbgX.debugOff = false ∧ (dbgX.eng 0).halted = true ∧ dbgX.running 0 = some (0, 0) ∧ dbgX.fetch 0 0 0 = none ∧
    (dbgX.task 0).mig = none ∧ dbgX.dc 2 0x011 0 ≤ 1 := by decide +kernel

/-- R50: PC_RANGE before any effect. -/
theorem test_step_outside : (ran (.step 0) dbgX).flt.reports = [⟨0x010002, false⟩] ∧ (ran (.step 0) dbgX).en 3 0x014 0 = 2 ∧
    ((ran (.step 0) dbgX).eng 0).halted = true := by decide +kernel

/-- R68: HALT of an engine that holds a SAFETY task of a stage makes ENGINE_HALTED stand; RESUME ends it. -/
theorem test_halt : (ran (.halt 0) (dbgS false)).flt.live = [0x01000B] ∧ ((ran (.halt 0) (dbgS false)).eng 0).halted = true ∧
    (ran (.resumeEngine 0) (ran (.halt 0) (dbgS false))).flt.live = [] := by decide +kernel

/-- Bit 0 of OTP word 0x17 of region 2 is DEBUG_OFF (R68). -/
theorem meets_DebugReads : State.reset.debugOff = false ∧ (State.reset.setShadow 2 0x17 1).debugOff = true := by decide +kernel

theorem meets_BoundaryScan : (List.replicate 124 true).length = 124 ∧ ({ State.reset.boot with nrstIn := true } : Boot).nrstIn = true ∧
    State.reset.boot.nrstIn = false ∧ (3 : BitVec 5) ≠ 0 ∧ (3 : BitVec 5) ≠ 1 ∧ (3 : BitVec 5) ≠ 2 ∧ (3 : BitVec 5) ≠ 4 ∧
    (3 : BitVec 5) ≠ 0x10 := by decide +kernel

/-! ### Dictionary requests and jobs -/

/-- The device in IDLE, its journal free, with a session of version 2.4 at level FACTORY on CAN. -/
def sesS : State := (({ State.reset with boot := { State.reset.boot with inReset := false } }.put 1 0 0 2).put 0 0x012 0 0x0204).put 0 0x013 0 3

/-- A request of that session with the last tag. -/
def reqQ : Req := ⟨0, 63, false⟩

/-- When a request that is no repetition is served. -/
theorem served_of {s : State} {q : Req} (h : s.dev ≠ devBoot ∧ s.dev ≠ devStandby) (he : q.ses.val = 1 → s.dc 0 0x021 0 ≠ 0)
    (ht : s.tagInUse q.ses.val q.tag = false) (hs : s.boot.standby = 0) (hr : q.rpt = false) (hv : s.ver q.ses.val ≠ 0) : Served s q :=
  ⟨h, he, ht, hs, (by rw [hr]; exact fun e => absurd e (by decide)), hv⟩

theorem served_sesS : Served sesS reqQ := by apply served_of <;> decide +kernel

/-- A write that its checks let through. -/
def passes (s : State) (q : Req) (k v lev : Nat) : Bool :=
  match s.writeCheck q.ses.val k v lev none with
  | .ok _ => true
  | .error _ => false

theorem permits_of {s : State} {q : Req} {k v lev : Nat} (h : passes s q k v lev = true) : Permits s q k v lev none := by
  rw [passes] at h
  split at h
  · exact ⟨_, by assumption⟩
  · cases h

/-- A job of a kind in slot 63. -/
def jobS (kind : JobKind) (arg steps limit : Nat) (cancel : Bool) : State :=
  { sesS.put 2 0x090 63 2 with ref := { sesS.ref with job :=
    [(63, { kind := kind, arg := arg, data := [], pc := 0, steps := steps, expect := 4, limit := limit, prio := 1, cancellable := kind == .kimgLoad
            cancel := cancel, cleanup := false, owner := none, born := 0, total := 0 })] } }

/-- The kernel store holds kernel 0x110 in slot 0; a stage of type BLDC is ARMED with its offsets done; the lock word of region 1 is
marginal. -/
def rowS : State :=
  let e : List Word := [0x110, 1, 9, 1, 0, 0, 0]
  let s := sesS.setFram 0x20000 (e ++ [crc24 e])
  let s := (s.setStg 11 { s.stg 11 with st := .armed }).putDecl (mkKey 0xD 0x000 11) 1
  let s := (s.putKey (s.flagsKey 11) 1).setKern 11 { s.kern 11 with ofsDone := true }
  s.setOtp 1 (lockWord 1) 0x0FFFFF

/-- Every entry that starts a job may be written, at the ends of the operands' ranges; the slot of the tag is free, or is not. -/
theorem meets_WritesStartJobs : Served rowS reqQ ∧ Permits rowS reqQ (mkKey 3 0x030 0) 0 0 none ∧
    Permits rowS reqQ (mkKey 3 0x031 0) 0x110 0 none ∧ (rowS.kimgSlot 0x110).isSome = true ∧
    (List.range 96).all (fun t => rowS.dc 2 0x010 t != 0x110) = true ∧ Permits rowS reqQ (mkKey 0xB 0x023 0) 0 0 none ∧
    Permits rowS reqQ (mkKey 5 0x041 31) 0xFF 0 none ∧ Permits rowS reqQ (mkKey 6 0x030 11) 0 0 none ∧
    Permits rowS reqQ (mkKey 7 0x068 47) 0 0 none ∧ Permits rowS reqQ (mkKey 0xD 0x150 11) 0 0 none ∧ (rowS.stg 11).st = .armed ∧
    rowS.ofsDone 11 = true ∧ rowS.dc 0xD 0x000 11 = 1 ∧ Permits rowS reqQ (mkKey 0xB 0x073 0) 0x02FF000001 1 none ∧
    0x02FF000001 / 2 ^ 40 % 4 ≠ 3 ∧ Permits rowS reqQ (mkKey 0xB 0x074 2) 0 1 none ∧ Permits rowS reqQ (mkKey 0xB 0x074 1) 1 2 none ∧
    rowS.lockState 1 = 2 ∧ Permits rowS reqQ (mkKey 0xB 0x075 0) 0 0 none ∧ rowS.en 2 0x090 63 = 0 ∧ rowS.jobAt 63 = none ∧
    (jobS .kimgLoad 0 0 9 false).en 2 0x090 63 ≠ 0 ∧ Served (jobS .kimgLoad 0 0 9 false) reqQ := by
  refine ⟨?_, permits_of ?_, permits_of ?_, ?_, ?_, permits_of ?_, permits_of ?_, permits_of ?_, permits_of ?_, permits_of ?_, ?_, ?_, ?_,
    permits_of ?_, ?_, permits_of ?_, permits_of ?_, ?_, permits_of ?_, ?_, ?_, ?_, ?_⟩
  · apply served_of <;> decide +kernel
  on_goal 22 => apply served_of
  all_goals decide +kernel

/-- R94, R406: a write that starts a job is answered with JOB, and its slot is QUEUED. -/
theorem test_job_starts : (ran (.ostCmd reqQ 11) sesS).en 2 0x090 63 = 1 ∧
    ((ran (.ostCmd reqQ 11) sesS).sess 0).resp = [⟨63, 3, 0, 0, mkKey 6 0x030 11, [4]⟩] := by decide +kernel

/-- No job; one KIMG_LOAD that is cancelled, or at its limit; one KIMG_DELETE of a kernel that the store holds; a slot in each final state's
lowest code; progress 0 and 100. -/
theorem meets_JobsRunEndAndReport : State.reset.chooseJob = none ∧ (jobS .kimgLoad 0 0 9 true).ref.job.length = 1 ∧ (jobS .kimgLoad 0 0 9 true).ref.due = false ∧
    (jobS .kimgLoad 0 0 9 true).nvm.writing = false ∧
    ((jobS .kimgLoad 0 0 9 true).jobAt 63).map (·.cancel) = some true ∧
    ((jobS .kimgLoad 0 9 9 false).jobAt 63).map (fun j => j.fed && decide (j.limit ≤ j.steps)) = some true ∧
    (jobS .kimgLoad 0 9 9 false).deferring = false ∧
    ((jobS .kimgDelete 0x110 8 9 false).jobAt 63).map (fun j => decide (j.steps < j.limit)) = some true ∧
    rowS.kimgSlot 0x110 = some 0 ∧ rowS.deferring = false ∧ 4 ≤ (sesS.put 2 0x090 63 4).en 2 0x090 63 ∧
    Served (jobS .kimgLoad 0 0 9 false) reqQ ∧ Permits (jobS .kimgLoad 0 0 9 false) reqQ (mkKey 2 0x096 63) 1 0 none ∧
    ((jobS .kimgLoad 0 0 9 false).jobAt 63).map (·.cancellable) = some true ∧ ((jobS .ost 0 0 9 false).jobAt 63).map (·.cancellable) = some false ∧
    sesS.jobAt 63 = none ∧ (jobS .ost 0 0 9 false).en 2 0x092 63 ≤ 100 ∧ ((jobS .ost 0 0 9 false).put 2 0x092 63 100).en 2 0x092 63 ≤ 100 ∧
    (jobS .ost 0 0 9 false).flt.lastAt = [] ∧ (jobS .ost 0 0 9 false).ver 0 = 0x0204 ∧ (jobS .ost 0 0 9 false).ver 1 = 0 ∧
    ((jobS .ost 0 0 9 false).sess 0).notif.length < 64 ∧ (jobS .kimgLoad 0 0 9 false).midStep = none ∧ (jobS .kimgDelete 0x110 8 9 false).mem.upset = [] := by
  refine ⟨?_, ?_, ?_, ?_, ?_, ?_, ?_, ?_, ?_, ?_, ?_, ?_, permits_of ?_, ?_, ?_, ?_, ?_, ?_, ?_, ?_, ?_, ?_, ?_, ?_⟩
  on_goal 12 => apply served_of
  all_goals decide +kernel

/-- R98: a cancelled job ends CANCELLED; R96: one at its limit fails with JOB_TIMEOUT, its slot as instance. -/
theorem test_jobs_end : (ran (.jobStep ⟨true, 0, 0⟩) (jobS .kimgLoad 0 0 9 true)).en 2 0x090 63 = 6 ∧
    (ran (.jobStep ⟨true, 0, 0⟩) (jobS .kimgLoad 0 9 9 false)).en 2 0x093 63 = 0x023F0B := by decide +kernel

/-! ### Tasks, quads and timers -/

/-- Kernel 0x110 of two code words, and the entries of task 95 as written for it: released every period of cluster 0. -/
def tskS : State :=
  let s := rowS.setFram 0x20104 [2]
  let s := ((s.put 3 0x023 0 1).put 2 0x010 95 0x110).put 2 0x016 95 20000
  s.put 2 0x017 95 100

theorem served_tskS : Served tskS reqQ := by apply served_of <;> decide +kernel

/-- Task 95 placed in the last slot of engine 15, in a stage that is ARMED or that no longer is. -/
def remS (live : Bool) : State :=
  let s := sesS.setTask 95 { TaskRt.none with placed := true, engine := 15, slot := 5, codeLen := 2 }
  let s := (s.putDecl (mkKey 2 0x010 95) 0x110).putDecl (mkKey 2 0x012 95) 0
  s.setStg 0 { s.stg 0 with st := if live then .armed else .ready }

theorem meets_TaskDeclareAndRemove : Served tskS reqQ ∧ Permits tskS reqQ (mkKey 2 0x030 95) 0 0 none ∧ tskS.refuseTask 95 = none ∧
    tskS.freeSlot = some 63 ∧ (tskS.task 95).codeLen = 0 ∧ (tskS.task 95).mig = none ∧ sesS.refuseTask 95 = some 2 ∧ sesS.taskOn 95 = false ∧
    Served (remS false) reqQ ∧ Permits (remS false) reqQ (mkKey 2 0x030 95) 1 0 none ∧
    (remS false).liveStage ((remS false).taskStage 95) = none ∧ ((remS false).task 95).codeLen ≠ 0 ∧ ((remS false).task 95).engine < 16 ∧
    ((remS false).task 95).slot < 6 ∧ ((remS false).task 95).mig = none ∧ Permits (remS true) reqQ (mkKey 2 0x030 95) 1 0 none ∧
    (remS true).liveStage ((remS true).taskStage 95) = some 0 ∧ tskS.mem.upset = [] := by
  refine ⟨served_tskS, permits_of ?_, ?_, ?_, ?_, ?_, ?_, ?_, ?_, permits_of ?_, ?_, ?_, ?_, ?_, ?_, permits_of ?_, ?_, ?_⟩
  on_goal 8 => apply served_of
  all_goals decide +kernel

/-- R71, R400: a declaration that names no loaded kernel is refused with reason 2, one that passes is DECLARED. -/
theorem test_declare : (ran (.taskDeclare reqQ 95) sesS).en 2 0x032 95 = 2 ∧ (ran (.taskDeclare reqQ 95) tskS).en 2 0x031 95 = 1 := by
  decide +kernel

/-- Quad 3 is off; engine 15 of it holds a task or none. -/
theorem meets_RefereeMovesQuads : (remS false).step 3 = 0 ∧ (remS false).quadBusy 3 = true ∧ (remS false).recent 3 = false ∧
    (ran (.quadSwitchOn 3) (remS false)).recent 3 = true ∧ State.reset.dev ≠ devIdle ∧
    State.reset.dev ≠ devOperational ∧ State.reset.dev ≠ devSafe ∧ sesS.dev = devIdle ∧ sesS.quadBusy 3 = false ∧
    ¬ ((sesS.quad 3).lastUp = true ∧ sesS.recent 3 = true) ∧ Served sesS reqQ ∧ Permits sesS reqQ (mkKey 2 0x041 3) 200 0 none ∧
    Permits sesS reqQ (mkKey 2 0x041 3) 300 0 none ∧ (sesS.put 2 0x042 3 300).en 2 0x042 3 = 300 ∧
    Permits (sesS.put 2 0x042 3 300) reqQ (mkKey 2 0x041 3) 200 0 none ∧ Served (sesS.put 2 0x042 3 300) reqQ ∧
    sesS.en 2 0x042 3 ≤ 200 ∧ CanJournal sesS (mkKey 2 0x041 3) 200 ∧ sesS.inShadow 3 = false := by
  refine ⟨?_, ?_, ?_, ?_, ?_, ?_, ?_, ?_, ?_, ?_, served_sesS, permits_of ?_, permits_of ?_, ?_, permits_of ?_, ?_, ?_, ⟨?_, ?_, ?_⟩, ?_⟩
  on_goal 15 => apply served_of
  all_goals decide +kernel

/-- Task 0 of engine 0 in migration to engine 15, its state copied from local data, or from one place of a tile to the next. -/
def migS (state twin : Nat) : State :=
  let m : Mig := ⟨15, 5, 0, 0, twin, [some 3], 0, false, true, true, true, false, false, 0, false, false, [], [], [], [], none⟩
  let s := engS [] 0x100
  s.setTask 0 { s.task 0 with state := state, stateLen := 4, mboxes := [some 0], mig := some m }

theorem meets_CopiesAndFreeTimers : (((migS 0x1FFC 0x1FFC).task 0).mig.map (fun m => m.copying && decide (m.dst < 16) && decide (m.dst ≠ 0)))
      = some true ∧ ((migS 0x1FFC 0x1FFC).task 0).engine < 16 ∧
    (∀ i, i < ((migS 0x1FFC 0x1FFC).task 0).stateLen → ((migS 0x1FFC 0x1FFC).task 0).state + i < 0x2000 ∧ 0x1FFC + i < 0x2000) ∧
    (∀ i, i < ((migS 0x17FFF8 0x17FFFC).task 0).stateLen → 0x100000 ≤ ((migS 0x17FFF8 0x17FFFC).task 0).state + i ∧
      ((migS 0x17FFF8 0x17FFFC).task 0).state + i < 0x180000 ∧ 0x17FFFC + i < 0x180000) ∧
    ((migS 0x17FFF8 0x17FFFC).task 0).state + ((migS 0x17FFF8 0x17FFFC).task 0).stateLen ≤ 0x17FFFC ∧
    ((migS 0x1FFC 0x1FFC).task 0).mboxes = [some 0] ∧ (State.reset.put 2 0x060 15 400).en 2 0x060 15 ≠ 0 ∧ State.reset.en 2 0x060 15 = 0 := by
  decide +kernel

/-- R88: the twin holds the words of the state section. -/
theorem test_state_copy : (ran (.stateCopyDone 0) ((migS 0x1FFC 0x1FFC).setMemWord 0 0x1FFF 5)).memWord 15 0x1FFF = 5 := by decide +kernel

/-! ### Clusters and generators -/

/-- Cluster 11 changed. -/
def clS (f : Cl → Cl) : State := sesS.setCl 11 (f (sesS.cl 11))

/-- A set with a PERIOD and the dead times of the floors. -/
def setP (p : BitVec 20) : ClSet := { ClSet.reset with period := p }

/-- Running, with a set in the transfer buffer of nominal period, one below it, or of the shortest one, which its dead times fill. -/
def comS (p : BitVec 20) : State := (clS (fun y => { y with st := .running, transfer := some (setP p) })).put 4 0x030 11 (if p = 200 then 200 else 20000)

theorem comS_floored (p : BitVec 20) (h : p = 20000 ∨ p = 19999 ∨ p = 200) : (comS p).Floored 11 (setP p) (setP p) := by
  refine ⟨rfl, rfl, rfl, fun i => ?_⟩
  unfold State.belowFloor
  rcases h with rfl | rfl | rfl <;> revert i <;> decide +kernel

/-- The cluster OFF; recognised sets that fit at the nominal PERIOD, lie just below it, or leave the edges no time; a cutoff with and without
a waiting set. -/
theorem meets_CommitsAndCutoffs : Executes (engS [] 0x100) 0 0 0 ∧ (engS [] 0x100).allows 0 0 (0x800042 + 256 * 11) true = true ∧
    ((engS [] 0x100).task 0).mig = none ∧ ((engS [] 0x100).cl 11).st = .off ∧
    (((engS [] 0x100).setCl 11 { Cl.reset with st := .running }).cl 11).st ≠ .off ∧
    (((engS [] 0x100).setCl 11 { Cl.reset with st := .running }).cl 11).transfer = none ∧ ((comS 20000).cl 11).transfer ≠ none ∧
    ((comS 20000).cl 11).st ≠ .off ∧ ((comS 20000).cl 11).transfer = some (setP 20000) ∧ (comS 20000).Floored 11 (setP 20000) (setP 20000) ∧
    (comS 19999).Floored 11 (setP 19999) (setP 19999) ∧ (comS 200).Floored 11 (setP 200) (setP 200) ∧
    ((comS 20000).en 4 0x030 11 ≤ (setP 20000).period.toNat ∧ (setP 20000).period.toNat ≤ 8 * (comS 20000).en 4 0x030 11) ∧
    ¬ (comS 19999).en 4 0x030 11 ≤ (setP 19999).period.toNat ∧ (comS 200).en 4 0x030 11 ≤ (setP 200).period.toNat ∧
    ¬ (setP 200).g[0].dtr.toNat + (setP 200).g[0].dtf.toNat + 2 * (setP 200).g[0].minp.toNat < (setP 200).period.toNat * 32 ∧
    ((clS id).cl 11).transfer = none ∧ ((clS id).cl 11).st = .off ∧ ((comS 200).cl 11).waiting = none ∧
    ((clS (fun y => { y with st := .latched, waiting := some (setP 200) })).cl 11).waiting = some (setP 200) := by
  refine ⟨⟨⟨0, ?_, rfl⟩, ?_⟩, ?_, ?_, ?_, ?_, ?_, ?_, ?_, ?_, comS_floored _ (by decide), comS_floored _ (by decide), comS_floored _ (by decide),
    ?_, ?_, ?_, ?_, ?_, ?_, ?_, ?_⟩ <;> decide +kernel

/-- R118, R119: a dead time below its floor is raised and counted; a PERIOD below the nominal one is rejected with reason 1. -/
theorem test_commit : ((ran (.commitRecognised 11) (comS 19999)).cl 11).rejReason = 1 ∧
    (ran (.commitRecognised 11) (comS 19999)).flt.reports = [⟨0x030B03, false⟩] ∧
    (((ran (.commitRecognised 11) ((comS 20000).put 4 0x012 44 3201)).cl 11).waiting.map (fun x => x.g[0].dtr)) = some 3201 := by decide +kernel

/-- A running cluster, its trip count about to leak at the last clean period or not. -/
def rldS (clean : Nat) : State := (clS (fun y => { y with
  st := .running, apply := some (setP 30000), tripcnt := 3, clean := clean, rldnum := 0xFFFFFF })).put 4 0x035 11 64

theorem meets_ReloadBeginsAPeriod : ((rldS 63).cl 11).st ≠ .off ∧ (rldS 63).master 11 = none ∧ (∀ i, i < 4 → (rldS 63).tripCfg 11 i % 4 ≠ 1) ∧
    ((rldS 63).cl 11).apply = some (setP 30000) ∧ ((comS 200).cl 11).apply = none ∧ ((rldS 63).cl 11).counted = false ∧
    (rldS 63).en 4 0x035 11 ≤ ((rldS 63).cl 11).clean + 1 ∧ ((rldS 62).cl 11).clean + 1 < (rldS 62).en 4 0x035 11 ∧
    ((clS (fun y => { y with st := .running, counted := true })).cl 11).counted = true ∧ ((clS id).cl 11).starting = false := by
  refine ⟨?_, ?_, ?_, ?_, ?_, ?_, ?_, ?_, ?_, ?_⟩ <;> decide +kernel

/-- R105, R119, R124: the reload numbers wrap, the set is applied and reported, and TRIPCNT leaks at the 64th clean period. -/
theorem test_reload : ((ran (.reload 11) (rldS 63)).cl 11).rldnum = 0 ∧ ((ran (.reload 11) (rldS 63)).cl 11).lastapp = 0 ∧
    ((ran (.reload 11) (rldS 63)).cl 11).tripcnt = 2 ∧ ((ran (.reload 11) (rldS 62)).cl 11).tripcnt = 3 ∧
    (ran (.reload 11) (rldS 63)).evBus = [107] := by decide +kernel

/-- A period whose CMPC of generator 47 is at its last fine step, behind it, or never; an edge to come; taps at both ends of the window. -/
def trgS (cmpc : Word) : State :=
  let x : ClSet := { ClSet.reset with g := .replicate 4 { GenSet.reset with cmpc := cmpc } }
  (clS (fun y => { y with st := .running, cur := some x })).setGen 47 { Gen.reset with edges := [⟨true, true, 5⟩] }

theorem meets_TriggersEdgesAndTheRally : (((trgS 639999).cl (47 / 4)).cur.map (fun x => (x.g.getD (47 % 4) GenSet.reset).cmpc)) = some 639999 ∧
    (639999 : Word) ≠ 0xFFFFFF ∧ (639999 : Word).toNat < 32 * ((trgS 639999).cl (47 / 4)).len ∧
    32 * ((trgS 640000).cl (47 / 4)).len ≤ (640000 : Word).toNat ∧ ((trgS 0xFFFFFF).cl (47 / 4)).cur.isSome ∧
    ((trgS 0).cl (47 / 4)).st ≠ .off ∧ ((trgS 0).gen 47).edges = ⟨true, true, 5⟩ :: [] ∧ (sesS.gen 47).edges = [] ∧
    256 ≤ (256 : BitVec 12).toNat ∧ (504 : BitVec 12).toNat < 512 - 7 ∧ (255 : BitVec 12).toNat < 256 ∧ 512 - 7 ≤ (505 : BitVec 12).toNat := by
  decide +kernel

/-- R121: CMPC of generator 47 raises EV(94); beyond the period it does not fire. -/
theorem test_trigger : (ran (.triggerFire 47 false) (trgS 639999)).evBus = [94] ∧ (ran (.triggerFire 47 false) (trgS 640000)).evBus = [] := by
  decide +kernel

/-- Cluster 11 with trip input 3 in mode CBC (1) or LATCH (2), blanked by timer 0 or not, TRIP_N 3. -/
def tripS (mode blank tripcnt : Nat) : State :=
  (((clS (fun y => { y with st := .running, tripcnt := tripcnt, bt := y.bt.set 0 true })).put 4 0x033 11 ((mode + 8 * blank) * 2 ^ 18)).put
    4 0x034 11 3)

theorem meets_TripsAndClocks : ((tripS 1 0 1).cl 11).st = .running ∧ (tripS 1 0 1).tripCfg 11 3 % 4 = 1 ∧ (tripS 1 0 1).tripCfg 11 3 / 8 % 4 = 0 ∧
    ((tripS 1 0 1).cl 11).tripcnt < 255 ∧
    (tripS 1 0 1).tripInputs 11 2 ((tripS 1 0 1).tripLive 11) = [] ∧ ((tripS 1 0 1).cl 11).tripcnt + 1 < (tripS 1 0 1).en 4 0x034 11 ∧
    (tripS 1 0 2).en 4 0x034 11 ≤ ((tripS 1 0 2).cl 11).tripcnt + 1 ∧ ((tripS 1 0 1).cl 11).counted = false ∧
    ((tripS 1 0 1).tripCfg 11 3).testBit 2 = false ∧ ((tripS 5 0 1).tripCfg 11 3).testBit 2 = true ∧ (tripS 5 0 1).tripCfg 11 3 % 4 = 1 ∧
    (tripS 2 0 1).tripCfg 11 3 % 4 = 2 ∧ (tripS 1 1 1).tripCfg 11 3 / 8 % 4 = 1 ∧ ((tripS 1 1 1).cl 11).bt[0] = true ∧
    ((clS (fun y => { y with st := .latched })).cl 11).st = .latched ∧ clkListed 0x43 = true ∧ 0x43 ∉ sesS.pwm.clkLost ∧
    (0x43 : BitVec 8).toNat ∈ ({ sesS.pwm with clkLost := [0x43] } : Pwm).clkLost := by
  refine ⟨?_, ?_, ?_, ?_, ?_, ?_, ?_, ?_, ?_, ?_, ?_, ?_, ?_, ?_, ?_, ?_, ?_, ?_⟩ <;> decide +kernel

/-- R123, R124: the third trip latches the cluster; a blanked trip has no effect. -/
theorem test_trips : ((ran (.cbcTrip 11 8) (tripS 1 0 2)).cl 11).st = .latched ∧ (ran (.cbcTrip 11 8) (tripS 1 0 1)).evBus = [119] ∧
    ((ran (.cbcTrip 11 8) (tripS 1 1 1)).cl 11).tripcnt = 1 := by decide +kernel

/-! ### Lanes and integrated drivers -/

/-- One lane as `f` says. -/
def laneS (l : Nat) (f : Lane → Lane) : State := sesS.setLane l (f Lane.reset)

/-- A HOLD_OFF, an EDGE_ON with a lead of exactly 16000 fine steps at tick 0, and one with a step less. -/
def cmdH : LaneCmd := ⟨3, 3, 0, 0, 0⟩
def cmdE (t : EdgeTime) : LaneCmd := ⟨1, 1, 0, t, 0⟩

/-- Lane 35 serves with each of its queues in turn at the front, the edge just in time and just too late; a lane that is OFF does not. -/
theorem meets_LanesTransmitInOrder : (laneS 35 (fun x => { x with st := .active })).flt.static.getLsbD 35 = false ∧
    0 ∉ (laneS 35 (fun x => { x with st := .active })).pwm.clkLost ∧ (sesS.lane 35).st = .off ∧
    ((laneS 35 (fun x => { x with st := .active, qHold := [cmdH] })).lane 35).qHold = cmdH :: [] ∧
    16000 ≤ ((cmdE 16000).t - BitVec.ofNat 32 (sesS.t48.toNat * 32)).toInt ∧ ((cmdE 15999).t - BitVec.ofNat 32 (sesS.t48.toNat * 32)).toInt < 16000 ∧
    ((laneS 35 (fun x => { x with st := .active, qEdge := [cmdE 16000] })).lane 35).qHold = [] ∧
    ((laneS 35 (fun x => { x with st := .active, qVolley := true })).lane 35).qVolley = true ∧
    ((laneS 35 (fun x => { x with st := .active, qAdj := [cmdH] })).lane 35).qAdj = cmdH :: [] ∧
    ((laneS 35 (fun x => { x with st := .active, qProf := [cmdH] })).lane 35).qAdj = [] ∧
    ((laneS 35 (fun x => { x with st := .active, qFrame := [⟨1, [5]⟩] })).lane 35).qFrame = ⟨1, [5]⟩ :: [] ∧
    ((laneS 35 (fun x => { x with vlock := 1 })).lane 35).vlock ≠ 0 ∧ (sesS.lane 35).vlock = 0 ∧
    ((laneS 35 (fun x => { x with st := .holdOnly })).lane 35).st = .holdOnly ∧ (sesS.lane 35).kill = false ∧ sesS.inSend 35 = none ∧
    ((laneS 35 (fun x => { x with prog := some ⟨7, none, some ⟨1, [5]⟩, 0, 90⟩ })).inSend 35).map (·.level) = some 7 ∧ sesS.fits 0 4 7 = true ∧
    sesS.fits 35 7 9 = true ∧ (sesS.setCl 0 { sesS.cl 0 with st := .running, len := 100 }).fits 0 7 9 = false ∧
    ((laneS 35 (fun x => { x with st := .active, kill := true })).lane 35).kill = true ∧ ((laneS 35 (fun x => { x with st := .failed })).lane 35).st = .failed := by
  refine ⟨?_, ?_, ?_, ?_, ?_, ?_, ?_, ?_, ?_, ?_, ?_, ?_, ?_, ?_, ?_, ?_, ?_, ?_, ?_, ?_, ?_, ?_⟩ <;> decide +kernel

/-- R140, R142: a command takes the next SEQ; a late EDGE_ON is dropped and counted. -/
theorem test_lane_transmit : ((ran (.laneTransmit 35) (laneS 35 (fun x => { x with st := .active, seq := 63, qHold := [cmdH] }))).lane 35).seq = 0 ∧
    ((ran (.laneTransmit 35) (laneS 35 (fun x => { x with st := .active, qEdge := [cmdE 15999] }))).lane 35).lateTx = 1 ∧
    ((ran (.laneTransmit 35) (laneS 35 (fun x => { x with st := .failed }))).lane 35).tx.length = 1 ∧ ran (.laneTransmit 35) sesS = sesS := by decide +kernel

/-- A lane in step `n` of its training with a nonce, two tries behind it, 63 frames good. -/
def trnS (l n tries : Nat) : State := laneS l (fun x => { x with st := .training, step := n, tries := tries, nonce := 0xFFFF, genSat := 3, good := 63 })

theorem meets_TrainingGoesStepByStep : ((trnS 35 1 3).lane 35).step = 1 ∧ ((trnS 35 1 3).supply 4).reset = false ∧ ((trnS 35 2 3).lane 35).nonce = 0xFFFF ∧
    (3 : BitVec 8).toNat = min (if 35 < 32 then (trnS 35 3 2).en 5 0x011 35 + 1 else 3) ((trnS 35 3 2).lane 35).genSat ∧
    ((trnS 35 4 3).lane 35).answered = false ∧ testOk ((trnS 35 4 3).lane 35).tail (testPayload 0) = true ∧ testOk (testTail (testPayload 0)) (testPayload 1) = true ∧
    testOk ((trnS 35 4 3).lane 35).tail (.replicate 24 0) = false ∧ lenOk (testPayload 0).length = true ∧ (0 : BitVec 16) ≠ frameCrc 3 (testPayload 0) ∧
    testOk (sesS.dl 3).tail (testPayload 0) = true ∧ (trnS 35 6 3).cfgMatches 35 0x40 [0xFF] = true ∧ (trnS 35 6 3).cfgMatches 35 0x40 [] = true ∧
    (0 : BitVec 16) ≠ frameCrc 1 (payloadOf [0]) ∧
    ((trnS 35 0 0).lane 35).step = 0 ∧ 3 ≤ ((trnS 35 2 3).lane 35).tries ∧ ((trnS 35 3 2).lane 35).tries < 3 ∧ (0 : BitVec 16) = (sesS.dl 3).nonce ∧
    (sesS.dl 3).lost = false ∧ (∀ i, i < 3 → (sesS.hb (3 * 3 + i)).st = .safeHold) ∧ (0x7F : BitVec 8).toNat < 0x80 ∧ Served sesS reqQ ∧
    Permits sesS reqQ (mkKey 5 0x010 31) 1 0 none ∧ CanJournal sesS (mkKey 5 0x010 31) 1 ∧ (sesS.lane 31).st = .off ∧ sesS.laneJob 31 = none ∧
    sesS.freeSlot = some 63 ∧ sesS.laneLive 31 = none ∧ Permits (sesS.put 5 0x010 31 1) reqQ (mkKey 5 0x010 31) 0 0 none ∧
    Served (sesS.put 5 0x010 31 1) reqQ ∧ CanJournal (sesS.put 5 0x010 31 1) (mkKey 5 0x010 31) 0 ∧
    Permits (sesS.put 5 0x010 31 1) reqQ (mkKey 5 0x012 31) 0 0 none ∧ Permits (sesS.put 5 0x010 31 1) reqQ (mkKey 5 0x012 31) 1 0 none ∧
    (sesS.put 5 0x010 31 1).en 5 0x010 31 = 1 ∧ (sesS.put 5 0x010 31 1).en 2 0x090 63 = 0 ∧ Permits sesS reqQ (mkKey 5 0x012 31) 0 0 none ∧
    sesS.en 5 0x010 31 = 0 ∧ (((sesS.put 5 0x010 31 1).setLane 31 { Lane.reset with st := .holdOnly }).lane 31).st = .holdOnly := by
  refine ⟨?_, ?_, ?_, ?_, ?_, ?_, ?_, ?_, ?_, ?_, ?_, ?_, ?_, ?_, ?_, ?_, ?_, ?_, ?_, ?_, ?_, served_sesS, permits_of ?_, ⟨?_, ?_, ?_⟩, ?_, ?_, ?_, ?_, permits_of ?_, ?_,
    ⟨?_, ?_, ?_⟩, permits_of ?_, permits_of ?_, ?_, ?_, permits_of ?_, ?_, ?_⟩
  on_goal 31 => apply served_of
  all_goals decide +kernel

/-- R148: the 64th good TEST frame completes step 4; step 2 fails at its third timeout; a lane that is enabled starts its training. -/
theorem test_training : ((ran (.test 35 true (testPayload 0) (frameCrc 3 (testPayload 0))) (trnS 35 4 0)).lane 35).answered = true ∧
    ((ran (.trainStepTimeout 35) (trnS 35 2 3)).lane 35).fail = 2 ∧ ((ran (.laneEnable reqQ 31 1) sesS).lane 31).st = .training := by decide +kernel

/-- Half-bridge 11 enabled, in RUN with its link lane 3 in sequence at SEQ 63. -/
def hbS (f : Hb → Hb) : State :=
  let s := sesS.setHb 11 (f { Hb.reset with st := .run, clampH := false, clampL := false })
  ({ s with drv := { s.drv with gvdd := 2 } }.setDl 3 { s.dl 3 with seq := some 63, lastSeq := 63, lost := false }).setCfgWord 3 0x20 1

theorem meets_EdgeCommandsOnThePDie : InOrder (hbS id) 3 0 ∧ InOrder (hbS (fun x => { x with st := .safeHold })) 3 17 ∧ (hbS id).hbEn 11 = true ∧
    ((15360 : EdgeTime) - BitVec.ofInt 32 (((hbS id).t48.toNat * 32 : Int) + ((hbS id).dl 3).theta)).toInt = 15360 ∧
    ((67108864 : EdgeTime) - BitVec.ofInt 32 (((hbS id).t48.toNat * 32 : Int) + ((hbS id).dl 3).theta)).toInt = 67108864 ∧
    ((15359 : EdgeTime) - BitVec.ofInt 32 (((hbS id).t48.toNat * 32 : Int) + ((hbS id).dl 3).theta)).toInt < 15360 ∧ ((hbS id).dl 3).markT ≤ 15359 ∧
    ((hbS id).hb 11).st = .run ∧ ((hbS id).hb 11).stpWait = false ∧ (((hbS id).hb 11).held true).isNone ∧ ((hbS id).hb 11).resumeT ≤ 15359 ∧
    ((hbS (fun x => { x with queue := .ofFn (fun i : Fin 31 => ⟨false, false, 0, i.val, 1⟩) })).hb 11).queue.length = 31 ∧
    cmdsOf (⟨true, true, 0, 15360, 0⟩ :: .ofFn (fun i : Fin 31 => ⟨false, false, 0, (i.val : Int), 1⟩)) ≤ 32 ∧
    ((hbS id).hb 11).holdH = none ∧ ((hbS id).hb 11).holdL = none ∧ ((hbS (fun x => { x with st := .safeHold })).hb 11).bstUv = false ∧
    (hbS (fun x => { x with st := .safeHold })).dieHeld 3 = false ∧ ((hbS id).hb 11).acceptsCfg = true ∧ ((hbS id).dl 3).lost = false ∧
    (hbS (fun x => { x with st := .safeHold })).laneLiveHb 3 = false ∧ (hbS id).laneLiveHb 3 = true ∧
    (∃ b, ((hbS id).dl 3).seq = some b ∧ (1 : BitVec 6) ≠ b + 1) ∧ ((hbS id).hb 11).queue = [] ∧
    ((hbS (fun x => { x with queue := [⟨true, true, 0, 9, 1⟩] })).hb 11).queue = ⟨true, true, 0, 9, 1⟩ :: [] ∧ ((hbS id).hb 11).hOn = false ∧
    ((hbS id).hb 11).lOn = false ∧ ((hbS (fun x => { x with stpWait := true })).hb 11).stpWait = true ∧
    ((15360 : EdgeTime) - BitVec.ofInt 32 (((hbS id).t48.toNat * 32 : Int) + ((hbS id).dl 3).theta)).toInt < (((hbS id).setDl 3 { (hbS id).dl 3 with markT := 15361 }).dl 3).markT ∧
    (4 : EdgeTime).toInt.natAbs ≤ 4 ∧ ((hbS id).dl 3).adj = 0 ∧ (hbS id).edgeSoon 3 = false ∧ 4 < (5 : EdgeTime).toInt.natAbs ∧
    ((0x8 : BitVec 4) ++ (0 : BitVec 44)).extractLsb' 44 4 = 8#4 ∧ ((0x9 : BitVec 4) ++ (0 : BitVec 44)).extractLsb' 44 4 = 9#4 := by
  refine ⟨.inr ?_, .inl ?_, ?_, ?_, ?_, ?_, ?_, ?_, ?_, ?_, ?_, ?_, ?_, ?_, ?_, ?_, ?_, ?_, ?_, ?_, ?_, ⟨63, ?_, ?_⟩, ?_, ?_, ?_, ?_, ?_, ?_, ?_, ?_, ?_, ?_, ?_, ?_⟩ <;> decide +kernel

/-- R140, R141: an EDGE_ON in sequence with a lead of 15360 joins the queue; a gap in SEQ puts the bank into SAFE_HOLD and counts. -/
theorem test_pdie_edges : ((ran (.edgeOn 3 1 8 0 15360) (hbS id)).hb 11).queue = [⟨true, true, 0, 15360, 0⟩] ∧
    ((ran (.edgeOn 3 1 8 1 15360) (hbS id)).hb 11).st ≠ .run ∧ ((ran (.edgeOn 3 1 8 1 15360) (hbS id)).dl 3).gap = 1 := by decide +kernel

/-- Lane 31 in a Volley exchange begun at T1 = 0, LOCKING (1) or LOCKED (2). -/
def volS (vlock good exchanges bad miss : Nat) : State := laneS 31 (fun x => { x with
  st := .active, vlock := vlock, good := good, exchanges := exchanges, bad := bad, miss := miss, t1 := some 0 })

/-- The offset of R151 where R1 = S2 = `r` and T4 = 0. -/
theorem offset_eq : ((2 - 0 : EdgeTime).toInt - Int.tdiv ((0 - 0 : EdgeTime).toInt - (2 - 2 : EdgeTime).toInt) 2).natAbs = 2 ∧
    ((3 - 0 : EdgeTime).toInt - Int.tdiv ((0 - 0 : EdgeTime).toInt - (3 - 3 : EdgeTime).toInt) 2).natAbs = 3 ∧
    ((8 - 0 : EdgeTime).toInt - Int.tdiv ((0 - 0 : EdgeTime).toInt - (8 - 8 : EdgeTime).toInt) 2).natAbs = 8 ∧
    ((9 - 0 : EdgeTime).toInt - Int.tdiv ((0 - 0 : EdgeTime).toInt - (9 - 9 : EdgeTime).toInt) 2).natAbs = 9 := by decide +kernel

/-- Offsets of 2 and 3 while LOCKING, of 8 and 9 once LOCKED (the theorem before); an ACTIVE lane with two and three retrains behind it. -/
theorem meets_VolleysAndRetrains : (sesS.lane 31).t1 = none ∧ ((volS 1 6 62 0 0).lane 31).t1 = some 0 ∧ ((volS 1 6 62 0 0).lane 31).vlock = 1 ∧
    ((volS 1 6 62 0 0).lane 31).good < 7 ∧ ((volS 1 6 62 0 0).lane 31).exchanges < 63 ∧ ((volS 1 7 0 0 0).lane 31).good = 7 ∧
    ((volS 1 6 63 0 0).lane 31).exchanges = 63 ∧ ((volS 2 0 0 1 1).lane 31).vlock = 2 ∧ ((volS 2 0 0 1 1).lane 31).bad < 2 ∧
    2 ≤ ((volS 2 0 0 2 2).lane 31).bad ∧ ((volS 2 0 0 1 1).lane 31).miss < 2 ∧ 2 ≤ ((volS 2 0 0 2 2).lane 31).miss ∧ (sesS.lane 31).st ≠ .active ∧
    ((volS 2 0 0 0 0).lane 31).st = .active ∧ (volS 2 0 0 0 0).en 5 0x01C 31 = 1 ∧
    (((laneS 31 (fun x => { x with st := .active, autoAt := [0, 0] })).lane 31).autoAt.filter (fun a => decide (sesS.t48.toNat < a + 400000000))).length < 3 ∧
    3 ≤ (((laneS 31 (fun x => { x with st := .active, autoAt := [0, 0, 0] })).lane 31).autoAt.filter
      (fun a => decide (sesS.t48.toNat < a + 400000000))).length ∧
    (((laneS 31 (fun x => { x with codeAt := .replicate 14 0 })).lane 31).codeAt.filter (fun a => decide (sesS.t48.toNat < a + 400000))).length < 15 ∧
    ((trnS 35 4 0).lane 35).step = 4 ∧ ((trnS 35 3 0).lane 35).step ≠ 4 ∧ (sesS.lane 35).t1 = none := by decide +kernel

/-- Ten zero bits are no group: in a payload slot of an ACTIVE lane, of link lanes that are not, and at the P-die. -/
theorem meets_VolleysAndRetrains_errors : let k := (3 : Fin 4)
    ((volS 2 0 0 0 0).rx 31).kind false ((volS 2 0 0 0 0).lane 31).gen = .payload ∧ ((volS 2 0 0 0 0).rx 31).asm.frame = none ∧
    readGroup ((volS 2 0 0 0 0).rx 31).rd 0 = none ∧ ((trnS 35 3 0).rx 35).kind true ((trnS 35 3 0).lane 35).gen = .payload ∧
    ((trnS 35 4 0).rx 35).kind true ((trnS 35 4 0).lane 35).gen = .payload ∧ readGroup ((trnS 35 4 0).rx 35).rd 0 = none ∧ ((trnS 35 4 0).rx 35).asm.frame = none ∧
    ((sesS.setDl 3 { sesS.dl 3 with up := [⟨0xA0, [1]⟩] }).dl k).up = ⟨0xA0, [1]⟩ :: [] ∧ (sesS.dl k).asm.frame = none ∧ readGroup (sesS.dl k).rxRd 0 = none := by
  decide +kernel

/-- R151: eight small offsets in a row lock the lane, and three misses lose the lock. -/
theorem test_volley : ((ran (.volleyRep 31 0 2 2 0 (frameCrc 0xA3 (payloadOf [0, 2, 0, 2]))) (volS 1 7 0 0 0)).lane 31).vlock = 2 ∧ ((ran (.volleyMiss 31) (volS 2 0 0 0 2)).lane 31).vlock = 0 := by
  decide +kernel

theorem meets_AlarmsAndTelemetry : ((volS 2 0 0 0 0).lane 31).kill = false ∧ ((volS 2 0 0 0 0).lane 31).st ≠ .off ∧
    ((laneS 35 (fun x => { x with kill := true })).lane 35).kill = true ∧ ((laneS 35 (fun x => { x with st := .failed })).lane (32 + 3)).st ≠ .off ∧
    sesS.killReq 35 = false ∧ ({ sesS with flt := { sesS.flt with kills := 1 <<< 35 } } : State).killReq 35 = true ∧ (sesS.lane 35).st = .off ∧
    (1 : Word).toNat % 256 = 1 ∧ (3 : Word).toNat % 256 = 3 ∧ (4 : Word).toNat % 256 = 4 ∧ (sesS.en 5 0x030 31).testBit 2 = false ∧
    ((laneS 35 (fun x => { x with alarm := true })).lane 35).alarm = true ∧ (sesS.lane 35).alarm = false ∧ (sesS.lane 31).step ≠ 7 ∧
    (sesS.en 5 0x030 31).testBit 0 = false ∧ sesS.flt.live = [] ∧ (sesS.lane 31).sat = (3 : Word).toNat % 4 ∧ (sesS.en 5 0x030 31).testBit 1 = false ∧
    (0x8000 : Word).toNat / 2 ^ 14 % 4 ≠ 3 ∧
    (volS 2 0 0 0 0).inSend 31 = none ∧ ((laneS 31 (fun x => { x with st := .active, prog := some ⟨7, none, some ⟨1, [5]⟩, 0, 90⟩ })).inSend 31).map (·.level) = some 7 ∧
    (sesS.lane 35).kill = false ∧ ((laneS 35 (fun x => { x with st := .active })).lane (32 + 3)).st ≠ .off ∧
    (laneS 35 (fun x => { x with st := .active })).inSend 35 = none ∧ 0x041F10 ∉ sesS.flt.live ∧ (∀ r ∈ sesS.flt.reports, r.code ≠ 0x041F10) ∧
    (0 : BitVec 16) ≠ frameCrc 0xA2 (payloadOf [1, 0]) ∧ ((laneS 35 (fun x => { x with alarm := true })).lane 35).alarmCode = none ∧
    ((laneS 35 (fun x => { x with alarm := true, alarmCode := some 0x042319 })).lane 35).alarmCode ≠ none ∧ (0x800000 : Word).toNat / 2 ^ 22 ≠ 3 ∧
    (laneS 35 (fun x => { x with kill := true })).killReq 35 = false ∧ (0x201 : Word).toNat / 256 % 4 ≠ 3 ∧
    ((sesS.setDl 3 { sesS.dl 3 with up := [⟨0xA0, [1]⟩, ⟨0xA2, [0x201, 0]⟩] }).dl 3).up.find? (fun f => f.ty == 0xA2) = some ⟨0xA2, [0x201, 0]⟩ := by decide +kernel

/-- The ALARM frame of cause 1 (DESAT). -/
def alarm1 : Instr := .alarm 31 1 0 (frameCrc 0xA2 (payloadOf [1, 0]))

/-- R153, R154: SAT_ALARM asserts source 80 + l; its ALARM frame brings DESAT (0x10), and the source is released once the collector has it. -/
theorem test_alarm : (ran (.satAlarm 31) (volS 2 0 0 0 0)).flt.src.getLsbD 111 = true ∧
    (ran alarm1 (ran (.satAlarm 31) (volS 2 0 0 0 0))).flt.live = [0x041F10] ∧
    (ran (.faultReport 0x041F10) (ran alarm1 (ran (.satAlarm 31) (volS 2 0 0 0 0)))).flt.src.getLsbD 111 = false := by decide +kernel

/-- An off-state test of half-bridge 11 in its first part, in slot 63. -/
def ostS : State := { sesS.setHb 11 { Hb.reset with st := .test } with ref := { sesS.ref with job :=
  [(63, { kind := .ost, arg := 11, data := [100], pc := 1, steps := 1, expect := 4, limit := 30, prio := 0, cancellable := false
          cancel := false, cleanup := false, owner := none, born := 0, total := 0 })] } }

theorem meets_HalfBridgesTurnOff : (sesS.hb 11).st ≠ .run ∧ ((hbS id).hb 11).st = .run ∧ ((hbS (fun x => { x with hOn := true })).hb 11).hOn = true ∧
    (((hbS id).setCfgWord 3 0x21 3).cfgWord (11 / 3) (16 * (11 % 3) + 1)).testBit 0 = true ∧
    (((hbS id).setCfgWord 3 0x21 3).cfgWord (11 / 3) (16 * (11 % 3) + 1)).testBit 1 = true ∧ ((hbS id).hb 11).hOn = false ∧
    ((hbS id).hb 11).bstWarn = false ∧ ((hbS (fun x => { x with bstUv := true })).hb 11).bstUv = true ∧ ((hbS id).hb 11).bstUv = false ∧
    sesS.ostRun 11 = none ∧ (ostS.ostRun 11).map (fun p => (p.1, p.2.pc)) = some (63, 1) ∧
    9 * (100 : Word).toNat ≤ 10 * (90 : BitVec 24).toNat ∧ 10 * (89 : BitVec 24).toNat < 9 * (100 : Word).toNat ∧ (ostS.put 6 0x037 11 1).en 6 0x037 11 ≠ 2 ∧
    ((hbS (fun x => { x with wasH := true, offAt := some 0 })).hb 11).wasH = true ∧ ((hbS (fun x => { x with offAt := some 0 })).hb 11).offAt = some 0 ∧
    (hbS id).t48.toNat = 0 ∧ ((hbS id).hb 11).resumeAt ≠ some 0 ∧ ((hbS (fun x => { x with resumeAt := some 0 })).hb 11).resumeAt = some 0 ∧
    ((hbS id).hb 11).alarmAt ≠ some 0 ∧ (hbS id).drv.gvdd ≠ 1 ∧ ((hbS id).supply 5).warn = false ∧ ((hbS id).supply 5).reset = false := by
  decide +kernel

/-- R175, R177: VDS of a side that is on turns the half-bridge off with its alarm; a switch node above 90 % of the bus is TOP_SHORT, code 2. -/
theorem test_half_bridge : ((ran (.hbVds 11 true) ((hbS (fun x => { x with hOn := true })).setCfgWord 3 0x21 3)).hb 11).st = .alarm ∧
    ((ran (.hbVds 11 true) ((hbS (fun x => { x with hOn := true })).setCfgWord 3 0x21 3)).hb 11).vds = 1 ∧
    (ran (.ostSettleEnd 11 8 90 0) ostS).en 6 0x031 11 = 2 := by decide +kernel

/-! ### Acquisition and position feedback -/

/-- Converter 3 changed; its last sequence is on trigger 126 and has 16 slots. -/
def adcS (f : Adc → Adc) : State :=
  ((sesS.put 7 0x020 31 126).setCfgWord 3 0x5C (126 + 15 * 256)).setAdc 3 (f Adc.reset)

/-- A sequence in its slot `n` of 16 with `c` codes held. -/
def runQ (n c : Nat) : SeqRun := ⟨31, ⟨126, false, false, 0⟩, 16, .replicate 16 0, n, false, 0, .replicate c 0⟩

/-- Leads of 0, of the largest value, above and below; queue and schedule with one place left; the slots before the last, with room for a
code and without, and the last. -/
theorem meets_TriggersBecomeRecords : Executes (engS [] 0x100) 0 0 0 ∧ (engS [] 0x100).allows 0 0 (0x830012 + 256 * 3) true = true ∧
    ((engS [] 0x100).task 0).mig = none ∧ (14 : BitVec 4) ≠ 15 ∧ (engS [] 0x100).dc 2 0x011 0 ≤ 1 ∧ (adcS id).seqOf 3 126 = some 31 ∧
    ((adcS (fun c => { c with queue := .replicate 3 ⟨1, true, false, 0⟩ })).adc 3).queue.length < 4 ∧
    ((adcS (fun c => { c with sched := .replicate 15 ⟨1, true, false, 0⟩ })).adc 3).sched.length < 16 ∧
    ((67108864 : EdgeTime) - BitVec.ofInt 32 (((adcS id).t48.toNat * 32 : Int) + ((adcS id).dl 3).theta)).toInt ≤ 67108864 ∧
    67108864 < ((67108865 : EdgeTime) - BitVec.ofInt 32 (((adcS id).t48.toNat * 32 : Int) + ((adcS id).dl 3).theta)).toInt ∧
    0 ≤ ((0 : EdgeTime) - BitVec.ofInt 32 (((adcS id).t48.toNat * 32 : Int) + ((adcS id).dl 3).theta)).toInt ∧
    ((-1 : EdgeTime) - BitVec.ofInt 32 (((adcS id).t48.toNat * 32 : Int) + ((adcS id).dl 3).theta)).toInt < 0 ∧ (126 : BitVec 7) ≠ 127 ∧
    ((adcS id).adc 3).sched = [] ∧ ((adcS id).adc 3).queue = [] ∧ ((adcS id).adc 3).run = none ∧ ((adcS id).adc 3).part = [] ∧
    ((adcS (fun c => { c with queue := [⟨126, true, false, 0⟩] })).adc 3).queue = [⟨126, true, false, 0⟩] ∧ (adcS id).dieSeq 3 126 = some 7 ∧
    ((adcS (fun c => { c with run := some (runQ 14 3) })).adc 3).run = some (runQ 14 3) ∧ (runQ 14 3).slot + 1 < (runQ 14 3).len ∧
    (runQ 14 3).codes.length < 4 ∧ (runQ 14 4).codes.length = 4 ∧ (runQ 15 4).len ≤ (runQ 15 4).slot + 1 ∧ ((adcS id).dl 3).lost = false ∧
    (0x100 : Word).getLsbD 8 = true ∧ (0xFF : Word).getLsbD 8 = false ∧ (adcS id).seqOf 3 125 = none ∧
    ((adcS (fun c => { c with await := [(126, 0, 31)] })).adc 3).await = [((126 : Word).toNat % 128, 0, 31)] ∧ (0 : BitVec 16) ≠ frameCrc 0xB0 (payloadOf [126, 0, 0x100, 0x0F8000]) ∧ (adcS id).en 7 0x010 (16 * 3 + (0x0F8000 : Word).toNat / 65536 % 16) = 0 ∧
    (∀ z ∈ ((adcS id).adc 3).await, z.1 ≠ 126) := by
  refine ⟨⟨⟨0, ?_, rfl⟩, ?_⟩, ?_, ?_, ?_, ?_, ?_, ?_, ?_, ?_, ?_, ?_, ?_, ?_, ?_, ?_, ?_, ?_, ?_, ?_, ?_, ?_, ?_, ?_, ?_, ?_, ?_, ?_, ?_, ?_, ?_, ?_,
    by rw [show ((adcS id).adc 3).await = [] by decide +kernel]; exact fun z hz => absurd hz List.not_mem_nil⟩ <;> decide +kernel

/-- A record with one result, 0x8000 of channel 15, and LAST. -/
def adcRes3 : Instr := .adcRes 3 126 0 0x100 [0x0F8000] (frameCrc 0xB0 (payloadOf [126, 0, 0x100, 0x0F8000]))

/-- R188, R189: the lowest-numbered sequence starts; a record with LAST sets its channel's result and raises EV(128 + sequence). -/
theorem test_conversion : (((ran (.sequenceStart 3) (adcS (fun c => { c with queue := [⟨126, true, false, 0⟩] }))).adc 3).run.map (·.seq)) = some 31 ∧
    (ran adcRes3 (adcS (fun c => { c with await := [(126, 0, 31)] }))).acq.res = [(63, 0x400000)] ∧
    (ran adcRes3 (adcS (fun c => { c with await := [(126, 0, 31)] }))).evBus.getLast? = some 159 := by decide +kernel

/-- Comparator 47 changed, its mode `mode`. -/
def cwS (mode : Nat) (f : Cw → Cw) : State := (sesS.setCfgWord 3 0x76 (BitVec.ofNat 24 (16 * mode))).setCw 47 (f Cw.reset)

theorem meets_FiltersAndComparators : ({ sesS.acq with hkReq := [31], hkSince := 3 } : Acq).hkReq = [31] ∧ sesS.acq.hkReq = [] ∧ sesS.acq.hkNext < 32 ∧ sesS.acq.hkSince < 3 ∧
    (sesS.dl 0).lost = false ∧
    (sesS.lg 15).wait = [] ∧ ((sesS.setLg 15 ⟨255, [(0, 5)]⟩).lg 15).wait = (0, 5) :: [] ∧
    ((((cwS 1 id).cfgWord (47 / 12) (0x60 + 2 * (47 % 12)) / 16 % 8 == 1) && false) = ((cwS 1 id).cw 47).out) ∧
    ((((cwS 1 id).cfgWord (47 / 12) (0x60 + 2 * (47 % 12)) / 16 % 8 == 1) && true) ≠ ((cwS 1 id).cw 47).out) ∧ ((cwS 1 id).cw 47).masked = false ∧
    ((cwS 1 id).put 0xA 0x204 47 0).en 0xA 0x204 47 ≠ 7 ∧ Executes (engS [] 0x100) 0 0 0 ∧
    (engS [] 0x100).allows 0 0 (0x832002 + 16 * 47) true = true ∧ ((engS [] 0x100).task 0).mig = none ∧
    ((cwS 1 (fun x => { x with pend := true })).cw 47).pend = true ∧ ((cwS 1 (fun x => { x with masked := true })).cw 47).masked = true ∧
    State.reset.dev ≠ devIdle ∧ State.reset.dev ≠ devOperational ∧ sesS.dev = devIdle ∧
    (sesS.put 7 0x063 47 1).nextDac ((sesS.put 7 0x063 47 1).acq.rb.getD 95) = some 94 ∧
    ¬ 384 < ((65504 + 384 - 384 : Int) - ((1023 : Nat) * 64 + 32 : Nat)).natAbs ∧
    384 < (((65504 - 385 : Nat) : Int) - ((((sesS.cw 47).appHi.toNat : Nat) : Int) * 64 + 32)).natAbs ∧ (sesS.cw 47).failHi = false ∧
    ((cwS 1 (fun x => { x with failHi := true })).cw 47).failHi = true := by
  refine ⟨?_, ?_, ?_, ?_, ?_, ?_, ?_, ?_, ?_, ?_, ?_, ⟨⟨0, ?_, rfl⟩, ?_⟩, ?_, ?_, ?_, ?_, ?_, ?_, ?_, ?_, ?_, ?_, ?_, ?_⟩ <;> decide +kernel

/-- R199: the wire of an ABOVE comparator raises EV(176 + 47 / 4) and reaches matrix source 47; CWTHR is clamped into the limits. -/
theorem test_comparator : (ran (.cwWireChange 47 true false) (cwS 1 id)).evBus = [187] ∧ (ran (.cwWireChange 47 true false) (cwS 1 id)).flt.src.getLsbD 47 = true ∧
    ((ran (.cwthr 0 47 0x3FF) ((engS [] 0x100).put 7 0x061 47 500)).cw 47).reqHi = 500 ∧
    ((ran (.cwthr 0 47 0x3FF) ((engS [] 0x100).put 7 0x061 47 500)).cw 47).clamped = true := by decide +kernel

/-- Interface 3 changed. -/
def qeS (f : Qe → Qe) : State := sesS.setQe 3 (f { Qe.reset with on := true })

/-- A compare entry armed at 1 for upward passes, and one that asks for both directions. -/
def ctA : Ct := { Ct.reset with target := 1, cfg := 0x21, reqCfg := 3, armed := true }

theorem meets_PositionFeedback : (sesS.qe 3).on = false ∧ ((qeS id).qe 3).on = true ∧ ((qeS (fun q => { q with pend := true })).qe 3).pend = true ∧
    (0 : BitVec 2) = ((qeS id).qe 3).acc ∧ (3 : BitVec 2) = ~~~((qeS id).qe 3).acc ∧ (1 : BitVec 2) ≠ ((qeS id).qe 3).acc ∧
    ((qeS (fun q => { q with last := some 0 })).qe 3).last = some 0 ∧ sesS.t48.toNat < 0 + sesS.en 8 0x013 3 ∧ ((qeS id).qe 3).last = none ∧
    ((qeS (fun q => { q with pend := true, samp := 0 })).qe 3).samp = 0 ∧ sesS.en 8 0x020 3 = 0 ∧
    (((qeS (fun q => { q with ct := .replicate 16 ctA })).qe 3).ct[15].armed = true) ∧
    ((qeS (fun q => { q with ct := .replicate 16 ctA })).qe 3).ct[15].target = BitVec.ofNat 24 (((((qeS id).qe 3).pos.toNat : Int) + 1) % 16777216).toNat ∧
    ctA.cfg.toNat % 4 = 1 ∧ ctA.cfg.getLsbD 5 = true ∧ ctA.step = 0 ∧ ((qeS id).qe 3).still = true ∧
    ((qeS (fun q => { q with still := false })).qe 3).still = false ∧ (sesS.put 8 0x016 3 0).en 8 0x016 3 * 400 ≤ sesS.t48.toNat - 0 ∧
    sesS.t48.toNat - 0 < sesS.en 8 0x016 3 * 400 ∧ ({ Qe.reset with period := 5, valid := true } : Qe).period < 6 ∧
    (sesS.put 8 0x020 3 1).en 8 0x020 3 = 1 ∧ (sesS.put 8 0x021 3 4).en 8 0x021 3 = 4 ∧ sesS.en 8 0x022 3 = 0 ∧ ((qeS id).qe 3).idxDone = false ∧
    Executes (engS [] 0x100) 0 0 0 ∧ (engS [] 0x100).allows 0 0 (0x840000 + 256 * 3 + 0) false = true ∧
    (engS [] 0x100).allows 0 0 (0x840000 + 256 * 3 + 0x0B) true = true ∧ (engS [] 0x100).allows 0 0 (0x840000 + 256 * 3 + (0x11 + 4 * 15)) true = true ∧
    ctA.reqCfg.toNat % 4 ≠ 0 ∧ ctA.reqCfg.getLsbD 6 = false ∧ Served sesS reqQ ∧ Permits sesS reqQ (mkKey 8 0x03C 3) 1 0 none ∧
    Permits sesS reqQ (mkKey 8 0x010 3) 1 0 none ∧ CanJournal sesS (mkKey 8 0x010 3) 1 ∧ sesS.liveStage (sesS.qeHolder 3) = none ∧
    Served (sesS.put 8 0x010 3 1) reqQ ∧ Permits (sesS.put 8 0x010 3 1) reqQ (mkKey 8 0x010 3) 0 0 none ∧
    CanJournal (sesS.put 8 0x010 3 1) (mkKey 8 0x010 3) 0 := by
  refine ⟨?_, ?_, ?_, ?_, ?_, ?_, ?_, ?_, ?_, ?_, ?_, ?_, ?_, ?_, ?_, ?_, ?_, ?_, ?_, ?_, ?_, ?_, ?_, ?_, ?_, ⟨⟨0, ?_, rfl⟩, ?_⟩, ?_, ?_, ?_, ?_, ?_,
    served_sesS, permits_of ?_, permits_of ?_, ⟨?_, ?_, ?_⟩, ?_, ?_, permits_of ?_, ⟨?_, ?_, ?_⟩⟩
  on_goal 39 => apply served_of
  all_goals decide +kernel

/-- R208, R211: an impossible transition is ILLEGAL; an edge at the top of the range wraps to 0. -/
theorem test_quadrature : ((ran (.qeInputChange 3 3) (qeS id)).qe 3).illegal = 1 ∧ ((ran (.qeInputChange 3 3) (qeS id)).qe 3).pos = 0 ∧
    ((ran (.qeEdge 3 true) (qeS (fun q => { q with pos := 0xFFFFFF }))).qe 3).pos = 0 := by decide +kernel

/-! ### Faults -/

/-- No task migrates in a state that lists no task. -/
theorem noMigration_of {s : State} (h : s.ref.task.all (fun p => p.2.mig.isNone) = true) : NoMigration s := fun t _ => no_mig h t

/-- Stage 11 on cluster 11, in a state; its cluster runs and lane 35 is ACTIVE. -/
def stgS (st : StageSt) : State :=
  let s := (sesS.put 1 0 0 (if st = .off ∨ st = .ready then 2 else 3)).setStg 11 { Stg.reset with st := st }
  let s := ((s.putDecl (mkKey 0xD 0x000 11) 1).putDecl (mkKey 0xD 0x001 11) 0x800).putDecl (mkKey 0xD 0x002 11) (7 * 2 ^ 44)
  (s.setCl 11 { Cl.reset with st := .running, outenReq := true }).setLane 35 { Lane.reset with st := .active }

/-- A latched fault with its record in index 0, in a window or not. -/
def latS (code cls : Nat) (live inWin : Bool) : State :=
  let s := stgS .run
  let s := (s.put 0xA 0x009 0 1).setSc 0 ⟨true, 0, code, cls, cls, false, false, false, false, false, 0, 65535, [], 0, false⟩
  { s with flt := { s.flt with
      latch := [⟨0, code, cls, live, false, false, 0, true, inWin⟩], live := if live then [code] else [], win := if inWin then some ⟨0, 0, false, true⟩ else none } }

theorem fresh_of {s : State} {code cls : Nat} (h : s.classOf code = some cls) (ho : s.flt.reports = [])
    (hl : s.flt.latch.all (fun l => l.code != code) = true) (hw : s.flt.win = none) (hw' : s.flt.wins = []) (hr : s.en 0xA 0x006 0 ≤ cls)
    (hn : s.flt.latch.length < 64) : Fresh s code cls := by
  refine ⟨h, fun r hr => by simp [ho] at hr, fun l hl' => ?_, fun w e => by simp [hw, hw'] at e, hr, hn⟩
  · simpa using List.all_eq_true.1 hl l hl'

/-- A WARN, a TRIP_STAGE of the cluster's stage, a TRIP_ALL and a SAFE_STOP; a repeat; a fault in a window that is one tick from its end; codes
that are not listed; a request by a kernel of a stage and of none. -/
theorem meets_FaultsAreRecordedAndReact : NoMigration (stgS .run) ∧ Fresh (stgS .run) 0x030B03 1 ∧ Fresh (stgS .run) 0x030B01 4 ∧
    Fresh (stgS .run) 0x0B0001 5 ∧ Fresh (stgS .run) 0x0B0005 6 ∧ (stgS .run).deferring = false ∧ (stgS .run).ref.job = [] ∧
    11 ∈ (stgS .run).targets 0x030B01 ∧ ((stgS .run).stg 11).st.armedRwi = true ∧ 11 ∈ (stgS .run).stageCls 11 ∧ ((stgS .run).cl 11).st = .running ∧
    ((stgS .run).lane 35).st = .active ∧ (stgS .run).dev = devOperational ∧ (latS 0x020001 0 false false).classOf 0x020001 = some 0 ∧
    (latS 0x020001 0 false false).flt.latch = [⟨0, 0x020001, 0, false, false, false, 0, true, false⟩] ∧
    ((latS 0x020001 0 false false).scSeq 0).isSome ∧ (latS 0x020001 0 false false).flt.reports = [] ∧
    (latS 0x030B01 4 true true).classOf 0x041F11 = some 3 ∧ codeGroup 0x041F11 ≠ 6 ∧ (latS 0x030B01 4 true true).flt.win = some ⟨0, 0, false, true⟩ ∧
    ({ latS 0x030B01 4 true true with t48 := 3999 } : State).t48.toNat < 0 + 4000 ∧ ((latS 0x030B01 4 true true).scSeq 0).isSome ∧
    (stgS .run).classOf 0 = none ∧ ((stgS .run).lane 32).alarmCode ≠ some 0 ∧ (stgS .run).classOf 0xFFFFFF = none ∧ Executes (engS [] 0x100) 0 0 0 ∧
    ((engS [] 0x100).putDecl (mkKey 2 0x012 0) 11).taskStage 0 = some 11 ∧ ((engS [] 0x100).putDecl (mkKey 2 0x012 0) 12).taskStage 0 = none ∧
    (engS [] 0x100).allows 0 0 0x850000 true = true ∧ kindK 3 = true ∧ kindK 0x19 = true ∧ kindK 0xF = false ∧ kindK 0x14 = false := by
  refine ⟨noMigration_of ?_, fresh_of ?_ ?_ ?_ ?_ ?_ ?_ ?_, fresh_of ?_ ?_ ?_ ?_ ?_ ?_ ?_, fresh_of ?_ ?_ ?_ ?_ ?_ ?_ ?_, fresh_of ?_ ?_ ?_ ?_ ?_ ?_ ?_, ?_, ?_, ?_, ?_,
    ?_, ?_, ?_, ?_, ?_, ?_, ?_, ?_, ?_, ?_, ?_, ?_, ?_, ?_, ?_, ?_, ⟨⟨0, ?_, rfl⟩, ?_⟩, ?_, ?_, ?_, ?_, ?_, ?_, ?_⟩ <;> decide +kernel

/-- R291, R297, R299: PWM_CBC_LIMIT of cluster 11 halts its stage and latches its cluster; its record is the first; a repeat saturates COUNT. -/
theorem test_fault_reaction : ((ran (.faultReport 0x030B01) (stgS .run)).stg 11).st = .halted ∧ ((ran (.faultReport 0x030B01) (stgS .run)).cl 11).st = .latched ∧
    (ran (.faultReport 0x030B01) (stgS .run)).en 0xD 0x014 11 = 0x030B01 ∧ ((ran (.faultReport 0x030B01) (stgS .run)).scAt 0).code = 0x030B01 ∧
    ((ran (.faultReport 0x020001) (latS 0x020001 0 false false)).scAt 0).count = 65535 := by decide +kernel

/-- The device in factory test mode or not, with the other conditions of the collector. -/
def facS (b : Bool) : State := { sesS with boot := { sesS.boot with factory := b } }

theorem meets_FaultsClearAndOkay : sesS.flt.win = none ∧ (latS 1 4 true true).flt.win = some ⟨0, 0, false, true⟩ ∧ (latS 1 4 true true).flt.unconf = [] ∧
    43 ∉ sesS.flt.unconf ∧ 43 ∈ ({ sesS.flt with unconf := [43] } : Flt).unconf ∧ Served sesS reqQ ∧ Permits sesS reqQ (mkKey 0xA 0x010 0) 0x030B01 0 none ∧
    (∃ l ∈ (latS 0x030B01 4 true true).flt.latch, l.code = 0x030B01 ∧ (l.live = true ∨ l.inWin = true ∨ l.cls = 6)) ∧
    Permits (latS 0x030B01 4 true true) reqQ (mkKey 0xA 0x010 0) 0x030B01 0 none ∧ Served (latS 0x030B01 4 true true) reqQ ∧
    (latS 0x030B01 4 false false).flt.latch.all (fun l => l.code == 0x030B01 && !l.live && !l.inWin && l.cls != 6) = true ∧
    sesS.flt.latch = [] ∧ Permits sesS reqQ (mkKey 0xA 0x011 0) 6 0 none ∧ Permits (facS true) reqQ (mkKey 0xA 0x300 0) 0x030B01 0 none ∧
    (facS true).boot.factory = true ∧ (facS false).boot.factory = false ∧ Permits (facS true) reqQ (mkKey 0xA 0x301 0) 119 0 none ∧
    Served (facS true) reqQ ∧ Permits (facS false) reqQ (mkKey 0xA 0x301 0) 119 0 none ∧ (119 : BitVec 48).toNat < 120 ∧ sesS.flt.copies = [] ∧
    ({ (latS 1 4 true true).flt with copies := [0] } : Flt).copies = 0 :: [] ∧ (latS 1 4 true true).deferring = false ∧ (latS 1 4 true true).nvm.writing = false ∧ ((latS 1 4 true true).scSeq 0).isSome ∧
    State.reset.okayHigh = false ∧ sesS.okayHigh = true ∧ 120 ≤ (127 : Fin 128).val ∧ (119 : Fin 128).val < 120 ∧
    (sesS.put 0xA 0x204 47 0).en 0xA 0x204 47 ≠ 7 ∧ (sesS.put 0xA 0x204 79 0).en 0xA 0x204 79 ≠ 7 ∧ (sesS.sess 0).notif = [] ∧
    ((sesS.setSess 1 { Sess.none with notif := [⟨5, 6, 0, [1]⟩] }).sess 1).notif = [⟨5, 6, 0, [1]⟩] ∧ (sesS.put 0 0x023 0 1).en 0 0x023 0 = 1 ∧
    (sesS.put 0 0x012 1 0x0204).ver 1 = 0x0204 ∧ (sesS.putDecl (mkKey 0 0x021 0) 1).served 1 = true := by
  refine ⟨?_, ?_, ?_, ?_, ?_, served_sesS, permits_of ?_, ⟨⟨0, 0x030B01, 4, true, false, false, 0, true, true⟩, ?_, ?_, ?_⟩, permits_of ?_, ?_, ?_, ?_,
    permits_of ?_, permits_of ?_, ?_, ?_, permits_of ?_, ?_, permits_of ?_, ?_, ?_, ?_, ?_, ?_, ?_, ?_, ?_, ?_, ?_, ?_, ?_, ?_, ?_, ?_, ?_, ?_⟩
  on_goal 11 => apply served_of
  on_goal 24 => apply served_of
  all_goals decide +kernel

/-- R298, R304, R307: a live entry is not cleared; OKAY that reads high when it is driven low is OKAY_STUCK_HIGH; injection needs factory test mode. -/
theorem test_collector : ((ran (.clearCode reqQ 0x030B01) (latS 0x030B01 4 true true)).sess 0).resp = [⟨63, 3, errRefused, 0, mkKey 0xA 0x010 0, []⟩] ∧
    (ran (.okayReadback true) State.reset).flt.live = [0x0B0002] ∧ (ran (.injCode reqQ 0x030B01) (facS true)).flt.reports = [⟨0x030B01, true⟩] ∧
    (ran (.injCode reqQ 0x030B01) (facS false)).flt.reports = [] := by decide +kernel

/-! ### Stages -/

/-- The entries of stage 11 for a PMSM_FOC on cluster 11 and interface 3, its limits rising by one. -/
def dclS : State := ((((((sesS.put 0xD 0x000 11 1).put 0xD 0x001 11 0x800).put 0xD 0x002 11 (7 * 2 ^ 44)).put 0xD 0x003 11 3).put 0xD 0x021 11 1).put
  0xD 0x023 11 1).put 0xD 0x024 11 2

/-- Stage 11 in a state, with its offsets done and its bus measured at the limits of its range. -/
def cmdS (st : StageSt) : State :=
  let s := (stgS st).putDecl (mkKey 0xD 0x02B 11) 63
  (s.putKey (s.flagsKey 11) 1).setKern 11 { s.kern 11 with ofsDone := true }

/-- The same as an EFT stage whose star contactor is CT7. -/
def eftS (st : StageSt) (disarming : Bool) : State :=
  let s := ((stgS st).putDecl (mkKey 0xD 0x000 11) 8).putDecl (mkKey 0xD 0x902 11) 7
  (s.putDecl (mkKey 0xD 0x557 11) 0x80).setStg 11 { s.stg 11 with disarming := disarming }

theorem permits_cmd {s : State} (h : (List.range 7).all (fun v => passes s reqQ (mkKey 0xD 0x010 11) v 0) = true) :
    ∀ v, v ≤ 6 → Permits s reqQ (mkKey 0xD 0x010 11) v 0 none := fun v hv =>
  permits_of (List.all_eq_true.1 h v (List.mem_range.2 (by omega)))

/-- Each state of the machine that a command asks for, and one it does not take; a task of the stage; the slot of the tag free and not; a live
halt code. -/
theorem meets_StageCommandsMoveStages : Served dclS reqQ ∧ NoMigration dclS ∧ (∀ v, v ≤ 6 → Permits dclS reqQ (mkKey 0xD 0x010 11) v 0 none) ∧
    dclS.refuseStage 11 = none ∧ sesS.refuseStage 11 = some 2 ∧ Served (cmdS .run) reqQ ∧ NoMigration (cmdS .run) ∧
    (∀ v, v ≤ 6 → Permits (cmdS .run) reqQ (mkKey 0xD 0x010 11) v 0 none) ∧ ((cmdS .run).stg 11).st ≠ .ready ∧ ((cmdS .ready).stg 11).st = .ready ∧
    (cmdS .ready).eftOver 11 = [] ∧ ((((cmdS .ready).putDecl (mkKey 2 0x010 95) 5).putDecl (mkKey 2 0x012 95) 11).stageTasks 11 ≠ []) ∧
    (cmdS .ready).stageTasks 11 = [] ∧ (cmdS .run).refuseArm 11 = some 1 ∧ (cmdS .ready).refuseArm 11 = none ∧ (cmdS .ready).en 2 0x090 63 = 0 ∧
    ((cmdS .ready).put 2 0x090 63 2).en 2 0x090 63 ≠ 0 ∧ (cmdS .ready).refuseRun 11 = some 1 ∧ (cmdS .armed).refuseRun 11 = none ∧
    11 ∈ (cmdS .armed).stageCls 11 ∧ 10 ∉ (cmdS .armed).stageCls 11 ∧ ((cmdS .run).stg 11).st = .run ∧ ((cmdS .armed).stg 11).st = .armed ∧
    ((cmdS .armed).stg 11).disarming = false ∧ (cmdS .armed).dc 0xD 0x000 11 ≠ 8 ∧ (eftS .armed false).dc 0xD 0x000 11 = 8 ∧
    (eftS .armed false).ctOf 11 ≠ [] ∧ ((eftS .armed true).stg 11).disarming = true ∧ ((cmdS .halted).stg 11).st = .halted ∧
    (cmdS .halted).en 0xD 0x014 11 ∉ (cmdS .halted).flt.live ∧
    ((cmdS .halted).put 0xD 0x014 11 5).en 0xD 0x014 11 ∈ ({ (cmdS .halted).flt with live := [5] } : Flt).live ∧
    ((cmdS .rampdown).stg 11).st = .rampdown := by
  refine ⟨?_, noMigration_of ?_, permits_cmd ?_, ?_, ?_, ?_, noMigration_of ?_, permits_cmd ?_, ?_, ?_, ?_, ?_, ?_, ?_, ?_, ?_, ?_, ?_, ?_, ?_, ?_, ?_, ?_,
    ?_, ?_, ?_, ?_, ?_, ?_, ?_, ?_, ?_⟩
  on_goal 6 => apply served_of
  on_goal 1 => apply served_of
  all_goals decide +kernel

/-- R231, R237, R241: a declaration that passes is READY, one of type NONE refused with reason 2; RUN sets OUTEN; a ramp that ends leaves ARMED. -/
theorem test_stage_commands : ((ran (.declare reqQ 11) dclS).stg 11).st = .ready ∧ (ran (.declare reqQ 11) sesS).en 0xD 0x012 11 = 2 ∧
    ((ran (.run reqQ 11) (cmdS .armed)).cl 11).outenReq = true ∧ ((ran (.rampDone 11) (cmdS .rampdown)).stg 11).st = .armed ∧
    ((ran (.rampDone 11) (cmdS .rampdown)).cl 11).outenReq = false := by decide +kernel

/-- Stage 11 with task 95 as MAIN_TASK. -/
def mainS : State := ((cmdS .armed).putDecl (mkKey 0xD 0x004 11) 95).setTask 95 { TaskRt.none with placed := true, state := 0x400 }

/-- Its contactor CT7 commanded closed and reading open, or opening. -/
def ctS (st : StageSt) (cto ctf opening : BitVec 8) : State :=
  let s := eftS st false
  { s.setStg 11 { s.stg 11 with opening := opening } with stages := { (s.setStg 11 { s.stg 11 with opening := opening }).stages with cto := cto, ctf := ctf } }

theorem meets_PostsMirrorsAndContactors : Served (cmdS .ready) reqQ ∧ (entRow (mkKey 0xD 0x035 11)).map (fun r => r.acc == .rw && r.area == 0xD && r.kept) = some true ∧
    keyEntry (mkKey 0xD 0x035 11) ≠ 0x022 ∧ Permits (cmdS .ready) reqQ (mkKey 0xD 0x035 11) 5 0 none ∧ CanJournal (cmdS .ready) (mkKey 0xD 0x035 11) 5 ∧
    ((cmdS .ready).stg (keyElem (mkKey 0xD 0x035 11))).st.armedRwi = false ∧ Permits dclS reqQ (mkKey 0xD 0x022 11) 1 0 none ∧
    dclS.enS 24 0xD 0x023 11 ≤ asInt 24 (1 % 2 ^ 24) ∧ Permits (cmdS .ready) reqQ (mkKey 0xD 0x15A 11) 1 0 none ∧ ((cmdS .ready).stg 11).st = .ready ∧
    Permits dclS reqQ (mkKey 0xD 0x15A 11) 1 0 none ∧ (dclS.stg 11).st ≠ .ready ∧ entRow (mkKey 0xD 0xFFF 11) = none ∧ (mainS.stg 11).st ≠ .off ∧
    (mainS.stg 11).st ≠ .run ∧ (mainS.task 95).placed = true ∧ mainS.dc 0xD 0x000 11 = 1 ∧ mainS.en 2 0x070 11 = 0 ∧ (cmdS .armed).dc 0xD 0x004 11 ≥ 96 ∧
    (ctS .armed 0x80 0 0).declared 11 = true ∧ 7 ∈ (ctS .armed 0x80 0 0).ctOf 11 ∧ ((ctS .armed 0x80 0 0).stg 11).disarming = false ∧
    ((ctS .armed 0x80 0 0).dc 0xD 0x557 11).testBit 7 = true ∧ (ctS .armed 0x80 0 0).stages.ctf.getLsbD 7 ≠ (ctS .armed 0x80 0 0).stages.cto.getLsbD 7 ∧
    ((ctS .ready 0x80 0x80 0x80).stg 11).opening.getLsbD 7 = true ∧ (ctS .ready 0x80 0x80 0x80).ctOf 11 = [7] ∧ ((ctS .ready 0x80 0x80 0x80).stg 11).st ≠ .halted ∧
    ((eftS .armed true).stg 11).disarming = true ∧ (eftS .armed true).dc 0xD 0x902 11 = 7 ∧ (eftS .armed true).stages.cto.getLsbD 7 = false ∧
    (eftS .armed true).stages.ctf.getLsbD 7 = false ∧
    ({ (eftS .armed true).stages with ctf := 0x80 } : Stages).ctf.getLsbD 7 = true ∧
    (ctS .armed 0x80 0 0).findStage (fun p => ((ctS .armed 0x80 0 0).ctOf p).contains 7) = some 11 ∧ (cmdS .ready).deferring = false ∧
    (∀ n ∈ (ctS .halted 0x80 0x80 0x80).stageGens 11, n ∉ (ctS .halted 0x80 0x80 0x80).flt.unconf) ∧
    20000000 ≤ ({ ctS .halted 0x80 0x80 0x80 with t48 := 20000000 } : State).since ((ctS .halted 0x80 0x80 0x80).stg 11).openAt ∧
    ((ctS .halted 0x80 0x80 0x80).putDecl (mkKey 0xD 0x556 11) 0).ctLow 11 = false ∧ ¬ 20000000 ≤ (ctS .halted 0x80 0x80 0x80).since ((ctS .halted 0x80 0x80 0x80).stg 11).openAt ∧
    ¬ (((ctS .ready 0x80 0x80 0x80).putDecl (mkKey 0xD 0x000 11) 9).dc 0xD 0x000 11 = 8 ∨ (ctS .ready 0x80 0x80 0x80).dc 0xD 0x551 11 = 7) ∧
    (ctS .armed 0x80 0 0).dc 0xD 0x000 11 = 8 := by
  refine ⟨?_, ?_, ?_, permits_of ?_, ⟨?_, ?_, ?_⟩, ?_, permits_of ?_, ?_, permits_of ?_, ?_, permits_of ?_, ?_, ?_, ?_, ?_, ?_, ?_, ?_, ?_, ?_, ?_, ?_, ?_,
    ?_, ?_, ?_, ?_, ?_, ?_, ?_, ?_, ?_, ?_, ?_, ?_, ?_, ?_, ?_, ?_, ?_⟩
  on_goal 1 => apply served_of
  all_goals decide +kernel

/-- R264, R268: the mirror shows the state words of MAIN_TASK; a contactor that reads otherwise than commanded is CONTACTOR_FAIL of its stage. -/
theorem test_mirror_and_contactors : (ran (.statusMirror 11) (mainS.setMemWord 0 0x409 9)).en 0xD 0x049 11 = 9 ∧
    (ran (.contactorFail 11 7) (ctS .armed 0x80 0 0)).flt.live = [0x080B14] := by decide +kernel

/-! ### Monitors -/

/-- Sensors 0 and 11 as given in sesS. -/
def senS (x y : Sensor) : State := (sesS.setSensor 0 x).setSensor 11 y

/-- A sensor whose warning would hold at its next round. -/
def warmX : Sensor := { Sensor.reset with far := 6, up := ⟨#[1, 0, 0], rfl⟩ }

/-- A reading at each end of the valid range, at WARN and one outside; a sensor in fast mode and none; a comparator with the others released
and one not; the shutdown held and not. -/
theorem meets_TemperaturesAreMonitored : (List.replicate 12 (0xFC90 : BitVec 16))[7]? = some 0xFC90 ∧ ((-880 : Int) ≤ (0xFC90 : BitVec 16).toInt ∧
    (0xFC90 : BitVec 16).toInt ≤ 3200) ∧ (0xFC8F : BitVec 16).toInt < -880 ∧ (3200 : Int) < (3201 : BitVec 16).toInt ∧ (2160 : BitVec 16).toInt = 2160 ∧
    ((senS warmX warmX).sensor 0).suspect = false ∧ ((senS warmX warmX).sensor 0).far < 7 ∧ ((senS warmX warmX).sensor 0).held = .replicate 3 false ∧
    ((senS warmX warmX).sensor 0).up[0] = 1 ∧ ((senS warmX warmX).sensor 0).seenAt = none ∧
    (List.range 60).all (fun j => (State.reset.sensor j).fast = false) ∧ ((senS warmX { warmX with fast := true }).sensor 11).fast = true ∧
    (warmX.held[2] = false ∧ ({ warmX with held := .replicate 3 true } : Sensor).held[2] = true) ∧
    [8, 9, 10].all (fun j => ((senS warmX { warmX with acmp := true }).sensor j).acmp = false) ∧
    ((senS warmX { warmX with acmp := true }).sensor 11).acmp = true := by decide +kernel

/-- R318, R313: 135 °C read a second time is a WARN of sensor 0; 200.1 °C is no reading. -/
theorem test_temperatures : let s := senS warmX warmX
    ((ran (.slowRound (.replicate 12 2160)) s).sensor 0).held[0] = true ∧ 0x090001 ∈ (ran (.slowRound (.replicate 12 2160)) s).flt.live ∧
    ((ran (.slowRound (.replicate 12 2159)) s).sensor 0).held[0] = false ∧ ((ran (.slowRound (.replicate 12 3201)) s).sensor 0).valid = false ∧
    (ran (.analogShutdown 0) s).flt.live = [0x090003] := by decide +kernel

/-- Supply p with its warning held, the deferral on and its debounce as given. -/
def supS (p : Nat) (debounce : Bool) : State :=
  let s := (sesS.put 9 0x070 0 1).setSupply p { Supply.ok with warn := true }
  { s with mon := { s.mon with debounce := debounce }, flt := { s.flt with live := [0x090010 + 256 * p] } }

/-- Task 95, placed, of criticality OPTIMISE. -/
def shdS : State := (sesS.putDecl (mkKey 2 0x011 95) 2).setTask 95 { TaskRt.none with placed := true }

theorem meets_SuppliesWarnDeferAndReset : (State.reset.dev != devStandby && !State.reset.boot.inReset) = false ∧ (sesS.dev != devStandby && !sesS.boot.inReset) = true ∧
    (shdS.task 95).placed = true ∧ 2 ≤ shdS.dc 2 0x011 95 ∧ (sesS.putDecl (mkKey 2 0x011 95) 1).dc 2 0x011 95 < 2 ∧ (supS 2 false).deferring = true ∧
    [0, 1].all (fun j => ((supS 2 false).supply j).warn = false) ∧ 0x090210 ∈ (supS 2 false).flt.live ∧ (({ Supply.ok with warn := true } : Supply).warn || Supply.ok.ovwarn) = true ∧
    (supS 5 true).mon.debounce = true ∧ [0, 1, 2].all (fun j => ((supS 5 true).supply j).warn = false) ∧ (sesS.mon.debounce = false) ∧
    ((supS 2 true).supply 2).warn = true ∧ sesS.nvm.writing = false ∧ sesS.nvm.blocks = [] ∧
    ({ (supS 5 true).nvm with blocks := [[(0x74000, [1])]], order := [2] } : Nvm).blocks = [[(0x74000, [1])]] := by decide +kernel

/-- R322, R323, R358: a warning of VDDIO begins the deferral and sheds the task; the release starts the debounce; a reset of VSUP has cause 2. -/
theorem test_supplies : (ran (.supplyWarn 2 false) shdS).deferring = true ∧ ((ran (.supplyWarn 2 false) shdS).task 95).shed = true ∧
    (ran (.supplyWarnRelease 2 false) (supS 2 false)).mon.debounce = true ∧ (ran .deferEnd (supS 5 true)).deferring = false ∧
    (ran (.supplyReset 0 false) sesS).boot.cause = 2 ∧ (ran (.supplyReset 0 false) sesS).boot.inReset = true := by decide +kernel
/-! ### The nonvolatile store -/

/-- A record of one word for request reqQ. -/
def recJ : JRec := ⟨mkKey 4 0x000 0, 1, 7, [0x123456], some reqQ, false⟩

/-- That record at the front of the queue, being written or not, at a position of bank 0. -/
def nvmS (writing : Bool) (pos : Nat) : State := { sesS with nvm := { sesS.nvm with queue := [recJ], writing := writing, pos := pos } }

/-- A record whose end is the bank's; space at the threshold and one word below it; Shed running and not. -/
theorem meets_JournalWritesAndCommits : sesS.nvm.queue = [] ∧ (nvmS true 8).nvm.writing = true ∧ (sesS.put 9 0x070 0 1).deferring = true ∧
    (nvmS false 0x7FFA).nvm.queue = recJ :: [] ∧ (nvmS false 0x7FFA).nvm.writing = false ∧ (nvmS false 0x7FFA).deferring = false ∧
    (nvmS false 0x7FFA).nvm.pos + (5 + recJ.words.length) ≤ bankWords ∧ recJ.owner = some reqQ ∧ (nvmS true 8).boot.standby ≠ 1 ∧
    ((nvmS true 8).put 0xB 0x016 0 (0x8000 - 14)).en 0xB 0x016 0 ≤ bankWords - (8 + (5 + recJ.words.length)) ∧
    bankWords - (8 + (5 + recJ.words.length)) < ((nvmS true 8).put 0xB 0x016 0 (0x8000 - 13)).en 0xB 0x016 0 ∧ (nvmS true 8).freeSlot.isSome = true ∧
    Served sesS reqQ ∧ Permits sesS reqQ (mkKey 0xB 0x017 0) 0 0 none ∧ (jobS .shed 0 0 9 false).ref.job.any (fun p => p.2.kind == .shed) ∧
    Served (jobS .shed 0 0 9 false) reqQ ∧ Permits (jobS .shed 0 0 9 false) reqQ (mkKey 0xB 0x017 0) 0 0 none ∧ sesS.ref.job = [] ∧
    (nvmS false 0x7FFA).nvm.order = [] ∧ (nvmS false 0x7FFA).nvm.shed = none ∧ (nvmS true 8).nvm.blocks = [] := by
  refine ⟨?_, ?_, ?_, ?_, ?_, ?_, ?_, ?_, ?_, ?_, ?_, ?_, ?_, permits_of ?_, ?_, ?_, permits_of ?_, ?_, ?_, ?_, ?_⟩
  on_goal 16 => apply served_of
  on_goal 13 => apply served_of
  all_goals decide +kernel

/-- R333: words 1 and after are stored first, and word 0 with the commit. -/
theorem test_journal : (ran .journalWrite (nvmS false 8)).fram (bankBase 0 + 13) ≠ 0 ∧ (ran .journalWrite (nvmS false 8)).fram (bankBase 0 + 8) = 0 ∧
    (ran .journalCommit (nvmS true 8)).fram (bankBase 0 + 8) ≠ 0 ∧ (ran .journalCommit (nvmS true 8)).nvm.pos = 14 := by decide +kernel

/-- Image slot 1 runs, its version 9. -/
def slotS : State := { sesS.put 0xB 0x021 1 9 with boot := { sesS.boot with slot := some 1 } }

/-- Region 1 with a locked lock word. -/
def lockedS : State := slotS.setOtp 1 (lockWord 1) 0x0FFFFF

/-- A value at PATCH_VER and one above it; a word that may be overridden, a protected, a hash, a lock and a seal word; a locked region. -/
theorem meets_FloorAndOverridesComplete : Served slotS reqQ ∧ Permits slotS reqQ (mkKey 0xB 0x025 0) 9 0 none ∧ slotS.boot.slot = some 1 ∧
    9 ≤ slotS.en 0xB 0x021 1 ∧ Permits slotS reqQ (mkKey 0xB 0x025 0) 10 0 none ∧ slotS.en 0xB 0x021 1 < 10 ∧ sesS.boot.slot = none ∧
    Permits slotS reqQ (mkKey 0xB 0x052 0xFD) 0xFFFFFF (regionLevel 2) none ∧ slotS.regionOk 2 = true ∧ slotS.lockState 2 = 0 ∧ isProtected 2 0xFD = false ∧
    isHash 2 0xFD = false ∧ Permits slotS reqQ (mkKey 0xB 0x052 0x15) 1 (regionLevel 2) none ∧ isProtected 2 0x15 = true ∧ isHash 0 0x0A = true ∧
    Permits lockedS reqQ (mkKey 0xB 0x051 0x10) 1 (regionLevel 1) none ∧ Served lockedS reqQ ∧ lockedS.lockState 1 ≠ 0 ∧
    Permits slotS reqQ (mkKey 0xB 0x053 0) 2 (regionLevel 2) none ∧ slotS.deferring = false ∧ slotS.nvm.writing = false ∧ slotS.nvm.blocks = [] ∧
    (slotS.put 9 0x070 0 1).deferring = true ∧ Served (slotS.put 9 0x070 0 1) reqQ ∧ Permits (slotS.put 9 0x070 0 1) reqQ (mkKey 0xB 0x025 0) 9 0 none := by
  refine ⟨?_, permits_of ?_, ?_, ?_, permits_of ?_, ?_, ?_, permits_of ?_, ?_, ?_, ?_, ?_, permits_of ?_, ?_, ?_, permits_of ?_, ?_, ?_, permits_of ?_, ?_, ?_, ?_, ?_, ?_, permits_of ?_⟩
  on_goal 24 => apply served_of
  on_goal 17 => apply served_of
  on_goal 1 => apply served_of
  all_goals decide +kernel

/-- R343, R347: the floor rises to PATCH_VER and no further; an override is what is read, not what is burned. -/
theorem test_floor_and_overrides : (ran (.patchFloorRaise reqQ 9) slotS).en 0xB 0x024 0 = 9 ∧ (ran (.patchFloorRaise reqQ 10) slotS).en 0xB 0x024 0 = 0 ∧
    (ran (.overrideWrite reqQ 2 0xFD 0xFFFFFF) slotS).otpRead 2 0xFD = 0xFFFFFF ∧ (ran (.overrideWrite reqQ 2 0xFD 0xFFFFFF) slotS).otp 2 0xFD = 0 := by
  decide +kernel

/-! ### Start-up -/

/-- The boot sequence at a step. -/
def bootS (step : Nat) (f : Boot → Boot) : State := { State.reset with boot := f { Boot.reset with inReset := false, step := step } }

/-- The links to the P-die in a state. -/
def linkS (st : LaneSt) : State := [32, 33, 34, 35].foldl (fun s l => s.setLane l { Lane.reset with st := st }) (bootS 8 id)

/-- Links that are ACTIVE and a rally that is done. -/
def ralS : State :=
  let s := linkS .active
  { s with pwm := { s.pwm with line := (List.range 48).map fun i => (i, { Line.reset with measured := true }) } }

/-- At the step that senses OTP, with every region open. -/
def openS : State := { bootS 4 id with mem := { (bootS 4 id).mem with otp := [] } }

/-- The CRC-24 of n bytes of zero, from a register value. -/
def crcZ (n c : Nat) : Nat := (List.replicate n 0).foldl (crcByte 24 0x864CFB) c

theorem crcZ_add (m n c : Nat) : crcZ (m + n) c = crcZ n (crcZ m c) := by
  simp only [crcZ, ← List.replicate_append_replicate, List.foldl_append]

/-- R346: the seal of a region of zeros is the word that region 0 ships with. -/
theorem seal_of_zeros {f : Nat → Word} (h : ((List.range (lockWord 0)).map f).flatMap wordBytes = List.replicate (126 + (126 + 126)) 0) :
    sealOf 0 f = 0x361153 := by
  have e : crcZ (126 + (126 + 126)) 0xB704CE = 0x361153 := by
    rw [crcZ_add, crcZ_add, show crcZ 126 0xB704CE = 8793588 by decide +kernel, show crcZ 126 8793588 = 7764888 by decide +kernel]
    decide +kernel
  rw [sealOf, crc24, h, crc24Bytes]
  exact congrArg (BitVec.ofNat 24) e

theorem test_seal : sealOf 0 (State.reset.otp 0) = State.reset.otp 0 (sealWord 0) :=
  (seal_of_zeros (by decide +kernel)).trans (by decide +kernel)

/-- At the step that senses OTP, with the seal of region 0 wrong. -/
def badS : State := (bootS 4 id).setOtp 0 (sealWord 0) 1

/-- Running, held in reset and in STANDBY; a failed start; a kept counter of 0, of 2 and of 3; a wake. -/
theorem meets_ResetsAndTheirRelease : (State.reset.boot.inReset || State.reset.dev == devStandby) = true ∧ (sesS.boot.inReset || sesS.dev == devStandby) = false ∧
    ((sesS.put 1 0 0 8).boot.inReset || (sesS.put 1 0 0 8).dev == devStandby) = decide ((sesS.put 1 0 0 8).dev = devStandby) ∧ sesS.boot.failed = 0 ∧
    (bootS 3 fun b => { b with failed := 2 }).boot.failed ≠ 0 ∧ (bootS 3 fun b => { b with failed := 2 }).boot.inReset = false ∧ State.reset.boot.inReset = true ∧
    State.reset.boot.cause ≠ 0x0A ∧ (bootS 0 fun b => { b with cause := 0x0A, heldWake := some 3 }).boot.heldWake = some 3 ∧ State.reset.boot.keptAon = false ∧
    (bootS 0 fun b => { b with keptAon := true, count := 3 }).boot.keptAon = true ∧ (bootS 0 id).boot.uncleared = false ∧
    ({ Boot.reset with uncleared := true } : Boot).uncleared = true ∧
    ({ State.reset with drv := { State.reset.drv with killPin := true } } : State).drv.killPin = true := by decide +kernel

/-- R360, R362, R364: 2 starts before it and it is no Tadpole start, 3 before it and it is; the counter stops at 15; a start that failed with XTAL fills
a record. -/
theorem test_start_counter : let s (n : Nat) : State := { State.reset with boot := { Boot.reset with keptAon := true, count := n, cause := 6 } }
    (ran .resetRelease (s 2)).boot.tadpole = false ∧ (ran .resetRelease (s 3)).boot.tadpole = true ∧ (ran .resetRelease (s 15)).boot.count = 15 ∧
    (ran .resetRelease (s 0)).en 1 0x011 0 = 6 ∧ (ran .watchdog sesS).boot.cause = 6 ∧
    (ran .resetRelease { s 0 with boot := { (s 0).boot with cause := 9, reached := 2, reason := 1, uncleared := true } }).boot.fails = [0x090201000000, 0, 0] := by
  decide +kernel

/-- Each step with what it asks for: OTP regions open, or region 0 locked with a seal that does not match; links ACTIVE, one in training, one
failed; a step that timed out and repeats; the device in IDLE on a trial image. -/
theorem meets_BootSequenceRunsItsSteps : [2, 3, 4, 5, 6, 7, 8, 9, 10, 11].all (fun n => (bootS n id).booting && (bootS n id).boot.stuck == 0) ∧
    [0, 1, 2].all (fun i => openS.lockState i = 0) ∧ openS.booting = true ∧ openS.boot.step = 4 ∧ openS.mem.upset = [] ∧ badS.booting = true ∧ badS.lockState 0 ≠ 0 ∧ badS.otp 0 (sealWord 0) ≠ sealOf 0 (badS.otp 0) ∧
    (bootS 6 fun b => { b with keptAon := true }).boot.otpFail = 0 ∧ (bootS 6 fun b => { b with keptAon := true }).boot.keptAon = true ∧ (bootS 6 id).deferring = false ∧
    (bootS 6 id).boot.keptAon = false ∧ (bootS 6 fun b => { b with keptAon := true, otpFail := 3 }).boot.otpFail ≠ 0 ∧
    (bootS 6 fun b => { b with keptAon := true, otpFail := 3 }).boot.tadpole = false ∧ ((linkS .active).setLane 35 { Lane.reset with st := .failed }).booting = true ∧
    (((linkS .active).setLane 35 { Lane.reset with st := .failed }).lane 35).st = .failed ∧ ralS.rallyState ≠ 0 ∧ ralS.booting = true ∧ [32, 33, 34, 35].all (fun l => (ralS.lane l).st = .active) ∧ ((linkS .training).lane 32).st = .training ∧
    [32, 33, 34, 35].all (fun l => ((linkS .training).lane l).st ≠ .failed) ∧ (linkS .training).boot.step = 8 ∧ (List.range 12).all (fun g => ((bootS 11 id).stg g).st = .off) ∧
    [0, 1].all (fun i => (bootS 11 id).ver i = 0) ∧ (bootS 3 fun b => { b with stuck := 3, tadpole := true }).boot.stuck ≠ 0 ∧
    (bootS 3 fun b => { b with stuck := 3, tadpole := true }).booting = true ∧ sesS.booting = false ∧ (bootS 2 fun b => { b with tadpole := true }).booting = true ∧
    (bootS 2 fun b => { b with tadpole := true }).boot.tadpole = true ∧ State.reset.dev ≠ devIdle ∧ State.reset.dev ≠ devOperational ∧ State.reset.dev ≠ devPark ∧
    sesS.dev = devIdle ∧ sesS.boot.trial = false ∧ ({ slotS with boot := { slotS.boot with trial := true } } : State).boot.trial = true ∧ slotS.dev ≠ devPark ∧
    slotS.boot.slot = some 1 ∧ (slotS.put 0xB 0x020 0 3).en 0xB 0x020 (1 - 1) = 3 := by
  rw [seal_of_zeros (f := badS.otp 0) (by decide +kernel)]
  decide +kernel

/-- R361, R362: T48 counts from step 3; a crystal that does not start is reason 1. -/
theorem test_boot_steps : (ran .bootStepComplete (bootS 3 id)).t48 = 0 ∧ (ran .bootStepTimeout (bootS 2 id)).en 1 0x014 0 = 1 := by decide +kernel

/-! ### Device commands -/

/-- The session in a state of the device, with no stage declared. -/
def devS (d : Nat) : State := sesS.put 1 0 0 d

/-- In SAFE, with a fault of class KILL latched, live or not. -/
def safS (live : Bool) : State := { devS devSafe with flt := (latS 0x010101 6 live false).flt }

/-- STANDBY being entered: the queue waited for, or the entry begun with a wake held or none and every source enabled. -/
def stbS (n : Nat) (held : Option Nat) : State :=
  { sesS with boot := { sesS.boot with standby := n, standbyReq := some reqQ, heldWake := held, wake := { Wake.none with timer := 1, localOn := true } } }

/-- PARK, with a task whose code is not placed. -/
def prkS : State := ((devS devPark).putDecl (mkKey 2 0x010 95) 0x110).setTask 95 { TaskRt.none with placed := true, codeLen := 0 }

/-- Every command with its value, in the states that take it and one that does not; a live KILL and one that is not; the journal empty and not;
a stage declared; the wait for the queue, the entry and STANDBY itself with each kind of source. -/
theorem meets_DeviceCommandsMoveTheDevice : (Served (devS devSafe) reqQ ∧ Served (devS devIdle) reqQ ∧ Served (devS devTadpole) reqQ ∧ Served (devS devPark) reqQ) ∧
    Permits (devS devIdle) reqQ (mkKey 1 0x010 0) 0 0 none ∧ (devS devIdle).dev ≠ devSafe ∧ Served (safS true) reqQ ∧ Permits (safS true) reqQ (mkKey 1 0x010 0) 0 0 none ∧
    (safS true).dev = devSafe ∧ (safS true).flt.latch.any (fun x => x.cls == 6 && x.live) ∧ Served (safS false) reqQ ∧
    Permits (safS false) reqQ (mkKey 1 0x010 0) 0 0 none ∧ (safS false).flt.latch.all (fun x => x.cls == 6 && !x.live) ∧ (safS false).en 0xD 0x000 11 = 0 ∧
    (devS devPark).dev ∈ [devTadpole, devIdle, devOperational, devSafe, devPark] ∧ Permits (devS devPark) reqQ (mkKey 1 0x010 0) 1 0 none ∧ (devS devPark).boot.inReset = false ∧
    (List.range 12).all (fun h => ((devS devPark).stg h).st.armedRwi = false) ∧ (List.range 12).all (fun h => (devS devIdle).declared h = false) ∧
    Permits (devS devIdle) reqQ (mkKey 1 0x010 0) 2 0 none ∧ (devS devIdle).dev ≠ devTadpole ∧ Permits (devS devTadpole) reqQ (mkKey 1 0x010 0) 2 0 none ∧
    (devS devTadpole).dev = devTadpole ∧ Permits (devS devPark) reqQ (mkKey 1 0x010 0) 3 0 none ∧ (devS devPark).dev ≠ devIdle ∧ (devS devIdle).dev = devIdle ∧
    Permits (devS devIdle) reqQ (mkKey 1 0x010 0) 3 0 none ∧ (devS devIdle).nvm.queue = [] ∧ (nvmS false 8).nvm.queue ≠ [] ∧ Served (nvmS false 8) reqQ ∧
    Permits (nvmS false 8) reqQ (mkKey 1 0x010 0) 3 0 none ∧ (nvmS false 8).dev = devIdle ∧ (stbS 1 none).boot.standbyReq = some reqQ ∧
    (stbS 5 none).boot.standby = 5 ∧ (stbS 5 (some 3)).boot.heldWake = some 3 ∧ (devS devStandby).dev = devStandby ∧
    (devS devStandby).boot.wake.enabled 0 = false ∧ [(0 : Nat), 1, 2, 3, 4, 5].any (fun i => (stbS 5 none).boot.wake.enabled i) ∧ (stbS 5 none).dev ≠ devStandby ∧
    ((stbS 5 none).put 1 0 0 devStandby).dev = devStandby ∧ ((stbS 5 none).put 1 0 0 devStandby).boot.inReset = false ∧
    Permits (devS devPark) reqQ (mkKey 1 0x010 0) 4 0 none ∧ Permits (devS devIdle) reqQ (mkKey 1 0x010 0) 4 0 none ∧
    prkS.taskOn 95 = true ∧ prkS.boot.safe = false ∧ prkS.toPlace ≠ [] ∧ Served prkS reqQ ∧ prkS.freeSlot.isSome = true ∧ prkS.dev = devPark ∧
    Permits prkS reqQ (mkKey 1 0x010 0) 5 0 none ∧ Permits (devS devIdle) reqQ (mkKey 1 0x010 0) 5 0 none ∧
    Permits (devS devPark) reqQ (mkKey 1 0x010 0) 5 0 none ∧ (devS devPark).freeSlot.isSome = true ∧
    Permits (devS devPark) reqQ (mkKey 1 0x010 0) 6 2 none ∧ Permits (devS devIdle) reqQ (mkKey 1 0x010 0) 6 2 none ∧
    (cmdS .ready).declared 11 = true ∧ (cmdS .ready).dev = devIdle ∧ Served (cmdS .ready) reqQ ∧ Permits (cmdS .ready) reqQ (mkKey 1 0x010 0) 6 2 none ∧
    Permits (devS devIdle) reqQ (mkKey 1 0x030 0) 0 0 none ∧ Permits (devS devTadpole) reqQ (mkKey 1 0x030 0) 0 0 none ∧
    Permits (devS devPark) reqQ (mkKey 1 0x030 0) 0 0 none ∧ Permits (devS devIdle) reqQ (mkKey 1 0x030 0) 1 0 none ∧
    Permits (cmdS .ready) reqQ (mkKey 1 0x030 0) 1 0 none ∧ (devS devIdle).deferring = false ∧ (devS devIdle).nvm.writing = false ∧ (devS devIdle).nvm.blocks = [] ∧
    (nvmS true 8).nvm.writing = true ∧ (nvmS true 8).deferring = false ∧ (nvmS true 8).dev = devIdle ∧ (List.range 12).all (fun h => (nvmS true 8).declared h = false) ∧
    Served (nvmS true 8) reqQ ∧ Permits (nvmS true 8) reqQ (mkKey 1 0x030 0) 1 0 none := by
  refine ⟨⟨?_, ?_, ?_, ?_⟩, permits_of ?_, ?_, ?_, permits_of ?_, ?_, ?_, ?_, permits_of ?_, ?_, ?_, ?_, permits_of ?_, ?_, ?_, ?_, permits_of ?_, ?_,
    permits_of ?_, ?_, permits_of ?_, ?_, ?_, permits_of ?_, ?_, ?_, ?_, permits_of ?_, ?_, ?_, ?_, ?_, ?_, ?_, ?_, ?_, ?_, ?_, permits_of ?_, permits_of ?_,
    ?_, ?_, ?_, ?_, ?_, ?_, permits_of ?_, permits_of ?_, permits_of ?_, ?_, permits_of ?_, permits_of ?_, ?_, ?_, ?_, permits_of ?_, permits_of ?_, permits_of ?_, permits_of ?_,
    permits_of ?_, permits_of ?_, ?_, ?_, ?_, ?_, ?_, ?_, ?_, ?_, permits_of ?_⟩
  any_goals apply served_of
  all_goals decide +kernel

/-- R356, R367, R376: no warm restart with a live KILL; PARK and WAKE; factory test mode; a soft reset has cause 8. -/
theorem test_device_commands : (ran (.warmRestart reqQ) (safS true)).dev = devSafe ∧ (ran (.park reqQ) sesS).dev = devPark ∧ (ran (.wake reqQ) (devS devPark)).dev = devIdle ∧
    (ran (.factoryTest reqQ) sesS).boot.factory = true ∧ (ran (.softReset reqQ) (devS devPark)).boot.cause = 8 := by decide +kernel

/-! ### CAN FD and process maps -/

/-- Controller 3 in a state; the dictionary's is 0. -/
def canS (f : Can → Can) : State := sesS.setCan 3 (f Can.reset)

/-- Sending from MB63. -/
def canW (tec : Nat) (shadow : Option CanFrame) (f : Can → Can) : State := canS fun c => f { c with
  st := .errorActive, tec := tec, wire := some 63, bufs := Tab.set (fun _ => TxBuf.empty) [] 63 ⟨some ⟨0x7F0, false, true, true, false, []⟩, shadow, 3, 1⟩ }

/-- The session's request through LOCAL. -/
def reqL : Req := ⟨1, 63, false⟩

/-- A session on LOCAL beside that on CAN; controller 0 is on the bus. -/
def locS : State := ((sesS.setCan 0 { Can.reset with st := .errorActive }).put 0 0x012 1 0x0204).put 0 0x013 1 3

/-- A frame with an identifier of this node. -/
def dupF (i : Nat) : CanFrame := ⟨BitVec.ofNat 29 i, false, true, false, false, []⟩

/-- Each state of a controller that a clause asks for, at the counts of 127, 128 and 255; the clock lost; a frame in progress and none; the
dictionary controller and another; through CAN and through LOCAL. -/
theorem meets_CanControllersFollowTheBus : Served sesS reqQ ∧ Permits sesS reqQ (mkKey 0xC 0x022 3) 0 0 none ∧ sesS.dev ≠ devTadpole ∧
    (devS devTadpole).dev = devTadpole ∧ Served (devS devTadpole) reqQ ∧ 1 ≤ (devS devTadpole).level reqQ.ses.val ∧ (sesS.can 3).st = .off ∧
    timingFits (sesS.canTiming 3) = true ∧ (canW 0 none id).dev ≠ devTadpole ∧ ((canW 0 none id).can 3).st ≠ .off ∧
    Permits (canW 0 none id) reqQ (mkKey 0xC 0x022 3) 1 0 none ∧ Served (canW 0 none id) reqQ ∧ 3 ≠ (canW 0 none id).dictCan ∧
    ((canW 0 none id).can 3).wire.isSome = true ∧ ((canS fun c => { c with st := .errorPassive }).can 3).wire = none ∧ locS.dictCan = 0 ∧ Served locS reqL ∧
    Permits locS reqL (mkKey 0xC 0x022 0) 1 0 none ∧ (locS.can 0).st ≠ .off ∧ Permits sesS reqQ (mkKey 0xC 0x022 3) 2 0 none ∧
    ((canS fun c => { c with st := .busOff }).can 3).st = .busOff ∧ Served (canS fun c => { c with st := .busOff }) reqQ ∧
    Permits (canS fun c => { c with st := .busOff }) reqQ (mkKey 0xC 0x022 3) 2 0 none ∧ ((canS fun c => { c with st := .integrating }).can 3).st = .integrating ∧
    2 ∉ (canS id).pwm.clkLost ∧ 2 ∈ ({ sesS.pwm with clkLost := [2] } : Pwm).clkLost ∧ (sesS.can 3).wire = none ∧ (⟨2048, false, true, false, false, []⟩ : CanFrame).ok = false ∧
    ((canW 128 none id).can 3).monitor = false ∧ ((canW 128 none id).can 3).stopping = false ∧ ((canW 128 none id).can 3).wire = some 63 ∧
    (((canW 128 none id).can 3).buf 63).shadow = none ∧ ((canW 255 none id).can 3).tec ≤ 255 ∧ ((canW 255 none id).can 3).tec + (0 : BitVec 4).toNat ≤ 255 ∧
    255 < ((canW 255 none id).can 3).tec + (8 : BitVec 4).toNat ∧ ((canW 255 none id).put 0xC 0x025 3 255).txLimit 3 63 = none ∧ ((canW 0 none id).put 0xC 0x025 3 3).txLimit 3 63 = some 3 ∧
    3 ≤ (((canW 0 none id).can 3).buf 63).tries ∧ ((canS fun c => { c with st := .recovering }).can 3).st = .recovering ∧
    ((sesS.setSess 0 { sesS.sess 0 with resp := [⟨0, 0, 0, 0, 0, []⟩] }).sess 0).resp ≠ [] ∧ sesS.flt.lastAt = [] ∧
    (dupF locS.rspId).ok = true ∧ (dupF locS.rspId).ide = false ∧ (dupF locS.rspId).ident.toNat = locS.rspId ∧ (dupF locS.rspId).ident.toNat ≠ locS.reqId ∧
    (dupF locS.ntfId).ident.toNat = locS.ntfId ∧ (dupF locS.ntfId).ident.toNat ≠ locS.reqId ∧ (locS.can 0).st = .errorActive ∧ (locS.can 0).rf0 = [] ∧ ((canS fun c => { c with st := .integrating }).can 3).rf0 = [] := by
  refine ⟨?_, permits_of ?_, ?_, ?_, ?_, ?_, ?_, ?_, ?_, ?_, permits_of ?_, ?_, ?_, ?_, ?_, ?_, ?_, permits_of ?_, ?_, permits_of ?_, ?_, ?_,
    permits_of ?_, ?_, ?_, ?_, ?_, ?_, ?_, ?_, ?_, ?_, ?_, ?_, ?_, ?_, ?_, ?_, ?_, ?_, ?_, ?_, ?_, ?_, ?_, ?_, ?_, ?_, ?_, ?_⟩
  on_goal 22 => apply served_of
  on_goal 17 => apply served_of
  on_goal 12 => apply served_of
  on_goal 5 => apply served_of
  on_goal 1 => apply served_of
  all_goals decide +kernel

/-- R382, R386: START waits for 11 recessive bits; 127 + 1 is ERROR_PASSIVE; 255 + 8 is BUS_OFF. -/
theorem test_can : ((ran (.canStart reqQ 3) sesS).can 3).st = .integrating ∧ ((ran (.canIntegrated 3) (canS fun c => { c with st := .integrating })).can 3).st = .errorActive ∧
    ((ran (.canError 3 1 true false 1) (canW 127 none id)).can 3).st = .errorPassive ∧
    ((ran (.canError 3 1 true false 8) ((canW 255 none id).put 0xC 0x024 3 1)).can 3).st = .busOff := by decide +kernel

/-- Receive map 31 and transmit map 31 on controller 3 as given: an item of 3 bytes at byte 5, sign extended. -/
def mapS (rx tx : Nat) : State :=
  let s := canS fun c => { c with st := .errorActive }
  let s := ((((s.put 0xE 0x000 31 rx).put 0xE 0x001 31 3).put 0xE 0x002 31 0x123).put 0xE 0x003 31 1).put 0xE (0x100 + 31) 0 (5 + 3 * 64 + 256)
  let s := if rx = 1 then s.put 0xE 0x004 31 0x17FFFF else s
  (((s.put 0xE 0x200 31 tx).put 0xE 0x201 31 3).put 0xE 0x202 31 0x124).put 0xE 0x205 31 0

/-- The frame it takes, with eight bytes or seven. -/
def frm (n : Nat) : CanFrame := ⟨0x123, false, true, false, false, (List.range n).map (BitVec.ofNat 8)⟩

/-- A map whose frame fits and one on a MONITOR; room and none; the frame's last byte reached and one byte short; MB63 on the wire and not. -/
theorem meets_ProcessMapsMoveData : Served (mapS 0 0) reqQ ∧ (mapS 0 0).en 0xE 0x000 31 = 0 ∧ Permits (mapS 0 0) reqQ (mkKey 0xE 0x000 31) 1 0 none ∧
    (mapS 0 0).mapBad 31 ((mapS 0 0).en 0xE 0x001 31) ((mapS 0 0).en 0xE 0x002 31) ((mapS 0 0).rxReach 31) 64 false = false ∧
    ((mapS 0 0).put 0xC 0x021 3 1).mapBad 31 3 0x123 8 64 false = true ∧ (mapS 0 0).en 0xE 0x004 31 = 0 ∧ (mapS 0 0).tileRun 96 ((mapS 0 0).en 0xE 0x003 31) = some 0x100000 ∧
    CanJournal (mapS 0 0) (mkKey 0xE 0x000 31) 1 ∧ (mapS 1 0).en 0xE 0x000 31 = 1 ∧ Served (mapS 1 0) reqQ ∧ Permits (mapS 1 0) reqQ (mkKey 0xE 0x000 31) 0 0 none ∧
    (mapS 1 0).rxBinders 31 = none ∧ CanJournal (mapS 1 0) (mkKey 0xE 0x000 31) 0 ∧ (mapS 0 0).en 0xE 0x200 31 = 0 ∧
    Permits (mapS 0 0) reqQ (mkKey 0xE 0x200 31) 1 0 none ∧
    (mapS 0 0).mapBad 31 3 0x124 (((mapS 0 0).txItems 31).foldl (fun a x => a + x.2) 0) (if (mapS 0 0).en 0xE 0x203 31 = 0 then 8 else 64) true = false ∧
    CanJournal (mapS 0 0) (mkKey 0xE 0x200 31) 1 ∧ (mapS 0 1).en 0xE 0x200 31 ≠ 0 ∧ (mapS 0 1).en 0xE 0x201 31 = 3 ∧ ((mapS 0 1).can 3).st ≠ .off ∧ ((mapS 0 1).can 3).monitor = false ∧
    (mapS 0 1).dev ≠ devBoot ∧ (mapS 0 1).dev ≠ devTadpole ∧ (mapS 0 1).dev ≠ devStandby ∧ ((mapS 0 1).can 3).wire ≠ some 63 ∧ ((canW 0 none id).can 3).wire = some 63 ∧
    ((mapS 1 0).can 3).st = .errorActive ∧ 2 ∉ (mapS 1 0).pwm.clkLost ∧ (frm 8).ok = true ∧ (mapS 1 0).rxMaps 3 (frm 8) = [31] ∧ (mapS 1 0).rxMaps 3 (frm 7) = [31] ∧
    (frm 7).ok = true ∧ ((mapS 1 0).can 3).rf0 = [] ∧ ((mapS 1 0).can 3).rf1 = [] ∧ 3 ≠ (mapS 1 0).dictCan ∧ (mapS 1 0).rxReach 31 = 8 ∧ (frm 8).data.length = 8 ∧
    (frm 7).data.length < (mapS 1 0).rxReach 31 ∧ (mapS 1 0).en 0xE 0x004 31 = 0x17FFFF ∧ 0x17FFFF + ((mapS 1 0).rxItems 31).length ≤ 0x180000 ∧
    ((mapS 1 0).rxItems 31)[0]? = some (5, 3, true, false) := by
  refine ⟨?_, ?_, permits_of ?_, ?_, ?_, ?_, ?_, ⟨?_, ?_, ?_⟩, ?_, ?_, permits_of ?_, ?_, ⟨?_, ?_, ?_⟩, ?_, permits_of ?_, ?_, ⟨?_, ?_, ?_⟩, ?_, ?_, ?_, ?_, ?_, ?_, ?_, ?_, ?_,
    ?_, ?_, ?_, ?_, ?_, ?_, ?_, ?_, ?_, ?_, ?_, ?_, ?_, ?_, ?_⟩
  on_goal 12 => apply served_of
  on_goal 1 => apply served_of
  all_goals decide +kernel

/-- R420: the bytes 5, 6 and 7 are the word 0x050607, the most significant first. -/
theorem test_maps : (ran (.canFrameReceived 3 (frm 8)) (mapS 1 0)).memWord 0 0x17FFFF = rxWord (frm 8).data (5, 3, true, false) ∧
    (ran (.canFrameReceived 3 (frm 7)) (mapS 1 0)).en 0xE 0x007 31 = 1 ∧ ((ran (.txmPeriod 31) (mapS 0 1)).can 3).buf 63 ≠ TxBuf.empty := by decide +kernel

/-! ### The Relben protocol -/

/-- A key of no chapter, at both ends of the key space. -/
theorem meets_UnlistedKeysAreRefused : Served sesS reqQ ∧ 0x0202 ≤ sesS.ver reqQ.ses.val ∧ entRow (0xFFFFFF : BitVec 24).toNat = none ∧
    entRow (0x000006 : BitVec 24).toNat = none := by
  refine ⟨?_, ?_, ?_, ?_⟩
  on_goal 1 => apply served_of
  all_goals decide +kernel

/-- A transport that is served and one that is not; a version in common and none; a key read without and with an effect; a value that is written
without and with the journal, that is the same, and that is refused; keys with a next one and without; 1, 32 and 33 elements. -/
theorem meets_DictionaryRequestsAreAnswered : State.reset.served 0 = false ∧ sesS.served 0 = true ∧ sesS.boot.standby = 0 ∧ (sesS.sess 0).segs = [] ∧
    versions.find? (fun w => decide ((0x0204 : BitVec 16).toNat ≤ w) && decide (w ≤ (0xFFFF : BitVec 16).toNat)) = some 0x0204 ∧
    versions.find? (fun w => decide ((0x0205 : BitVec 16).toNat ≤ w) && decide (w ≤ (0xFFFF : BitVec 16).toNat)) = none ∧ Served sesS reqQ ∧
    0x0202 ≤ sesS.ver 0 ∧ sesS.readCheck 0 0xFFFFFF = .error ⟨errNoSuchKey, 0⟩ ∧ (sesS.readCheck 0 (mkKey 4 0x010 47)).toOption.isSome = true ∧
    ((sesS.put 2 0x090 63 4).readCheck 0 (mkKey 2 0x090 63)).toOption.isSome = true ∧ Served (sesS.put 2 0x090 63 4) reqQ ∧
    4 ≤ (sesS.put 2 0x090 63 4).en 2 0x090 (keyElem (mkKey 2 0x090 63)) ∧
    ((sesS.setSc 31 { ScRec.empty with used := true }).readCheck 0 (mkKey 0xA 0x100 31)).toOption.isSome = true ∧
    ((sesS.setSc 31 { ScRec.empty with used := true }).scAt 31).used = true ∧ Served (sesS.setSc 31 { ScRec.empty with used := true }) reqQ ∧
    (entRow (mkKey 4 0x010 47)).map (fun r => (r.acc == .rwi || r.acc == .rw) && r.ty != .blob && r.kept && r.ty.bytes == 3) = some true ∧
    Permits sesS reqQ (mkKey 4 0x010 47) 5 0 none ∧ sesS.writeWhy (mkKey 4 0x010 47) 5 = none ∧ CanJournal sesS (mkKey 4 0x010 47) 5 ∧
    sesS.getKey (mkKey 4 0x010 47) = 0xFFFFFF ∧ Permits sesS reqQ (mkKey 4 0x010 47) 0xFFFFFF 0 none ∧ sesS.writeWhy (mkKey 4 0x010 47) 0xFFFFFF = none ∧
    (entRow (mkKey 0xA 0x302 0)).map (fun r => r.acc == .rw && r.ty != .blob && !r.kept && r.ty.bytes == 2) = some true ∧ Served (facS true) reqQ ∧
    Permits (facS true) reqQ (mkKey 0xA 0x302 0) 10000 0 none ∧ (facS true).writeWhy (mkKey 0xA 0x302 0) 10000 = none ∧
    Permits sesS reqQ (mkKey 0xA 0x302 0) 10000 0 none ∧ sesS.writeWhy (mkKey 0xA 0x302 0) 10000 = some ⟨errRefused, 0⟩ ∧
    (entRow (mkKey 0xA 0x302 0)).map (fun r => r.acc != .ro && r.ty.bytes != 1) = some true ∧ Permits sesS reqQ (mkKey 0xA 0x302 0) (sesS.getKey (mkKey 0xA 0x302 0)) 0 none ∧
    (nextOf (mkKey 4 0x010 46)).isSome = true ∧ nextOf 0xFFFFFF = none ∧ ((sesS.put 0 0x013 0 1).level 0 ≤ 1 ∧ (entRow (mkKey 1 0x030 0)).map (·.level) = some 1) ∧
    Served (sesS.put 0 0x013 0 1) reqQ ∧ 1 < sesS.level 0 ∧ (33 : BitVec 8).toNat > 32 ∧ keyElem (mkKey 4 0x010 16) + 32 ≤ 256 ∧
    (List.range 32).all (fun i => match sesS.readCheck 0 (mkKey 4 0x010 16 + i) with | .ok y => y.ty != .blob | .error _ => false) ∧
    (List.range 32).all (fun i => !freeEntry (mkKey 4 0x010 16 + i) && (keyArea (mkKey 4 0x010 16 + i) == 4)) ∧ ReadsOnly (mkKey 4 0x010 47) ∧
    freeEntry (mkKey 0xC 0x049 3) = true ∧ (sesS.readCheck 0 (mkKey 0xC 0x049 3)).toOption.isSome = true := by
  refine ⟨?_, ?_, ?_, ?_, ?_, ?_, ?_, ?_, ?_, ?_, ?_, ?_, ?_, ?_, ?_, ?_, ?_, permits_of ?_, ?_, ⟨?_, ?_, ?_⟩, ?_, permits_of ?_, ?_, ?_, ?_, permits_of ?_, ?_,
    permits_of ?_, ?_, ?_, permits_of ?_, ?_, ?_, ?_, ?_, ?_, ?_, ?_, ?_, ?_, ⟨?_, ?_⟩, ?_, ?_⟩
  on_goal 37 => apply served_of
  on_goal 27 => apply served_of
  on_goal 16 => apply served_of
  on_goal 12 => apply served_of
  on_goal 7 => apply served_of
  all_goals decide +kernel

/-- R411: 2.4 is the highest common version. -/
theorem test_hello : (ran (.hello 0 0 0x0100 0xFFFF) sesS).ver 0 = 0x0204 ∧ (ran (.hello 0 0 0x0205 0xFFFF) sesS).ver 0 = 0 ∧
    ((ran (.read reqQ 0xFFFFFF) sesS).sess 0).resp.map (·.err) = [errNoSuchKey] := by decide +kernel

theorem natBe_lt (v : Nat) : ∀ n, ∀ x ∈ natBe v n, x < 256
  | 0, x, h => by simp [natBe] at h
  | n + 1, x, h => by
    simp only [natBe, List.mem_cons] at h
    rcases h with rfl | h
    · exact Nat.mod_lt _ (by decide)
    · exact natBe_lt v n x h

theorem macOf_lt (s : State) (n v l : Nat) : ∀ x ∈ s.macOf n v l, x < 256 := by
  intro x h
  simp only [State.macOf, hmac, sha256, List.mem_flatMap] at h
  obtain ⟨_, _, h⟩ := h
  exact natBe_lt _ _ x h

/-- For every nonce and level there is a message that carries its MAC. -/
theorem mac_exists (s : State) (n v l : Nat) : ∃ mac : List Byte, mac.map (·.toNat) = s.macOf n v l := by
  refine ⟨(s.macOf n v l).map (BitVec.ofNat 8), ?_⟩
  rw [List.map_map]
  refine (List.map_congr_left fun x hx => ?_).trans (List.map_id _)
  simpa using Nat.mod_eq_of_lt (macOf_lt s n v l x hx)

/-- The session with a transfer under the last tag, and what else it holds. -/
def segS (write : Bool) (f : Sess → Sess) : State := sesS.setSess 0 (f { sesS.sess 0 with segs :=
  [{ tag := 63, op := 3, key := mkKey 4 0x010 47, write := write, total := 3, counter := 7, acked := 0, sent := 0, data := [1] }] })

/-- Nonces of both levels, at the last moment of their 10 s; a lockout; levels of the session; a transfer of a write at its eighth part, with the
counter right and wrong, and of a read; no transfer. -/
theorem meets_LevelsAndTransfersFollowTheirRules : Served sesS reqQ ∧ 0x0200 ≤ sesS.ver 0 ∧ ((0 : BitVec 8) ≠ 1 ∧ (0 : BitVec 8) ≠ 2) ∧
    ((segS true fun x => { x with lockout := some 400 }).sess 0).lockout = some 400 ∧ Served (segS true fun x => { x with lockout := some 400 }) reqQ ∧
    (sesS.sess 0).lockout = none ∧ sesS.regionOk 2 = true ∧ (sesS.put 0xB 0x070 2 1).regionOk 2 = false ∧ Served (sesS.put 0xB 0x070 2 1) reqQ ∧
    ((segS true fun x => { x with nonce := some (5, 1, 0) }).sess 0).nonce = some (5, 1, 0) ∧ Served (segS true fun x => { x with nonce := some (5, 1, 0) }) reqQ ∧
    (∃ mac : List Byte, mac.map (·.toNat) = (segS true fun x => { x with nonce := some (5, 1, 0) }).macOf 0 5 1) ∧
    (segS true fun x => { x with nonce := some (5, 1, 0) }).since 0 ≤ 4000000000 ∧ (sesS.sess 0).nonce = none ∧ 2 ≤ sesS.level 0 ∧ (sesS.put 0 0x013 0 1).level 0 < 2 ∧
    sesS.segOf reqQ true = none ∧ sesS.segOf reqQ false = none ∧ 0x0102 ≤ sesS.ver 0 ∧ (∃ g, (segS true id).segOf reqQ true = some g ∧
      (entRow g.key).any (fun r => r.ty == .blob) = false ∧ (8 : BitVec 8) = g.counter + 1 ∧ (9 : BitVec 8) ≠ g.counter + 1 ∧ (g.data ++ [2]).length < g.total ∧ (8 : BitVec 8) - g.acked = 8) ∧
    (∃ g, (segS true fun x => { x with segs := x.segs.map fun y => { y with acked := 1 } }).segOf reqQ true = some g ∧ g.counter + 1 - g.acked ≠ 8) ∧
    (sesS.sess 0).segs = [] ∧ Served (segS false id) reqQ ∧ (∃ g, (segS false id).segOf reqQ false = some g ∧ g.sent < g.total) ∧ (segS false id).segOf reqQ true = none ∧
    segCap ((segS false id).ver 0 == 0x0102) ((segS false id).fmtOf 0 ⟨63, 7, 0, 0, 0, []⟩) = 61 := by
  refine ⟨?_, ?_, ?_, ?_, ?_, ?_, ?_, ?_, ?_, ?_, ?_, mac_exists _ _ _ _, ?_, ?_, ?_, ?_, ?_, ?_, ?_, ⟨_, rfl, ?_⟩, ⟨_, rfl, ?_⟩, ?_, ?_, ⟨_, rfl, ?_⟩, ?_, ?_⟩
  on_goal 22 => apply served_of
  on_goal 11 => apply served_of
  on_goal 9 => apply served_of
  on_goal 5 => apply served_of
  on_goal 1 => apply served_of
  all_goals decide +kernel

/-- R407, R408: the eighth part is acknowledged; a wrong counter ends the transfer. -/
theorem test_transfer : ((ran (.segData reqQ 8 [2]) (segS true id)).sess 0).resp = [⟨63, 6, 0, 0, 0, [8]⟩] ∧
    (ran (.segData reqQ 9 [2]) (segS true id)).segOf reqQ true = none := by decide +kernel

/-! ### The LOCAL port -/

/-- A transaction that begins with given bytes, with its CRC. -/
def txn (head : List Byte) : List Byte :=
  let b := head ++ List.replicate (66 - head.length) 0
  b ++ beBytes (crc16 b).toNat 2

/-- One whose CRC is wrong. -/
def txnBad : List Byte := List.replicate 68 0xA0

/-- The LOCAL session open, with `bad` discarded transactions so far and a frame that is or is not sent. -/
def prtS (bad kind : Nat) (sent : Bool) : State := { locS with lport := ⟨bad, kind, if kind = 0 then [] else [1, 0, 0], sent, []⟩ }

/-- Byte 0 is 0xFF; the CRC is wrong for the eighth time, and for the seventh. -/
theorem meets_LocalPortResets : (prtS 7 1 true).served 1 = true ∧ ((prtS 7 1 true).sess 1).segs = [] ∧ (txn [0xFF]).length = 68 ∧
    ofBytes ((txn [0xFF]).drop 66) = (crc16 ((txn [0xFF]).take 66)).toNat ∧ (txn [0xFF])[0]? = some 0xFF ∧ txnBad.length = 68 ∧
    ofBytes (txnBad.drop 66) ≠ (crc16 (txnBad.take 66)).toNat ∧ 7 ≤ (prtS 7 1 true).lport.bad ∧ (prtS 6 1 true).lport.bad < 7 ∧
    (prtS 6 1 true).served 1 = true ∧ ((prtS 7 1 true).put 0 0x012 0 0).ver 0 < 0x0200 ∧ 0x0200 ≤ (prtS 7 1 true).ver 0 ∧
    ((prtS 7 1 true).sess 0).notif.length < 64 := by decide +kernel

/-- R405: the eighth discarded transaction resets the port, the seventh does not. -/
theorem test_port_reset : (ran (.localTransaction txnBad) (prtS 7 1 true)).ver 1 = 0 ∧ (ran (.localTransaction txnBad) (prtS 6 1 true)).ver 1 = 0x0204 ∧
    (ran (.localTransaction txnBad) (prtS 6 1 true)).lport.bad = 7 := by decide +kernel

/-- A transaction that takes the frame that was sent, one that refuses it, one that carries none; a HELLO. -/
theorem meets_LocalTransactionsCarryFrames : State.reset.served 1 = false ∧ (prtS 0 2 true).served 1 = true ∧
    ((txn [0xA0]).length = 68 ∧ ofBytes ((txn [0xA0]).drop 66) = (crc16 ((txn [0xA0]).take 66)).toNat ∧ (txn [0xA0])[1]? = some 0 ∧ (txn [0xA0])[0]? = some 0xA0) ∧
    ((txn [0xA2, 64]).length = 68 ∧ ofBytes ((txn [0xA2, 64]).drop 66) = (crc16 ((txn [0xA2, 64]).take 66)).toNat ∧ (txn [0xA2, 64])[1]? = some 64 ∧ (txn [0xA2, 64])[0]? = some 0xA2) ∧
    ((prtS 0 2 true).sess 1).resp = [] ∧ (prtS 0 2 true).lport.queue = [] ∧ (prtS 0 2 true).lport.kind ≠ 0 ∧ (prtS 0 2 true).lport.sent = true ∧ (prtS 6 2 true).lport.bad < 7 ∧ txnBad.length = 68 ∧ ofBytes (txnBad.drop 66) ≠ (crc16 (txnBad.take 66)).toNat ∧
    (prtS 0 1 false).lport.sent = false ∧ (prtS 0 1 false).lport.kind ≠ 0 ∧ (prtS 0 0 false).lport.kind = 0 ∧ ((prtS 0 0 false).sess 1).segs = [] ∧
    (prtS 0 0 false).boot.standby = 0 ∧ ((txn [0xA1, 8, 1, 63, 1, 0, 2, 4, 0, 0]).length = 68 ∧
      ofBytes ((txn [0xA1, 8, 1, 63, 1, 0, 2, 4, 0, 0]).drop 66) = (crc16 ((txn [0xA1, 8, 1, 63, 1, 0, 2, 4, 0, 0]).take 66)).toNat) ∧
    (txn [0xA1, 8, 1, 63, 1, 0, 2, 4, 0, 0]).take 10 = [0xA1, 8, 1, 63, 1, 0, 2, 4, 0, 0] ∧
    versions.find? (fun w => decide (256 * (1 : Byte).toNat + (0 : Byte).toNat ≤ w) && decide (w ≤ 256 * (2 : Byte).toNat + (4 : Byte).toNat)) = some 0x0204 := by decide +kernel

/-- R404: the frame that was sent leaves with a transaction that does not refuse it. -/
theorem test_local_frames : (ran (.localTransaction (txn [0xA0])) (prtS 0 2 true)).lport.kind = 0 ∧
    (ran (.localTransaction (txn [0xA2, 64])) (prtS 0 2 true)).lport.kind = 2 := by decide +kernel

/-! ### Words of the engines (R38 to R42), memory -/

/-- R38 to R41: words written out from the fields of their formats, COND, OP and the operands in turn: R3, R2 under F2, RI, SH, FC (and IMM6), FLOG,
AC, ACSH, MEM, RX, SR, BR, LP, and the rest. -/
theorem test_words_alu : decodeWord 15 0b0000_001000_0001_0010_0011_00 0 = .add 15 0 1 2 3 0 ∧ decodeWord 0 0b1010_000001_0101_0110_0000_00 0 = .mov 0 0b1010 5 6 0 ∧
    decodeWord 0 0b0000_000010_1001_1111111111 0 = .ldi 0 0 9 0x3FF ∧ decodeWord 0 0b0000_010111_0100_0101_11111_1 0 = .shri 0 0 4 5 31 true ∧
    decodeWord 0 0b0000_100000_01_10_0010_0011_00 0 = .cmp 0 0 1 2 3 2 ∧ decodeWord 0 0b0000_100010_11_11_0100_111110 0 = .cmpi 0 0 3 4 0x3E 3 ∧
    decodeWord 0 0b0000_100011_01_10_11_00_000000 0 = .flog 0 0 1 2 3 0 ∧ decodeWord 0 0b0000_101001_000_1_0111_1000_01 0 = .mac 0 0 1 7 8 1 ∧
    decodeWord 0 0b0000_101101_000_1_0000_111011 0 = .acsh 0 0 1 0x3B :=
  ⟨rfl, rfl, rfl, rfl, rfl, rfl, rfl, rfl, rfl⟩

theorem test_words_memory_control : decodeWord 0 0b0000_110000_0011_10_11_111111 0 = .ld 0 0 3 2 3 0x3F ∧ decodeWord 0 0b0000_110001_1111_01_00_000000 0 = .st 0 0 1 15 0 0 ∧
    decodeWord 0 0b0000_110010_0010_0000000000 0x123456 = .lda 0 0 2 0x123456 ∧ decodeWord 0 0b0000_000100_0001_0000_000000 0 = .mfs 0 0 1 0 ∧
    decodeWord 0 0b0000_111000_0_1000101010101 0 = .bra 0 0 0x1155 ∧ decodeWord 0 0b0000_111101_0110_0000010001 0 = .loopr 0 0 6 17 ∧
    decodeWord 0 0b1100_111110_0100_0000000000 0x400000 = .waitev 0 0b1100 4 0x400000 ∧ decodeWord 0 0b0000_111111_00000000000000 0 = .yield 0 0 ∧
    decodeWord 0 0b0000_000110_00000000_111111 0 = .sev 0 0 63 :=
  ⟨rfl, rfl, rfl, rfl, rfl, rfl, rfl, rfl, rfl⟩

/-- R40, R41: an OP not listed; a reserved field of NOP, R2, FC, SR and BR that is not 0. -/
theorem test_words_illegal : decodeWord 0 0b0000_011111_00000000000000 0 = .illegalOp 0 ∧ decodeWord 0 0b0000_000000_00000000000001 0 = .illegalOp 0 ∧
    decodeWord 0 0b0000_000001_0101_0110_0001_00 0 = .illegalOp 0 ∧ decodeWord 0 0b0000_100000_01_10_0010_0011_01 0 = .illegalOp 0 ∧
    decodeWord 0 0b0000_000100_0001_0001_000000 0 = .illegalOp 0 ∧ decodeWord 0 0b0000_111000_1_1000101010101 0 = .illegalOp 0 :=
  ⟨rfl, rfl, rfl, rfl, rfl, rfl⟩

/-- An instruction that spells words; a word of another opcode than the four. -/
theorem meets_EngineWordsDecode : engineWords (.lda 15 0 2 0xFFFFFF) = some (0b0000_110010_0010_0000000000, 0xFFFFFF) ∧ engineOf (.lda 15 0 2 0xFFFFFF) = some 15 ∧
    opOf 0b0000_110010_0010_0000000000 ∉ [0x2B, 0x2C, 0x3A, 0x3C] := ⟨rfl, rfl, by decide⟩

/-- Canonical memories that hold something, and a step from them. -/
theorem meets_EveryStepKeepsMemoryCanonical : (sesS.setMemWord 0 0x100000 7).MemOk ∧ ∃ t, step (sesS.setMemWord 0 0x100000 7) = .next t :=
  ⟨by decide +kernel, _, rfl⟩

end Sys2Proof.Tests
end

section
/-! SUPPORT. The rules of the dictionary's requests: when a request runs, what a response changes, and how each request answers a key
that no chapter lists (R8, R401, R406). -/

namespace Sys2Proof.Machine

variable {s : State} {q : Req}

/-! ### The commands of the requests -/

theorem exec_read (q : Req) (key : BitVec 24) (s : State) : exec (.read q key) s = .next (doRead q key s) := rfl

theorem exec_write (q : Req) (key : BitVec 24) (len : BitVec 8) (v : BitVec 48) (s : State) :
    exec (.write q key len v) s = .next (doWrite q key len v s) := rfl

theorem exec_describe (q : Req) (key : BitVec 24) (s : State) : exec (.describe q key) s = .next (doDescribe q key s) := rfl

theorem exec_readRange (q : Req) (key : BitVec 24) (n : BitVec 8) (s : State) :
    exec (.readRange q key n) s = .next (doReadRange q key n s) := rfl

/-! ### Serving and responding -/

/-- A request that the dictionary takes up, in a session of version `since` or above, runs. -/
theorem State.serve_of_served (h : Served s q) {since : Nat} (hv : since ≤ s.ver q.ses.val) (op key : Nat) (f : State → State) :
    s.serve q op key since f = f s := by
  obtain ⟨⟨hboot, hstandby⟩, henabled, htag, hstays, hfresh, hopen⟩ := h
  have hserves : ¬ (s.dev = devBoot ∨ s.dev = devStandby ∨ (q.ses.val = 1 ∧ s.dc 0 0x021 0 = 0)) := by
    rintro (h | h | ⟨h, h0⟩)
    · exact hboot h
    · exact hstandby h
    · exact henabled h h0
  have hver : ¬ s.ver q.ses.val < since := Nat.not_lt.2 hv
  simp only [State.serve, if_neg hserves, htag, Bool.false_eq_true, if_false, hstays, ne_eq, not_true_eq_false]
  split
  · rename_i r hr hrpt _
    have htag_eq : r.tag = q.tag := by simpa using List.find?_some hr
    exact absurd htag_eq (hfresh hrpt r (List.mem_of_find?_eq_some hr))
  · rw [if_neg hopen, if_neg hver]

/-- A response changes the requester's session and nothing else. -/
theorem replies_respond (s : State) (q : Req) (op err detail k : Nat) (body : List Byte) :
    Replies s (s.respond q op err detail k body) q op err detail k body := by
  refine ⟨rfl, fun j => ?_⟩
  rw [State.respond, State.sess_setSess]
  by_cases h : j = q.ses.val
  · subst h
    rfl
  · rw [if_neg h, if_neg h]

/-- A refusal is the response of its error, with no bytes. -/
theorem replies_refuse (s : State) (q : Req) (op k : Nat) (e : Err) : Replies s (s.refuse q op k e) q op e.code e.detail k [] :=
  replies_respond s q op e.code e.detail k []

/-! ### A key that no chapter lists -/

theorem State.readCheck_unlisted {k : Nat} (hk : entRow k = none) (ses : Nat) : s.readCheck ses k = .error ⟨errNoSuchKey, 0⟩ := by
  rw [State.readCheck, hk]

theorem State.writeCheck_unlisted {k : Nat} (hk : entRow k = none) (ses v lev : Nat) (armed : Option Nat) :
    s.writeCheck ses k v lev armed = .error ⟨errNoSuchKey, 0⟩ := by
  rw [State.writeCheck, hk]

theorem doRead_unlisted (h : Served s q) (hv : 0x0102 ≤ s.ver q.ses.val) {key : BitVec 24} (hk : entRow key.toNat = none) :
    doRead q key s = s.refuse q 2 key.toNat ⟨errNoSuchKey, 0⟩ := by
  simp only [doRead, State.serve_of_served h hv, State.readCheck_unlisted hk]

theorem doDescribe_unlisted (h : Served s q) (hv : 0x0201 ≤ s.ver q.ses.val) {key : BitVec 24} (hk : entRow key.toNat = none) :
    doDescribe q key s = s.refuse q 5 key.toNat ⟨errNoSuchKey, 0⟩ := by
  simp only [doDescribe, State.serve_of_served h hv, hk]

theorem doReadRange_unlisted (h : Served s q) (hv : 0x0202 ≤ s.ver q.ses.val) {key : BitVec 24} (hk : entRow key.toNat = none)
    (n : BitVec 8) : doReadRange q key n s = s.refuse q 9 key.toNat ⟨errNoSuchKey, 0⟩ := by
  simp only [doReadRange, State.serve_of_served h hv, hk, Option.isNone_none, if_true]

/-- The checks of R401 come before what an entry's own rules refuse or do. -/
theorem State.dictWriteR_unlisted (h : Served s q) {k : Nat} (hk : entRow k = none) (v lev : Nat) (armed : State → Option Nat)
    (why : State → Option Err) (effect : State → State) :
    s.dictWriteR q k v lev armed why effect = s.refuse q opWrite k ⟨errNoSuchKey, 0⟩ := by
  simp only [State.dictWriteR, State.serve_of_served h (Nat.zero_le _), State.writeCheck_unlisted hk]

/-- The key is refused also where its ENTRY is one whose words a link lane would carry (R193). -/
theorem State.writePlain_unlisted (h : Served s q) {k : Nat} (hk : entRow k = none) (v : Nat) :
    s.writePlain q k v = s.refuse q opWrite k ⟨errNoSuchKey, 0⟩ := by
  rw [State.writePlain]
  split
  · split
    · simp only [State.serve_of_served h (Nat.zero_le _), State.writeCheck_unlisted hk]
    · exact State.dictWriteR_unlisted h hk ..
  · exact State.dictWriteR_unlisted h hk ..

/-- The length and the value of a write do not matter for a key that is not listed. -/
theorem doWrite_unlisted (h : Served s q) {key : BitVec 24} (hk : entRow key.toNat = none) (len : BitVec 8) (v : BitVec 48) :
    doWrite q key len v s = s.refuse q opWrite key.toNat ⟨errNoSuchKey, 0⟩ := by
  simp only [doWrite, State.writeKey, hk]
  exact State.writePlain_unlisted h hk _

/-- A command whose next state is the refusal of its request answers the no-such-key error, and nothing else changes. -/
theorem answers_noSuchKey {c : Instr} {t : State} {op k : Nat} (hc : exec c s = .next t) (ht : t = s.refuse q op k ⟨errNoSuchKey, 0⟩) :
    Answers c s (fun u => Replies s u q op errNoSuchKey 0 k []) :=
  ⟨t, hc, ht ▸ replies_refuse s q op k _⟩

end Sys2Proof.Machine
end

section
/-! SUPPORT. The statement on unlisted keys, settled. -/

namespace Sys2Proof.Machine

/-- Settles O53: each of the four requests is taken up, and first looks for the row of its key (R401, step 1), which there is none of. -/
theorem unlistedKeysAreRefused : Obligations.UnlistedKeysAreRefused := by
  intro s q key len v n hs hv hk c hc
  simp only [List.mem_cons, List.not_mem_nil, or_false] at hc
  rcases hc with rfl | rfl | rfl | rfl
  · exact answers_noSuchKey (exec_read ..) (doRead_unlisted hs (by omega) hk)
  · exact answers_noSuchKey (exec_write ..) (doWrite_unlisted hs hk len v)
  · exact answers_noSuchKey (exec_describe ..) (doDescribe_unlisted hs (by omega) hk)
  · exact answers_noSuchKey (exec_readRange ..) (doReadRange_unlisted hs hv hk n)

end Sys2Proof.Machine
end

section
/-! SUPPORT. The commands of the fabric and of events on engines whose tasks do not migrate: what each answers, as equations over the
operations of Machine/Tasks.lean (R25, R28, R49, R52, R53, R55). -/

namespace Sys2Proof.Machine

variable {s : State}

/-! ### The commands -/

theorem exec_fabricLoadReturn (t : Fin 96) (k : Fin 4) (s : State) : exec (.fabricLoadReturn t k) s = .next (doFabricLoadReturn t k s) := rfl

theorem exec_fabricStoreAck (t : Fin 96) (k : Fin 4) (s : State) : exec (.fabricStoreAck t k) s = .next (doFabricStoreAck t k s) := rfl

theorem exec_eventArrival (ev : Fin 512) (s : State) : exec (.eventArrival ev) s = .next (doEventArrival ev s) := rfl

theorem exec_waitevWake (t : Fin 96) (s : State) : exec (.waitevWake t) s = .next (doWaitevWake t s) := rfl

/-! ### Where a task runs -/

/-- A placed task that does not migrate runs in one context. -/
theorem State.places_of_placed {t : Nat} (hp : (s.task t).placed = true) (hm : (s.task t).mig = none) :
    s.places t = [((s.task t).engine, (s.task t).slot)] := by
  simp only [State.places, hp, hm, if_true]

/-- A task that does not hold its engine is charged no wait (R55). -/
theorem State.waitCharge_of_not_running {t e : Nat} (h : ∀ p, s.running e = some p → p.1 ≠ t) (k : Nat) : s.waitCharge t e k = s := by
  have hn : (s.running e).any (fun p => p.1 == t) = false := by
    cases hr : s.running e with
    | none => rfl
    | some p => exact beq_false_of_ne (h p hr)
  simp only [State.waitCharge, hn, Bool.false_and, Bool.false_eq_true, if_false]

/-! ### The fabric's answers -/

/-- The k-th outstanding load returns (R25, R55). -/
theorem doFabricLoadReturn_eq {t : Fin 96} {k : Fin 4} {r : Fin 16} {v : Word} (hp : (s.task t).placed = true) (hm : (s.task t).mig = none)
    (hw : ∀ p, s.running (s.task t).engine = some p → p.1 ≠ t.val) (hl : (s.ctx (s.ctxKey t)).loads[k.val]? = some (r, v)) :
    doFabricLoadReturn t k s = s.setCtx (s.ctxKey t)
      (({ s.ctx (s.ctxKey t) with loads := (s.ctx (s.ctxKey t)).loads.eraseIdx k.val } : Ctx).setW r v 0) := by
  have hk : k.val < (s.ctx (6 * (s.task t).engine + (s.task t).slot)).loads.length := (List.getElem?_eq_some_iff.1 hl).1
  simp only [State.ctxKey] at hl
  simp only [doFabricLoadReturn, State.places_of_placed hp hm, List.find?_cons_of_pos, hk, decide_true, hl,
    State.waitCharge_of_not_running hw, State.ctxKey]

/-- The k-th store is acknowledged (R49, R55). -/
theorem doFabricStoreAck_eq {t : Fin 96} {k : Fin 4} (hp : (s.task t).placed = true) (hm : (s.task t).mig = none)
    (hw : ∀ p, s.running (s.task t).engine = some p → p.1 ≠ t.val) (hk : k.val < (s.ctx (s.ctxKey t)).acks.length) :
    doFabricStoreAck t k s =
      s.setCtx (s.ctxKey t) { s.ctx (s.ctxKey t) with acks := (s.ctx (s.ctxKey t)).acks.eraseIdx k.val } := by
  simp only [State.ctxKey] at hk
  simp only [doFabricStoreAck, State.places_of_placed hp hm, List.find?_cons_of_pos, hk, decide_true,
    State.waitCharge_of_not_running hw, State.ctxKey]

/-- A write of one context leaves the others. -/
theorem State.ctx_setCtx_ne {k j : Nat} (h : j ≠ k) (x : Ctx) : (s.setCtx k x).ctx j = s.ctx j := by
  rw [State.ctx_setCtx, if_neg h]

theorem State.ctx_setCtx_self (k : Nat) (x : Ctx) : (s.setCtx k x).ctx k = x := by
  rw [State.ctx_setCtx, if_pos rfl]

end Sys2Proof.Machine
end

section
/-! SUPPORT. The statement on the fabric's answers, settled. -/

namespace Sys2Proof.Machine

/-- Settles O16: the task waits in one context and is charged nothing, so that context alone changes. -/
theorem fabricAnswers : Obligations.FabricAnswers := by
  intro s t k r v x n hp hm hw
  refine ⟨fun hl => ⟨_, exec_fabricLoadReturn .., ?_⟩, fun hk => ⟨_, exec_fabricStoreAck .., ?_⟩⟩
  · rw [doFabricLoadReturn_eq hp hm hw hl]
    refine ⟨rfl, fun j hj => State.ctx_setCtx_ne hj _, ?_⟩
    rw [State.ctx_setCtx_self]
    rfl
  · rw [doFabricStoreAck_eq hp hm hw hk]
    exact ⟨rfl, fun j hj => State.ctx_setCtx_ne hj _, State.ctx_setCtx_self ..⟩

end Sys2Proof.Machine
end

section
/-! SUPPORT. How an event pulse reaches the subscriptions of the placed tasks, and how a sleeping task wakes, where no task migrates
(R28, R52, R53). -/

namespace Sys2Proof.Machine

variable {s u : State}

/-! ### Tasks that do not migrate -/

theorem State.pendMirror_of_not_migrating {t : Nat} (h : (s.task t).mig = none) (ev : Nat) : s.pendMirror t ev = s := by
  simp only [State.pendMirror, h]

theorem State.abortMig_of_not_migrating {t : Nat} (h : (s.task t).mig = none) (b : Bool) : s.abortMig t b = s := by
  simp only [State.abortMig, h]

theorem State.pendOn_of_not_migrating {t : Nat} (h : (s.task t).mig = none) (e : Nat) : s.pendOn t e = (s.task t).pend := by
  simp only [State.pendOn, h]

theorem State.setPend_of_not_migrating {t : Nat} (h : (s.task t).mig = none) (e : Nat) (v : BitVec 16) :
    s.setPend t e v = s.setTask t { s.task t with pend := v } := by
  simp only [State.setPend, h]

/-! ### Pending slots -/

/-- Slot `i` set in a mask, and no other. -/
theorem getLsbD_or_slot (v : BitVec 16) (i : Nat) {n : Nat} (hn : n < 16) :
    (v ||| (1#16 <<< i)).getLsbD n = (v.getLsbD n || decide (n = i)) := by
  rw [BitVec.getLsbD_or, BitVec.getLsbD_shiftLeft, BitVec.getLsbD_one]
  congr 1
  by_cases h : n = i
  · subst h
    simp [hn]
  · by_cases hi : n < i
    · simp [h, hi]
    · simp [h, hi, show n - i ≠ 0 by omega]

/-- The slots `is` set in a mask. -/
def withSlots (p : BitVec 16) (is : List Nat) : BitVec 16 := is.foldl (fun v i => v ||| (1#16 <<< i)) p

theorem getLsbD_withSlots (is : List Nat) {n : Nat} (hn : n < 16) :
    ∀ p : BitVec 16, (withSlots p is).getLsbD n = (p.getLsbD n || is.contains n) := by
  induction is with
  | nil => intro p; simp [withSlots]
  | cons i r ih =>
    intro p
    have hstep : withSlots p (i :: r) = withSlots (p ||| (1#16 <<< i)) r := rfl
    rw [hstep, ih, getLsbD_or_slot p i hn, List.contains_cons, Bool.or_assoc]
    rfl

/-! ### Only the pending slots of tasks change -/

/-- From `s` to `u` only the pending slots of tasks changed: those of task `j` are `p j`. -/
def PendTo (s u : State) (p : Nat → BitVec 16) : Prop :=
  u = { s with ref := { s.ref with task := u.ref.task } } ∧ ∀ j, u.task j = { s.task j with pend := p j }

theorem PendTo.refl (s : State) : PendTo s s (fun j => (s.task j).pend) := ⟨rfl, fun _ => rfl⟩

/-- What a task subscribes to does not depend on what is pending. -/
theorem PendTo.slotsOf {p : Nat → BitVec 16} (h : PendTo s u p) {t : Nat} (hm : (s.task t).mig = none) (e ev : Nat) :
    u.slotsOf t e ev = s.slotsOf t e ev := by
  obtain ⟨hframe, htask⟩ := h
  have hdecl : u.decl = s.decl := by rw [hframe]
  have hforce : u.inForce t = s.inForce t := funext fun k => by simp only [State.inForce, State.dc, hdecl]
  simp only [State.slotsOf, State.boxesOn, hforce, htask, hm]

/-- A free slot becomes pending (R28). -/
theorem PendTo.pendLive {p : Nat → BitVec 16} (h : PendTo s u p) {t i : Nat} (hi : (p t).getLsbD i = false) (e : Nat) :
    PendTo s (u.pendLive t e i) (Function.update p t (p t ||| (1#16 <<< i))) := by
  obtain ⟨hframe, htask⟩ := h
  have hpend : (u.task t).pend = p t := by rw [htask]
  have hstep : u.pendLive t e i = u.setTask t { u.task t with pend := p t ||| (1#16 <<< i) } := by
    simp only [State.pendLive, hpend, hi, Bool.false_eq_true, if_false]
  rw [hstep]
  refine ⟨?_, fun j => ?_⟩
  · conv_lhs => rw [hframe]
    rfl
  · rw [State.task_setTask, Function.update_apply]
    by_cases hj : j = t
    · subst hj
      rw [if_pos rfl, if_pos rfl, htask]
    · rw [if_neg hj, if_neg hj, htask]

/-- Several free slots of a task become pending, each named once. -/
theorem PendTo.pendLives {t : Nat} (e : Nat) : ∀ {is : List Nat} {u : State} {p : Nat → BitVec 16}, PendTo s u p →
    (∀ i ∈ is, (p t).getLsbD i = false ∧ i < 16) → is.Nodup →
    PendTo s (is.foldl (fun u i => u.pendLive t e i) u) (Function.update p t (withSlots (p t) is))
  | [], _, p, h, _, _ => by
    rw [show withSlots (p t) [] = p t from rfl, Function.update_eq_self]
    exact h
  | i :: r, u, p, h, hfree, hnd => by
    obtain ⟨hir, hr⟩ := List.nodup_cons.1 hnd
    have hrest : ∀ j ∈ r, (Function.update p t (p t ||| (1#16 <<< i)) t).getLsbD j = false ∧ j < 16 := by
      intro j hj
      obtain ⟨hpj, hj16⟩ := hfree j (List.mem_cons_of_mem _ hj)
      have hne : j ≠ i := fun e => hir (e ▸ hj)
      rw [Function.update_self, getLsbD_or_slot _ _ hj16, hpj]
      exact ⟨by simp [hne], hj16⟩
    have := PendTo.pendLives e (h.pendLive (hfree i List.mem_cons_self).1 e) hrest hr
    rwa [Function.update_self, Function.update_idem] at this

/-! ### The arrival of an event -/

/-- An event reaches one task. -/
def State.eventTo (ev : Nat) (s : State) (t : Nat) : State :=
  if (s.task t).placed then
    let e := (s.task t).engine
    (s.slotsOf t e ev).foldl (fun s i => s.pendLive t e i) (s.pendMirror t ev)
  else s

/-- Event `ev` leaves the bus. -/
def State.offBus (s : State) (ev : Nat) : State := { s with evBus := s.evBus.erase ev }

theorem doEventArrival_eq {ev : Fin 512} (h : ev.val ∈ s.evBus) :
    doEventArrival ev s = (List.range 96).foldl (State.eventTo ev.val) (s.offBus ev.val) := by
  have hc : s.evBus.contains ev.val = true := List.contains_iff_mem.2 h
  rw [doEventArrival, hc]
  rfl

/-- A task that is not placed takes no event. -/
theorem State.eventTo_of_not_placed {t : Nat} (h : (s.task t).placed = false) (ev : Nat) : s.eventTo ev t = s := by
  simp only [State.eventTo, h, Bool.false_eq_true, if_false]

theorem State.eventTos_of_not_placed (ev : Nat) : ∀ {l : List Nat} {s : State}, (∀ j ∈ l, (s.task j).placed = false) →
    l.foldl (State.eventTo ev) s = s
  | [], _, _ => rfl
  | j :: r, s, h => by
    rw [List.foldl_cons, State.eventTo_of_not_placed (h j List.mem_cons_self)]
    exact State.eventTos_of_not_placed ev fun j hj => h j (List.mem_cons_of_mem _ hj)

/-- What is pending in task `j` once event `ev` has reached every task. -/
def State.pendWith (s : State) (ev j : Nat) : BitVec 16 :=
  if j < 96 ∧ (s.task j).placed = true then withSlots (s.task j).pend (s.slotsOf j (s.task j).engine ev) else (s.task j).pend

/-- Every slot that event `ev` names in a placed task below 96 is free, and named once. -/
def State.SlotsFree (s : State) (ev : Nat) : Prop :=
  ∀ j, j < 96 → (s.task j).placed = true →
    (∀ i ∈ s.slotsOf j (s.task j).engine ev, (s.task j).pend.getLsbD i = false ∧ i < 16) ∧ (s.slotsOf j (s.task j).engine ev).Nodup

/-- A placed task that does not migrate takes an event in each of its slots for it. -/
theorem State.eventTo_of_placed {t : Nat} (hp : (s.task t).placed = true) (hm : (s.task t).mig = none) (ev : Nat) :
    s.eventTo ev t = (s.slotsOf t (s.task t).engine ev).foldl (fun u i => u.pendLive t (s.task t).engine i) s := by
  rw [State.eventTo, if_pos hp, State.pendMirror_of_not_migrating hm]

/-- An event reaches a task whose slots for it are free. -/
theorem PendTo.eventTo {p : Nat → BitVec 16} (h : PendTo s u p) {ev t : Nat} (ht : t < 96) (hm : (s.task t).mig = none)
    (hp : p t = (s.task t).pend) (hf : s.SlotsFree ev) : PendTo s (u.eventTo ev t) (Function.update p t (s.pendWith ev t)) := by
  have htask := h.2 t
  have hplaced : (u.task t).placed = (s.task t).placed := by rw [htask]
  by_cases hs : (s.task t).placed = true
  · obtain ⟨hfree, hnd⟩ := hf t ht hs
    have hmig : (u.task t).mig = none := by rw [htask]; exact hm
    have heng : (u.task t).engine = (s.task t).engine := by rw [htask]
    rw [← hp] at hfree
    rw [State.eventTo_of_placed (hplaced.trans hs) hmig, heng, h.slotsOf hm, State.pendWith, if_pos ⟨ht, hs⟩, ← hp]
    exact h.pendLives _ hfree hnd
  · have hs := eq_false_of_ne_true hs
    rw [State.eventTo_of_not_placed (hplaced.trans hs), State.pendWith, if_neg (by simp [hs]), ← hp, Function.update_eq_self]
    exact h

/-- An event reaches one task after another. -/
theorem PendTo.eventTos {ev : Nat} (hm : ∀ j, (s.task j).mig = none) (hf : s.SlotsFree ev) :
    ∀ {l : List Nat} {u : State} {p : Nat → BitVec 16}, PendTo s u p → l.Nodup → (∀ j ∈ l, j < 96 ∧ p j = (s.task j).pend) →
    PendTo s (l.foldl (State.eventTo ev) u) (fun j => if j ∈ l then s.pendWith ev j else p j)
  | [], _, p, h, _, _ => by simpa using h
  | t :: r, u, p, h, hnd, hl => by
    obtain ⟨htr, hr⟩ := List.nodup_cons.1 hnd
    obtain ⟨ht, hpt⟩ := hl t List.mem_cons_self
    have hstep := h.eventTo ht (hm t) hpt hf
    have hrest : ∀ j ∈ r, j < 96 ∧ Function.update p t (s.pendWith ev t) j = (s.task j).pend := by
      intro j hj
      obtain ⟨hj96, hpj⟩ := hl j (List.mem_cons_of_mem _ hj)
      exact ⟨hj96, by rw [Function.update_of_ne (fun e : j = t => htr (e ▸ hj)), hpj]⟩
    have hall := PendTo.eventTos hm hf hstep hr hrest
    refine (congrArg (PendTo s _) (funext fun j => ?_)).mp hall
    by_cases hj : j = t
    · subst hj
      rw [if_neg htr, Function.update_self, if_pos List.mem_cons_self]
    · simp only [List.mem_cons, hj, false_or, Function.update_of_ne hj]

/-- An event pulse leaves the bus and becomes pending wherever its slots are free (R28). -/
theorem doEventArrival_pends {ev : Fin 512} (h : ev.val ∈ s.evBus) (hm : ∀ j, (s.task j).mig = none) (hf : s.SlotsFree ev) :
    PendTo (s.offBus ev) (doEventArrival ev s) (s.pendWith ev) := by
  have hall := PendTo.eventTos (s := s.offBus ev) hm hf (PendTo.refl _) List.nodup_range (fun j hj => ⟨List.mem_range.1 hj, rfl⟩)
  rw [doEventArrival_eq h]
  refine (congrArg (PendTo (s.offBus ev) _) (funext fun j => ?_)).mp hall
  by_cases hj : j ∈ List.range 96
  · exact if_pos hj
  · rw [if_neg hj, State.pendWith, if_neg fun h => hj (List.mem_range.2 h.1)]
    rfl

/-! ### An overrun (R28, R59) -/

/-- The state after an event has found subscription `i` of task `t` pending: an overrun, counted and reported on engine `e`. -/
def State.subOverrun (s : State) (t e i : Nat) : State :=
  let x := s.task t
  (((s.setTask t { x with subOvr := Tab.set (fun _ => 0) x.subOvr i (Tab.get (fun _ => 0) x.subOvr i + 1) }).bump
    (mkKey 3 0x016 e) 65535).put 3 0x014 e 10).report (0x01000A + 256 * t)

theorem State.pendLive_of_pending {t i : Nat} (hi : (s.task t).pend.getLsbD i = true) (hm : (s.task t).mig = none) (e : Nat) :
    s.pendLive t e i = s.subOverrun t e i := by
  rw [State.pendLive, if_pos hi]
  refine State.abortMig_of_not_migrating ?_ _
  change ((s.setTask t _).task t).mig = none
  rw [State.task_setTask, if_pos rfl]
  exact hm

theorem State.task_subOverrun (t e i j : Nat) : (s.subOverrun t e i).task j = if j = t then
    { s.task t with subOvr := Tab.set (fun _ => 0) (s.task t).subOvr i (Tab.get (fun _ => 0) (s.task t).subOvr i + 1) } else s.task j :=
  State.task_setTask ..

theorem State.en_subOverrun (t e i : Nat) :
    (s.subOverrun t e i).en 3 0x014 e = 10 ∧ (s.subOverrun t e i).en 3 0x016 e = min 65535 (s.en 3 0x016 e + 1) := by
  have hne : mkKey 3 0x016 e ≠ mkKey 3 0x014 e := by simp only [mkKey]; omega
  refine ⟨(State.getKey_putKey ..).trans (if_pos rfl), ?_⟩
  refine (State.getKey_putKey ..).trans ?_
  rw [if_neg hne]
  exact (State.getKey_putKey ..).trans (if_pos rfl)

/-- An event reaches every task, and only one of them is placed: its slot for the event is pending already. -/
theorem State.eventTos_of_pending {ev : Nat} {t : Fin 96} {i : Nat} (ho : ∀ j, j < 96 → j ≠ t.val → (s.task j).placed = false)
    (hp : (s.task t).placed = true) (hm : (s.task t).mig = none) (hs : s.slotsOf t (s.task t).engine ev = [i])
    (hi : (s.task t).pend.getLsbD i = true) : (List.range 96).foldl (State.eventTo ev) s = s.subOverrun t (s.task t).engine i := by
  obtain ⟨l, r, hlr⟩ := List.append_of_mem (List.mem_range.2 t.isLt)
  have hnd : (l ++ t.val :: r).Nodup := hlr ▸ List.nodup_range
  have hother : ∀ j, j ∈ l ++ r → j ≠ t.val ∧ (s.task j).placed = false := by
    intro j hj
    have hne : j ≠ t.val := fun e => (List.nodup_cons.1 (List.nodup_middle.1 hnd)).1 (e ▸ hj)
    have hmem : j ∈ List.range 96 := by
      rw [hlr]
      simp only [List.mem_append, List.mem_cons] at hj ⊢
      exact hj.imp_right .inr
    exact ⟨hne, ho j (List.mem_range.1 hmem) hne⟩
  rw [hlr, List.foldl_append, List.foldl_cons, State.eventTos_of_not_placed _ (fun j hj => (hother j (List.mem_append_left _ hj)).2),
    State.eventTo_of_placed hp hm, hs, List.foldl_cons, List.foldl_nil, State.pendLive_of_pending hi hm]
  refine State.eventTos_of_not_placed _ fun j hj => ?_
  obtain ⟨hne, hplaced⟩ := hother j (List.mem_append_right _ hj)
  rw [State.task_subOverrun, if_neg hne]
  exact hplaced

/-! ### A sleeping task wakes (R53) -/

/-- The lowest slot of a mask. -/
theorem lowestBit_eq {v : BitVec 16} {i : Fin 16} (hi : v.getLsbD i = true) (hl : ∀ j, j < i.val → v.getLsbD j = false) :
    lowestBit v = some i.val := by
  rw [lowestBit, List.find?_range_eq_some]
  exact ⟨hi, List.mem_range.2 i.isLt, fun j hj => by simp [hl j hj]⟩

/-- Context `k` sleeps no longer. -/
def State.awake (s : State) (k : Nat) : State := s.setCtx k { s.ctx k with sleep := none }

/-- Task `t` in context `k` takes its pending slot `i` into register `r`, which consumes it (R52). -/
def State.takeSlot (s : State) (t k : Nat) (r : Fin 16) (i : Nat) : State :=
  (s.setTask t { s.task t with pend := (s.task t).pend &&& ~~~(1#16 <<< i) }).setCtx k ((s.ctx k).setW r (BitVec.ofNat 24 i) 0)

theorem State.consume_of_lowest {t k : Nat} {r : Fin 16} {mask : BitVec 16} {i : Nat} (hm : (s.task t).mig = none)
    (hl : lowestBit ((s.task t).pend &&& mask) = some i) (e : Nat) : s.consume t e k r mask = some (s.takeSlot t k r i) := by
  rw [State.consume, State.pendOn_of_not_migrating hm, hl, Option.map_some, State.setPend_of_not_migrating hm]
  rfl

theorem State.wakeOne_of_masked {t : Nat} {p : Nat × Nat} {r : Fin 16} {mask : BitVec 16} {i : Nat} (hm : (s.task t).mig = none)
    (hs : (s.ctx (6 * p.1 + p.2)).sleep = some (r, mask)) (hl : lowestBit ((s.task t).pend &&& mask) = some i) :
    s.wakeOne t p = (s.awake (6 * p.1 + p.2)).takeSlot t (6 * p.1 + p.2) r i := by
  have hne : (s.task t).pend &&& mask ≠ 0 := by
    intro h0
    rw [h0] at hl
    cases hl
  have hc := State.consume_of_lowest (s := s.awake (6 * p.1 + p.2)) (k := 6 * p.1 + p.2) (r := r) hm hl p.1
  simp only [State.wakeOne, hs, State.pendOn_of_not_migrating hm, if_neg hne]
  exact congrArg (Option.getD · _) hc

/-- What a task that wakes leaves: its context with the slot in its register, its pending slots without that one. -/
theorem State.takeSlot_awake (s : State) (t k : Nat) (r : Fin 16) (i : Nat) :
    let u := (s.awake k).takeSlot t k r i
    u = { s with loop := { s.loop with ctx := u.loop.ctx }, ref := { s.ref with task := u.ref.task } } ∧
    u.ctx k = { (s.ctx k).withW r (BitVec.ofNat 24 i) with sleep := none, rdy := (u.ctx k).rdy } ∧
    (∀ j, j ≠ k → u.ctx j = s.ctx j) ∧
    ∀ j, u.task j = if j = t then { s.task t with pend := (s.task t).pend &&& ~~~(1#16 <<< i) } else s.task j := by
  refine ⟨rfl, ?_, fun j hj => ?_, fun j => State.task_setTask ..⟩
  · rw [State.takeSlot, State.ctx_setCtx_self, State.awake, State.ctx_setCtx_self]
    rfl
  · rw [State.takeSlot, State.ctx_setCtx_ne hj]
    exact State.ctx_setCtx_ne hj _

theorem State.wakeOne_of_awake {t : Nat} {p : Nat × Nat} (hs : (s.ctx (6 * p.1 + p.2)).sleep = none) : s.wakeOne t p = s := by
  simp only [State.wakeOne, hs]

theorem State.wakeOne_of_unmasked {t : Nat} {p : Nat × Nat} {r : Fin 16} {mask : BitVec 16} (hm : (s.task t).mig = none)
    (hs : (s.ctx (6 * p.1 + p.2)).sleep = some (r, mask)) (h0 : (s.task t).pend &&& mask = 0) : s.wakeOne t p = s := by
  simp only [State.wakeOne, hs, State.pendOn_of_not_migrating hm, h0, if_true]

/-- A task that waits for no records does not compute. -/
theorem State.kernelWake_of_not_await {t : Nat} (h : (s.task t).await = false) : s.kernelWake t = s := by
  simp only [State.kernelWake, h, Bool.false_and, Bool.false_eq_true, if_false]

/-- A kernel that waits in its activation computes once its records are there (R244, R266). -/
theorem State.kernelWake_of_waiting {t : Nat} (hp : (s.task t).placed = true) (ha : (s.task t).await = true)
    (hact : (s.ctx (s.ctxKey t)).active = true) (hh : (s.eng (s.task t).engine).halted = false) (hk : s.kernelHas t = true) :
    s.kernelWake t = (s.setTask t { s.task t with await := false }).kernelRun t := by
  simp only [State.kernelWake, ha, hp, hact, hh, hk, Bool.not_false, Bool.and_self, if_true]

theorem doWaitevWake_eq {t : Fin 96} (hp : (s.task t).placed = true) (hm : (s.task t).mig = none) :
    doWaitevWake t s = (s.wakeOne t ((s.task t).engine, (s.task t).slot)).kernelWake t := by
  rw [doWaitevWake, State.places_of_placed hp hm]
  rfl

end Sys2Proof.Machine
end

section
/-! SUPPORT. The statement on events, settled. -/

namespace Sys2Proof.Machine

/-- Settles O17: the pulse is folded over the tasks, each of which takes it in its own slots; a task that sleeps wakes in the one context that it has. -/
theorem eventsReachTasks : Obligations.EventsReachTasks := by
  intro s ev t i r mask hm x n
  refine ⟨fun hev hfree hnd => ⟨_, exec_eventArrival .., ?_⟩, fun hev ho hp hs hi => ⟨_, exec_eventArrival .., ?_⟩,
    fun hp ha hs hi hmask hl => ⟨_, exec_waitevWake .., ?_⟩, fun hp ha hs h0 => (exec_waitevWake ..).trans ?_,
    fun hp ha hs hact hh hk => (exec_waitevWake ..).trans ?_⟩
  · obtain ⟨hframe, htask⟩ := doEventArrival_pends hev hm fun j hj hp => ⟨hfree j hj hp, hnd j hj⟩
    refine ⟨hframe, fun j => ?_, fun j hj hp m => ?_⟩
    · rw [htask]
      split
      · rfl
      · rw [State.pendWith, if_neg ‹_›]
        rfl
    · rw [htask, State.pendWith, if_pos ⟨hj, hp⟩, getLsbD_withSlots _ m.isLt]
  · rw [doEventArrival_eq hev, State.eventTos_of_pending (s := s.offBus ev) ho hp (hm t) hs hi]
    refine ⟨?_, rfl, State.en_subOverrun (s := s.offBus ev) ..⟩
    rw [State.task_subOverrun, if_pos rfl]
    rfl
  · have hlow : lowestBit (x.pend &&& mask) = some i.val := lowestBit_eq (by simp [hi, hmask]) fun j hj => by
      simpa [BitVec.getLsbD_and] using hl j hj
    obtain ⟨hframe, hctx, hother, htask⟩ := s.takeSlot_awake t n r i
    rw [doWaitevWake_eq hp (hm t), State.wakeOne_of_masked (p := (x.engine, x.slot)) (hm t) hs hlow, State.kernelWake_of_not_await]
    · exact ⟨hframe, hctx, hother, htask⟩
    · exact (congrArg TaskRt.await (htask t)).trans (by rw [if_pos rfl]; exact ha)
  · rw [doWaitevWake_eq hp (hm t), State.wakeOne_of_unmasked (p := (x.engine, x.slot)) (hm t) hs h0, State.kernelWake_of_not_await ha]
  · rw [doWaitevWake_eq hp (hm t), State.wakeOne_of_awake (p := (x.engine, x.slot)) hs, State.kernelWake_of_waiting hp ha hact hh hk]

end Sys2Proof.Machine
end

section
/-! SUPPORT. Counters that advance one after another, and a PWM set on its way from COMMIT.GO to the apply stage (R15, R117 to R119). -/

namespace Sys2Proof.Machine

variable {s : State}

/-! ### The commands -/

theorem exec_commitGo (e : Fin 16) (c : Fin 12) (s : State) : exec (.commitGo e c) s = .next (doCommitGo e c s) := rfl

theorem exec_commitRecognised (c : Fin 12) (s : State) : exec (.commitRecognised c) s = .next (doCommitRecognised c s) := rfl

theorem exec_cutoff (c : Fin 12) (s : State) : exec (.cutoff c) s = .next (doCutoff c s) := rfl

/-! ### Counters -/

/-- The 16-bit counters of a list advance one after another. -/
def State.bumps (s : State) (l : List Nat) : State := l.foldl (fun s k => s.bump k 65535) s

theorem State.bumps_append (s : State) (l m : List Nat) : s.bumps (l ++ m) = (s.bumps l).bumps m := List.foldl_append ..

/-- Counters are entries: nothing else changes. -/
theorem State.bumps_frame : ∀ (l : List Nat) (s : State), s.bumps l = { s with ent := (s.bumps l).ent }
  | [], _ => rfl
  | k :: l, s => State.bumps_frame l (s.bump k 65535)

theorem State.getKey_bumps_of_not_mem {j : Nat} : ∀ {l : List Nat} {s : State}, j ∉ l → (s.bumps l).getKey j = s.getKey j
  | [], _, _ => rfl
  | k :: l, s, h => by
    obtain ⟨hk, hl⟩ := not_or.1 (mt List.mem_cons.2 h)
    exact (State.getKey_bumps_of_not_mem (s := s.bump k 65535) hl).trans ((State.getKey_putKey ..).trans (if_neg hk))

/-- Each counter of a list without repetitions advances by one. -/
theorem counts_bumps : ∀ {l : List Nat} {s : State}, l.Nodup → Counts s (s.bumps l) l
  | [], _, _ => fun _ => ⟨fun h => absurd h List.not_mem_nil, fun _ => rfl⟩
  | k :: l, s, h => by
    obtain ⟨hk, hl⟩ := List.nodup_cons.1 h
    have hget (j : Nat) : (s.bump k 65535).getKey j = if j = k then min 65535 (s.getKey k + 1) else s.getKey j := State.getKey_putKey ..
    refine fun j => ⟨fun hj => ?_, fun hj => State.getKey_bumps_of_not_mem hj⟩
    by_cases he : j = k
    · subst he
      exact (State.getKey_bumps_of_not_mem (s := s.bump j 65535) hk).trans ((hget j).trans (if_pos rfl))
    · have hjl := (List.mem_cons.1 hj).resolve_left he
      rw [← if_neg (c := j = k) he (t := min 65535 (s.getKey k + 1)) (e := s.getKey j), ← hget j]
      exact (counts_bumps (s := s.bump k 65535) hl j).1 hjl

/-- The order in which counters advance does not show. -/
theorem Counts.of_mem {u : State} {l m : List Nat} (h : Counts s u l) (hm : ∀ j, j ∈ l ↔ j ∈ m) : Counts s u m :=
  fun j => ⟨fun hj => (h j).1 ((hm j).2 hj), fun hj => (h j).2 (mt (hm j).1 hj)⟩

theorem State.whenS_bump (s : State) (b : Bool) (k : Nat) : s.whenS b (·.bump k 65535) = s.bumps (if b then [k] else []) := by
  cases b <;> rfl

theorem State.foldl_whenS_bump (p : Nat → Bool) (k : Nat → Nat) : ∀ (l : List Nat) (s : State),
    l.foldl (fun s g => s.whenS (p g) (·.bump (k g) 65535)) s = s.bumps ((l.filter p).map k)
  | [], _ => rfl
  | g :: l, s => by
    rw [List.foldl_cons, State.foldl_whenS_bump p k l, List.filter_cons]
    cases hp : p g
    · rfl
    · rfl

/-- A cluster is no entry. -/
theorem State.bumps_setCl (c : Nat) (x : Cl) : ∀ (l : List Nat) (s : State), (s.setCl c x).bumps l = (s.bumps l).setCl c x
  | [], _ => rfl
  | k :: l, s => State.bumps_setCl c x l (s.bump k 65535)

/-- Entries of one area with different numbers have different keys. -/
theorem mkKey_ne {a b i j : Nat} (h : a ≠ b) (hi : i < 256) (hj : j < 256) : mkKey 4 a i ≠ mkKey 4 b j := by
  simp only [mkKey]
  omega

/-! ### One cluster -/

theorem onlyCluster_setCl (s : State) (c : Nat) (x : Cl) : OnlyCluster s (s.setCl c x) c x := ⟨rfl, fun _ => State.cl_setCl ..⟩

/-- Of two writes of a cluster the second counts. -/
theorem onlyCluster_setCl_setCl (s : State) (c : Nat) (x y : Cl) : OnlyCluster s ((s.setCl c x).setCl c y) c y := by
  refine ⟨rfl, fun j => ?_⟩
  rw [State.cl_setCl, State.cl_setCl]
  split <;> rfl

/-! ### The store of COMMIT.GO (R117, R22) -/

/-- The address of COMMIT lies in the block of its cluster, and nowhere else. -/
theorem State.portStore_commit (s : State) (t e : Nat) (c : Fin 12) : s.portStore t e (0x800042 + 256 * c.val) 1 = s.commitGo c := by
  have hwin : (0x800042 + 256 * c.val) / 65536 = 0x80 := by omega
  have hoff : (0x800042 + 256 * c.val) % 65536 = 0x42 + 256 * c.val := by omega
  have hcl : (0x42 + 256 * c.val) / 256 = c.val := by omega
  have hreg : (0x42 + 256 * c.val) % 256 = 0x42 := by omega
  have hlt : 0x42 + 256 * c.val < 0xC00 := by omega
  simp only [State.portStore, hwin, hoff, if_pos hlt, hcl, hreg]
  rfl

theorem postView_commit (c : Fin 12) : postView (0x800042 + 256 * c.val) = none := if_neg (by omega)

theorem State.storeAt_commit {t : Nat} (hm : (s.task t).mig = none) (e : Nat) (c : Fin 12) :
    s.storeAt t e (0x800042 + 256 * c.val) 1 = some (s.commitGo c) := by
  have hsh : s.isShadow t e = false := by simp only [State.isShadow, hm]
  simp only [State.storeAt, hm, postView_commit, hsh, Bool.false_and, Bool.false_eq_true, if_false, State.portStore_commit]

theorem State.commitBusy_commit (s : State) (c : Fin 12) :
    s.commitBusy (0x800042 + 256 * c.val) 1 = (s.cl c).transfer.isSome := by
  have hcl : (0x800042 + 256 * c.val - 0x800000) / 256 = c.val := by omega
  have hreg : (0x800042 + 256 * c.val) % 256 = 0x42 := by omega
  have hhi : 0x800042 + 256 * c.val < 0x800C00 := by omega
  have hlo : 0x800000 ≤ 0x800042 + 256 * c.val := by omega
  simp [State.commitBusy, hcl, hreg, hhi, hlo]

theorem State.commitGo_of_off {c : Nat} (h : (s.cl c).st = .off) : s.commitGo c = s := if_pos (.inl h)

/-- The store waits while the transfer register holds a set; else it commits (R22, R117). -/
theorem doCommitGo_eq {e : Fin 16} {c : Fin 12} {t k : Nat} (hx : Executes s e t k)
    (ha : s.allows t e (0x800042 + 256 * c.val) true = true) (hm : (s.task t).mig = none) :
    doCommitGo e c s = if (s.cl c).transfer.isSome then s else s.commitGo c := by
  obtain ⟨⟨i, hrun, -⟩, hhalt⟩ := hx
  have hpost : isPost (0x800042 + 256 * c.val) = false := by rw [isPost, postView_commit]; rfl
  have href : refusedStore (0x800042 + 256 * c.val) 1 = false := by
    simp [refusedStore, show ¬ (0x830000 ≤ 0x800042 + 256 * c.val) by omega]
  have hsh : s.isShadow t e = false := by simp only [State.isShadow, hm]
  simp only [doCommitGo, State.rowStore, hrun, hhalt, hpost, State.commitBusy_commit, ha, hsh, href, State.storeAt_commit hm,
    Bool.false_and, Bool.false_or, Bool.not_false, Bool.and_true, if_true, Option.getD_some]

/-! ### The floors of R118 -/

/-- A value is raised to a floor. -/
theorem raised_eq {w : Nat} {x y : BitVec w} {n : Nat} (h : y.toNat = max x.toNat n) :
    y = (if x < BitVec.ofNat w n then BitVec.ofNat w n else x) ∧ (x < BitVec.ofNat w n ↔ x.toNat < n) := by
  have hn : (BitVec.ofNat w n).toNat = n := by
    rw [BitVec.toNat_ofNat, Nat.mod_eq_of_lt]
    have := y.isLt
    omega
  have hlt : x < BitVec.ofNat w n ↔ x.toNat < n := by rw [BitVec.lt_def, hn]
  refine ⟨BitVec.eq_of_toNat_eq ?_, hlt⟩
  split
  · rename_i hx
    rw [h, hn, max_eq_right (hlt.1 hx).le]
  · rename_i hx
    rw [h, max_eq_left (Nat.le_of_not_lt (mt hlt.2 hx))]

/-- The floors give the values that R118 describes, on one generator. -/
theorem State.floorGen_eq {n : Nat} {x y : GenSet} (hdtr : y.dtr.toNat = max x.dtr.toNat (s.en 4 0x012 n))
    (hdtf : y.dtf.toNat = max x.dtf.toNat (s.en 4 0x013 n)) (hminp : y.minp.toNat = max x.minp.toNat (s.en 4 0x014 n))
    (hfl : y.floored = true ↔ s.belowFloor n x)
    (hrest : y = { x with dtr := y.dtr, dtf := y.dtf, minp := y.minp, floored := y.floored }) : s.floorGen n x = y := by
  obtain ⟨hr, lr⟩ := raised_eq hdtr
  obtain ⟨hf, lf⟩ := raised_eq hdtf
  obtain ⟨hm, lm⟩ := raised_eq hminp
  have hflag : (x.dtr < BitVec.ofNat 16 (s.en 4 0x012 n) || x.dtf < BitVec.ofNat 16 (s.en 4 0x013 n)
      || x.minp < BitVec.ofNat 13 (s.en 4 0x014 n) : Bool) = y.floored := by
    rw [Bool.eq_iff_iff, hfl, State.belowFloor, ← lr, ← lf, ← lm]
    simp only [Bool.or_eq_true, decide_eq_true_eq, or_assoc]
  refine Eq.trans ?_ hrest.symm
  rw [State.floorGen, ← hr, ← hf, ← hm, hflag]

/-- A set raised to the floors of its cluster. -/
def State.flooredSet (s : State) (c : Nat) (x : ClSet) : ClSet := { x with g := x.g.mapIdx (fun i z => s.floorGen (4 * c + i) z) }

/-- The floors give the set that R118 describes. -/
theorem State.Floored.eq {c : Nat} {x y : ClSet} (h : s.Floored c x y) : s.flooredSet c x = y := by
  obtain ⟨hp, hpage, hmask, hg⟩ := h
  have hgen : x.g.mapIdx (fun i z => s.floorGen (4 * c + i) z) = y.g := by
    refine Vector.ext fun i hi => ?_
    obtain ⟨hdtr, hdtf, hminp, hfl, hrest⟩ := hg ⟨i, hi⟩
    rw [Vector.getElem_mapIdx]
    exact State.floorGen_eq hdtr hdtf hminp hfl hrest
  rw [State.flooredSet, hgen, ← hp, ← hpage, ← hmask]

/-- Counters behind the cutoff leave the floors as they are. -/
theorem State.flooredSet_late (s : State) (late : Bool) (c : Fin 12) (y : Cl) (x : ClSet) :
    ((s.bumps (if late then [mkKey 4 0x054 c] else [])).setCl c y).flooredSet c x = s.flooredSet c x := by
  have hen (a n : Nat) (ha : a ≠ 0x054) (hn : n < 256) :
      ((s.bumps (if late then [mkKey 4 0x054 c] else [])).setCl c y).en 4 a n = s.en 4 a n := by
    refine State.getKey_bumps_of_not_mem ?_
    cases late
    · exact List.not_mem_nil
    · exact fun h => mkKey_ne ha hn (by omega) (List.mem_singleton.1 h)
  simp only [State.flooredSet, ClSet.mk.injEq, and_true]
  refine Vector.ext fun i hi => ?_
  have hn : 4 * c.val + i < 256 := by omega
  simp only [Vector.getElem_mapIdx, State.floorGen, hen 0x012 _ (by decide) hn, hen 0x013 _ (by decide) hn, hen 0x014 _ (by decide) hn]

/-! ### The recognition of a set (R118) -/

/-- The counters of the floors that raised a value of a set. -/
def flooredKeys (c : Nat) (x : ClSet) : List Nat :=
  ((List.finRange 4).filter (fun i => x.g[i].floored)).map (fun i => mkKey 4 0x023 (4 * c + i.val))

/-- The floors that raised a value of a set are counted. -/
def State.countFloored (s : State) (c : Nat) (x : ClSet) : State :=
  (clGens c).foldl (fun s g => s.whenS ((x.g.getD (g % 4) GenSet.reset).floored) (·.bump (mkKey 4 0x023 g) 65535)) s

theorem State.countFloored_eq (s : State) (c : Nat) (x : ClSet) : s.countFloored c x = s.bumps (flooredKeys c x) := by
  have hgens : clGens c = (List.finRange 4).map (fun i => 4 * c + i.val) := rfl
  have hgen (i : Fin 4) : x.g.getD ((4 * c + i.val) % 4) GenSet.reset = x.g[i] := by
    rw [show (4 * c + i.val) % 4 = i.val by omega]
    simp [Vector.getD]
  rw [State.countFloored, State.foldl_whenS_bump, hgens, List.filter_map, List.map_map]
  simp only [Function.comp_def, hgen]
  rfl

/-- A recognised set that passes the checks waits (R118): it replaces a set not applied, which counts as superseded. -/
def State.acceptSet (s : State) (c : Nat) (x : ClSet) : State :=
  (s.whenS ((s.cl c).waiting.isSome || (s.cl c).apply.isSome) (·.bump (mkKey 4 0x055 c) 65535)).setCl c
    { s.cl c with waiting := some x, apply := none }

/-- The two checks of R118 on a set that is raised to the floors. -/
def State.checkSet (s : State) (c : Nat) (x : ClSet) : State :=
  if periodOk (s.en 4 0x030 c) x.period.toNat = false then s.rejectSet c 1
  else if x.g.toList.all (budgetOk x.period.toNat) = false then s.rejectSet c 2
  else s.acceptSet c x

/-- The transfer register is acknowledged; behind the cutoff of a cluster that is not OFF the set is late (R15). -/
def State.acknowledge (s : State) (c : Nat) : State :=
  let y := s.cl c
  let late := y.cut && y.st != .off
  (s.setCl c { y with transfer := none, late := late || (y.late && y.st == .off) }).whenS late (·.bump (mkKey 4 0x054 c) 65535)

theorem doCommitRecognised_of_transfer {c : Fin 12} {x : ClSet} (ht : (s.cl c).transfer = some x) :
    doCommitRecognised c s =
      if (s.cl c).st = .off then s.acknowledge c
      else ((s.acknowledge c).countFloored c ((s.acknowledge c).flooredSet c x)).checkSet c ((s.acknowledge c).flooredSet c x) := by
  have h : doCommitRecognised c s = match (s.cl c).transfer with
    | none => s
    | some x =>
      if (s.cl c).st = .off then s.acknowledge c
      else ((s.acknowledge c).countFloored c ((s.acknowledge c).flooredSet c x)).checkSet c ((s.acknowledge c).flooredSet c x) := rfl
  rw [h, ht]

theorem doCommitRecognised_of_no_transfer {c : Fin 12} (ht : (s.cl c).transfer = none) : doCommitRecognised c s = s := by
  simp only [doCommitRecognised, ht]

theorem State.acknowledge_of_off {c : Nat} (h : (s.cl c).st = .off) : s.acknowledge c = s.setCl c { s.cl c with transfer := none } := by
  simp only [State.acknowledge, h, bne_self_eq_false, Bool.and_false, beq_self_eq_true, Bool.and_true, Bool.false_or]
  rfl

theorem State.acknowledge_of_not_off {c : Nat} (h : (s.cl c).st ≠ .off) : s.acknowledge c =
    (s.bumps (if (s.cl c).cut then [mkKey 4 0x054 c] else [])).setCl c { s.cl c with transfer := none, late := (s.cl c).cut } := by
  simp only [State.acknowledge, bne_iff_ne.2 h, beq_false_of_ne h, Bool.and_true, Bool.and_false, Bool.or_false, State.whenS_bump,
    State.bumps_setCl]

/-- The cluster and the counters of a recognised set before its checks. -/
def State.recognised (s : State) (c : Nat) (x : ClSet) : State :=
  (s.bumps ((if (s.cl c).cut then [mkKey 4 0x054 c] else []) ++ flooredKeys c x)).setCl c
    { s.cl c with transfer := none, late := (s.cl c).cut }

theorem doCommitRecognised_eq {c : Fin 12} {x x' : ClSet} (hst : (s.cl c).st ≠ .off) (ht : (s.cl c).transfer = some x)
    (hf : s.Floored c x x') : doCommitRecognised c s = (s.recognised c x').checkSet c x' := by
  rw [doCommitRecognised_of_transfer ht, if_neg hst, State.acknowledge_of_not_off hst, State.flooredSet_late, hf.eq, State.countFloored_eq,
    State.bumps_setCl, ← State.bumps_append]
  rfl

theorem State.cl_recognised (s : State) (c : Nat) (x : ClSet) :
    (s.recognised c x).cl c = { s.cl c with transfer := none, late := (s.cl c).cut } :=
  (State.cl_setCl ..).trans (if_pos rfl)

/-- A rejected set counts, and is reported; the waiting set stays. -/
theorem State.rejectSet_recognised (s : State) (c : Nat) (x : ClSet) (r : BitVec 4) :
    let l := (if (s.cl c).cut then [mkKey 4 0x054 c] else []) ++ flooredKeys c x ++ [mkKey 4 0x056 c]
    let y := { s.cl c with transfer := none, late := (s.cl c).cut }
    (s.recognised c x).rejectSet c r = (((s.bumps l).report (0x030003 + 256 * c)).setCl c y).setCl c { y with rejReason := r } := by
  simp only
  rw [State.rejectSet, State.cl_recognised, State.bumps_append _ (_ ++ _)]
  rfl

/-- A set that waits replaces one not applied, which counts. -/
theorem State.acceptSet_recognised (s : State) (c : Nat) (x : ClSet) :
    let l := (if (s.cl c).cut then [mkKey 4 0x054 c] else []) ++ flooredKeys c x ++
      (if (s.cl c).waiting.isSome || (s.cl c).apply.isSome then [mkKey 4 0x055 c] else [])
    let y := { s.cl c with transfer := none, late := (s.cl c).cut }
    (s.recognised c x).acceptSet c x = ((s.bumps l).setCl c y).setCl c { y with waiting := some x, apply := none } := by
  simp only
  rw [State.acceptSet, State.cl_recognised, State.whenS_bump, State.recognised, State.bumps_setCl, ← State.bumps_append]

theorem mem_flooredKeys {c k : Nat} {x : ClSet} (h : k ∈ flooredKeys c x) : ∃ i : Fin 4, k = mkKey 4 0x023 (4 * c + i.val) := by
  obtain ⟨i, -, hi⟩ := List.mem_map.1 h
  exact ⟨i, hi.symm⟩

theorem mem_if_singleton {b : Bool} {k a : Nat} (h : k ∈ (if b then [a] else [])) : k = a := by
  cases b
  · exact absurd h List.not_mem_nil
  · exact List.mem_singleton.1 h

/-- The counters of a recognised set are different ones. -/
theorem nodup_recognisedKeys (c : Fin 12) (x : ClSet) (late b : Bool) {a : Nat} (ha : 0x054 < a) :
    ((if late then [mkKey 4 0x054 c] else []) ++ flooredKeys c x ++ (if b then [mkKey 4 a c] else [])).Nodup := by
  have hlate : (if late then [mkKey 4 0x054 c] else []).Nodup := by cases late <;> simp
  have hlast : (if b then [mkKey 4 a c] else []).Nodup := by cases b <;> simp
  have hfl : (flooredKeys c x).Nodup := by
    refine ((List.nodup_finRange 4).filter _).map fun i j hij => Fin.ext ?_
    simp only [mkKey] at hij
    omega
  refine List.nodup_append.2 ⟨List.nodup_append.2 ⟨hlate, hfl, fun k hk m hm => ?_⟩, hlast, fun k hk m hm => ?_⟩
  · obtain ⟨i, rfl⟩ := mem_flooredKeys hm
    rw [mem_if_singleton hk]
    exact mkKey_ne (by decide) (by omega) (by omega)
  · rw [mem_if_singleton hm]
    rcases List.mem_append.1 hk with hk | hk
    · rw [mem_if_singleton hk]
      exact mkKey_ne ha.ne (by omega) (by omega)
    · obtain ⟨i, rfl⟩ := mem_flooredKeys hk
      exact mkKey_ne (by omega) (by omega) (by omega)

/-- The nominal period is no counter. -/
theorem State.en_recognised (s : State) (c : Fin 12) (x : ClSet) : (s.recognised c x).en 4 0x030 c = s.en 4 0x030 c := by
  refine State.getKey_bumps_of_not_mem fun h => ?_
  rcases List.mem_append.1 h with h | h
  · exact mkKey_ne (by decide) (by omega) (by omega) (mem_if_singleton h)
  · obtain ⟨i, hi⟩ := mem_flooredKeys h
    exact mkKey_ne (by decide) (by omega) (by omega) hi

theorem periodOk_iff {n p : Nat} : periodOk n p = true ↔ n ≤ p ∧ p ≤ min (8 * n) 524288 := by
  rw [periodOk, Bool.and_eq_true, decide_eq_true_eq, decide_eq_true_eq]

theorem all_budgetOk_iff {p : Nat} {g : Vector GenSet 4} : g.toList.all (budgetOk p) = true ↔
    ∀ i : Fin 4, g[i].dtr.toNat + g[i].dtf.toNat + 2 * g[i].minp.toNat < p * 32 := by
  simp only [List.all_eq_true, Vector.mem_toList_iff, Vector.mem_iff_getElem, budgetOk, decide_eq_true_eq]
  exact ⟨fun h i => h _ ⟨i.val, i.isLt, rfl⟩, fun h z ⟨i, hi, hz⟩ => hz ▸ h ⟨i, hi⟩⟩

/-! ### The cutoff (R119) -/

theorem doCutoff_of_off {c : Fin 12} (hst : (s.cl c).st = .off) : doCutoff c s = s := if_pos hst

theorem doCutoff_of_waiting {c : Fin 12} {x : ClSet} (hst : (s.cl c).st ≠ .off) (hw : (s.cl c).waiting = some x) :
    doCutoff c s = s.setCl c { s.cl c with apply := some x, waiting := none, cut := true } := by
  simp only [doCutoff, if_neg hst, hw]

theorem doCutoff_of_not_waiting {c : Fin 12} (hst : (s.cl c).st ≠ .off) (hw : (s.cl c).waiting = none) :
    doCutoff c s = s.setCl c { s.cl c with cut := true } := by
  simp only [doCutoff, if_neg hst, hw]

end Sys2Proof.Machine
end

section
/-! SUPPORT. The statement on commits and cutoffs, settled. -/

namespace Sys2Proof.Machine

variable {s : State}

/-- A rejected set, as the statement says it. -/
theorem answers_rejected {c : Fin 12} {x x' : ClSet} {r : BitVec 4} (hst : (s.cl c).st ≠ .off) (ht : (s.cl c).transfer = some x)
    (hf : s.Floored c x x') (hr : (s.recognised c x').checkSet c x' = (s.recognised c x').rejectSet c r) :
    Answers (.commitRecognised c) s (fun u =>
      OnlyCluster { s with ent := u.ent, flt := { s.flt with reports := s.flt.reports ++ [⟨0x030003 + 256 * c.val, false⟩] } } u c
        { s.cl c with transfer := none, rejReason := r, late := (s.cl c).cut } ∧
      Counts s u (flooredKeys c x' ++ [mkKey 4 0x056 c] ++ (if (s.cl c).cut then [mkKey 4 0x054 c] else []))) := by
  refine ⟨_, exec_commitRecognised .., ?_⟩
  rw [doCommitRecognised_eq hst ht hf, hr, State.rejectSet_recognised]
  refine ⟨?_, Counts.of_mem (counts_bumps (nodup_recognisedKeys c x' (s.cl c).cut true (a := 0x056) (by decide))) fun j => ?_⟩
  · rw [State.bumps_frame]
    exact onlyCluster_setCl_setCl ..
  · simp only [List.mem_append]
    tauto

/-- A set that waits, as the statement says it. -/
theorem answers_accepted {c : Fin 12} {x x' : ClSet} (hst : (s.cl c).st ≠ .off) (ht : (s.cl c).transfer = some x)
    (hf : s.Floored c x x') (hr : (s.recognised c x').checkSet c x' = (s.recognised c x').acceptSet c x') :
    Answers (.commitRecognised c) s (fun u =>
      OnlyCluster { s with ent := u.ent } u c
        { s.cl c with transfer := none, waiting := some x', apply := none, late := (s.cl c).cut } ∧
      Counts s u (flooredKeys c x' ++ (if (s.cl c).waiting.isSome || (s.cl c).apply.isSome then [mkKey 4 0x055 c] else []) ++
        (if (s.cl c).cut then [mkKey 4 0x054 c] else []))) := by
  refine ⟨_, exec_commitRecognised .., ?_⟩
  rw [doCommitRecognised_eq hst ht hf, hr, State.acceptSet_recognised]
  refine ⟨?_, Counts.of_mem (counts_bumps (nodup_recognisedKeys c x' (s.cl c).cut _ (a := 0x055) (by decide))) fun j => ?_⟩
  · rw [State.bumps_frame]
    exact onlyCluster_setCl_setCl ..
  · simp only [List.mem_append]
    tauto

/-- Settles O27: a recognised set is the set of R118 with its counters advanced, and then one of the three answers of its two checks. -/
theorem commitsAndCutoffs : Obligations.CommitsAndCutoffs := by
  intro s e c t k x x' y
  refine ⟨fun hx ha hm => ⟨fun hst ht => ⟨_, exec_commitGo .., ?_⟩, fun h => (exec_commitGo ..).trans ?_⟩, fun hst ht hf => ?_,
    fun ht => (exec_commitRecognised ..).trans ?_, fun hst ht => ⟨_, exec_commitRecognised .., ?_⟩, fun hst => (exec_cutoff ..).trans ?_,
    fun hst hw => ⟨_, exec_cutoff .., ?_⟩, fun hst hw => ⟨_, exec_cutoff .., ?_⟩⟩
  · have hgo : doCommitGo e c s = s.setCl c { y with transfer := some y.pending } := by
      simp [doCommitGo_eq hx ha hm, State.commitGo, ht, hst, y]
    rw [hgo]
    exact onlyCluster_setCl ..
  · rw [doCommitGo_eq hx ha hm]
    rcases h with h | h
    · rw [State.commitGo_of_off h, ite_self]
    · rw [if_pos (Option.isSome_iff_ne_none.2 h)]
  · have hcheck : (s.recognised c x').checkSet c x' =
        if ¬ (s.en 4 0x030 c ≤ x.period.toNat ∧ x.period.toNat ≤ min (8 * s.en 4 0x030 c) 524288) then (s.recognised c x').rejectSet c 1
        else if ¬ (∀ i : Fin 4, x'.g[i].dtr.toNat + x'.g[i].dtf.toNat + 2 * x'.g[i].minp.toNat < x.period.toNat * 32) then
          (s.recognised c x').rejectSet c 2
        else (s.recognised c x').acceptSet c x' := by
      simp only [State.checkSet, State.en_recognised, hf.1, ← periodOk_iff, ← all_budgetOk_iff, Bool.not_eq_true]
    refine ⟨fun r hr => ?_, fun hfits hbudget => ?_⟩
    · refine answers_rejected hst ht hf ?_
      rcases hr with ⟨hfits, rfl⟩ | ⟨hfits, hbudget, rfl⟩
      · rw [hcheck, if_pos hfits]
      · rw [hcheck, if_neg (not_not.2 hfits), if_pos hbudget]
    · refine answers_accepted hst ht hf ?_
      rw [hcheck, if_neg (not_not.2 hfits), if_neg (not_not.2 hbudget)]
  · rw [doCommitRecognised_of_no_transfer ht]
  · rw [doCommitRecognised_of_transfer ht, if_pos hst, State.acknowledge_of_off hst]
    exact onlyCluster_setCl ..
  · rw [doCutoff_of_off hst]
  · rw [doCutoff_of_not_waiting hst hw]
    exact onlyCluster_setCl ..
  · rw [doCutoff_of_waiting hst hw]
    exact onlyCluster_setCl ..

end Sys2Proof.Machine
end

section
/-! SUPPORT. What holding the outputs of clusters off changes, and the trips and latches of a cluster (R122 to R127). -/

namespace Sys2Proof.Machine

variable {s u v : State}

/-! ### The commands -/

theorem exec_cbcTrip (c : Fin 12) (ins : BitVec 4) (s : State) : exec (.cbcTrip c ins) s = .next (doCbcTrip c ins s) := rfl

theorem exec_latchTrip (c : Fin 12) (ins : BitVec 4) (s : State) : exec (.latchTrip c ins) s = .next (doLatchTrip c ins s) := rfl

/-! ### Outputs that are held off -/

/-- From `s` to `u` outputs were held off: generators, lanes and the counts of refreshes (4.022) changed, and nothing else. -/
def HoldsOff (s u : State) : Prop :=
  u = { s with pwm := { s.pwm with gen := u.pwm.gen }, lanes := u.lanes, ent := u.ent } ∧
  ∀ k, (∀ g, g < 48 → k ≠ mkKey 4 0x022 g) → u.getKey k = s.getKey k

theorem HoldsOff.refl (s : State) : HoldsOff s s := ⟨rfl, fun _ _ => rfl⟩

theorem HoldsOff.trans (h : HoldsOff s u) (h' : HoldsOff u v) : HoldsOff s v := by
  obtain ⟨hu, ku⟩ := h
  obtain ⟨hv, kv⟩ := h'
  refine ⟨?_, fun k hk => (kv k hk).trans (ku k hk)⟩
  conv_lhs => rw [hv, hu]

theorem HoldsOff.foldl {A : Type} {f : State → A → State} : ∀ {l : List A} {s : State}, (∀ a ∈ l, ∀ s, HoldsOff s (f s a)) →
    HoldsOff s (l.foldl f s)
  | [], s, _ => .refl s
  | a :: _, s, h => (h a List.mem_cons_self s).trans (HoldsOff.foldl fun b hb => h b (List.mem_cons_of_mem a hb))

theorem HoldsOff.cl (h : HoldsOff s u) (j : Nat) : u.cl j = s.cl j := by
  rw [h.1]
  rfl

theorem HoldsOff.flt (h : HoldsOff s u) : u.flt = s.flt := by rw [h.1]

theorem HoldsOff.evBus (h : HoldsOff s u) : u.evBus = s.evBus := by rw [h.1]

theorem holdsOff_setGen (s : State) (g : Nat) (x : Gen) : HoldsOff s (s.setGen g x) := ⟨rfl, fun _ _ => rfl⟩

theorem holdsOff_setLane (s : State) (l : Nat) (x : Lane) : HoldsOff s (s.setLane l x) := ⟨rfl, fun _ _ => rfl⟩

theorem holdsOff_gatePins (s : State) (g : Nat) (high low : Bool) : HoldsOff s (s.gatePins g high low) := by
  rw [State.gatePins]
  split
  · exact .refl s
  · exact holdsOff_setGen ..

/-- A HOLD_OFF enters the queue of its lane, or is dropped and counted there (R153, R159). -/
theorem holdsOff_sendPrio (s : State) (l : Nat) (side : BitVec 2) (mask : BitVec 4) (t : EdgeTime) :
    HoldsOff s (s.sendPrio l side mask t) := by
  rw [State.sendPrio]
  split
  · exact holdsOff_setLane ..
  · exact holdsOff_setLane ..

theorem holdsOff_holdGens (s : State) (gs : List Nat) (side : BitVec 2) (t : EdgeTime) : HoldsOff s (s.holdGens true gs side t) :=
  .foldl fun p _ s => holdsOff_sendPrio s p.1 side p.2 t

theorem holdsOff_undoRefresh {g : Nat} (hg : g < 48) (s : State) : HoldsOff s (s.undoRefresh g) := by
  have hput (x : Gen) (n : Nat) : HoldsOff s ((s.setGen g x).put 4 0x022 g n) :=
    ⟨rfl, fun k hk => (State.getKey_putKey ..).trans (if_neg (hk g hg))⟩
  rw [State.undoRefresh]
  split
  · split
    · exact hput ..
    · exact .refl s
  · exact .refl s

theorem lt_of_mem_clGens {c g : Nat} (hc : c < 12) (h : g ∈ clGens c) : g < 48 := by
  simp only [clGens, List.mem_cons, List.not_mem_nil, or_false] at h
  omega

theorem holdsOff_undoRefreshes {c : Nat} (hc : c < 12) (s : State) : HoldsOff s ((clGens c).foldl State.undoRefresh s) :=
  .foldl fun _ hg s => holdsOff_undoRefresh (lt_of_mem_clGens hc hg) s

theorem holdsOff_cutOutputs (s : State) (c : Nat) : HoldsOff s (s.cutOutputs c) :=
  (holdsOff_holdGens ..).trans (.foldl fun g _ s => holdsOff_gatePins s g true true)

/-! ### Frames of trips and latches -/

/-- From `s` to `u` only clusters, generators, lanes and entries changed. -/
def PwmFrame (s u : State) : Prop :=
  u = { s with pwm := { s.pwm with cl := u.pwm.cl, gen := u.pwm.gen }, lanes := u.lanes, ent := u.ent }

theorem PwmFrame.trans (h : PwmFrame s u) (h' : PwmFrame u v) : PwmFrame s v := by
  rw [PwmFrame] at *
  conv_lhs => rw [h', h]

theorem PwmFrame.foldl {A : Type} {f : State → A → State} : ∀ {l : List A} {s : State}, (∀ a ∈ l, ∀ s, PwmFrame s (f s a)) →
    PwmFrame s (l.foldl f s)
  | [], _, _ => rfl
  | a :: _, s, h => (h a List.mem_cons_self s).trans (PwmFrame.foldl fun b hb => h b (List.mem_cons_of_mem a hb))

theorem HoldsOff.pwmFrame (h : HoldsOff s u) : PwmFrame s u := by
  rw [PwmFrame]
  conv_lhs => rw [h.1]
  rw [h.1]

/-- From `s` to `u` no other cluster than `c` changed; beside it generators, lanes, the event bus, entries and the collector did. -/
def TripFrame (s u : State) (c : Nat) : Prop :=
  (∀ j, j ≠ c → u.cl j = s.cl j) ∧
  u = { s with pwm := { s.pwm with cl := u.pwm.cl, gen := u.pwm.gen }, lanes := u.lanes, evBus := u.evBus, ent := u.ent, flt := u.flt }

theorem TripFrame.trans {c : Nat} (h : TripFrame s u c) (h' : TripFrame u v c) : TripFrame s v c := by
  obtain ⟨cu, hu⟩ := h
  obtain ⟨cv, hv⟩ := h'
  refine ⟨fun j hj => (cv j hj).trans (cu j hj), ?_⟩
  conv_lhs => rw [hv, hu]

theorem HoldsOff.tripFrame (h : HoldsOff s u) (c : Nat) : TripFrame s u c := by
  refine ⟨fun j _ => h.cl j, ?_⟩
  conv_lhs => rw [h.1]
  rw [h.1]

theorem tripFrame_setCl (s : State) (c : Nat) (x : Cl) : TripFrame s (s.setCl c x) c :=
  ⟨fun _ hj => (State.cl_setCl ..).trans (if_neg hj), rfl⟩

theorem tripFrame_report (s : State) (c code : Nat) : TripFrame s (s.report code) c := ⟨fun _ _ => rfl, rfl⟩

theorem tripFrame_condOn (s : State) (c code : Nat) : TripFrame s (s.condOn code) c := by
  rcases s.condOn_cases code with ⟨_, h⟩ | ⟨_, h⟩ <;> rw [h] <;> exact ⟨fun _ _ => rfl, rfl⟩

/-! ### A cluster latches (R125) -/

/-- Cluster `c` LATCHED with both sides held off. -/
def State.latchedCl (s : State) (c : Nat) : State := s.setCl c { s.cl c with st := .latched, holdH := true, holdL := true }

theorem holdsOff_latchCl {c : Nat} (hc : c < 12) (h : (s.cl c).st = .running) : HoldsOff (s.latchedCl c) (s.latchCl c) := by
  rw [State.latchCl, if_pos h]
  exact (holdsOff_cutOutputs ..).trans (holdsOff_undoRefreshes hc _)

theorem State.cl_latchCl {c : Nat} (hc : c < 12) (h : (s.cl c).st = .running) :
    (s.latchCl c).cl c = { s.cl c with st := .latched, holdH := true, holdL := true } :=
  ((holdsOff_latchCl hc h).cl c).trans ((State.cl_setCl ..).trans (if_pos rfl))

theorem tripFrame_latchCl {c : Nat} (hc : c < 12) (h : (s.cl c).st = .running) : TripFrame s (s.latchCl c) c :=
  (tripFrame_setCl ..).trans ((holdsOff_latchCl hc h).tripFrame c)

theorem pwmFrame_latchCl {c : Nat} (hc : c < 12) (s : State) : PwmFrame s (s.latchCl c) := by
  by_cases h : (s.cl c).st = .running
  · exact PwmFrame.trans (u := s.latchedCl c) rfl (holdsOff_latchCl hc h).pwmFrame
  · rw [State.latchCl, if_neg h]
    rfl

/-! ### A trip is noted (R127) -/

theorem State.cl_tripNote (s : State) (c : Nat) (is : List Nat) : (s.tripNote c is).cl c =
    { s.cl c with tripHit := is.foldl (fun t i => t ||| (1#4 <<< i)) (s.cl c).tripHit, counted := true } := by
  rw [State.tripNote]
  split
  · exact (State.cl_setCl ..).trans (if_pos rfl)
  · exact (State.cl_setCl ..).trans (if_pos rfl)

theorem tripFrame_tripNote (s : State) (c : Nat) (is : List Nat) : TripFrame s (s.tripNote c is) c := by
  rw [State.tripNote]
  split
  · exact tripFrame_setCl ..
  · exact (tripFrame_setCl ..).trans ⟨fun _ _ => rfl, rfl⟩

/-- The first trip of a period raises its event (R127). -/
theorem State.evBus_tripNote (s : State) (c : Nat) (is : List Nat) :
    (s.tripNote c is).evBus = if (s.cl c).counted then s.evBus else s.evBus ++ [108 + c] := by
  rw [State.tripNote]
  split <;> rfl

theorem State.flt_tripNote (s : State) (c : Nat) (is : List Nat) : (s.tripNote c is).flt = s.flt := by
  rw [State.tripNote]
  split <;> rfl

/-- Of the entries only the trip's own count advances (4.053). -/
theorem State.getKey_tripNote (s : State) (c : Nat) (is : List Nat) {k : Nat} (hk : k ≠ mkKey 4 0x053 c) :
    (s.tripNote c is).getKey k = s.getKey k := by
  rw [State.tripNote]
  split
  · rfl
  · exact (State.getKey_putKey ..).trans (if_neg hk)

/-! ### Effective inputs (R122, R126) -/

/-- The inputs among one are that input, if it is effective. -/
theorem State.tripInputs_single (s : State) (c mode : Nat) (i : Fin 4) :
    s.tripInputs c mode (1#4 <<< i.val) = if s.tripOpen c i mode then [i.val] else [] := by
  have hbit : ∀ i j : Fin 4, (1#4 <<< i.val).getLsbD j.val = decide (j.val = i.val) := by decide
  have hone : ∀ i : Fin 4, (List.range 4).filter (fun j => decide (j = i.val)) = [i.val] := by decide
  have hfilter : s.tripInputs c mode (1#4 <<< i.val) =
      (List.range 4).filter (fun j => decide (j = i.val) && s.tripOpen c i mode) := by
    refine List.filter_congr fun j hj => ?_
    rw [hbit i ⟨j, List.mem_range.1 hj⟩]
    by_cases h : j = i.val <;> simp [h]
  rw [hfilter]
  cases s.tripOpen c i mode
  · simp
  · simpa using hone i

/-- The mode of an input that is not blanked decides whether it is effective. -/
theorem State.tripOpen_of_unblanked {c i : Nat} (h : s.tripCfg c i / 8 % 4 = 0) (mode : Nat) :
    s.tripOpen c i mode = (s.tripCfg c i % 4 == mode) := by
  simp [State.tripOpen, h]

/-- An input that a running timer blanks is effective in no mode (R126). -/
theorem State.tripOpen_of_blanked {c i : Nat}
    (h : (s.tripCfg c i / 8 % 4 = 1 ∨ s.tripCfg c i / 8 % 4 = 3) ∧ (s.cl c).bt[0] = true ∨
      (s.tripCfg c i / 8 % 4 = 2 ∨ s.tripCfg c i / 8 % 4 = 3) ∧ (s.cl c).bt[1] = true) (mode : Nat) : s.tripOpen c i mode = false := by
  rcases h with ⟨hb, ht⟩ | ⟨hb, ht⟩
  · have hget : (s.cl c).bt.getD 0 false = true := by simpa [Vector.getD] using ht
    rcases hb with hb | hb <;> simp [State.tripOpen, hb, hget]
  · have hget : (s.cl c).bt.getD 1 false = true := by simpa [Vector.getD] using ht
    rcases hb with hb | hb <;> simp [State.tripOpen, hb, hget]

/-! ### LATCH trips (R125) -/

/-- Without an effective input, or on a cluster that does not run, a trip changes nothing. -/
theorem State.latchTrip_of_not_running {c : Nat} (h : (s.cl c).st ≠ .running) (is : List Nat) : s.latchTrip c is = s := if_pos (.inr h)

theorem State.cbc_of_not_running {c : Nat} (h : (s.cl c).st ≠ .running) (is : List Nat) : s.cbc c is = s := if_pos (.inl h)

theorem State.cbc_nil (s : State) (c : Nat) : s.cbc c [] = s := if_pos (.inr rfl)

theorem State.latchTrip_nil (s : State) (c : Nat) : s.latchTrip c [] = s := if_pos (.inl rfl)

theorem State.latchTrip_eq {c : Nat} {is : List Nat} (h : (s.cl c).st = .running) (his : is ≠ []) :
    s.latchTrip c is = ((s.tripNote c is).latchCl c).condOn (0x030002 + 256 * c) :=
  if_neg (by simp [h, his])

theorem State.mem_live_condOn (s : State) (code : Nat) : code ∈ (s.condOn code).flt.live := by
  rcases s.condOn_cases code with ⟨h, e⟩ | ⟨_, e⟩
  · rw [e]
    exact h
  · rw [e]
    exact List.mem_append_right _ List.mem_cons_self

theorem State.cl_condOn (s : State) (code j : Nat) : (s.condOn code).cl j = s.cl j := by
  rcases s.condOn_cases code with ⟨_, h⟩ | ⟨_, h⟩ <;> rw [h]
  rfl

/-- The cluster after a LATCH trip: latched, both sides held off, the inputs in TRIP_HIT, TRIPCNT as it was. -/
theorem State.cl_latchTrip {c : Nat} {is : List Nat} (hc : c < 12) (h : (s.cl c).st = .running) (his : is ≠ []) :
    (s.latchTrip c is).cl c = { s.cl c with
      tripHit := is.foldl (fun t i => t ||| (1#4 <<< i)) (s.cl c).tripHit, counted := true, st := .latched, holdH := true, holdL := true } := by
  have hrun : ((s.tripNote c is).cl c).st = .running := by
    rw [State.cl_tripNote]
    exact h
  rw [State.latchTrip_eq h his, State.cl_condOn, State.cl_latchCl hc hrun, State.cl_tripNote]

theorem tripFrame_latchTrip {c : Nat} {is : List Nat} (hc : c < 12) (h : (s.cl c).st = .running) (his : is ≠ []) :
    TripFrame s (s.latchTrip c is) c := by
  have hrun : ((s.tripNote c is).cl c).st = .running := by
    rw [State.cl_tripNote]
    exact h
  rw [State.latchTrip_eq h his]
  exact ((tripFrame_tripNote ..).trans (tripFrame_latchCl hc hrun)).trans (tripFrame_condOn ..)

/-! ### CBC trips (R123, R124) -/

/-- An effective input holds the low side off too, unless its HIGH_OFF bit is set (R123). -/
def State.tripsLow (s : State) (c : Nat) (is : List Nat) : Bool := is.any (fun i => !(s.tripCfg c i).testBit 2)

/-- Cluster `c` after an effective CBC trip: the sides are held off, and the first trip of a period counts. -/
def State.cbcHeld (s : State) (c : Nat) (is : List Nat) : State :=
  let x := s.cl c
  (s.tripNote c is).setCl c { (s.tripNote c is).cl c with
    holdH := true, holdL := x.holdL || s.tripsLow c is
    tripcnt := if x.counted then x.tripcnt else min 255 (x.tripcnt + 1), clean := if x.counted then x.clean else 0 }

/-- The outputs of cluster `c` after a CBC trip, with `x` the cluster before it: marks, pins and refreshes, and a HOLD_OFF where one is due. -/
def State.cbcOutputs (s : State) (c : Nat) (x : Cl) (low : Bool) : State :=
  let s := (clGens c).foldl (fun s g =>
    let y := s.gen g
    (s.setGen g { y with markH := y.markH || y.onAtNext true, markL := y.markL || (low && y.onAtNext false) }).gatePins g true low) s
  let s := s.whenS low (fun s => (clGens c).foldl State.undoRefresh s)
  if x.holdH ∧ (low = false ∨ x.holdL) then s else s.holdGens true (clGens c) (if low then 3 else 1) (s.nextReloadT c)

/-- The state after an effective CBC trip, before TRIP_N decides. -/
def State.cbcDone (s : State) (c : Nat) (is : List Nat) : State := (s.cbcHeld c is).cbcOutputs c (s.cl c) (s.tripsLow c is)

/-- A CBC trip of a running cluster with no LATCH input effective: at TRIP_N the cluster latches (R124). -/
theorem State.cbc_eq {c : Nat} {is : List Nat} (h : (s.cl c).st = .running) (his : is ≠ [])
    (hl : s.tripInputs c 2 (s.tripLive c) = []) : s.cbc c is =
      if (s.cl c).counted = false ∧ (s.cbcDone c is).en 4 0x034 c ≤ ((s.cbcDone c is).cl c).tripcnt then
        ((s.cbcDone c is).latchCl c).report (0x030001 + 256 * c)
      else s.cbcDone c is := by
  have hgo : ¬ ((s.cl c).st ≠ .running ∨ is = []) := by simp [h, his]
  exact (if_neg hgo).trans (if_neg (not_not.2 hl))

theorem holdsOff_cbcOutputs {c : Nat} (hc : c < 12) (s : State) (x : Cl) (low : Bool) : HoldsOff s (s.cbcOutputs c x low) := by
  have hmarks : HoldsOff s ((clGens c).foldl (fun s g =>
      let y := s.gen g
      (s.setGen g { y with markH := y.markH || y.onAtNext true, markL := y.markL || (low && y.onAtNext false) }).gatePins g true low) s) :=
    .foldl fun g _ s => (holdsOff_setGen ..).trans (holdsOff_gatePins ..)
  have hundo (s : State) : HoldsOff s (s.whenS low (fun s => (clGens c).foldl State.undoRefresh s)) := by
    rcases s.whenS_cases low (fun s => (clGens c).foldl State.undoRefresh s) with ⟨-, h⟩ | ⟨-, h⟩ <;> rw [h]
    · exact holdsOff_undoRefreshes hc s
    · exact .refl s
  rw [State.cbcOutputs]
  split
  · exact hmarks.trans (hundo _)
  · exact (hmarks.trans (hundo _)).trans (holdsOff_holdGens ..)

theorem holdsOff_cbcDone {c : Nat} (hc : c < 12) (s : State) (is : List Nat) : HoldsOff (s.cbcHeld c is) (s.cbcDone c is) :=
  holdsOff_cbcOutputs hc ..

/-- The cluster after a CBC trip, before TRIP_N decides. -/
theorem State.cl_cbcDone {c : Nat} (hc : c < 12) (s : State) (is : List Nat) : (s.cbcDone c is).cl c = { s.cl c with
    tripHit := is.foldl (fun t i => t ||| (1#4 <<< i)) (s.cl c).tripHit, counted := true
    holdH := true, holdL := (s.cl c).holdL || s.tripsLow c is
    tripcnt := if (s.cl c).counted then (s.cl c).tripcnt else min 255 ((s.cl c).tripcnt + 1)
    clean := if (s.cl c).counted then (s.cl c).clean else 0 } := by
  rw [(holdsOff_cbcDone hc s is).cl, State.cbcHeld, State.cl_setCl, if_pos rfl, State.cl_tripNote]

theorem tripFrame_cbcDone {c : Nat} (hc : c < 12) (s : State) (is : List Nat) : TripFrame s (s.cbcDone c is) c :=
  ((tripFrame_tripNote ..).trans (tripFrame_setCl ..)).trans ((holdsOff_cbcDone hc s is).tripFrame c)

theorem State.evBus_cbcDone {c : Nat} (hc : c < 12) (s : State) (is : List Nat) :
    (s.cbcDone c is).evBus = if (s.cl c).counted then s.evBus else s.evBus ++ [108 + c] :=
  (holdsOff_cbcDone hc s is).evBus.trans (State.evBus_tripNote ..)

theorem State.flt_cbcDone {c : Nat} (hc : c < 12) (s : State) (is : List Nat) : (s.cbcDone c is).flt = s.flt :=
  (holdsOff_cbcDone hc s is).flt.trans (State.flt_tripNote ..)

/-- TRIP_N is no count of trips or refreshes. -/
theorem State.en_cbcDone {c : Nat} (hc : c < 12) (s : State) (is : List Nat) : (s.cbcDone c is).en 4 0x034 c = s.en 4 0x034 c :=
  ((holdsOff_cbcDone hc s is).2 _ fun _ _ => mkKey_ne (by decide) (by omega) (by omega)).trans
    (State.getKey_tripNote s c is (mkKey_ne (by decide) (by omega) (by omega)))

/-! ### The commands on one effective input -/

theorem doCbcTrip_of_cbc {c : Fin 12} {i : Fin 4} (hm : s.tripCfg c i % 4 = 1) (hb : s.tripCfg c i / 8 % 4 = 0) :
    doCbcTrip c (1#4 <<< i.val) s = s.cbc c [i.val] := by
  simp [doCbcTrip, State.tripInputs_single, State.tripOpen_of_unblanked hb, hm]

/-- LATCH decides over CBC (R127). -/
theorem doCbcTrip_of_latch {c : Fin 12} {i : Fin 4} (hm : s.tripCfg c i % 4 = 2) (hb : s.tripCfg c i / 8 % 4 = 0) :
    doCbcTrip c (1#4 <<< i.val) s = s.latchTrip c [i.val] := by
  simp [doCbcTrip, State.tripInputs_single, State.tripOpen_of_unblanked hb, hm]

theorem doLatchTrip_of_latch {c : Fin 12} {i : Fin 4} (hm : s.tripCfg c i % 4 = 2) (hb : s.tripCfg c i / 8 % 4 = 0) :
    doLatchTrip c (1#4 <<< i.val) s = s.latchTrip c [i.val] := by
  simp [doLatchTrip, State.tripInputs_single, State.tripOpen_of_unblanked hb, hm]

/-- An input that is effective in no mode trips nothing. -/
theorem doTrips_of_not_open {c : Fin 12} {i : Fin 4} (h : ∀ mode, s.tripOpen c i mode = false) :
    doCbcTrip c (1#4 <<< i.val) s = s ∧ doLatchTrip c (1#4 <<< i.val) s = s := by
  simp [doCbcTrip, doLatchTrip, State.tripInputs_single, h, State.cbc_nil, State.latchTrip_nil]

/-- A LATCHED cluster is not changed further (R125). -/
theorem doTrips_of_not_running {c : Fin 12} (h : (s.cl c).st ≠ .running) (ins : BitVec 4) :
    doCbcTrip c ins s = s ∧ doLatchTrip c ins s = s := by
  simp only [doCbcTrip, doLatchTrip, State.latchTrip_of_not_running h, State.cbc_of_not_running h, ite_self, and_self]

end Sys2Proof.Machine
end

section
/-! SUPPORT. What the loss and the return of a monitored clock change (R23, R131, R383). -/

namespace Sys2Proof.Machine

variable {s u v : State}

/-! ### The commands -/

theorem exec_clkLoss (clk : BitVec 8) (s : State) : exec (.clkLoss clk) s = .next (doClkLoss clk s) := rfl

theorem exec_clockReturn (clk : BitVec 8) (s : State) : exec (.clockReturn clk) s = .next (doClockReturn clk s) := rfl

/-! ### Conditions that end -/

/-- From `s` to `u` only the collector, notifications, controllers, entries and deferred writes changed. -/
def ClearFrame (s u : State) : Prop := u = { s with flt := u.flt, ses := u.ses, cans := u.cans, ent := u.ent, nvm := u.nvm }

theorem ClearFrame.trans (h : ClearFrame s u) (h' : ClearFrame u v) : ClearFrame s v := by
  rw [ClearFrame] at *
  conv_lhs => rw [h', h]

/-- From `s` to `u` conditions may have ended: none began to stand, and the wires of the matrix are as they were. -/
def Clears (s u : State) : Prop :=
  ClearFrame s u ∧ (∀ k, k ∈ u.flt.live → k ∈ s.flt.live) ∧ u.flt.src = s.flt.src

theorem Clears.refl (s : State) : Clears s s := ⟨rfl, fun _ h => h, rfl⟩

theorem Clears.trans (h : Clears s u) (h' : Clears u v) : Clears s v := by
  obtain ⟨hu, lu, su⟩ := h
  obtain ⟨hv, lv, sv⟩ := h'
  exact ⟨hu.trans hv, fun k hk => lu k (lv k hk), sv.trans su⟩

theorem Clears.foldl {A : Type} {f : State → A → State} (hf : ∀ s a, Clears s (f s a)) : ∀ (l : List A) (s : State), Clears s (l.foldl f s)
  | [], s => .refl s
  | a :: l, s => (hf s a).trans (Clears.foldl hf l (f s a))

theorem clears_put (s : State) (a e i n : Nat) : Clears s (s.put a e i n) := ⟨rfl, fun _ h => h, rfl⟩

theorem clears_setCan (s : State) (n : Nat) (x : Can) : Clears s (s.setCan n x) := ⟨rfl, fun _ h => h, rfl⟩

theorem clears_setSess (s : State) (n : Nat) (x : Sess) : Clears s (s.setSess n x) := ⟨rfl, fun _ h => h, rfl⟩

theorem clears_notifyOne (s : State) (n : Nat) (x : Notif) : Clears s (s.notifyOne n x) := by
  rw [State.notifyOne]
  split
  · exact .refl s
  · split
    · exact (clears_setSess ..).trans ⟨rfl, fun _ h => h, rfl⟩
    · exact clears_setSess ..

theorem clears_notifyAt (s : State) (t ntype cls : Nat) (body : List Byte) : Clears s (s.notifyAt t ntype cls body) := by
  have hone (s : State) (p : Prop) [Decidable p] (n : Nat) (x : Notif) : Clears s (if p then s else s.notifyOne n x) := by
    split
    · exact .refl s
    · exact clears_notifyOne ..
  exact (hone s _ 0 _).trans (hone _ _ 1 _)

theorem clears_notifyFault (s : State) (t cls : Nat) (body : List Byte) : Clears s (s.notifyFault t cls body) := by
  rw [State.notifyFault]
  split
  · exact .refl s
  · exact clears_notifyAt ..

theorem clears_scCopy (s : State) (seq : Nat) : Clears s (s.scCopy seq) := by
  rw [State.scCopy]
  rcases s.whenS_cases (s.deferring && !s.flt.copies.contains seq) (·.deferOne 1) with ⟨-, h⟩ | ⟨-, h⟩ <;>
    rw [h] <;> exact ⟨rfl, fun _ h => h, rfl⟩

/-- The collector once a condition of a code has returned to 0 (R297, R301). -/
def Flt.goneBy (x : Flt) (code : Nat) (inj : Bool) : Flt :=
  { x with
    latch := x.latch.map (fun l => if l.code = code ∧ l.inj = inj then { l with live := false } else l)
    ring := x.ring.map (fun (p : Nat × ScRec) => (p.1, if p.2.goes (x.recsOf code inj) then { p.2 with gone := true } else p.2)) }

theorem clears_condGone (s : State) (code : Nat) (inj : Bool) : Clears s (s.condGone code inj) :=
  Clears.trans (u := { s with flt := s.flt.goneBy code inj }) ⟨rfl, fun _ h => h, rfl⟩
    (.foldl (fun s _ => (clears_scCopy s _).trans (clears_notifyFault ..)) _ _)

/-- The code of a condition that returns to 0 stands no longer. -/
theorem clears_condOff (s : State) (code : Nat) : Clears s (s.condOff code) ∧ code ∉ (s.condOff code).flt.live := by
  rw [State.condOff]
  split
  · have hlive : Clears s { s with flt := { s.flt with live := s.flt.live.filter (· != code) } } :=
      ⟨rfl, fun k hk => (List.mem_filter.1 hk).1, rfl⟩
    have hgone := clears_condGone { s with flt := { s.flt with live := s.flt.live.filter (· != code) } } code false
    refine ⟨hlive.trans hgone, fun h => ?_⟩
    have hmem := hgone.2.1 code h
    simp at hmem
  · rename_i h
    exact ⟨.refl s, fun hm => h (List.contains_iff_mem.2 hm)⟩

/-! ### Controllers (R382, R383) -/

theorem clears_canTo (s : State) (n : Nat) (x : Can) : Clears s (s.canTo n x) :=
  (clears_setCan s n x).trans ⟨rfl, fun _ h => h, rfl⟩

theorem State.can_canTo (s : State) (n : Nat) (x : Can) : (s.canTo n x).can n = x := (State.can_setCan ..).trans (if_pos rfl)

/-- A controller that is OFF is neither ERROR_PASSIVE nor asked to be ERROR_ACTIVE. -/
theorem State.canConds_of_off {n : Nat} (h : (s.can n).st = .off) : s.canConds n = s.condOff (0x0D0001 + 256 * n) := by
  simp only [State.canConds, h, reduceCtorEq, if_false]

theorem clears_canConds_of_off (s : State) (n : Nat) {x : Can} (h : x.st = .off) : Clears s ((s.canTo n x).canConds n) := by
  rw [State.canConds_of_off (by rw [State.can_canTo, h])]
  exact (clears_canTo ..).trans (clears_condOff ..).1

theorem clears_canOff (s : State) (n : Nat) : Clears s (s.canOff n) := by
  rw [State.canOff]
  exact (clears_put ..).trans (clears_canConds_of_off _ n rfl)

/-! ### A clock is lost -/

/-- A clock is listed as lost, and its condition stands. -/
def State.loseClk (s : State) (c : Nat) : State :=
  ({ s with pwm := { s.pwm with clkLost := s.pwm.clkLost ++ [c] } } : State).condOn (0x0A0001 + 256 * c)

/-- Without CLK_TB matrix source 119 gates the PWMO pins (R131). -/
def State.gatePwmo (s : State) (c : Nat) : State :=
  if c = 0 then [44, 45, 46, 47].foldl (fun s g => s.gatePins g true true) (s.setSrc 119 true) else s

/-- The clusters of the stages that a clock concerns latch (R131). -/
def State.latchClk (s : State) (c : Nat) : State := (s.clkStages c).foldl (fun s g => (s.stageCls g).foldl (fun s k => s.latchCl k) s) s

/-- Without CLK_CAN every controller drops its frame in progress (R383). -/
def State.dropFrames (s : State) (c : Nat) : State :=
  if c = 2 then (List.range 4).foldl (fun s n => s.setCan n { s.can n with wire := none }) s else s

theorem doClkLoss_eq {clk : BitVec 8} (hl : clkListed clk.toNat = true) (hn : clk.toNat ∉ s.pwm.clkLost) :
    doClkLoss clk s = (((s.loseClk clk.toNat).gatePwmo clk.toNat).latchClk clk.toNat).dropFrames clk.toNat := by
  have hgo : ¬ ((!clkListed clk.toNat || s.pwm.clkLost.contains clk.toNat) = true) := by simp [hl, hn]
  exact if_neg hgo

/-- From `s` to `u` only the PWM part, the collector, lanes, controllers and entries changed. -/
def ClkFrame (s u : State) : Prop := u = { s with pwm := u.pwm, flt := u.flt, lanes := u.lanes, cans := u.cans, ent := u.ent }

theorem ClkFrame.trans (h : ClkFrame s u) (h' : ClkFrame u v) : ClkFrame s v := by
  rw [ClkFrame] at *
  conv_lhs => rw [h', h]

theorem PwmFrame.clkFrame (h : PwmFrame s u) : ClkFrame s u := by
  rw [ClkFrame]
  conv_lhs => rw [h]
  rw [h]

theorem PwmFrame.clkLost (h : PwmFrame s u) : u.pwm.clkLost = s.pwm.clkLost := by rw [h]

theorem PwmFrame.flt (h : PwmFrame s u) : u.flt = s.flt := by rw [h]

theorem PwmFrame.cans (h : PwmFrame s u) : u.cans = s.cans := by rw [h]

theorem State.loseClk_spec (s : State) (c : Nat) : ClkFrame s (s.loseClk c) ∧ (s.loseClk c).cans = s.cans ∧
    (s.loseClk c).pwm.clkLost = s.pwm.clkLost ++ [c] ∧ 0x0A0001 + 256 * c ∈ (s.loseClk c).flt.live := by
  have hlive : 0x0A0001 + 256 * c ∈ (s.loseClk c).flt.live := State.mem_live_condOn ..
  obtain ⟨x, hx⟩ : ∃ x, s.loseClk c = { s with pwm := { s.pwm with clkLost := s.pwm.clkLost ++ [c] }, flt := x } := by
    rcases State.condOn_cases { s with pwm := { s.pwm with clkLost := s.pwm.clkLost ++ [c] } } (0x0A0001 + 256 * c) with ⟨_, h⟩ | ⟨_, h⟩
    · exact ⟨s.flt, h⟩
    · exact ⟨_, h⟩
  rw [hx] at hlive ⊢
  exact ⟨rfl, rfl, rfl, hlive⟩

/-- The level of one source changes, and outputs are held off. -/
theorem State.gatePwmo_frame (s : State) (c : Nat) :
    ∃ x, PwmFrame { s with flt := { s.flt with src := x } } (s.gatePwmo c) ∧ (c = 0 → x.getLsbD 119 = true) := by
  rw [State.gatePwmo]
  split
  · refine ⟨s.flt.src ||| (1#128 <<< 119), ?_, fun _ => by simp⟩
    exact HoldsOff.pwmFrame (s := s.setSrc 119 true) (.foldl fun g _ s => holdsOff_gatePins s g true true)
  · exact ⟨s.flt.src, rfl, fun h => absurd h ‹_›⟩

theorem pwmFrame_latchClk (s : State) (c : Nat) : PwmFrame s (s.latchClk c) := by
  refine .foldl fun g _ s => .foldl fun k hk s => pwmFrame_latchCl ?_ s
  exact List.mem_range.1 (List.mem_filter.1 hk).1

/-- A change of several controllers, each by itself. -/
theorem State.foldl_setCan_frame (f : Can → Can) : ∀ (l : List Nat) (s : State),
    l.foldl (fun s n => s.setCan n (f (s.can n))) s = { s with cans := (l.foldl (fun s n => s.setCan n (f (s.can n))) s).cans }
  | [], _ => rfl
  | n :: l, s => State.foldl_setCan_frame f l (s.setCan n (f (s.can n)))

theorem State.can_foldl_setCan (f : Can → Can) (j : Nat) : ∀ {l : List Nat} {s : State}, l.Nodup →
    (l.foldl (fun s n => s.setCan n (f (s.can n))) s).can j = if j ∈ l then f (s.can j) else s.can j
  | [], _, _ => rfl
  | n :: l, s, h => by
    obtain ⟨hn, hl⟩ := List.nodup_cons.1 h
    rw [List.foldl_cons, State.can_foldl_setCan f j hl, State.can_setCan]
    by_cases hj : j = n
    · subst hj
      rw [if_neg hn, if_pos rfl, if_pos List.mem_cons_self]
    · simp only [hj, if_false, List.mem_cons, false_or]

theorem State.dropFrames_frame (s : State) (c : Nat) : s.dropFrames c = { s with cans := (s.dropFrames c).cans } := by
  rw [State.dropFrames]
  split
  · exact State.foldl_setCan_frame (fun x => { x with wire := none }) _ s
  · rfl

theorem State.can_dropFrames {c n : Nat} (hc : c = 2) (hn : n < 4) : (s.dropFrames c).can n = { s.can n with wire := none } := by
  rw [State.dropFrames, if_pos hc]
  exact (State.can_foldl_setCan (fun x => { x with wire := none }) n List.nodup_range).trans (if_pos (List.mem_range.2 hn))

/-- What the loss of a clock that is listed and runs changes. -/
theorem doClkLoss_spec {clk : BitVec 8} (hl : clkListed clk.toNat = true) (hn : clk.toNat ∉ s.pwm.clkLost) :
    let u := doClkLoss clk s
    ClkFrame s u ∧ u.pwm.clkLost = s.pwm.clkLost ++ [clk.toNat] ∧ 0x0A0001 + 256 * clk.toNat ∈ u.flt.live ∧
    (clk.toNat = 0 → u.flt.src.getLsbD 119 = true) ∧
    (clk.toNat = 2 → ∀ n, n < 4 → u.can n = { s.can n with wire := none }) ∧ (clk.toNat ≠ 2 → u.cans = s.cans) := by
  rw [doClkLoss_eq hl hn]
  obtain ⟨hframe, hcans, hlost, hlive⟩ := s.loseClk_spec clk.toNat
  obtain ⟨x, hgate, hsrc⟩ := (s.loseClk clk.toNat).gatePwmo_frame clk.toNat
  have hlatch := hgate.trans (pwmFrame_latchClk _ clk.toNat)
  generalize ((s.loseClk clk.toNat).gatePwmo clk.toNat).latchClk clk.toNat = w at hlatch
  have hw : ClkFrame s w := hframe.trans (ClkFrame.trans (u := { s.loseClk clk.toNat with flt := _ }) rfl hlatch.clkFrame)
  have hdrop := w.dropFrames_frame clk.toNat
  have hcan (n : Nat) : w.can n = s.can n := congrArg (Tab.get (fun _ => Can.reset) · n) (hlatch.cans.trans hcans)
  have hflt : (w.dropFrames clk.toNat).flt = { (s.loseClk clk.toNat).flt with src := x } := by
    rw [hdrop]
    exact hlatch.flt
  refine ⟨hw.trans ?_, ?_, ?_, fun h => ?_, fun h n hlt => ?_, fun h => ?_⟩
  · exact hdrop.trans (by rw [hdrop])
  · rw [hdrop]
    exact hlatch.clkLost.trans hlost
  · rw [hflt]
    exact hlive
  · rw [hflt]
    exact hsrc h
  · rw [State.can_dropFrames h hlt, hcan]
  · rw [State.dropFrames, if_neg h]
    exact hlatch.cans.trans hcans

/-! ### A clock returns -/

/-- A clock is lost no longer, and its condition ends. -/
def State.regainClk (s : State) (c : Nat) : State :=
  ({ s with pwm := { s.pwm with clkLost := s.pwm.clkLost.filter (· != c) } } : State).condOff (0x0A0001 + 256 * c)

/-- With CLK_TB the gate of the PWMO pins ends (R131). -/
def State.releasePwmo (s : State) (c : Nat) : State := if c = 0 then s.setSrc 119 false else s

/-- With CLK_CAN the controllers integrate again, or go OFF where they were to stop (R383). -/
def State.rejoinCans (s : State) (c : Nat) : State :=
  if c = 2 then
    (List.range 4).foldl (fun s n =>
      let x := s.can n
      if x.st = .off then s
      else if x.stopping then s.canOff n
      else (s.canTo n { x with st := .integrating }).condOff (0x0D0001 + 256 * n)) s
  else s

theorem doClockReturn_eq {clk : BitVec 8} (h : clk.toNat ∈ s.pwm.clkLost) :
    doClockReturn clk s = ((s.regainClk clk.toNat).releasePwmo clk.toNat).rejoinCans clk.toNat := by
  have hgo : ¬ ((!s.pwm.clkLost.contains clk.toNat) = true) := by simp [h]
  exact if_neg hgo

theorem doClockReturn_of_not_lost {clk : BitVec 8} (h : clk.toNat ∉ s.pwm.clkLost) : doClockReturn clk s = s :=
  if_pos (by simp [h])

theorem clears_rejoinCans (s : State) (c : Nat) : Clears s (s.rejoinCans c) := by
  rw [State.rejoinCans]
  split
  · refine .foldl (fun s n => ?_) _ _
    simp only
    split
    · exact .refl s
    · split
      · exact clears_canOff s n
      · exact (clears_canTo ..).trans (clears_condOff ..).1
  · exact .refl s

/-- The wire of source 119 alone changes. -/
theorem State.releasePwmo_spec (s : State) (c : Nat) :
    ∃ x, s.releasePwmo c = { s with flt := { s.flt with src := x } } ∧ (c = 0 → x.getLsbD 119 = false) := by
  rw [State.releasePwmo]
  split
  · exact ⟨s.flt.src &&& ~~~(1#128 <<< 119), rfl, fun _ => by simp⟩
  · exact ⟨s.flt.src, rfl, fun h => absurd h ‹_›⟩

/-- What the return of a lost clock changes. -/
theorem doClockReturn_spec {clk : BitVec 8} (h : clk.toNat ∈ s.pwm.clkLost) :
    let u := doClockReturn clk s
    ClearFrame { s with pwm := { s.pwm with clkLost := s.pwm.clkLost.filter (· != clk.toNat) } } u ∧
    0x0A0001 + 256 * clk.toNat ∉ u.flt.live ∧ (clk.toNat = 0 → u.flt.src.getLsbD 119 = false) := by
  rw [doClockReturn_eq h]
  obtain ⟨⟨hoff, -⟩, hnot⟩ :=
    clears_condOff { s with pwm := { s.pwm with clkLost := s.pwm.clkLost.filter (· != clk.toNat) } } (0x0A0001 + 256 * clk.toNat)
  obtain ⟨x, hrel, hsrc⟩ := (s.regainClk clk.toNat).releasePwmo_spec clk.toNat
  obtain ⟨hjoin, hlive, hsame⟩ := clears_rejoinCans ((s.regainClk clk.toNat).releasePwmo clk.toNat) clk.toNat
  have hrelease : ClearFrame (s.regainClk clk.toNat) ((s.regainClk clk.toNat).releasePwmo clk.toNat) := by
    rw [ClearFrame, hrel]
  refine ⟨(hoff.trans hrelease).trans hjoin, fun hm => hnot ?_, fun hc => ?_⟩
  · have := hlive _ hm
    rw [hrel] at this
    exact this
  · rw [hsame, hrel]
    exact hsrc hc

end Sys2Proof.Machine
end

section
/-! SUPPORT. The statement on trips and clocks, settled. -/

namespace Sys2Proof.Machine

variable {s : State}

/-- The low side is held off by an input whose HIGH_OFF bit is clear. -/
theorem State.tripsLow_single (s : State) (c : Nat) (i : Nat) : s.tripsLow c [i] = !(s.tripCfg c i).testBit 2 := by
  simp [State.tripsLow]

/-- A later CBC trip of a period, or one below TRIP_N, leaves the cluster running; at TRIP_N it latches. -/
theorem State.cbc_cases {c : Fin 12} {is : List Nat} (h : (s.cl c).st = .running) (his : is ≠ [])
    (hl : s.tripInputs c 2 (s.tripLive c) = []) (hn : (s.cl c).tripcnt < 255) :
    (((s.cl c).counted = true ∨ (s.cl c).tripcnt + 1 < s.en 4 0x034 c) ∧ s.cbc c is = s.cbcDone c is) ∨
    ((s.cl c).counted = false ∧ s.en 4 0x034 c ≤ (s.cl c).tripcnt + 1 ∧
      s.cbc c is = ((s.cbcDone c is).latchCl c).report (0x030001 + 256 * c)) := by
  rw [State.cbc_eq h his hl, State.en_cbcDone c.isLt, State.cl_cbcDone c.isLt]
  cases hc : (s.cl c).counted with
  | true => exact .inl ⟨.inl rfl, if_neg (by simp)⟩
  | false =>
    have hcnt : min 255 ((s.cl c).tripcnt + 1) = (s.cl c).tripcnt + 1 := by omega
    by_cases hlim : s.en 4 0x034 c ≤ (s.cl c).tripcnt + 1
    · exact .inr ⟨rfl, hlim, if_pos ⟨rfl, by simpa [hcnt] using hlim⟩⟩
    · exact .inl ⟨.inr (by omega), if_neg (by simpa [hcnt] using hlim)⟩

/-- The first trip of a period counts, and raises its event (R124, R127). -/
theorem State.cbcDone_of_first {c : Nat} {is : List Nat} (hc : c < 12) (h : (s.cl c).counted = false) (hn : (s.cl c).tripcnt < 255) :
    ((s.cbcDone c is).cl c).tripcnt = (s.cl c).tripcnt + 1 ∧ ((s.cbcDone c is).cl c).clean = 0 ∧
    (s.cbcDone c is).evBus = s.evBus ++ [108 + c] := by
  rw [State.cl_cbcDone hc, State.evBus_cbcDone hc, h]
  exact ⟨Nat.min_eq_right hn, rfl, rfl⟩

/-- A later one of the period does neither. -/
theorem State.cbcDone_of_counted {c : Nat} {is : List Nat} (hc : c < 12) (h : (s.cl c).counted = true) :
    ((s.cbcDone c is).cl c).tripcnt = (s.cl c).tripcnt ∧ (s.cbcDone c is).evBus = s.evBus := by
  rw [State.cl_cbcDone hc, State.evBus_cbcDone hc, h]
  exact ⟨rfl, rfl⟩

/-- An effective CBC input of a running cluster, as the statement says it. -/
theorem answers_cbcTrip {c : Fin 12} {i : Fin 4} (hst : (s.cl c).st = .running) (hm : s.tripCfg c i % 4 = 1)
    (hb : s.tripCfg c i / 8 % 4 = 0) (hn : (s.cl c).tripcnt < 255) (hl : s.tripInputs c 2 (s.tripLive c) = []) :
    Answers (.cbcTrip c (1#4 <<< i.val)) s (fun u =>
      (u.cl c).tripHit = (s.cl c).tripHit ||| (1#4 <<< i.val) ∧ (u.cl c).counted = true ∧ (u.cl c).holdH = true ∧
      ((s.tripCfg c i).testBit 2 = false → (u.cl c).holdL = true) ∧
      ((s.cl c).counted = true → (u.cl c).tripcnt = (s.cl c).tripcnt ∧ (u.cl c).st = .running ∧ u.evBus = s.evBus) ∧
      ((s.cl c).counted = false →
        (u.cl c).tripcnt = (s.cl c).tripcnt + 1 ∧ (u.cl c).clean = 0 ∧ u.evBus = s.evBus ++ [108 + c.val] ∧
        ((s.cl c).tripcnt + 1 < s.en 4 0x034 c → (u.cl c).st = .running ∧ u.flt = s.flt ∧
          ((s.tripCfg c i).testBit 2 = true → (u.cl c).holdL = (s.cl c).holdL)) ∧
        (s.en 4 0x034 c ≤ (s.cl c).tripcnt + 1 → (u.cl c).st = .latched ∧ ⟨0x030001 + 256 * c.val, false⟩ ∈ u.flt.reports)) ∧
      TripFrame s u c) := by
  have hcl := State.cl_cbcDone c.isLt s [i.val]
  have hrun : ((s.cbcDone c [i.val]).cl c).st = .running := (congrArg Cl.st hcl).trans hst
  have hhit : ((s.cbcDone c [i.val]).cl c).tripHit = (s.cl c).tripHit ||| (1#4 <<< i.val) := congrArg Cl.tripHit hcl
  have hseen : ((s.cbcDone c [i.val]).cl c).counted = true := congrArg Cl.counted hcl
  have hlow : ((s.cbcDone c [i.val]).cl c).holdL = ((s.cl c).holdL || !(s.tripCfg c i).testBit 2) := by
    rw [hcl, State.tripsLow_single]
  have hframe := tripFrame_cbcDone c.isLt s [i.val]
  refine ⟨_, exec_cbcTrip .., ?_⟩
  rw [doCbcTrip_of_cbc hm hb]
  rcases s.cbc_cases hst (List.cons_ne_nil i.val []) hl hn with ⟨hgo, hu⟩ | ⟨hfirst, hlim, hu⟩
  · rw [hu]
    refine ⟨hhit, hseen, congrArg Cl.holdH hcl, fun hf => by simp [hlow, hf], fun hcounted => ?_, fun hfirst => ?_, hframe⟩
    · obtain ⟨hcnt, hev⟩ := State.cbcDone_of_counted (is := [i.val]) c.isLt hcounted
      exact ⟨hcnt, hrun, hev⟩
    · obtain ⟨hcnt, hclean, hev⟩ := State.cbcDone_of_first (is := [i.val]) c.isLt hfirst hn
      have hbelow : (s.cl c).tripcnt + 1 < s.en 4 0x034 c := hgo.resolve_left (by simp [hfirst])
      exact ⟨hcnt, hclean, hev, fun _ => ⟨hrun, State.flt_cbcDone c.isLt .., fun hf => by simp [hlow, hf]⟩, fun hlim => by omega⟩
  · have hlatched := holdsOff_latchCl c.isLt hrun
    have hclu := State.cl_latchCl c.isLt hrun
    obtain ⟨hcnt, hclean, hev⟩ := State.cbcDone_of_first (is := [i.val]) c.isLt hfirst hn
    rw [hu]
    refine ⟨(congrArg Cl.tripHit hclu).trans hhit, (congrArg Cl.counted hclu).trans hseen, congrArg Cl.holdH hclu,
      fun _ => congrArg Cl.holdL hclu, fun h => absurd (h.symm.trans hfirst) (by decide), fun _ => ?_,
      (hframe.trans (tripFrame_latchCl c.isLt hrun)).trans (tripFrame_report ..)⟩
    exact ⟨(congrArg Cl.tripcnt hclu).trans hcnt, (congrArg Cl.clean hclu).trans hclean, hlatched.evBus.trans hev,
      fun h => by omega, fun _ => ⟨congrArg Cl.st hclu, List.mem_append_right _ List.mem_cons_self⟩⟩

/-- An effective LATCH input of a running cluster, as the statement says it. -/
theorem answers_latch {c : Fin 12} {i : Fin 4} {r : Instr} (hst : (s.cl c).st = .running) (hr : exec r s = .next (s.latchTrip c [i.val])) :
    Answers r s (fun u =>
      (u.cl c).st = .latched ∧ (u.cl c).holdH = true ∧ (u.cl c).holdL = true ∧ (u.cl c).tripHit = (s.cl c).tripHit ||| (1#4 <<< i.val) ∧
      (u.cl c).tripcnt = (s.cl c).tripcnt ∧ 0x030002 + 256 * c.val ∈ u.flt.live ∧ TripFrame s u c) := by
  have hcl := State.cl_latchTrip c.isLt hst (List.cons_ne_nil i.val [])
  have hlive : 0x030002 + 256 * c.val ∈ (s.latchTrip c [i.val]).flt.live := by
    rw [State.latchTrip_eq hst (List.cons_ne_nil _ _)]
    exact State.mem_live_condOn ..
  exact ⟨_, hr, congrArg Cl.st hcl, congrArg Cl.holdH hcl, congrArg Cl.holdL hcl, congrArg Cl.tripHit hcl, by rw [hcl], hlive,
    tripFrame_latchTrip c.isLt hst (List.cons_ne_nil _ _)⟩

/-- Settles O30: a trip holds the outputs of its cluster off, which touches generators and lanes alone, and then one of its cases decides; the steps
of a lost clock and of its return change different parts of the state. -/
theorem tripsAndClocks : Obligations.TripsAndClocks := by
  intro s c i clk y f ins code
  refine ⟨answers_cbcTrip, fun r hst hm hb hr => answers_latch hst ?_, fun hb => ?_, fun hst => ?_,
    fun hlist hlost => ⟨_, exec_clkLoss .., ?_⟩, fun hlost => ⟨_, exec_clockReturn .., ?_⟩, fun hlost => ?_⟩
  · rcases hr with rfl | rfl
    · exact (exec_latchTrip ..).trans (congrArg _ (doLatchTrip_of_latch hm hb))
    · exact (exec_cbcTrip ..).trans (congrArg _ (doCbcTrip_of_latch hm hb))
  · obtain ⟨hcbc, hlatch⟩ := doTrips_of_not_open (i := i) (State.tripOpen_of_blanked hb)
    exact ⟨congrArg _ hcbc, congrArg _ hlatch⟩
  · obtain ⟨hcbc, hlatch⟩ := doTrips_of_not_running (by rw [hst]; decide) ins
    exact ⟨congrArg _ hcbc, congrArg _ hlatch⟩
  · obtain ⟨hframe, hclk, hlive, hsrc, hwire, hcans⟩ := doClkLoss_spec hlist hlost
    refine ⟨hclk, hlive, fun h => hsrc (by rw [h]; rfl), fun h => hwire (by rw [h]; rfl), fun h => hcans ?_, hframe⟩
    exact fun h2 => h (BitVec.eq_of_toNat_eq h2)
  · obtain ⟨hframe, hlive, hsrc⟩ := doClockReturn_spec hlost
    have hclk : (doClockReturn clk s).pwm = { s.pwm with clkLost := s.pwm.clkLost.filter (· != clk.toNat) } := by
      rw [hframe]
    refine ⟨?_, hlive, fun h => hsrc (by rw [h]; rfl), fun j => ?_, ?_⟩
    · rw [hclk]
      simp
    · rw [State.cl, hclk]
      rfl
    · conv_lhs => rw [hframe]
      rw [hclk]
  · exact congrArg _ (doClockReturn_of_not_lost hlost)

end Sys2Proof.Machine
end

section
/-! SUPPORT. The words of the engines' instructions (R38 to R41): the fields of a word, the formats that join them, and the two directions of
the encoding, which settle the statement on it. -/

namespace Sys2Proof.Machine

/-! ### Fields of a word (R38) -/

theorem word_toNat (c : BitVec 4) (op : BitVec 6) (o : BitVec 14) :
    (word c op o).toNat = c.toNat * 2 ^ 20 + op.toNat * 2 ^ 14 + o.toNat := by
  have hop := op.isLt
  have ho := o.isLt
  rw [word, BitVec.toNat_append, BitVec.toNat_append, ← Nat.shiftLeft_add_eq_or_of_lt ho, ← Nat.shiftLeft_add_eq_or_of_lt hop,
    Nat.shiftLeft_eq, Nat.shiftLeft_eq]
  omega

theorem iw_toNat (w : Word) (lo n : Nat) : (iw w lo n).toNat = w.toNat / 2 ^ lo % 2 ^ n := by
  rw [iw, BitVec.extractLsb'_toNat, Nat.shiftRight_eq_div_pow]

@[simp] theorem iw_word_cond (c : BitVec 4) (op : BitVec 6) (o : BitVec 14) : iw (word c op o) 20 4 = c := by
  apply BitVec.eq_of_toNat_eq
  rw [iw_toNat, word_toNat]
  have := c.isLt; have := op.isLt; have := o.isLt
  omega

@[simp] theorem opOf_word (c : BitVec 4) (op : BitVec 6) (o : BitVec 14) : opOf (word c op o) = op.toNat := by
  rw [opOf, iw_toNat, word_toNat]
  have := c.isLt; have := op.isLt; have := o.isLt
  omega

/-- A field within the operands. -/
theorem iw_word_operands (c : BitVec 4) (op : BitVec 6) (o : BitVec 14) {lo n : Nat} (h : lo + n ≤ 14) :
    iw (word c op o) lo n = o.extractLsb' lo n := by
  rw [iw, word, BitVec.extractLsb'_append_eq_of_add_le h]

/-- Two adjacent fields are one. -/
theorem iw_append_iw (w : Word) (lo m n : Nat) : iw w (lo + n) m ++ iw w lo n = iw w lo (m + n) :=
  BitVec.extractLsb'_append_extractLsb'_eq_extractLsb' (by omega)

/-- A word is made of its COND, its OP and its operands. -/
theorem word_of_fields (w : Word) : word (iw w 20 4) (iw w 14 6) (iw w 0 14) = w := by
  apply BitVec.eq_of_toNat_eq
  rw [word_toNat, iw_toNat, iw_toNat, iw_toNat]
  have := w.isLt
  omega

/-- The bits of one field of the operands. -/
theorem and_fieldBits (x lo n : Nat) (h : lo + n ≤ 14) : x % 16384 &&& (2 ^ n - 1) * 2 ^ lo = x / 2 ^ lo % 2 ^ n * 2 ^ lo := by
  apply Nat.eq_of_testBit_eq
  intro i
  rw [Nat.testBit_and, Nat.testBit_mul_two_pow, Nat.testBit_mul_two_pow, Nat.testBit_two_pow_sub_one, Nat.testBit_mod_two_pow,
    Nat.testBit_div_two_pow, show (16384 : Nat) = 2 ^ 14 from rfl, Nat.testBit_mod_two_pow]
  by_cases h1 : lo ≤ i
  · by_cases h2 : i - lo < n
    · rw [Nat.sub_add_cancel h1]; simp [h1, h2, show i < 14 by omega]
    · simp [h2]
  · simp [h1]

theorem fieldBits_iff (w : Word) (lo n : Nat) (h : lo + n ≤ 14) :
    w.toNat % 16384 &&& (2 ^ n - 1) * 2 ^ lo = 0 ↔ iw w lo n = 0#n := by
  rw [and_fieldBits _ _ _ h, ← iw_toNat, Nat.mul_eq_zero, or_iff_left (by positivity)]
  exact ⟨fun e => BitVec.eq_of_toNat_eq (by simpa using e), fun e => by rw [e]; rfl⟩

/-- The reserved fields of an opcode's operands (R40, R41), each by its lowest bit and its width. -/
def reservedFields (op : Nat) : List (Nat × Nat) :=
  match op with
  | 0x00 | 0x07 | 0x37 | 0x3B | 0x3F => [(0, 14)]
  | 0x01 | 0x0C | 0x0D | 0x13 | 0x19 | 0x1B | 0x1C | 0x1D | 0x34 | 0x35 | 0x3A => [(2, 4)]
  | 0x03 | 0x32 | 0x33 | 0x3E => [(0, 10)]
  | 0x04 | 0x05 => [(6, 4)]
  | 0x06 => [(6, 8)]
  | 0x20 | 0x21 => [(0, 2)]
  | 0x23 => [(0, 6)]
  | 0x28 | 0x29 | 0x2A | 0x2B | 0x2C => [(11, 3)]
  | 0x2D => [(11, 3), (6, 4)]
  | 0x2E | 0x2F => [(2, 7)]
  | 0x38 | 0x39 => [(13, 1)]
  | _ => []

/-- The bits of some fields. -/
def fieldMask (l : List (Nat × Nat)) : Nat := l.foldr (fun p m => (2 ^ p.2 - 1) * 2 ^ p.1 ||| m) 0

theorem opReserved_eq (op : Nat) : opReserved op = fieldMask (reservedFields op) := by
  unfold opReserved
  split
  case h_37 => simp_all [reservedFields, fieldMask]
  all_goals rfl

theorem reservedFields_le (op : Nat) : ∀ p ∈ reservedFields op, p.1 + p.2 ≤ 14 := by
  unfold reservedFields
  split <;> decide

/-- The bits of some fields are 0 where each of the fields is. -/
theorem fieldMask_iff (w : Word) : ∀ {l : List (Nat × Nat)}, (∀ p ∈ l, p.1 + p.2 ≤ 14) →
    (w.toNat % 16384 &&& fieldMask l = 0 ↔ ∀ p ∈ l, iw w p.1 p.2 = 0)
  | [], _ => by simp [fieldMask]
  | p :: l, h => by
    obtain ⟨hp, hl⟩ := List.forall_mem_cons.1 h
    rw [List.forall_mem_cons, ← fieldMask_iff w hl]
    refine Iff.trans ?_ (and_congr_left' (fieldBits_iff w p.1 p.2 hp))
    rw [← Nat.or_eq_zero_iff, ← Nat.and_or_distrib_left]
    rfl

theorem opReserved_iff (w : Word) (op : Nat) :
    w.toNat % 16384 &&& opReserved op = 0 ↔ ∀ p ∈ reservedFields op, iw w p.1 p.2 = 0 := by
  rw [opReserved_eq, fieldMask_iff w (reservedFields_le op)]

/-! ### The formats (R40), each named by the widths of its fields -/

theorem append_fields_inj {a b : Nat} {x x' : BitVec a} {y y' : BitVec b} (h : x ++ y = x' ++ y') : x = x' ∧ y = y' := by
  constructor
  · have := congrArg (BitVec.extractLsb' b a) h
    rwa [BitVec.extractLsb'_append_eq_left, BitVec.extractLsb'_append_eq_left] at this
  · have := congrArg (BitVec.extractLsb' 0 b) h
    rwa [BitVec.extractLsb'_append_eq_right, BitVec.extractLsb'_append_eq_right] at this

/-- A field of two parts. -/
theorem iw_eq_append (w : Word) (lo a b : Nat) (x : BitVec a) (y : BitVec b) :
    iw w lo (a + b) = x ++ y ↔ iw w (lo + b) a = x ∧ iw w lo b = y := by
  rw [← iw_append_iw]
  exact ⟨append_fields_inj, fun ⟨h, h'⟩ => by rw [h, h']⟩

@[simp] theorem format_4_10 (w : Word) (a : BitVec 4) (b : BitVec 10) :
    iw w 0 14 = a ++ b ↔ iw w 10 4 = a ∧ iw w 0 10 = b :=
  iw_eq_append w 0 4 10 _ _

@[simp] theorem format_8_6 (w : Word) (a : BitVec 8) (b : BitVec 6) :
    iw w 0 14 = a ++ b ↔ iw w 6 8 = a ∧ iw w 0 6 = b :=
  iw_eq_append w 0 8 6 _ _

@[simp] theorem format_1_13 (w : Word) (a : BitVec 1) (b : BitVec 13) :
    iw w 0 14 = a ++ b ↔ iw w 13 1 = a ∧ iw w 0 13 = b :=
  iw_eq_append w 0 1 13 _ _

@[simp] theorem format_4_4_6 (w : Word) (a : BitVec 4) (b : BitVec 4) (c : BitVec 6) :
    iw w 0 14 = a ++ b ++ c ↔ (iw w 10 4 = a ∧ iw w 6 4 = b) ∧ iw w 0 6 = c :=
  (iw_eq_append w 0 8 6 _ _).trans (and_congr_left fun _ => iw_eq_append w 6 4 4 _ _)

@[simp] theorem format_4_4_4_2 (w : Word) (a : BitVec 4) (b : BitVec 4) (c : BitVec 4) (d : BitVec 2) :
    iw w 0 14 = a ++ b ++ c ++ d ↔ ((iw w 10 4 = a ∧ iw w 6 4 = b) ∧ iw w 2 4 = c) ∧ iw w 0 2 = d :=
  (iw_eq_append w 0 12 2 _ _).trans (and_congr_left fun _ => (iw_eq_append w 2 8 4 _ _).trans (and_congr_left fun _ => iw_eq_append w 6 4 4 _ _))

@[simp] theorem format_2_2_4_6 (w : Word) (a : BitVec 2) (b : BitVec 2) (c : BitVec 4) (d : BitVec 6) :
    iw w 0 14 = a ++ b ++ c ++ d ↔ ((iw w 12 2 = a ∧ iw w 10 2 = b) ∧ iw w 6 4 = c) ∧ iw w 0 6 = d :=
  (iw_eq_append w 0 8 6 _ _).trans (and_congr_left fun _ => (iw_eq_append w 6 4 4 _ _).trans (and_congr_left fun _ => iw_eq_append w 10 2 2 _ _))

@[simp] theorem format_4_2_2_6 (w : Word) (a : BitVec 4) (b : BitVec 2) (c : BitVec 2) (d : BitVec 6) :
    iw w 0 14 = a ++ b ++ c ++ d ↔ ((iw w 10 4 = a ∧ iw w 8 2 = b) ∧ iw w 6 2 = c) ∧ iw w 0 6 = d :=
  (iw_eq_append w 0 8 6 _ _).trans (and_congr_left fun _ => (iw_eq_append w 6 6 2 _ _).trans (and_congr_left fun _ => iw_eq_append w 8 4 2 _ _))

@[simp] theorem format_3_1_8_2 (w : Word) (a : BitVec 3) (b : BitVec 1) (c : BitVec 8) (d : BitVec 2) :
    iw w 0 14 = a ++ b ++ c ++ d ↔ ((iw w 11 3 = a ∧ iw w 10 1 = b) ∧ iw w 2 8 = c) ∧ iw w 0 2 = d :=
  (iw_eq_append w 0 12 2 _ _).trans (and_congr_left fun _ => (iw_eq_append w 2 4 8 _ _).trans (and_congr_left fun _ => iw_eq_append w 10 3 1 _ _))

@[simp] theorem format_3_1_4_6 (w : Word) (a : BitVec 3) (b : BitVec 1) (c : BitVec 4) (d : BitVec 6) :
    iw w 0 14 = a ++ b ++ c ++ d ↔ ((iw w 11 3 = a ∧ iw w 10 1 = b) ∧ iw w 6 4 = c) ∧ iw w 0 6 = d :=
  (iw_eq_append w 0 8 6 _ _).trans (and_congr_left fun _ => (iw_eq_append w 6 4 4 _ _).trans (and_congr_left fun _ => iw_eq_append w 10 3 1 _ _))

@[simp] theorem format_4_1_7_2 (w : Word) (a : BitVec 4) (b : BitVec 1) (c : BitVec 7) (d : BitVec 2) :
    iw w 0 14 = a ++ b ++ c ++ d ↔ ((iw w 10 4 = a ∧ iw w 9 1 = b) ∧ iw w 2 7 = c) ∧ iw w 0 2 = d :=
  (iw_eq_append w 0 12 2 _ _).trans (and_congr_left fun _ => (iw_eq_append w 2 5 7 _ _).trans (and_congr_left fun _ => iw_eq_append w 9 4 1 _ _))

@[simp] theorem format_2_2_4_4_2 (w : Word) (a : BitVec 2) (b : BitVec 2) (c : BitVec 4) (d : BitVec 4) (e : BitVec 2) :
    iw w 0 14 = a ++ b ++ c ++ d ++ e ↔ (((iw w 12 2 = a ∧ iw w 10 2 = b) ∧ iw w 6 4 = c) ∧ iw w 2 4 = d) ∧ iw w 0 2 = e :=
  (iw_eq_append w 0 12 2 _ _).trans (and_congr_left fun _ => (iw_eq_append w 2 8 4 _ _).trans (and_congr_left fun _ =>
    (iw_eq_append w 6 4 4 _ _).trans (and_congr_left fun _ => iw_eq_append w 10 2 2 _ _)))

@[simp] theorem format_3_1_4_4_2 (w : Word) (a : BitVec 3) (b : BitVec 1) (c : BitVec 4) (d : BitVec 4) (e : BitVec 2) :
    iw w 0 14 = a ++ b ++ c ++ d ++ e ↔ (((iw w 11 3 = a ∧ iw w 10 1 = b) ∧ iw w 6 4 = c) ∧ iw w 2 4 = d) ∧ iw w 0 2 = e :=
  (iw_eq_append w 0 12 2 _ _).trans (and_congr_left fun _ => (iw_eq_append w 2 8 4 _ _).trans (and_congr_left fun _ =>
    (iw_eq_append w 6 4 4 _ _).trans (and_congr_left fun _ => iw_eq_append w 10 3 1 _ _)))

@[simp] theorem format_2_2_2_2_6 (w : Word) (a : BitVec 2) (b : BitVec 2) (c : BitVec 2) (d : BitVec 2) (e : BitVec 6) :
    iw w 0 14 = a ++ b ++ c ++ d ++ e ↔ (((iw w 12 2 = a ∧ iw w 10 2 = b) ∧ iw w 8 2 = c) ∧ iw w 6 2 = d) ∧ iw w 0 6 = e :=
  (iw_eq_append w 0 8 6 _ _).trans (and_congr_left fun _ => (iw_eq_append w 6 6 2 _ _).trans (and_congr_left fun _ =>
    (iw_eq_append w 8 4 2 _ _).trans (and_congr_left fun _ => iw_eq_append w 10 2 2 _ _)))

theorem iw_eq_ofBool (w : Word) (lo : Nat) (b : Bool) : iw w lo 1 = BitVec.ofBool b ↔ w.getLsbD lo = b := by
  rw [BitVec.eq_of_getLsbD_eq_iff, iw]
  simp [BitVec.getLsbD_extractLsb']

@[simp] theorem format_4_4_5_flag (w : Word) (a b : BitVec 4) (c : BitVec 5) (d : Bool) :
    iw w 0 14 = a ++ b ++ c ++ BitVec.ofBool d ↔ ((iw w 10 4 = a ∧ iw w 6 4 = b) ∧ iw w 1 5 = c) ∧ w.getLsbD 0 = d :=
  (iw_eq_append w 0 13 1 _ _).trans (and_congr ((iw_eq_append w 1 8 5 _ _).trans (and_congr_left fun _ => iw_eq_append w 6 4 4 _ _))
    (iw_eq_ofBool w 0 d))

/-- A word is known by its three parts. -/
@[simp] theorem word_eq_iff (w : Word) (c : BitVec 4) (op : BitVec 6) (o : BitVec 14) :
    word c op o = w ↔ iw w 20 4 = c ∧ opOf w = op.toNat ∧ iw w 0 14 = o := by
  constructor
  · rintro rfl
    exact ⟨iw_word_cond .., opOf_word .., (iw_word_operands c op o (Nat.le_refl 14)).trans BitVec.extractLsb'_eq_self⟩
  · rintro ⟨rfl, hop, rfl⟩
    rw [← BitVec.eq_of_toNat_eq hop, word_of_fields]

/-! ### Register fields -/

@[simp] theorem r4_toFin (i : Fin 16) : (r4 i).toFin = i := rfl
@[simp] theorem r2_toFin (i : Fin 4) : (r2 i).toFin = i := rfl
@[simp] theorem r1_toFin (i : Fin 2) : (r1 i).toFin = i := rfl
@[simp] theorem r4_of_toFin (v : BitVec 4) : r4 v.toFin = v := rfl
@[simp] theorem r2_of_toFin (v : BitVec 2) : r2 v.toFin = v := rfl
@[simp] theorem r1_of_toFin (v : BitVec 1) : r1 v.toFin = v := rfl

/-! ### Decoding and encoding -/

/-- A word decodes only where its reserved fields are 0. -/
def FieldsOk (w : Word) : Prop := ∀ p ∈ reservedFields (opOf w), iw w p.1 p.2 = 0

theorem decodeWord_of_not_fieldsOk {w : Word} (h : ¬ FieldsOk w) (e : Fin 16) (x : Word) : decodeWord e w x = .illegalOp e :=
  if_pos (mt (opReserved_iff w _).1 h)

theorem FieldsOk.mask {w : Word} (h : FieldsOk w) : ¬ w.toNat % 16384 &&& opReserved (opOf w) ≠ 0 :=
  not_not_intro ((opReserved_iff w _).2 h)

/-- The words that an instruction spells leave the reserved fields 0. -/
theorem fieldsOk_of_engineWords {i : Instr} {w x : Word} (hw : engineWords i = some (w, x)) : FieldsOk w := by
  unfold engineWords at hw
  split at hw <;> simp at hw
  all_goals
    obtain ⟨⟨-, hop, ho⟩, -⟩ := hw
    simp [FieldsOk, hop, reservedFields, ho]

/-- What a word spells decodes to the instruction that spells it. -/
theorem decodeWord_of_engineWords {i : Instr} {e : Fin 16} {w x : Word} (hw : engineWords i = some (w, x)) (he : engineOf i = some e) :
    decodeWord e w x = i := by
  have hok := (fieldsOk_of_engineWords hw).mask
  unfold engineWords at hw
  split at hw <;> simp [engineOf] at hw he
  all_goals
    obtain ⟨⟨hc, hop, ho⟩, rfl⟩ := hw
    subst he
    rw [decodeWord, if_neg hok, hop]
    simp [hc, ho]

/-- A word that decodes to an instruction is the word that spells it. -/
theorem engineWords_decodeWord {e : Fin 16} {w x : Word} (hop : opOf w ∉ [0x2B, 0x2C, 0x3A, 0x3C]) (hok : FieldsOk w) :
    decodeWord e w x = .illegalOp e ∨ ∃ y, engineWords (decodeWord e w x) = some (w, y) ∧ (y = x ∨ y = 0) := by
  have hr := hok.mask
  unfold FieldsOk at hok
  rw [decodeWord, if_neg hr]
  split <;> rename_i h
  case h_60 => exact .inl rfl
  case h_40 | h_41 | h_54 | h_56 => exact absurd (by rw [h]; decide) hop
  all_goals
    simp [h, reservedFields] at hok
    simp [engineWords, h, hok]

/-- Settles O58: the fields of a word are those of the instruction that spells it, and the words with a reserved field that is not 0 spell none. -/
theorem engineWordsDecode : Obligations.EngineWordsDecode := by
  refine ⟨fun i e w x hw he => decodeWord_of_engineWords hw he, fun e w x hop => ?_⟩
  by_cases hok : FieldsOk w
  · exact engineWords_decodeWord hop hok
  · exact .inl (decodeWord_of_not_fieldsOk hok e x)

end Sys2Proof.Machine
end

section
/-! SUPPORT. How an engine issues an instruction (R39, R55, R57): which state the effect of an instruction acts on when a task issues it, how
execution goes on behind it (R51), and that an instruction which touches registers only completes as the statements say. -/

namespace Sys2Proof.Machine

variable {s u v : State} {e : Fin 16} {c : BitVec 4} {regs : List (Fin 16)} {t k : Nat}

/-! ### Hardware loops (R51) -/

/-- What the flow of control reads of a context is the same: its pc and its loops. -/
def SameFlow (x y : Ctx) : Prop :=
  y.pc = x.pc ∧ y.loops = x.loops ∧ y.lc = x.lc ∧ y.loopStart = x.loopStart ∧ y.loopEnd = x.loopEnd

/-- The end of a loop body changes counters and the number of active loops alone. -/
theorem Ctx.loopBack_frame (a : Nat) : ∀ (n : Nat) (x : Ctx) (next : Nat),
    (Ctx.loopBack a n x next).1 = { x with lc := (Ctx.loopBack a n x next).1.lc, loops := (Ctx.loopBack a n x next).1.loops }
  | 0, _, _ => rfl
  | n + 1, x, next => by
    rw [Ctx.loopBack]
    split
    · dsimp only
      split
      · rfl
      · rw [Ctx.loopBack_frame a n]
    · exact Ctx.loopBack_frame a n x next

/-- What the end of a loop body does follows from counters and bodies alone. -/
theorem Ctx.loopBack_congr (a : Nat) : ∀ (n : Nat) (x y : Ctx) (next : Nat), y.loops = x.loops → y.lc = x.lc → y.loopStart = x.loopStart →
    y.loopEnd = x.loopEnd → (Ctx.loopBack a n y next).2 = (Ctx.loopBack a n x next).2 ∧
      (Ctx.loopBack a n y next).1.lc = (Ctx.loopBack a n x next).1.lc ∧ (Ctx.loopBack a n y next).1.loops = (Ctx.loopBack a n x next).1.loops
  | 0, _, _, _, hn, hc, _, _ => ⟨rfl, hc, hn⟩
  | n + 1, x, y, next, hn, hc, hs, he => by
    rw [Ctx.loopBack, Ctx.loopBack, hc, hs, he]
    split
    · dsimp only
      split
      · exact ⟨rfl, rfl, rfl⟩
      · exact Ctx.loopBack_congr a n _ _ next rfl rfl rfl rfl
    · exact Ctx.loopBack_congr a n x y next hn hc hs he

theorem SameFlow.nextFetch {x y : Ctx} (h : SameFlow x y) (words : Nat) : y.nextFetch words = x.nextFetch words := by
  obtain ⟨hp, hn, hc, hs, he⟩ := h
  rw [Ctx.nextFetch, Ctx.nextFetch, hp, hn]
  exact (Ctx.loopBack_congr _ _ x y _ hn hc hs he).1

/-- The context behind an instruction of `words` words that does not branch. -/
def Ctx.advanced (x : Ctx) (words : Nat) : Ctx :=
  { (Ctx.loopBack (x.pc.toNat + words - 1) x.loops x (x.pc.toNat + words)).1 with pc := BitVec.ofNat 13 (x.nextFetch words) }

/-- Context `y` is `x` but for the passing of time. -/
def TimeOnly (x y : Ctx) : Prop :=
  y = { x with cyc := y.cyc, budget := y.budget, rdy := y.rdy, acRdy := y.acRdy, cordic := y.cordic }

theorem TimeOnly.sameFlow {x y : Ctx} (h : TimeOnly x y) : SameFlow x y := by
  rw [h]; exact ⟨rfl, rfl, rfl, rfl, rfl⟩

theorem Ctx.advanced_eq_after {x y : Ctx} (h : TimeOnly x y) (words : Nat) : y.advanced words = x.after (y.advanced words) words := by
  have hnext := SameFlow.nextFetch h.sameFlow words
  obtain ⟨hp, hn, hc, hs, he⟩ := h.sameFlow
  obtain ⟨-, hlc, hloops⟩ := Ctx.loopBack_congr (x.pc.toNat + words - 1) x.loops x y (x.pc.toNat + words) hn hc hs he
  rw [Ctx.advanced, hnext, hp, hn, Ctx.loopBack_frame, hlc, hloops, h]
  rfl

/-! ### Only a context changes -/

theorem OnlyContext.setCtx (h : OnlyContext s u e t k) (x : Ctx) : OnlyContext s (u.setCtx k x) e t k := by
  obtain ⟨hu, hctx, heng⟩ := h
  refine ⟨?_, fun j hj => (State.ctx_setCtx_ne hj x).trans (hctx j hj), heng⟩
  rw [State.setCtx, hu]

/-- The state on which an issued instruction of task `t` has its effect: `n` cycles are charged to its context `k`. -/
def State.issued (s : State) (e t k n : Nat) : State := (s.setEng e { s.eng e with last := some t }).spend e k n

theorem State.ctx_issued (s : State) (e t k n j : Nat) : (s.issued e t k n).ctx j = if j = k then (s.ctx k).charge n else s.ctx j :=
  State.ctx_setCtx ..

theorem State.eng_issued (s : State) (e t k n j : Nat) :
    (s.issued e t k n).eng j = if j = e then { s.eng e with last := some t, held := (s.eng e).held + n } else s.eng j := by
  refine (State.eng_setEng ..).trans ?_
  rw [State.eng_setEng, State.eng_setEng, if_pos rfl]
  split <;> rfl

theorem onlyContext_issued (s : State) (e : Fin 16) (t k n : Nat) : OnlyContext s (s.issued e t k n) e t k := by
  refine ⟨rfl, fun j hj => (State.ctx_issued ..).trans (if_neg hj), fun j => ?_⟩
  rw [State.eng_issued, State.eng_issued, if_pos rfl]

theorem State.inCode_issued (s : State) (e' t k n t' : Nat) (e : Fin 16) (a : Nat) :
    (s.issued e' t k n).inCode t' e a ↔ s.inCode t' e a := Iff.rfl

/-! ### Execution goes on -/

theorem State.goto_of_inCode {a : Nat} (h : s.inCode t e a) (k : Nat) :
    s.goto t e k a = s.setCtx k { s.ctx k with pc := BitVec.ofNat 13 a } := if_pos h

theorem State.advance_eq {words : Nat} (hw : 1 ≤ words) (h : s.inCode t e ((s.ctx k).nextFetch words)) :
    s.advance t e k words = (s.setCtx k (Ctx.loopBack ((s.ctx k).pc.toNat + words - 1) (s.ctx k).loops (s.ctx k)
      ((s.ctx k).pc.toNat + words)).1).setCtx k ((s.ctx k).advanced words) := by
  simp only [State.advance, Nat.sub_add_cancel (show 1 ≤ (s.ctx k).pc.toNat + words by omega)]
  refine (State.goto_of_inCode (s := s.setCtx k _) h k).trans ?_
  rw [State.ctx_setCtx_self]
  rfl

theorem State.ctx_advance {words : Nat} (hw : 1 ≤ words) (h : s.inCode t e ((s.ctx k).nextFetch words)) :
    (s.advance t e k words).ctx k = (s.ctx k).advanced words := by
  rw [State.advance_eq hw h, State.ctx_setCtx_self]

theorem OnlyContext.advance {words : Nat} (h : OnlyContext s u e t k) (hw : 1 ≤ words) (hc : u.inCode t e ((u.ctx k).nextFetch words)) :
    OnlyContext s (u.advance t e k words) e t k := by
  rw [State.advance_eq hw hc]
  exact (h.setCtx _).setCtx _

/-! ### Issue -/

theorem Ctx.holds_iff {x : Ctx} : x.holds c = true ↔ (c ≠ 0 → x.f.getD (c.toNat % 4) false = decide (c.toNat < 12)) := by
  rw [Ctx.holds]
  by_cases h : c = 0
  · simp [h]
  · rw [if_neg h, beq_iff_eq]
    exact ⟨fun h _ => h, fun h' => h' h⟩

theorem condBad_eq_false (h : c = 0 ∨ 8 ≤ c.toNat) : condBad c = false := by
  rw [condBad]
  rcases h with rfl | h
  · rfl
  · simp [Nat.not_lt.2 h]

/-- No word of a run holds an error where none of a longer run does. -/
theorem State.upsets_le (s : State) (m a : Nat) (n : Nat) {l l' : Nat} (h : l ≤ l') : s.upsets m a l n ≤ s.upsets m a l' n := by
  refine List.Sublist.length_le (List.monotone_filter_right _ fun p hp => ?_)
  simp only [Bool.and_eq_true, decide_eq_true_eq] at hp ⊢
  exact ⟨⟨hp.1.1, by omega⟩, hp.2⟩

/-- A fetch of sound words changes nothing. -/
theorem State.eccTask_of_sound {e m a n : Nat} (h1 : s.upsets m (8192 * e + a) n 1 = 0) (h2 : s.upsets m (8192 * e + a) n 2 = 0)
    (t : Nat) : s.eccTask t e m a n = some s := by
  rw [State.eccTask, State.eccRead, if_neg (not_not_intro h2)]
  simp [h1]

theorem State.sound.fetch (h : s.sound e k) {words : Nat} (hw : words ≤ 2) (x : Eng) :
    (s.setEng e x).eccTask t e 0 (s.ctx k).pc.toNat words = some (s.setEng e x) :=
  State.eccTask_of_sound (s := s.setEng e x)
    (Nat.le_zero.1 ((s.upsets_le 0 _ 1 hw).trans h.1.le)) (Nat.le_zero.1 ((s.upsets_le 0 _ 2 hw).trans h.2.le)) t

/-- The cycles that an instruction charges (R55): the switch, its stall and its words. -/
def State.issueCycles (s : State) (e t k words : Nat) (uses : List (Fin 16)) (accs : List (Fin 2)) (cordic : Bool) : Nat :=
  s.switch e t + ((s.ctx k).charge (s.switch e t)).stall uses accs cordic + words

section
variable {bad : Bool} {words : Nat} {dst uses : List (Fin 16)} {accs : List (Fin 2)} {cordic : Bool} {blocked : Nat → Ctx → Bool} {F : Nat → Nat → State → State}

/-- An instruction that issues has its effect on the state with its cycles charged. -/
theorem Issues.issue_eq (h : Issues s e c regs t k) (hw : words ≤ 2) (hin : s.inCode t e ((s.ctx k).pc.toNat + words - 1))
    (hregs : ∀ r ∈ uses ++ dst, r ∈ regs) (hb : blocked t ((s.ctx k).charge (s.switch e t)) = false) :
    s.issue e c false words dst uses accs cordic blocked F =
      F t k (s.issued e t k (s.issueCycles e t k words uses accs cordic)) := by
  obtain ⟨i, hrun, hk⟩ := h.runs
  have hbudget := h.lasts.1
  have hlasts := h.lasts.2 uses accs cordic
  have hcode : ¬ (s.codeRange t e).1 + (s.codeRange t e).2 < (s.ctx k).pc.toNat + words := by
    have := hin.2
    omega
  have hloads : ((s.ctx k).loads.any fun p => uses.contains p.1 || dst.contains p.1) = false := by
    rw [List.any_eq_false]
    intro p hp
    have := h.loaded p hp
    simp only [Bool.or_eq_true, List.contains_iff_mem, not_or]
    exact ⟨fun hu => this (hregs _ (List.mem_append_left _ hu)), fun hd => this (hregs _ (List.mem_append_right _ hd))⟩
  have hholds : ((s.ctx k).charge (s.switch e t)).holds c = true := Ctx.holds_iff.2 h.holds
  have hlong : ¬ (s.ctx k).budget.toNat < s.issueCycles e t k words uses accs cordic := by
    rw [State.issueCycles]
    omega
  subst hk
  rw [State.issue, hrun]
  dsimp only
  rw [if_neg (by rw [h.live]; decide), if_neg hbudget, if_neg hcode, h.sound.fetch hw]
  dsimp only
  rw [condBad_eq_false h.listed, if_neg (by decide), ← State.switch.eq_def, hholds, if_neg (by decide), hb, Bool.or_false]
  rw [if_neg (by rw [Bool.not_eq_true]; exact hloads), ← State.issueCycles.eq_def, if_neg hlong]
  rfl

/-! ### Instructions that touch registers only -/

/-- Context `k` takes `y`, which is `x` but for the passing of time, and execution goes on. -/
theorem OnlyContext.setCtx_advance (h : OnlyContext s u e t k) {x y : Ctx} (hy : TimeOnly x y) (hw : 1 ≤ words)
    (hc : u.inCode t e (x.nextFetch words)) : OnlyContext s ((u.setCtx k y).advance t e k words) e t k ∧
      ((u.setCtx k y).advance t e k words).ctx k = x.after (((u.setCtx k y).advance t e k words).ctx k) words := by
  have hctx : (u.setCtx k y).ctx k = y := State.ctx_setCtx_self ..
  have hcode : (u.setCtx k y).inCode t e (((u.setCtx k y).ctx k).nextFetch words) := by
    rw [hctx, SameFlow.nextFetch hy.sameFlow]; exact hc
  refine ⟨(h.setCtx y).advance hw hcode, ?_⟩
  rw [State.ctx_advance hw hcode, hctx]
  exact Ctx.advanced_eq_after hy words

/-- An instruction whose effect is that its context takes `y` completes as `f` says, where `y` is what `f` says and the passing of time. -/
theorem Issues.completes_issue (h : Issues s e c regs t k) {i : Instr} {f : Ctx → Ctx} {y : Nat → Ctx}
    (hi : exec i s = .next (s.issue e c bad words dst uses accs cordic blocked F))
    (hF : ∀ n, n = s.issueCycles e t k words uses accs cordic →
      F t k (s.issued e t k n) = ((s.issued e t k n).setCtx k (y n)).advance t e k words)
    (hy : ∀ n, n = s.issueCycles e t k words uses accs cordic → TimeOnly (f (s.ctx k)) (y n))
    (hw1 : 1 ≤ words) (hw : words ≤ 2) (hin : s.inCode t e ((s.ctx k).pc.toNat + words - 1))
    (hnext : s.inCode t e ((s.ctx k).nextFetch words)) (hregs : ∀ r ∈ uses ++ dst, r ∈ regs)
    (hflow : SameFlow (s.ctx k) (f (s.ctx k))) (hb : blocked t ((s.ctx k).charge (s.switch e t)) = false := by rfl)
    (hbad : bad = false := by rfl) : Completes i s e words t k f := by
  subst hbad
  rw [h.issue_eq hw hin hregs hb, hF _ rfl] at hi
  refine ⟨_, hi, (onlyContext_issued ..).setCtx_advance (hy _ rfl) hw1 ?_⟩
  rw [State.inCode_issued, SameFlow.nextFetch hflow]
  exact hnext

/-- An instruction with its effect `g` on its context alone completes as `f` says, where `g` is `f` and the passing of time. -/
theorem Issues.completes_regOp (h : Issues s e c regs t k) {i : Instr} {g f : Ctx → Ctx}
    (hi : exec i s = .next (s.regOp e c bad words dst uses accs cordic g)) (hw1 : 1 ≤ words) (hw : words ≤ 2)
    (hin : s.inCode t e ((s.ctx k).pc.toNat + words - 1)) (hnext : s.inCode t e ((s.ctx k).nextFetch words))
    (hregs : ∀ r ∈ uses ++ dst, r ∈ regs) (hflow : SameFlow (s.ctx k) (f (s.ctx k)))
    (hg : ∀ n, TimeOnly (f (s.ctx k)) (g ((s.ctx k).charge n))) (hbad : bad = false := by rfl) : Completes i s e words t k f :=
  h.completes_issue hi (fun n _ => by rw [State.ctx_issued, if_pos rfl]) (fun n _ => hg n) hw1 hw hin hnext hregs hflow rfl hbad

/-- The instructions of one word. -/
theorem Issues.completes_regOp_one (h : Issues s e c regs t k) {i : Instr} {g f : Ctx → Ctx}
    (hi : exec i s = .next (s.regOp e c bad 1 dst uses accs cordic g)) (hnext : s.inCode t e ((s.ctx k).nextFetch 1))
    (hregs : ∀ r ∈ uses ++ dst, r ∈ regs) (hflow : SameFlow (s.ctx k) (f (s.ctx k)))
    (hg : ∀ n, TimeOnly (f (s.ctx k)) (g ((s.ctx k).charge n))) (hbad : bad = false := by rfl) : Completes i s e 1 t k f :=
  h.completes_regOp hi (Nat.le_refl 1) (by decide) h.here hnext hregs hflow hg hbad

theorem Ctx.withSat_false (x : Ctx) (rd : Fin 16) (a : Word) : x.withSat rd a false = x.withW rd a := by
  simp only [Ctx.withSat, Bool.or_false]
  rfl

/-- A word operation completes: rd takes the result and SAT its flag. -/
theorem Issues.completes_aluOp (h : Issues s e c regs t k) {i : Instr} {rd : Fin 16} {late : Nat} {g : Ctx → Word × Bool} {a : Word} {b : Bool}
    (hi : exec i s = .next (s.aluOp e c bad rd uses late g)) (hnext : s.inCode t e ((s.ctx k).nextFetch 1))
    (hregs : ∀ r ∈ uses ++ [rd], r ∈ regs) (hg : ∀ n, g ((s.ctx k).charge n) = (a, b)) (hbad : bad = false := by rfl) :
    Completes i s e 1 t k (·.withSat rd a b) :=
  h.completes_regOp_one hi hnext hregs ⟨rfl, rfl, rfl, rfl, rfl⟩ (fun n => by rw [hg n]; rfl) hbad

/-- A word operation that cannot saturate. -/
theorem Issues.completes_aluOp_exact (h : Issues s e c regs t k) {i : Instr} {rd : Fin 16} {late : Nat} {g : Ctx → Word × Bool} {a : Ctx → Word}
    (hi : exec i s = .next (s.aluOp e c bad rd uses late g)) (hnext : s.inCode t e ((s.ctx k).nextFetch 1))
    (hregs : ∀ r ∈ uses ++ [rd], r ∈ regs) (hg : ∀ n, g ((s.ctx k).charge n) = (a (s.ctx k), false)) (hbad : bad = false := by rfl) :
    Completes i s e 1 t k (fun x => x.withW rd (a x)) := by
  obtain ⟨u, hu, honly, hctx⟩ := h.completes_aluOp hi hnext hregs hg hbad
  exact ⟨u, hu, honly, hctx.trans (congrArg (Ctx.after · (u.ctx k) 1) (Ctx.withSat_false ..))⟩

end

end Sys2Proof.Machine
end

section
/-! SUPPORT. The arithmetic of the engines (R35 to R37, R43 to R45): what its results and flags are as integers. -/

namespace Sys2Proof.Machine

/-! ### Saturation (R35, R36) -/

theorem toInt_ofInt_word {n : Int} (h1 : -8388608 ≤ n) (h2 : n ≤ 8388607) : (BitVec.ofInt 24 n).toInt = n := by
  rw [BitVec.toInt_ofInt]
  exact Int.bmod_eq_of_le (by omega) (by omega)

theorem toInt_ofInt_acc {n : Int} (h1 : -(2 ^ 55) ≤ n) (h2 : n ≤ 2 ^ 55 - 1) : (BitVec.ofInt 56 n).toInt = n := by
  rw [BitVec.toInt_ofInt]
  exact Int.bmod_eq_of_le (by omega) (by omega)

theorem saturates_sat24 (n : Int) : Saturates n (sat24 n).1 (sat24 n).2 := by
  unfold sat24 Saturates
  split
  · exact ⟨by rw [show (0x800000 : Word).toInt = -8388608 from rfl]; omega, by simp; omega⟩
  · split
    · exact ⟨by rw [show (0x7FFFFF : Word).toInt = 8388607 from rfl]; omega, by simp; omega⟩
    · exact ⟨by rw [toInt_ofInt_word (by omega) (by omega)]; omega, by simp; omega⟩

theorem saturatesAc_sat56 (n : Int) : SaturatesAc n (sat56 n).1 (sat56 n).2 := by
  unfold sat56 SaturatesAc
  split
  · exact ⟨by rw [toInt_ofInt_acc (by omega) (by omega)]; omega, by simp; omega⟩
  · split
    · exact ⟨by rw [toInt_ofInt_acc (by omega) (by omega)]; omega, by simp; omega⟩
    · exact ⟨by rw [toInt_ofInt_acc (by omega) (by omega)]; omega, by simp; omega⟩

/-- A value within the limits does not saturate. -/
theorem sat56_of_le {n : Int} (h1 : -(2 ^ 55) ≤ n) (h2 : n ≤ 2 ^ 55 - 1) : sat56 n = (BitVec.ofInt 56 n, false) := by
  rw [sat56, if_neg (by omega), if_neg (by omega)]

/-! ### Limits and leading bits (R43) -/

theorem toInt_clampW (a b : Word) :
    (clampW a b).1.toInt = if b.toInt < 0 then 0 else max (-b.toInt) (min b.toInt a.toInt) := by
  have hb := b.toInt_lt
  rw [clampW]
  dsimp only
  split
  · rfl
  · rw [toInt_ofInt_word (by omega) (by omega)]
    omega

theorem clampW_eq (a b : Word) : clampW a b = ((clampW a b).1, decide ((clampW a b).1 ≠ a)) := by
  simp [clampW, bne, beq_eq_decide]

/-- The leading bits of a list that satisfy a test, and the first that does not. -/
theorem takeWhile_length_spec {α : Type} (p : α → Bool) (l : List α) :
    (∀ i, (h : i < (l.takeWhile p).length) → ∃ a, l[i]? = some a ∧ p a = true) ∧
      ∀ a, l[(l.takeWhile p).length]? = some a → p a = false := by
  induction l with
  | nil => simp
  | cons b l ih =>
    by_cases hb : p b = true
    · rw [List.takeWhile_cons_of_pos hb]
      refine ⟨fun i h => ?_, by simpa using ih.2⟩
      cases i with
      | zero => exact ⟨b, rfl, hb⟩
      | succ i => exact ih.1 i (by simpa using h)
    · rw [List.takeWhile_cons_of_neg hb]
      exact ⟨fun i h => absurd h (Nat.not_lt_zero i), fun a h => by
        obtain rfl : b = a := by simpa using h
        simpa using hb⟩

/-- The number of leading bits of a word that equal bit 23, minus 1. -/
def leading (a : Word) : Nat := ((List.range 23).reverse.takeWhile (fun i => a.getLsbD i == a.getLsbD 23)).length

theorem getElem?_bitsDown (n : Nat) : (List.range 23).reverse[n]? = if n < 23 then some (22 - n) else none := by
  split
  · rename_i h
    rw [List.getElem?_reverse (by simpa using h), List.length_range, List.getElem?_range (by omega)]
  · rw [List.getElem?_eq_none (by simp; omega)]

theorem leading_spec (a : Word) : leading a ≤ 23 ∧ (∀ i, i ≤ leading a → a.getLsbD (23 - i) = a.getLsbD 23) ∧
    (leading a < 23 → a.getLsbD (22 - leading a) ≠ a.getLsbD 23) := by
  obtain ⟨hlead, hstop⟩ := takeWhile_length_spec (fun i => a.getLsbD i == a.getLsbD 23) (List.range 23).reverse
  refine ⟨?_, fun i hi => ?_, fun h => ?_⟩
  · exact (List.takeWhile_sublist _).length_le.trans (by simp)
  · cases i with
    | zero => rfl
    | succ i =>
      obtain ⟨j, hj, hp⟩ := hlead i hi
      rw [getElem?_bitsDown] at hj
      split at hj
      · obtain rfl : 22 - i = j := by simpa using hj
        rw [show 23 - (i + 1) = 22 - i by omega]
        simpa using hp
      · simp at hj
  · have := hstop (22 - leading a) (by rw [getElem?_bitsDown]; exact if_pos h)
    simpa using this

end Sys2Proof.Machine
end

section
/-! SUPPORT. The statement on moves, bitwise operations and sums, settled. -/

namespace Sys2Proof.Machine

variable {s : State} {e : Fin 16} {c : BitVec 4} {t k : Nat}

theorem ofInt_toInt_add (a b : Word) : BitVec.ofInt 24 (a.toInt + b.toInt) = a + b := by
  rw [BitVec.ofInt_add, BitVec.ofInt_toInt, BitVec.ofInt_toInt]

theorem ofInt_toInt_sub (a b : Word) : BitVec.ofInt 24 (a.toInt - b.toInt) = a - b := by
  rw [Int.sub_eq_add_neg, BitVec.ofInt_add, BitVec.ofInt_neg, BitVec.ofInt_toInt, BitVec.ofInt_toInt, BitVec.sub_eq_add_neg]

/-- The operations of R41 that cannot saturate. -/
theorem Issues.moves_complete {rd rs rt : Fin 16} (h : Issues s e c [rd, rs, rt] t k) (hn : s.inCode t e ((s.ctx k).nextFetch 1))
    (fc : Fin 4) (imm : BitVec 10) :
    Completes (.nop e c) s e 1 t k id ∧
    Completes (.mov e c rd rs 0) s e 1 t k (fun x => x.withW rd x.w[rs]) ∧
    Completes (.ldi e c rd imm) s e 1 t k (fun x => x.withW rd (BitVec.ofInt 24 imm.toInt)) ∧
    Completes (.and e c rd rs rt 0) s e 1 t k (fun x => x.withW rd (x.w[rs] &&& x.w[rt])) ∧
    Completes (.or e c rd rs rt 0) s e 1 t k (fun x => x.withW rd (x.w[rs] ||| x.w[rt])) ∧
    Completes (.xor e c rd rs rt 0) s e 1 t k (fun x => x.withW rd (x.w[rs] ^^^ x.w[rt])) ∧
    Completes (.not e c rd rs 0) s e 1 t k (fun x => x.withW rd (~~~x.w[rs])) ∧
    Completes (.sel e c rd rs rt fc) s e 1 t k (fun x => x.withW rd (if x.f[fc] then x.w[rs] else x.w[rt])) := by
  refine ⟨h.completes_regOp_one rfl hn (by simp) ⟨rfl, rfl, rfl, rfl, rfl⟩ (fun _ => rfl), ?_, ?_, ?_, ?_, ?_, ?_, ?_⟩
  all_goals exact h.completes_aluOp_exact rfl hn (by simp) (fun _ => rfl)

/-- Settles O2: each result is the model's own, read as an integer. -/
theorem movesBitsAndSumsComplete : Obligations.MovesBitsAndSumsComplete := by
  refine ⟨fun s e rd rs rt c fc imm imm24 t k h => ⟨fun hn => h.moves_complete hn fc imm, fun hf =>
    h.completes_regOp rfl (by decide) (Nat.le_refl 2) hf.1 hf.2 (by simp) ⟨rfl, rfl, rfl, rfl, rfl⟩ (fun _ => rfl)⟩,
    fun s e rd rs rt c t k h hn => ⟨?_, ?_, ?_, ?_, ?_, ?_, ?_, ?_, ?_, ?_⟩⟩
  · exact h.completes_aluOp_exact rfl hn (by simp) (fun _ => by rw [ofInt_toInt_add]; rfl)
  · exact h.completes_aluOp_exact rfl hn (by simp) (fun _ => by rw [ofInt_toInt_sub]; rfl)
  · exact ⟨_, _, saturates_sat24 _, h.completes_aluOp rfl hn (by simp) (fun _ => rfl)⟩
  · exact ⟨_, _, saturates_sat24 _, h.completes_aluOp rfl hn (by simp) (fun _ => rfl)⟩
  · exact ⟨_, _, saturates_sat24 _, h.completes_aluOp rfl hn (by simp) (fun _ => rfl)⟩
  · exact ⟨_, _, saturates_sat24 _, h.completes_aluOp rfl hn (by simp) (fun _ => by rw [← Int.natCast_natAbs]; rfl)⟩
  · refine ⟨if (s.ctx k).w[rs].toInt ≤ (s.ctx k).w[rt].toInt then (s.ctx k).w[rs] else (s.ctx k).w[rt], by split <;> omega, ?_⟩
    exact h.completes_aluOp_exact rfl hn (by simp) (fun _ => rfl)
  · refine ⟨if (s.ctx k).w[rs].toInt ≤ (s.ctx k).w[rt].toInt then (s.ctx k).w[rt] else (s.ctx k).w[rs], by split <;> omega, ?_⟩
    exact h.completes_aluOp_exact rfl hn (by simp) (fun _ => rfl)
  · exact ⟨_, toInt_clampW _ _, h.completes_aluOp rfl hn (by simp) (fun _ => clampW_eq _ _)⟩
  · obtain ⟨hle, heq, hne⟩ := leading_spec (s.ctx k).w[rs]
    exact ⟨_, hle, heq, hne, h.completes_aluOp_exact rfl hn (by simp) (fun _ => rfl)⟩

end Sys2Proof.Machine
end

section
/-! SUPPORT. The shifts and conversions of the engines (R36, R37, R43, R45), and the statements on shifts, accumulators and conversions,
settled. -/

namespace Sys2Proof.Machine

variable {s : State} {e : Fin 16} {c : BitVec 4} {regs : List (Fin 16)} {t k : Nat}

/-! ### Quotients as floors -/

theorem floor_div_two_pow (a : Int) (n : Nat) : ⌊(a : ℚ) / 2 ^ n⌋ = a / 2 ^ n := by
  simpa using Rat.floor_intCast_div_natCast a (2 ^ n)

/-- Half up: a rounded quotient by a power of 2. -/
theorem floor_div_two_pow_half (a : Int) (n : Nat) : ⌊(a : ℚ) / 2 ^ (n + 1) + 1 / 2⌋ = (a + 2 ^ n) / 2 ^ (n + 1) := by
  rw [← floor_div_two_pow]
  congr 1
  push_cast
  rw [pow_succ]
  field_simp

theorem shiftLeft_eq_ofInt (a : Word) (n : Nat) : BitVec.ofInt 24 (a.toInt * 2 ^ n) = a <<< n := by
  apply BitVec.eq_of_toInt_eq
  rw [BitVec.toInt_ofInt, BitVec.toInt_shiftLeft, BitVec.toInt_eq_toNat_bmod, Int.bmod_mul_bmod, Nat.shiftLeft_eq]
  push_cast
  rfl

theorem ushiftRight_eq_ofNat (a : Word) (n : Nat) : a >>> n = BitVec.ofNat 24 (a.toNat / 2 ^ n) := by
  apply BitVec.eq_of_toNat_eq
  rw [BitVec.toNat_ushiftRight, BitVec.toNat_ofNat, Nat.shiftRight_eq_div_pow,
    Nat.mod_eq_of_lt ((Nat.div_le_self _ _).trans_lt a.isLt)]

theorem shrW_arithmetic (a : Word) (n : Nat) : shrW a n 1 = BitVec.ofInt 24 ⌊(a.toInt : ℚ) / 2 ^ n⌋ := by
  rw [floor_div_two_pow]
  simp [shrW]

theorem shrW_rounded (a : Word) (n : Nat) : shrW a n 2 = BitVec.ofInt 24 ⌊(a.toInt : ℚ) / 2 ^ n + 1 / 2⌋ := by
  cases n with
  | zero =>
    have : ⌊(a.toInt : ℚ) / 2 ^ 0 + 1 / 2⌋ = a.toInt := by
      rw [Int.floor_eq_iff]
      constructor <;> linarith
    rw [this]
    simp [shrW]
  | succ n =>
    rw [floor_div_two_pow_half]
    simp [shrW]

/-- Settles O3: a shift is a product with or a quotient by a power of 2. -/
theorem shiftsComplete : Obligations.ShiftsComplete := by
  intro s e rd rs rt c n t k h hn
  refine ⟨?_, ?_, ?_, ?_, ?_, ?_, ?_, ?_, ?_⟩
  · exact h.completes_aluOp_exact rfl hn (by simp) (fun _ => by rw [shiftLeft_eq_ofInt]; rfl)
  · exact h.completes_aluOp_exact rfl hn (by simp) (fun _ => by rw [shiftLeft_eq_ofInt]; rfl)
  · exact ⟨_, _, saturates_sat24 _, h.completes_aluOp rfl hn (by simp) (fun _ => rfl)⟩
  · exact ⟨_, _, saturates_sat24 _, h.completes_aluOp rfl hn (by simp) (fun _ => rfl)⟩
  · exact h.completes_aluOp_exact rfl hn (by simp) (fun _ => by rw [← ushiftRight_eq_ofNat]; rfl)
  · exact h.completes_aluOp_exact rfl hn (by simp) (fun _ => by rw [← ushiftRight_eq_ofNat]; rfl)
  · exact h.completes_aluOp_exact rfl hn (by simp) (fun _ => by rw [← shrW_arithmetic]; rfl)
  · exact h.completes_aluOp_exact rfl hn (by simp) (fun _ => by rw [← shrW_arithmetic]; rfl)
  · exact h.completes_aluOp_exact rfl hn (by simp) (fun _ => by rw [← shrW_rounded]; rfl)

/-! ### Accumulators (R36, R41, R45) -/

theorem product_eq (a b : Word) (m : BitVec 2) : product a b m = operand a (m != 0) * operand b (m == 2) := by
  rw [product, operand, operand]
  by_cases h : m = 0
  · subst h; rfl
  · have h0 : (m != 0) = true := bne_iff_ne.2 h
    rw [h0, if_neg h, if_pos rfl]
    simp

theorem sat56_word (a : Word) : sat56 (a.toInt * 8388608) = (BitVec.ofInt 56 (a.toInt * 2 ^ 23), false) := by
  have h1 := a.toInt_lt
  have h2 := a.le_toInt
  exact sat56_of_le (by omega) (by omega)

theorem sat56_toInt (a : BitVec 56) : sat56 a.toInt = (a, false) := by
  have h1 := a.toInt_lt
  have h2 := a.le_toInt
  rw [sat56_of_le (by omega) (by omega), BitVec.ofInt_toInt]

/-- An accumulator operation completes: accumulator `a` takes the value and ACV its flag. -/
theorem Issues.completes_acOp (h : Issues s e c regs t k) {i : Instr} {bad : Bool} {a : Fin 2} {uses : List (Fin 16)} {accs : List (Fin 2)}
    {late : Nat} {g : Ctx → BitVec 56 × Bool} {v : BitVec 56} {b : Bool}
    (hi : exec i s = .next (s.acOp e c bad a uses accs late g)) (hnext : s.inCode t e ((s.ctx k).nextFetch 1))
    (hregs : ∀ r ∈ uses ++ [], r ∈ regs) (hg : ∀ n, g ((s.ctx k).charge n) = (v, b)) (hbad : bad = false := by rfl) :
    Completes i s e 1 t k (·.withAc a v b) :=
  h.completes_regOp_one hi hnext hregs ⟨rfl, rfl, rfl, rfl, rfl⟩ (fun n => by rw [hg n]; rfl) hbad

/-! ### Conversions (R37, R41) -/

/-- The rounding modes of R37. -/
theorem converts_sat24 (n : Int) {m : BitVec 2} (hm : m ≠ 3) : Converts n m (sat24 (roundAc n m)).1 (sat24 (roundAc n m)).2 := by
  refine ⟨roundAc n m, saturates_sat24 _, ?_, ?_, ?_⟩
  · rintro rfl
    exact (floor_div_two_pow_half n 22).symm
  · rintro rfl
    exact (floor_div_two_pow n 23).symm
  · rintro rfl
    have hd : (n : ℚ) / 2 ^ 23 - roundAc n 2 = ((n - 8388608 * roundAc n 2 : Int) : ℚ) / 2 ^ 23 := by
      push_cast
      ring
    have hr : |n - 8388608 * roundAc n 2| ≤ 4194304 ∧ (|n - 8388608 * roundAc n 2| = 4194304 → roundAc n 2 % 2 = 0) := by
      rw [roundAc, if_neg (by decide), if_neg (by decide), abs_le]
      dsimp only
      split
      · exact ⟨by omega, fun h => by rcases (abs_eq (by decide)).1 h with h | h <;> omega⟩
      · exact ⟨by omega, fun h => by rcases (abs_eq (by decide)).1 h with h | h <;> omega⟩
    rw [hd, abs_div, abs_of_pos (show (0 : ℚ) < 2 ^ 23 by norm_num), ← Int.cast_abs]
    refine ⟨?_, fun h => hr.2 ?_⟩
    · rw [div_le_iff₀ (by norm_num)]
      norm_num
      exact_mod_cast hr.1
    · rw [div_eq_iff (by norm_num)] at h
      norm_num at h
      exact_mod_cast h

theorem setWidth_eq_ofNat (a : BitVec 56) : a.setWidth 24 = BitVec.ofNat 24 a.toNat := by
  apply BitVec.eq_of_toNat_eq
  simp

theorem middle_eq_ofNat (a : BitVec 56) : a.extractLsb' 24 24 = BitVec.ofNat 24 (a.toNat / 2 ^ 24) := by
  apply BitVec.eq_of_toNat_eq
  rw [BitVec.extractLsb'_toNat, Nat.shiftRight_eq_div_pow, BitVec.toNat_ofNat]

theorem top_eq_ofInt (a : BitVec 56) : (a.extractLsb' 48 8).signExtend 24 = BitVec.ofInt 24 (a.toInt / 2 ^ 48) := by
  have h : (a.extractLsb' 48 8).toInt = a.toInt / 2 ^ 48 := by
    have := a.isLt
    rw [BitVec.toInt_eq_toNat_cond, BitVec.toInt_eq_toNat_cond, BitVec.extractLsb'_toNat, Nat.shiftRight_eq_div_pow]
    omega
  rw [BitVec.signExtend, h]

/-- Settles O4: each accumulator takes the saturated exact value, and each conversion is a rounding, a saturation or a part. -/
theorem accumulatorsAndConversionsComplete : Obligations.AccumulatorsAndConversionsComplete := by
  constructor
  · intro s e rs rt c a b m n t k h hn hab
    have hb : otherAc a = b := by decide +revert
    subst hb
    refine ⟨fun hm => ?_, ?_, ?_, ?_, ?_, ?_, ?_⟩
    · rw [← product_eq]
      have h3 : (m == 3) = false := beq_false_of_ne hm
      exact ⟨⟨_, _, saturatesAc_sat56 _, h.completes_acOp rfl hn (by simp) (fun _ => rfl) h3⟩,
        ⟨_, _, saturatesAc_sat56 _, h.completes_acOp rfl hn (by simp) (fun _ => rfl) h3⟩,
        ⟨_, _, saturatesAc_sat56 _, h.completes_acOp rfl hn (by simp) (fun _ => rfl) h3⟩⟩
    · exact h.completes_acOp rfl hn (by simp) (fun _ => sat56_word _)
    · exact h.completes_acOp rfl hn (by simp) (fun _ => rfl)
    · exact ⟨_, _, saturatesAc_sat56 _, h.completes_acOp rfl hn (by simp) (fun _ => rfl)⟩
    · exact ⟨_, _, saturatesAc_sat56 _, h.completes_acOp rfl hn (by simp) (fun _ => rfl)⟩
    · exact h.completes_acOp rfl hn (by simp) (fun _ => sat56_toInt _)
    · refine ⟨_, _, saturatesAc_sat56 _, h.completes_acOp rfl hn (by simp) (fun _ => ?_)⟩
      rw [floor_div_two_pow]
      exact (apply_ite sat56 _ _ _).symm
  · intro s e rd rs rt c a m t k h hn
    refine ⟨fun hm => ⟨⟨_, _, converts_sat24 _ hm, ?_⟩, ⟨_, _, converts_sat24 _ hm, ?_⟩⟩, ?_, ?_, ?_⟩
    · exact h.completes_aluOp rfl hn (by simp) (fun _ => rfl) (beq_false_of_ne hm)
    · exact h.completes_regOp_one rfl hn (by simp) ⟨rfl, rfl, rfl, rfl, rfl⟩ (fun _ => rfl) (beq_false_of_ne hm)
    · exact h.completes_regOp_one rfl hn (by simp) ⟨rfl, rfl, rfl, rfl, rfl⟩ (fun _ => by rw [← setWidth_eq_ofNat]; rfl)
    · exact h.completes_regOp_one rfl hn (by simp) ⟨rfl, rfl, rfl, rfl, rfl⟩ (fun _ => by rw [← middle_eq_ofNat]; rfl)
    · exact h.completes_regOp_one rfl hn (by simp) ⟨rfl, rfl, rfl, rfl, rfl⟩ (fun _ => by rw [← top_eq_ofInt]; rfl)

end Sys2Proof.Machine
end

section
/-! SUPPORT. Predicates, flags and special registers (R34, R44), and the statement on them, settled. -/

namespace Sys2Proof.Machine

variable {s : State} {e : Fin 16} {c : BitVec 4} {regs : List (Fin 16)} {t k : Nat}

/-! ### Predicates (R44) -/

/-- A flag operation completes: Fd takes the predicate. -/
theorem Issues.completes_flagOp (h : Issues s e c regs t k) {i : Instr} {fd : Fin 4} {uses : List (Fin 16)} {g : Ctx → Bool} {b : Bool}
    (hi : exec i s = .next (s.flagOp e c fd uses g)) (hnext : s.inCode t e ((s.ctx k).nextFetch 1))
    (hregs : ∀ r ∈ uses ++ [], r ∈ regs) (hg : ∀ n, g ((s.ctx k).charge n) = b) : Completes i s e 1 t k (·.withF fd b) :=
  h.completes_regOp_one hi hnext hregs ⟨rfl, rfl, rfl, rfl, rfl⟩ (fun n => by rw [hg n]; rfl)

theorem cmpS_eq (a b : Word) : cmpS a b 0 = decide (a.toInt = b.toInt) := by
  simp [cmpS, BitVec.toInt_inj, beq_eq_decide]

theorem cmpS_ne (a b : Word) : cmpS a b 1 = decide (a.toInt ≠ b.toInt) := by
  simp [cmpS, BitVec.toInt_inj, bne, beq_eq_decide]

theorem toInt_imm6 (imm : BitVec 6) : (imm.signExtend 24).toInt = imm.toInt := BitVec.toInt_signExtend_of_le (by decide)

theorem and_eq_zero_iff_bits (a b : Word) : a &&& b = 0 ↔ ∀ i : Fin 24, ¬ (a.getLsbD i ∧ b.getLsbD i) := by
  constructor
  · intro h i hi
    have := congrArg (BitVec.getLsbD · i) h
    simp [BitVec.getLsbD_and, hi, -BitVec.getLsbD_eq_getElem] at this
  · intro h
    refine BitVec.eq_of_getLsbD_eq fun i hi => ?_
    have := h ⟨i, hi⟩
    simp only [BitVec.getLsbD_and]
    simpa using this

theorem cmpU_any (a b : Word) : cmpU a b 2 = decide (∃ i : Fin 24, a.getLsbD i ∧ b.getLsbD i) := by
  have h : cmpU a b 2 = !decide (a &&& b = 0) := rfl
  simp only [h, and_eq_zero_iff_bits, ← not_exists, decide_not, Bool.not_not]

theorem cmpU_none (a b : Word) : cmpU a b 3 = decide (∀ i : Fin 24, ¬ (a.getLsbD i ∧ b.getLsbD i)) := by
  simp only [← and_eq_zero_iff_bits]
  rfl

/-! ### Special registers (R34) -/

/-- The number of a pointer register: P, PB, PS or PL of number `i`. -/
def ptrNum (n i : Fin 4) : BitVec 6 := BitVec.ofNat 6 (16 + 4 * n.val + i.val)

theorem toNat_ptrNum (n i : Fin 4) : (ptrNum n i).toNat = 16 + 4 * n.val + i.val := by
  rw [ptrNum, BitVec.toNat_ofNat]
  omega

theorem Ctx.setSreg_ptrNum (x : Ctx) (n i : Fin 4) (v : Word) : x.setSreg (ptrNum n i).toNat v = x.withPtr n i v := by
  rw [toNat_ptrNum]
  fin_cases n <;> fin_cases i <;> rfl

theorem Ctx.sreg_ptrNum (x : Ctx) (t e : Nat) (n i : Fin 4) : x.sreg t e (ptrNum n i).toNat =
    if n = 0 then x.p[i] else if n = 1 then x.pb[i] else if n = 2 then BitVec.ofInt 24 x.ps[i].toInt else BitVec.ofNat 24 x.pl[i].toNat := by
  rw [toNat_ptrNum]
  fin_cases n <;> fin_cases i <;> simp [Ctx.sreg, Vector.getD, BitVec.signExtend]

theorem sregOk_ptrNum (n i : Fin 4) : sregOk (ptrNum n i).toNat = true := by decide +revert
theorem sregRw_ptrNum (n i : Fin 4) : sregRw (ptrNum n i).toNat = true := by decide +revert

theorem Ctx.sr_eq (x : Ctx) : x.sr = x.sat.toNat + 2 * x.acv.toNat + 4 * x.csat.toNat
    + 256 * (if 1 ≤ x.loops then 1 else 0) + 512 * (if 2 ≤ x.loops then 1 else 0) + 1024 * x.stack.length := by
  simp [Ctx.sr, b2n, Bool.toNat, cond_eq_ite]

theorem Ctx.flags_eq (x : Ctx) : x.flags = x.f[0].toNat + 2 * x.f[1].toNat + 4 * x.f[2].toNat + 8 * x.f[3].toNat := by
  have hf : x.f.toList = [x.f[0], x.f[1], x.f[2], x.f[3]] := by
    refine List.ext_getElem (by simp) fun i h1 h2 => ?_
    have : i < 4 := h2
    interval_cases i <;> simp
  rw [Ctx.flags, hf]
  generalize x.f[0] = a, x.f[1] = b, x.f[2] = d, x.f[3] = f
  decide +revert

theorem Ctx.setSreg_flags (x : Ctx) (v : Word) : x.setSreg 9 v =
    (((x.withF 0 (v.getLsbD 0)).withF 1 (v.getLsbD 1)).withF 2 (v.getLsbD 2)).withF 3 (v.getLsbD 3) := by
  have hf : Vector.ofFn (fun i : Fin 4 => v.getLsbD i.val) =
      (((x.f.set 0 (v.getLsbD 0)).set 1 (v.getLsbD 1)).set 2 (v.getLsbD 2)).set 3 (v.getLsbD 3) := by
    refine Vector.ext fun i hi => ?_
    interval_cases i <;> simp
  rw [Ctx.setSreg, if_neg (by decide), if_pos rfl, hf]
  rfl

/-- MTS completes: the special register takes rs. -/
theorem Issues.completes_mts (h : Issues s e c regs t k) {sreg : BitVec 6} {rs : Fin 16} {f : Ctx → Ctx}
    (hok : sregOk sreg.toNat = true) (hrw : sregRw sreg.toNat = true) (hrs : rs ∈ regs) (hnext : s.inCode t e ((s.ctx k).nextFetch 1))
    (hflow : SameFlow (s.ctx k) (f (s.ctx k)))
    (hf : ∀ n, TimeOnly (f (s.ctx k)) (((s.ctx k).charge n).setSreg sreg.toNat (s.ctx k).w[rs])) :
    Completes (.mts e c sreg rs) s e 1 t k f := by
  refine h.completes_issue (y := fun n => ((s.ctx k).charge n).setSreg sreg.toNat (s.ctx k).w[rs]) rfl (fun n _ => ?_) (fun n _ => hf n)
    (Nat.le_refl 1) (by decide) h.here hnext (by simpa using hrs) hflow rfl (by rw [hok]; rfl)
  rw [if_pos hrw, State.ctx_issued, if_pos rfl]
  rfl

/-- MFS completes: rd takes what the special register shows. -/
theorem Issues.completes_mfs (h : Issues s e c regs t k) {sreg : BitVec 6} {rd : Fin 16} {v : Word}
    (hok : sregOk sreg.toNat = true) (h1 : sreg ≠ 1) (h2 : sreg ≠ 2) (hrd : rd ∈ regs) (hnext : s.inCode t e ((s.ctx k).nextFetch 1))
    (hv : ∀ n, ((s.ctx k).charge n).sreg t e sreg.toNat = v) : Completes (.mfs e c rd sreg) s e 1 t k (·.withW rd v) := by
  refine h.completes_issue (y := fun n => ((s.ctx k).charge n).setW rd v 0) rfl (fun n _ => ?_) (fun n _ => rfl)
    (Nat.le_refl 1) (by decide) h.here hnext (by simpa using hrd) ⟨rfl, rfl, rfl, rfl, rfl⟩ rfl (by rw [hok]; rfl)
  simp only [State.ctx_issued, if_true]
  rw [if_neg h1, if_neg h2, hv]

/-- Settles O6: predicates are read as facts on integers and bits, special registers as fields of the context. -/
theorem predicatesAndSpecialRegistersComplete : Obligations.PredicatesAndSpecialRegistersComplete := by
  constructor
  · intro s e rs rt c fd fa fb imm t k h hn
    refine ⟨?_, ?_, ?_, ?_, ?_, ?_, ?_, ?_, ?_, ?_, ?_, ?_, ?_, ?_, ?_, ?_⟩
    · exact h.completes_flagOp rfl hn (by simp) (fun _ => cmpS_eq _ _)
    · exact h.completes_flagOp rfl hn (by simp) (fun _ => cmpS_ne _ _)
    · exact h.completes_flagOp rfl hn (by simp) (fun _ => rfl)
    · exact h.completes_flagOp rfl hn (by simp) (fun _ => rfl)
    · exact h.completes_flagOp rfl hn (by simp) (fun _ => by rw [← toInt_imm6]; exact cmpS_eq _ _)
    · exact h.completes_flagOp rfl hn (by simp) (fun _ => by rw [← toInt_imm6]; exact cmpS_ne _ _)
    · exact h.completes_flagOp rfl hn (by simp) (fun _ => by rw [← toInt_imm6]; rfl)
    · exact h.completes_flagOp rfl hn (by simp) (fun _ => by rw [← toInt_imm6]; rfl)
    · exact h.completes_flagOp rfl hn (by simp) (fun _ => rfl)
    · exact h.completes_flagOp rfl hn (by simp) (fun _ => rfl)
    · exact h.completes_flagOp rfl hn (by simp) (fun _ => cmpU_any _ _)
    · exact h.completes_flagOp rfl hn (by simp) (fun _ => cmpU_none _ _)
    all_goals exact h.completes_flagOp rfl hn (by simp) (fun _ => rfl)
  · intro s e rd rs c n i t k h hn
    refine ⟨?_, ?_, ?_, ?_, ?_, ?_, ?_, ?_, ?_, ?_, ?_, ?_⟩
    · exact h.completes_mts rfl rfl (by simp) hn ⟨rfl, rfl, rfl, rfl, rfl⟩ (fun _ => rfl)
    · exact h.completes_mts rfl rfl (by simp) hn ⟨rfl, rfl, rfl, rfl, rfl⟩ (fun _ => by rw [← Ctx.setSreg_flags]; rfl)
    · have hflow : SameFlow (s.ctx k) ((s.ctx k).withPtr n i (s.ctx k).w[rs]) := by
        fin_cases n <;> exact ⟨rfl, rfl, rfl, rfl, rfl⟩
      refine h.completes_mts (sregOk_ptrNum n i) (sregRw_ptrNum n i) (by simp) hn hflow (fun m => ?_)
      show TimeOnly _ (((s.ctx k).charge m).setSreg (ptrNum n i).toNat _)
      rw [Ctx.setSreg_ptrNum]
      fin_cases n <;> rfl
    · exact h.completes_mfs (sregOk_ptrNum n i) (by decide +revert) (by decide +revert) (by simp) hn (fun _ => Ctx.sreg_ptrNum ..)
    · exact h.completes_mfs rfl (by decide) (by decide) (by simp) hn (fun _ => congrArg (BitVec.ofNat 24) (Ctx.sr_eq _))
    · exact h.completes_mfs rfl (by decide) (by decide) (by simp) hn (fun _ => rfl)
    · exact h.completes_mfs rfl (by decide) (by decide) (by simp) hn (fun _ => rfl)
    · exact h.completes_mfs rfl (by decide) (by decide) (by simp) hn (fun _ => rfl)
    · exact h.completes_mfs rfl (by decide) (by decide) (by simp) hn (fun _ => rfl)
    · exact h.completes_mfs rfl (by decide) (by decide) (by simp) hn (fun _ => by simp [Ctx.sreg, Vector.getD, Ctx.charge])
    · exact h.completes_mfs rfl (by decide) (by decide) (by simp) hn (fun _ => by simp [Ctx.sreg, Vector.getD, Ctx.charge])
    · exact h.completes_mfs rfl (by decide) (by decide) (by simp) hn (fun _ => congrArg (BitVec.ofNat 24) (Ctx.flags_eq _))

end Sys2Proof.Machine
end

section
/-! SUPPORT. Branches and hardware loops (R50, R51), and the statement on them, settled. -/

namespace Sys2Proof.Machine

variable {s u : State} {e : Fin 16} {c : BitVec 4} {regs : List (Fin 16)} {t k a : Nat}

/-! ### The next fetch at a target -/

/-- The code range of a task does not depend on a context. -/
theorem OnlyContext.inCode (h : OnlyContext s u e t k) : u.inCode t e a ↔ s.inCode t e a := by
  obtain ⟨hu, -, -⟩ := h
  rw [hu]
  rfl

theorem OnlyContext.setEng_held (h : OnlyContext s u e t k) (n : Nat) : OnlyContext s (u.setEng e { u.eng e with held := n }) e t k := by
  obtain ⟨hu, hctx, heng⟩ := h
  refine ⟨?_, fun j hj => hctx j hj, fun j => ?_⟩
  · rw [State.setEng, hu]
  · rw [State.eng_setEng, State.eng_setEng, if_pos rfl]
    by_cases hj : j = e
    · rw [if_pos hj, if_pos hj, heng e, if_pos rfl]
    · rw [if_neg hj, if_neg hj, heng, if_neg hj]

theorem OnlyContext.spend (h : OnlyContext s u e t k) (n : Nat) : OnlyContext s (u.spend e k n) e t k :=
  (h.setEng_held _).setCtx _

theorem OnlyContext.goto (h : OnlyContext s u e t k) (ha : s.inCode t e a) :
    OnlyContext s (u.goto t e k a) e t k ∧ (u.goto t e k a).ctx k = { u.ctx k with pc := BitVec.ofNat 13 a } := by
  rw [State.goto_of_inCode (h.inCode.2 ha)]
  exact ⟨h.setCtx _, State.ctx_setCtx_self ..⟩

theorem Ctx.leave_eq (x : Ctx) (a : Nat) : x.leave a = { x with loops := x.stay a } := by
  have h0 (v : Vector (BitVec 13) 2) : v.getD 0 0 = v[0] := by simp [Vector.getD]
  have h1 (v : Vector (BitVec 13) 2) : v.getD 1 0 = v[1] := by simp [Vector.getD]
  simp only [Ctx.leave, Ctx.stay, h0, h1, Bool.or_eq_true, decide_eq_true_eq]
  split_ifs <;> rfl

/-- A taken branch: one cycle passes, and the next fetch is at the target. -/
theorem OnlyContext.branch (h : OnlyContext s u e t k) (ha : s.inCode t e a) (leaves : Bool) :
    OnlyContext s (u.branch t e k a leaves) e t k ∧ (u.branch t e k a leaves).ctx k =
      { u.ctx k with
        cyc := ((u.branch t e k a leaves).ctx k).cyc, budget := ((u.branch t e k a leaves).ctx k).budget
        pc := BitVec.ofNat 13 a, loops := if leaves then (u.ctx k).stay a else (u.ctx k).loops } := by
  have hspend := (h.spend 1).setCtx (if leaves then ((u.spend e k 1).ctx k).leave a else (u.spend e k 1).ctx k)
  obtain ⟨honly, hctx⟩ := hspend.goto ha
  refine ⟨honly, ?_⟩
  simp only [State.branch]
  rw [hctx, State.ctx_setCtx_self, State.spend, State.ctx_setCtx_self]
  cases leaves
  · rfl
  · simp only [if_true, Ctx.leave_eq]
    rfl

/-! ### Control instructions that do not end a loop body -/

theorem Ctx.endsAt_eq_false {x : Ctx} : x.endsAt a = false ↔ x.noEnd a := by
  simp [Ctx.endsAt, Ctx.noEnd]

theorem Issues.control_eq (h : Issues s e c regs t k) {words : Nat} {dst uses : List (Fin 16)} {cordic : Bool} {blocked : Nat → Ctx → Bool}
    {F : Nat → Nat → State → State} (hw : words ≤ 2) (hin : s.inCode t e ((s.ctx k).pc.toNat + words - 1))
    (hregs : ∀ r ∈ uses ++ dst, r ∈ regs) (hb : blocked t ((s.ctx k).charge (s.switch e t)) = false)
    (hend : (s.ctx k).noEnd ((s.ctx k).pc.toNat + words - 1)) :
    s.control e c false words dst uses blocked cordic F = F t k (s.issued e t k (s.issueCycles e t k words uses [] cordic)) := by
  rw [State.control, h.issue_eq hw hin hregs hb, State.ctx_issued, if_pos rfl]
  exact if_neg (by rw [← Ctx.endsAt_eq_false] at hend; exact fun h' => Bool.false_ne_true (hend.symm.trans h'))

/-- A branch of one word from a state `v`, in which only the context changed. -/
theorem Issues.branchesTo (h : Issues s e c regs t k) {i : Instr} {uses : List (Fin 16)} {F : Nat → Nat → State → State} {leaves : Bool}
    {v : Nat → State} {x : Ctx} (hi : exec i s = .next (s.control e c false 1 [] uses free_ false F)) (hregs : ∀ r ∈ uses ++ [], r ∈ regs)
    (hend : (s.ctx k).noEnd (s.ctx k).pc.toNat) (ha : s.inCode t e a) (hv : ∀ n, OnlyContext s (v n) e t k)
    (hF : ∀ n, F t k (s.issued e t k n) = (v n).branch t e k a leaves)
    (hx : ∀ n cyc budget, { (v n).ctx k with
      cyc := cyc, budget := budget, pc := BitVec.ofNat 13 a, loops := if leaves then ((v n).ctx k).stay a else ((v n).ctx k).loops } =
      { x with cyc := cyc, budget := budget, pc := BitVec.ofNat 13 a }) : BranchesTo i s e t k a x := by
  rw [h.control_eq (by decide) h.here hregs rfl hend, hF] at hi
  obtain ⟨honly, hctx⟩ := (hv _).branch ha leaves
  exact ⟨_, hi, honly, hctx.trans (hx _ _ _)⟩

/-! ### Hardware loops -/

/-- Context `y` is `x` with its time passed and the next fetch at `a`. -/
def Ctx.At (x : Ctx) (a : Nat) (y : Ctx) : Prop := y = { x with cyc := y.cyc, budget := y.budget, pc := BitVec.ofNat 13 a }

theorem OnlyContext.goto_at (h : OnlyContext s u e t k) (ha : s.inCode t e a) {x : Ctx} (hx : TimeOnly x (u.ctx k))
    (hrdy : (u.ctx k).rdy = x.rdy ∧ (u.ctx k).acRdy = x.acRdy ∧ (u.ctx k).cordic = x.cordic) :
    x.At a ((u.goto t e k a).ctx k) := by
  obtain ⟨hr, hac, hcordic⟩ := hrdy
  rw [(h.goto ha).2, hx, hr, hac, hcordic]
  rfl

/-- Context `x` with one loop more: its body begins behind the `words` words of the instruction and ends `off` words behind it. -/
def Ctx.opened (x : Ctx) (off words : Nat) (count : Word) : Ctx :=
  { x with
    loops := x.loops + 1, lc := x.lc.setIfInBounds x.loops count
    loopStart := x.loopStart.setIfInBounds x.loops (BitVec.ofNat 13 (x.pc.toNat + words))
    loopEnd := x.loopEnd.setIfInBounds x.loops (BitVec.ofNat 13 (x.pc.toNat + off)) }

/-- Less than two loops are active: a count opens a loop. -/
theorem State.loop_eq_of_ne_zero {off words : Nat} {count : Word} (h : (u.ctx k).loops < 2) (hc : count ≠ 0) : u.loop_ t e k off words count =
    (u.setCtx k ((u.ctx k).opened off words count)).goto t e k ((u.ctx k).pc.toNat + words) := by
  rw [State.loop_]
  simp only [if_neg (Nat.not_le.2 h), if_neg hc]
  rfl

/-- A count of 0 goes on behind the body. -/
theorem State.loop_eq_of_zero {off words : Nat} (h : (u.ctx k).loops < 2) :
    u.loop_ t e k off words 0 = (u.spend e k 1).goto t e k ((u.ctx k).pc.toNat + off + 1) := by
  rw [State.loop_]
  simp only [if_neg (Nat.not_le.2 h), if_pos]

/-- What a loop instruction of `words` words does: with a count it opens a loop, with none it goes on behind. -/
theorem Issues.loop_branchesTo (h : Issues s e c regs t k) {i : Instr} {words : Nat} {off : BitVec 10} {count : Word} {uses : List (Fin 16)}
    {F : Nat → Nat → State → State} (hi : exec i s = .next (s.control e c false words [] uses free_ false F)) (hregs : ∀ r ∈ uses ++ [], r ∈ regs)
    (hw : 1 ≤ words ∧ words ≤ 2) (hloops : (s.ctx k).loops < 2) (hend : (s.ctx k).noEnd ((s.ctx k).pc.toNat + words - 1))
    (hF : ∀ n, F t k (s.issued e t k n) = (s.issued e t k n).loop_ t e k off.toNat words count)
    (hoff : words ≤ off.toNat) :
    (count ≠ 0 → s.inCode t e ((s.ctx k).pc.toNat + words) → BranchesTo i s e t k ((s.ctx k).pc.toNat + words)
      ((s.ctx k).opened off.toNat words count)) ∧
    (count = 0 → s.inCode t e ((s.ctx k).pc.toNat + off.toNat + 1) →
      BranchesTo i s e t k ((s.ctx k).pc.toNat + off.toNat + 1) (s.ctx k)) := by
  have hctx (n : Nat) : (s.issued e t k n).ctx k = (s.ctx k).charge n := (State.ctx_issued ..).trans (if_pos rfl)
  have hloops' (n : Nat) : ((s.issued e t k n).ctx k).loops < 2 := by rw [hctx]; exact hloops
  have hexec (a : Nat) (ha : s.inCode t e a) (hle : (s.ctx k).pc.toNat + words ≤ a) :
      exec i s = .next ((s.issued e t k (s.issueCycles e t k words uses [] false)).loop_ t e k off.toNat words count) := by
    have hlast : s.inCode t e ((s.ctx k).pc.toNat + words - 1) := ⟨h.here.1.trans (by omega), by have := ha.2; omega⟩
    rw [hi, h.control_eq hw.2 hlast hregs rfl hend, hF]
  refine ⟨fun hc ha => ?_, fun hc ha => ?_⟩
  · have hi := hexec _ ha (Nat.le_refl _)
    rw [State.loop_eq_of_ne_zero (hloops' _) hc, hctx] at hi
    have honly := (onlyContext_issued s e t k (s.issueCycles e t k words uses [] false)).setCtx
      (((s.ctx k).charge (s.issueCycles e t k words uses [] false)).opened off.toNat words count)
    refine ⟨_, hi, (honly.goto ha).1, honly.goto_at ha ?_ ?_⟩
    · rw [State.ctx_setCtx_self]
      rfl
    · rw [State.ctx_setCtx_self]
      exact ⟨rfl, rfl, rfl⟩
  · have hi := hexec _ ha (by omega)
    rw [hc, State.loop_eq_of_zero (hloops' _), hctx] at hi
    have honly := (onlyContext_issued s e t k (s.issueCycles e t k words uses [] false)).spend 1
    refine ⟨_, hi, (honly.goto ha).1, honly.goto_at ha ?_ ?_⟩
    · rw [State.spend, State.ctx_setCtx_self, hctx]
      rfl
    · rw [State.spend, State.ctx_setCtx_self, hctx]
      exact ⟨rfl, rfl, rfl⟩

/-- Settles O10: a branch writes pc and the loops that stay, a loop instruction those of its depth. -/
theorem branchesAndLoopsComplete : Obligations.BranchesAndLoopsComplete := by
  refine ⟨fun s e rs c target a r t k h => ?_, fun s e rs c off count t k h => ?_⟩
  · intro x reg hend
    have honly (n : Nat) : OnlyContext s (s.issued e t k n) e t k := onlyContext_issued ..
    have hctx (n : Nat) : (s.issued e t k n).ctx k = x.charge n := (State.ctx_issued ..).trans (if_pos rfl)
    refine ⟨fun ha => ?_, fun ha hstack => ?_, fun ha => ?_, fun ha hstack => ?_⟩
    · refine h.branchesTo rfl (by simp) hend ha honly (fun _ => rfl) (fun n cyc budget => ?_)
      rw [hctx]
      rfl
    · refine h.branchesTo (leaves := false) (v := fun n => (s.issued e t k n).setCtx k { x.charge n with stack := (x.pc + 1) :: x.stack })
        rfl (by simp) hend ha (fun n => (honly n).setCtx _) (fun n => ?_) (fun n cyc budget => ?_)
      · simp only [hctx]
        exact if_neg (Nat.not_le.2 hstack)
      · rw [State.ctx_setCtx_self]
        rfl
    · refine h.branchesTo (leaves := true) rfl (by simp) hend ha honly (fun n => ?_) (fun n cyc budget => ?_)
      · simp only [hctx]
        rfl
      · rw [hctx]
        rfl
    · refine h.branchesTo (leaves := true) (v := fun n => (s.issued e t k n).setCtx k { x.charge n with stack := r }) rfl (by simp) hend ha
        (fun n => (honly n).setCtx _) (fun n => ?_) (fun n cyc budget => ?_)
      · have hs : (x.charge n).stack = a :: r := hstack
        simp only [hctx, hs]
      · rw [State.ctx_setCtx_self]
        rfl
  · intro x hloops form hform stop hoff hend
    have hctx (n : Nat) : (s.issued e t k n).ctx k = x.charge n := (State.ctx_issued ..).trans (if_pos rfl)
    simp only [List.mem_cons, List.not_mem_nil, or_false] at hform
    rcases hform with rfl | rfl
    · refine h.loop_branchesTo rfl (by simp) ⟨Nat.le_succ 1, Nat.le_refl 2⟩ hloops hend (fun n => if_neg (Nat.not_lt.2 hoff)) hoff
    · refine h.loop_branchesTo rfl (by simp) ⟨Nat.le_refl 1, Nat.le_succ 1⟩ hloops hend (fun n => ?_) hoff
      rw [hctx]
      exact if_neg (Nat.not_lt.2 hoff)

end Sys2Proof.Machine
end

section
/-! SUPPORT. Conditions and cycles (R39, R55, R57), and the statement on them, settled. -/

namespace Sys2Proof.Machine

variable {s u : State} {e : Fin 16} {c : BitVec 4} {regs : List (Fin 16)} {t k a words : Nat}

/-- Engine `e` fetches, for task `t` in context `k`, the words of an instruction: it runs, its timer is not at 0, and the words are in the code
range and sound. -/
structure Fetches (s : State) (e : Fin 16) (t k words : Nat) : Prop where
  runs : ∃ i, s.running e.val = some (t, i) ∧ k = 6 * e.val + i
  live : (s.eng e.val).halted = false
  budget : (s.ctx k).budget ≠ 0
  sound : s.sound e k
  inCode : s.inCode t e ((s.ctx k).pc.toNat + words - 1)

section
variable {bad : Bool} {dst uses : List (Fin 16)} {accs : List (Fin 2)} {cordic : Bool} {blocked : Nat → Ctx → Bool} {F : Nat → Nat → State → State}

/-- What an instruction does whose words are fetched (R39, R55). -/
theorem Fetches.issue_eq (h : Fetches s e t k words) (hw : words ≤ 2) : s.issue e c bad words dst uses accs cordic blocked F =
    if condBad c || bad then (s.setEng e { s.eng e with last := some t }).abortAct t e k 1
    else if (s.ctx k).holds c = false then (s.issued e t k (s.switch e t + words)).advance t e k words
    else if (((s.ctx k).loads.any fun p => uses.contains p.1 || dst.contains p.1) || blocked t ((s.ctx k).charge (s.switch e t))) then s
    else if (s.ctx k).budget.toNat < s.issueCycles e t k words uses accs cordic then
      (s.issued e t k (s.issueCycles e t k words uses accs cordic)).abortAct t e k 6
    else F t k (s.issued e t k (s.issueCycles e t k words uses accs cordic)) := by
  obtain ⟨i, hrun, rfl⟩ := h.runs
  have hcode : ¬ (s.codeRange t e).1 + (s.codeRange t e).2 < (s.ctx (6 * e.val + i)).pc.toNat + words := by
    have := h.inCode.2
    omega
  rw [State.issue, hrun]
  dsimp only
  rw [if_neg (by rw [h.live]; decide), if_neg h.budget, if_neg hcode, h.sound.fetch hw]
  rfl

/-- An instruction of a false condition passes its words and goes on (R39). -/
theorem Fetches.issue_of_not_holds (h : Fetches s e t k words) (hw : words ≤ 2) (hc : 8 ≤ c.toNat) (hf : (s.ctx k).holds c = false) :
    s.issue e c false words dst uses accs cordic blocked F = (s.issued e t k (s.switch e t + words)).advance t e k words := by
  rw [h.issue_eq hw, condBad_eq_false (Or.inr hc), if_neg (by decide), if_pos hf]

end

theorem State.switch_of_last (h : (s.eng e.val).last = some t) : s.switch e t = 0 := by simp [State.switch, h]

/-- The time that `n` cycles take of context `x`, in context `y`. -/
def Ctx.Takes (x : Ctx) (n : Nat) (y : Ctx) : Prop :=
  y.rdy = x.rdy ∧ y.cyc = x.cyc + BitVec.ofNat 24 n ∧ y.budget.toNat = x.budget.toNat - n

theorem Ctx.takes_charge (x : Ctx) (n : Nat) : x.Takes n (x.charge n) := by
  refine ⟨rfl, rfl, ?_⟩
  have : (x.charge n).budget = BitVec.ofNat 24 (x.budget.toNat - n) := rfl
  rw [this, BitVec.toNat_ofNat, Nat.mod_eq_of_lt (by omega)]

theorem Ctx.Takes.advanced {x y : Ctx} {n : Nat} (h : x.Takes n y) (words : Nat) : x.Takes n (y.advanced words) := by
  rw [Ctx.advanced, Ctx.loopBack_frame]
  exact h

/-- An instruction of a false condition has no effect but its cycles. -/
theorem Fetches.completes_of_not_holds (h : Fetches s e t k words) {i : Instr} {dst uses : List (Fin 16)} {accs : List (Fin 2)} {cordic : Bool}
    {blocked : Nat → Ctx → Bool} {F : Nat → Nat → State → State} (hi : exec i s = .next (s.issue e c false words dst uses accs cordic blocked F))
    (hw : 1 ≤ words ∧ words ≤ 2) (hc : 8 ≤ c.toNat) (hf : (s.ctx k).holds c = false) (hlast : (s.eng e.val).last = some t)
    (hnext : s.inCode t e ((s.ctx k).nextFetch words)) :
    Completes i s e words t k id ∧ ∃ u, exec i s = .next u ∧ (s.ctx k).Takes words (u.ctx k) := by
  have hctx : (s.issued e t k words).ctx k = (s.ctx k).charge words := (State.ctx_issued ..).trans (if_pos rfl)
  have htime : TimeOnly (s.ctx k) ((s.ctx k).charge words) := rfl
  have hcode : (s.issued e t k words).inCode t e (((s.issued e t k words).ctx k).nextFetch words) := by
    rw [hctx, htime.sameFlow.nextFetch]
    exact hnext
  have hctx' : ((s.issued e t k words).advance t e k words).ctx k = ((s.ctx k).charge words).advanced words := by
    rw [State.ctx_advance hw.1 hcode, hctx]
  rw [h.issue_of_not_holds hw.2 hc hf, State.switch_of_last hlast, Nat.zero_add] at hi
  refine ⟨⟨_, hi, (onlyContext_issued ..).advance hw.1 hcode, ?_⟩, _, hi, ?_⟩
  · rw [hctx']
    exact Ctx.advanced_eq_after htime words
  · rw [hctx']
    exact (Ctx.takes_charge ..).advanced words

/-! ### Ready operands (R55) -/

theorem foldl_max_le {α : Type} (f : α → Nat) (m : Nat) : ∀ (l : List α) (n : Nat), n ≤ m → (∀ a ∈ l, f a ≤ m) →
    l.foldl (fun n a => max n (f a)) n ≤ m
  | [], _, hn, _ => hn
  | a :: l, n, hn, h => foldl_max_le f m l _ (max_le hn (h a (by simp))) (fun b hb => h b (by simp [hb]))

/-- An instruction whose operands are ready charges its words alone. -/
theorem issueCycles_of_ready (hlast : (s.eng e.val).last = some t) {uses : List (Fin 16)}
    (hready : ∀ r ∈ uses, (s.ctx k).rdy[r] ≤ (s.ctx k).cyc.toNat) : s.issueCycles e t k words uses [] false = words := by
  have hstall : ((s.ctx k).charge 0).stall uses [] false = 0 := by
    have hget (r : Fin 16) : (s.ctx k).rdy.getD r.val 0 = (s.ctx k).rdy[r] := by simp [Vector.getD]
    have hcyc : ((s.ctx k).charge 0).cyc = (s.ctx k).cyc := BitVec.add_zero _
    have := foldl_max_le (fun r : Fin 16 => (s.ctx k).rdy.getD r.val 0) _ uses 0 (Nat.zero_le _) (fun r hr => (hget r).trans_le (hready r hr))
    simp only [Ctx.stall, hcyc]
    exact Nat.sub_eq_zero_of_le this
  rw [State.issueCycles, State.switch_of_last hlast, hstall, Nat.zero_add]

/-- An instruction of ready operands that changes registers only takes a cycle per word. -/
theorem Issues.regOp_takes (h : Issues s e c regs t k) {i : Instr} {dst uses : List (Fin 16)} {g : Ctx → Ctx}
    (hi : exec i s = .next (s.regOp e c false words dst uses [] false g)) (hw1 : 1 ≤ words) (hw : words ≤ 2)
    (hin : s.inCode t e ((s.ctx k).pc.toNat + words - 1)) (hnext : s.inCode t e ((s.ctx k).nextFetch words))
    (hregs : ∀ r ∈ uses ++ dst, r ∈ regs) (hlast : (s.eng e.val).last = some t) (hready : ∀ r ∈ uses, (s.ctx k).rdy[r] ≤ (s.ctx k).cyc.toNat)
    (hflow : SameFlow (s.ctx k) (g ((s.ctx k).charge words)))
    (htime : (g ((s.ctx k).charge words)).cyc = ((s.ctx k).charge words).cyc ∧
      (g ((s.ctx k).charge words)).budget = ((s.ctx k).charge words).budget) :
    ∃ u, exec i s = .next u ∧ (u.ctx k).cyc = (s.ctx k).cyc + BitVec.ofNat 24 words ∧
      (u.ctx k).budget.toNat = (s.ctx k).budget.toNat - words := by
  have hctx : (s.issued e t k words).ctx k = (s.ctx k).charge words := (State.ctx_issued ..).trans (if_pos rfl)
  obtain ⟨-, hcyc, hbudget⟩ := Ctx.takes_charge (s.ctx k) words
  rw [State.regOp, h.issue_eq hw hin hregs rfl, issueCycles_of_ready hlast hready] at hi
  refine ⟨_, hi, ?_⟩
  rw [State.ctx_advance hw1, State.ctx_setCtx_self, hctx, Ctx.advanced, Ctx.loopBack_frame]
  · exact ⟨htime.1.trans hcyc, (congrArg BitVec.toNat htime.2).trans hbudget⟩
  · rw [State.ctx_setCtx_self, hctx, hflow.nextFetch]
    exact hnext

/-- Settles O13: the cycles charged are the words, for an instruction that is skipped and for one whose operands are ready. -/
theorem cyclesAndFalseConditions : Obligations.CyclesAndFalseConditions := by
  constructor
  · intro s e rd rs rt c imm addr target t k i hrun hk hlive hlast hbudget hsound hc hf form hform hfollows
    have hholds : (s.ctx k).holds c = false := by
      rw [← Bool.not_eq_true, Ctx.holds_iff]
      exact fun h => hf (h (by rintro rfl; exact absurd hc (by decide)))
    have hfetch {words : Nat} (h : s.follows t e k words) : Fetches s e t k words := ⟨⟨i, hrun, hk⟩, hlive, hbudget, hsound, h.1⟩
    have hskip {words : Nat} {i : Instr} {dst uses : List (Fin 16)} {accs : List (Fin 2)} {cordic : Bool} {blocked : Nat → Ctx → Bool}
        {F : Nat → Nat → State → State} (hi : exec i s = .next (s.issue e c false words dst uses accs cordic blocked F))
        (hw : 1 ≤ words ∧ words ≤ 2) (h : s.follows t e k words) :=
      (hfetch h).completes_of_not_holds hi hw hc hholds hlast h.2
    have hregs {words : Nat} {i : Instr} {dst uses : List (Fin 16)} {g : Ctx → Ctx}
        (hi : exec i s = .next (s.regOp e c false words dst uses [] false g)) := hskip (words := words) (by rw [hi, State.regOp])
    have hcontrol {i : Instr} {cordic : Bool} {blocked : Nat → Ctx → Bool} {F : Nat → Nat → State → State}
        (hi : exec i s = .next (s.control e c false 1 [] [] blocked cordic F)) := hskip (words := 1) (by rw [hi, State.control])
    have halu {i : Instr} {d : Fin 16} {uses : List (Fin 16)} {late : Nat} {g : Ctx → Word × Bool}
        (hi : exec i s = .next (s.aluOp e c false d uses late g)) := hregs (words := 1) (by rw [hi, State.aluOp])
    simp only [List.mem_cons, List.not_mem_nil, or_false] at hform
    rcases hform with rfl | rfl | rfl | rfl | rfl | rfl | rfl | rfl
    · exact halu rfl ⟨Nat.le_refl 1, Nat.le_succ 1⟩ hfollows
    · exact hregs rfl ⟨Nat.le_succ 1, Nat.le_refl 2⟩ hfollows
    · exact hskip rfl ⟨Nat.le_succ 1, Nat.le_refl 2⟩ hfollows
    · exact hskip rfl ⟨Nat.le_succ 1, Nat.le_refl 2⟩ hfollows
    · exact hcontrol rfl ⟨Nat.le_refl 1, Nat.le_succ 1⟩ hfollows
    · exact hcontrol rfl ⟨Nat.le_refl 1, Nat.le_succ 1⟩ hfollows
    · exact hskip rfl ⟨Nat.le_refl 1, Nat.le_succ 1⟩ hfollows
    · exact hskip rfl ⟨Nat.le_refl 1, Nat.le_succ 1⟩ hfollows
  · intro s e rd rs rt c imm t k h hlast x hrs hrt
    refine ⟨fun hn => ?_, fun hf => ?_, fun hn => ⟨?_, ?_⟩⟩
    · have hi : exec (.add e c rd rs rt 0) s = .next (s.aluOp e c (mBad 0) rd [rs, rt] 0 (fun x => (x.r rs + x.r rt, false))) := rfl
      rw [State.aluOp] at hi
      exact h.regOp_takes hi (Nat.le_refl 1) (by decide) h.here hn (by simp) hlast (by simpa using ⟨hrs, hrt⟩) ⟨rfl, rfl, rfl, rfl, rfl⟩ ⟨rfl, rfl⟩
    · exact h.regOp_takes rfl (by decide) (Nat.le_refl 2) hf.1 hf.2 (by simp) hlast (by simp) ⟨rfl, rfl, rfl, rfl, rfl⟩ ⟨rfl, rfl⟩
    all_goals
      refine h.completes_issue (y := fun _ => (x.charge 1).setW rd _ 0) rfl (fun m hm => ?_) (fun _ _ => rfl) (Nat.le_refl 1) (by decide) h.here hn
        (by simp) ⟨rfl, rfl, rfl, rfl, rfl⟩ rfl rfl
      obtain rfl : m = 1 := hm.trans (issueCycles_of_ready hlast (by simp))
      simp only [State.ctx_issued, if_true]
    · have hcyc : ((s.ctx k).charge 1).cyc - 1 = x.cyc := BitVec.add_sub_cancel _ _
      rw [hcyc]
    · have hcyc : ((s.ctx k).charge 1).cyc - (s.ctx k).cyc = 1 := by simp only [Ctx.charge]; bv_omega
      rw [if_neg (by decide), hcyc]
      exact congrArg (fun v => (((s.issued e t k 1).setCtx k ((x.charge 1).setW rd v 0))).advance t e k 1) (BitVec.ofNat_toNat _ _)

end Sys2Proof.Machine
end

section
/-! SUPPORT. The statement on the faults of an engine (R59), settled: the number of a task is not bounded in it. -/

namespace Sys2Proof.Machine

/-- A task of number 1040128, whose TASK_CYC_MAX (2.035) has the key of the last fault of engine 0 (3.014): mkKey 2 0x035 1040128 = mkKey 3 0x014 0. It
runs on engine 0, and its activation has taken 5 cycles. -/
def farTask : State :=
  ((State.reset.setEng 0 { Eng.idle with slots := Eng.idle.slots.set 0 (some 1040128) }).setCtx 0
    { Ctx.zero with pc := 0x100, budget := 1000, active := true, cyc := 5 }).setTask 1040128 { TaskRt.none with code := 0x100, codeLen := 64 }

/-- The entry 3.014 of engine 0 behind a command. -/
def lastFaultBehind (i : Instr) (s : State) : Option Nat :=
  match exec i s with
  | .next u => some (u.getKey (mkKey 3 0x014 0))
  | _ => none

/-- The last fault of the engine is overwritten by the cycles of the activation. -/
theorem lastFaultBehind_farTask : lastFaultBehind (.illegalOp 0) farTask = some 5 := by decide +kernel

/-- Refutes O12: the statement bounds no task number. The task 1040128 has the key of 3.014 of engine 0 as that of its 2.035, so that the abort leaves
its 5 cycles there, not the cause 1. -/
theorem not_engineFaultsAbort : ¬ Obligations.EngineFaultsAbort := by
  intro h
  have hrun : farTask.running (0 : Fin 16).val = some (1040128, 0) := by decide +kernel
  have habort := (h.1 farTask 0 0 0 0 0 0 0 0 0 0 0 0 1040128 0 0 hrun rfl (by decide +kernel) (by decide +kernel) (by decide +kernel)
    (by decide +kernel) ⟨by decide +kernel, by decide +kernel⟩ ⟨by decide +kernel, by decide +kernel⟩).1
  obtain ⟨u, hu, -, -, -, -, -, -, hkeys⟩ := habort
  have hkey : u.getKey (mkKey 3 0x014 0) = 1 := (hkeys _).trans (if_pos rfl)
  have hfive : some (u.getKey (mkKey 3 0x014 0)) = some 5 := by
    rw [← lastFaultBehind_farTask, lastFaultBehind, hu]
  rw [hkey] at hfive
  exact absurd hfive (by decide)

end Sys2Proof.Machine
end

section
/-! SUPPORT. Waits, software events, the end of an activation and BRK (R52, R54), and the statement on them, settled. -/

namespace Sys2Proof.Machine

variable {s u v : State} {e : Fin 16} {c : BitVec 4} {regs : List (Fin 16)} {t k a words : Nat}

/-! ### Tasks that do not migrate -/

theorem State.isShadow_of_not_migrating (h : (s.task t).mig = none) (e : Nat) : s.isShadow t e = false := by
  simp only [State.isShadow, h]

theorem State.codeRange_of_not_migrating (h : (s.task t).mig = none) (e : Nat) : s.codeRange t e = ((s.task t).code, (s.task t).codeLen) := by
  simp only [State.codeRange, h]

/-- The code range of a task that does not migrate is in its record. -/
theorem State.inCode_congr (hs : (s.task t).mig = none) (hu : (u.task t).mig = none) (hcode : (u.task t).code = (s.task t).code)
    (hlen : (u.task t).codeLen = (s.task t).codeLen) : u.inCode t e a ↔ s.inCode t e a := by
  simp only [State.inCode, State.codeRange_of_not_migrating hs, State.codeRange_of_not_migrating hu, hcode, hlen]

/-- What changed beside the loop engines is of no account to `OnlyContext`. -/
theorem OnlyContext.congr {s' u' : State} (h : OnlyContext s u e t k) (hs : s'.loop = s.loop) (hu : u'.loop = u.loop)
    (hframe : u' = { s' with loop := u'.loop }) : OnlyContext s' u' e t k := by
  obtain ⟨hloop, hctx, heng⟩ := h
  refine ⟨hframe.trans ?_, fun j hj => ?_, fun j => ?_⟩
  · rw [hu, hs, congrArg State.loop hloop]
  · simp only [State.ctx, hu, hs]
    exact hctx j hj
  · simp only [State.eng, hu, hs]
    exact heng j

/-- Execution goes on in context `k`, which is `x` but for the passing of time. -/
theorem OnlyContext.advance_after (h : OnlyContext s u e t k) {x : Ctx} (hx : TimeOnly x (u.ctx k)) (hw : 1 ≤ words)
    (hc : u.inCode t e (x.nextFetch words)) : OnlyContext s (u.advance t e k words) e t k ∧
      (u.advance t e k words).ctx k = x.after ((u.advance t e k words).ctx k) words := by
  have hcode : u.inCode t e ((u.ctx k).nextFetch words) := by rw [hx.sameFlow.nextFetch]; exact hc
  rw [State.ctx_advance hw hcode]
  exact ⟨h.advance hw hcode, Ctx.advanced_eq_after hx words⟩

theorem State.task_issued (s : State) (e t k n j : Nat) : (s.issued e t k n).task j = s.task j := rfl

/-! ### WAITEV (R52) -/

/-- What WAITEV does: MASK, POLL and CLEAR as its extension word gives them. -/
def State.waits (s : State) (t e k : Nat) (rd : Fin 16) (mask : BitVec 16) (poll clear : Bool) : State :=
  if (poll && clear) || (mask == 0 && !poll && !clear) then s.abortAct t e k 1
  else if clear then
    ((s.setPend t e (s.pendOn t e &&& ~~~mask)).setCtx k
      (((s.setPend t e (s.pendOn t e &&& ~~~mask)).ctx k).setW rd ((s.pendOn t e &&& mask).setWidth 24) 0)).advance t e k 2
  else match s.consume t e k rd mask with
    | some s' => s'.advance t e k 2
    | none =>
      if poll then (s.setCtx k ((s.ctx k).setW rd 0xFFFFFF 0)).advance t e k 2
      else (s.setCtx k { s.ctx k with sleep := some (rd, mask) }).advance t e k 2

theorem Issues.exec_waitev (h : Issues s e c regs t k) {rd : Fin 16} (hrd : rd ∈ regs) (hin : s.inCode t e ((s.ctx k).pc.toNat + 1))
    (hend : (s.ctx k).noEnd ((s.ctx k).pc.toNat + 1)) {ext : Word} (hext : ext.toNat < 2 ^ 18) :
    exec (.waitev e c rd ext) s =
      .next ((s.issued e t k (s.issueCycles e t k 2 [] [] false)).waits t e k rd (ext.setWidth 16) (ext.getLsbD 16) (ext.getLsbD 17)) := by
  have hbad : decide (2 ^ 18 ≤ ext.toNat) = false := by simpa using hext
  refine congrArg Host.Outcome.next ?_
  rw [doWaitev, hbad]
  exact h.control_eq (Nat.le_refl 2) hin (by simpa using hrd) rfl hend

/-- The extension word of WAITEV: MASK in [15:0], POLL in bit 16, CLEAR in bit 17. -/
theorem waitev_ext (mask : BitVec 16) (poll clear : Bool) :
    let ext : Word := BitVec.ofNat 24 (mask.toNat + 65536 * poll.toNat + 131072 * clear.toNat)
    ext.setWidth 16 = mask ∧ ext.getLsbD 16 = poll ∧ ext.getLsbD 17 = clear ∧ ext.toNat < 2 ^ 18 := by
  have hm := mask.isLt
  have hp := poll.toNat_lt
  have hc := clear.toNat_lt
  have hnat : (BitVec.ofNat 24 (mask.toNat + 65536 * poll.toNat + 131072 * clear.toNat)).toNat =
      mask.toNat + 65536 * poll.toNat + 131072 * clear.toNat := by
    rw [BitVec.toNat_ofNat, Nat.mod_eq_of_lt (by omega)]
  refine ⟨?_, ?_, ?_, by omega⟩
  · apply BitVec.eq_of_toNat_eq
    rw [BitVec.toNat_setWidth, hnat]
    omega
  · rw [← BitVec.testBit_toNat, hnat, Nat.testBit_eq_decide_div_mod_eq]
    cases poll <;> cases clear <;> simp only [Bool.toNat_true, Bool.toNat_false, decide_eq_true_eq, decide_eq_false_iff_not] at * <;> omega
  · rw [← BitVec.testBit_toNat, hnat, Nat.testBit_eq_decide_div_mod_eq]
    cases poll <;> cases clear <;> simp only [Bool.toNat_true, Bool.toNat_false, decide_eq_true_eq, decide_eq_false_iff_not] at * <;> omega

/-- From `s` to `u` context `k` takes `f` and goes on behind two words, and the pending slots of task `t` are `p`. -/
def TakesSlots (s u : State) (e : Fin 16) (t k : Nat) (p : BitVec 16) (f : Ctx → Ctx) : Prop :=
  OnlyContext { s with ref := u.ref } u e t k ∧ u.ctx k = (f (s.ctx k)).after (u.ctx k) 2 ∧
    u.ref = { s.ref with task := u.ref.task } ∧ ∀ j, u.task j = if j = t then { s.task t with pend := p } else s.task j

theorem takesSlots (hm : (s.task t).mig = none) (n : Nat) (p : BitVec 16) {f : Ctx → Ctx} {y : Ctx} (hy : TimeOnly (f (s.ctx k)) y)
    (hflow : SameFlow (s.ctx k) (f (s.ctx k))) (hnext : s.inCode t e ((s.ctx k).nextFetch 2)) :
    TakesSlots s ((((s.issued e t k n).setTask t { s.task t with pend := p }).setCtx k y).advance t e k 2) e t k p f := by
  have htask (j : Nat) : ((s.issued e t k n).setTask t { s.task t with pend := p }).task j =
      if j = t then { s.task t with pend := p } else s.task j := State.task_setTask ..
  have honly : OnlyContext { s with ref := ((s.issued e t k n).setTask t { s.task t with pend := p }).ref }
      ((s.issued e t k n).setTask t { s.task t with pend := p }) e t k :=
    (onlyContext_issued s e t k n).congr rfl rfl rfl
  have hcode : ((s.issued e t k n).setTask t { s.task t with pend := p }).inCode t e ((f (s.ctx k)).nextFetch 2) := by
    rw [hflow.nextFetch]
    refine (State.inCode_congr hm ?_ ?_ ?_).2 hnext <;> rw [htask, if_pos rfl]
    exact hm
  obtain ⟨hadv, hctx⟩ := honly.setCtx_advance hy (Nat.le_succ 1) hcode
  have hctx' : (((s.issued e t k n).setTask t { s.task t with pend := p }).setCtx k y).ctx k = y := State.ctx_setCtx_self ..
  have href : ((((s.issued e t k n).setTask t { s.task t with pend := p }).setCtx k y).advance t e k 2).ref =
      ((s.issued e t k n).setTask t { s.task t with pend := p }).ref := by rw [hadv.1]
  refine ⟨by rw [href]; exact hadv, hctx, by rw [href]; rfl, fun j => ?_⟩
  rw [State.task, href]
  exact htask j

/-- WAITEV with CLEAR takes the masked slots. -/
theorem State.waits_clear (hm : (v.task t).mig = none) (rd : Fin 16) (mask : BitVec 16) : v.waits t e k rd mask false true =
    ((v.setTask t { v.task t with pend := (v.task t).pend &&& ~~~mask }).setCtx k
      ((v.ctx k).setW rd (((v.task t).pend &&& mask).setWidth 24) 0)).advance t e k 2 := by
  rw [State.waits, State.pendOn_of_not_migrating hm, State.setPend_of_not_migrating hm]
  simp
  rfl

/-- WAITEV of a mask or of POLL has a meaning. -/
theorem waitev_listed {mask : BitVec 16} {poll : Bool} (h : mask ≠ 0 ∨ poll = true) :
    ((poll && false) || (mask == 0 && !poll && !false)) = false := by
  rcases h with h | h
  · simpa using fun h0 => absurd h0 h
  · simp [h]

/-- WAITEV without CLEAR takes the lowest masked pending slot. -/
theorem State.waits_of_lowest (hm : (v.task t).mig = none) {mask : BitVec 16} {poll : Bool} {i : Nat} (hmask : mask ≠ 0 ∨ poll = true)
    (hl : lowestBit ((v.task t).pend &&& mask) = some i) (rd : Fin 16) : v.waits t e k rd mask poll false = (v.takeSlot t k rd i).advance t e k 2 := by
  rw [State.waits, waitev_listed hmask, State.consume_of_lowest hm hl]
  rfl

theorem lowestBit_zero : lowestBit 0 = none := by decide

/-- With none pending POLL writes 0xFF_FFFF; without, the task sleeps. -/
theorem State.waits_of_none (hm : (v.task t).mig = none) {mask : BitVec 16} {poll : Bool} (hmask : mask ≠ 0 ∨ poll = true)
    (hp : (v.task t).pend &&& mask = 0) (rd : Fin 16) : v.waits t e k rd mask poll false =
      (v.setCtx k (if poll then (v.ctx k).setW rd 0xFFFFFF 0 else { v.ctx k with sleep := some (rd, mask) })).advance t e k 2 := by
  rw [State.waits, waitev_listed hmask, State.consume, State.pendOn_of_not_migrating hm, hp, lowestBit_zero]
  cases poll <;> rfl

/-! ### SEV, YIELD and BRK (R54) -/

theorem fenced_charge {x : Ctx} (hl : x.loads = []) (ha : x.acks = []) (n : Nat) : (!(x.charge n).fenced) = false := by
  simp [Ctx.fenced, Ctx.charge, hl, ha]

/-- YIELD of a task that does not migrate. -/
theorem State.endAct_of_not_migrating (hm : (v.task t).mig = none) : v.endAct t e k =
    ((v.setCtx k { v.ctx k with active := false }).put 2 0x035 t (max (v.en 2 0x035 t) (v.ctx k).cyc.toNat)).setTask t
      { v.task t with aborts := 0, yieldAt := some v.t48.toNat } := by
  have hshadow (x : Ctx) : (v.setCtx k x).isShadow t e = false := State.isShadow_of_not_migrating hm e
  simp only [State.endAct]
  rw [hshadow, if_neg Bool.false_ne_true]
  split
  · rfl
  · rename_i m hmig
    exact absurd (hmig.symm.trans hm) (by simp)

section
variable (hm : (v.task t).mig = none)
include hm

theorem State.endAct_frame :
    v.endAct t e k = { v with loop := (v.endAct t e k).loop, ref := (v.endAct t e k).ref, ent := (v.endAct t e k).ent } := by
  rw [State.endAct_of_not_migrating hm]
  rfl

theorem State.endAct_loop : (v.endAct t e k).loop = (v.setCtx k { v.ctx k with active := false }).loop := by
  rw [State.endAct_of_not_migrating hm]
  rfl

theorem State.endAct_ref : (v.endAct t e k).ref = { v.ref with task := (v.endAct t e k).ref.task } := by
  rw [State.endAct_of_not_migrating hm]
  rfl

theorem State.task_endAct (j : Nat) :
    (v.endAct t e k).task j = if j = t then { v.task t with aborts := 0, yieldAt := some v.t48.toNat } else v.task j := by
  rw [State.endAct_of_not_migrating hm, State.task_setTask]
  rfl

theorem State.getKey_endAct (j : Nat) :
    (v.endAct t e k).getKey j = if j = mkKey 2 0x035 t then max (v.en 2 0x035 t) (v.ctx k).cyc.toNat else v.getKey j := by
  have hput (w : State) (i m : Nat) (x : TaskRt) : ((w.put 2 0x035 t m).setTask i x).getKey j = if j = mkKey 2 0x035 t then m else w.getKey j :=
    State.getKey_putKey ..
  rw [State.endAct_of_not_migrating hm, hput]
  rfl

theorem State.ctx_endAct : (v.endAct t e k).ctx k = { v.ctx k with active := false } := by
  rw [State.ctx, State.endAct_loop hm]
  exact State.ctx_setCtx_self ..

end

/-- YIELD ends the activation in a context that only time has passed in. -/
theorem OnlyContext.endAct (h : OnlyContext s v e t k) (hm : (s.task t).mig = none) {n : Nat} (hx : v.ctx k = (s.ctx k).charge n) :
    OnlyContext { s with ref := (v.endAct t e k).ref, ent := (v.endAct t e k).ent } (v.endAct t e k) e t k ∧
    (v.endAct t e k).ctx k =
      { s.ctx k with active := false, cyc := ((v.endAct t e k).ctx k).cyc, budget := ((v.endAct t e k).ctx k).budget } ∧
    (v.endAct t e k).ref = { s.ref with task := (v.endAct t e k).ref.task } ∧
    (∀ j, (v.endAct t e k).task j = if j = t then { s.task t with aborts := 0, yieldAt := some s.t48.toNat } else s.task j) ∧
    ∀ j, (v.endAct t e k).getKey j = if j = mkKey 2 0x035 t then max (s.en 2 0x035 t) ((v.endAct t e k).ctx k).cyc.toNat else s.getKey j := by
  have hv := h.1
  have href : v.ref = s.ref := by rw [hv]
  have hent : v.ent = s.ent := by rw [hv]
  have ht48 : v.t48 = s.t48 := by rw [hv]
  have htask (j : Nat) : v.task j = s.task j := by rw [State.task, href]; rfl
  have hkey (j : Nat) : v.getKey j = s.getKey j := by rw [State.getKey, hent]; rfl
  have hmv : (v.task t).mig = none := by rw [htask]; exact hm
  refine ⟨(h.setCtx _).congr rfl (State.endAct_loop hmv) ?_, ?_, ?_, fun j => ?_, fun j => ?_⟩
  · have hframe := State.endAct_frame (e := e) (k := k) hmv
    generalize v.endAct t e k = u at *
    rw [hframe, hv]
  · rw [State.ctx_endAct hmv, hx]
    rfl
  · rw [State.endAct_ref hmv, href]
  · rw [State.task_endAct hmv, htask, htask, ht48]
  · rw [State.getKey_endAct hmv, State.ctx_endAct hmv, hkey, State.en, hkey]
    rfl

theorem OnlyContext.setEng_halted (h : OnlyContext s u e t k) :
    OnlyContext (s.setEng e { s.eng e with halted := true }) (u.setEng e { u.eng e with halted := true }) e t k := by
  obtain ⟨hu, hctx, heng⟩ := h
  refine ⟨?_, fun j hj => hctx j hj, fun j => ?_⟩
  · rw [State.setEng, hu]
    rfl
  · simp only [State.eng_setEng, if_true]
    split
    · rw [heng e, if_pos rfl]
    · rename_i hj
      rw [heng j, if_neg hj]

theorem Issues.exec_sev (h : Issues s e c regs t k) (hm : (s.task t).mig = none) (hl : (s.ctx k).loads = []) (ha : (s.ctx k).acks = [])
    {n : BitVec 6} (hin : (sevRange (s.dc 2 0x01B t)).1 ≤ n.toNat ∧
      n.toNat < (sevRange (s.dc 2 0x01B t)).1 + (sevRange (s.dc 2 0x01B t)).2) :
    exec (.sev e c n) s = .next (((s.issued e t k (s.issueCycles e t k 1 [] [] false)).raiseEv (448 + n.toNat)).advance t e k 1) := by
  have hshadow (m : Nat) : (s.issued e t k m).isShadow t e = false := State.isShadow_of_not_migrating hm e
  refine congrArg Host.Outcome.next ((h.issue_eq (Nat.le_succ 1) h.here (by simp) (fenced_charge hl ha _)).trans ?_)
  exact (if_pos hin).trans (by rw [hshadow]; rfl)

theorem Issues.exec_yield (h : Issues s e c regs t k) (hend : (s.ctx k).noEnd (s.ctx k).pc.toNat) (hl : (s.ctx k).loads = [])
    (ha : (s.ctx k).acks = []) : exec (.yield e c) s = .next ((s.issued e t k (s.issueCycles e t k 1 [] [] true)).endAct t e k) :=
  congrArg Host.Outcome.next (h.control_eq (Nat.le_succ 1) h.here (by simp) (fenced_charge hl ha _) hend)

theorem Issues.exec_brk (h : Issues s e c regs t k) (hd : s.debugHolds e = true) :
    exec (.brk e c) s = .next (((s.issued e t k (s.issueCycles e t k 1 [] [] false)).setEng e
      { (s.issued e t k (s.issueCycles e t k 1 [] [] false)).eng e with halted := true }).advance t e k 1) := by
  refine congrArg Host.Outcome.next ((h.issue_eq (Nat.le_succ 1) h.here (by simp) rfl).trans (if_pos ?_))
  rw [State.debugHolds, State.eng_issued, if_pos rfl]
  exact hd

theorem OnlyContext.raiseEv (h : OnlyContext s v e t k) (n : Nat) :
    OnlyContext { s with evBus := s.evBus ++ [n] } (v.raiseEv n) e t k := by
  obtain ⟨hv, hctx, heng⟩ := h
  exact ⟨by rw [State.raiseEv, hv], hctx, heng⟩

theorem Issues.sev_completes (h : Issues s e c regs t k) (hm : (s.task t).mig = none) (hn : s.inCode t e ((s.ctx k).nextFetch 1))
    (hl : (s.ctx k).loads = []) (ha : (s.ctx k).acks = []) {n : BitVec 6} (hin : (sevRange (s.dc 2 0x01B t)).1 ≤ n.toNat ∧
      n.toNat < (sevRange (s.dc 2 0x01B t)).1 + (sevRange (s.dc 2 0x01B t)).2) :
    ∃ u, exec (.sev e c n) s = .next u ∧ OnlyContext { s with evBus := s.evBus ++ [448 + n.toNat] } u e t k ∧
      u.ctx k = (s.ctx k).after (u.ctx k) 1 := by
  have hi := h.exec_sev hm hl ha hin
  have honly := onlyContext_issued s e t k (s.issueCycles e t k 1 [] [] false)
  have htime : TimeOnly (s.ctx k) ((s.issued e t k (s.issueCycles e t k 1 [] [] false)).ctx k) := by
    rw [State.ctx_issued, if_pos rfl]
    rfl
  generalize s.issued e t k (s.issueCycles e t k 1 [] [] false) = v at *
  have hcode : v.inCode t e ((s.ctx k).nextFetch 1) := honly.inCode.2 hn
  exact ⟨_, hi, (honly.raiseEv _).advance_after htime (Nat.le_refl 1) hcode⟩

theorem Issues.brk_completes (h : Issues s e c regs t k) (hn : s.inCode t e ((s.ctx k).nextFetch 1)) (hd : s.debugHolds e = true) :
    ∃ u, exec (.brk e c) s = .next u ∧ u = { s with loop := { s.loop with ctx := u.loop.ctx, engs := u.loop.engs } } ∧
      u.ctx k = (s.ctx k).after (u.ctx k) 1 ∧ (u.eng e).halted = true ∧ (∀ j, j ≠ k → u.ctx j = s.ctx j) ∧
      ∀ j, j ≠ e.val → u.eng j = s.eng j := by
  have hi := h.exec_brk hd
  have honly := onlyContext_issued s e t k (s.issueCycles e t k 1 [] [] false)
  have htime : TimeOnly (s.ctx k) ((s.issued e t k (s.issueCycles e t k 1 [] [] false)).ctx k) := by
    rw [State.ctx_issued, if_pos rfl]
    rfl
  generalize s.issued e t k (s.issueCycles e t k 1 [] [] false) = v at *
  have hcode : v.inCode t e ((s.ctx k).nextFetch 1) := honly.inCode.2 hn
  obtain ⟨⟨hframe, hother, heng⟩, hafter⟩ := honly.setEng_halted.advance_after htime (Nat.le_refl 1) hcode
  refine ⟨_, hi, hframe, hafter, ?_, hother, fun j hj => ?_⟩
  · rw [heng, if_pos rfl, State.eng_setEng, if_pos rfl]
  · rw [heng, if_neg hj, State.eng_setEng, if_neg hj]

/-- Settles O11: the slots pending are of the task's record, which the address of the next fetch does not depend on. -/
theorem waitsEventsAndEndComplete : Obligations.WaitsEventsAndEndComplete := by
  constructor
  · intro s e rd c mask poll t k h hf hend hm x wait pend
    have hv (n : Nat) : ((s.issued e t k n).task t).mig = none := hm
    have hctx (n : Nat) : (s.issued e t k n).ctx k = x.charge n := (State.ctx_issued ..).trans (if_pos rfl)
    have hw (rd : Fin 16) (a : Word) (n : Nat) : TimeOnly (x.withW rd a) ((x.charge n).setW rd a 0) := rfl
    refine ⟨fun hmask => ⟨fun n hpend hn hlow => ?_, fun hp => ?_⟩, ?_⟩
    · obtain ⟨hm16, hpoll, hclear, hext⟩ := waitev_ext mask poll false
      have hi := h.exec_waitev (rd := rd) (by simp) hf.1 hend hext
      have hl : lowestBit (pend &&& mask) = some n.val := lowestBit_eq (by simp [hpend, hn]) fun j hj => by
        simpa [BitVec.getLsbD_and] using hlow j hj
      rw [hm16, hpoll, hclear, State.waits_of_lowest (hv _) hmask hl, State.takeSlot, State.task_issued, hctx] at hi
      have htakes (m : Nat) := takesSlots (e := e) (f := (·.withW rd (BitVec.ofNat 24 n.val))) hm m (pend &&& ~~~(1#16 <<< n.val)) (hw rd _ m)
        ⟨rfl, rfl, rfl, rfl, rfl⟩ hf.2
      exact ⟨_, hi, htakes _⟩
    · obtain ⟨hm16, hpoll, hclear, hext⟩ := waitev_ext mask poll false
      have hi := h.exec_waitev (rd := rd) (by simp) hf.1 hend hext
      rw [hm16, hpoll, hclear, State.waits_of_none (hv _) hmask hp, hctx] at hi
      refine ⟨_, hi, (onlyContext_issued ..).setCtx_advance ?_ (Nat.le_succ 1) ?_⟩
      · cases poll <;> rfl
      · have hflow : SameFlow x ((fun x : Ctx => if poll then x.withW rd 0xFFFFFF else { x with sleep := some (rd, mask) }) x) := by
          cases poll <;> exact ⟨rfl, rfl, rfl, rfl, rfl⟩
        rw [hflow.nextFetch]
        exact hf.2
    · obtain ⟨hm16, hpoll, hclear, hext⟩ := waitev_ext mask false true
      have hi := h.exec_waitev (rd := rd) (by simp) hf.1 hend hext
      rw [hm16, hpoll, hclear, State.waits_clear (hv _), State.task_issued, hctx] at hi
      have htakes (m : Nat) := takesSlots (e := e) (f := (·.withW rd ((pend &&& mask).setWidth 24))) hm m (pend &&& ~~~mask) (hw rd _ m)
        ⟨rfl, rfl, rfl, rfl, rfl⟩ hf.2
      exact ⟨_, hi, htakes _⟩
  · intro s e c n t k h hm x
    have hctx (n : Nat) : (s.issued e t k n).ctx k = x.charge n := (State.ctx_issued ..).trans (if_pos rfl)
    exact ⟨fun hn hl ha hlo hhi => h.sev_completes hm hn hl ha ⟨hlo, hhi⟩,
      fun hend hl ha => ⟨_, h.exec_yield hend hl ha, (onlyContext_issued ..).endAct hm (hctx _)⟩, h.brk_completes⟩

end Sys2Proof.Machine
end

section
/-! SUPPORT. The CORDIC unit on the axes and the seeds (R46, R47), and the statement on them, settled. -/

namespace Sys2Proof.Machine

variable {s : State} {e : Fin 16} {c : BitVec 4} {regs : List (Fin 16)} {t k : Nat}

/-! ### Values within bounds -/

theorem pick_mem {lo hi : Int} (h : lo ≤ hi) (e : Nat) : lo ≤ pick lo hi e ∧ pick lo hi e ≤ hi := by
  have := Nat.mod_lt e (show 0 < (hi - lo + 1).toNat by omega)
  rw [pick]
  omega

/-- A word of the unit is its value within 4 LSB, cut at the limits. -/
theorem toInt_cordicWord {v lo hi : Int} (hv : v ≠ 2 ^ 60) (hlo : -((4 * 2 ^ 60 - v * 2 ^ 23) / 2 ^ 60) = lo)
    (hhi : (v * 2 ^ 23 + 4 * 2 ^ 60) / 2 ^ 60 = hi) (h : lo ≤ hi) (e : Nat) :
    max (-8388608) (min 8388607 lo) ≤ (cordicWord v e).toInt ∧ (cordicWord v e).toInt ≤ max (-8388608) (min 8388607 hi) := by
  have hpick := pick_mem h e
  have hsat := (saturates_sat24 (pick lo hi e)).1
  rw [cordicWord, if_neg hv]
  simp only [hlo, hhi, hsat]
  omega

theorem cordicWord_zero (e : Nat) : |(cordicWord 0 e).toInt| ≤ 4 := by
  have := toInt_cordicWord (v := 0) (lo := -4) (hi := 4) (by decide) (by decide) (by decide) (by decide) e
  rw [abs_le]
  omega

theorem cordicWord_one (e : Nat) : cordicWord (2 ^ 60) e = 0x7FFFFF := if_pos rfl

theorem cordicWord_neg_one (e : Nat) : (cordicWord (-2 ^ 60) e).toInt ≤ 4 - 2 ^ 23 := by
  have := toInt_cordicWord (v := -2 ^ 60) (lo := -8388612) (hi := 4 - 2 ^ 23) (by decide) (by decide) (by decide) (by decide) e
  omega

/-! ### Angles on the axes -/

theorem trig_quarters : trig 0 = (2 ^ 60, 0) ∧ trig 0x400000 = (0, 2 ^ 60) ∧ trig 0x800000 = (-2 ^ 60, 0) ∧ trig 0xC00000 = (0, -2 ^ 60) := by
  decide +kernel

/-- The sine is above 0 at every power of 2 up to a quarter turn. -/
theorem sin_pos : ∀ b : Fin 23, 0 < (trig (2 ^ b.val)).2 := by decide +kernel

theorem foldl_eq_self {α β : Type} (f : β → α → β) (r : β) : ∀ l : List α, (∀ a ∈ l, f r a = r) → l.foldl f r = r
  | [], _ => rfl
  | a :: l, h => by
    rw [List.foldl_cons, h a (by simp)]
    exact foldl_eq_self f r l (fun b hb => h b (by simp [hb]))

theorem atanQ_zero {x : Nat} (hx : 0 < x) : atanQ 0 x = 0 := by
  refine foldl_eq_self _ 0 _ fun b hb => ?_
  have hb : b < 23 := by simpa using hb
  have hsin := sin_pos ⟨b, hb⟩
  have hpos : 0 < (x : Int) * (trig (2 ^ b)).2 := Int.mul_pos (by omega) hsin
  have hright : ¬ (x : Int) * (trig (0 + 2 ^ b)).2 ≤ ((0 : Nat) : Int) * (trig (0 + 2 ^ b)).1 := by
    rw [Nat.zero_add]
    simpa using hpos
  exact ite_eq_left_iff.2 fun _ => if_neg hright

theorem atanQ_quarter (y : Nat) : atanQ y 0 = 2 ^ 22 := by
  have hrange : (List.range 23).reverse = 22 :: (List.range 22).reverse := by decide
  have hcos : (trig (2 ^ 22)).1 = 0 := by decide +kernel
  rw [atanQ, hrange, List.foldl_cons]
  simp only [Nat.zero_add]
  rw [if_neg (Nat.lt_irrefl _), if_pos (by rw [hcos]; simp)]
  refine foldl_eq_self _ _ _ fun b _ => if_pos ?_
  have := Nat.two_pow_pos b
  omega

theorem nearAngle_ofInt {n d : Int} (h : |d| ≤ 4) : nearAngle (BitVec.ofInt 24 (n + d)) (BitVec.ofInt 24 n) := by
  have hsub : BitVec.ofInt 24 (n + d) - BitVec.ofInt 24 n = BitVec.ofInt 24 d := by
    rw [BitVec.ofInt_add, BitVec.add_comm, BitVec.add_sub_cancel]
  rw [abs_le] at h
  rw [nearAngle, hsub, toInt_ofInt_word (by omega) (by omega), abs_le]
  exact h

/-! ### Integer square roots -/

/-- Bits taken from above approximate the square root from below. -/
theorem foldl_sqrt (n : Nat) : ∀ m r : Nat, r * r ≤ n → n < (r + 2 ^ m) * (r + 2 ^ m) →
    let q := (List.range m).reverse.foldl (fun r b => if (r + 2 ^ b) * (r + 2 ^ b) ≤ n then r + 2 ^ b else r) r
    q * q ≤ n ∧ n < (q + 1) * (q + 1)
  | 0, r, hlo, hhi => ⟨hlo, hhi⟩
  | m + 1, r, hlo, hhi => by
    have hrange : (List.range (m + 1)).reverse = m :: (List.range m).reverse := by
      rw [List.range_succ, List.reverse_append]
      rfl
    simp only [hrange, List.foldl_cons]
    by_cases h : (r + 2 ^ m) * (r + 2 ^ m) ≤ n
    · rw [if_pos h]
      refine foldl_sqrt n m _ h ?_
      rwa [Nat.add_assoc, ← Nat.two_mul, ← Nat.pow_succ']
    · rw [if_neg h]
      exact foldl_sqrt n m r hlo (Nat.lt_of_not_le h)

theorem isqrt_spec {n : Nat} (h : n < 2 ^ 64) : isqrt n * isqrt n ≤ n ∧ n < (isqrt n + 1) * (isqrt n + 1) :=
  foldl_sqrt n 32 0 (Nat.zero_le _) (by simpa using h)

/-! ### CAT -/

theorem catW_of_ne {y x : Word} (h : ¬ (y = 0 ∧ x = 0)) : ∃ d : Int,
    (atanQ y.toInt.natAbs x.toInt.natAbs : Int) - 3 ≤ d ∧ d ≤ atanQ y.toInt.natAbs x.toInt.natAbs + 4 ∧
    (catW y x).1 = BitVec.ofInt 24 (if 0 ≤ x.toInt then (if 0 ≤ y.toInt then d else -d) else if 0 ≤ y.toInt then 8388608 - d else 8388608 + d) ∧
    ((catW y x).2.2 = true ↔ 2 ^ 46 ≤ y.toInt.natAbs ^ 2 + x.toInt.natAbs ^ 2) ∧ ((catW y x).2.2 = true → (catW y x).2.1 = 0x7FFFFF) := by
  obtain ⟨hlo, hhi⟩ := pick_mem (lo := (atanQ y.toInt.natAbs x.toInt.natAbs : Int) - 3) (hi := atanQ y.toInt.natAbs x.toInt.natAbs + 4) (by omega)
    (Config.cordicErr 2 y x)
  refine ⟨_, hlo, hhi, ?_⟩
  rw [catW, if_neg h]
  dsimp only
  split
  · exact ⟨rfl, iff_of_true rfl ‹_›, fun _ => rfl⟩
  · exact ⟨rfl, iff_of_false Bool.false_ne_true ‹_›, fun h => absurd h Bool.false_ne_true⟩

/-! ### Seeds -/

/-- A seed whose exact value lies from `exact` to `exact + 1`. -/
theorem toInt_seedOf {op exact : Nat} (x : Word) (hlo : 2 ^ 22 ≤ exact) (hhi : exact ≤ 2 ^ 23) :
    2 ^ 22 < (seedOf op exact x).toInt ∧ (seedOf op exact x).toInt ≤ exact + 2048 ∧ exact - 2047 ≤ (seedOf op exact x).toInt ∧
      (seedOf op exact x).toInt < 2 ^ 23 := by
  obtain ⟨h1, h2⟩ := pick_mem (lo := (exact : Int) - 2047) (hi := exact + 2048) (by omega) (Config.seedErr op x)
  rw [seedOf]
  split
  · rw [show (0x7FFFFF : Word).toInt = 8388607 from rfl]
    omega
  · rw [toInt_ofInt_word (by omega) (by omega)]
    omega

theorem toNat_eq_toInt {x : Word} (h : x.toNat < 0x800000) : (x.toNat : Int) = x.toInt := by
  rw [BitVec.toInt_eq_toNat_of_lt (by omega)]

theorem toInt_lt_iff {x : Word} {n : Nat} (h : n ≤ 2 ^ 23) : x.toInt < n ↔ ¬ (n ≤ x.toNat ∧ x.toNat < 0x800000) := by
  rw [BitVec.toInt_eq_toNat_cond]
  have := x.isLt
  split <;> omega

theorem rcpsW_spec (x : Word) : ((rcpsW x).2 = true ↔ x.toInt < 2 ^ 22) ∧ ((rcpsW x).2 = true → (rcpsW x).1 = 0x7FFFFF) ∧
    ((rcpsW x).2 = false → 2 ^ 22 < (rcpsW x).1.toInt ∧ |((rcpsW x).1.toInt : ℚ) - 2 ^ 45 / x.toInt| ≤ 2 ^ 11) := by
  have hdom := toInt_lt_iff (x := x) (n := 2 ^ 22) (by decide)
  rw [rcpsW]
  split
  · rename_i h
    refine ⟨by simpa using (not_congr hdom).2 (not_not.2 h), by simp, fun _ => ?_⟩
    have hpos : 0 < x.toNat := by omega
    obtain ⟨hlt, hup, hlow, -⟩ := toInt_seedOf (op := 0) (exact := 2 ^ 45 / x.toNat) x ((Nat.le_div_iff_mul_le hpos).2 (by omega))
      (Nat.div_le_of_le_mul (by omega))
    refine ⟨hlt, ?_⟩
    have hfloor := Nat.div_mul_le_self (2 ^ 45) x.toNat
    have hceil := Nat.lt_div_mul_add (a := 2 ^ 45) hpos
    rw [← toNat_eq_toInt h.2, Int.cast_natCast]
    generalize (seedOf 0 (2 ^ 45 / x.toNat) x).toInt = v at *
    generalize 2 ^ 45 / x.toNat = q at *
    have hx : (0 : ℚ) < x.toNat := by exact_mod_cast hpos
    have hfloor' : (q : ℚ) ≤ 2 ^ 45 / x.toNat := by
      rw [le_div_iff₀ hx]
      exact_mod_cast hfloor
    have hceil' : (2 ^ 45 / x.toNat : ℚ) < q + 1 := by
      rw [div_lt_iff₀ hx, add_mul, one_mul]
      exact_mod_cast hceil
    have hup' := Int.cast_le (R := ℚ).2 hup
    have hlow' := Int.cast_le (R := ℚ).2 hlow
    push_cast at hup' hlow'
    rw [abs_le]
    constructor <;> linarith
  · rename_i h
    exact ⟨by simpa using hdom.2 h, fun _ => rfl, by simp⟩

theorem rsqsW_spec (x : Word) : ((rsqsW x).2 = true ↔ x.toInt < 2 ^ 21) ∧ ((rsqsW x).2 = true → (rsqsW x).1 = 0x7FFFFF) ∧
    ((rsqsW x).2 = false → 2 ^ 22 < (rsqsW x).1.toInt ∧ ((rsqsW x).1.toInt - 2 ^ 11) ^ 2 * x.toInt ≤ 2 ^ 67 ∧
      2 ^ 67 ≤ ((rsqsW x).1.toInt + 2 ^ 11) ^ 2 * x.toInt) := by
  have hdom := toInt_lt_iff (x := x) (n := 2 ^ 21) (by decide)
  rw [rsqsW]
  split
  · rename_i h
    refine ⟨by simpa using (not_congr hdom).2 (not_not.2 h), by simp, fun _ => ?_⟩
    have hpos : 0 < x.toNat := by omega
    have hn1 : 2 ^ 44 ≤ 2 ^ 67 / x.toNat := (Nat.le_div_iff_mul_le hpos).2 (by omega)
    have hn2 : 2 ^ 67 / x.toNat ≤ 2 ^ 46 := Nat.div_le_of_le_mul (by omega)
    obtain ⟨hsq, hsq'⟩ := isqrt_spec (n := 2 ^ 67 / x.toNat) (by omega)
    have hmul : 2 ^ 67 / x.toNat * x.toNat ≤ 2 ^ 67 := Nat.div_mul_le_self _ _
    have hmul' : 2 ^ 67 < (2 ^ 67 / x.toNat + 1) * x.toNat := by
      rw [Nat.add_mul, Nat.one_mul]
      exact Nat.lt_div_mul_add hpos
    generalize isqrt (2 ^ 67 / x.toNat) = r at *
    have hr1 : 2 ^ 22 ≤ r := by
      by_contra hlt
      have := Nat.mul_le_mul (show r + 1 ≤ 2 ^ 22 by omega) (show r + 1 ≤ 2 ^ 22 by omega)
      omega
    have hr2 : r ≤ 2 ^ 23 := by
      by_contra hgt
      have := Nat.mul_le_mul (show 2 ^ 23 + 1 ≤ r by omega) (show 2 ^ 23 + 1 ≤ r by omega)
      omega
    obtain ⟨hlt, hup, hlow, -⟩ := toInt_seedOf (op := 1) x hr1 hr2
    have hbelow : r * r * x.toNat ≤ 2 ^ 67 := (Nat.mul_le_mul_right _ hsq).trans hmul
    have habove : 2 ^ 67 ≤ (r + 1) * (r + 1) * x.toNat := hmul'.le.trans (Nat.mul_le_mul_right _ hsq')
    generalize (seedOf 1 r x).toInt = v at *
    rw [← toNat_eq_toInt h.2]
    zify at hbelow habove
    have hx : (0 : Int) ≤ x.toNat := Int.natCast_nonneg _
    refine ⟨hlt, le_trans (mul_le_mul_of_nonneg_right ?_ hx) hbelow, le_trans habove (mul_le_mul_of_nonneg_right ?_ hx)⟩
    · rw [sq]
      exact mul_self_le_mul_self (by omega) (by omega)
    · rw [sq]
      exact mul_self_le_mul_self (by omega) (by omega)
  · rename_i h
    exact ⟨by simpa using hdom.2 h, fun _ => rfl, by simp⟩

/-! ### The statement -/

/-- A CORDIC instruction completes: the pair takes the results, CSAT its flag. -/
theorem Issues.completes_cordicOp (h : Issues s e c regs t k) {i : Instr} {rd : Fin 16} {uses : List (Fin 16)} {g : Ctx → Word × Word × Bool}
    {r : Word × Word × Bool} (hi : exec i s = .next (s.cordicOp e c 0 rd uses g)) (hnext : s.inCode t e ((s.ctx k).nextFetch 1))
    (hregs : ∀ q ∈ uses ++ [rd, rd + 1], q ∈ regs) (hg : ∀ n, g ((s.ctx k).charge n) = r) (hrd : rd.val % 2 = 0) :
    Completes i s e 1 t k (·.withPair rd r.1 r.2.1 r.2.2) := by
  have hbad : (mBad 0 || rd.val % 2 == 1) = false := by simp [mBad, hrd]
  exact h.completes_regOp_one hi hnext hregs ⟨rfl, rfl, rfl, rfl, rfl⟩ (fun n => by simp only [hg n]; rfl) hbad

theorem cscW_of_trig {a : Word} {p : Int × Int} (h : trig a.toNat = p) :
    cscW a = (cordicWord p.1 (Config.cordicErr 0 a 0), cordicWord p.2 (Config.cordicErr 1 a 0)) := by
  rw [cscW, h]

theorem cscW_axes (a : Word) :
    (a = 0 → (cscW a).1 = 0x7FFFFF ∧ |(cscW a).2.toInt| ≤ 4) ∧ (a = 0x400000 → |(cscW a).1.toInt| ≤ 4 ∧ (cscW a).2 = 0x7FFFFF) ∧
    (a = 0x800000 → (cscW a).1.toInt ≤ 4 - 2 ^ 23 ∧ |(cscW a).2.toInt| ≤ 4) ∧
    (a = 0xC00000 → |(cscW a).1.toInt| ≤ 4 ∧ (cscW a).2.toInt ≤ 4 - 2 ^ 23) := by
  obtain ⟨h0, h1, h2, h3⟩ := trig_quarters
  refine ⟨?_, ?_, ?_, ?_⟩ <;> rintro rfl
  · rw [cscW_of_trig (a := 0) h0]
    exact ⟨cordicWord_one (Config.cordicErr 0 0 0), cordicWord_zero _⟩
  · rw [cscW_of_trig (a := 0x400000) h1]
    exact ⟨cordicWord_zero _, cordicWord_one (Config.cordicErr 1 0x400000 0)⟩
  · rw [cscW_of_trig (a := 0x800000) h2]
    exact ⟨cordicWord_neg_one _, cordicWord_zero _⟩
  · rw [cscW_of_trig (a := 0xC00000) h3]
    exact ⟨cordicWord_zero _, cordicWord_neg_one _⟩

/-- On the axes the angle of CAT is that of the axis. -/
theorem catW_axes (y x : Word) :
    (y = 0 ∧ x = 0 → (catW y x).1 = 0 ∧ (catW y x).2.1 = 0 ∧ (catW y x).2.2 = false) ∧
    (y = 0 ∧ 0 < x.toInt → nearAngle (catW y x).1 0) ∧ (0 < y.toInt ∧ x = 0 → nearAngle (catW y x).1 0x400000) ∧
    (y = 0 ∧ x.toInt < 0 → nearAngle (catW y x).1 0x800000) ∧ (y.toInt < 0 ∧ x = 0 → nearAngle (catW y x).1 0xC00000) := by
  have hzero : (0 : Word).toInt = 0 := rfl
  refine ⟨?_, ?_, ?_, ?_, ?_⟩
  · rintro ⟨rfl, rfl⟩
    rw [catW, if_pos ⟨rfl, rfl⟩]
    exact ⟨rfl, rfl, rfl⟩
  · rintro ⟨rfl, hx⟩
    obtain ⟨d, hlo, hhi, hangle, -⟩ := catW_of_ne (y := 0) (x := x) (by rintro ⟨-, rfl⟩; exact absurd hx (by decide))
    rw [hzero, Int.natAbs_zero, atanQ_zero (by omega)] at hlo hhi
    rw [hangle, if_pos hx.le, if_pos (by decide), ← Int.zero_add d]
    exact nearAngle_ofInt (n := 0) (abs_le.2 ⟨by omega, by omega⟩)
  · rintro ⟨hy, rfl⟩
    obtain ⟨d, hlo, hhi, hangle, -⟩ := catW_of_ne (y := y) (x := 0) (by rintro ⟨rfl, -⟩; exact absurd hy (by decide))
    rw [hzero, Int.natAbs_zero, atanQ_quarter] at hlo hhi
    rw [hangle, if_pos (by decide), if_pos hy.le, show d = 4194304 + (d - 4194304) by omega]
    exact nearAngle_ofInt (n := 4194304) (abs_le.2 ⟨by omega, by omega⟩)
  · rintro ⟨rfl, hx⟩
    obtain ⟨d, hlo, hhi, hangle, -⟩ := catW_of_ne (y := 0) (x := x) (by rintro ⟨-, rfl⟩; exact absurd hx (by decide))
    rw [hzero, Int.natAbs_zero, atanQ_zero (by omega)] at hlo hhi
    rw [hangle, if_neg (by omega), if_pos (by decide), Int.sub_eq_add_neg]
    exact nearAngle_ofInt (n := 8388608) (abs_le.2 ⟨by omega, by omega⟩)
  · rintro ⟨hy, rfl⟩
    obtain ⟨d, hlo, hhi, hangle, -⟩ := catW_of_ne (y := y) (x := 0) (by rintro ⟨rfl, -⟩; exact absurd hy (by decide))
    rw [hzero, Int.natAbs_zero, atanQ_quarter] at hlo hhi
    rw [hangle, if_pos (by decide), if_neg (by omega), show -d = -4194304 + (4194304 - d) by omega]
    exact nearAngle_ofInt (n := -4194304) (abs_le.2 ⟨by omega, by omega⟩)

/-- The magnitude of CAT is 1 or more where its flag says so. -/
theorem catW_flag (y x : Word) :
    ((catW y x).2.2 = true ↔ 2 ^ 46 ≤ y.toInt ^ 2 + x.toInt ^ 2) ∧ ((catW y x).2.2 = true → (catW y x).2.1 = 0x7FFFFF) := by
  by_cases h : y = 0 ∧ x = 0
  · obtain ⟨rfl, rfl⟩ := h
    rw [catW, if_pos ⟨rfl, rfl⟩]
    exact ⟨by decide, fun h => absurd h Bool.false_ne_true⟩
  · obtain ⟨-, -, -, -, hflag, hmag⟩ := catW_of_ne h
    refine ⟨hflag.trans ?_, hmag⟩
    zify
    rw [sq_abs, sq_abs]

/-- Settles O5: on the axes the series of the model are exact, and its choices within the bounds hold for every operand. -/
theorem cordicAndSeedsComplete : Obligations.CordicAndSeedsComplete := by
  intro s e rd rs rt c t k hn x a
  refine ⟨fun h hrd => ⟨⟨_, _, ?_, cscW_axes a⟩,
    ⟨(catW a x.w[rt]).1, (catW a x.w[rt]).2.1, (catW a x.w[rt]).2.2, ?_, ?_⟩⟩, fun h =>
    ⟨⟨_, _, h.completes_aluOp rfl hn (by simp) (fun _ => rfl), rcpsW_spec a⟩,
      ⟨_, _, h.completes_aluOp rfl hn (by simp) (fun _ => rfl), rsqsW_spec a⟩⟩⟩
  · exact h.completes_cordicOp (r := ((cscW a).1, (cscW a).2, false)) (uses := [rs]) rfl hn (by simp) (fun _ => rfl) hrd
  · exact h.completes_cordicOp (r := catW a x.w[rt]) (uses := [rs, rt]) rfl hn (by simp) (fun _ => rfl) hrd
  · obtain ⟨horigin, hright, htop, hleft, hbottom⟩ := catW_axes a x.w[rt]
    exact ⟨horigin, hright, htop, hleft, hbottom, catW_flag a x.w[rt]⟩

end Sys2Proof.Machine
end

section
/-! SUPPORT. Loads (R48, R55, R59, R61, R71): what a load that the filter allows does to its context, and the statement on loads, settled. -/

namespace Sys2Proof.Machine

variable {s u : State} {e rd : Fin 16} {c : BitVec 4} {regs : List (Fin 16)} {t k a late words : Nat}

/-! ### Pointers (R48) -/

theorem Ctx.ptrAddr_eq (x : Ctx) (p : Fin 4) (am : BitVec 2) (off : BitVec 6) : x.ptrAddr p am off = x.address p am off := rfl

theorem wrapPtr_eq (n : Int) (base len : Nat) : wrapPtr n base len =
    BitVec.ofInt 24 (if (len : Int) ≠ 0 ∧ (base : Int) + len ≤ n then n - len else if (len : Int) ≠ 0 ∧ n < base then n + len else n) := by
  rw [wrapPtr]
  congr 1
  split_ifs <;> omega

theorem Ctx.ptrNext_eq (x : Ctx) (p : Fin 4) (am : BitVec 2) : x.ptrNext p am = x.stepped p am := by
  simp only [Ctx.ptrNext, Ctx.stepped, wrapPtr_eq]

theorem Ctx.stepped_frame (x : Ctx) (p : Fin 4) (am : BitVec 2) : x.stepped p am = { x with p := (x.stepped p am).p } := by
  rw [Ctx.stepped]
  split <;> rfl

theorem Ctx.loads_stepped (x : Ctx) (p : Fin 4) (am : BitVec 2) : (x.stepped p am).loads = x.loads := by rw [Ctx.stepped_frame]

theorem Ctx.acks_stepped (x : Ctx) (p : Fin 4) (am : BitVec 2) : (x.stepped p am).acks = x.acks := by rw [Ctx.stepped_frame]

theorem Ctx.sameFlow_stepped (x : Ctx) (p : Fin 4) (am : BitVec 2) : SameFlow x (x.stepped p am) := by
  rw [Ctx.stepped_frame]
  exact ⟨rfl, rfl, rfl, rfl, rfl⟩

theorem Ctx.stepped_charge (x : Ctx) (p : Fin 4) (am : BitVec 2) (n : Nat) : TimeOnly (x.stepped p am) ((x.charge n).stepped p am) := by
  have hp : ((x.charge n).stepped p am).p = (x.stepped p am).p := by
    simp only [Ctx.stepped]
    split <;> rfl
  rw [Ctx.stepped_frame, Ctx.stepped_frame (x.charge n), hp]
  rfl

theorem offBad_eq_false {am : BitVec 2} {off : BitVec 6} (h : am = 3 ∨ off = 0) : offBad am off = false := by
  rcases h with rfl | rfl
  · rfl
  · simp [offBad]

/-! ### A load that the filter allows -/

theorem TimeOnly.setW {x y : Ctx} (h : TimeOnly x y) (v : Word) (late : Nat) : TimeOnly (x.withW rd v) (y.setW rd v late) := by
  rw [h]
  rfl

theorem TimeOnly.addLoad {x y : Ctx} (h : TimeOnly x y) (l : Fin 16 × Word) :
    TimeOnly { x with loads := x.loads ++ [l] } { y with loads := y.loads ++ [l] } := by
  rw [h]
  rfl

/-- The filter and the ports read nothing that an instruction of a task changes beside memory. -/
theorem OnlyContext.allows (h : OnlyContext s u e t k) (t' e' a : Nat) (w : Bool) : u.allows t' e' a w = s.allows t' e' a w := by
  obtain ⟨hu, -, -⟩ := h
  rw [hu]
  rfl

theorem OnlyContext.localOf (h : OnlyContext s u e t k) (t' e' a : Nat) : u.localOf t' e' a = s.localOf t' e' a := by
  obtain ⟨hu, -, -⟩ := h
  rw [hu]
  rfl

theorem OnlyContext.memWord (h : OnlyContext s u e t k) (e' a : Nat) : u.memWord e' a = s.memWord e' a := by
  obtain ⟨hu, -, -⟩ := h
  rw [hu]
  rfl

theorem OnlyContext.upsets (h : OnlyContext s u e t k) (m a l n : Nat) : u.upsets m a l n = s.upsets m a l n := by
  obtain ⟨hu, -, -⟩ := h
  rw [hu]
  rfl

theorem OnlyContext.mboxPort (h : OnlyContext s u e t k) (m o : Nat) : u.mboxPort m o = s.mboxPort m o := by
  obtain ⟨hu, -, -⟩ := h
  rw [hu]
  rfl

/-- A load of sound local data takes its word at once (R48, R59, R71). -/
theorem OnlyContext.loadTo_local (h : OnlyContext s u e t k) (hallows : s.allows t e a false = true) (ha : a < 0x2000)
    (h1 : s.upsets 1 (8192 * s.localOf t e a + a) 1 1 = 0) (h2 : s.upsets 1 (8192 * s.localOf t e a + a) 1 2 = 0) :
    u.loadTo t e k rd a late words = (u.setCtx k ((u.ctx k).setW rd (s.memWord (s.localOf t e a) a) late)).advance t e k words := by
  have hecc : u.eccLoad t (s.localOf t e a) a = some u := by
    rw [State.eccLoad, if_pos ha, State.eccTask_of_sound]
    · rw [h.upsets, h1]
    · rw [h.upsets, h2]
  have hdiv : a / 65536 = 0 := by omega
  have hread : u.portRead (s.localOf t e a) a = (s.memWord (s.localOf t e a) a, u) := by
    rw [State.portRead, hdiv]
    exact congrArg (·, u) (h.memWord ..)
  have hown : ownAccess a = true := by simp [ownAccess, ha]
  rw [State.loadTo, if_pos ((h.allows ..).trans hallows), h.localOf, hecc]
  simp only [if_pos ha, h.localOf, hread, hown, if_true]

/-- A load of the own mailbox view takes its word at once (R61, R63). -/
theorem OnlyContext.loadTo_mailbox (h : OnlyContext s u e t k) (hallows : s.allows t e a false = true) (hlo : 0x870000 ≤ a) (hhi : a < 0x870100) :
    u.loadTo t e k rd a late words = (u.setCtx k ((u.ctx k).setW rd
      (BitVec.ofNat 24 (s.mboxPort (4 * e + (a - 0x870000) / 64) (a % 64))) late)).advance t e k words := by
  have hlocal : ¬ a < 0x2000 := by omega
  have hdiv : a / 65536 = 0x87 := by omega
  have hmod : a % 65536 = a - 0x870000 := by omega
  have hword : (a - 0x870000) % 64 = a % 64 := by omega
  have hview : a - 0x870000 < 256 := by omega
  have hread : u.portRead e a = (BitVec.ofNat 24 (s.mboxPort (4 * e + (a - 0x870000) / 64) (a % 64)), u) := by
    rw [State.portRead, hdiv, hmod]
    simp only [hview, if_true, hword, h.mboxPort]
  have hown : ownAccess a = true := by simp [ownAccess, hlo, hhi]
  rw [State.loadTo, if_pos ((h.allows ..).trans hallows), State.eccLoad, if_neg hlocal]
  simp only [if_neg hlocal, hread, hown, if_true]

/-- A load of a tile stays outstanding with its word (R55). -/
theorem OnlyContext.loadTo_tile (h : OnlyContext s u e t k) (hallows : s.allows t e a false = true) (hlo : 0x100000 ≤ a) (hhi : a < 0x180000) :
    u.loadTo t e k rd a late words =
      (u.setCtx k { u.ctx k with loads := (u.ctx k).loads ++ [(rd, s.memWord e a)] }).advance t e k words := by
  have hlocal : ¬ a < 0x2000 := by omega
  have hdiv : 16 ≤ a / 65536 ∧ a / 65536 < 24 := by omega
  have hread : u.portRead e a = (s.memWord e a, u) := by
    rw [State.portRead]
    split
    case h_9 => rw [h.memWord]
    all_goals omega
  have hown : ownAccess a = false := by simp [ownAccess]; omega
  rw [State.loadTo, if_pos ((h.allows ..).trans hallows), State.eccLoad, if_neg hlocal]
  simp only [if_neg hlocal, hread, hown, Bool.false_eq_true, if_false]

/-! ### The statement -/

theorem State.full_of_own (hown : ownAccess a = true) (b : Bool) : s.full e a b = false := by simp [State.full, hown]

theorem State.full_of_room (h : s.engLoads e < 4) : s.full e a false = false := by simp [State.full, h]

/-- A load of an instruction whose pointer step is `f`: the load acts on a state `v n` in which only the context changed, to `f` of it. -/
theorem Issues.loads_complete {rs : Fin 16} (h : Issues s e c [rd, rs] t k) {i : Instr} {f : Ctx → Ctx} {uses : List (Fin 16)}
    {blocked : Nat → Ctx → Bool} {F : Nat → Nat → State → State} {v : Nat → State}
    (hi : exec i s = .next (s.issue e c false words [rd] uses [] false blocked F)) (hregs : ∀ r ∈ uses ++ [rd], r ∈ [rd, rs])
    (hblocked : blocked t ((s.ctx k).charge (s.switch e t)) = s.full e a false)
    (hF : ∀ n, F t k (s.issued e t k n) = (v n).loadTo t e k rd a late words) (hv : ∀ n, OnlyContext s (v n) e t k)
    (hctx : ∀ n, TimeOnly (f (s.ctx k)) ((v n).ctx k)) (hflow : SameFlow (s.ctx k) (f (s.ctx k)))
    (hloads : (f (s.ctx k)).loads = (s.ctx k).loads) (hw : 1 ≤ words ∧ words ≤ 2) (hfollows : s.follows t e k words)
    (hallows : s.allows t e a false = true) :
    let l := s.localOf t e a
    (a < 0x2000 → s.upsets 1 (8192 * l + a) 1 1 = 0 → s.upsets 1 (8192 * l + a) 1 2 = 0 →
      Completes i s e words t k (fun x => (f x).withW rd (s.memWord l a))) ∧
    (0x870000 ≤ a → a < 0x870100 →
      Completes i s e words t k (fun x => (f x).withW rd (BitVec.ofNat 24 (s.mboxPort (4 * e + (a - 0x870000) / 64) (a % 64))))) ∧
    (0x100000 ≤ a → a < 0x180000 → s.engLoads e < 4 →
      Completes i s e words t k (fun x => { f x with loads := x.loads ++ [(rd, s.memWord e a)] })) := by
  have hexec (hfull : s.full e a false = false) :
      exec i s = .next ((v (s.issueCycles e t k words uses [] false)).loadTo t e k rd a late words) := by
    rw [hi, h.issue_eq hw.2 hfollows.1 hregs (hblocked.trans hfull), hF]
  have hnext : s.inCode t e ((f (s.ctx k)).nextFetch words) := by
    rw [hflow.nextFetch]
    exact hfollows.2
  have hnow {x y : Ctx} {n : Nat} (hy : TimeOnly x y) (hx : SameFlow (f (s.ctx k)) x) :=
    (hv n).setCtx_advance hy hw.1 ((hv n).inCode.2 (by rw [hx.nextFetch]; exact hnext))
  refine ⟨fun ha h1 h2 => ?_, fun hlo hhi => ?_, fun hlo hhi hroom => ?_⟩
  · have hi := hexec (State.full_of_own (by simp [ownAccess, ha]) _)
    rw [(hv _).loadTo_local hallows ha h1 h2] at hi
    exact ⟨_, hi, hnow ((hctx _).setW ..) ⟨rfl, rfl, rfl, rfl, rfl⟩⟩
  · have hi := hexec (State.full_of_own (by simp [ownAccess, hlo, hhi]) _)
    rw [(hv _).loadTo_mailbox hallows hlo hhi] at hi
    exact ⟨_, hi, hnow ((hctx _).setW ..) ⟨rfl, rfl, rfl, rfl, rfl⟩⟩
  · have hi := hexec (State.full_of_room hroom)
    rw [(hv _).loadTo_tile hallows hlo hhi] at hi
    have hadd := hctx (s.issueCycles e t k words uses [] false) |>.addLoad (rd, s.memWord e a)
    rw [hloads] at hadd
    exact ⟨_, hi, hnow hadd ⟨rfl, rfl, rfl, rfl, rfl⟩⟩

/-- Settles O7: the three instructions load alike from an address, LD behind the step of its pointer. -/
theorem loadsComplete : Obligations.LoadsComplete := by
  intro s e rd rs c p am off addr t k h hoff form hform
  have hctx (n : Nat) : TimeOnly (s.ctx k) ((s.issued e t k n).ctx k) := by
    rw [State.ctx_issued, if_pos rfl]
    rfl
  simp only [List.mem_cons, List.not_mem_nil, or_false] at hform
  rcases hform with rfl | rfl | rfl
  · intro a hf hallows
    exact h.loads_complete (uses := []) (f := id) (v := fun n => s.issued e t k n) rfl (by simp) rfl (fun _ => rfl) (onlyContext_issued s e t k) hctx
      ⟨rfl, rfl, rfl, rfl, rfl⟩ rfl ⟨Nat.le_succ 1, Nat.le_refl 2⟩ hf hallows
  · intro a hf hallows
    refine h.loads_complete (uses := [rs]) (f := id) (late := 1) (v := fun n => s.issued e t k n) rfl (by simp) rfl (fun n => ?_)
      (onlyContext_issued s e t k) hctx ⟨rfl, rfl, rfl, rfl, rfl⟩ rfl ⟨Nat.le_refl 1, Nat.le_succ 1⟩ hf hallows
    have hr : ((s.issued e t k n).ctx k).r rs = (s.ctx k).w[rs] := by
      rw [State.ctx_issued, if_pos rfl]
      rfl
    exact congrArg (fun v : Word => (s.issued e t k n).loadTo t e k rd v.toNat 1 1) hr
  · intro a hf hallows
    have hi : exec (.ld e c rd p am off) s = .next (doLd e c rd p am off s) := rfl
    rw [doLd, offBad_eq_false hoff] at hi
    refine h.loads_complete (uses := []) (late := 1) (v := fun n => (s.issued e t k n).setCtx k (((s.issued e t k n).ctx k).ptrNext p am))
      hi (by simp) rfl (fun n => ?_) (fun n => (onlyContext_issued s e t k n).setCtx _) (fun n => ?_) ((s.ctx k).sameFlow_stepped p am)
      (Ctx.loads_stepped ..) ⟨Nat.le_refl 1, Nat.le_succ 1⟩ hf hallows
    · have hr : ((s.issued e t k n).ctx k).ptrAddr p am off = a := by
        rw [State.ctx_issued, if_pos rfl]
        rfl
      exact congrArg (fun b => ((s.issued e t k n).setCtx k (((s.issued e t k n).ctx k).ptrNext p am)).loadTo t e k rd b 1 1) hr
    · rw [State.ctx_setCtx_self, State.ctx_issued, if_pos rfl, Ctx.ptrNext_eq]
      exact Ctx.stepped_charge ..

end Sys2Proof.Machine
end

section
/-! SUPPORT. Stores (R48, R55, R61): what a store to memory that the filter allows does, and the statement on stores, settled. -/

namespace Sys2Proof.Machine

variable {s u w : State} {e rd : Fin 16} {c : BitVec 4} {regs : List (Fin 16)} {t k a words : Nat} {v : Word}

/-! ### Words of memory (R60) -/

/-- An address of local data or of a tile. -/
def memAddr (a : Nat) : Prop := a < 0x2000 ∨ (0x100000 ≤ a ∧ a < 0x180000)

theorem State.setMemWord_frame (w : State) (e a : Nat) (v : Word) : w.setMemWord e a v =
    { w with mem := { w.mem with
      loc := (w.setMemWord e a v).mem.loc, tile := (w.setMemWord e a v).mem.tile, upset := (w.setMemWord e a v).mem.upset } } := by
  rw [State.setMemWord]
  split
  · rfl
  · split <;> rfl

/-- A word reads as written, and every other word as before. -/
theorem State.memWord_setMemWord (w : State) {e f a b : Nat} (v : Word) (ha : memAddr a) (hb : memAddr b) :
    (w.setMemWord e a v).memWord f b = if a = b ∧ (a < 0x2000 → e = f) then v else w.memWord f b := by
  by_cases hl : a < 0x2000
  · by_cases hlb : b < 0x2000
    · have hkey : (8192 * f + b = 8192 * e + a) ↔ (a = b ∧ (a < 0x2000 → e = f)) := by omega
      simp only [State.memWord_setMemWord_loc w e a f b v hl hlb, hkey]
    · rw [State.memWord_setMemWord_loc_tile w e a f b v hl (Nat.le_of_not_lt hlb), if_neg (by omega)]
  · have hta : 0x100000 ≤ a ∧ a < 0x180000 := ha.resolve_left hl
    by_cases hlb : b < 0x2000
    · rw [State.memWord_setMemWord_tile_loc w e a f b v (Nat.le_of_not_lt hl) hlb, if_neg (by omega)]
    · have htb : 0x100000 ≤ b ∧ b < 0x180000 := hb.resolve_left hlb
      have hkey : (b = a) ↔ (a = b ∧ (a < 0x2000 → e = f)) := by omega
      simp only [State.memWord_setMemWord_tile w e a f b v hta htb, hkey]

/-! ### A store that the filter allows -/

theorem postView_mem (ha : memAddr a) : postView a = none := if_neg (by unfold memAddr at ha; omega)

theorem State.portStore_mem (ha : memAddr a) (t e : Nat) : w.portStore t e a v = w.setMemWord e a v := by
  unfold memAddr at ha
  rw [State.portStore]
  split
  case h_6 => rfl
  all_goals omega

theorem State.storeAt_mem (hm : (w.task t).mig = none) (ha : memAddr a) (e : Nat) : w.storeAt t e a v = some (w.setMemWord e a v) := by
  simp only [State.storeAt, hm, postView_mem ha, State.isShadow_of_not_migrating hm, Bool.false_and, Bool.false_eq_true, if_false,
    State.portStore_mem ha]

/-- A store to memory waits for nothing but room in the buffer. -/
theorem State.storeWaits_mem (ha : memAddr a) (t e : Nat) (x : Ctx) : w.storeWaits t e x a v = w.full e a true := by
  have hpost : isPost a = false := by rw [isPost, postView_mem ha]; rfl
  have hcommit : w.commitBusy a v = false := by
    have : ¬ 0x800000 ≤ a := by unfold memAddr at ha; omega
    simp [State.commitBusy, this]
  simp only [State.storeWaits, hpost, hcommit, Bool.false_and, Bool.or_false]

theorem State.storeTo_mem (hm : (w.task t).mig = none) (ha : memAddr a) (hallows : w.allows t e a true = true) :
    w.storeTo t e k a v words = (if a < 0x2000 then w.setMemWord e a v
      else (w.setMemWord e a v).setCtx k { w.ctx k with acks := (w.ctx k).acks ++ [a] }).advance t e k words := by
  have href : refusedStore a v = false := by
    have : ¬ 0x830000 ≤ a := by unfold memAddr at ha; omega
    simp [refusedStore, this]
  have hctx : (w.setMemWord e a v).ctx k = w.ctx k := by rw [State.setMemWord_frame]; rfl
  rw [State.storeTo, hallows, href, State.storeAt_mem hm ha]
  simp only [Bool.not_false, Bool.and_self, if_true, hctx]
  by_cases hl : a < 0x2000
  · have hown : ownAccess a = true := by simp [ownAccess, hl]
    rw [hown, if_pos hl]
    rfl
  · have hown : ownAccess a = false := by
      unfold memAddr at ha
      simp [ownAccess]
      omega
    rw [hown, if_neg hl]
    rfl

theorem OnlyContext.setMemWord (h : OnlyContext s w e t k) (e' a : Nat) (v : Word) :
    OnlyContext { s with mem := (w.setMemWord e' a v).mem } (w.setMemWord e' a v) e t k := by
  have hframe := w.setMemWord_frame e' a v
  refine h.congr rfl ?_ ?_
  · rw [hframe]
  · generalize w.setMemWord e' a v = u at *
    rw [hframe, h.1]

/-- What a store to memory changes beside its context: the addressed word alone. -/
theorem OnlyContext.memory_of_store (h : OnlyContext s w e t k) (ha : memAddr a) :
    (w.setMemWord e a v).mem =
      { s.mem with loc := (w.setMemWord e a v).mem.loc, tile := (w.setMemWord e a v).mem.tile, upset := (w.setMemWord e a v).mem.upset } ∧
    (w.setMemWord e a v).memWord e a = v ∧
    ∀ f b, b < 0x2000 ∨ (0x100000 ≤ b ∧ b < 0x180000) → f < 16 → ¬ sameWord e a f b → (w.setMemWord e a v).memWord f b = s.memWord f b := by
  refine ⟨?_, ?_, fun f b hb _ hne => ?_⟩
  · have hmem : w.mem = s.mem := by rw [h.1]
    rw [← hmem]
    exact congrArg State.mem (w.setMemWord_frame e a v)
  · rw [State.memWord_setMemWord w v ha ha, if_pos ⟨rfl, fun _ => rfl⟩]
  · rw [State.memWord_setMemWord w v ha hb]
    exact (if_neg hne).trans (h.memWord ..)

/-! ### The statement -/

theorem TimeOnly.addAck {x y : Ctx} (h : TimeOnly x y) (a : Nat) :
    TimeOnly { x with acks := x.acks ++ [a] } { y with acks := y.acks ++ [a] } := by
  rw [h]
  rfl

/-- A store of an instruction whose pointer step is `f`: the store acts on a state `z n` in which only the context changed, to `f` of it. -/
theorem Issues.store_completes (h : Issues s e c regs t k) {i : Instr} {f : Ctx → Ctx} {uses : List (Fin 16)}
    {blocked : Nat → Ctx → Bool} {F : Nat → Nat → State → State} {z : Nat → State}
    (hi : exec i s = .next (s.issue e c false words [] uses [] false blocked F)) (hregs : ∀ r ∈ uses ++ [], r ∈ regs)
    (hblocked : ∃ x y, blocked t ((s.ctx k).charge (s.switch e t)) = s.storeWaits t e x a y)
    (hF : ∀ n, F t k (s.issued e t k n) = (z n).storeTo t e k a v words) (hz : ∀ n, OnlyContext s (z n) e t k)
    (hctx : ∀ n, TimeOnly (f (s.ctx k)) ((z n).ctx k)) (hflow : SameFlow (s.ctx k) (f (s.ctx k)))
    (hacks : (f (s.ctx k)).acks = (s.ctx k).acks) (hw : 1 ≤ words ∧ words ≤ 2) (hfollows : s.follows t e k words)
    (hm : (s.task t).mig = none) (hallows : s.allows t e a true = true) (ha : a < 0x2000 ∨ (0x100000 ≤ a ∧ a < 0x180000 ∧ s.engStores e < 4)) :
    ∃ u, exec i s = .next u ∧ OnlyContext { s with mem := u.mem } u e t k ∧
      u.ctx k = (if a < 0x2000 then f (s.ctx k) else { f (s.ctx k) with acks := (s.ctx k).acks ++ [a] }).after (u.ctx k) words ∧
      u.mem = { s.mem with loc := u.mem.loc, tile := u.mem.tile, upset := u.mem.upset } ∧ u.memWord e a = v ∧
      ∀ f b, b < 0x2000 ∨ (0x100000 ≤ b ∧ b < 0x180000) → f < 16 → ¬ sameWord e a f b → u.memWord f b = s.memWord f b := by
  have hmem : memAddr a := ha.imp_right fun h => ⟨h.1, h.2.1⟩
  have hfull : s.full e a true = false := by
    rcases ha with ha | ⟨-, -, hroom⟩
    · exact State.full_of_own (by simp [ownAccess, ha]) _
    · simp [State.full, hroom]
  obtain ⟨x, y, hb⟩ := hblocked
  rw [State.storeWaits_mem hmem, hfull] at hb
  have hnext : s.inCode t e ((f (s.ctx k)).nextFetch words) := by
    rw [hflow.nextFetch]
    exact hfollows.2
  rw [h.issue_eq hw.2 hfollows.1 hregs hb, hF] at hi
  have hw' := hz (s.issueCycles e t k words uses [] false)
  have hx := hctx (s.issueCycles e t k words uses [] false)
  generalize z (s.issueCycles e t k words uses [] false) = w at *
  have hmw : (w.task t).mig = none := by rw [hw'.1]; exact hm
  rw [State.storeTo_mem hmw hmem ((hw'.allows ..).trans hallows)] at hi
  obtain ⟨hframe, hsame, hother⟩ := hw'.memory_of_store (v := v) hmem
  have honly := hw'.setMemWord e a v
  have hctx' : (w.setMemWord e a v).ctx k = w.ctx k := by rw [State.setMemWord_frame]; rfl
  have hcode {x : Ctx} (hx : SameFlow (f (s.ctx k)) x) : (w.setMemWord e a v).inCode t e (x.nextFetch words) := by
    rw [hx.nextFetch]
    exact honly.inCode.2 hnext
  generalize w.setMemWord e a v = u at *
  have hlast {u' : State} (hu : OnlyContext { s with mem := u.mem } u' e t k) : OnlyContext { s with mem := u'.mem } u' e t k ∧
      u'.mem = { s.mem with loc := u'.mem.loc, tile := u'.mem.tile, upset := u'.mem.upset } ∧ u'.memWord e a = v ∧
      ∀ f b, b < 0x2000 ∨ (0x100000 ≤ b ∧ b < 0x180000) → f < 16 → ¬ sameWord e a f b → u'.memWord f b = s.memWord f b := by
    have hmem' : u'.mem = u.mem := by rw [hu.1]
    refine ⟨by rw [hmem']; exact hu, by rw [hmem']; exact hframe, (hu.memWord ..).trans hsame, fun f b hb hf hne => ?_⟩
    exact (hu.memWord ..).trans (hother f b hb hf hne)
  by_cases hl : a < 0x2000
  · rw [if_pos hl] at hi ⊢
    obtain ⟨hadv, hafter⟩ := honly.advance_after (by rw [hctx']; exact hx) hw.1 (hcode ⟨rfl, rfl, rfl, rfl, rfl⟩)
    exact ⟨_, hi, (hlast hadv).1, hafter, (hlast hadv).2⟩
  · rw [if_neg hl] at hi ⊢
    have hadd := hx.addAck a
    rw [hacks] at hadd
    obtain ⟨hadv, hafter⟩ := honly.setCtx_advance hadd hw.1 (hcode ⟨rfl, rfl, rfl, rfl, rfl⟩)
    exact ⟨_, hi, (hlast hadv).1, hafter, (hlast hadv).2⟩

/-- Settles O8: the three instructions store alike to an address, ST behind the step of its pointer. -/
theorem storesComplete : Obligations.StoresComplete := by
  intro s e rs rt c p am off addr t k h hoff hm form hform
  have hctx (n : Nat) : (s.issued e t k n).ctx k = (s.ctx k).charge n := (State.ctx_issued ..).trans (if_pos rfl)
  have htime (n : Nat) : TimeOnly (s.ctx k) ((s.issued e t k n).ctx k) := by
    rw [hctx]
    rfl
  have honly := onlyContext_issued s e t k
  simp only [List.mem_cons, List.not_mem_nil, or_false] at hform
  rcases hform with rfl | rfl | rfl
  · intro a hf hallows ha
    refine h.store_completes (uses := [rt]) (f := id) (z := fun n => s.issued e t k n) rfl (by simp) ⟨_, _, rfl⟩ (fun n => ?_) honly htime
      ⟨rfl, rfl, rfl, rfl, rfl⟩ rfl ⟨Nat.le_succ 1, Nat.le_refl 2⟩ hf hm hallows ha
    rw [hctx]
    rfl
  · intro a hf hallows ha
    refine h.store_completes (uses := [rt, rs]) (f := id) (z := fun n => s.issued e t k n) rfl (by simp) ⟨_, _, rfl⟩ (fun n => ?_) honly htime
      ⟨rfl, rfl, rfl, rfl, rfl⟩ rfl ⟨Nat.le_refl 1, Nat.le_succ 1⟩ hf hm hallows ha
    rw [hctx]
    rfl
  · intro a hf hallows ha
    have hi : exec (.st e c p rt am off) s = .next (doSt e c p rt am off s) := rfl
    rw [doSt, offBad_eq_false hoff] at hi
    refine h.store_completes (uses := [rt]) (z := fun n => (s.issued e t k n).setCtx k (((s.issued e t k n).ctx k).ptrNext p am))
      hi (by simp) ⟨_, _, rfl⟩ (fun n => ?_) (fun n => (honly n).setCtx _) (fun n => ?_) ((s.ctx k).sameFlow_stepped p am)
      (Ctx.acks_stepped ..) ⟨Nat.le_refl 1, Nat.le_succ 1⟩ hf hm hallows ha
    · rw [hctx]
      rfl
    · rw [State.ctx_setCtx_self, hctx, Ctx.ptrNext_eq]
      exact Ctx.stepped_charge ..

end Sys2Proof.Machine
end

section
/-! SUPPORT. The two buffers of a mailbox (R62) and the engine's own view of them (R63), and the statement on mailboxes, settled. -/

namespace Sys2Proof.Machine

variable {s : State} {e : Fin 16} {t k a : Nat} {v : Word}

/-! ### Stores with rows of their own -/

/-- A store of the running task that waits for nothing and that the filter allows. -/
theorem State.rowStore_of_allowed (hx : Executes s e t k) (hpost : isPost a = false) (hcommit : s.commitBusy a v = false)
    (href : refusedStore a v = false) (hallows : s.allows t e a true = true) :
    s.rowStore e a v = (s.storeAt t e a v).getD (s.abortAct t e k 5) := by
  obtain ⟨⟨i, hrun, rfl⟩, hhalt⟩ := hx
  simp only [State.rowStore, hrun, hhalt, hpost, hcommit, href, hallows, Bool.false_and, Bool.false_or, Bool.not_false, Bool.and_true,
    Bool.false_eq_true, if_false, if_true]

/-- A store to the own view of mailbox `m` (R63). -/
theorem State.rowStore_mback (hx : Executes s e t k) {m : Fin 4} (hallows : s.allows t e (0x870021 + 64 * m.val) true = true)
    (hm : (s.task t).mig = none) : s.rowStore e (0x870021 + 64 * m.val) v = s.mboxStore (4 * e.val + m.val) 0x21 v := by
  have hview : postView (0x870021 + 64 * m.val) = none := if_neg (by omega)
  have hpost : isPost (0x870021 + 64 * m.val) = false := by rw [isPost, hview]; rfl
  have hcommit : s.commitBusy (0x870021 + 64 * m.val) v = false := by
    simp [State.commitBusy, show ¬ 0x870021 + 64 * m.val < 0x800C00 by omega]
  have href : refusedStore (0x870021 + 64 * m.val) v = false := by
    simp [refusedStore, show ¬ 0x870021 + 64 * m.val < 0x830400 by omega]
  have hdiv : (0x870021 + 64 * m.val) / 65536 = 0x87 := by omega
  have hoff : (0x870021 + 64 * m.val) % 65536 = 0x21 + 64 * m.val := by omega
  have hbox : (0x21 + 64 * m.val) / 64 = m.val := by omega
  have hreg : (0x21 + 64 * m.val) % 64 = 0x21 := by omega
  have hlt : 0x21 + 64 * m.val < 256 := by omega
  have hstore : s.portStore t e (0x870021 + 64 * m.val) v = s.mboxStore (4 * e.val + m.val) 0x21 v := by
    simp only [State.portStore, hdiv, hoff, if_pos hlt, hbox, hreg]
  rw [State.rowStore_of_allowed hx hpost hcommit href hallows]
  simp only [State.storeAt, hm, hview, State.isShadow_of_not_migrating hm, Bool.false_and, Bool.false_eq_true, if_false, hstore,
    Option.getD_some]

/-! ### One mailbox -/

theorem onlyMailbox_setMb (s : State) (k : Nat) (y : Mbox) : OnlyMailbox s (s.setMb k y) k y [] := by
  refine ⟨?_, fun j => State.mb_setMb ..⟩
  rw [List.append_nil]
  rfl

theorem onlyMailbox_setMb_raiseEv (s : State) (k : Nat) (y : Mbox) (n : Nat) : OnlyMailbox s ((s.setMb k y).raiseEv n) k y [n] :=
  ⟨rfl, fun _ => State.mb_setMb ..⟩

/-- A record that completes with VALID = 0 becomes the front at once. -/
theorem State.mboxRecord_of_not_valid (h : (s.mb k).valid = false) (words : List Word) : s.mboxRecord k words =
    (s.setMb k { s.mb k with front := words, time := s.t48.setWidth 24, valid := true, seq := (s.mb k).seq + 1 }).raiseEv (320 + k) := by
  simp only [State.mboxRecord, Mbox.complete, h, State.whenS, Bool.not_false, if_true, Bool.false_eq_true, if_false]
  rfl

theorem State.mboxRecord_of_valid (h : (s.mb k).valid = true) (words : List Word) : s.mboxRecord k words =
    s.setMb k { s.mb k with
      back := words, backTime := s.t48.setWidth 24, pending := true
      ovr := if (s.mb k).pending ∧ (s.mb k).ovr ≠ 255 then (s.mb k).ovr + 1 else (s.mb k).ovr } := by
  simp only [State.mboxRecord, Mbox.complete, h, State.whenS, Bool.not_true, if_true, Bool.false_eq_true, if_false]
  rfl

/-- Where no task migrates a mailbox has no mirror. -/
theorem State.mirrorBox_of_noMigration (h : NoMigration s) (k : Nat) : s.mirrorBox k = none := by
  rw [State.mirrorBox, List.findSome?_eq_none_iff]
  intro t ht
  simp only [h t (List.mem_range.1 ht)]

theorem doMailboxRecordComplete_eq {m : Fin 4} {words : List Word} (ha : (s.mb (4 * e.val + m.val)).assigned = true) (h1 : 1 ≤ words.length)
    (h2 : words.length ≤ 32) (hm : NoMigration s) :
    doMailboxRecordComplete e m (s.mb (4 * e.val + m.val)).kind (s.mb (4 * e.val + m.val)).inst words s = s.mboxRecord (4 * e.val + m.val) words := by
  have hne : words.isEmpty = false := by
    cases words with
    | nil => simp at h1
    | cons w ws => rfl
  have hlisted : ((s.mb (4 * e.val + m.val)).assigned && (s.mb (4 * e.val + m.val)).kind == (s.mb (4 * e.val + m.val)).kind &&
      (s.mb (4 * e.val + m.val)).inst == (s.mb (4 * e.val + m.val)).inst && !words.isEmpty && decide (words.length ≤ 32)) = true := by
    simp [ha, hne, h2]
  rw [doMailboxRecordComplete]
  rw [if_pos hlisted, State.postRecord, State.mirrorBox_of_noMigration hm]

/-- OVR advances and stays at 255. -/
theorem ovr_advance (x : BitVec 8) : (if x ≠ 255 then x + 1 else x) = BitVec.ofNat 8 (min 255 (x.toNat + 1)) := by decide +revert

/-- ACK of a mailbox (R62). -/
theorem State.mboxStore_ack (s : State) (k : Nat) : s.mboxStore k 0x21 1 = s.mboxAck k := rfl

theorem State.mboxAck_of_not_pending (h : (s.mb k).pending = false) : s.mboxAck k = s.setMb k { s.mb k with valid := false } := by
  simp only [State.mboxAck, Mbox.ack, h, State.whenS, Bool.false_eq_true, if_false]

theorem State.mboxAck_of_pending (h : (s.mb k).pending = true) : s.mboxAck k = (s.setMb k { s.mb k with
    front := (s.mb k).back, time := (s.mb k).backTime, valid := true, pending := false, back := [], backTime := 0
    seq := (s.mb k).seq + 1 }).raiseEv (320 + k) := by
  simp only [State.mboxAck, Mbox.ack, h, State.whenS, if_true]

/-- Settles O14: a record and ACK write one mailbox, as VALID and PENDING say. -/
theorem mailboxBuffers : Obligations.MailboxBuffers := by
  intro s e m words k x front waiting
  refine ⟨fun ha h1 h2 hm => ?_, fun t c hx hallows hm => ?_⟩
  · have hexec : exec (.mailboxRecordComplete e m x.kind x.inst words) s = .next (s.mboxRecord k words) :=
      congrArg Host.Outcome.next (doMailboxRecordComplete_eq ha h1 h2 hm)
    refine ⟨fun hv => ⟨_, hexec, ?_⟩, fun hv hp => ⟨_, hexec, ?_⟩, fun hv hp => ⟨_, hexec, ?_⟩⟩
    · rw [State.mboxRecord_of_not_valid hv]
      exact onlyMailbox_setMb_raiseEv ..
    · rw [State.mboxRecord_of_valid hv, if_neg (by simp [show (s.mb k).pending = false from hp])]
      exact onlyMailbox_setMb ..
    · rw [State.mboxRecord_of_valid hv]
      simp only [show (s.mb k).pending = true from hp, true_and, ovr_advance]
      exact onlyMailbox_setMb ..
  · have hexec : exec (.mbackAck e m) s = .next (s.mboxAck k) := congrArg Host.Outcome.next (State.rowStore_mback hx hallows hm)
    refine ⟨fun hp => ⟨_, hexec, ?_⟩, fun hp => ⟨_, hexec, ?_⟩⟩
    · rw [State.mboxAck_of_not_pending hp]
      exact onlyMailbox_setMb ..
    · rw [State.mboxAck_of_pending hp]
      exact onlyMailbox_setMb_raiseEv ..

end Sys2Proof.Machine
end

section
/-! SUPPORT. The statement on posts and the engine's own ports, settled: the number of a task is not bounded in it. -/

namespace Sys2Proof.Machine

/-- The task of `farTask` with a window on the post view of mailbox 0 of engine 0; its activation has taken 7 cycles. -/
def farPoster : State :=
  (farTask.setCtx 0 { farTask.ctx 0 with cyc := 7 }).setTask 1040128 { farTask.task 1040128 with wins := [(0x0C0000, 0x871000, 0xFFF)] }

theorem noMigration_farPoster : NoMigration farPoster := by
  intro t ht
  rw [farPoster, State.task_setTask, if_neg (by omega)]
  refine (congrArg TaskRt.mig (State.task_setTask ..)).trans ?_
  rw [if_neg (by omega)]
  rfl

/-- The cause of the abort is overwritten by the cycles of the activation. -/
theorem lastFaultBehind_farPoster : lastFaultBehind (.mbpost 0 0 0 0) farPoster = some 7 := by decide +kernel

/-- Refutes O15: the statement bounds no task number. A post of LEN 0 by the task 1040128, whose 2.035 has the key of 3.014 of engine 0, leaves the 7
cycles of its activation there, not the cause 5. -/
theorem not_postsAndOwnPorts : ¬ Obligations.PostsAndOwnPorts := by
  intro h
  have hrun : farPoster.running (0 : Fin 16).val = some (1040128, 0) := by decide +kernel
  have hx : Executes farPoster 0 1040128 0 := ⟨⟨0, hrun, rfl⟩, by decide +kernel⟩
  obtain ⟨-, hpost, -⟩ := h farPoster 0 0 0 0 0 1040128 0 hx (by decide +kernel)
  obtain ⟨u, hu, -, -, -, -, -, -, hkeys⟩ := (hpost (by decide +kernel) (by decide +kernel) (by decide +kernel) noMigration_farPoster).2 (Or.inl rfl)
    (by decide +kernel)
  have hkey : u.getKey (mkKey 3 0x014 0) = 5 := (hkeys _).trans (if_pos rfl)
  have hseven : some (u.getKey (mkKey 3 0x014 0)) = some 7 := by
    rw [← lastFaultBehind_farPoster, lastFaultBehind, hu]
  rw [hkey] at hseven
  exact absurd hseven (by decide)

end Sys2Proof.Machine
end

section
/-! SUPPORT. How an activation starts and how it aborts (R33, R57 to R59), and the statement on activations, settled. -/

namespace Sys2Proof.Machine

variable {s : State} {e : Fin 16} {t k cause : Nat}

/-! ### The abort of an activation (R59) -/

/-- Where an abort has counted and named its cause. -/
def State.abortCounted (s : State) (e k cause : Nat) : State :=
  ((s.setCtx k { s.ctx k with active := false, sleep := none }).bump (mkKey 3 0x013 e) 65535).put 3 0x014 e cause

theorem State.abortCounted_frame (s : State) (e k cause : Nat) : s.abortCounted e k cause = { s with
    loop := { s.loop with ctx := (s.abortCounted e k cause).loop.ctx }, ent := (s.abortCounted e k cause).ent } := rfl

theorem State.task_abortCounted (s : State) (e k cause j : Nat) : (s.abortCounted e k cause).task j = s.task j := rfl

theorem State.dc_abortCounted (s : State) (e k cause a b i : Nat) : (s.abortCounted e k cause).dc a b i = s.dc a b i := rfl

theorem State.ctx_abortCounted (s : State) (e k cause j : Nat) :
    (s.abortCounted e k cause).ctx j = if j = k then { s.ctx k with active := false, sleep := none } else s.ctx j := State.ctx_setCtx ..

/-- What an abort of task `t` does beside that: it reports the cause, and counts the cycles for TASK_CYC_MAX. -/
def State.abortTold (w : State) (t k cause : Nat) : State :=
  ((w.report (0x010000 + 256 * t + cause)).put 2 0x035 t (max (w.en 2 0x035 t) (w.ctx k).cyc.toNat)).setTask t
    { w.task t with aborts := (w.task t).aborts + 1, reload := (w.task t).reload || cause == 8 }

theorem State.abortTold_frame (w : State) (t k cause : Nat) : w.abortTold t k cause = { w with
    ref := (w.abortTold t k cause).ref, ent := (w.abortTold t k cause).ent
    flt := { w.flt with reports := w.flt.reports ++ [⟨0x010000 + 256 * t + cause, false⟩] } } := rfl

theorem State.task_abortTold (w : State) (t k cause j : Nat) : (w.abortTold t k cause).task j =
    if j = t then { w.task t with aborts := (w.task t).aborts + 1, reload := (w.task t).reload || cause == 8 } else w.task j := State.task_setTask ..

theorem State.getKey_abortTold (w : State) (t k cause j : Nat) :
    (w.abortTold t k cause).getKey j = if j = mkKey 2 0x035 t then max (w.en 2 0x035 t) (w.ctx k).cyc.toNat else w.getKey j := State.getKey_putKey ..

theorem State.ctx_abortTold (w : State) (t k cause j : Nat) : (w.abortTold t k cause).ctx j = w.ctx j := rfl

section
variable (hm : (s.task t).mig = none) (hc : s.dc 2 0x011 t ≤ 1)
include hm hc

/-- The abort of a task of class SAFETY or CONTROL that does not migrate. -/
theorem State.abortAct_of_live : s.abortAct t e k cause = (s.abortCounted e k cause).abortTold t k cause := by
  have hm' : ((s.abortCounted e k cause).task t).mig = none := by rw [State.task_abortCounted]; exact hm
  have hc' : (s.abortCounted e k cause).dc 2 0x011 t ≤ 1 := by rw [State.dc_abortCounted]; exact hc
  rw [State.abortAct]
  simp only [← State.abortCounted.eq_def]
  generalize s.abortCounted e k cause = w at *
  have hmr : ((w.report (0x010000 + 256 * t + cause)).task t).mig = none := hm'
  rw [State.isShadow_of_not_migrating hm', if_neg Bool.false_ne_true, State.abortMig_of_not_migrating hmr]
  exact if_pos hc'

theorem State.abortAct_frame : s.abortAct t e k cause = { s with
    loop := { s.loop with ctx := (s.abortAct t e k cause).loop.ctx, engs := (s.abortAct t e k cause).loop.engs }
    ref := (s.abortAct t e k cause).ref, ent := (s.abortAct t e k cause).ent, flt := (s.abortAct t e k cause).flt } := by
  have hw := s.abortCounted_frame e k cause
  have hu := (s.abortCounted e k cause).abortTold_frame t k cause
  rw [State.abortAct_of_live hm hc]
  generalize (s.abortCounted e k cause).abortTold t k cause = u at *
  generalize s.abortCounted e k cause = w at *
  rw [hu, hw]

theorem State.ctx_abortAct (j : Nat) : (s.abortAct t e k cause).ctx j =
    if j = k then { s.ctx k with active := false, sleep := none } else s.ctx j := by
  rw [State.abortAct_of_live hm hc, State.ctx_abortTold, State.ctx_abortCounted]

theorem State.flt_abortAct :
    (s.abortAct t e k cause).flt = { s.flt with reports := s.flt.reports ++ [⟨0x010000 + 256 * t + cause, false⟩] } := by
  rw [State.abortAct_of_live hm hc, State.abortTold_frame, State.abortCounted_frame]

theorem State.aborts_abortAct : ((s.abortAct t e k cause).task t).aborts = (s.task t).aborts + 1 := by
  rw [State.abortAct_of_live hm hc, State.task_abortTold, if_pos rfl, State.task_abortCounted]

end

/-- The entry of a task and those of an engine are different. -/
theorem mkKey_task_ne_engine (ht : t < 96) (e : Fin 16) : mkKey 2 0x035 t ≠ mkKey 3 0x014 e ∧ mkKey 2 0x035 t ≠ mkKey 3 0x013 e ∧
    mkKey 3 0x013 e ≠ mkKey 3 0x014 e := by
  simp only [mkKey]
  omega

theorem State.getKey_abortCounted (s : State) (e : Fin 16) (k cause j : Nat) : (s.abortCounted e k cause).getKey j =
    if j = mkKey 3 0x014 e then cause else if j = mkKey 3 0x013 e then min 65535 (s.getKey (mkKey 3 0x013 e) + 1) else s.getKey j := by
  rw [State.abortCounted, State.put, State.getKey_putKey, State.bump, State.getKey_putKey]
  rfl

theorem State.getKey_abortAct (hm : (s.task t).mig = none) (hc : s.dc 2 0x011 t ≤ 1) (ht : t < 96) (j : Nat) :
    (s.abortAct t e k cause).getKey j = if j = mkKey 3 0x014 e then cause
      else if j = mkKey 2 0x035 t then max (s.en 2 0x035 t) ((s.abortAct t e k cause).ctx k).cyc.toNat
      else if j = mkKey 3 0x013 e then min 65535 (s.getKey j + 1) else s.getKey j := by
  obtain ⟨h1, h2, h3⟩ := mkKey_task_ne_engine ht e
  have hen : (s.abortCounted e k cause).en 2 0x035 t = s.en 2 0x035 t := by
    rw [State.en, State.getKey_abortCounted, if_neg h1, if_neg h2]
    rfl
  have hcyc : ((s.abortCounted e k cause).ctx k).cyc = ((s.abortAct t e k cause).ctx k).cyc := by
    rw [State.ctx_abortAct hm hc, if_pos rfl]
    exact congrArg Ctx.cyc (State.ctx_setCtx_self ..)
  rw [← hen, ← hcyc, State.abortAct_of_live hm hc, State.getKey_abortTold, State.getKey_abortCounted]
  by_cases hj : j = mkKey 2 0x035 t
  · rw [if_pos hj, if_neg (hj ▸ h1), if_pos hj]
  · rw [if_neg hj, if_neg hj]
    split
    · rfl
    · split
      · rename_i h; rw [h]
      · rfl

/-- A command that aborts the activation of one of the 96 tasks. -/
theorem aborts_of_abortAct {i : Instr} (hi : exec i s = .next (s.abortAct t e k cause)) (hm : (s.task t).mig = none) (hc : s.dc 2 0x011 t ≤ 1)
    (ht : t < 96) : Aborts i s e t k cause := by
  refine ⟨_, hi, State.abortAct_frame hm hc, ?_, ?_, fun j hj => ?_, State.flt_abortAct hm hc, State.aborts_abortAct hm hc,
    State.getKey_abortAct hm hc ht⟩
  · rw [State.ctx_abortAct hm hc, if_pos rfl]
  · rw [State.ctx_abortAct hm hc, if_pos rfl]
  · rw [State.ctx_abortAct hm hc, if_neg hj]

/-! ### The start of an activation (R33, R65) -/

theorem State.startAct_frame (v : State) (t e slot code scratch : Nat) : v.startAct t e slot code scratch = { v with
    free := (v.startAct t e slot code scratch).free
    mem := { v.mem with loc := (v.startAct t e slot code scratch).mem.loc, upset := (v.startAct t e slot code scratch).mem.upset }
    loop := { v.loop with ctx := (v.startAct t e slot code scratch).loop.ctx } } := rfl

theorem State.ctx_startAct (v : State) (t e slot code scratch j : Nat) : (v.startAct t e slot code scratch).ctx j =
    if j = 6 * e + slot then { Ctx.zero with
      pc := BitVec.ofNat 13 (code + (v.task t).entry), budget := BitVec.ofNat 24 (v.declBudget (v.dc 2 · t))
      relnum := BitVec.ofNat 24 (v.task t).relnum, reltime := v.t48.setWidth 24, active := true }
    else v.ctx j := State.ctx_setCtx ..

theorem State.task_startAct (v : State) (t e slot code scratch j : Nat) : (v.startAct t e slot code scratch).task j = v.task j := rfl

/-- Only scratch takes free values. -/
theorem State.memWord_startAct (v : State) {t e slot code scratch f b : Nat} (hb : b < 0x2000) (hlen : scratch + (v.task t).scratchLen ≤ 0x2000)
    (hout : ¬ (f = e ∧ scratch ≤ b ∧ b < scratch + (v.task t).scratchLen)) : (v.startAct t e slot code scratch).memWord f b = v.memWord f b := by
  have hrange : ¬ (8192 * e + scratch ≤ 8192 * f + b ∧ 8192 * f + b < 8192 * e + scratch + (v.task t).scratchLen) := by omega
  simp only [State.memWord, if_pos hb]
  refine (Tab.get_setRange ..).trans ?_
  rw [List.length_map, List.length_range, if_neg hrange]

/-- The record of a task whose activation is released. -/
def State.released (s : State) (t : Nat) : TaskRt :=
  { s.task t with
    relnum := (s.task t).relnum + 1, release := s.t48.toNat, yieldAt := none, await := false
    gaps := match (s.task t).yieldAt with
      | some y => (s.since y :: (s.task t).gaps).take 8
      | none => (s.task t).gaps }

section
variable (hh : (s.eng (s.task t).engine).halted = false)
include hh

theorem State.release_of_idle (hm : (s.task t).mig = none) (ha : (s.ctx (s.ctxKey t)).active = false) (hr : (s.task t).reload = false) : s.release t =
    (s.setTask t (s.released t)).startAct t (s.task t).engine (s.task t).slot (s.task t).code (s.task t).scratch := by
  have hreload : s.reloadTask t = s := by simp only [State.reloadTask, hr, Bool.false_eq_true, if_false]
  simp only [State.release, hh, ha, hreload, Bool.false_eq_true, if_false]
  split
  · rename_i m hmig
    exact absurd (hmig.symm.trans hm) (by simp)
  · rfl

theorem State.release_of_active (ha : (s.ctx (s.ctxKey t)).active = true) : s.release t = s.abortAct t (s.task t).engine (s.ctxKey t) 7 := by
  simp only [State.release, hh, ha, Bool.false_eq_true, if_false, if_true]

end

/-- TASK_RELEASE of a due task that may be released and does not migrate. -/
theorem doTaskRelease_eq {t : Fin 96} (hd : t.val ∈ s.due) (hr : s.mayRelease t = true) (hm : (s.task t).mig = none) :
    doTaskRelease t s = (if ({ s with due := s.due.erase t.val } : State).starts t
      then (({ s with due := s.due.erase t.val } : State).release t).kernelStart t
      else ({ s with due := s.due.erase t.val } : State).release t) := by
  have hmay : ({ s with due := s.due.erase t.val } : State).mayRelease t = true := hr
  have hmig : (({ s with due := s.due.erase t.val } : State).task t).mig = none := hm
  rw [doTaskRelease, List.contains_iff_mem.2 hd]
  generalize ({ s with due := s.due.erase t.val } : State) = v at *
  simp only [hmay, State.migRelease, hmig, Bool.not_true, Bool.false_eq_true, if_false]

/-- A kernel of no vendor waits for no records and computes nothing. -/
theorem State.kernelStart_of_own {v : State} (h : v.dc 2 0x010 t < 0x110 ∨ 0x137 < v.dc 2 0x010 t) : v.kernelStart t = v := by
  have hhas : v.kernelHas t = true := by
    rw [State.kernelHas]
    split
    case h_13 => rfl
    all_goals omega
  have hlisted : v.dc 2 0x010 t ≠ 0x111 ∧ v.dc 2 0x010 t ≠ 0x112 ∧ ¬ (v.dc 2 0x010 t = 0x136 ∨ v.dc 2 0x010 t = 0x137) ∧
      v.dc 2 0x010 t ≠ 0x120 ∧ v.dc 2 0x010 t ≠ 0x121 := by omega
  obtain ⟨h111, h112, h136, h120, h121⟩ := hlisted
  rw [State.kernelStart, if_pos hhas, State.kernelRun]
  simp only [h111, h112, h136, h120, h121, and_false, if_false, ite_self]
  refine ite_eq_left_iff.2 fun _ => ite_eq_left_iff.2 fun _ => ite_eq_right_iff.2 fun _ => ?_
  split
  case h_9 => rfl
  all_goals omega

/-- Settles O18: the release writes one context, the task's record and its scratch; the timers abort. -/
theorem activationsStartAndEnd : Obligations.ActivationsStartAndEnd := by
  intro s t e i x k s' hp he hs hm hc
  have hkey : s.ctxKey t = k := by rw [State.ctxKey, he, hs]
  have hplaces : s.places t = [(e.val, i.val)] := by rw [State.places_of_placed hp hm, he, hs]
  have hm' : (s'.task t).mig = none := hm
  have hengine : (s'.task t).engine = e.val := he
  have hslot : (s'.task t).slot = i.val := hs
  have hkey' : s'.ctxKey t = k := hkey
  refine ⟨fun hd hr hh ha hreload => ?_, fun hd hr hh ha => ?_, fun ha hb hh => ?_, fun ha hh => ?_⟩
  · have hh' : (s'.eng (s'.task t).engine).halted = false := by rw [hengine]; exact hh
    have ha' : (s'.ctx (s'.ctxKey t)).active = false := by rw [hkey']; exact ha
    have hstarts : s'.starts t = true := by rw [State.starts, hh', ha']; rfl
    have hrelease := State.release_of_idle hh' hm' ha' hreload
    rw [hengine, hslot] at hrelease
    refine ⟨_, congrArg Host.Outcome.next ((doTaskRelease_eq hd hr hm).trans (if_pos hstarts)), fun hid => State.kernelStart_of_own ?_, ?_⟩
    · rw [hrelease]
      exact hid
    rw [hrelease]
    have htask (j : Nat) : (s'.setTask t (s'.released t)).task j = if j = t then s'.released t else s'.task j := State.task_setTask ..
    have hself := (htask t).trans (if_pos rfl)
    refine ⟨?_, ?_, fun j hj => ?_, ?_, ?_, fun f b hb hout hlen => ?_⟩
    · have hv : s'.setTask t (s'.released t) = { s' with ref := { s'.ref with task := (s'.setTask t (s'.released t)).ref.task } } := rfl
      have hu := (s'.setTask t (s'.released t)).startAct_frame t e i (s'.task t).code (s'.task t).scratch
      generalize (s'.setTask t (s'.released t)).startAct t e i (s'.task t).code (s'.task t).scratch = u at *
      generalize s'.setTask t (s'.released t) = v at *
      rw [hu, hv]
    · rw [State.ctx_startAct, if_pos rfl, hself]
      rfl
    · rw [State.ctx_startAct, if_neg hj]
      rfl
    · rw [State.task_startAct, hself]
      rfl
    · rw [State.task_startAct, hself]
      rfl
    · rw [State.memWord_startAct _ hb (by rw [hself]; exact hlen) (by rw [hself]; exact hout)]
      rfl
  · have hh' : (s'.eng (s'.task t).engine).halted = false := by rw [hengine]; exact hh
    have ha' : (s'.ctx (s'.ctxKey t)).active = true := by rw [hkey']; exact ha
    have hstarts : ¬ s'.starts t = true := by rw [State.starts, ha', Bool.not_true, Bool.and_false]; exact Bool.false_ne_true
    have habort := State.release_of_active hh' ha'
    rw [hengine, hkey'] at habort
    refine ⟨_, congrArg Host.Outcome.next ((doTaskRelease_eq hd hr hm).trans ((if_neg hstarts).trans habort)), ?_, ?_⟩
    · rw [State.ctx_abortAct hm' hc, if_pos rfl]
    · rw [State.flt_abortAct hm' hc]
      have hcode : 0x010000 + 256 * t.val + 7 = 0x010007 + 256 * t.val := by omega
      exact congrArg (fun c => s.flt.reports ++ [⟨c, false⟩]) hcode
  · have hover : s.overPlace t = some (e.val, i.val) := by
      rw [State.overPlace, hplaces, List.find?_cons_of_pos]
      simp [ha, hb, hh, k]
    refine aborts_of_abortAct (congrArg Host.Outcome.next ?_) hm hc t.isLt
    rw [doBudgetOverrun, hover]
  · refine aborts_of_abortAct (congrArg Host.Outcome.next ?_) hm hc t.isLt
    rw [doDeadlineMiss, hplaces, List.filter_cons_of_pos]
    · rfl
    · simp [ha, hh, k]

end Sys2Proof.Machine
end

section
/-! SUPPORT. The writes that start a job (R94, R406), and the statement on them, settled. -/

namespace Sys2Proof.Machine

variable {s : State} {q : Req}

/-! ### Several entries written in a row -/

/-- The entries of `l` are written in order. -/
def State.putKeys (s : State) (l : List (Nat × Nat)) : State := l.foldl (fun s p => s.putKey p.1 p.2) s

theorem State.putKeys_cons (s : State) (p : Nat × Nat) (l : List (Nat × Nat)) : s.putKeys (p :: l) = (s.putKey p.1 p.2).putKeys l := rfl

/-- Writing entries changes the entries alone. -/
theorem State.putKeys_eq (l : List (Nat × Nat)) (s : State) : s.putKeys l = { s with ent := (s.putKeys l).ent } := by
  induction l generalizing s with
  | nil => rfl
  | cons p l ih => exact ih (s.putKey p.1 p.2)

theorem State.getKey_putKeys_of_notMem (l : List (Nat × Nat)) (s : State) {j : Nat} (hj : ∀ p ∈ l, p.1 ≠ j) :
    (s.putKeys l).getKey j = s.getKey j := by
  induction l generalizing s with
  | nil => rfl
  | cons p l ih =>
    obtain ⟨hp, hl⟩ := List.forall_mem_cons.1 hj
    rw [State.putKeys_cons, ih _ hl, State.getKey_putKey, if_neg hp.symm]

/-- Entries at different keys read as written. -/
theorem onlyEntries_putKeys (l : List (Nat × Nat)) (hl : l.Pairwise (fun (a b : Nat × Nat) => a.1 ≠ b.1)) (s : State) : OnlyEntries s (s.putKeys l) l := by
  refine ⟨?_, fun j hj => s.getKey_putKeys_of_notMem l hj⟩
  induction l generalizing s with
  | nil => exact fun p hp => absurd hp List.not_mem_nil
  | cons p l ih =>
    obtain ⟨hp, hl⟩ := List.pairwise_cons.1 hl
    refine List.forall_mem_cons.2 ⟨?_, ih hl (s.putKey p.1 p.2)⟩
    rw [State.putKeys_cons, State.getKey_putKeys_of_notMem l _ (fun r hr => (hp r hr).symm), State.getKey_putKey, if_pos rfl]

/-! ### The slot of a job -/

/-- What the entries of a slot show of a job that was just queued. -/
def slotShows (s : State) (slot k lock : Nat) : List (Nat × Nat) :=
  [(mkKey 2 0x090 slot, 1), (mkKey 2 0x091 slot, k), (mkKey 2 0x092 slot, 0), (mkKey 2 0x093 slot, 0), (mkKey 2 0x094 slot, s.t48.toNat),
    (mkKey 2 0x095 slot, lock)]

/-- The job that a write queues. -/
def queuedJob (s : State) (q : Req) (kind : JobKind) (arg : Nat) (data : List Word) (n expect : Nat) : Job :=
  ⟨kind, arg, data, 0, 0, expect, kind.limit n, kind.prio, kind.cancellable, false, false, some q, s.t48.toNat, data.length⟩

/-- Job `j` takes a slot. -/
def State.queueJob (s : State) (slot : Nat) (j : Job) : State :=
  { s with ref := { s.ref with job := s.ref.job.filter (fun p => p.1 != slot) ++ [(slot, j)] } }

theorem State.startJob_eq (s : State) (q : Req) (kind : JobKind) (arg : Nat) (data : List Word) (n expect k slot : Nat) :
    s.startJob slot kind arg data n expect k (some q) =
      (s.queueJob slot (queuedJob s q kind arg data n expect)).putKeys (slotShows s slot k (kind.lock arg)) := rfl

theorem State.jobAt_queueJob_self (s : State) (slot : Nat) (j : Job) : (s.queueJob slot j).jobAt slot = some j := by
  have hnone : (s.ref.job.filter (fun p => p.1 != slot)).find? (fun p => p.1 == slot) = none := by
    refine List.find?_eq_none.2 fun p hp => ?_
    simpa using (List.mem_filter.1 hp).2
  simp [State.jobAt, State.queueJob, List.find?_append, hnone]

theorem State.jobAt_queueJob_of_ne (s : State) (j : Job) {n slot : Nat} (h : n ≠ slot) : (s.queueJob slot j).jobAt n = s.jobAt n := by
  have hfilter : (s.ref.job.filter (fun p => p.1 != slot)).find? (fun p => p.1 == n) = s.ref.job.find? (fun p => p.1 == n) := by
    rw [List.find?_filter]
    congr 1
    funext p
    by_cases hp : p.1 = n
    · simp [hp, h]
    · simp [hp]
  simp [State.jobAt, State.queueJob, List.find?_append, hfilter, h.symm]

/-! ### The write -/

/-- The response with JOB, after which the tag stays in use, changes the session alone. -/
theorem State.sess_respond_holdTag (s : State) (q : Req) (k j : Nat) :
    ((s.respond q opWrite 0 0 k (statusBody 0 true 0)).holdTag q).sess j =
      if j = q.ses.val then { (s.sess j).answered q 3 0 0 k [4] with inUse := q.tag :: (s.sess j).inUse.filter (· != q.tag) } else s.sess j := by
  rw [State.holdTag, State.sess_setSess, State.respond, State.sess_setSess, State.sess_setSess, if_pos rfl]
  by_cases h : j = q.ses.val
  · subst h
    simp [Sess.answered, statusBody, opWrite, b2n, List.filter_filter]
  · rw [if_neg h, if_neg h, if_neg h]

/-- A job queued in the slot of the tag, the entries that show it, and the response with JOB. -/
theorem startsJob_queued (s : State) (q : Req) (k arg : Nat) (kind : JobKind) (data : List Word) (n expect : Nat) (more : List (Nat × Nat))
    (hl : (slotShows s q.tag.toNat k (kind.lock arg) ++ more).Pairwise (fun (a b : Nat × Nat) => a.1 ≠ b.1)) :
    StartsJob s (((((s.queueJob q.tag.toNat (queuedJob s q kind arg data n expect)).putKeys
      (slotShows s q.tag.toNat k (kind.lock arg) ++ more)).respond q opWrite 0 0 k (statusBody 0 true 0))).holdTag q) q k arg kind more := by
  have honly := onlyEntries_putKeys _ hl (s.queueJob q.tag.toNat (queuedJob s q kind arg data n expect))
  have heq := State.putKeys_eq (slotShows s q.tag.toNat k (kind.lock arg) ++ more) (s.queueJob q.tag.toNat (queuedJob s q kind arg data n expect))
  generalize State.putKeys _ _ = u at honly heq ⊢
  have hjob (i : Nat) : ((u.respond q opWrite 0 0 k (statusBody 0 true 0)).holdTag q).jobAt i =
      (s.queueJob q.tag.toNat (queuedJob s q kind arg data n expect)).jobAt i := by
    rw [heq]
    rfl
  refine ⟨?_, ⟨queuedJob s q kind arg data n expect, (hjob _).trans (s.jobAt_queueJob_self _ _), rfl, rfl, rfl, rfl, rfl, rfl⟩,
    fun i hi => (hjob i).trans (s.jobAt_queueJob_of_ne _ hi), honly, fun j => ?_⟩
  · rw [heq]
    rfl
  · rw [State.sess_respond_holdTag, heq]
    rfl

/-- A write that passes R401 and that its own rule does not refuse starts its job where the slot is free, and is refused with BUSY where it is not. -/
theorem dictJob_starts (h : Served s q) {k v lev arg n expect : Nat} {kind : JobKind} {data : List Word} {more : List (Nat × Nat)}
    {why : State → Option Err} {start : State → State} {c : Instr} (hc : exec c s = .next (s.dictJob q k v lev (fun _ => none) why start))
    (hwhy : why s = none)
    (hstart : start s = (s.queueJob q.tag.toNat (queuedJob s q kind arg data n expect)).putKeys (slotShows s q.tag.toNat k (kind.lock arg) ++ more))
    (hmore : (slotShows s q.tag.toNat k (kind.lock arg) ++ more).Pairwise (fun (a b : Nat × Nat) => a.1 ≠ b.1))
    (hp : Permits s q k v lev none) :
    (s.en 2 0x090 q.tag.toNat = 0 → s.jobAt q.tag.toNat = none → Answers c s (StartsJob s · q k arg kind more)) ∧
      (s.en 2 0x090 q.tag.toNat ≠ 0 →
        exec c s = .next (s.setSess q.ses.val ((s.sess q.ses.val).answered q 3 errBusy 0 k []))) := by
  obtain ⟨r, hr⟩ := hp
  rw [State.dictJob, State.serve_of_served h (Nat.zero_le _)] at hc
  simp only [hr, hwhy] at hc
  refine ⟨fun hfree _ => ?_, fun hbusy => ?_⟩
  · rw [if_neg (by simp [State.slotBusy, hfree]), hstart] at hc
    exact ⟨_, hc, startsJob_queued s q k arg kind data n expect more hmore⟩
  · rw [if_pos (by simpa [State.slotBusy] using hbusy)] at hc
    exact hc

theorem slotShows_pairwise (s : State) (slot k lock : Nat) : (slotShows s slot k lock ++ []).Pairwise (fun (a b : Nat × Nat) => a.1 ≠ b.1) := by
  simp [slotShows, mkKey]

/-- The entry of ID_STEP is none of the slot's. -/
theorem slotShows_idStep_pairwise (s : State) (q : Req) (st : Fin 12) (k lock : Nat) :
    (slotShows s q.tag.toNat k lock ++ [(mkKey 0xD 0x152 st, 1)]).Pairwise (fun (a b : Nat × Nat) => a.1 ≠ b.1) := by
  have htag : q.tag.toNat < 64 := q.tag.isLt
  simp [slotShows, mkKey]
  omega

/-! ### The commands that start a job -/

theorem exec_kimgLoad (q : Req) (image : List Word) (s : State) :
    exec (.kimgLoad q image) s = .next (s.dictJob q (mkKey 3 0x030 0) 0 0 (fun _ => none) (fun _ => none)
      (fun s => s.startJob q.tag.toNat .kimgLoad 0 image 0 (imgSteps image.length) (mkKey 3 0x030 0) (some q))) := rfl

theorem exec_kimgDelete (q : Req) (id : Word) (s : State) :
    exec (.kimgDelete q id) s = .next (s.dictJob q (mkKey 3 0x031 0) id.toNat 0 (fun _ => none)
      (fun s => if (s.kimgSlot id.toNat).isNone ∨ (List.range 96).any (fun t => s.dc 2 0x010 t == id.toNat && id.toNat != 0)
        then some ⟨errRefused, 0⟩ else none)
      (fun s => s.startJob q.tag.toNat .kimgDelete id.toNat [] 0 1 (mkKey 3 0x031 0) (some q))) := rfl

theorem exec_patchLoad (q : Req) (image : List Word) (s : State) :
    exec (.patchLoad q image) s = .next (s.dictJob q (mkKey 0xB 0x023 0) 0 0 (fun _ => none) (fun _ => none)
      (fun s => s.startJob q.tag.toNat .patchLoad 0 image 0 (imgSteps image.length) (mkKey 0xB 0x023 0) (some q))) := rfl

theorem exec_satRead (q : Req) (l : Fin 32) (addr : BitVec 48) (s : State) :
    exec (.satRead q l addr) s = .next (s.dictJob q (mkKey 5 0x041 l) addr.toNat 0 (fun _ => none) (fun _ => none)
      (fun s => s.startJob q.tag.toNat .satRead l [BitVec.ofNat 24 addr.toNat] 0 2 (mkKey 5 0x041 l) (some q))) := rfl

theorem exec_ostCmd (q : Req) (h : Fin 12) (s : State) :
    exec (.ostCmd q h) s = .next (s.dictJob q (mkKey 6 0x030 h) 0 0 (fun _ => none) (fun _ => none)
      (fun s => s.startJob q.tag.toNat .ost h [] 0 5 (mkKey 6 0x030 h) (some q))) := rfl

theorem exec_cwCheckCmd (q : Req) (c : Fin 48) (s : State) :
    exec (.cwCheckCmd q c) s = .next (s.dictJob q (mkKey 7 0x068 c) 0 0 (fun _ => none) (fun _ => none)
      (fun s => s.startJob q.tag.toNat .cwCheck c [] 0 16 (mkKey 7 0x068 c) (some q))) := rfl

theorem exec_idCmd (q : Req) (st : Fin 12) (s : State) :
    exec (.idCmd q st) s = .next (s.dictJob q (mkKey 0xD 0x150 st) 0 0 (fun _ => none)
      (fun s => if (s.stg st).st = .armed ∧ s.ofsDone st ∧ s.dc 0xD 0x000 st = 1 then none else some ⟨errRefused, 0⟩)
      (fun s => (s.startJob q.tag.toNat .ident st [] 0 7 (mkKey 0xD 0x150 st) (some q)).put 0xD 0x152 st 1)) := rfl

theorem exec_otpBurn (q : Req) (v : BitVec 48) (s : State) :
    exec (.otpBurn q v) s = .next (s.dictJob q (mkKey 0xB 0x073 0) v.toNat (regionLevel (v.toNat / 2 ^ 40 % 4)) (fun _ => none)
      (fun _ => if v.toNat / 2 ^ 40 % 4 = 3 ∨ otpWords (v.toNat / 2 ^ 40 % 4) ≤ v.toNat / 2 ^ 32 % 256 then some ⟨errRange, 0⟩ else none)
      (fun s => s.startJob q.tag.toNat .otpBurn v.toNat [] 0 4 (mkKey 0xB 0x073 0) (some q))) := rfl

theorem exec_lock (q : Req) (r : Fin 3) (s : State) :
    exec (.lock q r) s = .next (s.dictJob q (mkKey 0xB 0x074 r) 0 (regionLevel r) (fun _ => none) (fun _ => none)
      (fun s => s.startJob q.tag.toNat .otpLock r [] 0 6 (mkKey 0xB 0x074 r) (some q))) := rfl

theorem exec_complete (q : Req) (r : Fin 3) (s : State) :
    exec (.complete q r) s = .next (s.dictJob q (mkKey 0xB 0x074 r) 1 (regionLevel r) (fun _ => none)
      (fun s => if s.lockState r = 2 then none else some ⟨errRefused, 0⟩)
      (fun s => s.startJob q.tag.toNat .otpComplete r [] 0 4 (mkKey 0xB 0x074 r) (some q))) := rfl

theorem exec_otpAudit (q : Req) (s : State) :
    exec (.otpAudit (some q)) s = .next (s.dictJob q (mkKey 0xB 0x075 0) 0 0 (fun _ => none) (fun _ => none)
      (fun s => s.startJob q.tag.toNat .otpAudit 0 [] 0 17 (mkKey 0xB 0x075 0) (some q))) := rfl

end Sys2Proof.Machine

namespace Sys2Proof.Machine

/-- Settles O22: each of these writes is `State.dictJob`, which queues the job in the slot of its tag or answers BUSY. -/
theorem writesStartJobs : Obligations.WritesStartJobs := by
  intro s q image id lane addr hb st cw burn r h
  have hplain (k lock : Nat) := slotShows_pairwise s q.tag.toNat k lock
  simp only [List.forall_mem_cons]
  refine ⟨?kimgLoad, ?kimgDelete, ?patchLoad, ?satRead, ?ost, ?cwCheck, ?ident, ?otpBurn, ?lock, ?complete, ?audit,
    fun _ hx => absurd hx List.not_mem_nil⟩
  case kimgLoad => exact fun hp _ => dictJob_starts h (exec_kimgLoad ..) rfl rfl (hplain _ _) hp
  case patchLoad => exact fun hp _ => dictJob_starts h (exec_patchLoad ..) rfl rfl (hplain _ _) hp
  case satRead => exact fun hp _ => dictJob_starts h (exec_satRead ..) rfl rfl (hplain _ _) hp
  case ost => exact fun hp _ => dictJob_starts h (exec_ostCmd ..) rfl rfl (hplain _ _) hp
  case cwCheck => exact fun hp _ => dictJob_starts h (exec_cwCheckCmd ..) rfl rfl (hplain _ _) hp
  case lock => exact fun hp _ => dictJob_starts h (exec_lock ..) rfl rfl (hplain _ _) hp
  case audit => exact fun hp _ => dictJob_starts h (exec_otpAudit ..) rfl rfl (hplain _ _) hp
  case kimgDelete =>
    intro hp hrule
    refine dictJob_starts h (exec_kimgDelete ..) (if_neg ?_) rfl (hplain _ _) hp
    simp only [Bool.and_eq_true, List.all_eq_true, Bool.or_eq_true, bne_iff_ne, beq_iff_eq] at hrule
    obtain ⟨hsome, hunused⟩ := hrule
    simp only [Option.isNone_iff_eq_none, List.any_eq_true, Bool.and_eq_true, bne_iff_ne, beq_iff_eq]
    rintro (hnone | ⟨t, ht, hkern, hid⟩)
    · simp [hnone] at hsome
    · exact (hunused t ht).elim (fun h => h hkern) hid
  case ident =>
    intro hp hrule
    refine dictJob_starts h (exec_idCmd ..) (if_pos ?_) rfl (slotShows_idStep_pairwise s q st _ _) hp
    simpa [and_assoc] using hrule
  case otpBurn =>
    intro hp hrule
    refine dictJob_starts h (exec_otpBurn ..) (if_neg ?_) rfl (hplain _ _) hp
    simpa [not_or] using hrule
  case complete =>
    intro hp hrule
    exact dictJob_starts h (exec_complete ..) (if_pos (by simpa using hrule)) rfl (hplain _ _) hp

end Sys2Proof.Machine
end

section
/-! SUPPORT. The conditional, repeated and partial steps, the state's operations, the dictionary service, feedback and fabric:
each step keeps the canonical form of the word memories. -/

namespace Sys2Proof.Machine

variable {s : State}

theorem State.MemOk.ite {c : Prop} {_ : Decidable c} {s t : State} (hs : s.MemOk) (ht : t.MemOk) : (if c then s else t).MemOk := by
  split <;> assumption

theorem State.MemOk.dite {c : Prop} {_ : Decidable c} {f : c → State} {g : ¬ c → State} (hf : ∀ h, (f h).MemOk) (hg : ∀ h, (g h).MemOk) :
    (if h : c then f h else g h).MemOk := by
  split
  · exact hf _
  · exact hg _

theorem State.MemOk.when {c : Bool} {f : State → State} (h : s.MemOk) (hf : ∀ s, s.MemOk → (f s).MemOk) : (s.whenS c f).MemOk :=
  h.whenS c hf

theorem State.MemOk.folds {A : Type} {f : State → A → State} {l : List A} (h : s.MemOk) (hf : ∀ s a, s.MemOk → (f s a).MemOk) :
    (l.foldl f s).MemOk := .foldl hf l s h

theorem State.MemOk.of_heal {m a n : Nat} (h : s.MemOk) : (s.heal m a n).MemOk := h.heal ..
theorem State.MemOk.of_setFram {a : Nat} {l : List Word} (h : s.MemOk) : (s.setFram a l).MemOk := h.setFram ..
theorem State.MemOk.of_setPm {e a : Nat} {l : List Word} (h : s.MemOk) : (s.setPm e a l).MemOk := h.setPm ..
theorem State.MemOk.of_setMemWord {e a : Nat} {v : Word} (h : s.MemOk) : (s.setMemWord e a v).MemOk := h.setMemWord ..
theorem State.MemOk.of_setOtp {r w : Nat} {v : Word} (h : s.MemOk) : (s.setOtp r w v).MemOk := h.setOtp ..
theorem State.MemOk.of_setShadow {r w : Nat} {v : Word} (h : s.MemOk) : (s.setShadow r w v).MemOk := h.setShadow ..
theorem State.MemOk.of_quadOff {q : Nat} (h : s.MemOk) : (s.quadOff q).MemOk := h.quadOff q
theorem State.MemOk.of_resetTo {cause reached : Nat} {keep : Bool} (h : s.MemOk) : (s.resetTo cause keep reached).MemOk := h.resetTo ..
theorem State.MemOk.of_startAct {t e slot code scratch : Nat} (h : s.MemOk) : (s.startAct t e slot code scratch).MemOk := h.startAct ..
theorem State.MemOk.of_setRuns {ws : List (Nat × List Word)} (h : s.MemOk) : (s.setRuns ws).MemOk := h.setRuns ws
theorem State.MemOk.of_sense {r : Nat} (h : s.MemOk) : (s.sense r).MemOk := h.sense r
theorem State.MemOk.of_put {a e i v : Nat} (h : s.MemOk) : (s.put a e i v).MemOk := h.put ..
theorem State.MemOk.of_report {c : Nat} (h : s.MemOk) : (s.report c).MemOk := h.report c

theorem State.MemOk.withAcq {x} (h : s.MemOk) : ({ s with acq := x } : State).MemOk := h
theorem State.MemOk.withBoot {x} (h : s.MemOk) : ({ s with boot := x } : State).MemOk := h
theorem State.MemOk.withDrv {x} (h : s.MemOk) : ({ s with drv := x } : State).MemOk := h
theorem State.MemOk.withDue {x} (h : s.MemOk) : ({ s with due := x } : State).MemOk := h
theorem State.MemOk.withFlt {x} (h : s.MemOk) : ({ s with flt := x } : State).MemOk := h
theorem State.MemOk.withLport {x} (h : s.MemOk) : ({ s with lport := x } : State).MemOk := h
theorem State.MemOk.withMon {x} (h : s.MemOk) : ({ s with mon := x } : State).MemOk := h
theorem State.MemOk.withNvm {x} (h : s.MemOk) : ({ s with nvm := x } : State).MemOk := h
theorem State.MemOk.withRxAt {x} (h : s.MemOk) : ({ s with rxAt := x } : State).MemOk := h
theorem State.MemOk.withStages {x} (h : s.MemOk) : ({ s with stages := x } : State).MemOk := h

theorem State.MemOk.getD {o : Option State} (ho : ∀ u, o = some u → u.MemOk) (h : s.MemOk) : (o.getD s).MemOk := by
  cases o with
  | none => exact h
  | some u => exact ho u rfl

theorem State.MemOk.ite_fst {A : Type} {c : Prop} {_ : Decidable c} {p q : State × A} (hp : p.1.MemOk) (hq : q.1.MemOk) :
    (if c then p else q).1.MemOk := by
  split <;> assumption

/-! ### The state's operations -/

theorem State.MemOk.putKey {k v : Nat} (h : s.MemOk) : (s.putKey k v).MemOk := h.of_eq rfl

theorem State.MemOk.bump {k lim : Nat} (h : s.MemOk) : (s.bump k lim).MemOk := by
  unfold State.bump
  exact .putKey h

theorem State.MemOk.putDecl {k v : Nat} (h : s.MemOk) : (s.putDecl k v).MemOk := h.of_eq rfl

theorem State.MemOk.snapDecl {ks : List Nat} (h : s.MemOk) : (s.snapDecl ks).MemOk := by
  unfold State.snapDecl
  exact .folds h (fun _ _ hs => .putDecl hs)

theorem State.MemOk.clearDecl {ks : List Nat} (h : s.MemOk) : (s.clearDecl ks).MemOk := by
  unfold State.clearDecl
  exact .folds h (fun _ _ hs => .putDecl hs)

theorem State.MemOk.tick (h : s.MemOk) : s.tick.MemOk := h.of_eq rfl

theorem State.MemOk.raiseEv {n : Nat} (h : s.MemOk) : (s.raiseEv n).MemOk := h.of_eq rfl

theorem State.MemOk.reportInj {code : Nat} (h : s.MemOk) : (s.reportInj code).MemOk := h.of_eq rfl

theorem State.MemOk.condOn {code : Nat} (h : s.MemOk) : (s.condOn code).MemOk := by
  unfold State.condOn
  exact .ite h (h.of_eq rfl)

theorem State.MemOk.every {code n : Nat} (h : s.MemOk) : (s.every code n).MemOk := by
  unfold State.every
  split
  · exact .ite h (.of_report (h.of_eq rfl))
  · exact .of_report (h.of_eq rfl)

theorem State.MemOk.limited {code : Nat} (h : s.MemOk) : (s.limited code).MemOk := by
  unfold State.limited
  exact .every h

theorem State.MemOk.condEvery {code n : Nat} (h : s.MemOk) : (s.condEvery code n).MemOk := by
  unfold State.condEvery
  exact .ite h (.every (h.of_eq rfl))

theorem State.MemOk.setCtx {k : Nat} {c : Ctx} (h : s.MemOk) : (s.setCtx k c).MemOk := h.of_eq rfl

theorem State.MemOk.setEng {e : Nat} {x : Eng} (h : s.MemOk) : (s.setEng e x).MemOk := h.of_eq rfl

theorem State.MemOk.setMb {k : Nat} {x : Mbox} (h : s.MemOk) : (s.setMb k x).MemOk := h.of_eq rfl

theorem State.MemOk.setTask {t : Nat} {x : TaskRt} (h : s.MemOk) : (s.setTask t x).MemOk := h.of_eq rfl

theorem State.MemOk.setQuad {q : Nat} {x : Quad} (h : s.MemOk) : (s.setQuad q x).MemOk := h.of_eq rfl

theorem State.MemOk.setDerate {g : Nat} {x : Derate} (h : s.MemOk) : (s.setDerate g x).MemOk := h.of_eq rfl

theorem State.MemOk.setCl {c : Nat} {x : Cl} (h : s.MemOk) : (s.setCl c x).MemOk := h.of_eq rfl

theorem State.MemOk.setGen {g : Nat} {x : Gen} (h : s.MemOk) : (s.setGen g x).MemOk := h.of_eq rfl

theorem State.MemOk.setLine {i : Nat} {x : Line} (h : s.MemOk) : (s.setLine i x).MemOk := h.of_eq rfl

theorem State.MemOk.placeEdge {i fine : Nat} (h : s.MemOk) : (s.placeEdge i fine).MemOk := by
  unfold State.placeEdge
  exact .setLine h

theorem State.MemOk.setLane {l : Nat} {x : Lane} (h : s.MemOk) : (s.setLane l x).MemOk := h.of_eq rfl

theorem State.MemOk.setRx {l : Nat} {x : Rx} (h : s.MemOk) : (s.setRx l x).MemOk := h.of_eq rfl

theorem State.MemOk.setHb {hb : Nat} {x : Hb} (h : s.MemOk) : (s.setHb hb x).MemOk := h.of_eq rfl

theorem State.MemOk.setDl {d : Nat} {x : DLane} (h : s.MemOk) : (s.setDl d x).MemOk := h.of_eq rfl

theorem State.MemOk.setView {hb : Nat} {x : HbView} (h : s.MemOk) : (s.setView hb x).MemOk := h.of_eq rfl

theorem State.MemOk.setCfgWord {d a : Nat} {w : Word} (h : s.MemOk) : (s.setCfgWord d a w).MemOk := h.of_eq rfl

theorem State.MemOk.setSensor {i : Nat} {x : Sensor} (h : s.MemOk) : (s.setSensor i x).MemOk := h.of_eq rfl

theorem State.MemOk.setSupply {i : Nat} {x : Supply} (h : s.MemOk) : (s.setSupply i x).MemOk := h.of_eq rfl

theorem State.MemOk.setCan {n : Nat} {x : Can} (h : s.MemOk) : (s.setCan n x).MemOk := h.of_eq rfl

theorem State.MemOk.setAdc {a : Nat} {x : Adc} (h : s.MemOk) : (s.setAdc a x).MemOk := h.of_eq rfl

theorem State.MemOk.setSd {f : Nat} {x : Sd} (h : s.MemOk) : (s.setSd f x).MemOk := h.of_eq rfl

theorem State.MemOk.setLg {g : Nat} {x : Lg} (h : s.MemOk) : (s.setLg g x).MemOk := h.of_eq rfl

theorem State.MemOk.setCw {c : Nat} {x : Cw} (h : s.MemOk) : (s.setCw c x).MemOk := h.of_eq rfl

theorem State.MemOk.setQe {n : Nat} {x : Qe} (h : s.MemOk) : (s.setQe n x).MemOk := h.of_eq rfl

theorem State.MemOk.setStg {g : Nat} {x : Stg} (h : s.MemOk) : (s.setStg g x).MemOk := h.of_eq rfl

theorem State.MemOk.setKern {g : Nat} {x : Kern} (h : s.MemOk) : (s.setKern g x).MemOk := h.of_eq rfl

theorem State.MemOk.setGuard {g : Nat} {x : Guard} (h : s.MemOk) : (s.setGuard g x).MemOk := h.of_eq rfl

theorem State.MemOk.setSess {n : Nat} {x : Sess} (h : s.MemOk) : (s.setSess n x).MemOk := h.of_eq rfl

theorem State.MemOk.setCt {k : Nat} {closed : Bool} (h : s.MemOk) : (s.setCt k closed).MemOk := h.of_eq rfl

theorem State.MemOk.openLater {g : Nat} (h : s.MemOk) : (s.openLater g).MemOk := by
  unfold State.openLater
  exact .setStg h

theorem State.MemOk.openNow {g : Nat} (h : s.MemOk) : (s.openNow g).MemOk := by
  unfold State.openNow
  exact .setStg (.folds h (fun _ _ hs => .setCt hs))

/-! ### Requests, responses and jobs -/

theorem State.MemOk.respond {q : Req} {op err detail key : Nat} {body : List Byte} (h : s.MemOk) :
    (s.respond q op err detail key body).MemOk := by
  unfold State.respond
  exact .setSess h

theorem State.MemOk.refuse {q : Req} {op key : Nat} {e : Err} (h : s.MemOk) : (s.refuse q op key e).MemOk := by
  unfold State.refuse
  exact .respond h

theorem State.MemOk.resend {q : Req} {r : Resp} (h : s.MemOk) : (s.resend q r).MemOk := by
  unfold State.resend
  exact .setSess h

theorem State.MemOk.holdTag {q : Req} (h : s.MemOk) : (s.holdTag q).MemOk := by
  unfold State.holdTag
  exact .setSess h

theorem State.MemOk.serve {q : Req} {op key since : Nat} {f : State → State} (h : s.MemOk) (hf : ∀ s, s.MemOk → (f s).MemOk) :
    (s.serve q op key since f).MemOk := by
  unfold State.serve
  exact .ite h (.ite (.bump h) (.ite (.refuse h) (by
    split
    · exact .ite (.resend h) (.ite (.refuse h) (.ite (.refuse h) (hf _ h)))
    · exact .ite (.refuse h) (.ite (.refuse h) (hf _ h)))))

theorem State.MemOk.deferOne {k : Nat} (h : s.MemOk) : (s.deferOne k).MemOk := by
  unfold State.deferOne
  exact .withNvm (.bump h)

theorem State.MemOk.begun {k : Nat} (h : s.MemOk) : (s.begun k).MemOk := h.of_eq rfl

theorem State.MemOk.deferRec (h : s.MemOk) : s.deferRec.MemOk := by
  unfold State.deferRec
  exact .withNvm (.deferOne (.when h (fun _ hs => .of_report hs)))

theorem State.MemOk.journal {s0 : State} {k v : Nat} {r : EntRow} {owner : Option Req} {answered : Bool} (h : s0.MemOk) :
    (s0.journal k v r owner answered).MemOk := by
  unfold State.journal
  exact .withNvm (.when h (fun _ hs => .deferRec hs))

theorem State.MemOk.keepWrite {s1 : State} {q : Req} {k v : Nat} {r : EntRow} (h : s1.MemOk) : (s1.keepWrite q k v r).MemOk := by
  unfold State.keepWrite
  exact .ite (.respond (.journal h)) (.holdTag (.journal h))

theorem State.MemOk.applyWrite {q : Req} {k v : Nat} {r : EntRow} {effect : State → State} (h : s.MemOk)
    (heffect : ∀ s, s.MemOk → (effect s).MemOk) :
    (s.applyWrite q k v r effect).MemOk := by
  unfold State.applyWrite
  exact .ite (.ite (.respond (heffect _ h)) (.ite (.refuse h) (.keepWrite (heffect _ (.putKey h)))))
      (.ite (.respond (heffect _ h)) (.respond (heffect _ (.putKey h))))

theorem State.MemOk.dictWriteR {q : Req} {k v lev : Nat} {armed : State → Option Nat} {why : State → Option Err} {effect : State → State}
    (h : s.MemOk) (heffect : ∀ s, s.MemOk → (effect s).MemOk) :
    (s.dictWriteR q k v lev armed why effect).MemOk := by
  unfold State.dictWriteR
  exact .serve h (fun _ hs => by
    split
    · exact .refuse hs
    · split
      · exact .refuse hs
      · exact .applyWrite hs (fun _ ht => heffect _ ht))

theorem State.MemOk.dictWrite {q : Req} {k v : Nat} {armed : State → Option Nat} {effect : State → State} (h : s.MemOk)
    (heffect : ∀ s, s.MemOk → (effect s).MemOk) :
    (s.dictWrite q k v armed effect).MemOk := by
  unfold State.dictWrite
  exact .dictWriteR h (fun _ hs => heffect _ hs)

theorem State.MemOk.startJob {slot : Nat} {kind : JobKind} {arg : Nat} {data : List Word} {n expect key : Nat} {owner : Option Req} (h : s.MemOk) :
    (s.startJob slot kind arg data n expect key owner).MemOk := by
  unfold State.startJob
  exact .of_put (.of_put (.of_put (.of_put (.of_put (.of_put (h.of_eq rfl))))))

theorem State.MemOk.startOwnJob {kind : JobKind} {arg : Nat} {data : List Word} {n expect key : Nat} (h : s.MemOk) :
    (s.startOwnJob kind arg data n expect key).MemOk := by
  unfold State.startOwnJob
  split
  · exact .startJob h
  · exact h

theorem State.MemOk.startShed (h : s.MemOk) : s.startShed.MemOk := by
  unfold State.startShed
  exact .ite h (.startOwnJob h)

theorem State.MemOk.shedIfLow (h : s.MemOk) : s.shedIfLow.MemOk := by
  unfold State.shedIfLow
  exact .when h (fun _ hs => .startShed hs)

theorem State.MemOk.idleJobs (h : s.MemOk) : s.idleJobs.MemOk := by
  unfold State.idleJobs
  exact .shedIfLow (.startOwnJob h)

theorem State.MemOk.dictJob {q : Req} {k v lev : Nat} {armed : State → Option Nat} {why : State → Option Err} {start : State → State}
    (h : s.MemOk) (hstart : ∀ s, s.MemOk → (start s).MemOk) :
    (s.dictJob q k v lev armed why start).MemOk := by
  unfold State.dictJob
  exact .serve h (fun _ hs => by
    split
    · exact .refuse hs
    · split
      · exact .refuse hs
      · exact .ite (.refuse hs) (.holdTag (.respond (hstart _ hs))))

theorem State.MemOk.notifyOne {n : Nat} {x : Notif} (h : s.MemOk) : (s.notifyOne n x).MemOk := by
  unfold State.notifyOne
  exact .ite h (.ite (.bump (.setSess h)) (.setSess h))

theorem State.MemOk.notifyAt {t ntype cls : Nat} {body : List Byte} (h : s.MemOk) : (s.notifyAt t ntype cls body).MemOk := by
  unfold State.notifyAt
  extract_lets _ s1
  have h1 : s1.MemOk := .ite h (.notifyOne h)
  exact .ite h1 (.notifyOne h1)

theorem State.MemOk.notify {ntype cls : Nat} {body : List Byte} (h : s.MemOk) : (s.notify ntype cls body).MemOk := by
  unfold State.notify
  exact .notifyAt h

theorem State.MemOk.notifyFault {t cls : Nat} {body : List Byte} (h : s.MemOk) : (s.notifyFault t cls body).MemOk := by
  unfold State.notifyFault
  exact .ite h (.notifyAt h)

theorem State.MemOk.scCopy {seq : Nat} (h : s.MemOk) : (s.scCopy seq).MemOk := by
  unfold State.scCopy
  exact .withFlt (.when h (fun _ hs => .deferOne hs))

theorem State.MemOk.condGone {code : Nat} {inj : Bool} (h : s.MemOk) : (s.condGone code inj).MemOk := by
  unfold State.condGone
  exact .folds (h.of_eq rfl) (fun _ _ hs => .notifyFault (.scCopy hs))

theorem State.MemOk.condOff {code : Nat} (h : s.MemOk) : (s.condOff code).MemOk := by
  unfold State.condOff
  exact .ite (.condGone (h.of_eq rfl)) h

theorem State.MemOk.setDev {d : Nat} (h : s.MemOk) : (s.setDev d).MemOk := by
  unfold State.setDev
  exact .ite h (.notify (.of_put h))

theorem State.MemOk.endJob {slot st result : Nat} (h : s.MemOk) : (s.endJob slot st result).MemOk := by
  unfold State.endJob
  extract_lets _ v1 _ _ s2 s3 s4
  have h2 : s2.MemOk := .of_put (.of_put (.of_put (h.of_eq rfl)))
  have h3 : s3.MemOk := .ite (.of_put h2) h2
  have h4 : s4.MemOk := by
    unfold s4
    clear_value v1
    split
    · exact .ite h3 (.setSess h3)
    · exact h3
  exact .notify h4

/-! ### Feedback ports and the quadrature interfaces -/

theorem State.MemOk.qeFireOne {n k : Nat} (h : s.MemOk) : (qeFireOne s n k).MemOk := by
  unfold Machine.qeFireOne
  exact .when (.when (.setQe h) (fun _ hs => .placeEdge hs)) (fun _ hs => .raiseEv hs)

theorem State.MemOk.qeFireAll {n : Nat} {up : Bool} {ks : List Nat} (h : s.MemOk) : (qeFireAll n up ks s).MemOk := by
  induction ks generalizing s with
  | nil => exact h
  | cons k r ih => exact ih (.ite h.qeFireOne h)

theorem State.MemOk.qeReeval {n : Nat} (h : s.MemOk) : (qeReeval s n).MemOk := by
  unfold Machine.qeReeval
  exact .setQe h

theorem State.MemOk.qeFault {n : Nat} (h : s.MemOk) : (qeFault s n).MemOk := by
  unfold Machine.qeFault
  exact .ite (.of_report (.setQe h)) (.setQe h)

theorem State.MemOk.qeIndexCheck {n : Nat} (h : s.MemOk) : (qeIndexCheck s n).MemOk := by
  unfold Machine.qeIndexCheck
  exact .ite (.when (.when (.raiseEv (.bump (.setQe h))) (fun _ hs => .of_report (.bump hs))) (fun _ hs => .qeReeval hs)) h

theorem State.MemOk.qeEdge {n : Nat} {up : Bool} {acc : BitVec 2} {t : Nat} {fast : Bool} (h : s.MemOk) :
    (qeEdge s n up acc t fast).MemOk := by
  unfold Machine.qeEdge
  dsimp only
  exact .qeIndexCheck
      (.qeFireAll
          (.when (.when (.when (.when (.setQe h) (fun _ hs => .raiseEv (.bump hs))) (fun _ hs => .raiseEv hs)) (fun _ hs => .raiseEv hs))
              (fun _ hs => .qeFault (.limited (.raiseEv (.bump hs))))))

theorem State.MemOk.qeIllegal {n : Nat} {ab : BitVec 2} (h : s.MemOk) : (qeIllegal s n ab).MemOk := by
  unfold Machine.qeIllegal
  exact .qeIndexCheck (.qeFault (.limited (.raiseEv (.bump (.setQe h)))))

theorem State.MemOk.qeDecide {n : Nat} {ab : BitVec 2} {t : Nat} {fast : Bool} (h : s.MemOk) : (qeDecide s n ab t fast).MemOk := by
  unfold Machine.qeDecide
  exact .ite (.when (.setQe h) (fun _ hs => .bump hs)) (.ite (.qeEdge h) (.ite (.qeEdge h) (.qeIllegal h)))

theorem State.MemOk.doQeInputChange {n : Fin 4} {ab : BitVec 2} (h : s.MemOk) : (doQeInputChange n ab s).MemOk := by
  unfold Machine.doQeInputChange
  exact .ite (.setQe h) (.ite (.setQe h) (.ite (.setQe h) (.qeDecide h)))

theorem State.MemOk.doQePendingDecide {n : Fin 4} (h : s.MemOk) : (doQePendingDecide n s).MemOk := by
  unfold Machine.doQePendingDecide
  exact .ite (.qeDecide h) h

theorem State.MemOk.doQeEdge {n : Fin 4} {up : Bool} (h : s.MemOk) : (doQeEdge n up s).MemOk := by
  unfold Machine.doQeEdge
  dsimp only
  exact .ite (.qeEdge h) h

theorem State.MemOk.qeIndexSee {n : Nat} (h : s.MemOk) : (qeIndexSee s n).MemOk := by
  unfold Machine.qeIndexSee
  exact .qeIndexCheck (.setQe h)

theorem State.MemOk.doQeIndex {n : Fin 4} {level : Bool} (h : s.MemOk) : (doQeIndex n level s).MemOk := by
  unfold Machine.doQeIndex
  exact .qeIndexSee (.setQe h)

theorem State.MemOk.doQeSpeedCheck {n : Fin 4} (h : s.MemOk) : (doQeSpeedCheck n s).MemOk := by
  unfold Machine.doQeSpeedCheck
  exact .ite (.ite (.when (.raiseEv (.setQe h)) (fun _ hs => .raiseEv hs)) (.ite (.setQe h) h)) h

theorem State.MemOk.doQcmpPulseEnd {n : Fin 4} (h : s.MemOk) : (doQcmpPulseEnd n s).MemOk := by
  unfold Machine.doQcmpPulseEnd
  exact .ite (.setQe (.placeEdge h)) h

theorem State.MemOk.ctTarget {n k : Nat} {v : Word} (h : s.MemOk) : (ctTarget s n k v).MemOk := by
  unfold Machine.ctTarget
  exact .ite (.qeFireOne (.setQe h)) (.setQe h)

theorem State.MemOk.ctConfig {n k : Nat} {v : BitVec 7} (h : s.MemOk) : (ctConfig s n k v).MemOk := by
  unfold Machine.ctConfig
  exact .setQe h

theorem State.MemOk.ctStep {n k : Nat} {v : BitVec 23} (h : s.MemOk) : (ctStep s n k v).MemOk := by
  unfold Machine.ctStep
  exact .setQe h

theorem State.MemOk.qeLoadTable {n : Nat} (h : s.MemOk) : (qeLoadTable s n).MemOk := by
  unfold Machine.qeLoadTable
  exact .folds h (fun _ _ hs => .ctStep (.ctConfig (.ctTarget hs)))

theorem State.MemOk.qeStart {n : Nat} (h : s.MemOk) : (qeStart s n).MemOk := by
  unfold Machine.qeStart
  dsimp only
  exact .qeIndexCheck (.qeLoadTable (.setQe h))

theorem State.MemOk.qeStop {n : Nat} (h : s.MemOk) : (qeStop s n).MemOk := by
  unfold Machine.qeStop
  exact .setQe h

theorem State.MemOk.qePosSet {n : Nat} (h : s.MemOk) : (qePosSet s n).MemOk := by
  unfold Machine.qePosSet
  exact .qeReeval (.setQe h)

theorem State.MemOk.qeClrRawrev {n : Nat} (h : s.MemOk) : (qeClrRawrev s n).MemOk := by
  unfold Machine.qeClrRawrev
  exact .setQe h

theorem State.MemOk.qeCaptureOne {n trig : Nat} (h : s.MemOk) : (qeCaptureOne s n trig).MemOk := by
  unfold Machine.qeCaptureOne
  exact .ite (.raiseEv (.setQe h)) h

theorem State.MemOk.qeCapture {trig : Nat} (h : s.MemOk) : (qeCapture s trig).MemOk := by
  unfold Machine.qeCapture
  exact .folds h (fun _ _ hs => .qeCaptureOne hs)

theorem State.MemOk.qeSnap {n reader : Nat} (h : s.MemOk) : (qeSnap s n reader).MemOk := by
  unfold Machine.qeSnap
  exact .setQe h

theorem State.MemOk.doQeEnable {q : Req} {n : Fin 4} {v : BitVec 48} (h : s.MemOk) : (doQeEnable q n v s).MemOk := by
  unfold Machine.doQeEnable
  exact .dictWrite h (fun _ hs => .ite (.qeStop hs) (.ite hs (.qeStart hs)))

theorem State.MemOk.doQeRawrevClr {q : Req} {n : Fin 4} {v : BitVec 48} (h : s.MemOk) : (doQeRawrevClr q n v s).MemOk := by
  unfold Machine.doQeRawrevClr
  exact .dictWrite h (fun _ hs => .ite (.qeClrRawrev hs) hs)

/-! ### Fabric and mailboxes -/

theorem State.MemOk.mboxRecord {k : Nat} {words : List Word} (h : s.MemOk) : (s.mboxRecord k words).MemOk := by
  unfold State.mboxRecord
  exact .when (.setMb h) (fun _ hs => .raiseEv hs)

theorem State.MemOk.mboxAck {k : Nat} (h : s.MemOk) : (s.mboxAck k).MemOk := by
  unfold State.mboxAck
  exact .when (.setMb h) (fun _ hs => .raiseEv hs)

theorem State.MemOk.deliver {kind inst : Nat} {words : List Word} (h : s.MemOk) : (s.deliver kind inst words).MemOk := by
  unfold State.deliver
  exact .folds h (fun _ _ hs => .when hs (fun _ ht => .mboxRecord ht))

theorem State.MemOk.postRecord {k : Nat} {words : List Word} (h : s.MemOk) : (s.postRecord k words).MemOk := by
  unfold State.postRecord
  split
  · exact .mboxRecord (.mboxRecord h)
  · exact .mboxRecord h

theorem State.MemOk.releaseOn {src k : Nat} (h : s.MemOk) : (s.releaseOn src k).MemOk := h.of_eq rfl

theorem State.MemOk.setSrc {n : Nat} {v : Bool} (h : s.MemOk) : (s.setSrc n v).MemOk := h.of_eq rfl

theorem State.MemOk.sourceLevel {n : Nat} {v : Bool} (h : s.MemOk) : (s.sourceLevel n v).MemOk := by
  unfold State.sourceLevel
  extract_lets
  split
  · exact .ite (.condOn (.setSrc h)) (.condOff (.setSrc h))
  · exact .ite (.setSrc h) (.condOff (.setSrc h))

theorem State.MemOk.upPop {l ty : Nat} (h : s.MemOk) : (s.upPop l ty).MemOk := by
  unfold State.upPop
  exact .ite h (by
    extract_lets
    split
    · exact h
    · exact .setDl h)

theorem State.MemOk.satOver {l : Nat} {inAlarm uv : Bool} (h : s.MemOk) : (s.satOver l inAlarm uv).MemOk := by
  unfold State.satOver
  extract_lets s1
  have h1 : s1.MemOk := .ite h (.condOff (.condOff h))
  exact .ite h1 (.condOff h1)

end Sys2Proof.Machine
end

section
/-! SUPPORT. The lanes:
each step keeps the canonical form of the word memories. -/

namespace Sys2Proof.Machine

variable {s : State}

/-! ### Lanes -/

theorem State.MemOk.setResume {g : Nat} {v : Bool} (h : s.MemOk) : (s.setResume g v).MemOk := by
  unfold State.setResume
  exact .ite (.setLane h) (.setView h)

theorem State.MemOk.needResume {l : Nat} (h : s.MemOk) : (s.needResume l).MemOk := by
  unfold State.needResume
  exact .folds h (fun _ _ hs => .setResume hs)

theorem State.MemOk.dropCmds {l n : Nat} (h : s.MemOk) : (s.dropCmds l n).MemOk := by
  unfold State.dropCmds
  exact .setLane h

theorem State.MemOk.sendCmds {g : Nat} {cs : List LaneCmd} (h : s.MemOk) : (s.sendCmds g cs).MemOk := by
  unfold State.sendCmds
  exact .ite (.setLane h) (.dropCmds h)

theorem State.MemOk.sendHold {l : Nat} {side : BitVec 2} {mask : BitVec 4} {t : EdgeTime} (h : s.MemOk) :
    (s.sendHold l side mask t).MemOk := by
  unfold State.sendHold
  exact .ite (.setLane h) (.dropCmds h)

theorem State.MemOk.sendPrio {l : Nat} {side : BitVec 2} {mask : BitVec 4} {t : EdgeTime} (h : s.MemOk) :
    (s.sendPrio l side mask t).MemOk := by
  unfold State.sendPrio
  exact .ite (.setLane h) (.dropCmds h)

theorem State.MemOk.holdGens {prio : Bool} {gs : List Nat} {side : BitVec 2} {t : EdgeTime} (h : s.MemOk) :
    (s.holdGens prio gs side t).MemOk := by
  unfold State.holdGens
  exact .folds h (fun _ _ hs => .ite (.sendPrio hs) (.sendHold hs))

theorem State.MemOk.sdSource {f : Nat} {v : Bool} (h : s.MemOk) : (s.sdSource f v).MemOk := by
  unfold State.sdSource
  exact .ite h (.sourceLevel (.setSd h))

theorem State.MemOk.sdRelease {f : Nat} (h : s.MemOk) : (s.sdRelease f).MemOk := by
  unfold State.sdRelease
  exact .ite h (.sdSource (.setSd h))

theorem State.MemOk.laneTo {l : Nat} {st : LaneSt} (h : s.MemOk) : (s.laneTo l st).MemOk := by
  unfold State.laneTo
  exact .when (.when (.setLane h) (fun _ hs => .raiseEv hs)) (fun _ hs => .sdRelease hs)

theorem State.MemOk.killSent {l : Nat} (h : s.MemOk) : (s.killSent l).MemOk := by
  unfold State.killSent
  exact .ite h (.needResume (.setLane h))

theorem State.MemOk.killLane {l : Nat} (h : s.MemOk) : (s.killLane l).MemOk := by
  unfold State.killLane
  exact .ite h (.killSent (.setLane h))

theorem State.MemOk.doLaneKill {l : Fin 36} (h : s.MemOk) : (doLaneKill l s).MemOk := by
  unfold Machine.doLaneKill
  exact .killLane h

theorem State.MemOk.doKillEnd {l : Fin 36} (h : s.MemOk) : (doKillEnd l s).MemOk := by
  unfold Machine.doKillEnd
  exact .ite h (.setLane h)

theorem State.MemOk.sendItem {l level : Nat} {pre : List LChar} (h : s.MemOk) : (s.sendItem l level pre).MemOk := by
  unfold State.sendItem
  extract_lets
  split
  · split
    · exact .setLane h
    · exact h
  · split
    · exact .ite (.limited (.setLane h)) (.setLane h)
    · exact h
  · exact .setLane (.placeEdge h)
  · split
    · exact .setLane h
    · exact h
  · split
    · exact .setLane h
    · exact h
  · split
    · exact .setLane h
    · exact h
  · exact .setLane h

theorem State.MemOk.doLaneTransmit {l : Fin 36} (h : s.MemOk) : (doLaneTransmit l s).MemOk := by
  unfold Machine.doLaneTransmit
  exact .ite h (.ite (.setLane h) (.ite (.setLane h) (by
    extract_lets
    split
    · exact .sendItem (.setLane h)
    · exact .sendItem h)))

theorem State.MemOk.laneClear {l : Nat} (h : s.MemOk) : (s.laneClear l).MemOk := by
  unfold State.laneClear
  exact .folds h (fun _ _ hs => .condOff hs)

theorem State.MemOk.waitEnd {w : CfgWait} {ok : Bool} (h : s.MemOk) : (s.waitEnd w ok).MemOk := by
  unfold State.waitEnd
  extract_lets
  split
  · exact .ite (.respond (h.of_eq rfl)) (.keepWrite (h.of_eq rfl))
  · exact .refuse (.putKey (.when (h.of_eq rfl) (fun _ hs => .setCw hs)))

theorem State.MemOk.waitsEnd {l : Nat} {ok : Bool} (h : s.MemOk) : (s.waitsEnd l ok).MemOk := by
  unfold State.waitsEnd
  exact .folds h (fun _ _ hs => .waitEnd hs)

theorem State.MemOk.trainFail {l cause : Nat} (h : s.MemOk) : (s.trainFail l cause).MemOk := by
  unfold State.trainFail
  extract_lets _ _ _ s1
  have h1 : s1.MemOk := .waitsEnd (.laneTo (.setLane h))
  split
  · exact .endJob (.condOn h1)
  · exact .condOn h1

theorem State.MemOk.sendTrainReq {l : Nat} (h : s.MemOk) : (s.sendTrainReq l).MemOk := by
  unfold State.sendTrainReq
  exact .setLane h

theorem State.MemOk.sendTrainSet {l : Nat} (h : s.MemOk) : (s.sendTrainSet l).MemOk := by
  unfold State.sendTrainSet
  exact .setLane h

theorem State.MemOk.sendCfg {l : Nat} (h : s.MemOk) : (s.sendCfg l).MemOk := by
  unfold State.sendCfg
  exact .setLane h

theorem State.MemOk.trainDone {l : Nat} (h : s.MemOk) : (s.trainDone l).MemOk := by
  unfold State.trainDone
  extract_lets _ _ s1 _ s2
  have h1 : s1.MemOk := by
    unfold s1
    exact .waitsEnd (.laneClear (.needResume (.laneTo (.setLane h))))
  have h2 : s2.MemOk := by
    unfold s2
    exact .ite (.condOn h1) (.condOff h1)
  split
  · exact .endJob h2
  · exact h2

theorem State.MemOk.trainBegin {l k : Nat} (h : s.MemOk) : (s.trainBegin l k).MemOk := by
  unfold State.trainBegin
  exact .ite (.sendTrainReq (.tick (.setLane (.setLane h)))) (.ite (.ite (.trainFail (.setLane h)) (.sendTrainSet (.setLane h)))
      (.ite (.setLane (.setLane h)) (.ite (.ite (by
        extract_lets _ s1
        have h1 : s1.MemOk := by
          unfold s1
          exact .laneClear (.laneTo (.setLane (.setLane h)))
        split
        · exact .endJob h1
        · exact h1)
          (.setLane (.setLane h)))
          (.ite (.sendCfg (.setLane (.setLane h)))
              (.ite (.ite (.setLane (.setLane h)) (.setLane (.setLane h))) (.ite (.trainDone (.setLane h)) (.setLane h)))))))

theorem State.MemOk.trainStep {l : Nat} (h : s.MemOk) : (s.trainStep l).MemOk := by
  unfold State.trainStep
  exact .ite (.trainBegin (.withFlt (.ite h (.laneTo h)))) (.ite (.trainBegin h) h)

theorem State.MemOk.redeliver {l mask : Nat} (h : s.MemOk) : (s.redeliver l mask).MemOk := by
  unfold State.redeliver
  exact .ite (.trainBegin (.setLane h)) (.ite (.trainBegin h) (.setLane h))

theorem State.MemOk.linkWakes {l : Nat} (h : s.MemOk) : (s.linkWakes l).MemOk := by
  unfold State.linkWakes
  exact .ite h (.setDl h)

theorem State.MemOk.startTrain {l : Nat} (h : s.MemOk) : (s.startTrain l).MemOk := by
  unfold State.startTrain
  exact .linkWakes (.laneTo (.setLane h))

theorem State.MemOk.doReceiverLock {l : Fin 36} (h : s.MemOk) : (doReceiverLock l s).MemOk := by
  unfold Machine.doReceiverLock
  exact .ite (.setRx (.setLane h)) h

theorem State.MemOk.upFrame {l ty : Nat} {payload : List Byte} {fcs : BitVec 16} {f : State → State} (h : s.MemOk)
    (hf : ∀ s, s.MemOk → (f s).MemOk) :
    (s.upFrame l ty payload fcs f).MemOk := by
  unfold State.upFrame
  exact .ite (hf _ (.setRx (.upPop h))) (.setLane (.setRx (.upPop h)))

theorem State.MemOk.doTrainRsp {l : Fin 36} {genMax : BitVec 8} {nonce : BitVec 16} {satId : Word} {serial : BitVec 48} {caps : Word}
    {fcs : BitVec 16} (h : s.MemOk) :
    (doTrainRsp l genMax nonce satId serial caps fcs s).MemOk := by
  unfold Machine.doTrainRsp
  exact .upFrame h (fun _ hs => .ite (.setLane hs) hs)

theorem State.MemOk.doTrainAck {l : Fin 36} {gen : BitVec 8} {nonce fcs : BitVec 16} (h : s.MemOk) :
    (doTrainAck l gen nonce fcs s).MemOk := by
  unfold Machine.doTrainAck
  exact .upFrame h (fun _ hs => .ite (.setLane hs) hs)

theorem State.MemOk.testUp {l : Nat} {ok : Bool} {payload : List Byte} (h : s.MemOk) : (s.testUp l ok payload).MemOk := by
  unfold State.testUp
  exact .ite (.ite (.setLane h) (.trainFail h)) h

theorem State.MemOk.doTest {l : Fin 36} {upstream : Bool} {payload : List Byte} {fcs : BitVec 16} (h : s.MemOk) :
    (doTest l upstream payload fcs s).MemOk := by
  unfold Machine.doTest
  exact .ite (.testUp (.upFrame h (fun _ hs => hs))) (.ite (.setDl h) h)

theorem State.MemOk.cfgAnswer {l : Nat} {addr : BitVec 8} {refused : Bool} {data : List Word} (h : s.MemOk) :
    (s.cfgAnswer l addr refused data).MemOk := by
  unfold State.cfgAnswer
  exact .ite (.ite (.ite (.sendCfg (.setLane h)) (.trainFail h)) (.setLane h)) (by
    split
    · exact .ite (.waitEnd h) (.ite h (.waitEnd h))
    · exact .ite (.endJob h) (by
        split
        · exact .endJob (.of_put (.setLane h))
        · exact h)
    · exact h)

theorem State.MemOk.doCfgRsp {l : Fin 36} {addr : BitVec 8} {refused : Bool} {data : List Word} {fcs : BitVec 16} {cnt : BitVec 3} (h : s.MemOk) :
    (doCfgRsp l addr refused data fcs cnt s).MemOk := by
  unfold Machine.doCfgRsp
  exact .upFrame h (fun _ hs => .cfgAnswer hs)

theorem State.MemOk.doTrainStepTimeout {l : Fin 36} (h : s.MemOk) : (doTrainStepTimeout l s).MemOk := by
  unfold Machine.doTrainStepTimeout
  exact .ite h
      (.ite (.trainFail h)
          (.ite (.ite (.sendTrainReq (.setLane h)) (.trainFail h))
              (.ite (.ite (.sendTrainSet (.setLane h)) (.trainFail h))
                  (.ite (.trainFail h)
                      (.ite (.trainFail h) (.ite (.ite (.sendCfg (.setLane h)) (.trainFail h)) (.ite (.setLane h) (.trainFail h))))))))

theorem State.MemOk.retrainBegin {l : Nat} (h : s.MemOk) : (s.retrainBegin l).MemOk := by
  unfold State.retrainBegin
  exact .of_report (.linkWakes (.laneTo (.setLane (.killSent h))))

theorem State.MemOk.retrainOwn {l : Nat} (h : s.MemOk) : (s.retrainOwn l).MemOk := by
  unfold State.retrainOwn
  exact .startOwnJob (.retrainBegin h)

theorem State.MemOk.retrainTrigger {l : Nat} (h : s.MemOk) : (s.retrainTrigger l).MemOk := by
  unfold State.retrainTrigger
  exact .ite h (.ite (.condOn (.laneTo (.setLane h))) (.retrainOwn (.setLane h)))

theorem State.MemOk.doRetrain {l : Fin 36} (h : s.MemOk) : (doRetrain l s).MemOk := by
  unfold Machine.doRetrain
  exact .retrainTrigger h

theorem State.MemOk.doLaneLost {l : Fin 36} (h : s.MemOk) : (doLaneLost l s).MemOk := by
  unfold Machine.doLaneLost
  exact .ite (.retrainTrigger (.ite (.condOn h) (.setLane h))) h

theorem State.MemOk.commaSeen {l : Nat} {seen : Bool} (h : s.MemOk) : (s.commaSeen l seen).MemOk := by
  unfold State.commaSeen
  exact .when (.setRx h) (fun _ hs => .retrainTrigger hs)

theorem State.MemOk.doLaneMisaligned {l : Fin 36} (h : s.MemOk) : (doLaneMisaligned l s).MemOk := by
  unfold Machine.doLaneMisaligned
  exact .commaSeen (.setRx h)

theorem State.MemOk.codeError {l : Nat} (h : s.MemOk) : (s.codeError l).MemOk := by
  unfold State.codeError
  exact .ite (by
    extract_lets _ _ s1
    have h1 : s1.MemOk := .limited (.setLane h)
    exact .ite (.retrainTrigger h1) h1)
      (.ite (.trainFail (.setLane h)) (.setLane h))

theorem State.MemOk.volleyLoss {l : Nat} (h : s.MemOk) : (s.volleyLoss l).MemOk := by
  unfold State.volleyLoss
  exact .retrainTrigger (.ite (.condOn (.setLane h)) (.setLane h))

theorem State.MemOk.doVolleyExchange {l : Fin 36} (h : s.MemOk) : (doVolleyExchange l s).MemOk := by
  unfold Machine.doVolleyExchange
  exact .ite h (.setLane h)

theorem State.MemOk.volleyRep {l : Nat} {seq : BitVec 6} {r1 s2 t4 : EdgeTime} (h : s.MemOk) : (s.volleyRep l seq r1 s2 t4).MemOk := by
  unfold State.volleyRep
  extract_lets
  split
  · exact h
  · exact .ite h
        (.ite (.ite (.setLane h) (.ite (.trainFail (.setLane h)) (.setLane h))) (.ite (.ite (.volleyLoss (.setLane h)) (.setLane h)) (.setLane h)))

theorem State.MemOk.doVolleyRep {l : Fin 36} {seq : BitVec 6} {r1 s2 t4 : EdgeTime} {fcs : BitVec 16} (h : s.MemOk) :
    (doVolleyRep l seq r1 s2 t4 fcs s).MemOk := by
  unfold Machine.doVolleyRep
  exact .upFrame h (fun _ hs => .volleyRep hs)

theorem State.MemOk.doVolleyMiss {l : Fin 36} (h : s.MemOk) : (doVolleyMiss l s).MemOk := by
  unfold Machine.doVolleyMiss
  exact .ite h (.ite (.ite (.volleyLoss (.setLane h)) (.setLane h)) (.ite (.ite (.trainFail (.setLane h)) (.setLane h)) (.setLane h)))

theorem State.MemOk.telemetry {l ty bit : Nat} {words : List Word} (h : s.MemOk) : (s.telemetry l ty bit words).MemOk := by
  unfold State.telemetry
  exact .ite (.raiseEv (.deliver h)) h

theorem State.MemOk.doSatAlarm {l : Fin 36} (h : s.MemOk) : (doSatAlarm l s).MemOk := by
  unfold Machine.doSatAlarm
  exact .ite h (.ite (.setSrc (.setLane h)) (.setLane h))

theorem State.MemOk.alarmEnd {l : Nat} (h : s.MemOk) : (s.alarmEnd l).MemOk := by
  unfold State.alarmEnd
  exact .ite (.setSrc (.setLane h)) (.setLane h)

theorem State.MemOk.alarmAwait {l code : Nat} (h : s.MemOk) : (s.alarmAwait l code).MemOk := by
  unfold State.alarmAwait
  exact .ite (.setLane h) (.alarmEnd h)

theorem State.MemOk.alarmRecorded {code : Nat} (h : s.MemOk) : (s.alarmRecorded code).MemOk := by
  unfold State.alarmRecorded
  exact .ite (.alarmEnd h) h

theorem State.MemOk.stpHold {g : Nat} (h : s.MemOk) : (s.stpHold g).MemOk := by
  unfold State.stpHold
  exact .sendPrio (.setGen h)

theorem State.MemOk.doAlarmTimeout {l : Fin 36} (h : s.MemOk) : (doAlarmTimeout l s).MemOk := by
  unfold Machine.doAlarmTimeout
  exact .ite (.alarmAwait (.of_report (.tick (.setLane h)))) h

theorem State.MemOk.confirmOff {o : Nat} (h : s.MemOk) : (s.confirmOff o).MemOk := h.of_eq rfl

theorem State.MemOk.trainStatus {l : Nat} {crc : BitVec 16} (h : s.MemOk) : (s.trainStatus l crc).MemOk := by
  unfold State.trainStatus
  exact .ite (.ite (.setLane h) (.ite (.setLane h) (.trainFail h))) h

theorem State.MemOk.statusExt {l : Nat} {w0 w1 w2 w3 : Word} (h : s.MemOk) : (s.statusExt l w0 w1 w2 w3).MemOk := by
  unfold State.statusExt
  exact .when (.satOver (.when (.setGen (.setLane h)) (fun _ hs => .raiseEv hs))) (fun _ hs => .confirmOff hs)

theorem State.MemOk.setLinkLoss {b : Nat} {v : Bool} (h : s.MemOk) : (s.setLinkLoss b v).MemOk := by
  unfold State.setLinkLoss
  exact .ite h (.raiseEv (h.of_eq rfl))

theorem State.MemOk.statusLink {l : Nat} {w0 w1 w2 w3 : Word} (h : s.MemOk) : (s.statusLink l w0 w1 w2 w3).MemOk := by
  unfold State.statusLink
  exact .when (.when (.setLinkLoss (.when (.setGen (.setView (.setLane h))) (fun _ hs => .raiseEv hs))) (fun _ hs => .condOff hs))
      (fun _ hs => .confirmOff hs)

theorem State.MemOk.doStatusFrame {l : Fin 36} {w0 w1 w2 w3 : Word} {fcs : BitVec 16} (h : s.MemOk) :
    (doStatusFrame l w0 w1 w2 w3 fcs s).MemOk := by
  unfold Machine.doStatusFrame
  exact .upFrame h (fun _ hs => .ite (.telemetry (.trainStatus (.statusExt hs))) (.ite hs (.trainStatus (.statusLink hs))))

theorem State.MemOk.doEdgeTele {l : Fin 36} {w0 w1 w2 : Word} {fcs : BitVec 16} (h : s.MemOk) :
    (doEdgeTele l w0 w1 w2 fcs s).MemOk := by
  unfold Machine.doEdgeTele
  exact .upFrame h (fun _ hs => .ite (.telemetry (.setLane hs)) (.ite hs (.setView hs)))

theorem State.MemOk.doTadpoleHoldOff {l : Fin 36} (h : s.MemOk) : (doTadpoleHoldOff l s).MemOk := by
  unfold Machine.doTadpoleHoldOff
  exact .ite (.dropCmds h) (.ite (.setLane h) h)

theorem State.MemOk.laneOff {l : Nat} (h : s.MemOk) : (s.laneOff l).MemOk := by
  unfold State.laneOff
  extract_lets s1
  have h1 : s1.MemOk := by
    unfold s1
    split
    · exact .endJob h
    · exact h
  exact .laneClear (.laneTo (.setLane h1))

theorem State.MemOk.laneOn {l : Nat} (h : s.MemOk) : (s.laneOn l).MemOk := by
  unfold State.laneOn
  exact .ite h (.startOwnJob (.startTrain h))

theorem State.MemOk.doLaneEnable {q : Req} {l : Fin 32} {v : BitVec 48} (h : s.MemOk) : (doLaneEnable q l v s).MemOk := by
  unfold Machine.doLaneEnable
  exact .dictWrite h (fun _ hs => .ite (.laneOff hs) (.laneOn hs))

theorem State.MemOk.laneCmd {q : Req} {l v : Nat} (h : s.MemOk) : (s.laneCmd q l v).MemOk := by
  unfold State.laneCmd
  exact .dictJob h (fun _ hs => .ite (.startJob (.retrainBegin (.setLane hs))) (.startJob (.startTrain (.setLane hs))))

theorem State.MemOk.doTrain {q : Req} {l : Fin 32} (h : s.MemOk) : (doTrain q l s).MemOk := by
  unfold Machine.doTrain
  exact .laneCmd h

theorem State.MemOk.doRetrainCmd {q : Req} {l : Fin 32} (h : s.MemOk) : (doRetrainCmd q l s).MemOk := by
  unfold Machine.doRetrainCmd
  exact .laneCmd h

theorem State.MemOk.doSatRead {q : Req} {l : Fin 32} {addr : BitVec 48} (h : s.MemOk) : (doSatRead q l addr s).MemOk := by
  unfold Machine.doSatRead
  exact .dictJob h (fun _ hs => .startJob hs)

theorem State.MemOk.satReadStep {slot : Nat} {j : Job} (h : s.MemOk) : (s.satReadStep slot j).MemOk := by
  unfold State.satReadStep
  exact .ite (.ite (.setLane h) h) (.endJob h)

end Sys2Proof.Machine
end

section
/-! SUPPORT. The drivers:
each step keeps the canonical form of the word memories. -/

namespace Sys2Proof.Machine

variable {s : State}

/-! ### The P-die: half-bridges, banks and the downstream link -/

theorem State.MemOk.upSend {d ty : Nat} {words : List Word} (h : s.MemOk) : (s.upSend d ty words).MemOk := by
  unfold State.upSend
  exact .ite h (.setDl h)

theorem State.MemOk.bkEvents (h : s.MemOk) : (s.bkEvents o).MemOk := by
  unfold State.bkEvents
  exact .folds h (fun _ _ hs => .when hs (fun _ ht => .raiseEv ht))

theorem State.MemOk.setGvdd {v : Nat} (h : s.MemOk) : (s.setGvdd v).MemOk := by
  unfold State.setGvdd
  exact .bkEvents (h.of_eq rfl)

theorem State.MemOk.sendStatus {hb : Nat} (h : s.MemOk) : (s.sendStatus hb).MemOk := by
  unfold State.sendStatus
  exact .upSend h

theorem State.MemOk.dieWires (h : s.MemOk) : s.dieWires.MemOk := by
  unfold State.dieWires
  exact .setSrc (.setSrc (.setSrc h))

theorem State.MemOk.hbTo {hb : Nat} {x : Hb} (h : s.MemOk) : (s.hbTo hb x).MemOk := by
  unfold State.hbTo
  exact .when (.dieWires (.setHb h)) (fun _ hs => .sendStatus hs)

theorem State.MemOk.sendAlarm {d pos cause : Nat} (h : s.MemOk) : (s.sendAlarm d pos cause).MemOk := by
  unfold State.sendAlarm
  exact .upSend (.when h (fun _ hs => .setDl hs))

theorem State.MemOk.hbSafe {hb : Nat} (h : s.MemOk) : (s.hbSafe hb).MemOk := by
  unfold State.hbSafe
  exact .hbTo h

theorem State.MemOk.bankSafe {b : Nat} (h : s.MemOk) : (s.bankSafe b).MemOk := by
  unfold State.bankSafe
  exact .folds h (fun _ _ hs => .hbSafe hs)

theorem State.MemOk.raiseAlarm {hb cause : Nat} (h : s.MemOk) : (s.raiseAlarm hb cause).MemOk := by
  unfold State.raiseAlarm
  exact .ite (.ite (.setHb (.setDl h)) h) (.sendAlarm (.setHb h))

theorem State.MemOk.hbAlarmAs {hb : Nat} {y : Hb} {cause : Nat} (h : s.MemOk) : (s.hbAlarmAs hb y cause).MemOk := by
  unfold State.hbAlarmAs
  exact .raiseAlarm (.hbTo h)

theorem State.MemOk.hbAlarm {hb cause : Nat} (h : s.MemOk) : (s.hbAlarm hb cause).MemOk := by
  unfold State.hbAlarm
  exact .hbAlarmAs h

theorem State.MemOk.laneCause {d cause : Nat} (h : s.MemOk) : (s.laneCause d cause).MemOk := by
  unfold State.laneCause
  exact .sendAlarm (.bankSafe h)

theorem State.MemOk.setJob {slot : Nat} {j : Job} (h : s.MemOk) : (s.setJob slot j).MemOk := h.of_eq rfl

theorem State.MemOk.leaveTest {hb : Nat} (h : s.MemOk) : (s.leaveTest hb).MemOk := by
  unfold State.leaveTest
  exact .hbTo (.ite (.setHb h) h)

theorem State.MemOk.ostResult {slot hb r : Nat} (h : s.MemOk) : (s.ostResult slot hb r).MemOk := by
  unfold State.ostResult
  exact .endJob (.when (.when (.of_put h) (fun _ hs => .of_report hs)) (fun _ hs => .of_report hs))

theorem State.MemOk.ostEnd {slot hb r : Nat} (h : s.MemOk) : (s.ostEnd slot hb r).MemOk := by
  unfold State.ostEnd
  exact .ostResult (.leaveTest h)

theorem State.MemOk.ostAbort {hb : Nat} (h : s.MemOk) : (s.ostAbort hb).MemOk := by
  unfold State.ostAbort
  split
  · exact .ite (.ostEnd h) h
  · exact h

theorem State.MemOk.hkAsk {ch : Nat} (h : s.MemOk) : (s.hkAsk ch).MemOk := h.of_eq rfl

theorem State.MemOk.ostStep {slot : Nat} {j : Job} {obs : JobObs} (h : s.MemOk) : (s.ostStep slot j obs).MemOk := by
  unfold State.ostStep
  exact .ite (.ite (.ostResult h) (.ite (.ostResult h) (.setJob (.hbTo (.hkAsk (.hkAsk h))))))
      (.ite (.ite (.setJob (.hbTo (.setHb (.hkAsk (.hkAsk h))))) (.ostEnd h)) h)

theorem State.MemOk.doOstCmd {q : Req} {hb : Fin 12} (h : s.MemOk) : (doOstCmd q hb s).MemOk := by
  unfold Machine.doOstCmd
  exact .dictJob h (fun _ hs => .startJob hs)

theorem State.MemOk.doOstSettleEnd {hb : Fin 12} {_vb vsh vpeer : BitVec 24} (h : s.MemOk) :
    (doOstSettleEnd hb _vb vsh vpeer s).MemOk := by
  unfold Machine.doOstSettleEnd
  split
  · exact h
  · exact .ite (.ite (.ostEnd (.of_put h)) (.ite (.setJob (.hbTo (.hkAsk (.of_put h)))) (.ostEnd (.of_put h))))
        (.ite (.ite (.ostEnd (.of_put h)) (.ite (.setJob (.of_put h)) (.ostEnd (.of_put h))))
            (.ite (.ite (.ostEnd h) (.ite (.ostEnd h) (.ostEnd h))) h))

theorem State.MemOk.receive {d : Nat} {seq : BitVec 6} {f : State → State} (h : s.MemOk) (hf : ∀ s, s.MemOk → (f s).MemOk) :
    (s.receive d seq f).MemOk := by
  unfold State.receive
  exact .ite (.laneCause (.setDl h)) (hf _ (.setDl h))

theorem State.MemOk.sendTele {hb : Nat} {high on missed : Bool} {prof : BitVec 2} {seq : BitVec 6} (h : s.MemOk) :
    (s.sendTele hb high on missed prof seq).MemOk := by
  unfold State.sendTele
  exact .tick (.tick (.upSend h))

theorem State.MemOk.sideOff {hb : Nat} {high : Bool} {prof : BitVec 2} {seq : BitVec 6} (h : s.MemOk) :
    (s.sideOff hb high prof seq).MemOk := by
  unfold State.sideOff
  exact .ite (.sendTele h) (.sendTele (.hbTo h))

theorem State.MemOk.interlock {hb : Nat} (h : s.MemOk) : (s.interlock hb).MemOk := by
  unfold State.interlock
  exact .raiseAlarm (.bump (.hbTo h))

theorem State.MemOk.sideOn {hb : Nat} {high : Bool} {prof : BitVec 2} {seq : BitVec 6} (h : s.MemOk) :
    (s.sideOn hb high prof seq).MemOk := by
  unfold State.sideOn
  exact .ite h (.ite (.interlock h) (.sendTele (.hbTo h)))

theorem State.MemOk.enqueue {hb : Nat} {es : List QEdge} (h : s.MemOk) : (s.enqueue hb es).MemOk := by
  unfold State.enqueue
  exact .ite (.laneCause h) (.setHb h)

theorem State.MemOk.doEdgeOn {d : Fin 4} {side : BitVec 2} {prof : BitVec 4} {seq : BitVec 6} {t : EdgeTime} (h : s.MemOk) :
    (doEdgeOn d side prof seq t s).MemOk := by
  unfold Machine.doEdgeOn
  exact .receive h
      (fun _ hs => .ite (.laneCause hs)
          (.ite hs (.ite (.laneCause hs) (.ite (.sendAlarm (.hbSafe hs)) (.ite hs (.ite (.enqueue hs) (.sendTele (.setDl hs))))))))

theorem State.MemOk.doEdgeOff {d : Fin 4} {side : BitVec 2} {prof : BitVec 4} {seq : BitVec 6} {t : EdgeTime} (h : s.MemOk) :
    (doEdgeOff d side prof seq t s).MemOk := by
  unfold Machine.doEdgeOff
  exact .receive h
      (fun _ hs => .ite (.laneCause hs) (.ite hs (.ite (.laneCause hs) (.ite hs (.ite (.enqueue hs) (.folds hs (fun _ _ ht => .sideOff ht)))))))

theorem State.MemOk.holdOne {hb : Nat} {high low : Bool} {a : Int} {ahead : Bool} (h : s.MemOk) :
    (s.holdOne hb high low a ahead).MemOk := by
  unfold State.holdOne
  exact .ite h (.hbTo h)

theorem State.MemOk.doHoldOff {d : Fin 4} {side : BitVec 2} {prof : BitVec 4} {seq : BitVec 6} {t : EdgeTime} (h : s.MemOk) :
    (doHoldOff d side prof seq t s).MemOk := by
  unfold Machine.doHoldOff
  exact .receive h (fun _ hs => .ite (.laneCause hs) (.ite hs (.ite (.laneCause hs) (.ite hs (.folds hs (fun _ _ ht => .ite (.holdOne ht) ht))))))

theorem State.MemOk.doProfileSet {d : Fin 4} {side : BitVec 2} {prof : BitVec 4} {seq : BitVec 6} {t : EdgeTime} (h : s.MemOk) :
    (doProfileSet d side prof seq t s).MemOk := by
  unfold Machine.doProfileSet
  exact .receive h (fun _ hs => .ite (.laneCause hs) (.ite (.withDrv (.hbSafe hs)) hs))

theorem State.MemOk.doResume {d : Fin 4} {side : BitVec 2} {prof : BitVec 4} {seq : BitVec 6} {t : EdgeTime} (h : s.MemOk) :
    (doResume d side prof seq t s).MemOk := by
  unfold Machine.doResume
  exact .receive h (fun _ hs => .ite (.laneCause hs) (.ite hs (.ite (.laneCause hs) (.ite (.hbTo (.ostAbort hs)) hs))))

theorem State.MemOk.doMark {d : Fin 4} {side : BitVec 2} {_prof : BitVec 4} {seq : BitVec 6} {t : EdgeTime} (h : s.MemOk) :
    (doMark d side _prof seq t s).MemOk := by
  unfold Machine.doMark
  exact .receive h (fun _ hs => .ite hs (.ite hs (.bankSafe (.setDl hs))))

theorem State.MemOk.doVolley {d : Fin 4} {side : BitVec 2} {_prof : BitVec 4} {seq : BitVec 6} {_t : EdgeTime} (h : s.MemOk) :
    (doVolley d side _prof seq _t s).MemOk := by
  unfold Machine.doVolley
  exact .receive h (fun _ hs => .ite hs (.tick (.upSend (.setDl hs))))

theorem State.MemOk.applyAdj {d : Nat} (h : s.MemOk) : (s.applyAdj d).MemOk := by
  unfold State.applyAdj
  exact .ite h (.setDl h)

theorem State.MemOk.doTimeAdj {d : Fin 4} {side : BitVec 2} {_prof : BitVec 4} {seq : BitVec 6} {t : EdgeTime} (h : s.MemOk) :
    (doTimeAdj d side _prof seq t s).MemOk := by
  unfold Machine.doTimeAdj
  exact .receive h (fun _ hs => .ite hs (.ite (.setDl hs) (.ite (.laneCause hs) (.applyAdj (.setDl hs)))))

theorem State.MemOk.doNopCommand {d : Fin 4} {w : BitVec 48} (h : s.MemOk) : (doNopCommand d w s).MemOk := by
  unfold Machine.doNopCommand
  exact .ite (.receive h (fun _ hs => .setDl hs)) h

theorem State.MemOk.doEdgeExecute {hb : Fin 12} (h : s.MemOk) : (doEdgeExecute hb s).MemOk := by
  unfold Machine.doEdgeExecute
  extract_lets
  split
  · exact h
  · exact .applyAdj (.ite (.ite (.setHb h) (.sideOn (.setHb h))) (.sideOff (.setHb h)))

theorem State.MemOk.doHoldEnd {hb : Fin 12} {high : Bool} (h : s.MemOk) : (doHoldEnd hb high s).MemOk := by
  unfold Machine.doHoldEnd
  exact .setHb h

theorem State.MemOk.doHoldTimeout {hb : Fin 12} (h : s.MemOk) : (doHoldTimeout hb s).MemOk := by
  unfold Machine.doHoldTimeout
  exact .ite (.laneCause h) h

theorem State.MemOk.doKillReceived {d : Fin 4} (h : s.MemOk) : (doKillReceived d s).MemOk := by
  unfold Machine.doKillReceived
  exact .bankSafe h

theorem State.MemOk.doLinkActivityLoss {d : Fin 4} (h : s.MemOk) : (doLinkActivityLoss d s).MemOk := by
  unfold Machine.doLinkActivityLoss
  exact .setDl (.bankSafe h)

theorem State.MemOk.bankWireTo {b : Nat} {v : Bool} (h : s.MemOk) : (s.bankWireTo b v).MemOk := by
  unfold State.bankWireTo
  exact .when (.ite h (.raiseEv (h.of_eq rfl))) (fun _ hs => .bankSafe hs)

theorem State.MemOk.doBankOff {b : Fin 4} {on : Bool} (h : s.MemOk) : (doBankOff b on s).MemOk := by
  unfold Machine.doBankOff
  exact .bankWireTo h

theorem State.MemOk.doKillInput (h : s.MemOk) : (doKillInput s).MemOk := by
  unfold Machine.doKillInput
  dsimp only
  exact .condOn (.folds (.folds (.setSrc (h.of_eq rfl)) (fun _ _ hs => .bankWireTo hs)) (fun _ _ hs => .killLane hs))

theorem State.MemOk.doKillRelease (h : s.MemOk) : (doKillRelease s).MemOk := by
  unfold Machine.doKillRelease
  exact .condOff (.folds (.setSrc (h.of_eq rfl)) (fun _ _ hs => .bankWireTo hs))

theorem State.MemOk.doHoldSwitchClamp {hb : Fin 12} {high : Bool} (h : s.MemOk) : (doHoldSwitchClamp hb high s).MemOk := by
  unfold Machine.doHoldSwitchClamp
  exact .setHb h

theorem State.MemOk.doHbStp {hb : Fin 12} (h : s.MemOk) : (doHbStp hb s).MemOk := by
  unfold Machine.doHbStp
  exact .interlock h

theorem State.MemOk.doHbGateFault {hb : Fin 12} {high : Bool} (h : s.MemOk) : (doHbGateFault hb high s).MemOk := by
  unfold Machine.doHbGateFault
  exact .hbAlarmAs h

theorem State.MemOk.doHbVds {hb : Fin 12} {high : Bool} (h : s.MemOk) : (doHbVds hb high s).MemOk := by
  unfold Machine.doHbVds
  exact .ite (.bump (.hbAlarm (.setHb h))) h

theorem State.MemOk.doHbBstWarn {hb : Fin 12} {on : Bool} (h : s.MemOk) : (doHbBstWarn hb on s).MemOk := by
  unfold Machine.doHbBstWarn
  exact .ite (.condOff (.hbTo h)) (.ite (.hbTo h) (.condEvery (.bump (.hbTo h))))

theorem State.MemOk.doHbBstUv {hb : Fin 12} (h : s.MemOk) : (doHbBstUv hb s).MemOk := by
  unfold Machine.doHbBstUv
  exact .ite h (by
    extract_lets _ s1
    have h1 : s1.MemOk := .bump (.dieWires (.setHb h))
    exact .ite (.hbSafe h1) (.ite (.hbAlarm h1) h1))

theorem State.MemOk.doBstUvRelease {hb : Fin 12} (h : s.MemOk) : (doBstUvRelease hb s).MemOk := by
  unfold Machine.doBstUvRelease
  exact .condOff (.dieWires (.setHb h))

theorem State.MemOk.doGvddRampDone (h : s.MemOk) : (doGvddRampDone s).MemOk := by
  unfold Machine.doGvddRampDone
  exact .ite (.setGvdd h) h

theorem State.MemOk.doGvddOverload {load : BitVec 16} (h : s.MemOk) : (doGvddOverload load s).MemOk := by
  unfold Machine.doGvddOverload
  exact .ite (.condOn (.when (.of_put h) (fun _ hs => .setGvdd hs))) (.condOff (.when (.of_put h) (fun _ hs => .setGvdd hs)))

theorem State.MemOk.gvddOff (h : s.MemOk) : s.gvddOff.MemOk := by
  unfold State.gvddOff
  exact .setGvdd (.folds h (fun _ _ hs => .bankSafe hs))

theorem State.MemOk.alarmSent {l : Nat} (h : s.MemOk) : (s.alarmSent l).MemOk := by
  unfold State.alarmSent
  exact .ite h (by
    split
    · exact h
    · exact .ite h (.hbTo h))

theorem State.MemOk.alarmFrame {l : Nat} {w0 w1 : Word} (h : s.MemOk) : (s.alarmFrame l w0 w1).MemOk := by
  unfold State.alarmFrame
  extract_lets _ _ _ _ _ _ _ s1 _ s2
  have h1 : s1.MemOk := .ite (.setLane h) (.setView (.setLane h))
  have h2 : s2.MemOk := .when (.ite (.ite (.condOn (.setLane h)) (.of_report (.setLane h))) (.ite (.condOn h1) (.of_report h1)))
      (fun _ hs => .stpHold hs)
  exact .telemetry
      (.alarmAwait (.ite (.when h2 (fun _ hs => .needResume hs)) (.ite (.needResume h2) (.when h2 (fun _ hs => .setResume hs)))))

theorem State.MemOk.doAlarm {l : Fin 36} {w0 w1 : Word} {fcs : BitVec 16} (h : s.MemOk) : (doAlarm l w0 w1 fcs s).MemOk := by
  unfold Machine.doAlarm
  exact .upFrame (.alarmSent h) (fun _ hs => .alarmFrame hs)

theorem State.MemOk.adcFlush {a : Nat} (h : s.MemOk) : (s.adcFlush a).MemOk := by
  unfold State.adcFlush
  exact .setAdc h

theorem State.MemOk.downFrame {d ty : Nat} {payload : List Byte} {fcs : BitVec 16} {f : State → State} (h : s.MemOk)
    (hf : ∀ s, s.MemOk → (f s).MemOk) :
    (s.downFrame d ty payload fcs f).MemOk := by
  unfold State.downFrame
  exact .ite (hf _ (.setDl h)) (.setDl (.setDl h))

theorem State.MemOk.trainAnswer {d : Nat} {nonce : BitVec 16} (h : s.MemOk) : (s.trainAnswer d nonce).MemOk := by
  unfold State.trainAnswer
  exact .tick (.tick (.tick (.tick (.upSend (.setDl (.adcFlush (.bankSafe h)))))))

theorem State.MemOk.doTrainReq {d : Fin 4} {genMax : BitVec 8} {nonce fcs : BitVec 16} (h : s.MemOk) :
    (doTrainReq d genMax nonce fcs s).MemOk := by
  unfold Machine.doTrainReq
  exact .downFrame h (fun _ hs => .trainAnswer hs)

theorem State.MemOk.doTrainSet {d : Fin 4} {gen : BitVec 8} {nonce fcs : BitVec 16} (h : s.MemOk) :
    (doTrainSet d gen nonce fcs s).MemOk := by
  unfold Machine.doTrainSet
  exact .downFrame h (fun _ hs => .ite (.upSend (.setDl hs)) hs)

theorem State.MemOk.cwForm {k : Nat} {above below : Bool} (h : s.MemOk) : (s.cwForm k above below).MemOk := by
  unfold State.cwForm
  exact .ite (.setCw h) (by
    extract_lets _ s1
    have h1 : s1.MemOk := .raiseEv (.setCw (.setCw h))
    exact .ite (.setSrc h1) (.sourceLevel h1))

theorem State.MemOk.cwTake {d a : Nat} (h : s.MemOk) : (s.cwTake d a).MemOk := by
  unfold State.cwTake
  exact .ite (.ite (.cwForm h) (.setCw h)) h

theorem State.MemOk.cfgWrite {d a : Nat} {data : List Word} (h : s.MemOk) : (s.cfgWrite d a data).MemOk := by
  unfold State.cfgWrite
  exact .ite (.upSend (.folds (.folds h (fun _ _ hs => .hbSafe (.ostAbort hs))) (fun _ _ hs => .cwTake (.setCfgWord hs)))) (.upSend h)

theorem State.MemOk.doCfgWr {d : Fin 4} {addr : BitVec 8} {data : List Word} {fcs : BitVec 16} (h : s.MemOk) :
    (doCfgWr d addr data fcs s).MemOk := by
  unfold Machine.doCfgWr
  exact .downFrame h (fun _ hs => .cfgWrite hs)

theorem State.MemOk.doCfgRd {d : Fin 4} {addr : BitVec 8} {count : Fin 8} {fcs : BitVec 16} (h : s.MemOk) :
    (doCfgRd d addr count fcs s).MemOk := by
  unfold Machine.doCfgRd
  exact .downFrame h (fun _ hs => .upSend hs)

end Sys2Proof.Machine
end

section
/-! SUPPORT. Acquisition, generators and faults:
each step keeps the canonical form of the word memories. -/

namespace Sys2Proof.Machine

variable {s : State}

/-! ### Acquisition -/

theorem State.MemOk.deliverSeq {ss flags : Nat} {time : Word} {results : List Word} (h : s.MemOk) :
    (s.deliverSeq ss flags time results).MemOk := by
  unfold State.deliverSeq
  exact .raiseEv (.deliver (.bump (h.of_eq rfl)))

theorem State.MemOk.deliverDropped {ss trig : Nat} {t : EdgeTime} (h : s.MemOk) : (s.deliverDropped ss trig t).MemOk := by
  unfold State.deliverDropped
  exact .deliverSeq h

theorem State.MemOk.trigFrame {a trig : Nat} {untimed : Bool} {t : EdgeTime} (h : s.MemOk) : (s.trigFrame a trig untimed t).MemOk := by
  unfold State.trigFrame
  exact .ite (.setLane h) h

theorem State.MemOk.sendTrig {a trig : Nat} {untimed : Bool} {t : EdgeTime} (h : s.MemOk) : (s.sendTrig a trig untimed t).MemOk := by
  unfold State.sendTrig
  split
  · exact h
  · exact .setAdc (.trigFrame h)

theorem State.MemOk.sendTrigAll {trig : Nat} {t : EdgeTime} (h : s.MemOk) : (s.sendTrigAll trig t).MemOk := by
  unfold State.sendTrigAll
  exact .folds h (fun _ _ hs => .sendTrig hs)

theorem State.MemOk.doFtTriggerSend {ft : Fin 16} (h : s.MemOk) : (doFtTriggerSend ft s).MemOk := by
  unfold Machine.doFtTriggerSend
  exact .sendTrigAll h

theorem State.MemOk.adswt {a swn : Nat} (h : s.MemOk) : (s.adswt a swn).MemOk := by
  unfold State.adswt
  exact .sendTrig h

theorem State.MemOk.dropTrig {a trig : Nat} (h : s.MemOk) : (s.dropTrig a trig).MemOk := by
  unfold State.dropTrig
  exact .ite h (.limited (.bump (.setAdc h)))

theorem State.MemOk.toQueue {a : Nat} {x : Trig} (h : s.MemOk) : (s.toQueue a x).MemOk := by
  unfold State.toQueue
  exact .ite (.of_put (.setAdc h)) (.ite h (.dropTrig (.setAdc h)))

theorem State.MemOk.enterTrig {a : Nat} {w : TrigWord} (h : s.MemOk) : (s.enterTrig a w).MemOk := by
  unfold State.enterTrig
  exact .ite (.toQueue h) (.ite (.dropTrig h) (.ite (.toQueue (.limited (.bump (.setAdc h)))) (.ite (.setAdc h) (.dropTrig (.setAdc h)))))

theorem State.MemOk.doAdcTrig {d : Fin 4} {trigs : List TrigWord} {fcs : BitVec 16} (h : s.MemOk) :
    (doAdcTrig d trigs fcs s).MemOk := by
  unfold Machine.doAdcTrig
  exact .downFrame h (fun _ hs => .folds hs (fun _ _ ht => .enterTrig ht))

theorem State.MemOk.doScheduleDue {a : Fin 4} (h : s.MemOk) : (doScheduleDue a s).MemOk := by
  unfold Machine.doScheduleDue
  extract_lets
  split
  · exact h
  · exact .toQueue (.setAdc h)

theorem State.MemOk.doSequenceStart {a : Fin 4} (h : s.MemOk) : (doSequenceStart a s).MemOk := by
  unfold Machine.doSequenceStart
  exact .ite h (by
    split
    · exact h
    · extract_lets
      split
      · exact h
      · exact .ite (.ite (.of_put (.bump (.setAdc h))) (.setAdc h)) (by
          split
          · exact .ite (.of_put (.bump (.setAdc h))) (.setAdc h)
          · exact .setAdc h))

theorem State.MemOk.upFirst {d : Nat} {words : List Word} (h : s.MemOk) : (s.upFirst d words).MemOk := by
  unfold State.upFirst
  exact .ite h (.setDl h)

theorem State.MemOk.sendRes {a : Nat} {r : SeqRun} {last : Bool} (h : s.MemOk) : (s.sendRes a r last).MemOk := by
  unfold State.sendRes
  exact .upFirst h

theorem State.MemOk.doAdcSlotEnd {a : Fin 4} {code : BitVec 16} (h : s.MemOk) : (doAdcSlotEnd a code s).MemOk := by
  unfold Machine.doAdcSlotEnd
  extract_lets
  split
  · exact h
  · exact .ite h (.ite (.setAdc (.sendRes h)) (.setAdc h))

theorem State.MemOk.doSequenceEnd {a : Fin 4} {code : BitVec 16} (h : s.MemOk) : (doSequenceEnd a code s).MemOk := by
  unfold Machine.doSequenceEnd
  extract_lets
  split
  · exact h
  · exact .ite h (.setAdc (.sendRes h))

theorem State.MemOk.adcResult {a : Nat} {w0 w1 w2 : Word} {results : List Word} (h : s.MemOk) :
    (s.adcResult a w0 w1 w2 results).MemOk := by
  unfold State.adcResult
  exact .ite (.setAdc h) (by
    extract_lets
    split
    · exact .setAdc h
    · exact .deliverSeq (.withAcq (.setAdc h)))

theorem State.MemOk.doAdcRes {a : Fin 4} {w0 w1 w2 : Word} {results : List Word} {fcs : BitVec 16} (h : s.MemOk) :
    (doAdcRes a w0 w1 w2 results fcs s).MemOk := by
  unfold Machine.doAdcRes
  exact .upFrame h (fun _ hs => .adcResult hs)

theorem State.MemOk.doAdcResultTimeout {a : Fin 4} {trig : BitVec 7} (h : s.MemOk) : (doAdcResultTimeout a trig s).MemOk := by
  unfold Machine.doAdcResultTimeout
  extract_lets
  split
  · exact h
  · exact .deliverDropped (.setAdc h)

theorem State.MemOk.sendHk {ch : Nat} {code : BitVec 12} (h : s.MemOk) : (s.sendHk ch code).MemOk := by
  unfold State.sendHk
  exact .upSend h

theorem State.MemOk.doHkConversion {code : BitVec 12} (h : s.MemOk) : (doHkConversion code s).MemOk := by
  unfold Machine.doHkConversion
  extract_lets
  split <;> exact .sendHk (h.of_eq rfl)

theorem State.MemOk.hkOne {w : Word} (h : s.MemOk) : (s.hkOne w).MemOk := by
  unfold State.hkOne
  exact .when (.withAcq (.of_put h)) (fun _ hs => .raiseEv hs)

theorem State.MemOk.doHkRes {w0 : Word} {results : List Word} {fcs : BitVec 16} (h : s.MemOk) : (doHkRes w0 results fcs s).MemOk := by
  unfold Machine.doHkRes
  exact .upFrame h (fun _ hs => .folds hs (fun _ _ ht => .hkOne ht))

theorem State.MemOk.sdBit {f : Nat} {fed : Bool} {b : Bool × Bool} (h : s.MemOk) : (s.sdBit f fed b).MemOk := by
  unfold State.sdBit
  exact .ite (.sdSource (.setSd h)) (.ite (.sdSource (.setSd h)) (.setSd h))

theorem State.MemOk.sdSlot {f : Nat} {bits : BitVec 8} {substituted : Bool} (h : s.MemOk) : (s.sdSlot f bits substituted).MemOk := by
  unfold State.sdSlot
  exact .when (.setSd (.folds h (fun _ _ hs => .sdBit hs))) (fun _ hs => .bump (.setSd hs))

theorem State.MemOk.doSdSlot {f : Fin 32} {bits : BitVec 8} {substituted : Bool} (h : s.MemOk) :
    (doSdSlot f bits substituted s).MemOk := by
  unfold Machine.doSdSlot
  exact .sdSlot (.setRx h)

theorem State.MemOk.deliverLg {g trig : Nat} {centred : Bool} {time : Nat} (h : s.MemOk) : (s.deliverLg g trig centred time).MemOk := by
  unfold State.deliverLg
  exact .raiseEv (.deliver (.bump (.setLg h)))

theorem State.MemOk.lgFire {g trig : Nat} (h : s.MemOk) : (s.lgFire g trig).MemOk := by
  unfold State.lgFire
  exact .ite h (.ite (.deliverLg h) (.setLg h))

theorem State.MemOk.lgFireAll {trig : Nat} (h : s.MemOk) : (s.lgFireAll trig).MemOk := by
  unfold State.lgFireAll
  exact .folds h (fun _ _ hs => .lgFire hs)

theorem State.MemOk.doSdLatchCentred {g : Fin 16} (h : s.MemOk) : (doSdLatchCentred g s).MemOk := by
  unfold Machine.doSdLatchCentred
  split
  · exact h
  · exact .deliverLg (.setLg h)

theorem State.MemOk.doCwWireChange {k : Fin 48} {above below : Bool} (h : s.MemOk) : (doCwWireChange k above below s).MemOk := by
  unfold Machine.doCwWireChange
  exact .cwForm h

theorem State.MemOk.sendCfgWord {d a : Nat} {ws : List Word} (h : s.MemOk) : (s.sendCfgWord d a ws).MemOk := by
  unfold State.sendCfgWord
  exact .ite (.setLane h) h

theorem State.MemOk.cwWithdraw {c : Nat} (h : s.MemOk) : (s.cwWithdraw c).MemOk := by
  unfold State.cwWithdraw
  exact .ite h (.setLane h)

theorem State.MemOk.cwThr {c : Nat} {v : Word} (h : s.MemOk) : (s.cwThr c v).MemOk := by
  unfold State.cwThr
  extract_lets _ _ _ _ _ s1
  have h1 : s1.MemOk := .setCw (.cwWithdraw h)
  exact .ite h1 (.sendCfgWord h1)

theorem State.MemOk.doCwthrApply {k : Fin 48} (h : s.MemOk) : (doCwthrApply k s).MemOk := by
  unfold Machine.doCwthrApply
  exact .ite (.setCfgWord (.setCw h)) h

theorem State.MemOk.cwMask {c : Nat} {v : Bool} (h : s.MemOk) : (s.cwMask c v).MemOk := by
  unfold State.cwMask
  exact .ite (.condOff (.setCw h)) (.sourceLevel (.setCw h))

theorem State.MemOk.cwCheckEnd {slot c r : Nat} (h : s.MemOk) : (s.cwCheckEnd slot c r).MemOk := by
  unfold State.cwCheckEnd
  extract_lets _ _ _ s1
  have h1 : s1.MemOk := .when (.when (.of_put (.when h (fun _ hs => .cwMask hs))) (fun _ hs => .sendCfgWord (.sendCfgWord hs)))
      (fun _ hs => .of_report hs)
  exact .raiseEv (.ite (.endJob h1) (.endJob h1))

theorem State.MemOk.cwSend {c n : Nat} (h : s.MemOk) : (s.cwSend c n).MemOk := by
  unfold State.cwSend
  exact .sendCfgWord (.sendCfgWord h)

theorem State.MemOk.cwCheckStep {slot : Nat} {j : Job} {obs : JobObs} (h : s.MemOk) : (s.cwCheckStep slot j obs).MemOk := by
  unfold State.cwCheckStep
  exact .ite (.ite (.setJob (.cwSend (.cwMask h))) (.cwCheckEnd h)) (.ite (.cwCheckEnd h) (.ite (.cwCheckEnd h) (.setJob (.cwSend h))))

theorem State.MemOk.doCwCheckCmd {q : Req} {k : Fin 48} (h : s.MemOk) : (doCwCheckCmd q k s).MemOk := by
  unfold Machine.doCwCheckCmd
  exact .dictJob h (fun _ hs => .startJob hs)

theorem State.MemOk.doCwReadback {code : Option (BitVec 16)} (h : s.MemOk) : (doCwReadback code s).MemOk := by
  unfold Machine.doCwReadback
  exact .ite h (by
    split
    · exact h
    · extract_lets _ s1
      have h1 : s1.MemOk := .trigFrame (.sendCfgWord h)
      split
      · exact h1
      · extract_lets _ _ _ _ s2
        have h2 : s2.MemOk := .of_put (.setCw (.withAcq h1))
        exact .ite (.condOn h2) (.ite (.condOff h2) h2))

theorem State.MemOk.cwLoad {c : Nat} (h : s.MemOk) : (s.cwLoad c).MemOk := by
  unfold State.cwLoad
  exact .setCw h

/-! ### Clusters and carriers -/

theorem State.MemOk.gatePins {g : Nat} {high low : Bool} (h : s.MemOk) : (s.gatePins g high low).MemOk := by
  unfold State.gatePins
  exact .ite h (.setGen h)

theorem State.MemOk.convertOne {c g : Nat} {x : ClSet} {p0 e : Nat} {on : Bool} (h : s.MemOk) : (s.convertOne c g x p0 e on).MemOk := by
  unfold State.convertOne
  exact .ite (.setGen h) (by
    extract_lets _ _ _ _ _ _ _ _ s1
    have h1 : s1.MemOk := .when (.putKey (.setGen h)) (fun _ hs => .bump hs)
    exact .ite (.sendCmds (.ite (.sendCmds (.setResume h1)) h1)) h1)

theorem State.MemOk.sendCompares {c : Nat} {x : ClSet} {p0 e : Nat} (h : s.MemOk) : (s.sendCompares c x p0 e).MemOk := by
  unfold State.sendCompares
  exact .folds h (fun _ _ hs => .ite (.ite hs (.sendTrigAll hs)) (.sendTrigAll (.ite hs (.sendTrigAll hs))))

theorem State.MemOk.reloadTail {c : Nat} (h : s.MemOk) : (s.reloadTail c).MemOk := by
  unfold State.reloadTail
  exact .releaseOn
      (.raiseEv (.sendCompares (.folds (.when h (fun _ hs => .folds (.holdGens hs) (fun _ _ ht => .gatePins ht))) (fun _ _ hs => .convertOne hs))))

theorem State.MemOk.startNow {c : Nat} (h : s.MemOk) : (s.startNow c).MemOk := by
  unfold State.startNow
  exact .reloadTail (.of_put (.setCl (.folds h (fun _ _ hs => .setGen hs))))

theorem State.MemOk.startCl {c : Nat} (h : s.MemOk) : (s.startCl c).MemOk := by
  unfold State.startCl
  exact .ite h (.ite (.setCl h) (.startNow h))

theorem State.MemOk.cutOutputs {c : Nat} (h : s.MemOk) : (s.cutOutputs c).MemOk := by
  unfold State.cutOutputs
  exact .folds (.holdGens h) (fun _ _ hs => .gatePins hs)

theorem State.MemOk.stopCl {c : Nat} (h : s.MemOk) : (s.stopCl c).MemOk := by
  unfold State.stopCl
  exact .setCl (.folds (.ite h (.cutOutputs h)) (fun _ _ hs => .setGen hs))

theorem State.MemOk.setOuten {c : Nat} {v : Bool} (h : s.MemOk) : (s.setOuten c v).MemOk := by
  unfold State.setOuten
  exact .setCl h

theorem State.MemOk.undoRefresh {g : Nat} (h : s.MemOk) : (s.undoRefresh g).MemOk := by
  unfold State.undoRefresh
  extract_lets
  split
  · exact .ite (.of_put (.setGen h)) h
  · exact h

theorem State.MemOk.latchCl {c : Nat} (h : s.MemOk) : (s.latchCl c).MemOk := by
  unfold State.latchCl
  exact .ite (.folds (.cutOutputs (.setCl h)) (fun _ _ hs => .undoRefresh hs)) h

theorem State.MemOk.tripNote {c : Nat} {is : List Nat} (h : s.MemOk) : (s.tripNote c is).MemOk := by
  unfold State.tripNote
  exact .ite (.setCl h) (.bump (.raiseEv (.setCl h)))

theorem State.MemOk.latchTrip {c : Nat} {is : List Nat} (h : s.MemOk) : (s.latchTrip c is).MemOk := by
  unfold State.latchTrip
  exact .ite h (.condOn (.latchCl (.tripNote h)))

theorem State.MemOk.cbc {c : Nat} {is : List Nat} (h : s.MemOk) : (s.cbc c is).MemOk := by
  unfold State.cbc
  dsimp only
  exact .ite h
      (.ite (.latchTrip h)
          (.ite
              (.of_report
                  (.latchCl
                      (.ite
                          (.when (.folds (.setCl (.tripNote h)) (fun _ _ hs => .gatePins (.setGen hs)))
                              (fun _ hs => .folds hs (fun _ _ ht => .undoRefresh ht)))
                          (.holdGens
                              (.when (.folds (.setCl (.tripNote h)) (fun _ _ hs => .gatePins (.setGen hs)))
                                  (fun _ hs => .folds hs (fun _ _ ht => .undoRefresh ht)))))))
              (.ite
                  (.when (.folds (.setCl (.tripNote h)) (fun _ _ hs => .gatePins (.setGen hs)))
                      (fun _ hs => .folds hs (fun _ _ ht => .undoRefresh ht)))
                  (.holdGens
                      (.when (.folds (.setCl (.tripNote h)) (fun _ _ hs => .gatePins (.setGen hs)))
                          (fun _ hs => .folds hs (fun _ _ ht => .undoRefresh ht)))))))

theorem State.MemOk.doCbcTrip {c : Fin 12} {inputs : BitVec 4} (h : s.MemOk) : (doCbcTrip c inputs s).MemOk := by
  unfold Machine.doCbcTrip
  exact .ite (.latchTrip h) (.cbc h)

theorem State.MemOk.doLatchTrip {c : Fin 12} {inputs : BitVec 4} (h : s.MemOk) : (doLatchTrip c inputs s).MemOk := by
  unfold Machine.doLatchTrip
  exact .latchTrip h

theorem State.MemOk.doBlankTimerExpiry {c : Fin 12} {b : Fin 2} (h : s.MemOk) : (doBlankTimerExpiry c b s).MemOk := by
  unfold Machine.doBlankTimerExpiry
  exact .setCl h

theorem State.MemOk.startBlank {g kind : Nat} (h : s.MemOk) : (s.startBlank g kind).MemOk := by
  unfold State.startBlank
  exact .setCl h

theorem State.MemOk.doEdgeTimeReached {g : Fin 48} {kind : Fin 4} (h : s.MemOk) : (doEdgeTimeReached g kind s).MemOk := by
  unfold Machine.doEdgeTimeReached
  exact .ite h (.startBlank h)

theorem State.MemOk.doEdgeTick {g : Fin 48} (h : s.MemOk) : (doEdgeTick g s).MemOk := by
  unfold Machine.doEdgeTick
  extract_lets
  split
  · exact h
  · exact .startBlank (.setGen (.ite h (.placeEdge h)))

theorem State.MemOk.commitGo {c : Nat} (h : s.MemOk) : (s.commitGo c).MemOk := by
  unfold State.commitGo
  exact .ite h (.setCl h)

theorem State.MemOk.rejectSet {c : Nat} {reason : BitVec 4} (h : s.MemOk) : (s.rejectSet c reason).MemOk := by
  unfold State.rejectSet
  exact .of_report (.bump (.setCl h))

theorem State.MemOk.doCommitRecognised {c : Fin 12} (h : s.MemOk) : (doCommitRecognised c s).MemOk := by
  unfold Machine.doCommitRecognised
  extract_lets _ _ s1
  have h1 : s1.MemOk := .when (.setCl h) (fun _ hs => .bump hs)
  split
  · exact h
  · exact .ite h1 (by
      extract_lets _ s2
      have h2 : s2.MemOk := .folds h1 (fun _ _ hs => .when hs (fun _ ht => .bump ht))
      exact .ite (.rejectSet h2) (.ite (.rejectSet h2) (.setCl (.when h2 (fun _ hs => .bump hs)))))

theorem State.MemOk.doCutoff {c : Fin 12} (h : s.MemOk) : (doCutoff c s).MemOk := by
  unfold Machine.doCutoff
  exact .ite h (by split <;> exact .setCl h)

theorem State.MemOk.doReload {c : Fin 12} (h : s.MemOk) : (doReload c s).MemOk := by
  unfold Machine.doReload
  exact .ite (.ite (.startNow h) h)
      (.cbc
          (.when (.reloadTail (.setCl (.when h (fun _ hs => .folds hs (fun _ _ ht => .setGen ht)))))
              (fun _ hs => .folds hs (fun _ _ ht => .undoRefresh ht))))

theorem State.MemOk.trigger {trig : Nat} (h : s.MemOk) : (s.trigger trig).MemOk := by
  unfold State.trigger
  exact .qeCapture (.lgFireAll h)

theorem State.MemOk.doTriggerFire {g : Fin 48} {d : Bool} (h : s.MemOk) : (doTriggerFire g d s).MemOk := by
  unfold Machine.doTriggerFire
  extract_lets
  split
  · exact h
  · exact .ite h (.trigger (.raiseEv h))

theorem State.MemOk.doRallyMeasure {line : Fin 48} {taps8 : BitVec 12} (h : s.MemOk) : (doRallyMeasure line taps8 s).MemOk := by
  unfold Machine.doRallyMeasure
  exact .ite (.setLine h) (.of_report (.bump (.setLine h)))

theorem State.MemOk.clockStart (h : s.MemOk) : s.clockStart.MemOk := h.of_eq rfl

theorem State.MemOk.loadPending {c : Nat} (h : s.MemOk) : (s.loadPending c).MemOk := by
  unfold State.loadPending
  exact .ite (.setCl h) h

theorem State.MemOk.carriers (h : s.MemOk) : s.carriers.MemOk := by
  unfold State.carriers
  exact .folds h (fun _ _ hs => .ite hs (.setCl hs))

/-! ### Faults, reactions and the scorecard -/

theorem State.MemOk.devFollow (h : s.MemOk) : s.devFollow.MemOk := by
  unfold State.devFollow
  exact .ite (.setDev h) (.ite (.idleJobs (.setDev h)) h)

theorem State.MemOk.stgTo {g : Nat} {st : StageSt} (h : s.MemOk) : (s.stgTo g st).MemOk := by
  unfold State.stgTo
  exact .devFollow (.of_put (.of_put (.setStg (h.of_eq rfl))))

theorem State.MemOk.haltStage {code g : Nat} (h : s.MemOk) : (s.haltStage code g).MemOk := by
  unfold State.haltStage
  exact .ite h (by
    extract_lets _ s1
    have h1 : s1.MemOk := .openLater (.of_put (.stgTo (.folds h (fun _ _ hs => .setOuten hs))))
    split
    · exact .endJob (.ite (.of_put h1) h1)
    · exact h1)

theorem State.MemOk.toSafe (h : s.MemOk) : s.toSafe.MemOk := by
  unfold State.toSafe
  exact .ite (h.of_eq rfl) (.ite (.setDev (h.of_eq rfl)) h)

theorem State.MemOk.awaitOff {os : List Nat} (h : s.MemOk) : (s.awaitOff os).MemOk := h.of_eq rfl

theorem State.MemOk.tripStage {code g : Nat} (h : s.MemOk) : (s.tripStage code g).MemOk := by
  unfold State.tripStage
  exact .awaitOff (.haltStage (.folds h (fun _ _ hs => .latchCl hs)))

theorem State.MemOk.tripAll {code : Nat} (h : s.MemOk) : (s.tripAll code).MemOk := by
  unfold State.tripAll
  exact .awaitOff
      (.folds (.folds (.folds (.withFlt (.folds h (fun _ _ hs => .latchCl hs))) (fun _ _ hs => .killLane hs)) (fun _ _ hs => .bankWireTo hs))
          (fun _ _ hs => .haltStage hs))

theorem State.MemOk.tripLocal {code : Nat} {inj : Bool} (h : s.MemOk) : (s.tripLocal code inj).MemOk := by
  unfold State.tripLocal
  exact .awaitOff (.ite (.folds h (fun _ _ hs => .stpHold hs)) h)

theorem State.MemOk.hotStop {code : Nat} (h : s.MemOk) : (s.hotStop code).MemOk := by
  unfold State.hotStop
  exact .ite h (.withNvm (.folds h (fun _ _ hs => .endJob hs)))

theorem State.MemOk.react {code cls : Nat} {inj : Bool} (h : s.MemOk) : (s.react code cls inj).MemOk := by
  unfold State.react
  exact .ite (.tripLocal h)
      (.ite (.folds h (fun _ _ hs => .tripStage hs))
          (.ite (.tripAll h) (.ite (.withStages (.toSafe (.when (.tripAll h) (fun _ hs => .hotStop hs)))) h)))

theorem State.MemOk.setSc {i : Nat} {r : ScRec} (h : s.MemOk) : (s.setSc i r).MemOk := h.of_eq rfl

theorem State.MemOk.newRec {code cls : Nat} {inj live : Bool} (h : s.MemOk) : (s.newRec code cls inj live).1.MemOk := by
  unfold State.newRec
  exact .scCopy (.of_put (.of_put (.setSc (.when h (fun _ hs => .bump hs)))))

theorem State.MemOk.updRec {seq : Nat} {f : ScRec → ScRec} (h : s.MemOk) : (s.updRec seq f).MemOk := by
  unfold State.updRec
  split
  · exact .scCopy (.setSc h)
  · exact h

theorem State.MemOk.latchNew {code cls seq : Nat} {live inj hasRec inWin : Bool} (h : s.MemOk) :
    (s.latchNew code cls seq live inj hasRec inWin).MemOk := by
  unfold State.latchNew
  exact .ite (h.of_eq rfl) (by
    split
    · exact h.of_eq rfl
    · exact .of_put h)

theorem State.MemOk.updLatch {slot : Nat} {f : Latch → Latch} (h : s.MemOk) : (s.updLatch slot f).MemOk := h.of_eq rfl

theorem State.MemOk.openWin {seq : Nat} {inj fresh : Bool} (h : s.MemOk) : (s.openWin seq inj fresh).MemOk := h.of_eq rfl

theorem State.MemOk.repeatRec {code c seq : Nat} {up live : Bool} (h : s.MemOk) : (s.repeatRec code c seq up live).MemOk := by
  unfold State.repeatRec
  exact .ite (.notifyFault (.updRec h)) (by
    extract_lets
    split
    · exact .updRec h
    · exact .notifyFault (.withFlt (.updRec h)))

theorem State.MemOk.repeatFault {l : Latch} {code cls : Nat} {live : Bool} (h : s.MemOk) : (s.repeatFault l code cls live).MemOk := by
  unfold State.repeatFault
  extract_lets _ _ _ _ _ _ _ _ s1 _ s2
  have h1 : s1.MemOk := .ite (.repeatRec (.updLatch h))
      (.ite (.ite (.updLatch (.newRec (.updLatch h))) (.notifyFault (.updLatch (.newRec (.updLatch h))))) (.updLatch h))
  have h2 : s2.MemOk := .ite (.updLatch (.ite (.openWin h1) h1)) h1
  exact .ite (.react h2) h2

theorem State.MemOk.freshFault {code cls : Nat} {inj live : Bool} (h : s.MemOk) : (s.freshFault code cls inj live).MemOk := by
  unfold State.freshFault
  split
  · exact .react (.latchNew (.updRec h))
  · exact .ite (.react (.notifyFault (.latchNew h)))
        (.ite (.react (.openWin (.latchNew (.newRec h)))) (.react (.notifyFault (.latchNew (.newRec h)))))

theorem State.MemOk.classify {code : Nat} {inj : Bool} (h : s.MemOk) : (s.classify code inj).MemOk := by
  unfold State.classify
  split
  · exact h
  · extract_lets
    split
    · exact .repeatFault h
    · exact .freshFault h

theorem State.MemOk.takeReport {r : Report} (h : s.MemOk) : (s.takeReport r).MemOk := by
  unfold State.takeReport
  exact .when (.classify (h.of_eq rfl)) (fun _ hs => .alarmRecorded hs)

theorem State.MemOk.faultReport {c : Nat} (h : s.MemOk) : (s.faultReport c).MemOk := by
  unfold State.faultReport
  exact .takeReport (.folds h (fun _ _ hs => .takeReport hs))

theorem State.MemOk.doReactUnconfirmed {o : Fin 44} (h : s.MemOk) : (doReactUnconfirmed o s).MemOk := by
  unfold Machine.doReactUnconfirmed
  exact .ite h (.of_report (.ite (.withFlt (.confirmOff h)) (.bankWireTo (.withFlt (.confirmOff h)))))

theorem State.MemOk.doReactionComplete (h : s.MemOk) : (doReactionComplete s).MemOk := by
  unfold Machine.doReactionComplete
  split
  · exact h
  · exact .ite h (.folds (.ite (h.of_eq rfl) (.folds (.withFlt (h.of_eq rfl)) (fun _ _ hs => .bankWireTo hs))) (fun _ _ hs => by
      split
      · exact .when hs (fun _ ht => .notifyFault ht)
      · exact hs))

theorem State.MemOk.clearOne {l : Latch} (h : s.MemOk) : (s.clearOne l).MemOk := by
  unfold State.clearOne
  exact .ite (.notifyFault (h.of_eq rfl)) (by
    extract_lets _ s1
    have h1 : s1.MemOk := .ite (h.of_eq rfl) (.updRec (h.of_eq rfl))
    split <;> exact .notifyFault h1)

theorem State.MemOk.clearList {ls : List Latch} (h : s.MemOk) : (s.clearList ls).MemOk := by
  unfold State.clearList
  exact .folds h (fun _ _ hs => .clearOne hs)

theorem State.MemOk.clearStage {g : Nat} (h : s.MemOk) : (s.clearStage g).MemOk := by
  unfold State.clearStage
  exact .clearList h

theorem State.MemOk.doClearCode {q : Req} {code : BitVec 48} (h : s.MemOk) : (doClearCode q code s).MemOk := by
  unfold Machine.doClearCode
  exact .dictWriteR h (fun _ hs => .clearList hs)

theorem State.MemOk.doClearAll {q : Req} {cls : BitVec 48} (h : s.MemOk) : (doClearAll q cls s).MemOk := by
  unfold Machine.doClearAll
  exact .serve h (fun _ hs => by
    split
    · exact .refuse hs
    · exact .respond (.when (.clearList hs) (fun _ ht => .of_put ht)))

theorem State.MemOk.copyFirst (h : s.MemOk) : s.copyFirst.MemOk := by
  unfold State.copyFirst
  split
  · exact h
  · refine .ite h ?_
    dsimp only
    split
    · exact .of_heal ⟨h.1, h.2.1, h.2.2.1, Tab.setRange_wf h.2.2.2.1, h.2.2.2.2⟩
    · exact .begun h

theorem State.MemOk.doOkayReadback {level : Bool} (h : s.MemOk) : (doOkayReadback level s).MemOk := by
  unfold Machine.doOkayReadback
  exact .ite (.condOn (.withFlt (.of_put h))) (.ite (.condOn (.of_put h)) (.condOff (.condOff (.of_put h))))

theorem State.MemOk.latchTrips (h : s.MemOk) : s.latchTrips.MemOk := by
  unfold State.latchTrips
  exact .folds h (fun _ _ hs => .ite hs (.condOff hs))

theorem State.MemOk.doTripMatrixSource {src : Fin 128} {level : Bool} (h : s.MemOk) : (doTripMatrixSource src level s).MemOk := by
  unfold Machine.doTripMatrixSource
  dsimp only
  exact .ite h
      (.latchTrips
          (.ite (.folds (.ite (.ite (.condOn (.sourceLevel h)) (.condOff (.sourceLevel h))) (.sourceLevel h)) (fun _ _ hs => .gatePins hs))
              (.ite (.ite (.condOn (.sourceLevel h)) (.condOff (.sourceLevel h))) (.sourceLevel h))))

theorem State.MemOk.faultReq {t : Nat} {cause : BitVec 8} (h : s.MemOk) : (s.faultReq t cause).MemOk := by
  unfold State.faultReq
  split
  · exact .ite (.of_report (h.of_eq rfl)) (h.of_eq rfl)
  · exact h.of_eq rfl

theorem State.MemOk.doInjCode {q : Req} {code : BitVec 48} (h : s.MemOk) : (doInjCode q code s).MemOk := by
  unfold Machine.doInjCode
  exact .dictWriteR h (fun _ hs => .bump (.reportInj hs))

theorem State.MemOk.doInjSource {q : Req} {src : BitVec 48} (h : s.MemOk) : (doInjSource q src s).MemOk := by
  unfold Machine.doInjSource
  dsimp only
  exact .dictWriteR h (fun _ hs => .bump (.ite (.folds (by
    split
    · exact .reportInj (hs.of_eq rfl)
    · exact hs.of_eq rfl)
      (fun _ _ ht => .gatePins ht))
      (by
        split
        · exact .reportInj (hs.of_eq rfl)
        · exact hs.of_eq rfl)))

theorem State.MemOk.doInjectionEnd {src : Fin 128} (h : s.MemOk) : (doInjectionEnd src s).MemOk := by
  unfold Machine.doInjectionEnd
  exact .ite (.latchTrips (by
    split
    · exact .condGone (h.of_eq rfl)
    · exact h.of_eq rfl))
      (h)

end Sys2Proof.Machine
end

section
/-! SUPPORT. Images, placement, the Referee, the monitors and the OTP array:
each step keeps the canonical form of the word memories. -/

namespace Sys2Proof.Machine

variable {s : State}

/-! ### Images and memory words -/

theorem State.MemOk.framRead {a n : Nat} (h : s.MemOk) : (s.framRead a n).MemOk := by
  unfold State.framRead
  exact .when (.when h (fun _ hs => .every (.of_put hs))) (fun _ hs => .of_report (.of_put hs))

theorem State.MemOk.arrayWrite {ws : List (Nat × List Word)} (h : s.MemOk) : (s.arrayWrite ws).MemOk := by
  unfold State.arrayWrite
  exact .ite (.withNvm (.when h (fun _ hs => .deferOne hs))) (.of_setRuns h)

theorem State.MemOk.drain (h : s.MemOk) : s.drain.MemOk := h.drainN _

theorem State.MemOk.readDir (h : s.MemOk) : s.readDir.MemOk := by
  unfold State.readDir
  exact .framRead h

theorem State.MemOk.readHead {id : Nat} (h : s.MemOk) : (s.readHead id).MemOk := by
  unfold State.readHead
  split
  · exact .framRead (.readDir h)
  · exact .readDir h

theorem State.MemOk.eccRead {s u : State} {e m a n : Nat} (h : s.MemOk) (hu : s.eccRead e m a n = some u) : u.MemOk := by
  unfold State.eccRead at hu
  split at hu
  · exact absurd hu (by simp)
  · exact Option.some.inj hu ▸ .ite h (.of_report (.of_put (.of_put (.of_heal h))))

/-! ### Placement and migration -/

theorem State.MemOk.setSlot {e i : Nat} {t : Option Nat} (h : s.MemOk) : (s.setSlot e i t).MemOk := by
  unfold State.setSlot
  exact .setEng h

theorem State.MemOk.assignBoxes {e : Nat} {d : Nat → Nat} {boxes : List (Option Nat)} (h : s.MemOk) :
    (s.assignBoxes e d boxes).MemOk := by
  unfold State.assignBoxes
  exact .folds h (fun _ _ hs => by
    split
    · exact .setMb hs
    · exact hs)

theorem State.MemOk.freeBoxes {e : Nat} {boxes : List (Option Nat)} (h : s.MemOk) : (s.freeBoxes e boxes).MemOk := by
  unfold State.freeBoxes
  exact .folds h (fun _ _ hs => .setMb hs)

theorem State.MemOk.assign {t e : Nat} (h : s.MemOk) : (s.assign t e).MemOk := by
  unfold State.assign
  extract_lets
  split
  · exact .setSlot (.setTask h)
  · exact h

theorem State.MemOk.dropMig {t : Nat} (h : s.MemOk) : (s.dropMig t).MemOk := by
  unfold State.dropMig
  split
  · exact .setTask (.setCtx (.setSlot (.ite (.freeBoxes h) h)))
  · exact h

theorem State.MemOk.unplace {t : Nat} (h : s.MemOk) : (s.unplace t).MemOk := by
  unfold State.unplace
  exact .ite (.dropMig h) (.of_put (.of_put (.setTask (.withDue (.setCtx (.setSlot (.ite (.freeBoxes (.dropMig h)) (.dropMig h))))))))

theorem State.MemOk.loadCode {id e code state scratch pc : Nat} (h : s.MemOk) : (s.loadCode id e code state scratch pc).MemOk := by
  unfold State.loadCode
  exact .of_setPm (.framRead h)

theorem State.MemOk.initState {t : Nat} (h : s.MemOk) : (s.initState t).MemOk := by
  unfold State.initState
  exact .folds (.framRead h) (fun _ _ hs => .of_setMemWord hs)

theorem State.MemOk.armTask {t : Nat} (h : s.MemOk) : (s.armTask t).MemOk := by
  unfold State.armTask
  exact .ite h (.setTask (.initState h))

theorem State.MemOk.armTasks {g : Nat} (h : s.MemOk) : (s.armTasks g).MemOk := by
  unfold State.armTasks
  exact .folds h (fun _ _ hs => .armTask hs)

theorem State.MemOk.placed {t : Nat} (h : s.MemOk) : (s.placed t).MemOk := by
  unfold State.placed
  extract_lets _ _ _ s1
  have h1 : s1.MemOk := .of_put (.of_put (.of_put (.of_put (.of_put (.setTask (.assignBoxes h))))))
  split
  · exact .armTask h1
  · exact .ite (.armTask h1) h1

theorem State.MemOk.placeJob {ts : List Nat} (h : s.MemOk) : (s.placeJob ts).MemOk := by
  unfold State.placeJob
  exact .ite h (.startOwnJob h)

theorem State.MemOk.snapTask {t : Nat} (h : s.MemOk) : (s.snapTask t).MemOk := by
  unfold State.snapTask
  exact .folds h (fun _ _ hs => .putDecl hs)

theorem State.MemOk.dropTask {t : Nat} (h : s.MemOk) : (s.dropTask t).MemOk := by
  unfold State.dropTask
  exact .of_put (.of_put (.clearDecl (.setTask (.unplace h))))

theorem State.MemOk.takeTask {t : Nat} (h : s.MemOk) : (s.takeTask t).MemOk := by
  unfold State.takeTask
  exact .of_put (.of_put (.snapTask (.dropTask h)))

theorem State.MemOk.doTaskDeclare {q : Req} {t : Fin 96} (h : s.MemOk) : (doTaskDeclare q t s).MemOk := by
  unfold Machine.doTaskDeclare
  exact .serve h (fun _ hs => by
    split
    · exact .refuse hs
    · extract_lets
      split
      · exact .refuse (.when (.of_put (.readHead hs)) (fun _ ht => .of_put ht))
      · exact .ite (.refuse (.readHead hs)) (.respond (.placeJob (.takeTask (.readHead hs)))))

theorem State.MemOk.doTaskRemove {q : Req} {t : Fin 96} (h : s.MemOk) : (doTaskRemove q t s).MemOk := by
  unfold Machine.doTaskRemove
  exact .dictWriteR h (fun _ hs => .dropTask hs)

theorem State.MemOk.notPlaced {t reason : Nat} (h : s.MemOk) : (s.notPlaced t reason).MemOk := by
  unfold State.notPlaced
  exact .of_put (.of_put h)

theorem State.MemOk.placeNext {slot : Nat} {j : Job} (h : s.MemOk) : (s.placeNext slot j).MemOk := by
  unfold State.placeNext
  exact .ite (.endJob h) (.setJob h)

theorem State.MemOk.placeStage {g : Nat} (h : s.MemOk) : (s.placeStage g).MemOk := by
  unfold State.placeStage
  exact .placeJob h

theorem State.MemOk.placeStep {slot : Nat} {j : Job} {ok : Bool} (h : s.MemOk) : (s.placeStep slot j ok).MemOk := by
  unfold State.placeStep
  exact .ite (.placeNext h) (by
    split
    · exact .ite (.setJob (.loadCode h))
          (.ite (.placeNext (.setTask (.loadCode h))) (.placeNext (.setTask (.of_report (.dropMig (.loadCode h))))))
    · exact .ite (.placeNext h) (.ite (by
        extract_lets
        split
        · exact .assign h
        · exact .placeNext (.notPlaced h))
          (.ite (.setJob (.unplace h))
              (.ite (.setJob (.loadCode h)) (.ite (.placeNext (.placed (.loadCode h))) (.setJob (.unplace (.loadCode h))))))))

/-! ### The Referee -/

theorem State.MemOk.setStep {q f : Nat} (h : s.MemOk) : (s.setStep q f).MemOk := by
  unfold State.setStep
  exact .setQuad (.of_put h)

theorem State.MemOk.doQuadSwitchOn {quad : Fin 4} (h : s.MemOk) : (doQuadSwitchOn quad s).MemOk := by
  unfold Machine.doQuadSwitchOn
  exact .ite (.setStep h) h

theorem State.MemOk.doQuadFmax {q : Req} {quad : Fin 4} {v : BitVec 48} (h : s.MemOk) : (doQuadFmax q quad v s).MemOk := by
  unfold Machine.doQuadFmax
  exact .dictWriteR h (fun _ hs => hs)

theorem State.MemOk.quadLevels {q : Nat} (h : s.MemOk) : (s.quadLevels q).MemOk := by
  unfold State.quadLevels
  exact .setQuad h

theorem State.MemOk.measureBusy (h : s.MemOk) : s.measureBusy.MemOk := by
  unfold State.measureBusy
  exact .folds h (fun _ _ hs => .of_put (.setEng hs))

theorem State.MemOk.shedTask {t : Nat} {supply : Bool} (h : s.MemOk) : (s.shedTask t supply).MemOk := by
  unfold State.shedTask
  exact .ite h (.of_report (.bump (.setTask (h.of_eq rfl))))

theorem State.MemOk.restoreTask {t : Nat} (h : s.MemOk) : (s.restoreTask t).MemOk := by
  unfold State.restoreTask
  exact .of_report (.setTask h)

theorem State.MemOk.shedAll (h : s.MemOk) : s.shedAll.MemOk := by
  unfold State.shedAll
  exact .folds h (fun _ _ hs => .ite (.shedTask hs) hs)

theorem State.MemOk.reserveMig {t e : Nat} (h : s.MemOk) : (s.reserveMig t e).MemOk := by
  unfold State.reserveMig
  extract_lets
  split
  · exact .setSlot (.setTask h)
  · exact h

theorem State.MemOk.startMig {t e : Nat} (h : s.MemOk) : (s.startMig t e).MemOk := by
  unfold State.startMig
  exact .ite (.placeJob (.reserveMig h)) (.reserveMig h)

theorem State.MemOk.abortMig {t : Nat} {mismatch : Bool} (h : s.MemOk) : (s.abortMig t mismatch).MemOk := by
  unfold State.abortMig
  split
  · exact h
  · exact .of_report (.setTask (.dropMig h))

theorem State.MemOk.abortStageMigs {g : Nat} (h : s.MemOk) : (s.abortStageMigs g).MemOk := by
  unfold State.abortStageMigs
  exact .folds h (fun _ _ hs => by
    split
    · exact .ite hs (.abortMig hs)
    · exact hs)

theorem State.MemOk.doStateCopyDone {t : Fin 96} (h : s.MemOk) : (doStateCopyDone t s).MemOk := by
  unfold Machine.doStateCopyDone
  extract_lets
  split
  · exact h
  · exact .ite h (by
      extract_lets _ _ s1
      have h1 : s1.MemOk := .folds (.assignBoxes (.folds h (fun _ _ hs => .of_setMemWord hs))) (fun _ _ hs => by
        split
        · exact .setMb hs
        · exact hs)
      exact .setTask h1)

theorem State.MemOk.migVerdict {t : Nat} (h : s.MemOk) : (s.migVerdict t).MemOk := by
  unfold State.migVerdict
  extract_lets
  split
  · exact .ite (.ite (.setTask h) (.abortMig h)) h
  · exact h

theorem State.MemOk.takeover {t : Nat} (h : s.MemOk) : (s.takeover t).MemOk := by
  unfold State.takeover
  extract_lets
  split
  · exact h
  · exact .bump (.of_put (.of_put (.setTask (.setCtx (.setSlot (.freeBoxes h))))))

theorem State.MemOk.relieved (h : s.MemOk) : s.relieved.MemOk := by
  unfold State.relieved
  exact .of_put (h.of_eq rfl)

theorem State.MemOk.reliefStep {s u : State} {scope : List Nat} {all : Bool} (h : s.MemOk) (hu : s.reliefStep scope all = some u) : u.MemOk := by
  unfold State.reliefStep at hu
  split at hu
  · exact Option.some.inj hu ▸ .setStep h
  split at hu
  · exact Option.some.inj hu ▸ .shedTask h
  split at hu
  · exact Option.some.inj hu ▸ .shedTask h
  split at hu
  · exact Option.some.inj hu ▸ .startMig h
  split at hu
  · obtain ⟨e, -, rfl⟩ := Option.map_eq_some_iff.1 hu
    exact .startMig h
  · exact absurd hu (by simp)

theorem State.MemOk.relieve {scope : List Nat} {all : Bool} {code : Nat} (h : s.MemOk) : (s.relieve scope all code).MemOk := by
  unfold State.relieve
  split
  · exact .condOff (.relieved (.reliefStep h ‹_›))
  · exact .condOn h

theorem State.MemOk.restoreOne (h : s.MemOk) : s.restoreOne.MemOk := by
  unfold State.restoreOne
  extract_lets
  split
  · exact .of_put (.restoreTask h)
  · split
    · exact .of_put (.restoreTask h)
    · split
      · exact .of_put (.setStep h)
      · exact h

theorem State.MemOk.deRound {timed : Bool} {g : Nat} (h : s.MemOk) : (State.deRound timed s g).MemOk := by
  unfold State.deRound
  exact .ite h (by
    extract_lets _ _ _ _ _ _ _ _ _ _ _ _ _ _ _ _ _ s1 _ _ _ _ _ _ _ _ _ _ _ s2 s3 _ s4
    have h1 : s1.MemOk := .ite (.condOn h) (.condOff h)
    have h2 : s2.MemOk := .of_put (.of_put (.of_put (.folds (.ite (.condOn h1) (.condOff h1)) (fun _ _ hs => .of_setMemWord hs))))
    have h3 : s3.MemOk := .ite (.raiseEv h2) h2
    have h4 : s4.MemOk := .ite (.condOn h3) (.condOff h3)
    exact .setDerate (.ite (.of_report h4) h4))

theorem State.MemOk.quadDuty {q : Nat} (h : s.MemOk) : (s.quadDuty q).MemOk := by
  unfold State.quadDuty
  exact .ite h (.ite h (.ite (.of_quadOff h) (.ite (.setStep h) (.ite h (.ite (.setStep h) h)))))

theorem State.MemOk.quadShow {q : Nat} (h : s.MemOk) : (s.quadShow q).MemOk := by
  unfold State.quadShow
  exact .of_put (.of_put h)

theorem State.MemOk.evaluate {timed : Bool} (h : s.MemOk) : (State.evaluate timed s).MemOk := by
  unfold State.evaluate
  dsimp only
  exact .folds (.of_put (.folds (.folds h (fun _ _ hs => .quadLevels hs)) (fun _ _ hs => .quadShow hs))) (fun _ _ hs => .deRound hs)

theorem State.MemOk.slice (h : s.MemOk) : s.slice.MemOk := by
  unfold State.slice
  exact .ite (.ite (.evaluate (h.of_eq rfl)) (h.of_eq rfl)) h

theorem State.MemOk.refRound (h : s.MemOk) : s.refRound.MemOk := by
  unfold State.refRound
  exact .ite h (by
    extract_lets _ s1 s2 s3 s4 _ _ s5
    have h1 : s1.MemOk := by
      unfold s1
      exact h.of_eq rfl
    have h2 : s2.MemOk := by
      unfold s2
      exact .folds (.of_put (.measureBusy h1)) (fun _ _ hs => .quadDuty hs)
    have h3 : s3.MemOk := by
      unfold s3
      exact .evaluate h2
    have h4 : s4.MemOk := by
      unfold s4
      exact .folds h3 (fun _ _ hs => .ite (.relieve hs) (.condOff hs))
    have h5 : s5.MemOk := by
      unfold s5
      exact .condOff h4
    exact .ite (.relieve h4) (.ite (.folds h5 (fun _ _ hs => .restoreTask hs)) (.ite (.restoreOne h5) h5)))

theorem State.MemOk.doRefereeRound (h : s.MemOk) : (doRefereeRound s).MemOk := by
  unfold Machine.doRefereeRound
  exact .refRound h

theorem State.MemOk.doFreeTimerExpiry {ft : Fin 16} (h : s.MemOk) : (doFreeTimerExpiry ft s).MemOk := by
  unfold Machine.doFreeTimerExpiry
  exact .ite h (.trigger (.releaseOn (.raiseEv h)))

/-! ### Monitors and supplies -/

theorem State.MemOk.bankCool (h : s.MemOk) : s.bankCool.MemOk := by
  unfold State.bankCool
  exact .ite h (.condOff h)

theorem State.MemOk.levelEffects {i : Nat} {old new : Sensor} (h : s.MemOk) : (s.levelEffects i old new).MemOk := by
  unfold State.levelEffects
  extract_lets _ s1 _ s2 _ s3
  have h1 : s1.MemOk := by
    unfold s1
    exact .ite h (.raiseEv h)
  have h2 : s2.MemOk := by
    unfold s2
    exact .bankCool
        (.ite
            (.condOn
                (.ite (.condOn (.ite (.condOn h1) (.ite h1 (.condOff h1))))
                    (.ite (.ite (.condOn h1) (.ite h1 (.condOff h1))) (.condOff (.ite (.condOn h1) (.ite h1 (.condOff h1)))))))
            (.ite
                (.ite (.condOn (.ite (.condOn h1) (.ite h1 (.condOff h1))))
                    (.ite (.ite (.condOn h1) (.ite h1 (.condOff h1))) (.condOff (.ite (.condOn h1) (.ite h1 (.condOff h1))))))
                (.condOff
                    (.ite (.condOn (.ite (.condOn h1) (.ite h1 (.condOff h1))))
                        (.ite (.ite (.condOn h1) (.ite h1 (.condOff h1))) (.condOff (.ite (.condOn h1) (.ite h1 (.condOff h1)))))))))
  have h3 : s3.MemOk := by
    unfold s3
    exact .evaluate h2
  exact .ite h2 (.ite (.ite (.relieve h3) h3) (.ite (.folds h2 (fun _ _ hs => .deRound hs)) h2))

theorem State.MemOk.leaveLevels {i : Nat} (h : s.MemOk) : (s.leaveLevels i).MemOk := by
  unfold State.leaveLevels
  exact .levelEffects (.setSensor h)

theorem State.MemOk.evalSensor {i : Nat} {slow : Bool} (h : s.MemOk) : (s.evalSensor i slow).MemOk := by
  unfold State.evalSensor
  exact .ite h (.ite h (.levelEffects (.setSensor h)))

theorem State.MemOk.setSuspect {i : Nat} {v : Bool} (h : s.MemOk) : (s.setSuspect i v).MemOk := by
  unfold State.setSuspect
  exact .ite h (by
    extract_lets s1
    have h1 : s1.MemOk := .raiseEv (.setSensor h)
    exact .ite (.leaveLevels (.condOn h1)) (.condOff h1))

theorem State.MemOk.readDie {i : Nat} {t : BitVec 16} (h : s.MemOk) : (s.readDie i t).MemOk := by
  unfold State.readDie
  exact .ite (.setSensor h) (by
    extract_lets _ s1
    have h1 : s1.MemOk := by
      unfold s1
      exact .bkEvents (.setSensor h)
    exact .ite (.ite (.of_put h1) h1) (.setSuspect h1))

theorem State.MemOk.readNtc {n : Nat} (h : s.MemOk) : (s.readNtc n).MemOk := by
  unfold State.readNtc
  exact .ite (.condOff (.leaveLevels (.setSensor h))) (.ite (.condOn (.setSensor h)) (by
    extract_lets
    split
    · exact .setSensor (.condOff h)
    · exact .tick (.setSensor (.condOff h))))

theorem State.MemOk.readSat {l : Nat} (h : s.MemOk) : (s.readSat l).MemOk := by
  unfold State.readSat
  exact .setSensor h

theorem State.MemOk.crossOne {p : Nat × Option Int} (h : s.MemOk) : (s.crossOne p).MemOk := by
  unfold State.crossOne
  split
  · exact .setSensor h
  · exact .ite (.ite (.setSuspect (.of_put h)) (.setSensor (.of_put h))) (.ite (.setSuspect (.setSensor (.of_put h))) (.setSensor (.of_put h)))

theorem State.MemOk.maxima {slow : Bool} (h : s.MemOk) : (s.maxima slow).MemOk := h.of_eq rfl

theorem State.MemOk.measureSupplies (h : s.MemOk) : s.measureSupplies.MemOk := h.of_eq rfl

theorem State.MemOk.doSlowRound {die : List (BitVec 16)} (h : s.MemOk) : (doSlowRound die s).MemOk := by
  unfold Machine.doSlowRound
  exact .raiseEv
      (.measureSupplies
          (.maxima
              (.folds
                  (.folds (.folds (.folds (.folds h (fun _ _ hs => .readDie hs)) (fun _ _ hs => .readNtc hs)) (fun _ _ hs => .readSat hs))
                      (fun _ _ hs => .crossOne hs))
                  (fun _ _ hs => .evalSensor hs))))

theorem State.MemOk.doFastRound {bank : List (BitVec 16)} (h : s.MemOk) : (doFastRound bank s).MemOk := by
  unfold Machine.doFastRound
  extract_lets _ s1
  have h1 : s1.MemOk := .folds h (fun _ _ hs => .evalSensor (.ite (.readDie hs) (.ite (.readNtc hs) (.readSat hs))))
  exact .ite h1 (.raiseEv (.maxima h1))

theorem State.MemOk.shutdownWire (h : s.MemOk) : s.shutdownWire.MemOk := by
  unfold State.shutdownWire
  exact .sourceLevel h

theorem State.MemOk.doAnalogShutdown {ts : Fin 12} (h : s.MemOk) : (doAnalogShutdown ts s).MemOk := by
  unfold Machine.doAnalogShutdown
  dsimp only
  exact .ite (.condOn (.setSensor h)) (.condOn (.folds (.shutdownWire (.setSensor h)) (fun _ _ hs => .bankSafe hs)))

theorem State.MemOk.doAnalogShutdownRelease {ts : Fin 12} (h : s.MemOk) : (doAnalogShutdownRelease ts s).MemOk := by
  unfold Machine.doAnalogShutdownRelease
  extract_lets _ _ s1
  have h1 : s1.MemOk := .ite (.setSensor h) (.condOff (.setSensor h))
  exact .ite h1 (.bankCool (.shutdownWire h1))

theorem State.MemOk.deferQueue (h : s.MemOk) : s.deferQueue.MemOk := by
  unfold State.deferQueue
  extract_lets _ _ s1
  have h1 : s1.MemOk := .folds h (fun _ _ hs => by
    split
    · exact .ite hs (.respond hs)
    · exact hs)
  exact .withNvm (.of_put (.when h1 (fun _ hs => .of_report hs)))

theorem State.MemOk.doSupplyWarn {pp : Fin 6} {ov : Bool} (h : s.MemOk) : (doSupplyWarn pp ov s).MemOk := by
  unfold Machine.doSupplyWarn
  dsimp only
  exact .ite h
      (.ite (.condOn (.raiseEv (.bump (.withMon (.bkEvents (.setSupply h))))))
          (.ite
              (.shedAll
                  (.ite (.deferQueue (.of_put (.withMon (.condOn (.raiseEv (.bump (.withMon (.bkEvents (.setSupply h)))))))))
                      (.of_put (.withMon (.condOn (.raiseEv (.bump (.withMon (.bkEvents (.setSupply h))))))))))
              (.condOn (.raiseEv (.bump (.withMon (.bkEvents (.setSupply h))))))))

theorem State.MemOk.doSupplyWarnRelease {pp : Fin 6} {ov : Bool} (h : s.MemOk) : (doSupplyWarnRelease pp ov s).MemOk := by
  unfold Machine.doSupplyWarnRelease
  extract_lets _ _ _ _ s1 s2 _ s3 s4
  have h1 : s1.MemOk := .raiseEv (.bkEvents (.setSupply h))
  have h2 : s2.MemOk := .ite h1 (.condOff h1)
  have h3 : s3.MemOk := .ite (.setSrc (.when (.condOff h2) (fun _ hs => .setGvdd hs))) h2
  have h4 : s4.MemOk := .ite (.setSrc h3) h3
  exact .ite (.withMon h4) h4

/-! ### The OTP array -/

theorem State.MemOk.setOverride {r w : Nat} {v : Option Word} (h : s.MemOk) : (s.setOverride r w v).MemOk := by
  unfold State.setOverride
  exact .of_put (h.of_eq rfl)

theorem State.MemOk.setMarginal {r w : Nat} {v : Bool} (h : s.MemOk) : (s.setMarginal r w v).MemOk := h.of_eq rfl

theorem State.MemOk.setWeak {r w : Nat} {v : Bool} (h : s.MemOk) : (s.setWeak r w v).MemOk := h.of_eq rfl

theorem State.MemOk.doOverrideWrite {q : Req} {region : Fin 3} {ww : BitVec 8} {v : BitVec 48} (h : s.MemOk) :
    (doOverrideWrite q region ww v s).MemOk := by
  unfold Machine.doOverrideWrite
  exact .dictWriteR h (fun _ hs => .setOverride hs)

theorem State.MemOk.clearOverrides {r : Nat} (h : s.MemOk) : (s.clearOverrides r).MemOk := by
  unfold State.clearOverrides
  exact .folds h (fun _ _ hs => .ite (.setOverride hs) hs)

theorem State.MemOk.doOvrClear {q : Req} {region : BitVec 48} (h : s.MemOk) : (doOvrClear q region s).MemOk := by
  unfold Machine.doOvrClear
  exact .dictWriteR h (fun _ hs => .clearOverrides hs)

theorem State.MemOk.otpEnd {slot r : Nat} (h : s.MemOk) : (s.otpEnd slot r).MemOk := by
  unfold State.otpEnd
  exact .endJob (.of_put h)

theorem State.MemOk.doOtpBurn {q : Req} {v : BitVec 48} (h : s.MemOk) : (doOtpBurn q v s).MemOk := by
  unfold Machine.doOtpBurn
  exact .dictJob h (fun _ hs => .startJob hs)

theorem State.MemOk.burnRound {r w : Nat} {v : Word} {ok : Bool} (h : s.MemOk) : (s.burnRound r w v ok).MemOk := by
  unfold State.burnRound
  exact .when (.setWeak (.setMarginal (.of_setOtp h))) (fun _ hs => .tick hs)

theorem State.MemOk.burnEnd {r w : Nat} (h : s.MemOk) : (s.burnEnd r w).MemOk := by
  unfold State.burnEnd
  exact .ite (.setOverride (.of_setShadow h)) (.of_setShadow h)

theorem State.MemOk.burnStep {slot : Nat} {j : Job} {ok : Bool} (h : s.MemOk) : (s.burnStep slot j ok).MemOk := by
  unfold State.burnStep
  exact .ite (.ite (.otpEnd h) (.setJob h))
      (.ite (.otpEnd h) (.ite (.otpEnd (.burnEnd (.burnRound h))) (.ite (.otpEnd (.burnEnd (.burnRound h))) (.setJob (.burnRound h)))))

theorem State.MemOk.doLock {q : Req} {region : Fin 3} (h : s.MemOk) : (doLock q region s).MemOk := by
  unfold Machine.doLock
  exact .dictJob h (fun _ hs => .startJob hs)

theorem State.MemOk.doComplete {q : Req} {region : Fin 3} (h : s.MemOk) : (doComplete q region s).MemOk := by
  unfold Machine.doComplete
  exact .dictJob h (fun _ hs => .startJob hs)

theorem State.MemOk.lockStep {slot : Nat} {j : Job} {ok : Bool} (h : s.MemOk) : (s.lockStep slot j ok).MemOk := by
  unfold State.lockStep
  exact .ite (.ite (.otpEnd h) (.ite (.otpEnd h) (.ite (.setJob h) (.ite (.setJob h) (.otpEnd h)))))
      (.ite (.otpEnd h)
          (.ite (.ite (.setJob (.burnEnd (.burnRound h))) (.ite (.otpEnd (.burnRound h)) (.setJob (.burnRound h))))
              (.ite (.ite (.setJob (.burnRound h)) (.ite (.otpEnd (.burnRound h)) (.setJob (.burnRound h)))) (.otpEnd (.of_sense h)))))

theorem State.MemOk.completeStep {slot : Nat} {j : Job} {ok : Bool} (h : s.MemOk) : (s.completeStep slot j ok).MemOk := by
  unfold State.completeStep
  exact .ite (.otpEnd h) (.ite (.otpEnd (.of_sense (.burnRound h))) (.ite (.otpEnd (.burnRound h)) (.setJob (.burnRound h))))

theorem State.MemOk.doOtpAudit {q : Option Req} (h : s.MemOk) : (doOtpAudit q s).MemOk := by
  unfold Machine.doOtpAudit
  extract_lets
  split
  · exact .dictJob h (fun _ hs => .startJob hs)
  · exact .startOwnJob h

theorem State.MemOk.auditBad {n : Nat} (h : s.MemOk) : (s.auditBad n).MemOk := by
  unfold State.auditBad
  exact .of_report (.when (.setMarginal h) (fun _ hs => .setWeak hs))

theorem State.MemOk.auditStep {slot : Nat} {j : Job} {ok : Bool} {bad : Nat} (h : s.MemOk) : (s.auditStep slot j ok bad).MemOk := by
  unfold State.auditStep
  extract_lets s1
  have h1 : s1.MemOk := .when h (fun _ hs => hs.of_eq rfl)
  exact .ite (.setJob (.ite h1 (.folds h1 (fun _ _ hs => .auditBad hs)))) (.otpEnd (.of_put (.of_put h1)))

end Sys2Proof.Machine
end

section
/-! SUPPORT. The journal, stages and CAN controllers:
each step keeps the canonical form of the word memories. -/

namespace Sys2Proof.Machine

variable {s : State}

/-! ### The journal, kernel images and patches -/

theorem State.MemOk.setHeader {b st gen s0 : Nat} (h : s.MemOk) : (s.setHeader b st gen s0).MemOk := by
  unfold State.setHeader
  exact .arrayWrite h

theorem State.MemOk.applyRec {r : Rec} (h : s.MemOk) : (s.applyRec r).MemOk := by
  unfold State.applyRec
  exact .ite h (by
    split
    · exact .bump h
    · exact .ite (.bump h) (.ite (.putKey h) (by
        split
        · exact .ite (.putKey h) (.bump h)
        · exact .bump h)))

theorem State.MemOk.replay (h : s.MemOk) : s.replay.MemOk := by
  unfold State.replay
  extract_lets _ _ _ s1
  have h1 : s1.MemOk := by
    unfold s1
    exact .folds (.of_put (.framRead (.framRead (h.of_eq rfl)))) (fun _ _ hs => .when hs (fun _ ht => .of_report ht))
  split
  · exact .withNvm (.of_put (.setHeader h1))
  · exact .withNvm (.of_put (.folds (.folds (.ite (.setHeader h1) h1) (fun _ _ hs => .bump (.of_report hs))) (fun _ _ hs => .applyRec hs)))

theorem State.MemOk.doScorecardCopy (h : s.MemOk) : (doScorecardCopy s).MemOk := by
  unfold Machine.doScorecardCopy
  exact .drain (.copyFirst h)

theorem State.MemOk.doJournalWrite (h : s.MemOk) : (doJournalWrite s).MemOk := by
  unfold Machine.doJournalWrite
  split
  · exact h
  · exact .ite h (.withNvm (.of_setFram (.begun h)))

theorem State.MemOk.journalCommit (h : s.MemOk) : s.journalCommit.MemOk := by
  unfold State.journalCommit
  split
  · exact h
  · exact .ite h (by
      extract_lets _ _ _ _ _ s1
      have h1 : s1.MemOk := by
        unfold s1
        split
        · exact .respond (.withNvm (.of_setFram h))
        · exact .ite (.notify (.withNvm (.of_setFram h))) (.withNvm (.of_setFram h))
      exact .shedIfLow (.drain h1))

theorem State.MemOk.doShedCmd {q : Req} (h : s.MemOk) : (doShedCmd q s).MemOk := by
  unfold Machine.doShedCmd
  exact .dictWrite h (fun _ hs => .startShed hs)

theorem State.MemOk.shedWrite {b : Nat} {x : ShedRun} {l : List Rec} (h : s.MemOk) : (s.shedWrite b x l).MemOk := by
  unfold State.shedWrite
  exact .withNvm (.of_setFram h)

theorem State.MemOk.shedRead {x : ShedRun} (h : s.MemOk) : (s.shedRead x).MemOk := by
  unfold State.shedRead
  exact .framRead h

theorem State.MemOk.shedStep {slot : Nat} (h : s.MemOk) : (s.shedStep slot).MemOk := by
  unfold State.shedStep
  extract_lets
  split
  · exact .withNvm (.of_setRuns (.framRead h))
  · exact .ite (.endJob (.withNvm (.of_setRuns h)))
        (.ite (.withNvm (.of_setRuns h))
            (.ite (.ite (.shedWrite (.shedRead h)) (.withNvm (.shedWrite (.shedRead h))))
                (.ite (.shedWrite (.shedRead h)) (.withNvm (.of_setFram (.shedRead h))))))

theorem State.MemOk.setDir {kk id ver page len : Nat} (h : s.MemOk) : (s.setDir kk id ver page len).MemOk := by
  unfold State.setDir
  exact .of_put (.of_put (.of_put (.of_setFram h)))

theorem State.MemOk.imgFail {slot cause : Nat} (h : s.MemOk) : (s.imgFail slot cause).MemOk := by
  unfold State.imgFail
  exact .endJob h

theorem State.MemOk.doKimgLoad {q : Req} {image : List Word} (h : s.MemOk) : (doKimgLoad q image s).MemOk := by
  unfold Machine.doKimgLoad
  exact .dictJob h (fun _ hs => .startJob hs)

theorem State.MemOk.kimgStep {slot : Nat} {j : Job} (h : s.MemOk) : (s.kimgStep slot j).MemOk := by
  unfold State.kimgStep
  exact .ite (.ite (.imgFail (.readDir h)) (by
    split
    · exact .setJob (.readDir h)
    · exact .imgFail (.readDir h)))
      (.ite (.setJob (.of_setFram h)) (.ite (.ite (.imgFail (.framRead h)) (.setJob (.framRead h))) (.endJob (.setDir h))))

theorem State.MemOk.doKimgDelete {q : Req} {id : Word} (h : s.MemOk) : (doKimgDelete q id s).MemOk := by
  unfold Machine.doKimgDelete
  exact .dictJob h (fun _ hs => .startJob hs)

theorem State.MemOk.kdelStep {slot : Nat} {j : Job} (h : s.MemOk) : (s.kdelStep slot j).MemOk := by
  unfold State.kdelStep
  exact .endJob (by
    split
    · exact .setDir (.readDir h)
    · exact .readDir h)

theorem State.MemOk.imageChecks (h : s.MemOk) : s.imageChecks.MemOk := by
  unfold State.imageChecks
  dsimp only
  exact .folds (.framRead h)
      (fun _ _ hs => .ite (.when (.of_put (.of_put (.of_put (.framRead hs)))) (fun _ ht => .of_report ht)) (.of_put (.of_put (.of_put hs))))

theorem State.MemOk.setStatus {b : Nat} {w : List Word} (h : s.MemOk) : (s.setStatus b w).MemOk := by
  unfold State.setStatus
  exact .arrayWrite h

theorem State.MemOk.savePatch (h : s.MemOk) : s.savePatch.MemOk := by
  unfold State.savePatch
  exact .setStatus h

theorem State.MemOk.markTrial {v : Nat} (h : s.MemOk) : (s.markTrial v).MemOk := by
  unfold State.markTrial
  exact .setStatus h

theorem State.MemOk.setPatch {p st ver : Nat} (h : s.MemOk) : (s.setPatch p st ver).MemOk := by
  unfold State.setPatch
  exact .savePatch (.of_put (.of_put h))

theorem State.MemOk.doPatchLoad {q : Req} {image : List Word} (h : s.MemOk) : (doPatchLoad q image s).MemOk := by
  unfold Machine.doPatchLoad
  exact .dictJob h (fun _ hs => .startJob hs)

theorem State.MemOk.patchStep {slot : Nat} {j : Job} (h : s.MemOk) : (s.patchStep slot j).MemOk := by
  unfold State.patchStep
  dsimp only
  exact .ite (.ite (.imgFail h) (.setJob (.setPatch h)))
      (.ite (.setJob (.of_setFram h)) (.ite (.ite (.imgFail (.framRead h)) (.setJob (.framRead h))) (.endJob (.setPatch h))))

theorem State.MemOk.doPatchFloorRaise {q : Req} {v : BitVec 48} (h : s.MemOk) : (doPatchFloorRaise q v s).MemOk := by
  unfold Machine.doPatchFloorRaise
  exact .dictWriteR h (fun _ hs => .setStatus (.of_put hs))

theorem State.MemOk.tryPatch {p st : Nat} (h : s.MemOk) : (s.tryPatch p st).1.MemOk := by
  unfold State.tryPatch
  dsimp only
  split
  · exact h
  · split
    · exact .framRead h
    · exact .of_report (.setPatch (.framRead h))

theorem State.MemOk.loadPatches (h : s.MemOk) : s.loadPatches.MemOk := by
  unfold State.loadPatches
  exact .of_put (.folds h (fun _ _ hs => .of_put (.of_put hs)))

theorem State.MemOk.selectPatch (h : s.MemOk) : s.selectPatch.MemOk := by
  unfold State.selectPatch
  extract_lets _ s1 s2 _ s3 s4 s5 s6
  have h1 : s1.MemOk := by
    unfold s1
    exact .markTrial (.loadPatches h)
  clear_value s1
  have h2 : s2.MemOk := by
    unfold s2
    exact .ite (.setPatch h1) h1
  clear_value s2
  have h3 : s3.1.MemOk := by
    unfold s3
    exact .tryPatch h2
  clear_value s3
  have h4 : s4.1.MemOk := by
    unfold s4
    exact .tryPatch h3
  clear_value s4
  have h5 : s5.1.MemOk := by
    unfold s5
    exact .tryPatch h4
  clear_value s5
  have h6 : s6.1.MemOk := by
    unfold s6
    exact .tryPatch h5
  clear_value s6
  exact .ite (.of_put (.withBoot (.when h3 (fun _ hs => .markTrial hs))))
      (.ite (.of_put (.withBoot (.when h4 (fun _ hs => .markTrial hs))))
          (.ite (.of_put (.withBoot (.when h5 (fun _ hs => .markTrial hs))))
              (.ite (.of_put (.withBoot (.when h6 (fun _ hs => .markTrial hs)))) (.of_put (.withBoot h6)))))

/-! ### Stages -/

theorem State.MemOk.declare {g : Nat} (h : s.MemOk) : (s.declare g).MemOk := by
  unfold State.declare
  exact .stgTo (.ite (.snapDecl h) (.folds (.snapDecl h) (fun _ _ hs => .folds hs (fun _ _ ht => .of_put ht))))

theorem State.MemOk.tryDeclare {g : Nat} (h : s.MemOk) : (s.tryDeclare g).MemOk := by
  unfold State.tryDeclare
  split
  · exact .of_put h
  · exact .of_put (.declare h)

theorem State.MemOk.declareAll (h : s.MemOk) : s.declareAll.MemOk := by
  unfold State.declareAll
  dsimp only
  exact .folds (.folds h (fun _ _ hs => .ite (.tryDeclare hs) hs)) (fun _ _ hs => .ite (.tryDeclare hs) hs)

theorem State.MemOk.sweepMigs (h : s.MemOk) : s.sweepMigs.MemOk := by
  unfold State.sweepMigs
  exact .folds h (fun _ _ hs => .ite hs (.abortStageMigs hs))

theorem State.MemOk.stageCmd {q : Req} {g v : Nat} {why : State → Option Nat} {effect : State → State} (h : s.MemOk)
    (heffect : ∀ s, s.MemOk → (effect s).MemOk) :
    (s.stageCmd q g v why effect).MemOk := by
  unfold State.stageCmd
  exact .serve h (fun _ hs => by
    split
    · exact .refuse hs
    · split
      · exact .refuse (.of_put hs)
      · exact .respond (.sweepMigs (heffect _ (.of_put hs))))

theorem State.MemOk.doDeclare {q : Req} {st : Fin 12} (h : s.MemOk) : (doDeclare q st s).MemOk := by
  unfold Machine.doDeclare
  exact .stageCmd h (fun _ hs => .placeStage (.declare hs))

theorem State.MemOk.doRemove {q : Req} {st : Fin 12} (h : s.MemOk) : (doRemove q st s).MemOk := by
  unfold Machine.doRemove
  exact .stageCmd h (fun _ hs => .clearDecl (.stgTo hs))

theorem State.MemOk.stopStage {g : Nat} (h : s.MemOk) : (s.stopStage g).MemOk := by
  unfold State.stopStage
  exact .folds h (fun _ _ hs => .stopCl hs)

theorem State.MemOk.outenStage {g : Nat} {v : Bool} (h : s.MemOk) : (s.outenStage g v).MemOk := by
  unfold State.outenStage
  exact .folds h (fun _ _ hs => .setOuten hs)

theorem State.MemOk.doArm {q : Req} {st : Fin 12} (h : s.MemOk) : (doArm q st s).MemOk := by
  unfold Machine.doArm
  exact .serve h (fun _ hs => by
    split
    · exact .refuse hs
    · split
      · exact .refuse (.of_put hs)
      · exact .ite (.refuse hs) (.holdTag (.respond (.stgTo (.setStg (.of_put (.startJob (.of_put hs))))))))

theorem State.MemOk.freeRec (h : s.MemOk) : s.freeRec.2.MemOk := h.of_eq rfl

theorem State.MemOk.postTask {t : Nat} (h : s.MemOk) : (s.postTask t).MemOk := by
  unfold State.postTask
  exact .folds (.freeRec h) (fun _ _ hs => .ite hs (by
    extract_lets s1
    have h1 : s1.MemOk := by
      unfold s1
      split
      · exact .mboxRecord hs
      · exact hs
    split
    · exact .ite (by
        split
        · exact .mboxRecord h1
        · exact h1)
          (h1)
    · exact h1))

theorem State.MemOk.postStage {g : Nat} (h : s.MemOk) : (s.postStage g).MemOk := by
  unfold State.postStage
  exact .folds h (fun _ _ hs => .postTask hs)

theorem State.MemOk.postMain {g : Nat} (h : s.MemOk) : (s.postMain g).MemOk := by
  unfold State.postMain
  exact .postTask h

theorem State.MemOk.doRun {q : Req} {st : Fin 12} (h : s.MemOk) : (doRun q st s).MemOk := by
  unfold Machine.doRun
  exact .stageCmd h (fun _ hs => .stgTo (.outenStage (.postMain hs)))

theorem State.MemOk.doStop {q : Req} {st : Fin 12} (h : s.MemOk) : (doStop q st s).MemOk := by
  unfold Machine.doStop
  exact .stageCmd h (fun _ hs => .stgTo (.postMain hs))

theorem State.MemOk.doStageDisarm {q : Req} {st : Fin 12} (h : s.MemOk) : (doStageDisarm q st s).MemOk := by
  unfold Machine.doStageDisarm
  exact .stageCmd h (fun _ hs => .ite (.setStg (.openLater hs)) (.stgTo (.stopStage (.openLater hs))))

theorem State.MemOk.doClear {q : Req} {st : Fin 12} (h : s.MemOk) : (doClear q st s).MemOk := by
  unfold Machine.doClear
  exact .stageCmd h (fun _ hs => .stgTo (.clearStage (.stopStage hs)))

theorem State.MemOk.ofsAgain {g : Nat} (h : s.MemOk) : (s.ofsAgain g).MemOk := by
  unfold State.ofsAgain
  exact .setKern h

theorem State.MemOk.armedLoads {g : Nat} (h : s.MemOk) : (s.armedLoads g).MemOk := by
  unfold State.armedLoads
  exact .postStage (.ite (.qeLoadTable h) h)

theorem State.MemOk.rampEnd {g : Nat} (h : s.MemOk) : (s.rampEnd g).MemOk := by
  unfold State.rampEnd
  exact .sweepMigs (.armedLoads (.ofsAgain (.stgTo (.outenStage h))))

theorem State.MemOk.doRampDone {st : Fin 12} (h : s.MemOk) : (doRampDone st s).MemOk := by
  unfold Machine.doRampDone
  exact .ite (.rampEnd h) h

theorem State.MemOk.doStageRampTimeout {st : Fin 12} (h : s.MemOk) : (doStageRampTimeout st s).MemOk := by
  unfold Machine.doStageRampTimeout
  exact .ite (.of_report (.rampEnd h)) h

theorem State.MemOk.doFaultReport {code : BitVec 24} (h : s.MemOk) : (doFaultReport code s).MemOk := by
  unfold Machine.doFaultReport
  exact .sweepMigs (.faultReport h)

theorem State.MemOk.freshSet {k : Nat} (h : s.MemOk) : (s.freshSet k).MemOk := by
  unfold State.freshSet
  exact .ite (.setKern h) h

theorem State.MemOk.doParameterPost {q : Req} {key : BitVec 24} {v : BitVec 48} (h : s.MemOk) : (doParameterPost q key v s).MemOk := by
  unfold Machine.doParameterPost
  extract_lets
  split
  · exact .ite (.dictWriteR h (fun _ hs => .ite (.freshSet (.postStage hs)) hs)) h
  · exact .dictWriteR h (fun _ hs => hs)

theorem State.MemOk.doStatusMirror {st : Fin 12} (h : s.MemOk) : (doStatusMirror st s).MemOk := by
  unfold Machine.doStatusMirror
  extract_lets _ _ _ _ s1 _ s2 s3 s4 s5
  have h1 : s1.MemOk := .folds h (fun _ _ hs => .ite hs (.of_put hs))
  clear_value s1
  have h2 : s2.MemOk := .ite (.of_put h1) h1
  clear_value s2
  have h3 : s3.MemOk := .ite (.of_put h2) h2
  clear_value s3
  have h4 : s4.MemOk := .ite (.of_put h3) h3
  clear_value s4
  have h5 : s5.MemOk := .ite (.of_put h4) h4
  clear_value s5
  exact .ite h (.ite (.of_put (.of_put (.of_put h5))) h5)

theorem State.MemOk.prePass {slot g : Nat} (h : s.MemOk) : (s.prePass slot g).MemOk := by
  unfold State.prePass
  dsimp only
  exact .endJob (.armedLoads (.setGuard (.setKern (.armTasks (.stgTo (.folds (.putKey (.of_put (.of_put h))) (fun _ _ hs => .setLane hs)))))))

theorem State.MemOk.preBack {g r : Nat} (h : s.MemOk) : (s.preBack g r).MemOk := by
  unfold State.preBack
  exact .of_report (.of_put (.stgTo (.stopStage h)))

theorem State.MemOk.preFail {slot g r : Nat} (h : s.MemOk) : (s.preFail slot g r).MemOk := by
  unfold State.preFail
  exact .endJob (.preBack (.openNow h))

theorem State.MemOk.preCancel {slot g : Nat} (h : s.MemOk) : (s.preCancel slot g).MemOk := by
  unfold State.preCancel
  exact .endJob (.preBack (.openLater h))

theorem State.MemOk.preTimeout {g : Nat} (h : s.MemOk) : (s.preTimeout g).MemOk := by
  unfold State.preTimeout
  exact .preBack (.openNow h)

theorem State.MemOk.preTo {slot g : Nat} {j : Job} {pc : Nat} (h : s.MemOk) : (s.preTo slot g j pc).MemOk := by
  unfold State.preTo
  exact .setJob (.setStg h)

theorem State.MemOk.preStart {slot g : Nat} {j : Job} (h : s.MemOk) : (s.preStart slot g j).MemOk := by
  unfold State.preStart
  extract_lets s1
  have h1 : s1.MemOk := .folds h (fun _ _ hs => .startCl (.setOuten hs))
  exact .ite (.preTo h1) (.ite (.preTo (.setCt h1)) (.ite (.preTo (.setCt h1)) (.preTo h1)))

theorem State.MemOk.preRead {slot g : Nat} {j : Job} (h : s.MemOk) : (s.preRead slot g j).MemOk := by
  unfold State.preRead
  exact .ite (.ite (.preTo (.setCt h)) (.preTo (.setCt h))) (.ite (.preFail h) (.setStg h))

theorem State.MemOk.preStep {slot : Nat} {j : Job} {obs : JobObs} (h : s.MemOk) : (s.preStep slot j obs).MemOk := by
  unfold State.preStep
  extract_lets _ _ _ _ _ s1
  have h1 : s1.MemOk := .folds h (fun _ _ hs => .setLane hs)
  split
  · exact .ite (.preTo h1) (.preFail h1)
  · exact .ite (.preFail h) (.preTo h)
  · exact .ite (.preTo h) (.preFail h)
  · exact .ite (.preTo h) (.preFail h)
  · exact .ite (.preFail h) (by
      split
      · exact .setJob (.redeliver h)
      · exact .ite (.preTo h) (.preFail h))
  · split
    · exact .preTo h
    · exact .ite (.ite (.setJob (.setStg h)) (.preFail h)) (.setJob (.startOwnJob h))
  · exact .ite h (by
      split
      · exact .preTo h
      · exact .ite (.ite (.setJob (.setStg h)) (.preFail h)) (.setJob (.startOwnJob h)))
  · exact .preStart h
  · exact .preRead h
  · exact .ite (.preFail h) (.ite (.preTo (.setCt h)) (.preTo h))
  · exact .ite (.preFail h) (.preTo h)
  · exact .ite (.preTo h) (.preFail h)
  · exact .ite (.preFail h) (.preTo h)
  · exact .ite (.preTo h) (.preFail h)
  · exact .ite (.preTo h) (.preFail h)
  · exact .ite (.preFail h) (.preTo (.ite (.setCt h) h))
  · exact .ite (.preFail h) (.preTo h)
  · exact .ite (.preTo h) (.preFail h)
  · exact .preTo (.of_put h)
  · exact .ite h (.prePass h)

theorem State.MemOk.doIdCmd {q : Req} {st : Fin 12} (h : s.MemOk) : (doIdCmd q st s).MemOk := by
  unfold Machine.doIdCmd
  exact .dictJob h (fun _ hs => .of_put (.startJob hs))

theorem State.MemOk.identStop {slot g : Nat} {j : Job} {outcome : Nat} (h : s.MemOk) : (s.identStop slot g j outcome).MemOk := by
  unfold State.identStop
  exact .setJob (.sweepMigs (.stgTo (.postMain h)))

theorem State.MemOk.identGo {slot g : Nat} {j : Job} {k : Nat} (h : s.MemOk) : (s.identGo slot g j k).MemOk := by
  unfold State.identGo
  exact .setJob (.when h (fun _ hs => .postMain hs))

theorem State.MemOk.identFail {slot g vv : Nat} (h : s.MemOk) : (s.identFail slot g vv).MemOk := by
  unfold State.identFail
  exact .ite (.endJob (.of_put h)) (.endJob (.of_report (.of_put h)))

theorem State.MemOk.identStep {slot : Nat} {j : Job} {obs : JobObs} (h : s.MemOk) : (s.identStep slot j obs).MemOk := by
  unfold State.identStep
  exact .ite (.ite (.identFail h) (.identGo (.stgTo (.of_put (.outenStage (.postMain h)))))) (.ite
      (.ite h (.ite (.endJob (.of_put h)) (.identFail h)))
      (.ite (.setJob h) (.ite (.identStop h) (.ite h (.ite (.identStop h) (by
        split
        · exact .ite (.identStop h) h
        · exact .ite (.identStop h) (.identGo (.of_put h))))))))

theorem State.MemOk.identCancel {slot g : Nat} (h : s.MemOk) : (s.identCancel slot g).MemOk := by
  unfold State.identCancel
  exact .endJob (.of_put (.ite (.sweepMigs (.stgTo (.postMain h))) h))

theorem State.MemOk.keep {k v : Nat} (h : s.MemOk) : (s.keep k v).MemOk := by
  unfold State.keep
  split
  · exact .ite h (.journal (.putKey h))
  · exact h

theorem State.MemOk.doIdApply {q : Req} {st : Fin 12} {v : BitVec 48} (h : s.MemOk) : (doIdApply q st v s).MemOk := by
  unfold Machine.doIdApply
  exact .dictWriteR h (fun _ hs => .ite hs (.folds hs (fun _ _ ht => .keep ht)))

theorem State.MemOk.doContactorFail {st : Fin 12} {k : Fin 8} (h : s.MemOk) : (doContactorFail st k s).MemOk := by
  unfold Machine.doContactorFail
  exact .ite (.condOn h) h

theorem State.MemOk.doStarCtOpened {st : Fin 12} (h : s.MemOk) : (doStarCtOpened st s).MemOk := by
  unfold Machine.doStarCtOpened
  exact .ite (.sweepMigs (.stgTo (.stopStage h))) h

theorem State.MemOk.doEftCtWeld {st : Fin 12} (h : s.MemOk) : (doEftCtWeld st s).MemOk := by
  unfold Machine.doEftCtWeld
  exact .ite (.condOn h) h

theorem State.MemOk.doContactorFeedbackChange {k : Fin 8} {level : Bool} (h : s.MemOk) :
    (doContactorFeedbackChange k level s).MemOk := by
  unfold Machine.doContactorFeedbackChange
  extract_lets
  split
  · exact h.of_eq rfl
  · extract_lets _ s1
    have h1 : s1.MemOk := .ite (.condOff (h.of_eq rfl)) (h.of_eq rfl)
    exact .ite h1 (.condOff h1)

/-! ### CAN controllers -/

theorem State.MemOk.takeResp {s u : State} {ses f : Nat} {l : List Byte} (h : s.MemOk) (hu : s.takeResp ses = some (l, f, u)) : u.MemOk := by
  unfold State.takeResp at hu
  dsimp only at hu
  split at hu
  · exact absurd hu (by simp)
  · exact (Prod.mk.inj (Prod.mk.inj (Option.some.inj hu)).2).2 ▸ .setSess h

theorem State.MemOk.canShow {n : Nat} (h : s.MemOk) : (s.canShow n).MemOk := by
  unfold State.canShow
  exact .of_put (.of_put (.of_put (.of_put h)))

theorem State.MemOk.canTo {n : Nat} {c : Can} (h : s.MemOk) : (s.canTo n c).MemOk := by
  unfold State.canTo
  exact .canShow (.setCan h)

theorem State.MemOk.loadTx {n b : Nat} {f : CanFrame} (h : s.MemOk) : (s.loadTx n b f).MemOk := by
  unfold State.loadTx
  exact .when (.setCan h) (fun _ hs => .bump hs)

theorem State.MemOk.pump (h : s.MemOk) : s.pump.MemOk := by
  unfold State.pump
  dsimp only
  refine .folds h (fun _ _ hs => .ite hs ?_)
  split
  · exact .loadTx (.takeResp hs ‹_›)
  · exact hs

theorem State.MemOk.canKick {n : Nat} (h : s.MemOk) : (s.canKick n).MemOk := by
  unfold State.canKick
  exact .setCan (.ite (.pump h) h)

theorem State.MemOk.canConds {n : Nat} (h : s.MemOk) : (s.canConds n).MemOk := by
  unfold State.canConds
  extract_lets _ s1
  have h1 : s1.MemOk := .ite (.condOn h) (.condOff h)
  exact .ite (.condOff h1) h1

theorem State.MemOk.canOff {n : Nat} (h : s.MemOk) : (s.canOff n).MemOk := by
  unfold State.canOff
  exact .canConds (.canTo (.of_put h))

theorem State.MemOk.canBegin {n : Nat} {timing : List Nat} (h : s.MemOk) : (s.canBegin n timing).MemOk := by
  unfold State.canBegin
  exact .canTo h

theorem State.MemOk.canBoot {n : Nat} (h : s.MemOk) : (s.canBoot n).MemOk := by
  unfold State.canBoot
  exact .ite (.of_put (.canBegin h)) (.of_put (.canBegin h))

theorem State.MemOk.canCmd {q : Req} {n v : Nat} {why : State → Bool} {effect : State → State} (h : s.MemOk)
    (heffect : ∀ s, s.MemOk → (effect s).MemOk) :
    (s.canCmd q n v why effect).MemOk := by
  unfold State.canCmd
  exact .dictWriteR h (fun _ hs => heffect _ hs)

theorem State.MemOk.doCanStart {q : Req} {n : Fin 4} (h : s.MemOk) : (doCanStart q n s).MemOk := by
  unfold Machine.doCanStart
  exact .canCmd h (fun _ hs => .of_put (.canBegin hs))

theorem State.MemOk.doCanStop {q : Req} {n : Fin 4} (h : s.MemOk) : (doCanStop q n s).MemOk := by
  unfold Machine.doCanStop
  exact .canCmd h (fun _ hs => .ite (.setCan hs) (.canOff hs))

theorem State.MemOk.doRecover {q : Req} {n : Fin 4} (h : s.MemOk) : (doRecover q n s).MemOk := by
  unfold Machine.doRecover
  exact .canCmd h (fun _ hs => .canTo hs)

theorem State.MemOk.doCanIntegrated {n : Fin 4} (h : s.MemOk) : (doCanIntegrated n s).MemOk := by
  unfold Machine.doCanIntegrated
  exact .ite h (.canKick (.canConds (.canTo h)))

theorem State.MemOk.wireFree {n : Nat} (h : s.MemOk) : (s.wireFree n).MemOk := by
  unfold State.wireFree
  exact .ite (.canOff (.setCan h)) (.canKick (.setCan h))

theorem State.MemOk.doCanTxDone {n : Fin 4} (h : s.MemOk) : (doCanTxDone n s).MemOk := by
  unfold Machine.doCanTxDone
  dsimp only
  split
  · exact h
  · exact .ite h (.wireFree (.canConds (.canTo (.ite (.ite (.of_put (.of_put (.tick h))) (.of_put (.tick h))) h))))

theorem State.MemOk.doCanArbitrationLost {n : Fin 4} (h : s.MemOk) : (doCanArbitrationLost n s).MemOk := by
  unfold Machine.doCanArbitrationLost
  exact .ite (.wireFree h) h

theorem State.MemOk.txFailed {n b : Nat} (h : s.MemOk) : (s.txFailed n b).MemOk := by
  unfold State.txFailed
  exact .ite (.bump (.setCan h)) (.setCan h)

theorem State.MemOk.clashOn {n : Nat} {f : CanFrame} (h : s.MemOk) : (s.clashOn n f).MemOk := by
  unfold State.clashOn
  exact .ite (.of_report (.of_put (.bump (.setCan h)))) (.setCan h)

theorem State.MemOk.busOff {n : Nat} (h : s.MemOk) : (s.busOff n).MemOk := by
  unfold State.busOff
  exact .condOn (.condOff (.bump (.canTo h)))

theorem State.MemOk.canJudge {n : Nat} (h : s.MemOk) : (s.canJudge n).MemOk := by
  unfold State.canJudge
  exact .ite (.busOff h) (.canConds (.canTo h))

theorem State.MemOk.doCanError {n : Fin 4} {kind : BitVec 3} {transmitting clash : Bool} {weight : BitVec 4} (h : s.MemOk) :
    (doCanError n kind transmitting clash weight s).MemOk := by
  unfold Machine.doCanError
  exact .ite h (.ite (.of_put h) (.ite (by
    split
    · exact .of_put h
    · extract_lets s1
      have h1 : s1.MemOk := by
        unfold s1
        split
        · exact .when (.of_put h) (fun _ hs => .clashOn hs)
        · exact .of_put h
      exact .wireFree (.canJudge (.setCan (.txFailed h1))))
      (.when (.canJudge (.setCan (.of_put h))) (fun _ hs => .canKick hs))))

theorem State.MemOk.doCanRecovered {n : Fin 4} (h : s.MemOk) : (doCanRecovered n s).MemOk := by
  unfold Machine.doCanRecovered
  exact .ite h (.canKick (.when (.canConds (.canTo h)) (fun _ hs => .notify hs)))

theorem State.MemOk.doCanQueueLate {n : Fin 4} (h : s.MemOk) : (doCanQueueLate n s).MemOk := by
  unfold Machine.doCanQueueLate
  exact .when h (fun _ hs => .every hs)

theorem State.MemOk.doClkLoss {clk : BitVec 8} (h : s.MemOk) : (doClkLoss clk s).MemOk := by
  unfold Machine.doClkLoss
  exact .ite h (by
    extract_lets _ _ _ _ s1
    have h1 : s1.MemOk := .folds (.ite (.folds (.setSrc (.condOn (h.of_eq rfl))) (fun _ _ hs => .gatePins hs)) (.condOn (h.of_eq rfl)))
        (fun _ _ hs => .folds hs (fun _ _ ht => .latchCl ht))
    exact .ite (.folds h1 (fun _ _ hs => .setCan hs)) h1)

theorem State.MemOk.doClockReturn {clk : BitVec 8} (h : s.MemOk) : (doClockReturn clk s).MemOk := by
  unfold Machine.doClockReturn
  exact .ite h (by
    extract_lets _ _ _ s1
    have h1 : s1.MemOk := .ite (.setSrc (.condOff (h.of_eq rfl))) (.condOff (h.of_eq rfl))
    exact .ite (.folds h1 (fun _ _ hs => .ite hs (.ite (.canOff hs) (.condOff (.canTo hs))))) h1)

end Sys2Proof.Machine
end

section
/-! SUPPORT. Boot, jobs and the ports of an engine:
each step keeps the canonical form of the word memories. -/

namespace Sys2Proof.Machine

variable {s : State}

/-! ### Reset, boot and device states -/

theorem State.MemOk.killHeld (h : s.MemOk) : s.killHeld.MemOk := by
  unfold State.killHeld
  exact .setSrc (h.of_eq rfl)

theorem State.MemOk.doPor (h : s.MemOk) : (doPor s).MemOk := by
  unfold Machine.doPor
  exact .withBoot (.of_resetTo h)

theorem State.MemOk.doPinReset (h : s.MemOk) : (doPinReset s).MemOk := by
  unfold Machine.doPinReset
  exact .withBoot (.of_resetTo h)

theorem State.MemOk.doWatchdog (h : s.MemOk) : (doWatchdog s).MemOk := by
  unfold Machine.doWatchdog
  exact .ite h (.of_resetTo (.classify h))

theorem State.MemOk.doLockstepError (h : s.MemOk) : (doLockstepError s).MemOk := by
  unfold Machine.doLockstepError
  exact .ite h (.of_resetTo (.classify h))

theorem State.MemOk.doSupplyReset {pp : Fin 6} {ov : Bool} (h : s.MemOk) : (doSupplyReset pp ov s).MemOk := by
  unfold Machine.doSupplyReset
  dsimp only
  exact .ite h
      (.ite (.withBoot (.of_resetTo h))
          (.ite (.setSupply h)
              (.ite (.ite (.setSupply h) (.of_report (.setSupply h)))
                  (.ite (.of_report (.setSrc (.folds (.setSupply h) (fun _ _ hs => .bankSafe hs))))
                      (.condOn (.setSrc (.bkEvents (.withDrv (.folds (.setSupply h) (fun _ _ hs => .bankSafe hs))))))))))

theorem State.MemOk.mirror (h : s.MemOk) : s.mirror.MemOk := by
  unfold State.mirror
  exact .arrayWrite h

theorem State.MemOk.showCount (h : s.MemOk) : s.showCount.MemOk := by
  unfold State.showCount
  exact .of_put (.of_put (.of_put (.of_put h)))

theorem State.MemOk.pushFail (h : s.MemOk) : s.pushFail.MemOk := h.of_eq rfl

theorem State.MemOk.countStart (h : s.MemOk) : s.countStart.MemOk := by
  unfold State.countStart
  exact .showCount (h.of_eq rfl)

theorem State.MemOk.clearCount (h : s.MemOk) : s.clearCount.MemOk := by
  unfold State.clearCount
  exact .mirror (.showCount (h.of_eq rfl))

theorem State.MemOk.rebuildSc (h : s.MemOk) : s.rebuildSc.MemOk := by
  unfold State.rebuildSc
  extract_lets s1 s2
  have h1 : s1.MemOk := by
    unfold s1
    exact .folds (.framRead h) (fun _ _ hs => by
      extract_lets
      split
      · exact .ite (.setSc hs) hs
      · exact .ite hs (.of_report hs))
  have h2 : s2.MemOk := by
    unfold s2
    exact .folds h1 (fun _ _ hs => .ite hs (.setSc hs))
  split
  · exact h2
  · exact .of_put (.of_put h2)

theorem State.MemOk.doResetRelease (h : s.MemOk) : (doResetRelease s).MemOk := by
  unfold Machine.doResetRelease
  exact .ite h (by
    extract_lets _ _ _ _ _ _ s1
    have h1 : s1.MemOk := .of_report
        (.rebuildSc (.of_put (.of_put (.withBoot (.ite (.countStart (.when (h.of_eq rfl) (fun _ hs => .pushFail hs))) (h.of_eq rfl))))))
    exact .ite (.condOn (.killHeld h1)) h1)

theorem State.MemOk.bootFails {reason : Nat} (h : s.MemOk) : (s.bootFails reason).MemOk := by
  unfold State.bootFails
  exact .of_put (h.of_eq rfl)

theorem State.MemOk.doBootStepTimeout (h : s.MemOk) : (doBootStepTimeout s).MemOk := by
  unfold Machine.doBootStepTimeout
  exact .ite h (.ite (.of_put (h.of_eq rfl)) (.bootFails h))

theorem State.MemOk.doBootFail (h : s.MemOk) : (doBootFail s).MemOk := by
  unfold Machine.doBootFail
  exact .ite h (.of_resetTo h)

/-- The declarations that the checks of a start refuse are dropped. -/
theorem State.MemOk.dropRefused {l : List Nat} (h : s.MemOk) : (l.foldr (fun t s => match s.refuseTask t with
    | some r => (s.dropTask t).notPlaced t r
    | none => s) s).MemOk := by
  induction l with
  | nil => exact h
  | cons t l ih =>
    rw [List.foldr_cons]
    split
    · exact .notPlaced (.dropTask ih)
    · exact ih

theorem State.MemOk.startChecks {n : Nat} (h : s.MemOk) : (State.startChecks n s).MemOk := by
  induction n generalizing s with
  | zero => exact h
  | succ n ih =>
    unfold State.startChecks
    exact .ite (.dropRefused h) (ih (.dropRefused h))

theorem State.MemOk.startTasks (h : s.MemOk) : s.startTasks.MemOk := by
  unfold State.startTasks
  exact .startChecks (.folds h (fun _ _ hs => .takeTask hs))

theorem State.MemOk.idleEntry {origin : Nat} (h : s.MemOk) : (s.idleEntry origin).MemOk := by
  unfold State.idleEntry
  extract_lets s1 s2 _ s3 s4 s5 s6 s7
  have h1 : s1.MemOk := by
    unfold s1
    exact .ite h (.declareAll h)
  have h2 : s2.MemOk := by
    unfold s2
    exact .ite (.startTasks h1) h1
  have h3 : s3.MemOk := by
    unfold s3
    exact .withBoot h2
  have h4 : s4.MemOk := by
    unfold s4
    exact .placeJob h3
  have h5 : s5.MemOk := by
    unfold s5
    exact .ite (.setGvdd h4) h4
  have h6 : s6.MemOk := by
    unfold s6
    exact .ite (.folds h5 (fun _ _ hs => .ite (.qeStart hs) hs)) h5
  have h7 : s7.MemOk := by
    unfold s7
    exact .folds h6 (fun _ _ hs => .ite (.laneOn hs) hs)
  exact .idleJobs h7

theorem State.MemOk.bootDecide (h : s.MemOk) : s.bootDecide.MemOk := by
  unfold State.bootDecide
  extract_lets _ _ _ _ _ _ _ _ s1
  have h1 : s1.MemOk := .mirror (.showCount (.ite (.framRead h) (.countStart (.when (.withBoot (.framRead h)) (fun _ hs => .pushFail hs)))))
  exact .ite h1 (.ite (.of_put h1) (.bootFails h1))

theorem State.MemOk.bootCal (h : s.MemOk) : s.bootCal.MemOk := by
  unfold State.bootCal
  extract_lets _ s1
  have h1 : s1.MemOk := .of_put (.framRead (.tick h))
  exact .ite h1 (.ite (.of_report h1) (.of_put (.of_report h1)))

theorem State.MemOk.bootReplay (h : s.MemOk) : s.bootReplay.MemOk := by
  unfold State.bootReplay
  dsimp only
  exact .folds
      (.folds
          (.when (.snapDecl (.of_put (.folds (.folds (.bootCal (.replay h)) (fun _ _ hs => .loadPending hs)) (fun _ _ hs => .cwLoad hs))))
              (fun _ hs => .putDecl hs))
          (fun _ _ hs => .folds (.folds hs (fun _ _ ht => .sendCfgWord ht)) (fun _ _ ht => .sendCfgWord ht)))
      (fun _ _ hs => .ite (.setLane hs) hs)

theorem State.MemOk.placeRxm {m : Nat} (h : s.MemOk) : (s.placeRxm m).MemOk := by
  unfold State.placeRxm
  split
  · exact .of_put h
  · exact h

theorem State.MemOk.bootEnd (h : s.MemOk) : s.bootEnd.MemOk := by
  unfold State.bootEnd
  extract_lets _ _ s1 s2 s3 _ s4 _ s5 _ s6 s7 s8 s9
  have h1 : s1.MemOk := by
    unfold s1
    exact h.of_eq rfl
  have h2 : s2.MemOk := by
    unfold s2
    exact .ite (.canBoot h1) (.folds h1 (fun _ _ hs => .ite (.canBoot hs) hs))
  have h3 : s3.MemOk := by
    unfold s3
    exact .ite h2 (.folds h2 (fun _ _ hs => .ite (.placeRxm hs) hs))
  have h4 : s4.MemOk := by
    unfold s4
    exact .of_put (.tick h3)
  have h5 : s5.MemOk := by
    unfold s5
    exact .setDev h4
  have h6 : s6.MemOk := by
    unfold s6
    exact .folds h5 (fun _ _ hs => .setSess hs)
  have h7 : s7.MemOk := by
    unfold s7
    exact .of_report h6
  have h8 : s8.MemOk := by
    unfold s8
    exact .folds h7 (fun _ _ hs => .ite (.laneTo hs) hs)
  have h9 : s9.MemOk := by
    unfold s9
    exact .ite (.folds h8 (fun _ _ hs => .ite (.laneOn hs) hs)) (.ite (.idleEntry h6) h6)
  exact .when h9 (fun _ hs => .of_report hs)

theorem State.MemOk.bootStep (h : s.MemOk) : s.bootStep.MemOk := by
  unfold State.bootStep
  extract_lets k go s1 s2 f _ s3
  have hgo (t : State) (ht : t.MemOk) : (go t).MemOk := .withBoot ht
  have h2 : s2.MemOk := by
    unfold s2
    exact .folds h (fun _ _ hs => .of_sense hs)
  have h3 : s3.MemOk := by
    unfold s3
    exact .bootDecide h
  clear_value go s2 s3
  refine .ite (hgo _ ?train) (.ite (hgo _ (.withBoot h2)) (.ite (hgo _ (.tick (.of_put h))) (.ite (.ite (hgo _ h3) h3) (.ite (hgo _ ?patch)
    (.ite (.ite (.bootFails h) (.ite (hgo _ h) h)) (.ite (hgo _ (.bootReplay h))
      (.ite (hgo _ (.when (.imageChecks h) (fun _ hs => .of_report hs))) (.ite (.bootEnd h) (hgo _ h)))))))))
  case train => exact .folds (.clockStart h) (fun _ _ hs => .startOwnJob (.startTrain hs))
  case patch => exact .ite (.withBoot (.loadPatches h)) (.selectPatch h)

theorem State.MemOk.doBootStepComplete (h : s.MemOk) : (doBootStepComplete s).MemOk := by
  unfold Machine.doBootStepComplete
  exact .ite (.bootStep h) h

theorem State.MemOk.doBootRetry {ok : Bool} (h : s.MemOk) : (doBootRetry ok s).MemOk := by
  unfold Machine.doBootRetry
  exact .ite (.bootStep (h.of_eq rfl)) h

theorem State.MemOk.doStartCounterClear (h : s.MemOk) : (doStartCounterClear s).MemOk := by
  unfold Machine.doStartCounterClear
  dsimp only
  exact .ite (by
    split
    · exact .markTrial (.setPatch (.ite (.setPatch (.withBoot (.clearCount h))) (.withBoot (.clearCount h))))
    · exact .clearCount h)
      (h)

theorem State.MemOk.devCmd {q : Req} {v lev : Nat} {ok : List Nat} {armed : State → Option Nat} {why : State → Bool} {effect : State → State}
    (h : s.MemOk) (heffect : ∀ s, s.MemOk → (effect s).MemOk) :
    (s.devCmd q v lev ok armed why effect).MemOk := by
  unfold State.devCmd
  exact .dictWriteR h (fun _ hs => heffect _ hs)

theorem State.MemOk.dropStage {g : Nat} (h : s.MemOk) : (s.dropStage g).MemOk := by
  unfold State.dropStage
  exact .setStg (.clearDecl (.stgTo (.stopStage h)))

theorem State.MemOk.warm (h : s.MemOk) : s.warm.MemOk := by
  unfold State.warm
  extract_lets s1 s2 _ s3 s4 _ s5 s6 s7 s8 s9
  have h1 : s1.MemOk := by
    unfold s1
    exact .folds h (fun _ _ hs => .dropStage hs)
  clear_value s1
  have h2 : s2.MemOk := by
    unfold s2
    exact .folds h1 (fun _ _ hs => .stopCl hs)
  clear_value s2
  have h3 : s3.MemOk := by
    unfold s3
    exact .folds h2 (fun _ _ hs => by
      split
      · exact .ite (.trainFail (.endJob hs)) hs
      · exact .ite (.trainFail (.endJob hs)) hs
      · exact .endJob (.of_put hs)
      · exact .endJob hs)
  clear_value s3
  have h4 : s4.MemOk := by
    unfold s4
    exact .folds h3 (fun _ _ hs => .ite (.retrainOwn hs) hs)
  clear_value s4
  have h5 : s5.MemOk := by
    unfold s5
    exact .withFlt h4
  clear_value s5
  have h6 : s6.MemOk := by
    unfold s6
    exact .folds h5 (fun _ _ hs => .bankWireTo hs)
  clear_value s6
  have h7 : s7.MemOk := by
    unfold s7
    exact .of_put (.clearList h6)
  clear_value s7
  have h8 : s8.MemOk := by
    unfold s8
    exact .folds h7 (fun _ _ hs => .ite (.of_put (.unplace hs)) hs)
  clear_value s8
  have h9 : s9.MemOk := by
    unfold s9
    exact .folds h8 (fun _ _ hs => .folds hs (fun _ _ ht => .of_put ht))
  clear_value s9
  exact .idleEntry (.setDev h9)

theorem State.MemOk.doWarmRestart {q : Req} (h : s.MemOk) : (doWarmRestart q s).MemOk := by
  unfold Machine.doWarmRestart
  exact .devCmd h (fun _ hs => .warm hs)

theorem State.MemOk.devReset {q : Req} {v cause : Nat} {ok : List Nat} {armed : State → Option Nat} {prep : State → State} (h : s.MemOk)
    (hprep : ∀ s, s.MemOk → (prep s).MemOk) :
    (s.devReset q v cause ok armed prep).MemOk := by
  unfold State.devReset
  exact .serve h (fun _ hs => by
    split
    · exact .refuse hs
    · exact .ite (.of_resetTo (hprep _ hs)) (.refuse hs))

theorem State.MemOk.doSoftReset {q : Req} (h : s.MemOk) : (doSoftReset q s).MemOk := by
  unfold Machine.doSoftReset
  exact .devReset h (fun _ hs => hs)

theorem State.MemOk.doRestartNormal {q : Req} (h : s.MemOk) : (doRestartNormal q s).MemOk := by
  unfold Machine.doRestartNormal
  exact .devReset h (fun _ hs => .clearCount hs)

theorem State.MemOk.standbyGo (h : s.MemOk) : s.standbyGo.MemOk := by
  unfold State.standbyGo
  dsimp only
  exact .withBoot (.clearCount (.gvddOff (.folds (by
    split
    · exact .respond h
    · exact h)
      (fun _ _ hs => .laneTo (.setLane (.killSent hs))))))

theorem State.MemOk.doStandby {q : Req} (h : s.MemOk) : (doStandby q s).MemOk := by
  unfold Machine.doStandby
  exact .serve h (fun _ hs => by
    split
    · exact .refuse hs
    · exact .ite (.refuse hs) (.ite (.standbyGo (hs.of_eq rfl)) (.holdTag (hs.of_eq rfl))))

theorem State.MemOk.standbyRefuse (h : s.MemOk) : s.standbyRefuse.MemOk := by
  unfold State.standbyRefuse
  extract_lets v1
  clear_value v1
  split
  · exact .refuse (h.of_eq rfl)
  · exact h.of_eq rfl

theorem State.MemOk.doStandbyQueueTimeout (h : s.MemOk) : (doStandbyQueueTimeout s).MemOk := by
  unfold Machine.doStandbyQueueTimeout
  exact .ite (.standbyRefuse h) h

theorem State.MemOk.doJournalCommit (h : s.MemOk) : (doJournalCommit s).MemOk := by
  unfold Machine.doJournalCommit
  exact .ite (.standbyGo (.journalCommit h)) (.journalCommit h)

theorem State.MemOk.wakeStart {src : Nat} (h : s.MemOk) : (s.wakeStart src).MemOk := by
  unfold State.wakeStart
  exact .of_resetTo (h.of_eq rfl)

theorem State.MemOk.doStandbyEntered (h : s.MemOk) : (doStandbyEntered s).MemOk := by
  unfold Machine.doStandbyEntered
  exact .ite h (by
    extract_lets
    split
    · exact .wakeStart (.of_put (.withBoot (.of_resetTo h)))
    · exact .of_put (.withBoot (.of_resetTo h)))

theorem State.MemOk.doWakeEvent {src : Fin 6} (h : s.MemOk) : (doWakeEvent src s).MemOk := by
  unfold Machine.doWakeEvent
  exact .ite (.ite (.wakeStart h) h) (.ite (.ite (h.of_eq rfl) h) (.ite (.ite (.standbyRefuse h) h) h))

theorem State.MemOk.doPark {q : Req} (h : s.MemOk) : (doPark q s).MemOk := by
  unfold Machine.doPark
  dsimp only
  exact .devCmd h (fun _ hs => .setDev (.folds (.folds hs (fun _ _ ht => .ite (.of_put (.unplace ht)) ht)) (fun _ _ ht => .of_quadOff ht)))

theorem State.MemOk.doWake {q : Req} (h : s.MemOk) : (doWake q s).MemOk := by
  unfold Machine.doWake
  exact .devCmd h (fun _ hs => .idleEntry (.setDev hs))

theorem State.MemOk.doFactoryTest {q : Req} (h : s.MemOk) : (doFactoryTest q s).MemOk := by
  unfold Machine.doFactoryTest
  exact .devCmd h (fun _ hs => hs.of_eq rfl)

theorem State.MemOk.recover {q : Req} {v : Nat} {effect : State → State} (h : s.MemOk) (heffect : ∀ s, s.MemOk → (effect s).MemOk) :
    (s.recover q v effect).MemOk := by
  unfold State.recover
  exact .dictWriteR h (fun _ hs => heffect _ hs)

theorem State.MemOk.doDefaults {q : Req} (h : s.MemOk) : (doDefaults q s).MemOk := by
  unfold Machine.doDefaults
  exact .recover h (fun _ hs => .folds hs (fun _ _ ht => .ite ht (.setHeader ht)))

theorem State.MemOk.doRejectPatches {q : Req} (h : s.MemOk) : (doRejectPatches q s).MemOk := by
  unfold Machine.doRejectPatches
  exact .recover h (fun _ hs => .folds hs (fun _ _ ht => .setPatch ht))

theorem State.MemOk.doDeferEnd (h : s.MemOk) : (doDeferEnd s).MemOk := by
  unfold Machine.doDeferEnd
  exact .ite (.drain (.raiseEv (.of_put (h.of_eq rfl)))) h

/-! ### Jobs -/

theorem State.MemOk.showJobs (h : s.MemOk) : s.showJobs.MemOk := by
  unfold State.showJobs
  exact .folds h (fun _ _ hs => .of_put hs)

theorem State.MemOk.jobCancelled {slot : Nat} {j : Job} (h : s.MemOk) : (s.jobCancelled slot j).MemOk := by
  unfold State.jobCancelled
  split
  · exact .trainFail (.endJob h)
  · exact .trainFail (.endJob h)
  · exact .endJob (.of_put (.when h (fun _ hs => .leaveTest hs)))
  · exact .cwCheckEnd h
  · exact .preCancel h
  · exact .identCancel h
  · exact .endJob h

theorem State.MemOk.jobLimit {slot : Nat} {j : Job} (h : s.MemOk) : (s.jobLimit slot j).MemOk := by
  unfold State.jobLimit
  extract_lets _ _ s1 s2
  have h1 : s1.MemOk := by
    unfold s1
    split
    · exact .of_put (.when h (fun _ hs => .leaveTest hs))
    · exact .of_put (.when h (fun _ hs => .cwMask hs))
    · exact .preTimeout h
    · exact .of_put h
    · exact .of_put h
    · exact .of_put h
    · exact .of_put h
    · exact .of_put h
    · exact .unplace h
    · exact h.of_eq rfl
    · exact h
  have h2 : s2.MemOk := .of_report (.endJob h1)
  split
  · exact .trainFail h2
  · exact .trainFail h2
  · exact h2

theorem State.MemOk.kindStep {slot : Nat} {j : Job} {obs : JobObs} (h : s.MemOk) : (s.kindStep slot j obs).MemOk := by
  unfold State.kindStep
  split
  · exact .kimgStep h
  · exact .kdelStep h
  · exact .patchStep h
  · exact .shedStep h
  · exact .burnStep h
  · exact .lockStep h
  · exact .completeStep h
  · exact .auditStep h
  · exact .trainStep h
  · exact .trainStep h
  · exact .satReadStep h
  · exact .preStep h
  · exact .placeStep h
  · exact .ostStep h
  · exact .cwCheckStep h
  · exact .identStep h

theorem State.MemOk.progress {slot : Nat} {j : Job} (h : s.MemOk) : (s.progress slot j).MemOk := by
  unfold State.progress
  exact .of_put h

theorem State.MemOk.doJobStep {obs : JobObs} (h : s.MemOk) : (doJobStep obs s).MemOk := by
  unfold Machine.doJobStep
  extract_lets
  split
  · exact .showJobs (.slice h)
  · exact .showJobs (.ite (.jobCancelled (.slice h)) (.ite (.jobLimit (.slice h)) (.kindStep (.progress (.setJob (.slice h))))))

theorem State.MemOk.doJobCancel {q : Req} {slot : Fin 64} {v : BitVec 48} (h : s.MemOk) : (doJobCancel q slot v s).MemOk := by
  unfold Machine.doJobCancel
  exact .dictWriteR h (fun _ hs => by
    split
    · exact .ite hs (.setJob hs)
    · exact hs)

theorem State.MemOk.doJobSlotExpiry {slot : Fin 64} (h : s.MemOk) : (doJobSlotExpiry slot s).MemOk := by
  unfold Machine.doJobSlotExpiry
  exact .ite (.of_put h) h

theorem State.MemOk.sendProgress {slot p : Nat} (h : s.MemOk) : (s.sendProgress slot p).MemOk := by
  unfold State.sendProgress
  exact .folds (h.of_eq rfl) (fun _ _ hs => .ite (.notifyOne hs) hs)

theorem State.MemOk.doJobProgress {slot : Fin 64} (h : s.MemOk) : (doJobProgress slot s).MemOk := by
  unfold Machine.doJobProgress
  split
  · exact h
  · extract_lets
    split
    · exact .ite h (.sendProgress h)
    · exact .sendProgress h

/-! ### Ports of an engine -/

theorem State.MemOk.clStore {c o : Nat} {v : Word} (h : s.MemOk) : (s.clStore c o v).MemOk := by
  unfold State.clStore
  exact .ite (.setCl h) (.ite (.setCl h) (.ite (.setCl h) (.ite (.ite (.commitGo h) h) h)))

theorem State.MemOk.qeStore {n o : Nat} {v : Word} (h : s.MemOk) : (s.qeStore n o v).MemOk := by
  unfold State.qeStore
  exact .ite (.when (.when h (fun _ hs => .qeClrRawrev hs)) (fun _ hs => .qePosSet hs)) (.ite (.setQe h) (.ite (by
    extract_lets
    split
    · exact .ctTarget h
    · exact .ctConfig h
    · exact .ctStep h
    · exact h)
      (h)))

theorem State.MemOk.mboxStore {k o : Nat} {v : Word} (h : s.MemOk) : (s.mboxStore k o v).MemOk := by
  unfold State.mboxStore
  exact .ite (.when (.when h (fun _ hs => .mboxAck hs)) (fun _ hs => .setMb hs)) h

theorem State.MemOk.setPost {w k : Nat} {v : Word} (h : s.MemOk) : (s.setPost w k v).MemOk := h.of_eq rfl

theorem State.MemOk.portRead {e a : Nat} (h : s.MemOk) : (s.portRead e a).2.MemOk := by
  unfold State.portRead
  dsimp only
  split
  · exact h
  · exact h
  · exact h
  · exact h
  · split
    · exact h
    · split
      · exact .qeSnap h
      · exact h
  · exact h
  · exact h
  · exact h
  · exact h

theorem State.MemOk.portStore {t e a : Nat} {v : Word} (h : s.MemOk) : (s.portStore t e a v).MemOk := by
  unfold State.portStore
  extract_lets
  split
  · exact .ite (.clStore h) h
  · exact .ite (.adswt h) (.ite (.cwThr h) h)
  · exact .ite (.qeStore h) h
  · exact .ite (.faultReq h) h
  · exact .ite (.mboxStore h) h
  · exact .of_setMemWord h

end Sys2Proof.Machine
end

section
/-! SUPPORT. The vendor kernels:
each step keeps the canonical form of the word memories. -/

namespace Sys2Proof.Machine

variable {s : State}

/-! ### Vendor kernels -/

theorem State.MemOk.usedFree (h : s.MemOk) : s.usedFree.MemOk := h.of_eq rfl

theorem State.MemOk.takeRec {t i : Nat} (h : s.MemOk) : (s.takeRec t i).1.MemOk := by
  unfold State.takeRec
  dsimp only
  split
  · exact h
  · split
    · exact .mboxAck (.mboxAck h)
    · split
      · exact .mboxAck h
      · exact h

theorem State.MemOk.kCommit {c : Nat} {f : ClSet → ClSet} (h : s.MemOk) : (s.kCommit c f).MemOk := by
  unfold State.kCommit
  exact .commitGo (.setCl (.ite (.doCommitRecognised h) h))

theorem State.MemOk.pageOff {g : Nat} (h : s.MemOk) : (s.pageOff g).MemOk := by
  unfold State.pageOff
  exact .folds h (fun _ _ hs => .kCommit hs)

theorem State.MemOk.setStateWord {t i : Nat} {v : Int} (h : s.MemOk) : (s.setStateWord t i v).MemOk := by
  unfold State.setStateWord
  exact .ite (.of_setMemWord h) h

theorem State.MemOk.setStateWords {t : Nat} {l : List Int} (h : s.MemOk) : (s.setStateWords t l).MemOk := by
  unfold State.setStateWords
  exact .folds h (fun _ _ hs => .setStateWord hs)

theorem State.MemOk.postKind4 {m t : Nat} (h : s.MemOk) : (s.postKind4 m t).MemOk := by
  unfold State.postKind4
  exact .ite h (.folds (.freeRec h) (fun _ _ hs => .ite (by
    split
    · exact .postRecord hs
    · exact hs)
      (hs)))

theorem State.MemOk.narrow {g : Nat} (h : s.MemOk) : (s.narrow g).MemOk := by
  unfold State.narrow
  exact .folds h (fun _ _ hs => .ite hs (.cwThr hs))

theorem State.MemOk.freshness {g t alive : Nat} (h : s.MemOk) : (s.freshness g t alive).MemOk := by
  unfold State.freshness
  exact .ite (.faultReq (.setKern h)) (.setKern h)

theorem State.MemOk.kFault {t cause : Nat} {b : Bool} (h : s.MemOk) : (s.kFault t cause b).MemOk := by
  unfold State.kFault
  exact .ite (.faultReq h) h

theorem State.MemOk.calibrate {g t : Nat} {raw : List Int} (h : s.MemOk) : (s.calibrate g t raw).MemOk := by
  unfold State.calibrate
  exact .ite h (.ite (.setKern h) (.kFault (.setKern h)))

theorem State.MemOk.checkMain {g t : Nat} (h : s.MemOk) : (s.checkMain g t).MemOk := by
  unfold State.checkMain
  exact .kFault (.kFault (.kFault (.setKern h)))

theorem State.MemOk.rampQuiet {g : Nat} {quiet : Bool} (h : s.MemOk) : (s.rampQuiet g quiet).MemOk := by
  unfold State.rampQuiet
  exact .ite (.pageOff (.setKern h)) (.setKern h)

theorem State.MemOk.toPhase {g p : Nat} (h : s.MemOk) : (s.toPhase g p).MemOk := by
  unfold State.toPhase
  exact .setKern h

theorem State.MemOk.addLoss {g : Nat} {cur duty : List Int} (h : s.MemOk) : (s.addLoss g cur duty).MemOk := by
  unfold State.addLoss
  exact .setKern h

theorem State.MemOk.addIdle {g : Nat} (h : s.MemOk) : (s.addIdle g).MemOk := by
  unfold State.addIdle
  exact .setKern h

theorem State.MemOk.postRoles {g m : Nat} (h : s.MemOk) : (s.postRoles g m).MemOk := by
  unfold State.postRoles
  extract_lets _ _ _ _ _ s1 s2
  have h1 : s1.MemOk := .ite (.postKind4 h) h
  have h2 : s2.MemOk := .ite (.postKind4 h1) h1
  exact .ite (.postKind4 (.setKern h2)) h2

theorem State.MemOk.checkGuard {g t : Nat} {cur : List Int} {vbus : Option Int} (h : s.MemOk) : (s.checkGuard g t cur vbus).MemOk := by
  unfold State.checkGuard
  exact .kFault (.kFault (.kFault (.kFault (.setGuard h))))

/-! ### Motor kernels -/

theorem State.MemOk.dqControl {g : Nat} {i ref : Int × Int} {spd : Int} (h : s.MemOk) : (s.dqControl g i ref spd).1.MemOk := by
  unfold State.dqControl
  exact .setKern h

theorem State.MemOk.commitDuty {g p : Nat} {duty : List Int} (h : s.MemOk) : (s.commitDuty g p duty).MemOk := by
  unfold State.commitDuty
  exact .kCommit h

theorem State.MemOk.motorWords {g t : Nat} (h : s.MemOk) : (s.motorWords g t).MemOk := by
  unfold State.motorWords
  exact .setStateWords h

theorem State.MemOk.focStart {g : Nat} (h : s.MemOk) : (s.focStart g).MemOk := by
  unfold State.focStart
  exact .toPhase (.setKern h)

theorem State.MemOk.torqueRef {g t : Nat} (h : s.MemOk) : (s.torqueRef g t).1.MemOk := by
  unfold State.torqueRef
  split
  · exact h
  · split
    · exact h
    · exact .setKern h

theorem State.MemOk.closedRefs {g t : Nat} (h : s.MemOk) : (s.closedRefs g t).1.MemOk := by
  unfold State.closedRefs
  exact .torqueRef h

theorem State.MemOk.identPart {g k : Nat} (h : s.MemOk) : (s.identPart g k).MemOk := by
  unfold State.identPart
  exact .setKern h

theorem State.MemOk.identRes {g : Nat} {v : Int} (h : s.MemOk) : (s.identRes g v).MemOk := by
  unfold State.identRes
  exact .setKern h

theorem State.MemOk.identBegin {g : Nat} (h : s.MemOk) : (s.identBegin g).MemOk := by
  unfold State.identBegin
  exact .ite h (.setKern (.ite (.focStart h) (.toPhase h)))

theorem State.MemOk.identEnd {g : Nat} (h : s.MemOk) : (s.identEnd g).MemOk := by
  unfold State.identEnd
  exact .ite h (by
    split
    · exact .ite h (.ite (.identPart (.setKern h)) (.identRes h))
    · exact .ite (.setKern h) (.identRes h)
    · exact .ite (.setKern h) (.identRes h)
    · exact .ite (.ite (.identPart h) (.ite (.setKern h) h)) (.ite (.identRes h) h)
    · exact .ite (.ite (.identPart (.toPhase h)) h) (.ite (.identRes h) h)
    · exact h)

theorem State.MemOk.focRefs {g t : Nat} {o : Obs} (h : s.MemOk) : (s.focRefs g t o).1.MemOk := by
  unfold State.focRefs
  dsimp only
  split
  · exact h
  · exact h
  · exact .closedRefs h
  · exact h
  · exact h
  · exact .closedRefs h

theorem State.MemOk.olStep {g t : Nat} (h : s.MemOk) : (s.olStep g t).MemOk := by
  unfold State.olStep
  exact .setKern h

theorem State.MemOk.focPhase {g t : Nat} {o : Obs} (h : s.MemOk) : (s.focPhase g t o).MemOk := by
  unfold State.focPhase
  extract_lets _ _ _ _ _ s1
  have h1 : s1.MemOk := .olStep (.setKern h)
  split
  · exact .ite (.ite (.toPhase h) (.toPhase (.setKern h))) h
  · exact .ite (.toPhase h) (.ite (.kFault h1) h1)
  · exact .ite (.toPhase h) h
  · exact h

theorem State.MemOk.motionChecks {g t : Nat} {stall : Bool} (h : s.MemOk) : (s.motionChecks g t stall).MemOk := by
  unfold State.motionChecks
  exact .kFault (.kFault (.setKern h))

theorem State.MemOk.motorBegin {g t : Nat} {meas : List Word} {in3 : Option (List Word)} {cur : List Int} (h : s.MemOk) :
    (s.motorBegin g t meas in3 cur).MemOk := by
  unfold State.motorBegin
  exact .freshness (.narrow (.checkMain (.setKern (.ite (.calibrate h) h))))

theorem State.MemOk.focAct {g t : Nat} (h : s.MemOk) : (s.focAct g t).MemOk := by
  unfold State.focAct
  extract_lets a b m s1
  have ha : a.1.MemOk := .takeRec (.takeRec h)
  clear_value a
  have hb : b.1.MemOk := .takeRec ha
  clear_value b
  have h1 : s1.MemOk := .takeRec hb
  clear_value m s1
  split
  · exact h
  · lift_lets
    intro s2
    have h2 : s2.MemOk := .motorBegin h1
    clear_value s2
    intro st _ s3
    have h3 : s3.MemOk := .ite (.setKern h2) (.ite (.ite (.toPhase (.focStart h2)) (.focStart h2)) (.ite (.toPhase (.setKern h2)) h2))
    clear_value s3
    intro s4 o x spd s5
    have h5 : s5.MemOk := .setKern (.identBegin h3)
    clear_value s5
    intro r s6
    have h6 : s6.MemOk := .focRefs h5
    clear_value s6
    intro y i l s7
    have h7 : s7.MemOk := .setKern h6
    clear_value s7
    intro _ c s8
    have h8 : s8.MemOk := by
      unfold s8 c
      split
      · exact .setKern h7
      · exact .dqControl h7
    clear_value s8
    intro p late still adv duty s9
    have h9 : s9.MemOk := .ite (.addIdle (.pageOff h8)) (.addLoss (.commitDuty h8))
    clear_value s9
    intro s10
    have h10 : s10.MemOk := .ite (.addIdle (.pageOff h5)) (.ite (.rampQuiet h9) (.identEnd (.focPhase h9)))
    clear_value s10
    exact .usedFree (.postRoles (.motorWords (.motionChecks h10)))

theorem State.MemOk.speedAct {g t : Nat} (h : s.MemOk) : (s.speedAct g t).MemOk := by
  unfold State.speedAct
  extract_lets s1
  have h1 : s1.MemOk := .takeRec (.takeRec h)
  exact .setKern (.ite (.freshness h1) h1)

theorem State.MemOk.zcLook {g t : Nat} (h : s.MemOk) : (s.zcLook g t).MemOk := by
  unfold State.zcLook
  extract_lets
  split
  · exact .ite (.setKern h) h
  · exact .ite h (.setKern h)

theorem State.MemOk.commutate {g t : Nat} (h : s.MemOk) : (s.commutate g t).MemOk := by
  unfold State.commutate
  exact .kFault (.setKern h)

theorem State.MemOk.sixCommute {g t : Nat} (h : s.MemOk) : (s.sixCommute g t).MemOk := by
  unfold State.sixCommute
  extract_lets
  split
  · exact .ite (.commutate h) h
  · exact .ite h (.kFault (.commutate (.setKern h)))

theorem State.MemOk.sixForced {g t : Nat} (h : s.MemOk) : (s.sixForced g t).MemOk := by
  unfold State.sixForced
  exact .ite (.olStep h) (.commutate (.olStep h))

theorem State.MemOk.sixRef {g t : Nat} (h : s.MemOk) : (s.sixRef g t).MemOk := by
  unfold State.sixRef
  extract_lets
  split
  · exact .setKern (.torqueRef h)
  · exact .setKern h
  · exact .setKern h

theorem State.MemOk.sixDuty {g : Nat} (h : s.MemOk) : (s.sixDuty g).1.MemOk := by
  unfold State.sixDuty
  dsimp only
  split
  · exact h
  · exact .setKern h
  · exact .setKern h

theorem State.MemOk.sixPhase {g t : Nat} (h : s.MemOk) : (s.sixPhase g t).MemOk := by
  unfold State.sixPhase
  extract_lets
  split
  · exact .ite (.toPhase (.setKern h)) h
  · exact .ite (.toPhase (.setKern h)) (.kFault h)
  · exact h

theorem State.MemOk.sixAct {g t : Nat} (h : s.MemOk) : (s.sixAct g t).MemOk := by
  unfold State.sixAct
  extract_lets b m s1
  have h1 : s1.MemOk := .takeRec (.takeRec (.takeRec h))
  clear_value b m s1
  split
  · exact h
  · lift_lets
    intro s2
    have h2 : s2.MemOk := .motorBegin h1
    clear_value s2
    intro st _ _ s3
    have h3 : s3.MemOk := .ite (.setKern h2) (.ite (.toPhase (.setKern (.focStart h2))) (.ite (.toPhase (.setKern h2)) h2))
    clear_value s3
    intro half _ s4
    have h4 : s4.MemOk := .setKern h3
    clear_value s4
    intro hi s5
    have h5 : s5.MemOk := .folds h4 (fun _ _ hs => .cwThr hs)
    clear_value s5
    intro ph s6
    have h6 : s6.MemOk := .ite h5 (.zcLook h5)
    clear_value s6
    intro s7
    have h7 : s7.MemOk := .ite (.sixForced h6) (.ite h6 (.sixCommute h6))
    clear_value s7
    intro s8
    have h8 : s8.MemOk := .sixRef h7
    clear_value s8
    intro p d s9
    have h9 : s9.MemOk := .sixDuty h8
    clear_value s9
    intro d2 page e a i at_ s10
    have h10 : s10.MemOk := .ite (.addIdle (.pageOff h9)) (.addLoss (.kCommit h9))
    clear_value s10
    intro s11
    have h11 : s11.MemOk := .ite (.addIdle (.pageOff h4)) (.ite (.rampQuiet h10) (.sixPhase h10))
    clear_value s11
    exact .usedFree (.postRoles (.motorWords (.motionChecks h11)))

theorem State.MemOk.motorGuard {g t : Nat} (h : s.MemOk) : (s.motorGuard g t).MemOk := by
  unfold State.motorGuard
  extract_lets
  split
  · exact h
  · exact .usedFree (.kFault (.kFault (.kFault (.setGuard (.checkGuard (.takeRec (.takeRec (.takeRec h))))))))

theorem State.MemOk.tjAct {g t : Nat} (h : s.MemOk) : (s.tjAct g t).MemOk := by
  unfold State.tjAct
  exact .ite (.takeRec h) (by
    extract_lets
    split
    · exact .takeRec (.takeRec h)
    · exact .usedFree (.setStateWords (.setKern (.takeRec (.takeRec h)))))

theorem State.MemOk.profAct {g t : Nat} (h : s.MemOk) : (s.profAct g t).MemOk := by
  unfold State.profAct
  exact .folds (.setKern (.takeRec (.takeRec h))) (fun _ _ hs => .setCl hs)

/-! ### Converter kernels -/

theorem State.MemOk.convBegin {s u : State} {g t : Nat} (h : s.MemOk) (hu : s.convBegin g t = some u) : u.MemOk := by
  unfold State.convBegin at hu
  extract_lets dab a b c i v s1 raw bus s2 x s3 s4 x2 n s5 was s6 at hu
  have ha : a.1.MemOk := .takeRec (.takeRec h)
  clear_value a
  have hb : b.1.MemOk := .takeRec ha
  clear_value b
  have h1 : s1.MemOk := .ite_fst (.takeRec hb) hb
  clear_value s1
  have h2 : s2.MemOk := .ite (.calibrate h1) h1
  clear_value s2
  have h4 : s4.MemOk := .narrow (.checkMain (.setKern h2))
  clear_value s4
  have h6 : s6.MemOk := .freshness (.kFault (.kFault (.setKern h4)))
  split at hu
  · exact absurd hu (by simp)
  · exact Option.some.inj hu ▸ .ite (.setKern h6) h6

theorem State.MemOk.convRef {g t : Nat} (h : s.MemOk) : (s.convRef g t).MemOk := by
  unfold State.convRef
  exact .setKern h

theorem State.MemOk.innerRef {g t : Nat} (h : s.MemOk) : (s.innerRef g t).1.MemOk := by
  unfold State.innerRef
  exact .setKern (.convRef h)

theorem State.MemOk.gridLock {g : Nat} {ok : Bool} (h : s.MemOk) : (s.gridLock g ok).MemOk := by
  unfold State.gridLock
  exact .setKern h

theorem State.MemOk.pll {g : Nat} (h : s.MemOk) : (s.pll g).MemOk := by
  unfold State.pll
  exact .gridLock (.setKern h)

theorem State.MemOk.zeroCross {g : Nat} (h : s.MemOk) : (s.zeroCross g).MemOk := by
  unfold State.zeroCross
  exact .gridLock (.setKern h)

theorem State.MemOk.gridChecks {g t : Nat} (h : s.MemOk) : (s.gridChecks g t).MemOk := by
  unfold State.gridChecks
  exact .kFault (.setKern h)

theorem State.MemOk.softStart {g : Nat} (h : s.MemOk) : (s.softStart g).MemOk := by
  unfold State.softStart
  exact .toPhase (.setKern h)

theorem State.MemOk.convPhase {g : Nat} (h : s.MemOk) : (s.convPhase g).MemOk := by
  unfold State.convPhase
  extract_lets
  split
  · exact .setKern h
  · exact .ite h (.ite (.toPhase (.setKern h)) (.ite (.toPhase (.setKern h)) (.softStart (.setKern h))))
  · exact .ite h (.toPhase (.setKern h))
  · exact h

theorem State.MemOk.convPhaseEnd {g t : Nat} (h : s.MemOk) : (s.convPhaseEnd g t).MemOk := by
  unfold State.convPhaseEnd
  extract_lets
  split
  · exact .ite (.softStart h) h
  · exact .ite (.toPhase h) h
  · exact .ite (.toPhase (.setKern h)) (.setKern h)
  · exact h

theorem State.MemOk.relock {g : Nat} {was : Bool} (h : s.MemOk) : (s.relock g was).MemOk := by
  unfold State.relock
  exact .ite (.softStart h) h

theorem State.MemOk.loops {g i : Nat} {refs cur : List Int} {m : Int} (h : s.MemOk) : (s.loops g i refs cur m).1.MemOk := by
  unfold State.loops
  dsimp only
  split <;> exact .setKern h

theorem State.MemOk.shedLegs {g least : Nat} {add4 drop : Int} (h : s.MemOk) : (s.shedLegs g least add4 drop).MemOk := by
  unfold State.shedLegs
  exact .ite h (.ite (.setKern h) (.ite (.setKern h) h))

theorem State.MemOk.pfc3Set {g p : Nat} {inner : Int} (h : s.MemOk) : (s.pfc3Set g p inner).MemOk := by
  unfold State.pfc3Set
  exact .setKern (.addLoss (.kCommit (.loops (.setKern h))))

theorem State.MemOk.pfc1Set {g p : Nat} {inner : Int} (h : s.MemOk) : (s.pfc1Set g p inner).MemOk := by
  unfold State.pfc1Set
  exact .setKern (.ite (.addIdle (.kCommit (.loops (.shedLegs h)))) (.addLoss (.kCommit (.loops (.shedLegs h)))))

theorem State.MemOk.dabSet {g t p : Nat} {inner : Int} (h : s.MemOk) : (s.dabSet g t p inner).MemOk := by
  unfold State.dabSet
  exact .addLoss (.kCommit (.kFault (.setKern (.loops h))))

theorem State.MemOk.psfbSlave {g p : Nat} (h : s.MemOk) : (s.psfbSlave g p).MemOk := by
  unfold State.psfbSlave
  split
  · exact .ite h (.kCommit (.setKern h))
  · exact h

theorem State.MemOk.psfbSet {g p : Nat} {inner : Int} (h : s.MemOk) : (s.psfbSet g p inner).MemOk := by
  unfold State.psfbSet
  exact .addLoss (.setKern (.kCommit (.psfbSlave (.setKern h))))

theorem State.MemOk.buckSet {g p : Nat} {inner : Int} (h : s.MemOk) : (s.buckSet g p inner).MemOk := by
  unfold State.buckSet
  exact .addLoss (.setKern (.folds (.loops (.ite (.setKern (.shedLegs h)) (.shedLegs h))) (fun _ _ hs => .kCommit hs)))

theorem State.MemOk.eftFaults {g t : Nat} {n : Nat × Nat} (h : s.MemOk) : (s.eftFaults g t n).MemOk := by
  unfold State.eftFaults
  exact .kFault (.kFault (.kFault h))

theorem State.MemOk.eftChecks {g t : Nat} (h : s.MemOk) : (s.eftChecks g t).MemOk := by
  unfold State.eftChecks
  exact .kFault (.eftFaults (.setKern h))

theorem State.MemOk.eftSet {g p : Nat} {inner : Int} (h : s.MemOk) : (s.eftSet g p inner).MemOk := by
  unfold State.eftSet
  exact .addLoss (.setKern (.kCommit (.loops h)))

theorem State.MemOk.convWords {g t p : Nat} {switching : Bool} (h : s.MemOk) : (s.convWords g t p switching).MemOk := by
  unfold State.convWords
  dsimp only
  exact .setStateWords h

theorem State.MemOk.convAct {g t : Nat} (h : s.MemOk) : (s.convAct g t).MemOk := by
  unfold State.convAct
  split
  · exact h
  · extract_lets v1 s2 _ s3 s4 _ _ _ _ s5 _ s6
    have h2 : s2.MemOk := .convPhase (.convBegin h ‹_›)
    have h3 : s3.MemOk := .ite (.pll h2) (.ite (.zeroCross h2) (.ite (.eftChecks h2) h2))
    have h4 : s4.MemOk := .ite (.relock (.gridChecks h3)) h3
    have h5 : s5.MemOk := by
      unfold s5
      clear_value v1
      split
      · exact .pfc3Set (.innerRef h4)
      · exact .pfc1Set (.innerRef h4)
      · exact .dabSet (.innerRef h4)
      · exact .psfbSet (.innerRef h4)
      · exact .buckSet (.innerRef h4)
      · exact .eftSet (.innerRef h4)
    have h6 : s6.MemOk := .ite (.setKern h5) (.addIdle (.pageOff h4))
    exact .usedFree (.postRoles (.convWords (.ite (.rampQuiet h6) (.convPhaseEnd h6))))

theorem State.MemOk.convGuard {g t : Nat} (h : s.MemOk) : (s.convGuard g t).MemOk := by
  unfold State.convGuard
  extract_lets dab a b c i v s1 cur s2 x n s3 x2 n2 q s4 s5
  have ha : a.1.MemOk := .takeRec (.takeRec h)
  clear_value a
  have hb : b.1.MemOk := .takeRec ha
  clear_value b
  have h1 : s1.MemOk := .ite_fst (.takeRec hb) hb
  clear_value s1
  have h2 : s2.MemOk := .checkGuard h1
  clear_value s2
  have h3 : s3.MemOk := .kFault (.kFault (.setGuard h2))
  clear_value s3
  have h5 : s5.MemOk := .kFault (.setGuard h3)
  clear_value s5
  exact .ite h (.ite h3 (.kFault (.eftFaults h5)))

theorem State.MemOk.doContactorOpen {st : Fin 12} {k : Fin 8} (h : s.MemOk) : (doContactorOpen st k s).MemOk := by
  unfold Machine.doContactorOpen
  exact .ite (.setStg (.setCt h)) h

theorem State.MemOk.kernelRun {t : Nat} (h : s.MemOk) : (s.kernelRun t).MemOk := by
  unfold State.kernelRun
  exact .ite h (.ite h (.ite (by
    split
    · exact .focAct h
    · exact .sixAct h
    · exact .convAct h
    · exact .convAct h
    · exact .convAct h
    · exact .convAct h
    · exact .convAct h
    · exact .convAct h
    · exact h)
      (.ite (.ite (.speedAct h) h) (.ite (.ite (.motorGuard h) (.ite (.convGuard h) h)) (.ite (.ite (.profAct h) h) (.ite (.tjAct h) h))))))

end Sys2Proof.Machine
end

section
/-! SUPPORT. Engines, tasks and debug access:
each step keeps the canonical form of the word memories. -/

namespace Sys2Proof.Machine

variable {s : State}

/-! ### Instructions of the engines -/

theorem State.MemOk.spend {e k n : Nat} (h : s.MemOk) : (s.spend e k n).MemOk := by
  unfold State.spend
  exact .setCtx (.setEng h)

theorem State.MemOk.setPend {t e : Nat} {v : BitVec 16} (h : s.MemOk) : (s.setPend t e v).MemOk := by
  unfold State.setPend
  extract_lets
  split
  · exact .ite (.setTask h) (.setTask h)
  · exact .setTask h

theorem State.MemOk.abortAct {t e k cause : Nat} (h : s.MemOk) : (s.abortAct t e k cause).MemOk := by
  unfold State.abortAct
  extract_lets _ _ s1 s2
  have h1 : s1.MemOk := .of_put (.bump (.setCtx h))
  have h2 : s2.MemOk := .abortMig (.of_report h1)
  exact .ite (.abortMig h1) (.ite (.setTask (.of_put h2)) (.ite (.shedTask (.setTask (.of_put h2))) (.setTask (.of_put h2))))

theorem State.MemOk.endAct {t e k : Nat} (h : s.MemOk) : (s.endAct t e k).MemOk := by
  unfold State.endAct
  exact .ite (by
    split
    · exact .migVerdict (.setTask (.setCtx h))
    · exact .setCtx h)
      (by
        extract_lets
        split
        · exact .setTask (.of_put (.setCtx h))
        · exact .ite (.migVerdict (.setTask (.of_put (.setCtx h)))) (.ite (.setTask (.of_put (.setCtx h))) (.setTask (.of_put (.setCtx h)))))

theorem State.MemOk.goto {t e k a : Nat} (h : s.MemOk) : (s.goto t e k a).MemOk := by
  unfold State.goto
  exact .ite (.setCtx h) (.abortAct h)

theorem State.MemOk.advance {t e k words : Nat} (h : s.MemOk) : (s.advance t e k words).MemOk := by
  unfold State.advance
  exact .goto (.setCtx h)

theorem State.MemOk.eccTask {s u : State} {t e m a n : Nat} (h : s.MemOk) (hu : s.eccTask t e m a n = some u) : u.MemOk := by
  obtain ⟨r, hr, rfl⟩ := Option.map_eq_some_iff.1 hu
  exact .ite (h.eccRead hr) (.abortMig (h.eccRead hr))

theorem State.MemOk.issue {e : Fin 16} {c : BitVec 4} {bad : Bool} {words : Nat} {dst uses : List (Fin 16)} {accs : List (Fin 2)} {cordic : Bool}
    {blocked : Nat → Ctx → Bool} {f : Nat → Nat → State → State} (h : s.MemOk) (hf : ∀ x0 x1 s, s.MemOk → (f x0 x1 s).MemOk) :
    (s.issue e c bad words dst uses accs cordic blocked f).MemOk := by
  unfold State.issue
  split
  · exact h
  · exact .ite h (.ite (.abortAct h) (.ite (.abortAct h) (by
      split
      · exact .abortAct h
      · exact .ite (.abortAct (.eccTask (.setEng h) ‹_›))
            (.ite (.advance (.spend (.eccTask (.setEng h) ‹_›)))
                (.ite h (.ite (.abortAct (.spend (.eccTask (.setEng h) ‹_›))) (hf _ _ _ (.spend (.eccTask (.setEng h) ‹_›)))))))))

theorem State.MemOk.regOp {e : Fin 16} {c : BitVec 4} {bad : Bool} {words : Nat} {dst uses : List (Fin 16)} {accs : List (Fin 2)} {cordic : Bool}
    {g : Ctx → Ctx} (h : s.MemOk) :
    (s.regOp e c bad words dst uses accs cordic g).MemOk := by
  unfold State.regOp
  exact .issue h (fun _ _ _ hs => .advance (.setCtx hs))

theorem State.MemOk.aluOp {e : Fin 16} {c : BitVec 4} {bad : Bool} {rd : Fin 16} {uses : List (Fin 16)} {late : Nat} {g : Ctx → Word × Bool}
    (h : s.MemOk) :
    (s.aluOp e c bad rd uses late g).MemOk := by
  unfold State.aluOp
  exact .regOp h

theorem State.MemOk.doNop {e : Fin 16} {c : BitVec 4} (h : s.MemOk) : (doNop e c s).MemOk := by
  unfold Machine.doNop
  exact .regOp h

theorem State.MemOk.doMov {e : Fin 16} {c : BitVec 4} {rd rs : Fin 16} {m : BitVec 2} (h : s.MemOk) : (doMov e c rd rs m s).MemOk := by
  unfold Machine.doMov
  exact .aluOp h

theorem State.MemOk.doLdi {e : Fin 16} {c : BitVec 4} {rd : Fin 16} {imm : BitVec 10} (h : s.MemOk) : (doLdi e c rd imm s).MemOk := by
  unfold Machine.doLdi
  exact .aluOp h

theorem State.MemOk.doMovi {e : Fin 16} {c : BitVec 4} {rd : Fin 16} {imm : Word} (h : s.MemOk) : (doMovi e c rd imm s).MemOk := by
  unfold Machine.doMovi
  exact .regOp h

theorem State.MemOk.doAdd {e : Fin 16} {c : BitVec 4} {rd rs rt : Fin 16} {m : BitVec 2} (h : s.MemOk) :
    (doAdd e c rd rs rt m s).MemOk := by
  unfold Machine.doAdd
  exact .aluOp h

theorem State.MemOk.doAdds {e : Fin 16} {c : BitVec 4} {rd rs rt : Fin 16} {m : BitVec 2} (h : s.MemOk) :
    (doAdds e c rd rs rt m s).MemOk := by
  unfold Machine.doAdds
  exact .aluOp h

theorem State.MemOk.doSub {e : Fin 16} {c : BitVec 4} {rd rs rt : Fin 16} {m : BitVec 2} (h : s.MemOk) :
    (doSub e c rd rs rt m s).MemOk := by
  unfold Machine.doSub
  exact .aluOp h

theorem State.MemOk.doSubs {e : Fin 16} {c : BitVec 4} {rd rs rt : Fin 16} {m : BitVec 2} (h : s.MemOk) :
    (doSubs e c rd rs rt m s).MemOk := by
  unfold Machine.doSubs
  exact .aluOp h

theorem State.MemOk.doNeg {e : Fin 16} {c : BitVec 4} {rd rs : Fin 16} {m : BitVec 2} (h : s.MemOk) : (doNeg e c rd rs m s).MemOk := by
  unfold Machine.doNeg
  exact .aluOp h

theorem State.MemOk.doAbs {e : Fin 16} {c : BitVec 4} {rd rs : Fin 16} {m : BitVec 2} (h : s.MemOk) : (doAbs e c rd rs m s).MemOk := by
  unfold Machine.doAbs
  exact .aluOp h

theorem State.MemOk.doMin {e : Fin 16} {c : BitVec 4} {rd rs rt : Fin 16} {m : BitVec 2} (h : s.MemOk) :
    (doMin e c rd rs rt m s).MemOk := by
  unfold Machine.doMin
  exact .aluOp h

theorem State.MemOk.doMax {e : Fin 16} {c : BitVec 4} {rd rs rt : Fin 16} {m : BitVec 2} (h : s.MemOk) :
    (doMax e c rd rs rt m s).MemOk := by
  unfold Machine.doMax
  exact .aluOp h

theorem State.MemOk.doAnd {e : Fin 16} {c : BitVec 4} {rd rs rt : Fin 16} {m : BitVec 2} (h : s.MemOk) :
    (doAnd e c rd rs rt m s).MemOk := by
  unfold Machine.doAnd
  exact .aluOp h

theorem State.MemOk.doOr {e : Fin 16} {c : BitVec 4} {rd rs rt : Fin 16} {m : BitVec 2} (h : s.MemOk) :
    (doOr e c rd rs rt m s).MemOk := by
  unfold Machine.doOr
  exact .aluOp h

theorem State.MemOk.doXor {e : Fin 16} {c : BitVec 4} {rd rs rt : Fin 16} {m : BitVec 2} (h : s.MemOk) :
    (doXor e c rd rs rt m s).MemOk := by
  unfold Machine.doXor
  exact .aluOp h

theorem State.MemOk.doNot {e : Fin 16} {c : BitVec 4} {rd rs : Fin 16} {m : BitVec 2} (h : s.MemOk) : (doNot e c rd rs m s).MemOk := by
  unfold Machine.doNot
  exact .aluOp h

theorem State.MemOk.doShl {e : Fin 16} {c : BitVec 4} {rd rs rt : Fin 16} {m : BitVec 2} (h : s.MemOk) :
    (doShl e c rd rs rt m s).MemOk := by
  unfold Machine.doShl
  exact .aluOp h

theorem State.MemOk.doShr {e : Fin 16} {c : BitVec 4} {rd rs rt : Fin 16} {m : BitVec 2} (h : s.MemOk) :
    (doShr e c rd rs rt m s).MemOk := by
  unfold Machine.doShr
  exact .aluOp h

theorem State.MemOk.doShli {e : Fin 16} {c : BitVec 4} {rd rs : Fin 16} {n : BitVec 5} {sa : Bool} (h : s.MemOk) :
    (doShli e c rd rs n sa s).MemOk := by
  unfold Machine.doShli
  exact .aluOp h

theorem State.MemOk.doShri {e : Fin 16} {c : BitVec 4} {rd rs : Fin 16} {n : BitVec 5} {sa : Bool} (h : s.MemOk) :
    (doShri e c rd rs n sa s).MemOk := by
  unfold Machine.doShri
  exact .aluOp h

theorem State.MemOk.doClamp {e : Fin 16} {c : BitVec 4} {rd rs rt : Fin 16} {m : BitVec 2} (h : s.MemOk) :
    (doClamp e c rd rs rt m s).MemOk := by
  unfold Machine.doClamp
  exact .aluOp h

theorem State.MemOk.doNorm {e : Fin 16} {c : BitVec 4} {rd rs : Fin 16} {m : BitVec 2} (h : s.MemOk) :
    (doNorm e c rd rs m s).MemOk := by
  unfold Machine.doNorm
  exact .aluOp h

theorem State.MemOk.doMulw {e : Fin 16} {c : BitVec 4} {rd rs rt : Fin 16} {m : BitVec 2} (h : s.MemOk) :
    (doMulw e c rd rs rt m s).MemOk := by
  unfold Machine.doMulw
  exact .aluOp h

theorem State.MemOk.doRcps {e : Fin 16} {c : BitVec 4} {rd rs : Fin 16} {m : BitVec 2} (h : s.MemOk) :
    (doRcps e c rd rs m s).MemOk := by
  unfold Machine.doRcps
  exact .aluOp h

theorem State.MemOk.doRsqs {e : Fin 16} {c : BitVec 4} {rd rs : Fin 16} {m : BitVec 2} (h : s.MemOk) :
    (doRsqs e c rd rs m s).MemOk := by
  unfold Machine.doRsqs
  exact .aluOp h

theorem State.MemOk.cordicOp {e : Fin 16} {c : BitVec 4} {m : BitVec 2} {rd : Fin 16} {uses : List (Fin 16)} {g : Ctx → Word × Word × Bool}
    (h : s.MemOk) :
    (s.cordicOp e c m rd uses g).MemOk := by
  unfold State.cordicOp
  exact .regOp h

theorem State.MemOk.doCsc {e : Fin 16} {c : BitVec 4} {rd rs : Fin 16} {m : BitVec 2} (h : s.MemOk) : (doCsc e c rd rs m s).MemOk := by
  unfold Machine.doCsc
  exact .cordicOp h

theorem State.MemOk.doCat {e : Fin 16} {c : BitVec 4} {rd rs rt : Fin 16} {m : BitVec 2} (h : s.MemOk) :
    (doCat e c rd rs rt m s).MemOk := by
  unfold Machine.doCat
  exact .cordicOp h

theorem State.MemOk.flagOp {e : Fin 16} {c : BitVec 4} {fd : Fin 4} {uses : List (Fin 16)} {g : Ctx → Bool} (h : s.MemOk) :
    (s.flagOp e c fd uses g).MemOk := by
  unfold State.flagOp
  exact .regOp h

theorem State.MemOk.doCmp {e : Fin 16} {c : BitVec 4} {fd : Fin 4} {rs rt : Fin 16} {cc : BitVec 2} (h : s.MemOk) :
    (doCmp e c fd rs rt cc s).MemOk := by
  unfold Machine.doCmp
  exact .flagOp h

theorem State.MemOk.doCmpu {e : Fin 16} {c : BitVec 4} {fd : Fin 4} {rs rt : Fin 16} {cc : BitVec 2} (h : s.MemOk) :
    (doCmpu e c fd rs rt cc s).MemOk := by
  unfold Machine.doCmpu
  exact .flagOp h

theorem State.MemOk.doCmpi {e : Fin 16} {c : BitVec 4} {fd : Fin 4} {rs : Fin 16} {imm : BitVec 6} {cc : BitVec 2} (h : s.MemOk) :
    (doCmpi e c fd rs imm cc s).MemOk := by
  unfold Machine.doCmpi
  exact .flagOp h

theorem State.MemOk.doFlog {e : Fin 16} {c : BitVec 4} {fd : Fin 4} {op : BitVec 2} {fa fb : Fin 4} (h : s.MemOk) :
    (doFlog e c fd op fa fb s).MemOk := by
  unfold Machine.doFlog
  exact .flagOp h

theorem State.MemOk.doSel {e : Fin 16} {c : BitVec 4} {rd rs rt : Fin 16} {fc : Fin 4} (h : s.MemOk) :
    (doSel e c rd rs rt fc s).MemOk := by
  unfold Machine.doSel
  exact .aluOp h

theorem State.MemOk.acOp {e : Fin 16} {c : BitVec 4} {bad : Bool} {a : Fin 2} {uses : List (Fin 16)} {accs : List (Fin 2)} {late : Nat}
    {g : Ctx → BitVec 56 × Bool} (h : s.MemOk) :
    (s.acOp e c bad a uses accs late g).MemOk := by
  unfold State.acOp
  exact .regOp h

theorem State.MemOk.doMul {e : Fin 16} {c : BitVec 4} {a : Fin 2} {rs rt : Fin 16} {m : BitVec 2} (h : s.MemOk) :
    (doMul e c a rs rt m s).MemOk := by
  unfold Machine.doMul
  exact .acOp h

theorem State.MemOk.doMac {e : Fin 16} {c : BitVec 4} {a : Fin 2} {rs rt : Fin 16} {m : BitVec 2} (h : s.MemOk) :
    (doMac e c a rs rt m s).MemOk := by
  unfold Machine.doMac
  exact .acOp h

theorem State.MemOk.doMsu {e : Fin 16} {c : BitVec 4} {a : Fin 2} {rs rt : Fin 16} {m : BitVec 2} (h : s.MemOk) :
    (doMsu e c a rs rt m s).MemOk := by
  unfold Machine.doMsu
  exact .acOp h

theorem State.MemOk.doAcld {e : Fin 16} {c : BitVec 4} {a : Fin 2} {rs : Fin 16} {m : BitVec 2} (h : s.MemOk) :
    (doAcld e c a rs m s).MemOk := by
  unfold Machine.doAcld
  exact .acOp h

theorem State.MemOk.doAcadd {e : Fin 16} {c : BitVec 4} {a : Fin 2} {m : BitVec 2} (h : s.MemOk) : (doAcadd e c a m s).MemOk := by
  unfold Machine.doAcadd
  exact .acOp h

theorem State.MemOk.doAcsh {e : Fin 16} {c : BitVec 4} {a : Fin 2} {n : BitVec 6} (h : s.MemOk) : (doAcsh e c a n s).MemOk := by
  unfold Machine.doAcsh
  exact .acOp h

theorem State.MemOk.doRnd {e : Fin 16} {c : BitVec 4} {rd : Fin 16} {a : Fin 2} {m : BitVec 2} (h : s.MemOk) :
    (doRnd e c rd a m s).MemOk := by
  unfold Machine.doRnd
  exact .regOp h

theorem State.MemOk.doAcx {e : Fin 16} {c : BitVec 4} {rd : Fin 16} {a : Fin 2} {m : BitVec 2} (h : s.MemOk) :
    (doAcx e c rd a m s).MemOk := by
  unfold Machine.doAcx
  exact .regOp h

theorem State.MemOk.doMfs {e : Fin 16} {c : BitVec 4} {rd : Fin 16} {sreg : BitVec 6} (h : s.MemOk) : (doMfs e c rd sreg s).MemOk := by
  unfold Machine.doMfs
  exact .issue h (fun _ _ _ hs => .advance (.setCtx hs))

theorem State.MemOk.doMts {e : Fin 16} {c : BitVec 4} {sreg : BitVec 6} {rs : Fin 16} (h : s.MemOk) : (doMts e c sreg rs s).MemOk := by
  unfold Machine.doMts
  exact .issue h (fun _ _ _ hs => .ite (.advance (.setCtx hs)) (.abortAct hs))

theorem State.MemOk.eccLoad {s u : State} {t e a : Nat} (h : s.MemOk) (hu : s.eccLoad t e a = some u) : u.MemOk := by
  unfold State.eccLoad at hu
  split at hu
  · exact h.eccTask hu
  · exact Option.some.inj hu ▸ h

theorem State.MemOk.loadTo {t e k : Nat} {rd : Fin 16} {a late words : Nat} (h : s.MemOk) : (s.loadTo t e k rd a late words).MemOk := by
  unfold State.loadTo
  exact .ite (by
    split
    · exact .abortAct h
    · extract_lets s1
      have h1 : s1.2.MemOk := .portRead (.eccLoad h ‹_›)
      exact .ite (.advance (.setCtx h1)) (.advance (.setCtx h1)))
      (.ite (.advance (.setCtx h)) (.abortAct (.setCtx h)))

/-- A shadow of a migration only notes what it would store. -/
theorem State.MemOk.storeAt {s u : State} {t e a : Nat} {v : Word} (h : s.MemOk) (hu : s.storeAt t e a v = some u) : u.MemOk := by
  unfold State.storeAt at hu
  extract_lets x sec inState pwm inScratch s1 shadow at hu
  have h1 : s1.MemOk := by
    unfold s1
    split
    · exact .ite h (.ite (.setTask h) (.setTask h))
    · exact h
  clear_value s1
  split at hu
  · split at hu
    · dsimp only at hu
      split at hu
      · exact absurd hu (by simp)
      split at hu
      · exact Option.some.inj hu ▸ h1
      · exact Option.some.inj hu ▸ .postRecord h1
    split at hu
    · exact Option.some.inj hu ▸ .setPost h1
    · exact Option.some.inj hu ▸ h1
  · split at hu
    · exact Option.some.inj hu ▸ h1
    · exact Option.some.inj hu ▸ .portStore h1

theorem State.MemOk.storeTo {t e k a : Nat} {v : Word} {words : Nat} (h : s.MemOk) : (s.storeTo t e k a v words).MemOk := by
  unfold State.storeTo
  exact .ite (by
    split
    · exact .advance (.when (.storeAt h ‹_›) (fun _ hs => .setCtx hs))
    · exact .abortAct h)
      (.abortAct h)

theorem State.MemOk.doLd {e : Fin 16} {c : BitVec 4} {rd : Fin 16} {p : Fin 4} {am : BitVec 2} {off : BitVec 6} (h : s.MemOk) :
    (doLd e c rd p am off s).MemOk := by
  unfold Machine.doLd
  exact .issue h (fun _ _ _ hs => .loadTo (.setCtx hs))

theorem State.MemOk.doSt {e : Fin 16} {c : BitVec 4} {p : Fin 4} {rs : Fin 16} {am : BitVec 2} {off : BitVec 6} (h : s.MemOk) :
    (doSt e c p rs am off s).MemOk := by
  unfold Machine.doSt
  exact .issue h (fun _ _ _ hs => .storeTo (.setCtx hs))

theorem State.MemOk.doLda {e : Fin 16} {c : BitVec 4} {rd : Fin 16} {addr : Word} (h : s.MemOk) : (doLda e c rd addr s).MemOk := by
  unfold Machine.doLda
  exact .issue h (fun _ _ _ hs => .loadTo hs)

theorem State.MemOk.doSta {e : Fin 16} {c : BitVec 4} {addr : Word} {rs : Fin 16} (h : s.MemOk) : (doSta e c addr rs s).MemOk := by
  unfold Machine.doSta
  exact .issue h (fun _ _ _ hs => .storeTo hs)

theorem State.MemOk.doLdr {e : Fin 16} {c : BitVec 4} {rd rs : Fin 16} {m : BitVec 2} (h : s.MemOk) : (doLdr e c rd rs m s).MemOk := by
  unfold Machine.doLdr
  exact .issue h (fun _ _ _ hs => .loadTo hs)

theorem State.MemOk.doStr {e : Fin 16} {c : BitVec 4} {rt rs : Fin 16} {m : BitVec 2} (h : s.MemOk) : (doStr e c rt rs m s).MemOk := by
  unfold Machine.doStr
  exact .issue h (fun _ _ _ hs => .storeTo hs)

theorem State.MemOk.doFence {e : Fin 16} {c : BitVec 4} (h : s.MemOk) : (doFence e c s).MemOk := by
  unfold Machine.doFence
  exact .issue h (fun _ _ _ hs => .advance hs)

theorem State.MemOk.control {e : Fin 16} {c : BitVec 4} {bad : Bool} {words : Nat} {dst uses : List (Fin 16)} {blocked : Nat → Ctx → Bool}
    {cordic : Bool} {f : Nat → Nat → State → State} (h : s.MemOk) (hf : ∀ x0 x1 s, s.MemOk → (f x0 x1 s).MemOk) :
    (s.control e c bad words dst uses blocked cordic f).MemOk := by
  unfold State.control
  exact .issue h (fun _ _ _ hs => .ite (.abortAct hs) (hf _ _ _ hs))

theorem State.MemOk.branch {t e k target : Nat} {leaves : Bool} (h : s.MemOk) : (s.branch t e k target leaves).MemOk := by
  unfold State.branch
  exact .goto (.setCtx (.spend h))

theorem State.MemOk.doBra {e : Fin 16} {c : BitVec 4} {target : BitVec 13} (h : s.MemOk) : (doBra e c target s).MemOk := by
  unfold Machine.doBra
  exact .control h (fun _ _ _ hs => .branch hs)

theorem State.MemOk.doCall {e : Fin 16} {c : BitVec 4} {target : BitVec 13} (h : s.MemOk) : (doCall e c target s).MemOk := by
  unfold Machine.doCall
  exact .control h (fun _ _ _ hs => .ite (.abortAct hs) (.branch (.setCtx hs)))

theorem State.MemOk.doJmpr {e : Fin 16} {c : BitVec 4} {rs : Fin 16} {m : BitVec 2} (h : s.MemOk) : (doJmpr e c rs m s).MemOk := by
  unfold Machine.doJmpr
  exact .control h (fun _ _ _ hs => .branch hs)

theorem State.MemOk.doRet {e : Fin 16} {c : BitVec 4} (h : s.MemOk) : (doRet e c s).MemOk := by
  unfold Machine.doRet
  exact .control h (fun _ _ _ hs => by
    extract_lets
    split
    · exact .abortAct hs
    · exact .branch (.setCtx hs))

theorem State.MemOk.loop_ {t e k off words : Nat} {count : Word} (h : s.MemOk) : (s.loop_ t e k off words count).MemOk := by
  unfold State.loop_
  exact .ite (.abortAct h) (.ite (.goto (.spend h)) (.goto (.setCtx h)))

theorem State.MemOk.doLoopi {e : Fin 16} {c : BitVec 4} {off : BitVec 10} {count : Word} (h : s.MemOk) :
    (doLoopi e c off count s).MemOk := by
  unfold Machine.doLoopi
  exact .control h (fun _ _ _ hs => .ite (.abortAct hs) (.loop_ hs))

theorem State.MemOk.doLoopr {e : Fin 16} {c : BitVec 4} {rs : Fin 16} {off : BitVec 10} (h : s.MemOk) :
    (doLoopr e c rs off s).MemOk := by
  unfold Machine.doLoopr
  exact .control h (fun _ _ _ hs => .ite (.abortAct hs) (.loop_ hs))

theorem State.MemOk.consume {s u : State} {t e k : Nat} {rd : Fin 16} {mask : BitVec 16} (h : s.MemOk) (hu : s.consume t e k rd mask = some u) :
    u.MemOk := by
  obtain ⟨i, -, rfl⟩ := Option.map_eq_some_iff.1 hu
  exact .setCtx (.setPend h)

theorem State.MemOk.doWaitev {e : Fin 16} {c : BitVec 4} {rd : Fin 16} {ext : Word} (h : s.MemOk) : (doWaitev e c rd ext s).MemOk := by
  unfold Machine.doWaitev
  exact .control h (fun _ _ _ hs => .ite (.abortAct hs) (.ite (.advance (.setCtx (.setPend hs))) (by
    split
    · exact .advance (.consume hs ‹_›)
    · exact .ite (.advance (.setCtx hs)) (.advance (.setCtx hs)))))

theorem State.MemOk.doSev {e : Fin 16} {c : BitVec 4} {n : BitVec 6} (h : s.MemOk) : (doSev e c n s).MemOk := by
  unfold Machine.doSev
  exact .issue h (fun _ _ _ hs => .ite (.advance (.when hs (fun _ ht => .raiseEv ht))) (.abortAct hs))

theorem State.MemOk.doYield {e : Fin 16} {c : BitVec 4} (h : s.MemOk) : (doYield e c s).MemOk := by
  unfold Machine.doYield
  exact .control h (fun _ _ _ hs => .endAct hs)

theorem State.MemOk.doBrk {e : Fin 16} {c : BitVec 4} (h : s.MemOk) : (doBrk e c s).MemOk := by
  unfold Machine.doBrk
  exact .issue h (fun _ _ _ hs => .ite (.advance (.setEng hs)) (.abortAct hs))

theorem State.MemOk.doIllegalOp {e : Fin 16} (h : s.MemOk) : (doIllegalOp e s).MemOk := by
  unfold Machine.doIllegalOp
  exact .issue h (fun _ _ _ hs => hs)

/-! ### Releases and stores of a task -/

theorem State.MemOk.waitCharge {t e k : Nat} (h : s.MemOk) : (s.waitCharge t e k).MemOk := by
  unfold State.waitCharge
  exact .ite (.tick (.spend h)) h

theorem State.MemOk.doFabricLoadReturn {t : Fin 96} {k : Fin 4} (h : s.MemOk) : (doFabricLoadReturn t k s).MemOk := by
  unfold Machine.doFabricLoadReturn
  split
  · exact h
  · extract_lets
    split
    · exact h
    · exact .setCtx (.waitCharge h)

theorem State.MemOk.doFabricStoreAck {t : Fin 96} {k : Fin 4} (h : s.MemOk) : (doFabricStoreAck t k s).MemOk := by
  unfold Machine.doFabricStoreAck
  split
  · exact h
  · exact .setCtx (.waitCharge h)

theorem State.MemOk.pendLive {t e i : Nat} (h : s.MemOk) : (s.pendLive t e i).MemOk := by
  unfold State.pendLive
  exact .ite (.abortMig (.of_report (.of_put (.bump (.setTask h))))) (.setTask h)

theorem State.MemOk.pendMirror {t ev : Nat} (h : s.MemOk) : (s.pendMirror t ev).MemOk := by
  unfold State.pendMirror
  split
  · exact .ite (.setTask h) h
  · exact h

theorem State.MemOk.doEventArrival {ev : Fin 512} (h : s.MemOk) : (doEventArrival ev s).MemOk := by
  unfold Machine.doEventArrival
  dsimp only
  exact .ite h (.folds (h.of_eq rfl) (fun _ _ hs => .ite (.folds (.pendMirror hs) (fun _ _ ht => .pendLive ht)) hs))

theorem State.MemOk.wakeOne {t : Nat} {p : Nat × Nat} (h : s.MemOk) : (s.wakeOne t p).MemOk := by
  unfold State.wakeOne
  dsimp only
  split
  · exact h
  · exact .ite h (.getD (fun _ hu => .consume (.setCtx h) hu) (.setCtx h))

theorem State.MemOk.kernelWake {t : Nat} (h : s.MemOk) : (s.kernelWake t).MemOk := by
  unfold State.kernelWake
  exact .ite (.kernelRun (.setTask h)) h

theorem State.MemOk.doWaitevWake {t : Fin 96} (h : s.MemOk) : (doWaitevWake t s).MemOk := by
  unfold Machine.doWaitevWake
  exact .kernelWake (.folds h (fun _ _ hs => .wakeOne hs))

theorem State.MemOk.migRelease {t : Nat} (h : s.MemOk) : (s.migRelease t).1.MemOk := by
  unfold State.migRelease
  dsimp only
  split
  · exact h
  · split
    · exact .takeover h
    · split
      · exact .abortMig h
      · split
        · split
          · exact .takeover h
          · exact .setTask h
        · split
          · split
            · exact .bump h
            · exact h
          · split
            · split
              · exact .abortMig h
              · exact .setTask h
            · split
              · exact .setTask h
              · exact h

theorem State.MemOk.reloadTask {t : Nat} (h : s.MemOk) : (s.reloadTask t).MemOk := by
  unfold State.reloadTask
  exact .ite (.setTask (.initState (.of_setPm h))) h

theorem State.MemOk.release {t : Nat} (h : s.MemOk) : (s.release t).MemOk := by
  unfold State.release
  exact .ite h (.ite (.abortAct h) (by
    extract_lets _ _ _ _ s1
    have h1 : s1.MemOk := .of_startAct (.setTask (.reloadTask h))
    split
    · exact .ite (.of_startAct h1) h1
    · exact h1))

theorem State.MemOk.kernelStart {t : Nat} (h : s.MemOk) : (s.kernelStart t).MemOk := by
  unfold State.kernelStart
  exact .ite (.kernelRun h) (.setTask h)

theorem State.MemOk.doTaskRelease {t : Fin 96} (h : s.MemOk) : (doTaskRelease t s).MemOk := by
  unfold Machine.doTaskRelease
  exact .ite h
      (.ite (h.of_eq rfl)
          (.ite (.migRelease (h.of_eq rfl)) (.ite (.kernelStart (.release (.migRelease (h.of_eq rfl)))) (.release (.migRelease (h.of_eq rfl))))))

theorem State.MemOk.doBudgetOverrun {t : Fin 96} (h : s.MemOk) : (doBudgetOverrun t s).MemOk := by
  unfold Machine.doBudgetOverrun
  split
  · exact .abortAct h
  · exact h

theorem State.MemOk.doDeadlineMiss {t : Fin 96} (h : s.MemOk) : (doDeadlineMiss t s).MemOk := by
  unfold Machine.doDeadlineMiss
  exact .folds h (fun _ _ hs => .abortAct hs)

theorem State.MemOk.rowStore {e : Fin 16} {a : Nat} {v : Word} (h : s.MemOk) : (s.rowStore e a v).MemOk := by
  unfold State.rowStore
  split
  · exact h
  · exact .ite h (.ite (.getD (fun _ hu => .storeAt h hu) (.abortAct h)) (.abortAct h))

theorem State.MemOk.doMailboxRecordComplete {e : Fin 16} {m : Fin 4} {kind : BitVec 4} {inst : BitVec 8} {words : List Word} (h : s.MemOk) :
    (doMailboxRecordComplete e m kind inst words s).MemOk := by
  unfold Machine.doMailboxRecordComplete
  exact .ite (.postRecord h) h

theorem State.MemOk.doMbackAck {e : Fin 16} {m : Fin 4} (h : s.MemOk) : (doMbackAck e m s).MemOk := by
  unfold Machine.doMbackAck
  exact .rowStore h

theorem State.MemOk.doMbackClrOvr {e : Fin 16} {m : Fin 4} (h : s.MemOk) : (doMbackClrOvr e m s).MemOk := by
  unfold Machine.doMbackClrOvr
  exact .rowStore h

theorem State.MemOk.doMbpost {e dst : Fin 16} {m : Fin 4} {len : BitVec 6} (h : s.MemOk) : (doMbpost e dst m len s).MemOk := by
  unfold Machine.doMbpost
  exact .rowStore h

theorem State.MemOk.doRegisterWrite {e : Fin 16} {addr v : Word} (h : s.MemOk) : (doRegisterWrite e addr v s).MemOk := by
  unfold Machine.doRegisterWrite
  exact .rowStore h

theorem State.MemOk.doCommitGo {e : Fin 16} {cl : Fin 12} (h : s.MemOk) : (doCommitGo e cl s).MemOk := by
  unfold Machine.doCommitGo
  exact .rowStore h

theorem State.MemOk.doAdswt {e : Fin 16} {a : Fin 4} {swn : BitVec 4} (h : s.MemOk) : (doAdswt e a swn s).MemOk := by
  unfold Machine.doAdswt
  exact .rowStore h

theorem State.MemOk.doCwthr {e : Fin 16} {k : Fin 48} {v : Word} (h : s.MemOk) : (doCwthr e k v s).MemOk := by
  unfold Machine.doCwthr
  exact .rowStore h

theorem State.MemOk.doQposRead {e : Fin 16} {n : Fin 4} (h : s.MemOk) : (doQposRead e n s).MemOk := by
  unfold Machine.doQposRead
  split
  · exact h
  · exact .ite h (.ite (.portRead h) (.abortAct h))

theorem State.MemOk.doClrRawrev {e : Fin 16} {n : Fin 4} (h : s.MemOk) : (doClrRawrev e n s).MemOk := by
  unfold Machine.doClrRawrev
  exact .rowStore h

theorem State.MemOk.doPosSet {e : Fin 16} {n : Fin 4} (h : s.MemOk) : (doPosSet e n s).MemOk := by
  unfold Machine.doPosSet
  exact .rowStore h

theorem State.MemOk.doCttgt {e : Fin 16} {n : Fin 4} {k : Fin 16} {v : Word} (h : s.MemOk) : (doCttgt e n k v s).MemOk := by
  unfold Machine.doCttgt
  exact .rowStore h

theorem State.MemOk.doCtcfg {e : Fin 16} {n : Fin 4} {k : Fin 16} {v : Word} (h : s.MemOk) : (doCtcfg e n k v s).MemOk := by
  unfold Machine.doCtcfg
  exact .rowStore h

theorem State.MemOk.doFaultRequest {e : Fin 16} {cause : BitVec 8} (h : s.MemOk) : (doFaultRequest e cause s).MemOk := by
  unfold Machine.doFaultRequest
  exact .rowStore h

/-! ### Debug access and memory access -/

theorem State.MemOk.runEngine {i : Instr} (h : s.MemOk) : (runEngine i s).MemOk := by
  unfold Machine.runEngine
  split
  · exact .doNop h
  · exact .doMov h
  · exact .doLdi h
  · exact .doMovi h
  · exact .doMfs h
  · exact .doMts h
  · exact .doSev h
  · exact .doFence h
  · exact .doAdd h
  · exact .doAdds h
  · exact .doSub h
  · exact .doSubs h
  · exact .doNeg h
  · exact .doAbs h
  · exact .doMin h
  · exact .doMax h
  · exact .doAnd h
  · exact .doOr h
  · exact .doXor h
  · exact .doNot h
  · exact .doShl h
  · exact .doShr h
  · exact .doShli h
  · exact .doShri h
  · exact .doClamp h
  · exact .doNorm h
  · exact .doMulw h
  · exact .doRcps h
  · exact .doRsqs h
  · exact .doCsc h
  · exact .doCat h
  · exact .doCmp h
  · exact .doCmpu h
  · exact .doCmpi h
  · exact .doFlog h
  · exact .doSel h
  · exact .doMul h
  · exact .doMac h
  · exact .doMsu h
  · exact .doAcld h
  · exact .doAcadd h
  · exact .doAcsh h
  · exact .doRnd h
  · exact .doAcx h
  · exact .doLd h
  · exact .doSt h
  · exact .doLda h
  · exact .doSta h
  · exact .doLdr h
  · exact .doStr h
  · exact .doBrk h
  · exact .doBra h
  · exact .doCall h
  · exact .doJmpr h
  · exact .doRet h
  · exact .doLoopi h
  · exact .doLoopr h
  · exact .doWaitev h
  · exact .doYield h
  · exact .doIllegalOp h
  · exact h

theorem State.MemOk.setIr {c : BitVec 5} (h : s.MemOk) : (s.setIr c).MemOk := h.of_eq rfl

theorem State.MemOk.engdbg {f : State → State} (h : s.MemOk) (hf : ∀ s, s.MemOk → (f s).MemOk) : (s.engdbg f).MemOk := by
  unfold State.engdbg
  exact .ite (.setIr h) (hf _ (.setIr h))

theorem State.MemOk.dbgResult {cmd e ctx index data : Nat} (h : s.MemOk) : (s.dbgResult cmd e ctx index data).MemOk := by
  unfold State.dbgResult
  exact h.of_eq rfl

theorem State.MemOk.doHalt {e : Fin 16} (h : s.MemOk) : (doHalt e s).MemOk := by
  unfold Machine.doHalt
  exact .engdbg h (fun _ hs => .ite (.setEng hs) (by
    extract_lets _ _ s1
    have h1 : s1.MemOk := .folds (.setEng hs) (fun _ _ ht => .ite (.abortMig ht) ht)
    exact .ite h1 (.condOn h1)))

theorem State.MemOk.doResumeEngine {e : Fin 16} (h : s.MemOk) : (doResumeEngine e s).MemOk := by
  unfold Machine.doResumeEngine
  dsimp only
  exact .engdbg h (fun _ hs => .ite (.folds (.condOff (.setEng hs)) (fun _ _ ht => by
    split
    · exact ht
    · exact .ite (.setCtx ht) ht))
      (hs))

theorem State.MemOk.doStep {e : Fin 16} (h : s.MemOk) : (doStep e s).MemOk := by
  unfold Machine.doStep
  exact .engdbg h (fun _ hs => .ite (by
    split
    · exact hs
    · extract_lets _ _ s1
      have h1 : s1.MemOk := by
        unfold s1
        split
        · exact .runEngine (.setEng hs)
        · exact .abortAct (.setEng hs)
      exact .setEng h1)
      (hs))

theorem State.MemOk.doStatus {e : Fin 16} (h : s.MemOk) : (doStatus e s).MemOk := by
  unfold Machine.doStatus
  exact .engdbg h (fun _ hs => .dbgResult hs)

theorem State.MemOk.doReadReg {e : Fin 16} {ctx : Fin 6} {index : BitVec 13} (h : s.MemOk) : (doReadReg e ctx index s).MemOk := by
  unfold Machine.doReadReg
  exact .engdbg h (fun _ hs => .ite (.dbgResult hs) (.ite (.dbgResult hs) (.ite (.dbgResult hs) (.ite (.dbgResult hs) (.tick (.dbgResult hs))))))

theorem State.MemOk.doReadPm {e : Fin 16} {addr : BitVec 13} (h : s.MemOk) : (doReadPm e addr s).MemOk := by
  unfold Machine.doReadPm
  exact .engdbg h (fun _ hs => .dbgResult hs)

theorem State.MemOk.doExtest {l : List Bool} (h : s.MemOk) : (doExtest l s).MemOk := by
  unfold Machine.doExtest
  exact .ite (h.of_eq rfl) (.setIr h)

theorem State.MemOk.doIdcode (h : s.MemOk) : (doIdcode s).MemOk := by
  unfold Machine.doIdcode
  exact .setIr h

theorem State.MemOk.doSamplePreload {sampled shifted : List Bool} (h : s.MemOk) : (doSamplePreload sampled shifted s).MemOk := h.of_eq rfl

theorem State.MemOk.doClampTest (h : s.MemOk) : (doClampTest s).MemOk := by
  unfold Machine.doClampTest
  exact .ite (h.of_eq rfl) (.setIr h)

theorem State.MemOk.doBypass {code : BitVec 5} (h : s.MemOk) : (doBypass code s).MemOk := by
  unfold Machine.doBypass
  exact .ite h (.setIr h)

end Sys2Proof.Machine
end

section
/-! SUPPORT. The dictionary protocol, the tick, and every command:
each step keeps the canonical form of the word memories. -/

namespace Sys2Proof.Machine

variable {s : State}

/-! ### Reads of entries -/

theorem State.MemOk.readEffect {k : Nat} (h : s.MemOk) : (s.readEffect k).MemOk := by
  unfold State.readEffect
  exact .ite (.ite (.setSc h) h) (.ite (by
    split
    · exact .ite (.updRec h) h
    · exact h)
      (.ite (.ite (.of_put h) h) (.when h (fun _ hs => .tick hs))))

theorem State.MemOk.doRead {q : Req} {key : BitVec 24} (h : s.MemOk) : (doRead q key s).MemOk := by
  unfold Machine.doRead
  exact .serve h (fun _ hs => by
    split
    · exact .refuse hs
    · exact .readEffect (.respond hs))

theorem State.MemOk.doNextKey {q : Req} {key : BitVec 24} (h : s.MemOk) : (doNextKey q key s).MemOk := by
  unfold Machine.doNextKey
  exact .serve h (fun _ hs => by
    split
    · exact .respond hs
    · exact .refuse hs)

theorem State.MemOk.doDescribe {q : Req} {key : BitVec 24} (h : s.MemOk) : (doDescribe q key s).MemOk := by
  unfold Machine.doDescribe
  exact .serve h (fun _ hs => by
    split
    · exact .refuse hs
    · exact .ite (.refuse hs) (.respond hs))

theorem State.MemOk.doReadRange {q : Req} {key : BitVec 24} {n : BitVec 8} (h : s.MemOk) : (doReadRange q key n s).MemOk := by
  unfold Machine.doReadRange
  exact .serve h (fun _ hs => .ite (.refuse hs) (.ite (.refuse hs) (.ite (.refuse hs) (by
    extract_lets
    split
    · exact .refuse hs
    · exact .ite (.refuse hs) (.folds (.respond hs) (fun _ _ ht => .readEffect ht))))))

/-! ### Writes of entries -/

theorem State.MemOk.markDue {l b : Nat} (h : s.MemOk) : (s.markDue l b).MemOk := by
  unfold State.markDue
  exact .setLane h

theorem State.MemOk.writeEffect {k : Nat} (h : s.MemOk) : (s.writeEffect k).MemOk := by
  unfold State.writeEffect
  extract_lets _ _ _ s1
  have h1 : s1.MemOk := .ite (.setCw h) h
  split
  · exact .ite (.sdRelease h) (.ite (.markDue h) h)
  · exact .ite (.ite (.gvddOff h) h) (.ite (.markDue h) h)
  · split
    · exact .sendCfgWord h1
    · exact h1
  · exact .ite (.qeIndexSee h) h
  · exact h

theorem State.MemOk.writeAcross {q : Req} {k v d a : Nat} (h : s.MemOk) : (s.writeAcross q k v d a).MemOk := by
  unfold State.writeAcross
  exact .ite (.refuse h) (.holdTag (.withAcq (.writeEffect (.putKey h))))

theorem State.MemOk.writePlain {q : Req} {k v : Nat} (h : s.MemOk) : (s.writePlain q k v).MemOk := by
  unfold State.writePlain
  split
  · exact .ite (.serve h (fun _ hs => by
      split
      · exact .refuse hs
      · exact .refuse hs
      · exact .writeAcross hs))
        (.dictWriteR h (fun _ hs => .writeEffect hs))
  · exact .dictWriteR h (fun _ hs => .writeEffect hs)

theorem State.MemOk.doRxmEnable {q : Req} {m : Fin 32} {v : BitVec 48} (h : s.MemOk) : (doRxmEnable q m v s).MemOk := by
  unfold Machine.doRxmEnable
  exact .dictWriteR h (fun _ hs => .ite (.of_put hs) (.ite (.placeRxm hs) hs))

theorem State.MemOk.doTxmEnable {q : Req} {m : Fin 32} {v : BitVec 48} (h : s.MemOk) : (doTxmEnable q m v s).MemOk := by
  unfold Machine.doTxmEnable
  exact .dictWriteR h (fun _ hs => hs)

theorem State.MemOk.stageCmdOf {q : Req} {g : Fin 12} {v : Nat} (h : s.MemOk) : (s.stageCmdOf q g v).MemOk := by
  unfold State.stageCmdOf
  split
  · exact .doDeclare h
  · exact .doRemove h
  · exact .doArm h
  · exact .doRun h
  · exact .doStop h
  · exact .doStageDisarm h
  · exact .doClear h

theorem State.MemOk.deviceCmd {q : Req} {v : Nat} (h : s.MemOk) : (s.deviceCmd q v).MemOk := by
  unfold State.deviceCmd
  split
  · exact .doWarmRestart h
  · exact .doSoftReset h
  · exact .doRestartNormal h
  · exact .doStandby h
  · exact .doPark h
  · exact .doWake h
  · exact .doFactoryTest h

theorem State.MemOk.writeCmd {q : Req} {k v : Nat} (h : s.MemOk) : (s.writeCmd q k v).MemOk := by
  unfold State.writeCmd
  extract_lets
  split
  · exact .deviceCmd h
  · exact .ite (.doDefaults h) (.doRejectPatches h)
  · exact .ite (.doTaskDeclare h) (.doTaskRemove h)
  · exact .doQuadFmax h
  · exact .doJobCancel h
  · exact .doKimgDelete h
  · exact .doLaneEnable h
  · exact .ite (.doTrain h) (.doRetrainCmd h)
  · exact .doSatRead h
  · exact .doOstCmd h
  · exact .doCwCheckCmd h
  · exact .doQeEnable h
  · exact .doQeRawrevClr h
  · exact .doClearCode h
  · exact .doClearAll h
  · exact .doInjCode h
  · exact .doInjSource h
  · exact .doShedCmd h
  · exact .doPatchFloorRaise h
  · exact .doOverrideWrite h
  · exact .doOverrideWrite h
  · exact .doOverrideWrite h
  · exact .doOvrClear h
  · exact .doOtpBurn h
  · exact .ite (.doLock h) (.doComplete h)
  · exact .doOtpAudit h
  · exact .ite (.doCanStart h) (.ite (.doCanStop h) (.doRecover h))
  · exact .stageCmdOf h
  · exact .doIdCmd h
  · exact .doIdApply h
  · exact .doRxmEnable h
  · exact .doTxmEnable h
  · exact .ite (.doParameterPost h) (.writePlain h)
  · exact .writePlain h

theorem State.MemOk.writeType {q : Req} {k : Nat} (h : s.MemOk) : (s.writeType q k).MemOk := by
  unfold State.writeType
  exact .serve h (fun _ hs => by split <;> exact .refuse hs)

theorem State.MemOk.writeKey {q : Req} {k len v : Nat} (h : s.MemOk) : (s.writeKey q k len v).MemOk := by
  unfold State.writeKey
  split
  · exact .writePlain h
  · exact .ite (.writePlain h) (.ite (.writeType h) (.ite (.writeCmd h) (.writePlain h)))

theorem State.MemOk.doWrite {q : Req} {key : BitVec 24} {len : BitVec 8} {v : BitVec 48} (h : s.MemOk) :
    (doWrite q key len v s).MemOk := by
  unfold Machine.doWrite
  exact .writeKey h

theorem State.MemOk.writeValue {q : Req} {k : Nat} {l : List Byte} (h : s.MemOk) : (s.writeValue q k l).MemOk := by
  unfold State.writeValue
  exact .ite (by
    split
    · exact .writeType h
    · exact .ite (.doKimgLoad h) (.doPatchLoad h))
      (.writeKey h)

/-! ### The dictionary protocol -/

theorem State.MemOk.segJobFails {g : Seg} {e : Nat} (h : s.MemOk) : (s.segJobFails g e).MemOk := by
  unfold State.segJobFails
  exact .ite (.endJob h) h

theorem State.MemOk.abortSegs {n : Nat} (h : s.MemOk) : (s.abortSegs n).MemOk := by
  unfold State.abortSegs
  exact .folds (.setSess h) (fun _ _ hs => .segJobFails (.bump hs))

theorem State.MemOk.disown {n : Nat} (h : s.MemOk) : (s.disown n).MemOk := h.of_eq rfl

theorem State.MemOk.endSession {n : Nat} (h : s.MemOk) : (s.endSession n).MemOk := by
  unfold State.endSession
  extract_lets _ _ _ _ s1
  have h1 : s1.MemOk := .of_put (.of_put (.setSess (.disown (.abortSegs h))))
  exact .ite (.setCan h1) h1

theorem State.MemOk.doHello {ses : Fin 2} {tag : BitVec 6} {lo hi : BitVec 16} (h : s.MemOk) : (doHello ses tag lo hi s).MemOk := by
  unfold Machine.doHello
  exact .ite h (.ite (.refuse h) (by
    extract_lets
    split
    · exact .refuse (.setSess (.endSession h))
    · exact .respond (.of_put (.of_put (.setSess (.endSession h))))))

theorem State.MemOk.dropSeg {n : Nat} {g : Seg} (h : s.MemOk) : (s.dropSeg n g).MemOk := by
  unfold State.dropSeg
  exact .setSess h

theorem State.MemOk.setSeg {n : Nat} {g : Seg} (h : s.MemOk) : (s.setSeg n g).MemOk := by
  unfold State.setSeg
  exact .setSess h

theorem State.MemOk.sendSeg {q : Req} {body : List Byte} (h : s.MemOk) : (s.sendSeg q body).MemOk := by
  unfold State.sendSeg
  exact .setSess h

theorem State.MemOk.segFail {q : Req} {g : Seg} {e : Nat} (h : s.MemOk) : (s.segFail q g e).MemOk := by
  unfold State.segFail
  exact .refuse (.segJobFails (.bump (.dropSeg h)))

theorem State.MemOk.doChallenge {q : Req} {level : BitVec 8} (h : s.MemOk) : (doChallenge q level s).MemOk := by
  unfold Machine.doChallenge
  exact .serve h (fun _ hs => .ite (.refuse hs) (by
    split
    · exact .refuse hs
    · exact .ite (.refuse hs) (.respond (.setSess (.tick hs)))))

theorem State.MemOk.authFail {q : Req} (h : s.MemOk) : (s.authFail q).MemOk := by
  unfold State.authFail
  exact .refuse (.bump (.setSess h))

theorem State.MemOk.unlockWith {q : Req} {level : Nat} {mac : List Byte} (h : s.MemOk) : (s.unlockWith q level mac).MemOk := by
  unfold State.unlockWith
  extract_lets
  split
  · exact .authFail h
  · exact .ite (.authFail h) (.respond (.when (.of_put (.setSess h)) (fun _ hs => .of_report hs)))

theorem State.MemOk.doUnlock {q : Req} {level : BitVec 8} {mac : List Byte} (h : s.MemOk) : (doUnlock q level mac s).MemOk := by
  unfold Machine.doUnlock
  exact .serve h (fun _ hs => .unlockWith hs)

theorem State.MemOk.doLockSession {q : Req} (h : s.MemOk) : (doLockSession q s).MemOk := by
  unfold Machine.doLockSession
  exact .serve h (fun _ hs => .respond (.of_put hs))

theorem State.MemOk.doServiceTimeout {ses : Fin 2} (h : s.MemOk) : (doServiceTimeout ses s).MemOk := by
  unfold Machine.doServiceTimeout
  exact .ite (.of_put h) h

theorem State.MemOk.doAuthLockoutEnd {ses : Fin 2} (h : s.MemOk) : (doAuthLockoutEnd ses s).MemOk := by
  unfold Machine.doAuthLockoutEnd
  exact .setSess h

theorem State.MemOk.doStoredResponseExpiry {ses : Fin 2} {tag : BitVec 6} (h : s.MemOk) : (doStoredResponseExpiry ses tag s).MemOk := by
  unfold Machine.doStoredResponseExpiry
  exact .setSess h

theorem State.MemOk.feed {q : Req} {g : Seg} (h : s.MemOk) : (s.feed q g).MemOk := by
  unfold State.feed
  extract_lets
  split
  · exact .ite (.setJob h) h
  · exact h

theorem State.MemOk.segDone {q : Req} {g : Seg} (h : s.MemOk) : (s.segDone q g).MemOk := by
  unfold State.segDone
  exact .ite (.ite (.refuse (.segJobFails (.dropSeg h))) (.ite (.holdTag (.respond (.dropSeg h))) (.respond (.dropSeg h))))
      (.ite (.writeValue (.setSess (.dropSeg h))) (.unlockWith (.setSess (.dropSeg h))))

theorem State.MemOk.segStart {q : Req} {op k total : Nat} {l : List Byte} (h : s.MemOk) : (s.segStart q op k total l).MemOk := by
  unfold State.segStart
  dsimp only
  exact .serve h
      (fun _ hs => .ite
          (.ite (.writeType hs)
              (.ite
                  (.ite (.segDone (.feed (.setSess (.holdTag (.setSess (.ite (.doKimgLoad hs) (.doPatchLoad hs)))))))
                      (.feed (.setSess (.holdTag (.setSess (.ite (.doKimgLoad hs) (.doPatchLoad hs)))))))
                  (.ite (.doKimgLoad hs) (.doPatchLoad hs))))
          (.ite (.segDone (.feed (.setSess (.holdTag hs)))) (.feed (.setSess (.holdTag hs)))))

theorem State.MemOk.doSegData {q : Req} {counter : BitVec 8} {data : List Byte} (h : s.MemOk) : (doSegData q counter data s).MemOk := by
  unfold Machine.doSegData
  split
  · exact .serve h (fun _ hs => hs)
  · exact .ite (.segFail h) (by
      extract_lets _ s1
      have h1 : s1.MemOk := .feed (.setSeg h)
      exact .ite (.segDone h1) (.ite (.sendSeg (.setSeg h1)) h1))

theorem State.MemOk.sendSegs {q : Req} {g : Seg} {cap n : Nat} (h : s.MemOk) : (s.sendSegs q g cap n).MemOk := by
  induction n generalizing s g with
  | zero => exact .setSeg h
  | succ n ih =>
    unfold State.sendSegs
    exact .ite (.dropSeg h) (.ite (.dropSeg (.sendSeg h)) (ih (.sendSeg h)))

theorem State.MemOk.doSegNext {q : Req} {n : BitVec 8} (h : s.MemOk) : (doSegNext q n s).MemOk := by
  unfold Machine.doSegNext
  exact .serve h (fun _ hs => by
    split
    · exact .refuse hs
    · exact .ite (.refuse hs) (.sendSegs hs))

theorem State.MemOk.doAbort {q : Req} (h : s.MemOk) : (doAbort q s).MemOk := by
  unfold Machine.doAbort
  extract_lets
  split
  · exact .respond (.segFail h)
  · exact .serve h (fun _ hs => by
      split
      · exact .respond (.bump (.dropSeg hs))
      · exact .respond hs)

theorem State.MemOk.doSegTimeout {ses : Fin 2} {tag : BitVec 6} (h : s.MemOk) : (doSegTimeout ses tag s).MemOk := by
  unfold Machine.doSegTimeout
  split
  · exact .segFail h
  · exact h

theorem State.MemOk.badFrame {q : Req} {op k : Nat} (h : s.MemOk) : (s.badFrame q op k).MemOk := by
  unfold State.badFrame
  exact .serve h (fun _ hs => .refuse hs)

theorem State.MemOk.frame2 {ses : Fin 2} {l : List Byte} (h : s.MemOk) : (s.frame2 ses l).MemOk := by
  unfold State.frame2
  exact .ite h (.ite (.badFrame h) (.ite (.ite (.doSegData h) (.badFrame h)) (.ite (.badFrame h) (.ite (.ite (.segStart h) (.badFrame h))
      (by
        split
        · exact .ite (.doRead h) (.badFrame h)
        · exact .writeValue h
        · exact .ite (.doNextKey h) (.badFrame h)
        · exact .ite (.doDescribe h) (.badFrame h)
        · exact .ite (.doSegNext h) (.badFrame h)
        · exact .ite (.doAbort h) (.badFrame h)
        · exact .ite (.doReadRange h) (.badFrame h)
        · exact .ite (.doChallenge h) (.badFrame h)
        · exact .ite (.doUnlock h) (.badFrame h)
        · exact .ite (.doLockSession h) (.badFrame h)
        · exact .badFrame h)))))

theorem State.MemOk.frame12 {ses : Fin 2} {l : List Byte} (h : s.MemOk) : (s.frame12 ses l).MemOk := by
  unfold State.frame12
  exact .ite h (by
    split
    · exact .ite (.doRead h) (.badFrame h)
    · exact .ite (.writeValue h) (.badFrame h)
    · exact .ite (.doSegData h) (.badFrame h)
    · exact .ite (.doSegNext h) (.badFrame h)
    · exact .doAbort h
    · exact .ite (.segStart h) (.badFrame h)
    · exact .badFrame h)

theorem State.MemOk.helloFrame {ses : Fin 2} {l : List Byte} (h : s.MemOk) : (s.helloFrame ses l).MemOk := by
  unfold State.helloFrame
  exact .ite (.doHello h) (.ite (.refuse h) h)

theorem State.MemOk.open12 (h : s.MemOk) : s.open12.MemOk := by
  unfold State.open12
  exact .of_put (.of_put h)

theorem State.MemOk.request {ses : Fin 2} {l : List Byte} {fmt : Nat} (h : s.MemOk) : (s.request ses l fmt).MemOk := by
  unfold State.request
  exact .ite h (.ite (.helloFrame h) (by
    extract_lets s1 _ _ s2
    have h1 : s1.MemOk := .ite (.open12 h) h
    have h2 : s2.MemOk := .ite h1 (.setSess h1)
    exact .ite (.frame12 h2) (.frame2 h2)))

theorem State.MemOk.rxTake {m : Nat} {f : CanFrame} (h : s.MemOk) : (s.rxTake m f).MemOk := by
  unfold State.rxTake
  exact .ite (.bump h) (.raiseEv (.withRxAt (.bump (.ite h (.folds h (fun _ _ hs => .of_setMemWord hs))))))

theorem State.MemOk.rxStore {n : Nat} {first : Bool} {f : CanFrame} (h : s.MemOk) : (s.rxStore n first f).MemOk := by
  unfold State.rxStore
  exact .ite (.bump h) (.setCan h)

theorem State.MemOk.rxDrain {n : Nat} (h : s.MemOk) : (s.rxDrain n).MemOk := by
  unfold State.rxDrain
  exact .ite h (by
    extract_lets _ s1
    have h1 : s1.MemOk := .folds (.setCan h) (fun _ _ hs => .request hs)
    exact .ite h1 (.folds h1 (fun _ _ hs => .folds hs (fun _ _ ht => .rxTake ht))))

theorem State.MemOk.rxGood {n : Nat} (h : s.MemOk) : (s.rxGood n).MemOk := by
  unfold State.rxGood
  exact .ite h (.ite (.canJudge (.setCan (.tick h))) (.canJudge (.setCan h)))

theorem State.MemOk.doCanFrameReceived {n : Fin 4} {frame : CanFrame} (h : s.MemOk) : (doCanFrameReceived n frame s).MemOk := by
  unfold Machine.doCanFrameReceived
  exact .ite h
      (.canKick (.rxDrain (.when (.when (.when (.rxGood h) (fun _ hs => .of_report hs)) (fun _ hs => .rxStore hs)) (fun _ hs => .rxStore hs))))

theorem State.MemOk.doTxmPeriod {m : Fin 32} (h : s.MemOk) : (doTxmPeriod m s).MemOk := by
  unfold Machine.doTxmPeriod
  exact .ite h (.canKick (.bump (.loadTx (.folds h (fun _ _ hs => .when hs (fun _ ht => .tick ht))))))

theorem State.MemOk.doNotificationSend {ses : Fin 2} (h : s.MemOk) : (doNotificationSend ses s).MemOk := by
  unfold Machine.doNotificationSend
  dsimp only
  split
  · exact h
  · split
    · exact h
    · exact .ite h (by
        split
        · exact .setSess h
        · exact .ite (.canKick (.loadTx (.setSess h))) (.withLport (.setSess h)))

theorem State.MemOk.localReset (h : s.MemOk) : s.localReset.MemOk := by
  unfold State.localReset
  exact .when (.setSess (.withLport (.endSession h))) (fun _ hs => .notifyOne hs)

theorem State.MemOk.doLocalPortReset (h : s.MemOk) : (doLocalPortReset s).MemOk := by
  unfold Machine.doLocalPortReset
  exact .ite (.localReset h) h

theorem State.MemOk.localLoad (h : s.MemOk) : s.localLoad.MemOk := by
  unfold State.localLoad
  exact .ite h (by
    split
    · exact .withLport (.takeResp h ‹_›)
    · split
      · exact h
      · exact h.of_eq rfl)

theorem State.MemOk.localBad (h : s.MemOk) : s.localBad.MemOk := by
  unfold State.localBad
  exact .ite (.of_report (.localReset (.withLport (.bump h)))) (.withLport (.bump h))

theorem State.MemOk.doLocalTransaction {bytes : List Byte} (h : s.MemOk) : (doLocalTransaction bytes s).MemOk := by
  unfold Machine.doLocalTransaction
  exact .ite h (.ite (.localBad (.withLport (.localLoad h))) (.ite (.localReset (.withLport (.withLport (.localLoad h))))
      (by
        extract_lets _ _ _ s1
        have h1 : s1.MemOk := .ite (.withLport (.withLport (.withLport (.localLoad h)))) (.withLport (.withLport (.localLoad h)))
        exact .localLoad (.ite (.request h1) h1))))

/-! ### Received frames -/

theorem State.MemOk.upBytes {l : Fin 36} {ty : Byte} {p : List Byte} {t4 : EdgeTime} (h : s.MemOk) : (s.upBytes l ty p t4).MemOk := by
  unfold State.upBytes
  extract_lets _ _ _ _ s1
  have h1 : s1.MemOk := by
    unfold s1
    split
    · exact .doTest h
    · exact .doTrainRsp h
    · exact .doTrainAck h
    · exact .doCfgRsp h
    · exact .doStatusFrame h
    · exact .doEdgeTele h
    · exact .doAlarm h
    · exact .doVolleyRep h
    · exact .ite (.doAdcRes h) h
    · exact .ite (.doHkRes h) h
    · exact h
  exact .setRx h1

theorem State.MemOk.downBytes {d : Fin 4} {ty : Byte} {p : List Byte} (h : s.MemOk) : (s.downBytes d ty p).MemOk := by
  unfold State.downBytes
  extract_lets
  split
  · exact .doTrainReq h
  · exact .doTrainSet h
  · exact .doTest h
  · exact .doCfgWr h
  · exact .doCfgRd h
  · exact .doAdcTrig h
  · exact h

theorem State.MemOk.downCommand {d : Fin 4} {w : BitVec 48} (h : s.MemOk) : (s.downCommand d w).MemOk := by
  unfold State.downCommand
  extract_lets
  split
  · exact .doEdgeOn h
  · exact .doEdgeOff h
  · exact .doHoldOff h
  · exact .doProfileSet h
  · exact .doResume h
  · exact .doMark h
  · exact .doVolley h
  · exact .doTimeAdj h
  · exact .doNopCommand h

theorem State.MemOk.downGroup {d : Fin 4} {g : BitVec 10} (h : s.MemOk) : (s.downGroup d g).MemOk := by
  unfold State.downGroup
  extract_lets x c r s1
  have h1 : s1.MemOk := .setDl h
  clear_value s1 r
  generalize r.2 = o
  cases o with
  | command w => exact .downCommand h1
  | frame ty p => exact .downBytes h1
  | kill => exact .doKillReceived h1
  | none | mark | discarded => exact h1

theorem State.MemOk.upDone {l : Fin 36} {x : Asmd} (h : s.MemOk) : (s.upDone l x).MemOk := by
  unfold State.upDone
  split
  · exact .upBytes h
  · exact .doSatAlarm h
  · exact .tick (.setRx h)
  · exact h

theorem State.MemOk.upLost {l : Nat} (h : s.MemOk) : (s.upLost l).MemOk := by
  unfold State.upLost
  exact .ite h (by
    split
    · exact h
    · exact .upPop (.ite (.alarmSent h) h))

theorem State.MemOk.upGroup {l : Fin 36} {g : BitVec 10} (h : s.MemOk) : (s.upGroup l g).MemOk := by
  unfold State.upGroup
  dsimp only
  split
  · split <;> exact .sdSlot (.when (.setRx h) (fun _ hs => .codeError hs))
  · exact .commaSeen (.when (.setRx h) (fun _ hs => .codeError hs))
  · exact .upDone (.when (.when (.setRx (.when (.setRx h) (fun _ hs => .codeError hs))) (fun _ hs => .setLane hs)) (fun _ hs => .upLost hs))

theorem State.MemOk.doLaneCodeErr {l : Fin 36} {inFrame : Bool} {g : BitVec 10} {down : Bool} (h : s.MemOk) :
    (doLaneCodeErr l inFrame g down s).MemOk := by
  unfold Machine.doLaneCodeErr
  exact .ite (.dite (fun _ => .downGroup h) (fun _ => h)) (.when (.upGroup h) (fun _ hs => .upLost hs))

/-! ### One tick of CLK_TB -/

theorem State.MemOk.upsetTick (h : s.MemOk) : s.upsetTick.MemOk := .ite (.tick (.setUpset h _ _)) (.tick h)

theorem State.MemOk.dieTick (h : s.MemOk) : s.dieTick.MemOk := by
  unfold State.dieTick
  exact .folds h (fun _ _ hs => by
    extract_lets s1
    have h1 : s1.MemOk := .when hs (fun _ ht => .applyAdj ht)
    exact .ite (.folds h1 (fun _ _ ht => .sendStatus ht)) h1)

theorem State.MemOk.idle (h : s.MemOk) : s.idle.MemOk := by
  unfold State.idle
  extract_lets _ s1
  have h1 : s1.MemOk := .slice (.upsetTick (.dieTick (.ite h (.carriers (h.of_eq rfl)))))
  exact .ite h1 (.canKick h1)

/-! ### Every command, and the step -/

/-- Every command completes, and keeps the canonical form. -/
theorem exec_memOk (c : Instr) (h : s.MemOk) : ∃ t, exec c s = .next t ∧ t.MemOk := by
  cases c with
  | nop => exact ⟨_, rfl, h.doNop⟩
  | mov => exact ⟨_, rfl, h.doMov⟩
  | ldi => exact ⟨_, rfl, h.doLdi⟩
  | movi => exact ⟨_, rfl, h.doMovi⟩
  | mfs => exact ⟨_, rfl, h.doMfs⟩
  | mts => exact ⟨_, rfl, h.doMts⟩
  | sev => exact ⟨_, rfl, h.doSev⟩
  | fence => exact ⟨_, rfl, h.doFence⟩
  | add => exact ⟨_, rfl, h.doAdd⟩
  | adds => exact ⟨_, rfl, h.doAdds⟩
  | sub => exact ⟨_, rfl, h.doSub⟩
  | subs => exact ⟨_, rfl, h.doSubs⟩
  | neg => exact ⟨_, rfl, h.doNeg⟩
  | abs => exact ⟨_, rfl, h.doAbs⟩
  | min => exact ⟨_, rfl, h.doMin⟩
  | max => exact ⟨_, rfl, h.doMax⟩
  | and => exact ⟨_, rfl, h.doAnd⟩
  | or => exact ⟨_, rfl, h.doOr⟩
  | xor => exact ⟨_, rfl, h.doXor⟩
  | not => exact ⟨_, rfl, h.doNot⟩
  | shl => exact ⟨_, rfl, h.doShl⟩
  | shr => exact ⟨_, rfl, h.doShr⟩
  | shli => exact ⟨_, rfl, h.doShli⟩
  | shri => exact ⟨_, rfl, h.doShri⟩
  | clamp => exact ⟨_, rfl, h.doClamp⟩
  | norm => exact ⟨_, rfl, h.doNorm⟩
  | mulw => exact ⟨_, rfl, h.doMulw⟩
  | rcps => exact ⟨_, rfl, h.doRcps⟩
  | rsqs => exact ⟨_, rfl, h.doRsqs⟩
  | csc => exact ⟨_, rfl, h.doCsc⟩
  | cat => exact ⟨_, rfl, h.doCat⟩
  | cmp => exact ⟨_, rfl, h.doCmp⟩
  | cmpu => exact ⟨_, rfl, h.doCmpu⟩
  | cmpi => exact ⟨_, rfl, h.doCmpi⟩
  | flog => exact ⟨_, rfl, h.doFlog⟩
  | sel => exact ⟨_, rfl, h.doSel⟩
  | mul => exact ⟨_, rfl, h.doMul⟩
  | mac => exact ⟨_, rfl, h.doMac⟩
  | msu => exact ⟨_, rfl, h.doMsu⟩
  | acld => exact ⟨_, rfl, h.doAcld⟩
  | acadd => exact ⟨_, rfl, h.doAcadd⟩
  | acsh => exact ⟨_, rfl, h.doAcsh⟩
  | rnd => exact ⟨_, rfl, h.doRnd⟩
  | acx => exact ⟨_, rfl, h.doAcx⟩
  | ld => exact ⟨_, rfl, h.doLd⟩
  | st => exact ⟨_, rfl, h.doSt⟩
  | lda => exact ⟨_, rfl, h.doLda⟩
  | sta => exact ⟨_, rfl, h.doSta⟩
  | ldr => exact ⟨_, rfl, h.doLdr⟩
  | str => exact ⟨_, rfl, h.doStr⟩
  | brk => exact ⟨_, rfl, h.doBrk⟩
  | bra => exact ⟨_, rfl, h.doBra⟩
  | call => exact ⟨_, rfl, h.doCall⟩
  | jmpr => exact ⟨_, rfl, h.doJmpr⟩
  | ret => exact ⟨_, rfl, h.doRet⟩
  | loopi => exact ⟨_, rfl, h.doLoopi⟩
  | loopr => exact ⟨_, rfl, h.doLoopr⟩
  | waitev => exact ⟨_, rfl, h.doWaitev⟩
  | yield => exact ⟨_, rfl, h.doYield⟩
  | illegalOp => exact ⟨_, rfl, h.doIllegalOp⟩
  | fabricLoadReturn => exact ⟨_, rfl, h.doFabricLoadReturn⟩
  | eventArrival => exact ⟨_, rfl, h.doEventArrival⟩
  | waitevWake => exact ⟨_, rfl, h.doWaitevWake⟩
  | taskRelease => exact ⟨_, rfl, h.doTaskRelease⟩
  | budgetOverrun => exact ⟨_, rfl, h.doBudgetOverrun⟩
  | deadlineMiss => exact ⟨_, rfl, h.doDeadlineMiss⟩
  | mailboxRecordComplete => exact ⟨_, rfl, h.doMailboxRecordComplete⟩
  | mbackAck => exact ⟨_, rfl, h.doMbackAck⟩
  | mbackClrOvr => exact ⟨_, rfl, h.doMbackClrOvr⟩
  | mbpost => exact ⟨_, rfl, h.doMbpost⟩
  | registerWrite => exact ⟨_, rfl, h.doRegisterWrite⟩
  | halt => exact ⟨_, rfl, h.doHalt⟩
  | step => exact ⟨_, rfl, h.doStep⟩
  | resumeEngine => exact ⟨_, rfl, h.doResumeEngine⟩
  | status => exact ⟨_, rfl, h.doStatus⟩
  | readReg => exact ⟨_, rfl, h.doReadReg⟩
  | readPm => exact ⟨_, rfl, h.doReadPm⟩
  | extest => exact ⟨_, rfl, h.doExtest⟩
  | idcode => exact ⟨_, rfl, h.doIdcode⟩
  | samplePreload => exact ⟨_, rfl, h.doSamplePreload⟩
  | clampTest => exact ⟨_, rfl, h.doClampTest⟩
  | bypass => exact ⟨_, rfl, h.doBypass⟩
  | kimgLoad => exact ⟨_, rfl, h.doKimgLoad⟩
  | kimgDelete => exact ⟨_, rfl, h.doKimgDelete⟩
  | taskDeclare => exact ⟨_, rfl, h.doTaskDeclare⟩
  | taskRemove => exact ⟨_, rfl, h.doTaskRemove⟩
  | freeTimerExpiry => exact ⟨_, rfl, h.doFreeTimerExpiry⟩
  | refereeRound => exact ⟨_, rfl, h.doRefereeRound⟩
  | quadSwitchOn => exact ⟨_, rfl, h.doQuadSwitchOn⟩
  | quadFmax => exact ⟨_, rfl, h.doQuadFmax⟩
  | stateCopyDone => exact ⟨_, rfl, h.doStateCopyDone⟩
  | jobStep => exact ⟨_, rfl, h.doJobStep⟩
  | jobCancel => exact ⟨_, rfl, h.doJobCancel⟩
  | jobSlotExpiry => exact ⟨_, rfl, h.doJobSlotExpiry⟩
  | rallyMeasure => exact ⟨_, rfl, h.doRallyMeasure⟩
  | commitGo => exact ⟨_, rfl, h.doCommitGo⟩
  | commitRecognised => exact ⟨_, rfl, h.doCommitRecognised⟩
  | cutoff => exact ⟨_, rfl, h.doCutoff⟩
  | reload => exact ⟨_, rfl, h.doReload⟩
  | triggerFire => exact ⟨_, rfl, h.doTriggerFire⟩
  | cbcTrip => exact ⟨_, rfl, h.doCbcTrip⟩
  | latchTrip => exact ⟨_, rfl, h.doLatchTrip⟩
  | blankTimerExpiry => exact ⟨_, rfl, h.doBlankTimerExpiry⟩
  | edgeTick => exact ⟨_, rfl, h.doEdgeTick⟩
  | clkLoss => exact ⟨_, rfl, h.doClkLoss⟩
  | laneTransmit => exact ⟨_, rfl, h.doLaneTransmit⟩
  | edgeOn => exact ⟨_, rfl, h.doEdgeOn⟩
  | edgeOff => exact ⟨_, rfl, h.doEdgeOff⟩
  | holdOff => exact ⟨_, rfl, h.doHoldOff⟩
  | profileSet => exact ⟨_, rfl, h.doProfileSet⟩
  | resume => exact ⟨_, rfl, h.doResume⟩
  | mark => exact ⟨_, rfl, h.doMark⟩
  | volley => exact ⟨_, rfl, h.doVolley⟩
  | timeAdj => exact ⟨_, rfl, h.doTimeAdj⟩
  | nopCommand => exact ⟨_, rfl, h.doNopCommand⟩
  | edgeExecute => exact ⟨_, rfl, h.doEdgeExecute⟩
  | holdEnd => exact ⟨_, rfl, h.doHoldEnd⟩
  | holdTimeout => exact ⟨_, rfl, h.doHoldTimeout⟩
  | laneKill => exact ⟨_, rfl, h.doLaneKill⟩
  | killEnd => exact ⟨_, rfl, h.doKillEnd⟩
  | killReceived => exact ⟨_, rfl, h.doKillReceived⟩
  | trainReq => exact ⟨_, rfl, h.doTrainReq⟩
  | trainSet => exact ⟨_, rfl, h.doTrainSet⟩
  | cfgWr => exact ⟨_, rfl, h.doCfgWr⟩
  | cfgRd => exact ⟨_, rfl, h.doCfgRd⟩
  | test => exact ⟨_, rfl, h.doTest⟩
  | adcTrig => exact ⟨_, rfl, h.doAdcTrig⟩
  | trainRsp => exact ⟨_, rfl, h.doTrainRsp⟩
  | trainAck => exact ⟨_, rfl, h.doTrainAck⟩
  | cfgRsp => exact ⟨_, rfl, h.doCfgRsp⟩
  | statusFrame => exact ⟨_, rfl, h.doStatusFrame⟩
  | edgeTele => exact ⟨_, rfl, h.doEdgeTele⟩
  | alarm => exact ⟨_, rfl, h.doAlarm⟩
  | volleyRep => exact ⟨_, rfl, h.doVolleyRep⟩
  | satAlarm => exact ⟨_, rfl, h.doSatAlarm⟩
  | alarmTimeout => exact ⟨_, rfl, h.doAlarmTimeout⟩
  | volleyExchange => exact ⟨_, rfl, h.doVolleyExchange⟩
  | volleyMiss => exact ⟨_, rfl, h.doVolleyMiss⟩
  | laneLost => exact ⟨_, rfl, h.doLaneLost⟩
  | laneMisaligned => exact ⟨_, rfl, h.doLaneMisaligned⟩
  | laneCodeErr => exact ⟨_, rfl, h.doLaneCodeErr⟩
  | sdSlot => exact ⟨_, rfl, h.doSdSlot⟩
  | retrain => exact ⟨_, rfl, h.doRetrain⟩
  | trainStepTimeout => exact ⟨_, rfl, h.doTrainStepTimeout⟩
  | laneEnable => exact ⟨_, rfl, h.doLaneEnable⟩
  | train => exact ⟨_, rfl, h.doTrain⟩
  | retrainCmd => exact ⟨_, rfl, h.doRetrainCmd⟩
  | satRead => exact ⟨_, rfl, h.doSatRead⟩
  | tadpoleHoldOff => exact ⟨_, rfl, h.doTadpoleHoldOff⟩
  | linkActivityLoss => exact ⟨_, rfl, h.doLinkActivityLoss⟩
  | bankOff => exact ⟨_, rfl, h.doBankOff⟩
  | killInput => exact ⟨_, rfl, h.doKillInput⟩
  | killRelease => exact ⟨_, rfl, h.doKillRelease⟩
  | holdSwitchClamp => exact ⟨_, rfl, h.doHoldSwitchClamp⟩
  | hbStp => exact ⟨_, rfl, h.doHbStp⟩
  | hbGateFault => exact ⟨_, rfl, h.doHbGateFault⟩
  | hbVds => exact ⟨_, rfl, h.doHbVds⟩
  | hbBstWarn => exact ⟨_, rfl, h.doHbBstWarn⟩
  | hbBstUv => exact ⟨_, rfl, h.doHbBstUv⟩
  | gvddRampDone => exact ⟨_, rfl, h.doGvddRampDone⟩
  | gvddOverload => exact ⟨_, rfl, h.doGvddOverload⟩
  | ostCmd => exact ⟨_, rfl, h.doOstCmd⟩
  | ostSettleEnd => exact ⟨_, rfl, h.doOstSettleEnd⟩
  | scheduleDue => exact ⟨_, rfl, h.doScheduleDue⟩
  | sequenceStart => exact ⟨_, rfl, h.doSequenceStart⟩
  | sequenceEnd => exact ⟨_, rfl, h.doSequenceEnd⟩
  | adcRes => exact ⟨_, rfl, h.doAdcRes⟩
  | adcResultTimeout => exact ⟨_, rfl, h.doAdcResultTimeout⟩
  | ftTriggerSend => exact ⟨_, rfl, h.doFtTriggerSend⟩
  | adswt => exact ⟨_, rfl, h.doAdswt⟩
  | hkRes => exact ⟨_, rfl, h.doHkRes⟩
  | hkConversion => exact ⟨_, rfl, h.doHkConversion⟩
  | sdLatchCentred => exact ⟨_, rfl, h.doSdLatchCentred⟩
  | cwWireChange => exact ⟨_, rfl, h.doCwWireChange⟩
  | cwthr => exact ⟨_, rfl, h.doCwthr⟩
  | cwthrApply => exact ⟨_, rfl, h.doCwthrApply⟩
  | cwCheckCmd => exact ⟨_, rfl, h.doCwCheckCmd⟩
  | cwReadback => exact ⟨_, rfl, h.doCwReadback⟩
  | qeInputChange => exact ⟨_, rfl, h.doQeInputChange⟩
  | qePendingDecide => exact ⟨_, rfl, h.doQePendingDecide⟩
  | qeEdge => exact ⟨_, rfl, h.doQeEdge⟩
  | qeIndex => exact ⟨_, rfl, h.doQeIndex⟩
  | qeSpeedCheck => exact ⟨_, rfl, h.doQeSpeedCheck⟩
  | qcmpPulseEnd => exact ⟨_, rfl, h.doQcmpPulseEnd⟩
  | qeEnable => exact ⟨_, rfl, h.doQeEnable⟩
  | qposRead => exact ⟨_, rfl, h.doQposRead⟩
  | clrRawrev => exact ⟨_, rfl, h.doClrRawrev⟩
  | qeRawrevClr => exact ⟨_, rfl, h.doQeRawrevClr⟩
  | posSet => exact ⟨_, rfl, h.doPosSet⟩
  | cttgt => exact ⟨_, rfl, h.doCttgt⟩
  | ctcfg => exact ⟨_, rfl, h.doCtcfg⟩
  | declare => exact ⟨_, rfl, h.doDeclare⟩
  | remove => exact ⟨_, rfl, h.doRemove⟩
  | arm => exact ⟨_, rfl, h.doArm⟩
  | run => exact ⟨_, rfl, h.doRun⟩
  | stop => exact ⟨_, rfl, h.doStop⟩
  | stageDisarm => exact ⟨_, rfl, h.doStageDisarm⟩
  | clear => exact ⟨_, rfl, h.doClear⟩
  | rampDone => exact ⟨_, rfl, h.doRampDone⟩
  | stageRampTimeout => exact ⟨_, rfl, h.doStageRampTimeout⟩
  | parameterPost => exact ⟨_, rfl, h.doParameterPost⟩
  | statusMirror => exact ⟨_, rfl, h.doStatusMirror⟩
  | idCmd => exact ⟨_, rfl, h.doIdCmd⟩
  | idApply => exact ⟨_, rfl, h.doIdApply⟩
  | contactorFail => exact ⟨_, rfl, h.doContactorFail⟩
  | contactorOpen => exact ⟨_, rfl, h.doContactorOpen⟩
  | starCtOpened => exact ⟨_, rfl, h.doStarCtOpened⟩
  | eftCtWeld => exact ⟨_, rfl, h.doEftCtWeld⟩
  | faultReport => exact ⟨_, rfl, h.doFaultReport⟩
  | faultRequest => exact ⟨_, rfl, h.doFaultRequest⟩
  | reactionComplete => exact ⟨_, rfl, h.doReactionComplete⟩
  | reactUnconfirmed => exact ⟨_, rfl, h.doReactUnconfirmed⟩
  | tripMatrixSource => exact ⟨_, rfl, h.doTripMatrixSource⟩
  | clearCode => exact ⟨_, rfl, h.doClearCode⟩
  | clearAll => exact ⟨_, rfl, h.doClearAll⟩
  | scorecardCopy => exact ⟨_, rfl, h.doScorecardCopy⟩
  | okayReadback => exact ⟨_, rfl, h.doOkayReadback⟩
  | notificationSend => exact ⟨_, rfl, h.doNotificationSend⟩
  | injCode => exact ⟨_, rfl, h.doInjCode⟩
  | injSource => exact ⟨_, rfl, h.doInjSource⟩
  | injectionEnd => exact ⟨_, rfl, h.doInjectionEnd⟩
  | slowRound => exact ⟨_, rfl, h.doSlowRound⟩
  | fastRound => exact ⟨_, rfl, h.doFastRound⟩
  | analogShutdown => exact ⟨_, rfl, h.doAnalogShutdown⟩
  | supplyWarn => exact ⟨_, rfl, h.doSupplyWarn⟩
  | supplyWarnRelease => exact ⟨_, rfl, h.doSupplyWarnRelease⟩
  | deferEnd => exact ⟨_, rfl, h.doDeferEnd⟩
  | supplyReset => exact ⟨_, rfl, h.doSupplyReset⟩
  | journalWrite => exact ⟨_, rfl, h.doJournalWrite⟩
  | journalCommit => exact ⟨_, rfl, h.doJournalCommit⟩
  | shedCmd => exact ⟨_, rfl, h.doShedCmd⟩
  | patchLoad => exact ⟨_, rfl, h.doPatchLoad⟩
  | patchFloorRaise => exact ⟨_, rfl, h.doPatchFloorRaise⟩
  | overrideWrite => exact ⟨_, rfl, h.doOverrideWrite⟩
  | ovrClear => exact ⟨_, rfl, h.doOvrClear⟩
  | otpBurn => exact ⟨_, rfl, h.doOtpBurn⟩
  | lock => exact ⟨_, rfl, h.doLock⟩
  | complete => exact ⟨_, rfl, h.doComplete⟩
  | otpAudit => exact ⟨_, rfl, h.doOtpAudit⟩
  | por => exact ⟨_, rfl, h.doPor⟩
  | pinReset => exact ⟨_, rfl, h.doPinReset⟩
  | watchdog => exact ⟨_, rfl, h.doWatchdog⟩
  | lockstepError => exact ⟨_, rfl, h.doLockstepError⟩
  | resetRelease => exact ⟨_, rfl, h.doResetRelease⟩
  | bootStepComplete => exact ⟨_, rfl, h.doBootStepComplete⟩
  | bootStepTimeout => exact ⟨_, rfl, h.doBootStepTimeout⟩
  | bootFail => exact ⟨_, rfl, h.doBootFail⟩
  | bootRetry => exact ⟨_, rfl, h.doBootRetry⟩
  | startCounterClear => exact ⟨_, rfl, h.doStartCounterClear⟩
  | warmRestart => exact ⟨_, rfl, h.doWarmRestart⟩
  | softReset => exact ⟨_, rfl, h.doSoftReset⟩
  | restartNormal => exact ⟨_, rfl, h.doRestartNormal⟩
  | standby => exact ⟨_, rfl, h.doStandby⟩
  | standbyEntered => exact ⟨_, rfl, h.doStandbyEntered⟩
  | wakeEvent => exact ⟨_, rfl, h.doWakeEvent⟩
  | park => exact ⟨_, rfl, h.doPark⟩
  | wake => exact ⟨_, rfl, h.doWake⟩
  | factoryTest => exact ⟨_, rfl, h.doFactoryTest⟩
  | defaults => exact ⟨_, rfl, h.doDefaults⟩
  | rejectPatches => exact ⟨_, rfl, h.doRejectPatches⟩
  | canStart => exact ⟨_, rfl, h.doCanStart⟩
  | canStop => exact ⟨_, rfl, h.doCanStop⟩
  | recover => exact ⟨_, rfl, h.doRecover⟩
  | canIntegrated => exact ⟨_, rfl, h.doCanIntegrated⟩
  | canFrameReceived => exact ⟨_, rfl, h.doCanFrameReceived⟩
  | canTxDone => exact ⟨_, rfl, h.doCanTxDone⟩
  | canArbitrationLost => exact ⟨_, rfl, h.doCanArbitrationLost⟩
  | canError => exact ⟨_, rfl, h.doCanError⟩
  | canRecovered => exact ⟨_, rfl, h.doCanRecovered⟩
  | canQueueLate => exact ⟨_, rfl, h.doCanQueueLate⟩
  | txmPeriod => exact ⟨_, rfl, h.doTxmPeriod⟩
  | rxmEnable => exact ⟨_, rfl, h.doRxmEnable⟩
  | txmEnable => exact ⟨_, rfl, h.doTxmEnable⟩
  | localTransaction => exact ⟨_, rfl, h.doLocalTransaction⟩
  | localPortReset => exact ⟨_, rfl, h.doLocalPortReset⟩
  | hello => exact ⟨_, rfl, h.doHello⟩
  | read => exact ⟨_, rfl, h.doRead⟩
  | write => exact ⟨_, rfl, h.doWrite⟩
  | nextKey => exact ⟨_, rfl, h.doNextKey⟩
  | describe => exact ⟨_, rfl, h.doDescribe⟩
  | segData => exact ⟨_, rfl, h.doSegData⟩
  | segNext => exact ⟨_, rfl, h.doSegNext⟩
  | abort => exact ⟨_, rfl, h.doAbort⟩
  | readRange => exact ⟨_, rfl, h.doReadRange⟩
  | challenge => exact ⟨_, rfl, h.doChallenge⟩
  | unlock => exact ⟨_, rfl, h.doUnlock⟩
  | lockSession => exact ⟨_, rfl, h.doLockSession⟩
  | segTimeout => exact ⟨_, rfl, h.doSegTimeout⟩
  | serviceTimeout => exact ⟨_, rfl, h.doServiceTimeout⟩
  | authLockoutEnd => exact ⟨_, rfl, h.doAuthLockoutEnd⟩
  | storedResponseExpiry => exact ⟨_, rfl, h.doStoredResponseExpiry⟩
  | jobProgress => exact ⟨_, rfl, h.doJobProgress⟩
  | clockReturn => exact ⟨_, rfl, h.doClockReturn⟩
  | fabricStoreAck => exact ⟨_, rfl, h.doFabricStoreAck⟩
  | analogShutdownRelease => exact ⟨_, rfl, h.doAnalogShutdownRelease⟩
  | contactorFeedbackChange => exact ⟨_, rfl, h.doContactorFeedbackChange⟩
  | bstUvRelease => exact ⟨_, rfl, h.doBstUvRelease⟩
  | standbyQueueTimeout => exact ⟨_, rfl, h.doStandbyQueueTimeout⟩
  | adcSlotEnd => exact ⟨_, rfl, h.doAdcSlotEnd⟩
  | edgeTimeReached => exact ⟨_, rfl, h.doEdgeTimeReached⟩
  | receiverLock => exact ⟨_, rfl, h.doReceiverLock⟩

theorem step_memOk {t : State} (h : s.MemOk) (ht : step s = .next t) : t.MemOk := by
  unfold step at ht
  split at ht
  · exact Host.Outcome.next.inj ht ▸ h.idle
  · next c rest _ =>
    obtain ⟨u, hu, hok⟩ := exec_memOk c (h.of_eq (t := { s with pending := rest }) rfl)
    exact Host.Outcome.next.inj (hu.symm.trans ht) ▸ hok

end Sys2Proof.Machine
end

section
/-! SUPPORT. The statement on the word memories, settled. -/

namespace Sys2Proof.Machine

/-- Settles O59: a command and a tick of CLK_TB are built from steps that each keep the canonical form. -/
theorem everyStepKeepsMemoryCanonical : Obligations.EveryStepKeepsMemoryCanonical :=
  ⟨fun _ _ => step_memOk, fun c _ h => exec_memOk c h⟩

end Sys2Proof.Machine
end

section
/-! SUPPORT. The statement on the Referee's quads, refuted: a round that ends a standing condition while writes are deferred gives the record's
copy its place among the deferred writes (R301, R303, R323), so the journal service changes too. -/

namespace Sys2Proof.Machine

theorem exec_refereeRound (s : State) : exec .refereeRound s = .next (doRefereeRound s) := rfl

/-- The fault of a power estimate above the budget (R84), which a client has not read yet. -/
def unreadOverBudget : ScRec := { ScRec.empty with used := true, code := 0x02FF06, cls := 3, clsFirst := 3, count := 1, seq := 1 }

/-- IDLE under a supply warning that defers writes (R323), the power estimate back within its budget. -/
def overBudgetDeferred : State :=
  let s := (State.reset.put 1 0x000 0 devIdle).put 9 0x070 0 1
  { s with flt := { s.flt with live := [0x02FF06], ring := [(1, unreadOverBudget)] } }

theorem overBudgetDeferred_dev : overBudgetDeferred.dev = devIdle := by decide +kernel

/-- The copy of the record joins the order of the deferred writes. -/
theorem order_refereeRound_overBudgetDeferred : (doRefereeRound overBudgetDeferred).nvm.order = [1] := by decide +kernel

/-- Refutes O25: the frame of a round leaves the journal service as it was, but a condition that ends in it while writes are deferred adds the
deferred copy of its record there. -/
theorem not_refereeMovesQuads : ¬ Obligations.RefereeMovesQuads := by
  intro h
  obtain ⟨-, -, -, hround, -⟩ := h overBudgetDeferred ⟨0, 0, false⟩ 0 0
  obtain ⟨t, ht, -, -, hframe⟩ := hround (.inl overBudgetDeferred_dev)
  have hnvm : t.nvm = overBudgetDeferred.nvm := by rw [hframe]
  rw [← Host.Outcome.next.inj ((exec_refereeRound _).symm.trans ht)] at hnvm
  have horder := order_refereeRound_overBudgetDeferred
  rw [hnvm] at horder
  exact absurd horder (by decide)

end Sys2Proof.Machine
end

section
/-! SUPPORT. The copy of a state section to its twin (R88), what a trigger reaches (R121, R196, R222), and the statement on copies and free
timers, settled. -/

namespace Sys2Proof.Machine

variable {s u v : State}

/-! ### The commands -/

theorem exec_stateCopyDone (t : Fin 96) (s : State) : exec (.stateCopyDone t) s = .next (doStateCopyDone t s) := rfl

theorem exec_freeTimerExpiry (ft : Fin 16) (s : State) : exec (.freeTimerExpiry ft) s = .next (doFreeTimerExpiry ft s) := rfl

/-! ### A section is copied word by word -/

/-- The first `n` words of the section at `a` of engine `e` are written to the section at `b` of engine `d`. -/
def State.copyWords (s : State) (e a d b n : Nat) : State :=
  (List.range n).foldl (fun s i => s.setMemWord d (b + i) (s.memWord e (a + i))) s

theorem State.copyWords_succ (s : State) (e a d b n : Nat) : s.copyWords e a d b (n + 1) =
    (s.copyWords e a d b n).setMemWord d (b + n) ((s.copyWords e a d b n).memWord e (a + n)) := by
  simp only [State.copyWords, List.range_succ, List.foldl_append, List.foldl_cons, List.foldl_nil]

/-- From `s` to `u` only words of local data and of the tiles changed. -/
def WordFrame (s u : State) : Prop := u = { s with mem := { s.mem with loc := u.mem.loc, tile := u.mem.tile, upset := u.mem.upset } }

theorem WordFrame.trans (h : WordFrame s u) (h' : WordFrame u v) : WordFrame s v := by
  rw [WordFrame] at *
  conv_lhs => rw [h', h]

theorem wordFrame_copyWords (s : State) (e a d b : Nat) : ∀ n, WordFrame s (s.copyWords e a d b n)
  | 0 => rfl
  | n + 1 => by
    rw [State.copyWords_succ]
    exact (wordFrame_copyWords s e a d b n).trans (State.setMemWord_frame ..)

/-- Two sections of `len` words on different engines that no word of one shares with the other: both in local data, or apart in the tiles. -/
def Twins (e a d b len : Nat) : Prop :=
  e ≠ d ∧ ∀ i, i < len → ((a + i < 0x2000 ∧ b + i < 0x2000) ∨
    (0x100000 ≤ a + i ∧ a + i < 0x180000 ∧ 0x100000 ≤ b + i ∧ b + i < 0x180000 ∧ (a + len ≤ b ∨ b + len ≤ a)))

/-- After `n` words the source reads as before, and the twin as the source where it is written. -/
theorem State.memWord_copyWords {e a d b len : Nat} (h : Twins e a d b len) (s : State) {n : Nat} (hn : n ≤ len) {i : Nat} (hi : i < len) :
    (s.copyWords e a d b n).memWord e (a + i) = s.memWord e (a + i) ∧
      (i < n → (s.copyWords e a d b n).memWord d (b + i) = s.memWord e (a + i)) := by
  obtain ⟨hed, hplace⟩ := h
  induction n generalizing i with
  | zero => exact ⟨rfl, fun h => absurd h (Nat.not_lt_zero i)⟩
  | succ n ih =>
    have hpn := hplace n hn
    have hpi := hplace i hi
    have hbn : memAddr (b + n) := by unfold memAddr; omega
    have hai : memAddr (a + i) := by unfold memAddr; omega
    have hbi : memAddr (b + i) := by unfold memAddr; omega
    obtain ⟨hsrc, htwin⟩ := ih (by omega) hi
    rw [State.copyWords_succ, State.memWord_setMemWord _ _ hbn hai, State.memWord_setMemWord _ _ hbn hbi]
    refine ⟨?_, fun hin => ?_⟩
    · rw [if_neg (by omega), hsrc]
    · rcases Nat.lt_succ_iff_lt_or_eq.1 hin with hlt | rfl
      · rw [if_neg (by omega), htwin hlt]
      · rw [if_pos ⟨rfl, fun _ => rfl⟩, hsrc]

/-! ### The mirror's mailboxes -/

/-- From `s` to `u` only mailboxes changed. -/
def MboxFrame (s u : State) : Prop := u = { s with loop := { s.loop with mbox := u.loop.mbox } }

theorem MboxFrame.trans (h : MboxFrame s u) (h' : MboxFrame u v) : MboxFrame s v := by
  rw [MboxFrame] at *
  conv_lhs => rw [h', h]

theorem MboxFrame.foldl {A : Type} {f : State → A → State} (hf : ∀ s a, MboxFrame s (f s a)) : ∀ (l : List A) (s : State), MboxFrame s (l.foldl f s)
  | [], _ => rfl
  | a :: l, s => (hf s a).trans (MboxFrame.foldl hf l (f s a))

theorem mboxFrame_assignBoxes (s : State) (e : Nat) (d : Nat → Nat) (boxes : List (Option Nat)) : MboxFrame s (s.assignBoxes e d boxes) := by
  refine .foldl (fun s p => ?_) _ s
  split <;> rfl

/-- A mailbox of engine `d` takes SEQ and OVR of one of engine `e`, for each pair of assigned mailboxes (R88). -/
def State.presetBoxes (s : State) (e d : Nat) (l : List (Option Nat × Option Nat)) : State :=
  l.foldl (fun s p =>
    match p with
    | (some a, some b) => s.setMb (4 * d + b) { s.mb (4 * d + b) with seq := (s.mb (4 * e + a)).seq, ovr := (s.mb (4 * e + a)).ovr }
    | _ => s) s

theorem mboxFrame_presetBoxes (s : State) (e d : Nat) (l : List (Option Nat × Option Nat)) : MboxFrame s (s.presetBoxes e d l) := by
  refine .foldl (fun s p => ?_) _ s
  split <;> rfl

/-- One input: its mailbox on the target is assigned and shows SEQ and OVR of the source's. -/
theorem State.mb_presetBoxes_assignBoxes (s : State) {e d a b : Nat} (f : Nat → Nat) (hed : e ≠ d) (ha : a < 4) (hb : b < 4) :
    let y := ((s.assignBoxes d f [some b]).presetBoxes e d [(some a, some b)]).mb (4 * d + b)
    y.seq = (s.mb (4 * e + a)).seq ∧ y.ovr = (s.mb (4 * e + a)).ovr ∧ y.assigned = true := by
  have hne : 4 * e + a ≠ 4 * d + b := by omega
  simp only [State.presetBoxes, State.assignBoxes, List.zipIdx_cons, List.zipIdx_nil, List.foldl_cons, List.foldl_nil, State.mb_setMb, if_true,
    if_neg hne, and_self]

/-- The command on a migration that copies (R88). -/
theorem doStateCopyDone_eq {t : Fin 96} {m : Mig} (hm : (s.task t).mig = some m) (hc : m.copying = true) :
    doStateCopyDone t s =
      (((s.copyWords (s.task t).engine (s.task t).state m.dst m.twin (s.task t).stateLen).assignBoxes m.dst
        ((s.copyWords (s.task t).engine (s.task t).state m.dst m.twin (s.task t).stateLen).inForce t) m.mboxes).presetBoxes
          (s.task t).engine m.dst ((s.task t).mboxes.zip m.mboxes)).setTask t
        { s.task t with mig := some { m with copying := false, copied := true, pend := (s.task t).pend } } := by
  simp only [doStateCopyDone, hm, hc, Bool.true_eq_false, if_false]
  rfl

/-! ### What a trigger reaches -/

/-- From `s` to `u` only events were raised, and records and captures taken: acquisition, interfaces, engines and entries changed. -/
def TriggerFrame (s u : State) : Prop :=
  u = { s with evBus := u.evBus, acq := u.acq, qes := u.qes, loop := u.loop, ent := u.ent } ∧ ∃ l, u.evBus = s.evBus ++ l

theorem TriggerFrame.refl (s : State) : TriggerFrame s s := ⟨rfl, [], (List.append_nil _).symm⟩

theorem TriggerFrame.trans (h : TriggerFrame s u) (h' : TriggerFrame u v) : TriggerFrame s v := by
  obtain ⟨hu, l, hl⟩ := h
  obtain ⟨hv, m, hm⟩ := h'
  refine ⟨?_, l ++ m, by rw [hm, hl, List.append_assoc]⟩
  conv_lhs => rw [hv, hu]

theorem TriggerFrame.foldl {A : Type} {f : State → A → State} (hf : ∀ s a, TriggerFrame s (f s a)) :
    ∀ (l : List A) (s : State), TriggerFrame s (l.foldl f s)
  | [], s => .refl s
  | a :: l, s => (hf s a).trans (TriggerFrame.foldl hf l (f s a))

theorem TriggerFrame.whenS {f : State → State} (hf : ∀ s, TriggerFrame s (f s)) (s : State) (c : Bool) : TriggerFrame s (s.whenS c f) := by
  rcases s.whenS_cases c f with ⟨-, h⟩ | ⟨-, h⟩ <;> rw [h]
  · exact hf s
  · exact .refl s

theorem triggerFrame_raiseEv (s : State) (n : Nat) : TriggerFrame s (s.raiseEv n) := ⟨rfl, [n], rfl⟩

theorem triggerFrame_setMb (s : State) (k : Nat) (x : Mbox) : TriggerFrame s (s.setMb k x) := ⟨rfl, [], (List.append_nil _).symm⟩

theorem triggerFrame_setLg (s : State) (g : Nat) (x : Lg) : TriggerFrame s (s.setLg g x) := ⟨rfl, [], (List.append_nil _).symm⟩

theorem triggerFrame_setQe (s : State) (n : Nat) (x : Qe) : TriggerFrame s (s.setQe n x) := ⟨rfl, [], (List.append_nil _).symm⟩

theorem triggerFrame_bump (s : State) (k lim : Nat) : TriggerFrame s (s.bump k lim) := ⟨rfl, [], (List.append_nil _).symm⟩

theorem triggerFrame_mboxRecord (s : State) (k : Nat) (words : List Word) : TriggerFrame s (s.mboxRecord k words) :=
  (triggerFrame_setMb ..).trans (.whenS (fun s => triggerFrame_raiseEv s _) _ _)

theorem triggerFrame_deliver (s : State) (kind inst : Nat) (words : List Word) : TriggerFrame s (s.deliver kind inst words) :=
  .foldl (fun s k => .whenS (fun s => triggerFrame_mboxRecord s k words) s _) _ s

theorem triggerFrame_deliverLg (s : State) (g trig : Nat) (centred : Bool) (time : Nat) : TriggerFrame s (s.deliverLg g trig centred time) :=
  (triggerFrame_setLg ..).trans ((triggerFrame_bump ..).trans ((triggerFrame_deliver ..).trans (triggerFrame_raiseEv ..)))

theorem triggerFrame_lgFire (s : State) (g trig : Nat) : TriggerFrame s (s.lgFire g trig) := by
  rw [State.lgFire]
  split
  · exact .refl s
  · split
    · exact triggerFrame_deliverLg ..
    · exact triggerFrame_setLg ..

theorem triggerFrame_qeCaptureOne (s : State) (n trig : Nat) : TriggerFrame s (qeCaptureOne s n trig) := by
  rw [qeCaptureOne]
  split
  · exact (triggerFrame_setQe ..).trans (triggerFrame_raiseEv ..)
  · exact .refl s

theorem triggerFrame_trigger (s : State) (trig : Nat) : TriggerFrame s (s.trigger trig) :=
  (TriggerFrame.foldl (fun s g => triggerFrame_lgFire s g trig) _ s).trans (.foldl (fun s n => triggerFrame_qeCaptureOne s n trig) _ _)

/-- The tasks that a source without a divider releases (R73, R75). -/
theorem State.mem_due_releaseOn (s : State) (src j : Nat) : j ∈ (s.releaseOn src 0).due ↔
    j ∈ s.due ∨ (j < 96 ∧ (s.task j).placed = true ∧ (s.task j).shed = false ∧ s.dc 2 0x013 j = src) := by
  simp [State.releaseOn, and_assoc]

theorem doFreeTimerExpiry_eq {ft : Fin 16} (h : s.en 2 0x060 ft ≠ 0) :
    doFreeTimerExpiry ft s = ((s.raiseEv (384 + ft)).releaseOn (128 + ft) 0).trigger (96 + ft) := if_neg h

end Sys2Proof.Machine

namespace Sys2Proof.Machine

/-- Settles O26: the copy reads each word before anything overwrites it, for the sections share none; a free timer's trigger leaves the due tasks alone. -/
theorem copiesAndFreeTimers : Obligations.CopiesAndFreeTimers := by
  intro s t m ft x
  refine ⟨fun hm hc _ _ hne hplace => ⟨_, exec_stateCopyDone .., ?_⟩, fun hp => ⟨_, exec_freeTimerExpiry .., ?_⟩,
    fun hp => (exec_freeTimerExpiry ..).trans (congrArg Host.Outcome.next (if_pos hp))⟩
  · have hwords {i : Nat} (hi : i < x.stateLen) := s.memWord_copyWords (e := x.engine) (a := x.state) (d := m.dst) (b := m.twin) ⟨hne, hplace⟩ le_rfl hi
    have hcopy := wordFrame_copyWords s x.engine x.state m.dst m.twin x.stateLen
    rw [doStateCopyDone_eq hm hc]
    generalize s.copyWords (s.task t).engine (s.task t).state m.dst m.twin (s.task t).stateLen = w at hwords hcopy ⊢
    have hseq : ∀ a b, x.mboxes = [some a] → m.mboxes = [some b] → a < 4 → b < 4 →
        let y := ((w.assignBoxes m.dst (w.inForce t) m.mboxes).presetBoxes x.engine m.dst (x.mboxes.zip m.mboxes)).mb (4 * m.dst + b)
        y.seq = (s.mb (4 * x.engine + a)).seq ∧ y.ovr = (s.mb (4 * x.engine + a)).ovr ∧ y.assigned = true := by
      intro a b hxa hmb ha hb
      have hmbox : s.mb = w.mb := by rw [hcopy]; rfl
      rw [hxa, hmb, hmbox]
      exact w.mb_presetBoxes_assignBoxes (w.inForce t) hne ha hb
    have hbox := (mboxFrame_assignBoxes w m.dst (w.inForce t) m.mboxes).trans (mboxFrame_presetBoxes _ x.engine m.dst (x.mboxes.zip m.mboxes))
    generalize State.presetBoxes _ x.engine m.dst _ = v at hbox hseq ⊢
    have hmem (f b : Nat) : v.memWord f b = w.memWord f b := by rw [hbox]; rfl
    have htask (j : Nat) : v.task j = s.task j := by rw [hbox, hcopy]; rfl
    obtain ⟨loc, tile, upset, mbox, rfl⟩ : ∃ loc tile upset mbox,
        v = { s with mem := { s.mem with loc := loc, tile := tile, upset := upset }, loop := { s.loop with mbox := mbox } } := by
      rw [MboxFrame, hcopy] at hbox
      exact ⟨_, _, _, _, hbox⟩
    refine ⟨rfl, fun i hi => ⟨(hmem ..).trans ((hwords hi).2 hi), (hmem ..).trans (hwords hi).1⟩, ?_, fun j hj => ?_, hseq⟩
    · exact (State.task_setTask ..).trans (if_pos rfl)
    · exact (State.task_setTask ..).trans ((if_neg hj).trans (htask j))
  · have htrig := triggerFrame_trigger ((s.raiseEv (384 + ft)).releaseOn (128 + ft) 0) (96 + ft)
    rw [doFreeTimerExpiry_eq hp]
    generalize State.trigger _ _ = u at htrig ⊢
    obtain ⟨hframe, l, hl⟩ := htrig
    have hdue : u.due = ((s.raiseEv (384 + ft)).releaseOn (128 + ft) 0).due := by rw [hframe]
    refine ⟨⟨l, by rw [hl]; exact List.append_assoc ..⟩, fun j => ?_, ?_⟩
    · rw [hdue]
      exact State.mem_due_releaseOn ..
    · conv_lhs => rw [hframe]
      rw [hdue]
      rfl

end Sys2Proof.Machine
end

section
/-! SUPPORT. The rules of a write that passes the checks of R401: what an entry's own rule refuses, and what a write of an entry that is written
only leaves (R401, R406, R423). -/

namespace Sys2Proof.Machine

variable {s u : State} {q : Req} {k v lev : Nat}

/-- The row that a write passes is the row of its key. -/
theorem State.entRow_of_writeCheck {ses : Nat} {armed : Option Nat} {r : EntRow} (h : s.writeCheck ses k v lev armed = .ok r) : entRow k = some r := by
  unfold State.writeCheck at h
  split at h
  · cases h
  · rename_i r' hr
    repeat' split at h
    all_goals cases h
    exact hr

/-- A write that its own rule refuses answers that refusal (R401, step 7). -/
theorem State.dictWriteR_refused (h : Served s q) {armed : State → Option Nat} {why : State → Option Err} {effect : State → State} {e : Err}
    (hp : Permits s q k v lev (armed s)) (hwhy : why s = some e) :
    s.dictWriteR q k v lev armed why effect = s.refuse q opWrite k e := by
  obtain ⟨r, hr⟩ := hp
  simp only [State.dictWriteR, State.serve_of_served h (Nat.zero_le _), hr, hwhy]

/-- A write of an entry that is written only, and not kept, has its effect and is confirmed. -/
theorem State.dictWriteR_writeOnly (h : Served s q) {armed : State → Option Nat} {why : State → Option Err} {effect : State → State}
    (hp : Permits s q k v lev (armed s)) (hrow : (entRow k).map (fun r => (r.acc, r.kept)) = some (.wo, false)) (hwhy : why s = none) :
    s.dictWriteR q k v lev armed why effect = (effect s).respond q opWrite 0 0 k [0] := by
  obtain ⟨r, hr⟩ := hp
  rw [State.entRow_of_writeCheck hr, Option.map_some, Option.some.injEq, Prod.mk.injEq] at hrow
  obtain ⟨hacc, hkept⟩ := hrow
  simp only [State.dictWriteR, State.serve_of_served h (Nat.zero_le _), hr, hwhy, State.applyWrite, hkept, hacc, Bool.false_eq_true, if_false, if_true]
  rfl

/-- An armed stage that a rule names refuses a write of an entry that follows none (R401, step 4). -/
theorem State.writeCheck_armed {ses g : Nat} {r : EntRow} (h : s.writeCheck ses k v lev none = .ok r)
    (hrow : (entRow k).map (fun r => (r.acc, r.kept)) = some (.wo, false)) :
    s.writeCheck ses k v lev (some g) = .error ⟨errStageArmed, g⟩ := by
  have hk := State.entRow_of_writeCheck h
  rw [hk, Option.map_some, Option.some.injEq, Prod.mk.injEq] at hrow
  obtain ⟨hacc, -⟩ := hrow
  simp only [State.writeCheck, hk, hacc, reduceCtorEq, if_false] at h ⊢
  split at h
  · cases h
  · rw [if_neg ‹_›]

theorem State.dictWriteR_armed (h : Served s q) {armed : State → Option Nat} {why : State → Option Err} {effect : State → State} {g : Nat}
    (hp : Permits s q k v lev none) (hrow : (entRow k).map (fun r => (r.acc, r.kept)) = some (.wo, false)) (ha : armed s = some g) :
    s.dictWriteR q k v lev armed why effect = s.refuse q opWrite k ⟨errStageArmed, g⟩ := by
  obtain ⟨r, hr⟩ := hp
  simp only [State.dictWriteR, State.serve_of_served h (Nat.zero_le _), ha, State.writeCheck_armed hr hrow]

/-- A response confirms a write where no session changed before it. -/
theorem confirms_respond (hses : u.ses = s.ses) (q : Req) (k : Nat) : Confirms s (u.respond q opWrite 0 0 k [0]) q k := by
  have hsess : s.sess = u.sess := by unfold State.sess; rw [hses]
  intro j
  rw [hsess, State.respond, State.sess_setSess]
  by_cases hj : j = q.ses.val
  · subst hj; rfl
  · rw [if_neg hj, if_neg hj]

/-- A refusal where no session changed before it. -/
theorem refusesWith_refuse (hses : u.ses = s.ses) (q : Req) (k detail : Nat) : RefusesWith s (u.refuse q opWrite k ⟨errRefused, detail⟩) q k detail := by
  have hsess : s.sess = u.sess := by unfold State.sess; rw [hses]
  intro j
  rw [hsess, State.refuse, State.respond, State.sess_setSess]
  by_cases hj : j = q.ses.val
  · subst hj; rfl
  · rw [if_neg hj, if_neg hj]

end Sys2Proof.Machine
end

section
/-! SUPPORT. Which job takes a step, and what the steps of the jobs leave that end in them (R94 to R98, R410, R450); the statement on jobs,
settled. -/

namespace Sys2Proof.Machine

variable {s u v : State}

/-! ### The commands -/

theorem exec_jobStep (obs : JobObs) (s : State) : exec (.jobStep obs) s = .next (doJobStep obs s) := rfl

theorem exec_jobCancel (q : Req) (slot : Fin 64) (v : BitVec 48) (s : State) : exec (.jobCancel q slot v) s = .next (doJobCancel q slot v s) := rfl

theorem exec_jobSlotExpiry (slot : Fin 64) (s : State) : exec (.jobSlotExpiry slot) s = .next (doJobSlotExpiry slot s) := rfl

theorem exec_jobProgress (slot : Fin 64) (s : State) : exec (.jobProgress slot) s = .next (doJobProgress slot s) := rfl

/-! ### The choice of a job (R96) -/

/-- Job `b` may go before job `p`: its effective priority is higher, or equal and `b` is not the younger. -/
def State.mayGoBefore (s : State) (b p : Job) : Prop := s.jobPrio p < s.jobPrio b ∨ (s.jobPrio p = s.jobPrio b ∧ b.born ≤ p.born)

theorem State.mayGoBefore_refl (s : State) (b : Job) : s.mayGoBefore b b := .inr ⟨rfl, le_rfl⟩

theorem State.mayGoBefore_trans {a b c : Job} (h : s.mayGoBefore a b) (h' : s.mayGoBefore b c) : s.mayGoBefore a c := by
  unfold State.mayGoBefore at *
  omega

/-- The first of two jobs; the job that came first stays where neither goes before the other. -/
def State.firstOf (s : State) (a : Option (Nat × Job)) (p : Nat × Job) : Option (Nat × Job) :=
  match a with
  | none => some p
  | some b => if s.jobPrio b.2 < s.jobPrio p.2 ∨ (s.jobPrio b.2 = s.jobPrio p.2 ∧ p.2.born < b.2.born) then some p else some b

theorem State.chooseJob_of_boundary (h : s.midStep = none) :
    s.chooseJob = (s.ref.job.filter (fun p => s.runnable p.1 p.2)).foldl s.firstOf none := by
  rw [State.chooseJob, h]
  rfl

/-- Of two jobs one is first, and it may go before both. -/
theorem State.firstOf_some (s : State) (b p : Nat × Job) :
    ∃ d, s.firstOf (some b) p = some d ∧ (d = b ∨ d = p) ∧ s.mayGoBefore d.2 b.2 ∧ s.mayGoBefore d.2 p.2 := by
  unfold State.mayGoBefore
  by_cases h : s.jobPrio b.2 < s.jobPrio p.2 ∨ (s.jobPrio b.2 = s.jobPrio p.2 ∧ p.2.born < b.2.born)
  · exact ⟨p, if_pos h, .inr rfl, by omega, by omega⟩
  · exact ⟨b, if_neg h, .inl rfl, by omega, by omega⟩

theorem State.foldl_firstOf_some : ∀ {l : List (Nat × Job)} {b c : Nat × Job}, l.foldl s.firstOf (some b) = some c →
    c ∈ b :: l ∧ ∀ p ∈ b :: l, s.mayGoBefore c.2 p.2
  | [], b, c, h => by
    obtain rfl : b = c := Option.some.inj h
    exact ⟨List.mem_cons_self, by simp [s.mayGoBefore_refl]⟩
  | p :: l, b, c, h => by
    obtain ⟨d, hd, hmem, hb, hp⟩ := s.firstOf_some b p
    rw [List.foldl_cons, hd] at h
    obtain ⟨hc, hall⟩ := State.foldl_firstOf_some h
    have hcd := hall d List.mem_cons_self
    refine ⟨?_, ?_⟩
    · rcases List.mem_cons.1 hc with rfl | hc
      · rcases hmem with rfl | rfl <;> simp
      · simp [hc]
    · simp only [List.forall_mem_cons]
      exact ⟨s.mayGoBefore_trans hcd hb, s.mayGoBefore_trans hcd hp, fun r hr => hall r (List.mem_cons_of_mem _ hr)⟩

theorem State.foldl_firstOf {l : List (Nat × Job)} {c : Nat × Job} (h : l.foldl s.firstOf none = some c) :
    c ∈ l ∧ ∀ p ∈ l, s.mayGoBefore c.2 p.2 := by
  cases l with
  | nil => cases h
  | cons b l => exact State.foldl_firstOf_some h

/-- The only job, where it can take a step and is no Shed, is the one that does. -/
theorem State.chooseJob_only {slot : Nat} {j : Job} (hj : s.ref.job = [(slot, j)]) (hk : j.kind ≠ .shed) (hr : s.runnable slot j = true) :
    s.chooseJob = some (slot, j) := by
  have hmid : s.midStep = none := by
    rw [State.midStep, hj]
    split
    · simp [hk]
    · rfl
  rw [State.chooseJob_of_boundary hmid, hj]
  simp [hr, State.firstOf]

/-- A job alone in its slots waits for no lock (R97). -/
theorem State.lockTaken_only {slot : Nat} {j : Job} (hj : s.ref.job = [(slot, j)]) : s.lockTaken slot = false := by
  simp [State.lockTaken, hj]

/-! ### JOB_STEP -/

theorem State.slice_of_not_due (h : s.ref.due = false) : s.slice = s := by
  rw [State.slice, h]
  rfl

theorem doJobStep_idle {obs : JobObs} (hdue : s.ref.due = false) (hc : s.chooseJob = none) : doJobStep obs s = s.showJobs := by
  simp only [doJobStep, State.slice_of_not_due hdue, hc]

theorem doJobStep_cancelled {obs : JobObs} {slot : Nat} {j : Job} (hdue : s.ref.due = false) (hc : s.chooseJob = some (slot, j))
    (hj : j.cancel = true) : doJobStep obs s = (s.jobCancelled slot j).showJobs := by
  simp only [doJobStep, State.slice_of_not_due hdue, hc, hj, if_true]

theorem doJobStep_limit {obs : JobObs} {slot : Nat} {j : Job} (hdue : s.ref.due = false) (hc : s.chooseJob = some (slot, j))
    (hj : j.cancel = false) (hn : s.counted j = true) (hl : j.limit ≤ j.steps) : doJobStep obs s = (s.jobLimit slot j).showJobs := by
  simp only [doJobStep, State.slice_of_not_due hdue, hc, hj, hn, hl, decide_true, Bool.and_self, Bool.false_eq_true, if_false, if_true]

theorem doJobStep_counted {obs : JobObs} {slot : Nat} {j : Job} (hdue : s.ref.due = false) (hc : s.chooseJob = some (slot, j))
    (hj : j.cancel = false) (hn : s.counted j = true) (hl : j.steps < j.limit) : doJobStep obs s =
      (((s.setJob slot { j with steps := j.steps + 1 }).progress slot { j with steps := j.steps + 1 }).kindStep slot
        { j with steps := j.steps + 1 } obs).showJobs := by
  simp only [doJobStep, State.slice_of_not_due hdue, hc, hj, hn, Nat.not_le.2 hl, decide_false, Bool.and_false, Bool.false_eq_true, if_false, if_true]

/-- The states of the jobs are shown in the entries of their slots. -/
theorem State.showJobs_spec (s : State) : s.showJobs = { s with ent := s.showJobs.ent } ∧
    ∀ k, (∀ i, k ≠ mkKey 2 0x090 i) → s.showJobs.getKey k = s.getKey k := by
  have hfold : ∀ (l : List (Nat × Job)) (w : State),
      let f (s : State) (p : Nat × Job) : State := s.put 2 0x090 p.1 (if s.jobPaused p.1 p.2 then 3 else if p.2.steps = 0 then 1 else 2)
      l.foldl f w = { w with ent := (l.foldl f w).ent } ∧ ∀ k, (∀ i, k ≠ mkKey 2 0x090 i) → (l.foldl f w).getKey k = w.getKey k := by
    intro l
    induction l with
    | nil => exact fun w => ⟨rfl, fun _ _ => rfl⟩
    | cons p l ih =>
      intro w f
      obtain ⟨hframe, hkeys⟩ := ih (f w p)
      exact ⟨hframe, fun k hk => (hkeys k hk).trans ((State.getKey_putKey ..).trans (if_neg (hk p.1)))⟩
  exact hfold s.ref.job s

theorem State.showJobs_of_no_jobs (h : s.ref.job = []) : s.showJobs = s := by
  rw [State.showJobs, h]
  rfl

/-! ### The end of a job (R94, R410) -/

/-- From `s` to `u` only notifications were queued: sessions changed, and of the entries the count of lost ones. -/
def Notified (s u : State) : Prop := u = { s with ses := u.ses, ent := u.ent } ∧ ∀ k, k ≠ mkKey 0xA 0x00B 0 → u.getKey k = s.getKey k

theorem Notified.refl (s : State) : Notified s s := ⟨rfl, fun _ _ => rfl⟩

theorem Notified.trans (h : Notified s u) (h' : Notified u v) : Notified s v := by
  obtain ⟨hu, ku⟩ := h
  obtain ⟨hv, kv⟩ := h'
  refine ⟨?_, fun k hk => (kv k hk).trans (ku k hk)⟩
  conv_lhs => rw [hv, hu]

theorem notified_setSess (s : State) (n : Nat) (x : Sess) : Notified s (s.setSess n x) := ⟨rfl, fun _ _ => rfl⟩

theorem notified_notifyOne (s : State) (n : Nat) (x : Notif) : Notified s (s.notifyOne n x) := by
  rw [State.notifyOne]
  split
  · exact .refl s
  · split
    · exact (notified_setSess ..).trans ⟨rfl, fun k hk => (State.getKey_putKey ..).trans (if_neg hk)⟩
    · exact notified_setSess ..

theorem notified_notify (s : State) (ntype cls : Nat) (body : List Byte) : Notified s (s.notify ntype cls body) := by
  have hone (s : State) (p : Prop) [Decidable p] (n : Nat) (x : Notif) : Notified s (if p then s else s.notifyOne n x) := by
    split
    · exact .refl s
    · exact notified_notifyOne ..
  exact (hone s _ 0 _).trans (hone _ _ 1 _)

/-- What the entries of a slot show of a job that has ended. -/
def endShows (slot st r : Nat) : List (Nat × Nat) :=
  [(mkKey 2 0x090 slot, st), (mkKey 2 0x093 slot, r), (mkKey 2 0x095 slot, 0xFF)] ++ if st = 4 then [(mkKey 2 0x092 slot, 100)] else []

theorem endShows_pairwise (slot st r : Nat) : (endShows slot st r).Pairwise (fun (a b : Nat × Nat) => a.1 ≠ b.1) := by
  unfold endShows
  split <;> simp [mkKey]

theorem key_of_mem_endShows {slot st r : Nat} {p : Nat × Nat} (h : p ∈ endShows slot st r) : ∃ e < 4096, p.1 = mkKey 2 e slot := by
  simp only [endShows, List.mem_append, List.mem_cons, List.not_mem_nil, or_false, List.mem_ite_nil_right] at h
  rcases h with (rfl | rfl | rfl) | ⟨-, rfl⟩ <;> exact ⟨_, by decide, rfl⟩

/-- The jobs without that of a slot. -/
def State.freeJob (s : State) (slot : Nat) : State := { s with ref := { s.ref with job := s.ref.job.filter (fun p => p.1 != slot) } }

/-- The tag of a request is free, unless a transfer in segments still uses it (R409). -/
def State.freeTag (s : State) (owner : Option Req) : State :=
  match owner with
  | some q =>
    if (s.sess q.ses.val).segs.any (fun g => g.write && g.tag == q.tag) then s
    else s.setSess q.ses.val { s.sess q.ses.val with inUse := (s.sess q.ses.val).inUse.filter (· != q.tag) }
  | none => s

theorem notified_freeTag (s : State) (owner : Option Req) : Notified s (s.freeTag owner) := by
  unfold State.freeTag
  split
  · split
    · exact .refl s
    · exact notified_setSess ..
  · exact .refl s

/-- The end of a job shows its state and result in its slot; then its tag may be free, and JOB_END is notified. -/
theorem State.endJob_eq (s : State) (slot st result : Nat) : s.endJob slot st result =
    (((s.freeJob slot).putKeys (endShows slot st (if st = 5 then result else 0))).freeTag ((s.jobAt slot).bind (·.owner))).notify 5 0
      (BitVec.ofNat 8 slot :: beBytes (s.en 2 0x091 slot) 3 ++ [BitVec.ofNat 8 st] ++ beBytes (if st = 5 then result else 0) 3) := by
  by_cases h : st = 4
  · rw [State.endJob, endShows, if_pos h, if_pos h]
    rfl
  · rw [State.endJob, endShows, if_neg h, if_neg h]
    rfl

theorem notified_endJob (s : State) (slot st result : Nat) :
    Notified ((s.freeJob slot).putKeys (endShows slot st (if st = 5 then result else 0))) (s.endJob slot st result) := by
  rw [State.endJob_eq]
  exact (notified_freeTag ..).trans (notified_notify ..)

/-- An entry of a slot is not the count of lost notifications. -/
theorem mkKey_slot_ne_lost {e slot : Nat} (he : e < 4096) (hslot : slot < 64) : mkKey 2 e slot ≠ mkKey 0xA 0x00B 0 := by
  simp only [mkKey]
  omega

/-- The end of a job changes its job, sessions and entries alone. -/
theorem State.endJob_frame (s : State) (slot st result : Nat) : s.endJob slot st result =
    { s.freeJob slot with ses := (s.endJob slot st result).ses, ent := (s.endJob slot st result).ent } := by
  conv_lhs => rw [(notified_endJob s slot st result).1, State.putKeys_eq]

theorem State.getKey_endJob_shown (s : State) {slot : Nat} (hslot : slot < 64) (st result : Nat) {p : Nat × Nat}
    (hp : p ∈ endShows slot st (if st = 5 then result else 0)) : (s.endJob slot st result).getKey p.1 = p.2 := by
  obtain ⟨e, he, hpe⟩ := key_of_mem_endShows hp
  rw [(notified_endJob s slot st result).2 _ (hpe ▸ mkKey_slot_ne_lost he hslot)]
  exact (onlyEntries_putKeys _ (endShows_pairwise ..) (s.freeJob slot)).1 p hp

/-- An entry of another area is as before, but for the count of lost notifications. -/
theorem State.getKey_endJob_of_ne (s : State) (slot st result : Nat) {k : Nat} (hlost : k ≠ mkKey 0xA 0x00B 0) (hk : ∀ e < 4096, k ≠ mkKey 2 e slot) :
    (s.endJob slot st result).getKey k = s.getKey k := by
  rw [(notified_endJob s slot st result).2 k hlost]
  refine State.getKey_putKeys_of_notMem _ _ fun p hp => ?_
  obtain ⟨e, he, hpe⟩ := key_of_mem_endShows hp
  exact hpe ▸ (hk e he).symm

/-- The only job ends: no job is left, and its slot shows it. -/
theorem State.endJob_only {slot : Nat} {j : Job} (hj : s.ref.job = [(slot, j)]) (hslot : slot < 64) (st result : Nat) :
    (s.endJob slot st result).ref = { s.ref with job := [] } ∧ (s.endJob slot st result).en 2 0x090 slot = st ∧
    (s.endJob slot st result).en 2 0x093 slot = (if st = 5 then result else 0) ∧ (s.endJob slot st result).mem = s.mem := by
  refine ⟨?_, s.getKey_endJob_shown hslot st result (p := (mkKey 2 0x090 slot, st)) (by simp [endShows]),
    s.getKey_endJob_shown hslot st result (p := (mkKey 2 0x093 slot, if st = 5 then result else 0)) (by simp [endShows]), ?_⟩
  · rw [State.endJob_frame, State.freeJob, hj]
    simp
  · rw [State.endJob_frame]
    rfl

/-! ### Jobs that end in a step -/

theorem State.jobCancelled_kimgLoad (s : State) (slot : Nat) {j : Job} (hk : j.kind = .kimgLoad) : s.jobCancelled slot j = s.endJob slot 6 0 := by
  rw [State.jobCancelled, hk]

theorem State.jobLimit_kimgLoad (s : State) (slot : Nat) {j : Job} (hk : j.kind = .kimgLoad) :
    s.jobLimit slot j = (s.endJob slot 5 (0x02000B + 256 * slot)).report (0x02000B + 256 * slot) := by
  simp only [State.jobLimit, hk]

theorem State.kindStep_kimgDelete (s : State) (slot : Nat) {j : Job} (hk : j.kind = .kimgDelete) (obs : JobObs) :
    s.kindStep slot j obs = s.kdelStep slot j := by
  rw [State.kindStep, hk]

theorem State.counted_of_kind {j : Job} (hp : j.kind ≠ .precheck) (hs : j.kind ≠ .shed) : s.counted j = true := by
  simp [State.counted, hp, hs]

/-! ### The directory of the kernel store (R341) -/

theorem State.dirEntry_of_mem (h : u.mem = s.mem) (kk : Nat) : u.dirEntry kk = s.dirEntry kk := by
  unfold State.dirEntry State.framRange State.upsets State.fram State.upset
  rw [h]

theorem State.dirUsed_of_mem (h : u.mem = s.mem) (kk : Nat) : u.dirUsed kk = s.dirUsed kk := by
  unfold State.dirUsed
  rw [State.dirEntry_of_mem h]

theorem State.kimgSlot_of_mem (h : u.mem = s.mem) (id : Nat) : u.kimgSlot id = s.kimgSlot id := by
  have hid : u.kimgId = s.kimgId := funext fun kk => by unfold State.kimgId; rw [State.dirUsed_of_mem h, State.dirEntry_of_mem h]
  rw [State.kimgSlot, State.kimgSlot, hid]

/-- A read of words without an error only delivers them. -/
theorem State.framRead_of_no_upset (h : s.mem.upset = []) (a n : Nat) : s.framRead a n = s := by
  have hn (m : Nat) : s.upsets 2 a n m = 0 := by simp [State.upsets, h]
  simp only [State.framRead, hn, bne_self_eq_false, State.whenS, Bool.false_eq_true, if_false]

/-- The first word of a run as it is read. -/
theorem State.framRange_head (s : State) (a n : Nat) : (s.framRange a (n + 1)).getD 0 0 = s.fram a ∨
    (s.framRange a (n + 1)).getD 0 0 = Tab.get (fun _ => 0) s.mem.fram a := by
  rw [State.framRange]
  split
  · exact .inr rfl
  · exact .inl (by simp [List.range_succ_eq_map])

/-- The first word of a run that is written reads as written. -/
theorem State.framRange_head_setFram (s : State) (a n : Nat) (w : Word) (l : List Word) : ((s.setFram a (w :: l)).framRange a (n + 1)).getD 0 0 = w := by
  rcases State.framRange_head (s.setFram a (w :: l)) a n with h | h <;> rw [h]
  · rw [State.fram_setFram, if_pos (by simp), Nat.sub_self]
    rfl
  · refine (Tab.get_setRange ..).trans ?_
    rw [if_pos (by simp), Nat.sub_self]
    rfl

/-- The words of a directory entry (R341). -/
def dirWords (id ver page len : Nat) : List Word :=
  [BitVec.ofNat 24 ver, BitVec.ofNat 24 page, BitVec.ofNat 24 len, 0, 0, 0,
    crc24 [BitVec.ofNat 24 id, BitVec.ofNat 24 ver, BitVec.ofNat 24 page, BitVec.ofNat 24 len, 0, 0, 0]]

theorem State.setDir_eq (s : State) (kk id ver page len : Nat) : s.setDir kk id ver page len =
    (s.setFram (0x20000 + 8 * kk) (BitVec.ofNat 24 id :: dirWords id ver page len)).putKeys
      [(mkKey 3 0x021 kk, id), (mkKey 3 0x022 kk, if id = 0 then 0 else ver), (mkKey 3 0x023 kk, b2n (id != 0))] := rfl

theorem State.setFram_frame (s : State) (a : Nat) (l : List Word) : ∃ f x, s.setFram a l = { s with mem := { s.mem with fram := f, upset := x } } :=
  ⟨_, _, rfl⟩

/-- A directory entry is written: the array changes, and the entries of its slot. -/
theorem State.setDir_frame (s : State) (kk id ver page len : Nat) :
    ∃ f x e, s.setDir kk id ver page len = { s with mem := { s.mem with fram := f, upset := x }, ent := e } := by
  obtain ⟨f, x, h⟩ := s.setFram_frame (0x20000 + 8 * kk) (BitVec.ofNat 24 id :: dirWords id ver page len)
  rw [State.setDir_eq, h]
  exact ⟨f, x, _, State.putKeys_eq ..⟩

/-- A directory entry without a kernel is not in use. -/
theorem State.dirUsed_setDir_zero (s : State) (kk ver page len : Nat) : (s.setDir kk 0 ver page len).dirUsed kk = false := by
  have hmem : (s.setDir kk 0 ver page len).mem = (s.setFram (0x20000 + 8 * kk) (BitVec.ofNat 24 0 :: dirWords 0 ver page len)).mem := by
    rw [State.setDir_eq, State.putKeys_eq]
  have hid : ((s.setDir kk 0 ver page len).dirEntry kk).getD 0 0 = 0 := by
    rw [State.dirEntry_of_mem hmem]
    exact s.framRange_head_setFram ..
  simp only [State.dirUsed, hid, ne_eq, not_true_eq_false, decide_false, Bool.false_and]

theorem State.en_setDir_id (s : State) (kk id ver page len : Nat) : (s.setDir kk id ver page len).en 3 0x021 kk = id := by
  rw [State.setDir_eq]
  exact (onlyEntries_putKeys _ (by simp [mkKey]) _).1 (mkKey 3 0x021 kk, id) List.mem_cons_self

theorem State.kimgSlot_lt {id kk : Nat} (h : s.kimgSlot id = some kk) : kk < 64 := by
  unfold State.kimgSlot at h
  split at h
  · cases h
  · exact List.mem_range.1 (List.mem_of_find?_eq_some h)

/-- The step of a KIMG_DELETE job, the only one, where no word of the array holds an error: the directory entry is free, and the job ends DONE. -/
theorem State.kdelStep_only {slot kk : Nat} {j : Job} (hjob : s.ref.job = [(slot, j)]) (hslot : slot < 64) (hm : s.mem.upset = [])
    (hk : s.kimgSlot j.arg = some kk) :
    (s.kdelStep slot j).ref = { s.ref with job := [] } ∧ (s.kdelStep slot j).en 2 0x090 slot = 4 ∧ (s.kdelStep slot j).en 2 0x092 slot = 100 ∧
      (s.kdelStep slot j).dirUsed kk = false ∧ (s.kdelStep slot j).en 3 0x021 kk = 0 ∧
      (s.kdelStep slot j).mem = { s.mem with fram := (s.kdelStep slot j).mem.fram, upset := (s.kdelStep slot j).mem.upset } := by
  have hread : s.readDir = s := State.framRead_of_no_upset hm ..
  have hstep : s.kdelStep slot j = (s.setDir kk 0 0 0 0).endJob slot 4 0 := by simp only [State.kdelStep, hread, hk]
  have hlt := State.kimgSlot_lt hk
  have hfree := s.dirUsed_setDir_zero kk 0 0 0
  have hid := s.en_setDir_id kk 0 0 0 0
  obtain ⟨f, x, e, hdir⟩ := s.setDir_frame kk 0 0 0 0
  rw [hstep]
  generalize s.setDir kk 0 0 0 0 = v at hfree hid hdir ⊢
  have hvref : v.ref = s.ref := by rw [hdir]
  have hvmem : v.mem = { s.mem with fram := f, upset := x } := by rw [hdir]
  obtain ⟨href, hstate, -, hmem⟩ := State.endJob_only (hvref ▸ hjob) hslot 4 0
  have hdone := v.getKey_endJob_shown hslot 4 0 (p := (mkKey 2 0x092 slot, 100)) (by simp [endShows])
  have hentry := v.getKey_endJob_of_ne slot 4 0 (k := mkKey 3 0x021 kk) (by simp only [mkKey]; omega) fun e he => by simp only [mkKey]; omega
  refine ⟨by rw [href, hvref], hstate, hdone, (State.dirUsed_of_mem hmem kk).trans hfree, hentry.trans hid, ?_⟩
  rw [hmem, hvmem]

/-! ### JOB_CANCEL (R98) -/

theorem entRow_jobCancel : ∀ slot : Fin 64, (entRow (mkKey 2 0x096 slot)).map (fun r => (r.acc, r.kept)) = some (.wo, false) := by decide +kernel

theorem doJobCancel_cancellable {q : Req} {slot : Fin 64} {j : Job} (h : Served s q) (hp : Permits s q (mkKey 2 0x096 slot) 1 0 none)
    (hj : s.jobAt slot = some j) (hc : j.cancellable = true) :
    doJobCancel q slot 1 s = (s.setJob slot { j with cancel := true }).respond q opWrite 0 0 (mkKey 2 0x096 slot) [0] := by
  refine (State.dictWriteR_writeOnly h hp (entRow_jobCancel slot) (if_neg (by simp [hj, hc]))).trans ?_
  rw [hj]
  rfl

theorem doJobCancel_refused {q : Req} {slot : Fin 64} {j : Job} (h : Served s q) (hp : Permits s q (mkKey 2 0x096 slot) 1 0 none)
    (hj : s.jobAt slot = some j) (hc : j.cancellable = false) : doJobCancel q slot 1 s = s.refuse q opWrite (mkKey 2 0x096 slot) ⟨errRefused, 1⟩ :=
  State.dictWriteR_refused h hp (if_pos (by simp [hj, hc]))

theorem doJobCancel_free {q : Req} {slot : Fin 64} (h : Served s q) (hp : Permits s q (mkKey 2 0x096 slot) 1 0 none) (hj : s.jobAt slot = none) :
    doJobCancel q slot 1 s = s.respond q opWrite 0 0 (mkKey 2 0x096 slot) [0] := by
  refine (State.dictWriteR_writeOnly h hp (entRow_jobCancel slot) (if_neg (by simp [hj]))).trans ?_
  rw [hj]

/-- The job of a slot changes; the other slots have theirs. -/
theorem State.jobAt_setJob {slot : Nat} {j : Job} (hj : s.jobAt slot = some j) (j' : Job) (n : Nat) :
    (s.setJob slot j').jobAt n = if n = slot then some j' else s.jobAt n := by
  have hmap : ∀ l : List (Nat × Job), ((l.map (fun p => if p.1 == slot then (slot, j') else p)).find? (fun p => p.1 == n)).map (·.2) =
      if n = slot then ((l.find? (fun p => p.1 == slot)).map (fun _ => j')) else (l.find? (fun p => p.1 == n)).map (·.2) := by
    intro l
    induction l with
    | nil => simp
    | cons p l ih =>
      by_cases hp : p.1 = slot <;> by_cases hn : n = slot
      · simp [hp, hn]
      · simp_all [Ne.symm hn]
      · simp_all
      · by_cases hpn : p.1 = n <;> simp_all
  refine (hmap s.ref.job).trans ?_
  split
  · obtain ⟨p, hp, -⟩ := Option.map_eq_some_iff.1 hj
    rw [hp]
    rfl
  · rfl

/-! ### JOB_PROGRESS (R410) -/

theorem State.notifyOne_of_room {n : Nat} (hv : s.ver n ≠ 0) (hn : n ≠ 1) (hlen : (s.sess n).notif.length < 64) (x : Notif) :
    s.notifyOne n x = s.setSess n { s.sess n with notif := (s.sess n).notif ++ [x] } := by
  simp only [State.notifyOne, hv, hn, Nat.not_le.2 hlen, false_and, or_self, if_false]

/-- The time of a notification of progress `p` of a slot is kept. -/
def State.noteProgress (s : State) (slot p : Nat) : State :=
  let others := s.flt.lastAt.filter (fun x => x.1 / 256 != 0x20000 + slot)
  { s with flt := { s.flt with lastAt := (0x2000000 + 256 * slot + p, s.t48.toNat) :: others } }

/-- Only the first session takes the notification, with room for it. -/
theorem State.sendProgress_first (slot p : Nat) (h0 : s.ver 0 = 0x0204) (h1 : s.ver 1 = 0) (hlen : (s.sess 0).notif.length < 64) :
    s.sendProgress slot p = (s.noteProgress slot p).setSess 0 { s.sess 0 with notif := (s.sess 0).notif ++
      [⟨s.t48.toNat, 6, 0, [BitVec.ofNat 8 slot, BitVec.ofNat 8 p]⟩] } := by
  have hn : (s.noteProgress slot p).ver 0 = 0x0204 := h0
  have hone := State.notifyOne_of_room (s := s.noteProgress slot p) (by rw [hn]; decide) (by decide) hlen
    ⟨s.t48.toNat, 6, 0, [BitVec.ofNat 8 slot, BitVec.ofNat 8 p]⟩
  have hlast (x : Sess) : ((s.noteProgress slot p).setSess 0 x).ver 1 ≠ 0x0204 := fun h => absurd (h1.symm.trans h) (by decide)
  refine Eq.trans (b := [0, 1].foldl (fun s' k => if s'.ver k = 0x0204 then
    s'.notifyOne k ⟨s.t48.toNat, 6, 0, [BitVec.ofNat 8 slot, BitVec.ofNat 8 p]⟩ else s') (s.noteProgress slot p)) rfl ?_
  rw [List.foldl_cons, List.foldl_cons, List.foldl_nil, if_pos hn, hone, if_neg (hlast _)]
  rfl

theorem doJobProgress_first {slot : Fin 64} {j : Job} (hj : s.jobAt slot = some j) (hl : s.flt.lastAt = []) :
    doJobProgress slot s = s.sendProgress slot (s.en 2 0x092 slot) := by
  simp only [doJobProgress, hj, hl, List.find?_nil]

/-- The progress that was notified last is not notified again. -/
theorem doJobProgress_again {slot : Fin 64} {j : Job} (hj : s.jobAt slot = some j) {l : List (Nat × Nat)} {a : Nat}
    (hl : s.flt.lastAt = (0x2000000 + 256 * slot.val + s.en 2 0x092 slot, a) :: l) (hb : j.born ≤ a) (hp : s.en 2 0x092 slot < 256) :
    doJobProgress slot s = s := by
  have hslot : (0x2000000 + 256 * slot.val + s.en 2 0x092 slot) / 256 = 0x20000 + slot.val := by omega
  have hcode : (0x2000000 + 256 * slot.val + s.en 2 0x092 slot) % 256 = s.en 2 0x092 slot := by omega
  simp only [doJobProgress, hj, hl]
  rw [List.find?_cons_of_pos (by simp [hslot, hb])]
  exact if_pos (.inl hcode)

end Sys2Proof.Machine

namespace Sys2Proof.Machine

section
variable {s : State} {obs : JobObs} {slot : Fin 64} {j : Job} (hdue : s.ref.due = false) (hjob : s.ref.job = [(slot.val, j)])
include hdue hjob

/-- A cancelled KIMG_LOAD ends CANCELLED in its cleanup step (R98). -/
theorem jobStep_cancelled_kimgLoad (hk : j.kind = .kimgLoad) (hc : j.cancel = true) :
    (doJobStep obs s).ref = { s.ref with job := [] } ∧ (doJobStep obs s).en 2 0x090 slot = 6 ∧ (doJobStep obs s).en 2 0x093 slot = 0 ∧
      (doJobStep obs s).mem = s.mem := by
  have hchoose : s.chooseJob = some (slot.val, j) := State.chooseJob_only hjob (by rw [hk]; decide) (by simp [State.runnable, hc])
  obtain ⟨href, hstate, hresult, hmem⟩ := State.endJob_only hjob slot.isLt 6 0
  rw [doJobStep_cancelled hdue hchoose hc, State.jobCancelled_kimgLoad s slot hk, State.showJobs_of_no_jobs (by rw [href])]
  exact ⟨href, hstate, hresult, hmem⟩

/-- A KIMG_LOAD at its step limit ends FAILED with JOB_TIMEOUT (R96). -/
theorem jobStep_limit_kimgLoad (hk : j.kind = .kimgLoad) (hc : j.cancel = false) (hd : s.deferring = false) (hw : s.nvm.writing = false)
    (hf : j.fed = true) (hl : j.limit ≤ j.steps) :
    (doJobStep obs s).ref = { s.ref with job := [] } ∧ (doJobStep obs s).en 2 0x090 slot = 5 ∧
      (doJobStep obs s).en 2 0x093 slot = 0x02000B + 256 * slot.val ∧ ⟨0x02000B + 256 * slot.val, false⟩ ∈ (doJobStep obs s).flt.reports ∧
      (doJobStep obs s).mem = s.mem := by
  have hchoose : s.chooseJob = some (slot.val, j) := State.chooseJob_only hjob (by rw [hk]; decide)
    (by simp [State.runnable, State.jobPaused, State.lockTaken_only hjob, State.jobReady, hk, hd, hw, hf])
  obtain ⟨href, hstate, hresult, hmem⟩ := State.endJob_only hjob slot.isLt 5 (0x02000B + 256 * slot.val)
  rw [doJobStep_limit hdue hchoose hc (s.counted_of_kind (by rw [hk]; decide) (by rw [hk]; decide)) hl, State.jobLimit_kimgLoad s slot hk,
    State.showJobs_of_no_jobs (by rw [State.report_ref, href])]
  exact ⟨href, hstate, hresult, List.mem_append_right _ List.mem_cons_self, hmem⟩

/-- A KIMG_DELETE ends DONE in its only step, its directory entry free (R69). -/
theorem jobStep_kimgDelete (hk : j.kind = .kimgDelete) (hc : j.cancel = false) (hd : s.deferring = false) (hw : s.nvm.writing = false)
    (hl : j.steps < j.limit) (hu : s.mem.upset = []) {kk : Nat} (hkk : s.kimgSlot j.arg = some kk) :
    (doJobStep obs s).ref = { s.ref with job := [] } ∧ (doJobStep obs s).en 2 0x090 slot = 4 ∧ (doJobStep obs s).en 2 0x092 slot = 100 ∧
      (doJobStep obs s).dirUsed kk = false ∧ (doJobStep obs s).en 3 0x021 kk = 0 ∧
      (doJobStep obs s).mem = { s.mem with fram := (doJobStep obs s).mem.fram, upset := (doJobStep obs s).mem.upset } := by
  have hchoose : s.chooseJob = some (slot.val, j) := State.chooseJob_only hjob (by rw [hk]; decide)
    (by simp [State.runnable, State.jobPaused, State.lockTaken_only hjob, State.jobReady, hk, hd, hw])
  have hcount : s.counted j = true := s.counted_of_kind (by rw [hk]; decide) (by rw [hk]; decide)
  rw [doJobStep_counted hdue hchoose hc hcount hl, State.kindStep_kimgDelete (j := { j with steps := j.steps + 1 }) _ _ hk]
  generalize hwdef : (s.setJob slot { j with steps := j.steps + 1 }).progress slot { j with steps := j.steps + 1 } = w
  have href : w.ref = { s.ref with job := [(slot.val, { j with steps := j.steps + 1 })] } := by
    rw [← hwdef, State.progress, State.put_ref, State.setJob, hjob]
    simp
  have hmem : w.mem = s.mem := by rw [← hwdef]; rfl
  have hdel := w.kdelStep_only (j := { j with steps := j.steps + 1 }) (by rw [href]) slot.isLt (hmem ▸ hu) ((State.kimgSlot_of_mem hmem j.arg).trans hkk)
  rw [State.showJobs_of_no_jobs (by rw [hdel.1])]
  rwa [href, hmem] at hdel

end

/-- Settles O23: the jobs are folded to the first of them; each of the jobs that end leaves the list in `State.endJob`; the second notification finds the
time of the first. -/
theorem jobsRunEndAndReport : Obligations.JobsRunEndAndReport := by
  refine ⟨fun s obs slot j => ⟨fun a b hmid hc => ?_, fun hc hdue => ⟨_, exec_jobStep .., ?_⟩, fun hdue hjob hk hc => ⟨_, exec_jobStep .., ?_⟩,
    fun hdue hjob hk hc hd hw hf hl => ⟨_, exec_jobStep .., ?_⟩, fun hdue hjob hk hc hd hw hl hu kk hkk => ⟨_, exec_jobStep .., ?_⟩,
    fun h4 => ⟨_, exec_jobSlotExpiry .., ?_⟩⟩, fun s q slot j => ⟨fun h hp => ⟨fun hj hc => ⟨_, exec_jobCancel .., ?_⟩,
      fun hj hc => ⟨_, exec_jobCancel .., ?_⟩, fun hj => ⟨_, exec_jobCancel .., ?_⟩⟩,
    fun hj hb hp hl h0 h1 hlen => ⟨_, exec_jobProgress .., ?_⟩⟩⟩
  · rw [State.chooseJob_of_boundary hmid] at hc
    obtain ⟨hmem, hfirst⟩ := State.foldl_firstOf hc
    obtain ⟨hjob, hrun⟩ := List.mem_filter.1 hmem
    exact ⟨hjob, hrun, fun p hp hr => hfirst p (List.mem_filter.2 ⟨hp, hr⟩)⟩
  · rw [doJobStep_idle hdue hc]
    exact s.showJobs_spec
  · exact jobStep_cancelled_kimgLoad hdue hjob hk hc
  · exact jobStep_limit_kimgLoad hdue hjob hk hc hd hw hf hl
  · exact jobStep_kimgDelete hdue hjob hk hc hd hw hl hu hkk
  · rw [doJobSlotExpiry, if_pos h4]
    exact ⟨rfl, onlyEntries_putKeys [(mkKey 2 0x090 slot, 0)] (List.pairwise_singleton ..) s⟩
  · rw [doJobCancel_cancellable h hp hj hc]
    exact ⟨confirms_respond (u := s.setJob slot { j with cancel := true }) rfl q _, rfl, State.jobAt_setJob hj _⟩
  · rw [doJobCancel_refused h hp hj hc]
    exact ⟨refusesWith_refuse rfl q _ 1, rfl⟩
  · rw [doJobCancel_free h hp hj]
    exact ⟨confirms_respond rfl q _, rfl⟩
  · rw [doJobProgress_first hj hl, State.sendProgress_first slot _ h0 h1 hlen]
    refine ⟨rfl, (State.sess_setSess ..).trans (if_pos rfl), fun n hn => (State.sess_setSess ..).trans (if_neg hn), ?_⟩
    exact (exec_jobProgress ..).trans (congrArg Host.Outcome.next (doJobProgress_again hj rfl hb (by exact Nat.lt_of_le_of_lt hp (by decide))))

end Sys2Proof.Machine
end

section
/-! SUPPORT. What a declaration takes over and what the removal of a task frees (R71, R72, R79, R100), and the statement on them, settled. -/

namespace Sys2Proof.Machine

variable {s u : State} {t : Nat}

/-! ### The commands -/

theorem exec_taskDeclare (q : Req) (t : Fin 96) (s : State) : exec (.taskDeclare q t) s = .next (doTaskDeclare q t s) := rfl

theorem exec_taskRemove (q : Req) (t : Fin 96) (s : State) : exec (.taskRemove q t) s = .next (doTaskRemove q t s) := rfl

/-! ### The declaration in force -/

/-- Entries of the declaration in force take the values `f`. -/
def State.putDecls (s : State) (ks : List Nat) (f : Nat → Nat) : State := ks.foldl (fun s k => s.putDecl k (f k)) s

theorem State.putDecls_frame (f : Nat → Nat) : ∀ (ks : List Nat) (s : State), ∃ d, s.putDecls ks f = { s with decl := d }
  | [], s => ⟨s.decl, rfl⟩
  | k :: ks, s => State.putDecls_frame f ks (s.putDecl k (f k))

theorem State.getKey_putDecls (f : Nat → Nat) (ks : List Nat) (s : State) (k : Nat) : (s.putDecls ks f).getKey k = s.getKey k := by
  obtain ⟨d, hd⟩ := State.putDecls_frame f ks s
  rw [hd]
  rfl

theorem State.dc_putDecls (f : Nat → Nat) (a e i : Nat) : ∀ (ks : List Nat) (s : State),
    (s.putDecls ks f).dc a e i = if mkKey a e i ∈ ks then f (mkKey a e i) else s.dc a e i
  | [], _ => rfl
  | k :: ks, s => by
    have hput : (s.putDecl k (f k)).dc a e i = if mkKey a e i = k then f k else s.dc a e i := Tab.get_set ..
    refine (State.dc_putDecls f a e i ks (s.putDecl k (f k))).trans ?_
    rw [hput]
    by_cases h : mkKey a e i = k
    · subst h
      simp
    · simp [h]

/-- The keys of the entries that declare a task (R71). -/
def taskKeys (t : Nat) : List Nat := (List.range 0x1C).map (fun e => mkKey 2 (0x010 + e) t)

theorem mem_taskKeys {e p t : Nat} (hp : p < 256) (ht : t < 256) : mkKey 2 e p ∈ taskKeys t ↔ p = t ∧ 0x010 ≤ e ∧ e < 0x02C := by
  simp only [taskKeys, List.mem_map, List.mem_range, mkKey]
  refine ⟨fun ⟨n, hn, h⟩ => by omega, fun ⟨h, hl, hu⟩ => ⟨e - 0x010, by omega, by omega⟩⟩

theorem State.clearDecl_eq (s : State) (ks : List Nat) : s.clearDecl ks = s.putDecls ks entDefault := rfl

/-- The declaration takes the values of the entries. -/
theorem State.snapTask_eq (s : State) (t : Nat) : s.snapTask t = s.putDecls (taskKeys t) s.getKey := by
  have hfold : ∀ (l : List Nat) (w : State), w.getKey = s.getKey →
      l.foldl (fun s e => s.putDecl (mkKey 2 (0x010 + e) t) (s.en 2 (0x010 + e) t)) w =
        (l.map (fun e => mkKey 2 (0x010 + e) t)).foldl (fun w k => w.putDecl k (s.getKey k)) w := by
    intro l
    induction l with
    | nil => exact fun _ _ => rfl
    | cons e l ih =>
      intro w hw
      rw [List.foldl_cons, List.map_cons, List.foldl_cons, State.en, hw]
      exact ih _ hw
  exact hfold _ s rfl

theorem State.dc_putKeys (s : State) (l : List (Nat × Nat)) (a e i : Nat) : (s.putKeys l).dc a e i = s.dc a e i := by
  rw [State.putKeys_eq]
  generalize (s.putKeys l).ent = m
  rfl

theorem State.dc_setTask (s : State) (t : Nat) (x : TaskRt) (a e i : Nat) : (s.setTask t x).dc a e i = s.dc a e i := rfl

/-- What two entries that were written read. -/
theorem State.getKey_putKeys_pair (s : State) (a x b y k : Nat) :
    (s.putKeys [(a, x), (b, y)]).getKey k = if k = b then y else if k = a then x else s.getKey k := by
  refine (State.getKey_putKey ..).trans ?_
  rw [State.getKey_putKey]

/-! ### A task leaves its engine -/

theorem State.dropMig_of_not_migrating (hm : (s.task t).mig = none) : s.dropMig t = s := by
  simp only [State.dropMig, hm]

/-- A task without an engine has none to leave. -/
theorem State.unplace_of_no_engine (hm : (s.task t).mig = none) (hc : (s.task t).codeLen = 0) : s.unplace t = s := by
  simp only [State.unplace, State.dropMig_of_not_migrating hm, hc, if_true]

theorem State.exists_mbox_freeBoxes (s : State) (e : Nat) (boxes : List (Option Nat)) :
    ∃ m, s.freeBoxes e boxes = { s with loop := { s.loop with mbox := m } } := by
  have hframe : MboxFrame s (s.freeBoxes e boxes) := by
    refine .foldl (fun s b => ?_) _ s
    rfl
  exact ⟨_, hframe⟩

/-- The slot and the context of a task are free. -/
def State.leaveSlot (s : State) (x : TaskRt) : State := (s.setSlot x.engine x.slot none).setCtx (6 * x.engine + x.slot) Ctx.zero

theorem State.leaveSlot_frame (s : State) (x : TaskRt) : ∃ l, s.leaveSlot x = { s with loop := l } := ⟨_, rfl⟩

theorem State.slotTask_leaveSlot (s : State) (x : TaskRt) : (s.leaveSlot x).slotTask x.engine x.slot = none := by
  have heng : (s.leaveSlot x).eng x.engine = { s.eng x.engine with slots := (s.eng x.engine).slots.setIfInBounds x.slot none } :=
    (State.eng_setEng ..).trans (if_pos rfl)
  rw [State.slotTask, heng]
  split
  · simp
  · rfl

/-- What stays of the record of a task that leaves its engine: its counts. -/
def TaskRt.left (x : TaskRt) : TaskRt :=
  { TaskRt.none with aborts := x.aborts, mismatches := x.mismatches, lastMig := x.lastMig, lastTry := x.lastTry }

/-- A task with an engine frees its mailboxes, its slot, its context and its due releases; its entries show no engine. -/
theorem State.unplace_of_engine (hm : (s.task t).mig = none) (hc : (s.task t).codeLen ≠ 0) :
    ∃ m d, s.unplace t = (({ { s with loop := { s.loop with mbox := m } }.leaveSlot (s.task t) with due := d } : State).setTask t
      (s.task t).left).putKeys [(mkKey 2 0x033 t, 0), (mkKey 2 0x034 t, 0xFF)] := by
  simp only [State.unplace, State.dropMig_of_not_migrating hm, if_neg hc]
  split
  · obtain ⟨m, h⟩ := s.exists_mbox_freeBoxes (s.task t).engine (s.task t).mboxes
    rw [h]
    exact ⟨m, _, rfl⟩
  · exact ⟨s.loop.mbox, _, rfl⟩

/-- Of the rest only mailboxes, its record and its due releases changed. -/
theorem State.unplace_spec (hm : (s.task t).mig = none) (hc : (s.task t).codeLen ≠ 0) :
    (∃ l d r e, s.unplace t = { s with loop := l, due := d, ref := r, ent := e }) ∧
    (s.unplace t).slotTask (s.task t).engine (s.task t).slot = none ∧ (s.unplace t).ctx (s.ctxKey t) = Ctx.zero ∧
    (∀ j, j ≠ t → (s.unplace t).task j = s.task j) ∧ (s.unplace t).en 2 0x034 t = 0xFF := by
  obtain ⟨m, d, h⟩ := State.unplace_of_engine hm hc
  have hent := (onlyEntries_putKeys [(mkKey 2 0x033 t, 0), (mkKey 2 0x034 t, 0xFF)] (by simp [mkKey])
    (({ { s with loop := { s.loop with mbox := m } }.leaveSlot (s.task t) with due := d } : State).setTask t (s.task t).left)).1
    (mkKey 2 0x034 t, 0xFF) (by simp)
  rw [← h] at hent
  rw [State.putKeys_eq] at h
  refine ⟨?_, ?_, ?_, fun j hj => ?_, hent⟩
  · obtain ⟨l, hl⟩ := { s with loop := { s.loop with mbox := m } }.leaveSlot_frame (s.task t)
    rw [h, hl]
    exact ⟨l, d, _, _, rfl⟩
  · have hslot := { s with loop := { s.loop with mbox := m } }.slotTask_leaveSlot (s.task t)
    generalize { s with loop := { s.loop with mbox := m } }.leaveSlot (s.task t) = w at h hslot
    rw [h]
    exact hslot
  · rw [h]
    exact State.ctx_setCtx_self ..
  · rw [h]
    exact (State.task_setTask ..).trans (if_neg hj)

/-! ### The declaration of a task ends -/

theorem State.dropTask_eq (s : State) (t : Nat) : s.dropTask t =
    (((s.unplace t).setTask t TaskRt.none).putDecls (taskKeys t) entDefault).putKeys [(mkKey 2 0x031 t, 0), (mkKey 2 0x032 t, 0)] := by
  simp only [State.dropTask, State.clearDecl_eq, taskKeys]
  generalize State.putDecls _ _ _ = w
  rfl

/-- Beside what the task leaves on its engine, its record, its entries and its declaration change. -/
theorem State.dropTask_frame (s : State) (t : Nat) :
    ∃ e d, s.dropTask t = { (s.unplace t).setTask t TaskRt.none with ent := e, decl := d } := by
  obtain ⟨d, hd⟩ := State.putDecls_frame entDefault (taskKeys t) ((s.unplace t).setTask t TaskRt.none)
  rw [State.dropTask_eq, hd]
  exact ⟨_, d, State.putKeys_eq ..⟩

theorem State.task_dropTask (s : State) (t j : Nat) : (s.dropTask t).task j = if j = t then TaskRt.none else (s.unplace t).task j := by
  obtain ⟨e, d, h⟩ := s.dropTask_frame t
  rw [h]
  exact State.task_setTask ..

theorem State.dc_dropTask (s : State) (t a e i : Nat) :
    (s.dropTask t).dc a e i = if mkKey a e i ∈ taskKeys t then entDefault (mkKey a e i) else (s.unplace t).dc a e i := by
  rw [State.dropTask_eq, State.dc_putKeys, State.dc_putDecls, State.dc_setTask]

theorem State.getKey_dropTask (s : State) (t k : Nat) :
    (s.dropTask t).getKey k = if k = mkKey 2 0x032 t then 0 else if k = mkKey 2 0x031 t then 0 else (s.unplace t).getKey k := by
  rw [State.dropTask_eq, State.getKey_putKeys_pair, State.getKey_putDecls]
  rfl

/-! ### A declaration is taken -/

theorem State.takeTask_eq (s : State) (t : Nat) : s.takeTask t =
    ((s.dropTask t).putDecls (taskKeys t) (s.dropTask t).getKey).putKeys [(mkKey 2 0x031 t, 1), (mkKey 2 0x032 t, 0)] := by
  rw [State.takeTask, State.snapTask_eq]
  generalize State.putDecls _ _ _ = w
  rfl

/-- Of a task without an engine only its record, its entries and its declaration change. -/
theorem State.takeTask_frame (hm : (s.task t).mig = none) (hc : (s.task t).codeLen = 0) :
    ∃ e d, s.takeTask t = { s.setTask t TaskRt.none with ent := e, decl := d } := by
  obtain ⟨e, d, h⟩ := s.dropTask_frame t
  obtain ⟨d', hd⟩ := State.putDecls_frame (s.dropTask t).getKey (taskKeys t) (s.dropTask t)
  rw [State.takeTask_eq, hd, h, State.unplace_of_no_engine hm hc]
  exact ⟨_, d', State.putKeys_eq ..⟩

theorem State.getKey_takeTask (hm : (s.task t).mig = none) (hc : (s.task t).codeLen = 0) (k : Nat) :
    (s.takeTask t).getKey k = if k = mkKey 2 0x032 t then 0 else if k = mkKey 2 0x031 t then 1 else s.getKey k := by
  rw [State.takeTask_eq, State.getKey_putKeys_pair, State.getKey_putDecls, State.getKey_dropTask, State.unplace_of_no_engine hm hc]
  split
  · rfl
  · split <;> rfl

/-- The declaration in force is as the entries hold it, and that of other tasks as before. -/
theorem State.dc_takeTask (hm : (s.task t).mig = none) (hc : (s.task t).codeLen = 0) (ht : t < 96) {e p : Nat} (hp : p < 96) :
    (s.takeTask t).dc 2 e p = if p = t ∧ 0x010 ≤ e ∧ e < 0x02C then s.en 2 e p else s.dc 2 e p := by
  rw [State.takeTask_eq, State.dc_putKeys, State.dc_putDecls, State.dc_dropTask, State.unplace_of_no_engine hm hc]
  simp only [mem_taskKeys (Nat.lt_trans hp (by decide)) (Nat.lt_trans ht (by decide))]
  by_cases h : p = t ∧ 0x010 ≤ e ∧ e < 0x02C
  · rw [if_pos h, if_pos h, State.getKey_dropTask, State.unplace_of_no_engine hm hc, if_neg (by simp only [mkKey]; omega),
      if_neg (by simp only [mkKey]; omega), State.en]
  · rw [if_neg h, if_neg h, if_neg h]

/-- No entry of a slot is one of a task's. -/
theorem State.freeSlot_takeTask (hm : (s.task t).mig = none) (hc : (s.task t).codeLen = 0) (ht : t < 96) : (s.takeTask t).freeSlot = s.freeSlot := by
  have hbusy : (s.takeTask t).slotBusy = s.slotBusy := funext fun i => by
    rw [State.slotBusy, State.en, State.getKey_takeTask hm hc, if_neg (by simp only [mkKey]; omega), if_neg (by simp only [mkKey]; omega)]
    rfl
  rw [State.freeSlot, State.freeSlot, hbusy]

/-- The placement job of one task (R79). -/
def placeJobOf (s : State) (t : Nat) : Job :=
  ⟨.place, 0, [BitVec.ofNat 24 t], 0, 0, s.placeSteps [t], JobKind.limit 1 .place, JobKind.prio .place, JobKind.cancellable .place, false, false, none,
    s.t48.toNat, 1⟩

theorem State.placeJob_one {f : Nat} (h : s.freeSlot = some f) (t : Nat) :
    s.placeJob [t] = (s.queueJob f (placeJobOf s t)).putKeys (slotShows s f (mkKey 2 0x030 t) (JobKind.lock 0 .place)) := by
  have hown : s.placeJob [t] = s.startOwnJob .place 0 [BitVec.ofNat 24 t] 1 (s.placeSteps [t]) (mkKey 2 0x030 t) := rfl
  rw [hown, State.startOwnJob, h]
  rfl

/-! ### TASK_DECLARE and TASK_REMOVE -/

theorem State.readHead_of_no_upset (h : s.mem.upset = []) (id : Nat) : s.readHead id = s := by
  have hread : s.readDir = s := State.framRead_of_no_upset h ..
  unfold State.readHead
  split
  · rw [hread, State.framRead_of_no_upset h]
  · exact hread

theorem doTaskDeclare_taken {q : Req} {t : Fin 96} (h : Served s q) (hp : Permits s q (mkKey 2 0x030 t) 0 0 none) (hu : s.mem.upset = [])
    (hr : s.refuseTask t = none) {f : Nat} (hf : s.freeSlot = some f) :
    doTaskDeclare q t s = ((s.takeTask t).placeJob [t.val]).respond q opWrite 0 0 (mkKey 2 0x030 t) [0] := by
  obtain ⟨r, hrow⟩ := hp
  simp only [doTaskDeclare, State.serve_of_served h (Nat.zero_le _), hrow, State.readHead_of_no_upset hu, hr, hf, Option.isNone_some,
    Bool.false_eq_true, if_false]
  rfl

/-- What the entries show of a declaration that was refused for `r`. -/
def refusalShows (s : State) (t r : Nat) : List (Nat × Nat) := (mkKey 2 0x032 t, r) :: if s.taskOn t then [] else [(mkKey 2 0x031 t, 6)]

theorem refusalShows_pairwise (s : State) (t r : Nat) : (refusalShows s t r).Pairwise (fun (a b : Nat × Nat) => a.1 ≠ b.1) := by
  unfold refusalShows
  split <;> simp [mkKey]

theorem doTaskDeclare_refused {q : Req} {t : Fin 96} (h : Served s q) (hp : Permits s q (mkKey 2 0x030 t) 0 0 none) (hu : s.mem.upset = [])
    {r : Nat} (hr : s.refuseTask t = some r) :
    doTaskDeclare q t s = (s.putKeys (refusalShows s t r)).refuse q opWrite (mkKey 2 0x030 t) ⟨errRefused, r⟩ := by
  obtain ⟨row, hrow⟩ := hp
  have hshow : (s.put 2 0x032 t r).whenS (!s.taskOn t) (·.put 2 0x031 t 6) = s.putKeys (refusalShows s t r) := by
    unfold refusalShows
    cases s.taskOn t <;> rfl
  simp only [doTaskDeclare, State.serve_of_served h (Nat.zero_le _), hrow, State.readHead_of_no_upset hu, hr, hshow]

theorem entRow_taskCmd : ∀ t : Fin 96, (entRow (mkKey 2 0x030 t)).map (fun r => (r.acc, r.kept)) = some (.wo, false) := by decide +kernel

theorem entDefault_taskKernel : ∀ t : Fin 96, entDefault (mkKey 2 0x010 t) = 0 := by decide +kernel

theorem doTaskRemove_eq {q : Req} {t : Fin 96} (h : Served s q) (hp : Permits s q (mkKey 2 0x030 t) 1 0 none)
    (hl : s.liveStage (s.taskStage t) = none) :
    doTaskRemove q t s = (s.dropTask t).respond q opWrite 0 0 (mkKey 2 0x030 t) [0] :=
  State.dictWriteR_writeOnly h (armed := fun s => s.liveStage (s.taskStage t)) (by rw [hl]; exact hp) (entRow_taskCmd t) rfl

theorem doTaskRemove_armed {q : Req} {t : Fin 96} (h : Served s q) (hp : Permits s q (mkKey 2 0x030 t) 1 0 none) {g : Nat}
    (hl : s.liveStage (s.taskStage t) = some g) : doTaskRemove q t s = s.refuse q opWrite (mkKey 2 0x030 t) ⟨errStageArmed, g⟩ :=
  State.dictWriteR_armed h hp (entRow_taskCmd t) hl

/-- Of a slot's entries none is a task's. -/
theorem slotShows_ne {f e i k lock : Nat} (hf : f < 64) (he : e < 0x090) (hi : i < 96) : ∀ p ∈ slotShows s f k lock, p.1 ≠ mkKey 2 e i := by
  simp only [slotShows, List.forall_mem_cons, List.not_mem_nil, false_imp_iff, implies_true, and_true, mkKey]
  omega

theorem State.freeSlot_lt {f : Nat} (h : s.freeSlot = some f) : f < 64 :=
  List.mem_range.1 (List.mem_reverse.1 (List.mem_of_find?_eq_some h))

/-- The job is in the slot that was free; of the entries only that slot's changed. -/
theorem State.placeJob_frame {f : Nat} (h : s.freeSlot = some f) (t : Nat) :
    (∃ e, s.placeJob [t] = { s.queueJob f (placeJobOf s t) with ent := e }) ∧
    ∀ e i, e < 0x090 → i < 96 → (s.placeJob [t]).en 2 e i = s.en 2 e i := by
  rw [State.placeJob_one h]
  exact ⟨⟨_, State.putKeys_eq ..⟩, fun e i he hi => State.getKey_putKeys_of_notMem _ _ (slotShows_ne (State.freeSlot_lt h) he hi)⟩

/-- The declaration of a task without an engine is taken: DECLARED without a reason, and in force as the entries hold it. -/
theorem State.takeTask_spec (hm : (s.task t).mig = none) (hc : (s.task t).codeLen = 0) (ht : t < 96) :
    (s.takeTask t).en 2 0x031 t = 1 ∧ (s.takeTask t).en 2 0x032 t = 0 ∧
    (∀ e, 0x010 ≤ e → e < 0x02C → (s.takeTask t).dc 2 e t = s.en 2 e t) ∧
    (∀ p e, p < 96 → p ≠ t → (s.takeTask t).dc 2 e p = s.dc 2 e p) ∧ ∀ j, j ≠ t → (s.takeTask t).task j = s.task j := by
  refine ⟨?_, ?_, fun e hl hu => ?_, fun p e hp hne => ?_, fun j hj => ?_⟩
  · rw [State.en, State.getKey_takeTask hm hc, if_neg (by simp [mkKey]), if_pos rfl]
  · rw [State.en, State.getKey_takeTask hm hc, if_pos rfl]
  · rw [State.dc_takeTask hm hc ht ht, if_pos ⟨rfl, hl, hu⟩]
  · rw [State.dc_takeTask hm hc ht hp, if_neg fun h => hne h.1]
  · obtain ⟨e, d, h⟩ := State.takeTask_frame hm hc
    rw [h]
    exact (State.task_setTask ..).trans (if_neg hj)

/-- The declaration of a task without an engine is taken, and its placement queued. -/
theorem taskDeclare_taken {q : Req} {t : Fin 96} (h : Served s q) (hp : Permits s q (mkKey 2 0x030 t) 0 0 none) (hu : s.mem.upset = [])
    (hr : s.refuseTask t = none) {f : Nat} (hf : s.freeSlot = some f) (hc : (s.task t).codeLen = 0) (hm : (s.task t).mig = none) :
    ∃ w, doTaskDeclare q t s = w.respond q opWrite 0 0 (mkKey 2 0x030 t) [0] ∧ (∃ r e d, w = { s with ref := r, ent := e, decl := d }) ∧
      w.en 2 0x031 t = 1 ∧ w.en 2 0x032 t = 0 ∧ (∀ e, 0x010 ≤ e → e < 0x02C → w.dc 2 e t = s.en 2 e t) ∧
      (∀ p e, p < 96 → p ≠ t.val → w.dc 2 e p = s.dc 2 e p) ∧ (∀ j, j ≠ t.val → w.task j = s.task j) ∧
      ∃ j, w.jobAt f = some j ∧ j.kind = .place ∧ j.data = [BitVec.ofNat 24 t.val] ∧ j.owner = none := by
  have hslot : (s.takeTask t).freeSlot = some f := (State.freeSlot_takeTask hm hc t.isLt).trans hf
  obtain ⟨hstate, hreason, hown, hother, htask⟩ := State.takeTask_spec hm hc t.isLt
  obtain ⟨e, d, hframe⟩ := State.takeTask_frame hm hc
  obtain ⟨⟨e', hplace⟩, hkeep⟩ := State.placeJob_frame hslot t
  refine ⟨_, doTaskDeclare_taken h hp hu hr hf, ?_, (hkeep _ _ (by decide) t.isLt).trans hstate,
    (hkeep _ _ (by decide) t.isLt).trans hreason, ?_⟩
  · generalize s.takeTask t = w at hplace hframe
    rw [hplace, hframe]
    exact ⟨_, e', d, rfl⟩
  · generalize s.takeTask t = w at *
    rw [hplace]
    exact ⟨hown, hother, htask, _, State.jobAt_queueJob_self .., rfl, rfl, rfl⟩

/-- A task with an engine is removed: its slot, its context and its declaration are free. -/
theorem State.dropTask_spec (ht : t < 96) (hm : (s.task t).mig = none) (hc : (s.task t).codeLen ≠ 0) :
    (s.dropTask t).en 2 0x031 t = 0 ∧ (s.dropTask t).en 2 0x034 t = 0xFF ∧ (s.dropTask t).taskOn t = false ∧ (s.dropTask t).task t = TaskRt.none ∧
    (s.dropTask t).slotTask (s.task t).engine (s.task t).slot = none ∧ (s.dropTask t).ctx (s.ctxKey t) = Ctx.zero ∧
    (∀ j, j ≠ t → (s.dropTask t).task j = s.task j) ∧ ∃ r e d l u, s.dropTask t = { s with ref := r, ent := e, decl := d, loop := l, due := u } := by
  obtain ⟨⟨l, u, r, e, hleft⟩, hslot, hctx, htask, hengine⟩ := State.unplace_spec hm hc
  obtain ⟨e', d, hframe⟩ := s.dropTask_frame t
  have hkernel : (s.dropTask t).dc 2 0x010 t = 0 := by
    rw [State.dc_dropTask, if_pos ((mem_taskKeys (by omega) (by omega)).2 ⟨rfl, by decide, by decide⟩)]
    exact entDefault_taskKernel ⟨t, ht⟩
  refine ⟨?_, ?_, ?_, ?_, ?_, ?_, fun j hj => ?_, ?_⟩
  · rw [State.en, State.getKey_dropTask, if_neg (by simp [mkKey]), if_pos rfl]
  · rw [State.en, State.getKey_dropTask, if_neg (by simp [mkKey]), if_neg (by simp [mkKey])]
    exact hengine
  · rw [State.taskOn, hkernel]
    rfl
  · rw [State.task_dropTask, if_pos rfl]
  · generalize s.unplace t = w at hframe hslot
    rw [hframe]
    exact hslot
  · generalize s.unplace t = w at hframe hctx
    rw [hframe]
    exact hctx
  · rw [State.task_dropTask, if_neg hj]
    exact htask j hj
  · rw [hframe, hleft]
    exact ⟨_, _, _, _, _, rfl⟩

/-- Settles O24: a declaration ends and begins as a list of entries written; the task leaves its engine in `State.unplace`. -/
theorem taskDeclareAndRemove : Obligations.TaskDeclareAndRemove := by
  intro s q t h x k
  refine ⟨fun hp hu => ⟨fun f hr hf hc hm => ⟨_, exec_taskDeclare .., ?_⟩, fun r hr => ⟨_, exec_taskDeclare .., ?_⟩⟩,
    fun hp hl hc he hs hm => ⟨_, exec_taskRemove .., ?_⟩,
    fun g hp hl => (exec_taskRemove ..).trans (congrArg Host.Outcome.next (doTaskRemove_armed h hp hl))⟩
  · obtain ⟨w, hw, ⟨r, e, d, hframe⟩, hspec⟩ := taskDeclare_taken h hp hu hr hf hc hm
    obtain ⟨hstate, hreason, hown, hother, htask, hjob⟩ := hspec
    rw [hw]
    refine ⟨confirms_respond (by rw [hframe]) q _, hstate, hreason, ?_, hown, hother, htask, hjob⟩
    rw [hframe]
    rfl
  · rw [doTaskDeclare_refused h hp hu hr]
    have hentries := onlyEntries_putKeys _ (refusalShows_pairwise s t r) s
    have hframe : ∃ e, s.putKeys (refusalShows s t r) = { s with ent := e } := ⟨_, State.putKeys_eq ..⟩
    generalize s.putKeys (refusalShows s t r) = w at hentries hframe ⊢
    obtain ⟨e, rfl⟩ := hframe
    exact ⟨refusesWith_refuse rfl q _ r, rfl, hentries⟩
  · obtain ⟨hstate, hengine, hon, hrec, hslot, hctx, htask, r, e, d, l, u, hframe⟩ := State.dropTask_spec t.isLt hm hc
    rw [doTaskRemove_eq h hp hl]
    generalize s.dropTask t = w at *
    refine ⟨confirms_respond (by rw [hframe]) q _, hstate, hengine, hon, hrec, hslot, hctx, htask, ?_⟩
    rw [hframe]
    rfl

end Sys2Proof.Machine
end

section
/-! SUPPORT. A store of a timing word to a generator slot (R116, R132) and the end of a fence (R49), and the statement on them, settled. -/

namespace Sys2Proof.Machine

variable {s u w : State} {e rs : Fin 16} {c : BitVec 4} {regs : List (Fin 16)} {t k : Nat} {v : Word}

/-! ### The block of a cluster (R132) -/

/-- The address of CMPA of a slot of a cluster. -/
def slotAddr (cl : Fin 12) (i : Fin 4) : Nat := 0x800000 + 256 * cl.val + 16 * i.val

theorem postView_slotAddr (cl : Fin 12) (i : Fin 4) : postView (slotAddr cl i) = none := if_neg (by unfold slotAddr; omega)

theorem ownAccess_slotAddr (cl : Fin 12) (i : Fin 4) : ownAccess (slotAddr cl i) = false := by
  have hlocal : ¬ slotAddr cl i < 0x2000 := by unfold slotAddr; omega
  have hmbox : ¬ 0x870000 ≤ slotAddr cl i := by unfold slotAddr; omega
  simp [ownAccess, hlocal, hmbox]

theorem refusedStore_slotAddr (cl : Fin 12) (i : Fin 4) (v : Word) : refusedStore (slotAddr cl i) v = false := by
  simp [refusedStore, slotAddr, show ¬ 0x830000 ≤ 0x800000 + 256 * cl.val + 16 * i.val by omega]

/-- A store of a timing word commits nothing, so it waits for no token. -/
theorem State.commitBusy_slotAddr (s : State) (cl : Fin 12) (i : Fin 4) (v : Word) : s.commitBusy (slotAddr cl i) v = false := by
  simp [State.commitBusy, slotAddr, show (0x800000 + 256 * cl.val + 16 * i.val) % 256 ≠ 0x42 by omega]

/-- The first word of a slot is its pending CMPA. -/
theorem State.clStore_slot (s : State) (cl : Nat) (i : Fin 4) (v : Word) :
    s.clStore cl (16 * i.val) v = s.setCl cl ((s.cl cl).withCmpa i v) := by
  have hslot : 16 * i.val / 16 = i.val := by omega
  have hreg : 16 * i.val % 16 = 0 := by omega
  have hset (g : Vector GenSet 4) (y : GenSet) : g.setIfInBounds i.val y = g.set i.val y i.isLt := by
    ext j hj
    simp [Vector.getElem_setIfInBounds, Vector.getElem_set]
  have hget (g : Vector GenSet 4) : g.getD i.val GenSet.reset = g[i] := by simp [Vector.getD]
  rw [State.clStore, if_pos (by omega), hslot, hreg, hset, hget]
  rfl

theorem State.portStore_slotAddr (s : State) (t e : Nat) (cl : Fin 12) (i : Fin 4) (v : Word) :
    s.portStore t e (slotAddr cl i) v = s.setCl cl ((s.cl cl).withCmpa i v) := by
  have hwin : slotAddr cl i / 65536 = 0x80 := by unfold slotAddr; omega
  have hoff : slotAddr cl i % 65536 = 256 * cl.val + 16 * i.val := by unfold slotAddr; omega
  have hlt : 256 * cl.val + 16 * i.val < 0xC00 := by omega
  have hcl : (256 * cl.val + 16 * i.val) / 256 = cl.val := by omega
  have hreg : (256 * cl.val + 16 * i.val) % 256 = 16 * i.val := by omega
  simp only [State.portStore, hwin, hoff, if_pos hlt, hcl, hreg, State.clStore_slot]

theorem State.storeAt_slotAddr (hm : (s.task t).mig = none) (e : Nat) (cl : Fin 12) (i : Fin 4) (v : Word) :
    s.storeAt t e (slotAddr cl i) v = some (s.setCl cl ((s.cl cl).withCmpa i v)) := by
  simp only [State.storeAt, hm, postView_slotAddr, State.isShadow_of_not_migrating hm, Bool.false_and, Bool.false_eq_true, if_false,
    State.portStore_slotAddr]

/-- A store of a timing word waits for room in the buffer alone. -/
theorem State.storeWaits_slotAddr (s : State) (t e : Nat) (x : Ctx) (cl : Fin 12) (i : Fin 4) (v : Word) :
    s.storeWaits t e x (slotAddr cl i) v = decide (4 ≤ s.engStores e) := by
  have hpost : isPost (slotAddr cl i) = false := by rw [isPost, postView_slotAddr]; rfl
  simp only [State.storeWaits, State.full, ownAccess_slotAddr, hpost, State.commitBusy_slotAddr, Bool.not_false, Bool.true_and, if_true,
    Bool.false_and, Bool.or_false]

/-- The store writes the pending CMPA, and its acknowledgement is awaited. -/
theorem State.storeTo_slotAddr (hm : (w.task t).mig = none) (cl : Fin 12) (i : Fin 4) (hallows : w.allows t e (slotAddr cl i) true = true)
    (words : Nat) : w.storeTo t e k (slotAddr cl i) v words =
      ((w.setCl cl ((w.cl cl).withCmpa i v)).setCtx k { w.ctx k with acks := (w.ctx k).acks ++ [slotAddr cl i] }).advance t e k words := by
  rw [State.storeTo, hallows, refusedStore_slotAddr, State.storeAt_slotAddr hm, ownAccess_slotAddr]
  rfl

/-! ### What a fence waits for (R49) -/

theorem Ctx.fenced_eq_false {x : Ctx} (h : x.loads ≠ [] ∨ x.acks ≠ []) : x.fenced = false := by
  simpa [Ctx.fenced] using not_and_or.2 h

/-- An instruction that is blocked changes nothing. -/
theorem Issues.issue_of_blocked (h : Issues s e c regs t k) {words : Nat} (hw : words ≤ 2) (hin : s.inCode t e ((s.ctx k).pc.toNat + words - 1))
    {dst uses : List (Fin 16)} {accs : List (Fin 2)} {cordic : Bool} {blocked : Nat → Ctx → Bool} {F : Nat → Nat → State → State}
    (hb : blocked t ((s.ctx k).charge (s.switch e t)) = true) : s.issue e c false words dst uses accs cordic blocked F = s := by
  have hfetch : Fetches s e t k words := ⟨h.runs, h.live, h.lasts.1, h.sound, hin⟩
  have hholds : (s.ctx k).holds c = true := Ctx.holds_iff.2 h.holds
  rw [hfetch.issue_eq hw, condBad_eq_false h.listed, if_neg (by decide), hholds, if_neg (by decide), hb, Bool.or_true, if_pos rfl]

theorem exec_fence (e : Fin 16) (c : BitVec 4) (s : State) : exec (.fence e c) s = .next (doFence e c s) := rfl

/-- FENCE stalls while a load or a store is outstanding. -/
theorem Issues.fence_waits (h : Issues s e c regs t k) (hout : (s.ctx k).loads ≠ [] ∨ (s.ctx k).acks ≠ []) : doFence e c s = s := by
  have hfenced : ((s.ctx k).charge (s.switch e t)).fenced = false := Ctx.fenced_eq_false hout
  exact h.issue_of_blocked (Nat.le_succ 1) h.here (by rw [hfenced]; rfl)

/-- FENCE ends once nothing is outstanding. -/
theorem Issues.fence_completes (h : Issues s e c regs t k) (hnext : s.inCode t e ((s.ctx k).nextFetch 1)) (hl : (s.ctx k).loads = [])
    (ha : (s.ctx k).acks = []) : Completes (.fence e c) s e 1 t k id := by
  have hfenced : (!((s.ctx k).charge (s.switch e t)).fenced) = false := fenced_charge hl ha _
  have hi := exec_fence e c s
  rw [doFence, h.issue_eq (Nat.le_succ 1) h.here (by simp) hfenced] at hi
  generalize s.issueCycles e t k 1 [] [] false = n at hi
  have htime : TimeOnly (s.ctx k) ((s.issued e t k n).ctx k) := by
    rw [State.ctx_issued, if_pos rfl]
    rfl
  obtain ⟨honly, hafter⟩ := (onlyContext_issued s e t k n).advance_after htime le_rfl hnext
  exact ⟨_, hi, honly, hafter⟩

/-! ### The statement -/

theorem OnlyContext.setCl (h : OnlyContext s w e t k) (c : Nat) (y : Cl) :
    OnlyContext { s with pwm := (w.setCl c y).pwm } (w.setCl c y) e t k := by
  refine h.congr rfl rfl ?_
  rw [State.setCl, h.1]

/-- STA to a slot: what the store leaves, and the context behind it. -/
theorem Issues.sta_slotAddr (h : Issues s e c [rs] t k) (hm : (s.task t).mig = none) {cl : Fin 12} {i : Fin 4} {addr : Word}
    (haddr : addr.toNat = slotAddr cl i) (hallows : s.allows t e (slotAddr cl i) true = true) (hfollows : s.follows t e k 2)
    (hroom : s.engStores e < 4) : ∃ n, exec (.sta e c addr rs) s = .next
      ((((s.issued e t k n).setCl cl ((s.cl cl).withCmpa i (s.ctx k).w[rs])).setCtx k
        { (s.ctx k).charge n with acks := (s.ctx k).acks ++ [slotAddr cl i] }).advance t e k 2) := by
  have hb : s.storeWaits t e ((s.ctx k).charge (s.switch e t)) addr.toNat (((s.ctx k).charge (s.switch e t)).r rs) = false := by
    rw [haddr, State.storeWaits_slotAddr]
    exact decide_eq_false (Nat.not_le.2 hroom)
  have hi : exec (.sta e c addr rs) s = .next (doSta e c addr rs s) := rfl
  refine ⟨s.issueCycles e t k 2 [rs] [] false, ?_⟩
  rw [hi, doSta, h.issue_eq le_rfl hfollows.1 (by simp) hb, haddr]
  generalize s.issueCycles e t k 2 [rs] [] false = n
  have hctx : (s.issued e t k n).ctx k = (s.ctx k).charge n := (State.ctx_issued ..).trans (if_pos rfl)
  have hmig : ((s.issued e t k n).task t).mig = none := by rw [State.task_issued]; exact hm
  have hfilter : (s.issued e t k n).allows t e (slotAddr cl i) true = true := ((onlyContext_issued s e t k n).allows ..).trans hallows
  rw [State.storeTo_slotAddr hmig cl i hfilter, hctx]
  rfl

/-- Settles O9: the address lies in one slot of one cluster; a fence is blocked just while an access is outstanding. -/
theorem pwmStoresAndFences : Obligations.PwmStoresAndFences := by
  intro s e rs c cl slot t k h hm
  refine ⟨fun addr haddr hallows hfollows hroom => ?_, fun hnext hl ha => h.fence_completes hnext hl ha,
    fun hout => (exec_fence ..).trans (congrArg Host.Outcome.next (h.fence_waits hout))⟩
  obtain ⟨n, hi⟩ := h.sta_slotAddr hm haddr ((congrArg (s.allows t e · true) haddr.symm).trans hallows) hfollows hroom
  have hstored := (onlyContext_issued s e t k n).setCl cl ((s.cl cl).withCmpa slot (s.ctx k).w[rs])
  have hclusters := onlyCluster_setCl (s.issued e t k n) cl ((s.cl cl).withCmpa slot (s.ctx k).w[rs])
  have hcode {x : Ctx} (hx : SameFlow (s.ctx k) x) :
      ((s.issued e t k n).setCl cl ((s.cl cl).withCmpa slot (s.ctx k).w[rs])).inCode t e (x.nextFetch 2) := by
    rw [hx.nextFetch]
    exact hfollows.2
  generalize (s.issued e t k n).setCl cl _ = w at hi hstored hclusters hcode
  have htime : TimeOnly { s.ctx k with acks := (s.ctx k).acks ++ [slotAddr cl slot] }
    { (s.ctx k).charge n with acks := (s.ctx k).acks ++ [slotAddr cl slot] } := rfl
  obtain ⟨honly, -⟩ := hstored.setCtx_advance htime (Nat.le_succ 1) (hcode ⟨rfl, rfl, rfl, rfl, rfl⟩)
  generalize (w.setCtx k _).advance t e k 2 = u at hi honly
  have hpwm : u.pwm = w.pwm := by rw [honly.1]
  have hcl (j : Nat) : u.cl j = w.cl j := by rw [State.cl, hpwm, State.cl]
  refine ⟨u, hi, by rw [hpwm]; exact honly, fun d hd => ?_, ?_, ?_⟩
  · rw [hcl, hclusters.2, if_neg hd]
    rfl
  · rw [hpwm, hclusters.1]
    rfl
  · rw [hcl, hclusters.2, if_pos rfl]

end Sys2Proof.Machine
end

section
/-! SUPPORT. Compare triggers, edges and blanking timers (R107, R121, R126), the calibration of the delay lines (R102, R103), and the statement on
them, settled. -/

namespace Sys2Proof.Machine

variable {s : State}

/-! ### The commands -/

theorem exec_triggerFire (g : Fin 48) (d : Bool) (s : State) : exec (.triggerFire g d) s = .next (doTriggerFire g d s) := rfl

theorem exec_edgeTimeReached (g : Fin 48) (kind : Fin 4) (s : State) :
    exec (.edgeTimeReached g kind) s = .next (doEdgeTimeReached g kind s) := rfl

theorem exec_blankTimerExpiry (c : Fin 12) (b : Fin 2) (s : State) : exec (.blankTimerExpiry c b) s = .next (doBlankTimerExpiry c b s) := rfl

theorem exec_edgeTick (g : Fin 48) (s : State) : exec (.edgeTick g) s = .next (doEdgeTick g s) := rfl

theorem exec_rallyMeasure (line : Fin 48) (taps : BitVec 12) (s : State) :
    exec (.rallyMeasure line taps) s = .next (doRallyMeasure line taps s) := rfl

/-! ### Compare triggers (R121) -/

/-- A code counts as NEVER where it is NEVER or its tick lies behind the period (R108). -/
theorem codeNever_iff {code : Word} {period : Nat} : codeNever code period = true ↔ code = 0xFFFFFF ∨ 32 * period ≤ code.toNat := by
  rw [codeNever, Bool.or_eq_true, beq_iff_eq, decide_eq_true_eq, Nat.le_div_iff_mul_le (by decide), Nat.mul_comm]

/-- The code of a compare trigger in a set. -/
def ClSet.trigCode (x : ClSet) (g : Nat) (d : Bool) : Word :=
  if d then (x.g.getD (g % 4) GenSet.reset).cmpd else (x.g.getD (g % 4) GenSet.reset).cmpc

theorem doTriggerFire_eq {g : Fin 48} {x : ClSet} (h : (s.cl (g.val / 4)).cur = some x) (d : Bool) : doTriggerFire g d s =
    if codeNever (x.trigCode g d) (s.cl (g.val / 4)).len then s else (s.raiseEv (2 * g.val + d.toNat)).trigger (2 * g.val + d.toNat) := by
  simp only [doTriggerFire, h]
  cases d <;> rfl

/-- A code that fires raises its event first, then what the trigger reaches follows. -/
theorem triggerFrame_fires (s : State) (n : Nat) :
    (∃ l, ((s.raiseEv n).trigger n).evBus = s.evBus ++ n :: l) ∧
    (s.raiseEv n).trigger n = { s with
      evBus := ((s.raiseEv n).trigger n).evBus, acq := ((s.raiseEv n).trigger n).acq, qes := ((s.raiseEv n).trigger n).qes
      loop := ((s.raiseEv n).trigger n).loop, ent := ((s.raiseEv n).trigger n).ent } := by
  obtain ⟨-, l, hl⟩ := triggerFrame_trigger (s.raiseEv n) n
  exact ⟨⟨l, hl.trans (List.append_assoc s.evBus [n] l)⟩, ((triggerFrame_raiseEv s n).trans (triggerFrame_trigger ..)).1⟩

/-! ### Edges and blanking timers (R126) -/

theorem vector_two_ext {α : Type} {x y : Vector α 2} (h0 : x[0] = y[0]) (h1 : x[1] = y[1]) : x = y := by
  ext i hi
  obtain rfl | rfl : i = 0 ∨ i = 1 := by omega
  · exact h0
  · exact h1

/-- An edge starts the timers that select it, and nothing else. -/
theorem State.startBlank_eq (s : State) (g kind : Nat) : s.startBlank g kind = s.setCl (g / 4) (s.timersAfter g kind) := by
  have h0 : (s.cl (g / 4)).bt.getD 0 false = (s.cl (g / 4)).bt[0] := by simp [Vector.getD]
  have h1 : (s.cl (g / 4)).bt.getD 1 false = (s.cl (g / 4)).bt[1] := by simp [Vector.getD]
  refine congrArg (fun v => s.setCl (g / 4) { s.cl (g / 4) with bt := v }) (vector_two_ext ?_ ?_)
  · simp [h0, State.startsTimer, bne, beq_eq_decide]
  · simp [h1, State.startsTimer, bne, beq_eq_decide]

theorem doEdgeTimeReached_eq {g : Fin 48} (h : (s.cl (g.val / 4)).st ≠ .off) (kind : Fin 4) :
    doEdgeTimeReached g kind s = s.setCl (g.val / 4) (s.timersAfter g kind) := (if_neg h).trans (State.startBlank_eq ..)

/-! ### The next edge of an output (R102, R107) -/

/-- The number of an edge's kind: high rise, high fall, low rise, low fall. -/
def Edge.kind (y : Edge) : Nat := (if y.high then 0 else 2) + if y.on then 0 else 1

/-- Whether an edge of generator `g` puts its side on: not where the side is held off, the cluster does not run its outputs, or CLK_TB is lost. -/
def State.putsOn (s : State) (g : Nat) (y : Edge) : Bool :=
  let cl := s.cl (g / 4)
  y.on && !(if y.high then cl.holdH else cl.holdL) && decide (cl.st = .running) && cl.runOn && !s.flt.src.getLsbD 119 && !s.flt.injSrc.getLsbD 119

/-- Generator `g` after edge `y`, with the edges `r` behind it. -/
def State.genAfter (s : State) (g : Nat) (y : Edge) (r : List Edge) : Gen :=
  { s.gen g with
    edges := r, pinH := if y.high then s.putsOn g y else (s.gen g).pinH, pinL := if y.high then (s.gen g).pinL else s.putsOn g y }

/-- The edge is placed by the delay line of a PWMO pin. -/
def State.placePin (s : State) (g : Nat) (y : Edge) : State :=
  if g < 44 then s else s.placeEdge (2 * (g - 44) + if y.high then 0 else 1) y.t

theorem State.placePin_frame (s : State) (g : Nat) (y : Edge) :
    s.placePin g y = { s with pwm := { s.pwm with line := (s.placePin g y).pwm.line } } := by
  rw [State.placePin]
  split <;> rfl

theorem doEdgeTick_of_edges {g : Fin 48} {y : Edge} {r : List Edge} (h : (s.gen g).edges = y :: r) : doEdgeTick g s =
    ((s.placePin g y).setGen g (s.genAfter g y r)).setCl (g.val / 4) (s.timersAfter g y.kind) := by
  have hon : (y.on && !((if y.high then (s.cl (g.val / 4)).holdH else (s.cl (g.val / 4)).holdL) || (s.cl (g.val / 4)).st != .running ||
      !(s.cl (g.val / 4)).runOn || s.flt.src.getLsbD 119 || s.flt.injSrc.getLsbD 119)) = s.putsOn g y := by
    simp only [State.putsOn, Bool.not_or, Bool.not_not, Bool.and_assoc, bne, beq_eq_decide]
  have hgen : (if y.high then { s.gen g with edges := r, pinH := s.putsOn g y } else { s.gen g with edges := r, pinL := s.putsOn g y }) =
      s.genAfter g y r := by
    cases hh : y.high <;> simp [State.genAfter, hh]
  have hcl (x : Gen) : ((s.placePin g y).setGen g x).timersAfter g y.kind = s.timersAfter g y.kind := by
    rw [State.placePin_frame]
    rfl
  simp only [doEdgeTick, h, hon, hgen, State.startBlank_eq]
  exact congrArg (((s.placePin g y).setGen g (s.genAfter g y r)).setCl (g.val / 4)) (hcl _)

theorem doEdgeTick_of_no_edge {g : Fin 48} (h : (s.gen g).edges = []) : doEdgeTick g s = s := by simp only [doEdgeTick, h]

theorem State.line_placePin {g : Nat} (h : 44 ≤ g) (y : Edge) (j : Nat) : (s.placePin g y).line j =
    if j = 2 * (g - 44) + (if y.high then 0 else 1) then
      { s.line (2 * (g - 44) + if y.high then 0 else 1) with tap := (s.line (2 * (g - 44) + if y.high then 0 else 1)).tapOf (y.t % 32) }
    else s.line j := by
  rw [State.placePin, if_neg (Nat.not_lt.2 h)]
  exact State.line_setLine ..

/-! ### The Rally (R102, R103) -/

/-- A line whose idle chain was measured as valid: the table is made, and the chain goes into service. -/
def State.tabled (s : State) (i : Nat) (taps : Nat) : Line :=
  let x := s.line i
  { x with a := if x.useB then some taps else x.a, b := if x.useB then x.b else some taps, useB := !x.useB, measured := true, at48 := s.t48.toNat }

/-- A line whose idle chain was measured as invalid: that chain has no table. -/
def Line.untabled (x : Line) : Line := { x with a := if x.useB then none else x.a, b := if x.useB then x.b else none, measured := true }

theorem doRallyMeasure_of_valid {line : Fin 48} {taps : BitVec 12} (h1 : 256 ≤ taps.toNat) (h2 : taps.toNat ≤ 504) :
    doRallyMeasure line taps s = s.setLine line (s.tabled line taps.toNat) := by
  simp only [doRallyMeasure, h1, h2, decide_true, Bool.and_true, if_true]
  cases h : (s.line line).useB <;> simp [State.tabled, h]

theorem doRallyMeasure_of_invalid {line : Fin 48} {taps : BitVec 12} (h : taps.toNat < 256 ∨ 504 < taps.toNat) : doRallyMeasure line taps s =
    ((s.setLine line (s.line line).untabled).bump (mkKey 4 0x002 0) 65535).report (0x030004 + 256 * line.val) := by
  have hok : (decide (256 ≤ taps.toNat) && decide (taps.toNat ≤ 504)) = false := by
    simp only [Bool.and_eq_false_iff, decide_eq_false_iff_not]
    omega
  simp only [doRallyMeasure, hok, Bool.false_eq_true, if_false]
  cases h : (s.line line).useB <;> simp [Line.untabled, h]

/-! ### The statement -/

/-- Settles O29: a trigger's event precedes what it reaches; the other commands are writes of one cluster, generator or line. -/
theorem triggersEdgesAndTheRally : Obligations.TriggersEdgesAndTheRally := by
  intro s g line d x kind c b taps y r cs code cl one old
  refine ⟨fun hcur hne hlt => ⟨_, exec_triggerFire .., ?_⟩, fun hcur hnever => (exec_triggerFire ..).trans (congrArg Host.Outcome.next ?_),
    fun hst => ⟨_, exec_edgeTimeReached .., ?_⟩, ⟨_, exec_blankTimerExpiry .., onlyCluster_setCl ..⟩,
    fun hedge => ⟨_, exec_edgeTick .., ?_⟩, fun hedge => (exec_edgeTick ..).trans (congrArg Host.Outcome.next (doEdgeTick_of_no_edge hedge)),
    fun hlo hhi => ⟨_, exec_rallyMeasure .., ?_⟩, fun hout => ⟨_, exec_rallyMeasure .., ?_⟩⟩
  · have hfires : ¬ codeNever (x.trigCode g d) (s.cl (g.val / 4)).len = true := by
      rw [codeNever_iff]
      exact not_or.2 ⟨hne, Nat.not_le.2 hlt⟩
    rw [doTriggerFire_eq hcur, if_neg hfires]
    exact triggerFrame_fires ..
  · exact (doTriggerFire_eq hcur d).trans (if_pos (codeNever_iff.2 hnever))
  · rw [doEdgeTimeReached_eq hst]
    exact onlyCluster_setCl ..
  · rw [doEdgeTick_of_edges hedge]
    have hframe := s.placePin_frame g y
    have hlow (h : g.val < 44) : (s.placePin g y).pwm.line = s.pwm.line := by rw [State.placePin, if_pos h]
    have hhigh (h : 44 ≤ g.val) := s.line_placePin h y
    generalize s.placePin g y = w at hframe hlow hhigh ⊢
    have hgen (j : Nat) : ((w.setGen g (s.genAfter g y r)).setCl (g.val / 4) (s.timersAfter g y.kind)).gen j =
        if j = g.val then s.genAfter g y r else s.gen j := by
      refine (State.gen_setGen ..).trans ?_
      rw [hframe]
      rfl
    refine ⟨⟨?_, fun j => ?_⟩, (hgen g).trans (if_pos rfl), fun j hj => (hgen j).trans (if_neg hj), hlow, hhigh⟩
    · rw [hframe]
      rfl
    · refine (State.cl_setCl ..).trans ?_
      rw [hframe]
      rfl
  · rw [doRallyMeasure_of_valid hlo hhi]
    exact ⟨rfl, fun j => State.line_setLine ..⟩
  · rw [doRallyMeasure_of_invalid hout]
    exact ⟨rfl, counts_bumps (s := s.setLine line (s.line line).untabled) (List.nodup_singleton (mkKey 4 0x002 0)), fun j => State.line_setLine ..⟩

end Sys2Proof.Machine
end

section
/-! SUPPORT. What a reload changes beside its cluster: the conversion of the next period, the frames of its triggers, the tasks that it releases
(R73, R107, R110, R144, R187); the statement on reloads, settled. -/

namespace Sys2Proof.Machine

variable {s u v : State}

theorem exec_reload (c : Fin 12) (s : State) : exec (.reload c) s = .next (doReload c s) := rfl

/-! ### The frame of a conversion -/

/-- From `s` to `u` a period was converted: generators, lanes, half-bridges' views, converters and the counts 4.021 and 4.022 changed, and nothing
else. -/
def ConvertFrame (s u : State) : Prop :=
  u = { s with pwm := { s.pwm with gen := u.pwm.gen }, lanes := u.lanes, drv := u.drv, acq := u.acq, ent := u.ent } ∧
  ∀ k, (∀ g, g < 48 → k ≠ mkKey 4 0x021 g ∧ k ≠ mkKey 4 0x022 g) → u.getKey k = s.getKey k

theorem ConvertFrame.refl (s : State) : ConvertFrame s s := ⟨rfl, fun _ _ => rfl⟩

theorem ConvertFrame.trans (h : ConvertFrame s u) (h' : ConvertFrame u v) : ConvertFrame s v := by
  obtain ⟨hu, ku⟩ := h
  obtain ⟨hv, kv⟩ := h'
  refine ⟨?_, fun k hk => (kv k hk).trans (ku k hk)⟩
  conv_lhs => rw [hv, hu]

theorem ConvertFrame.foldl {A : Type} {f : State → A → State} : ∀ {l : List A} {s : State}, (∀ a ∈ l, ∀ s, ConvertFrame s (f s a)) →
    ConvertFrame s (l.foldl f s)
  | [], s, _ => .refl s
  | a :: _, s, h => (h a List.mem_cons_self s).trans (ConvertFrame.foldl fun b hb => h b (List.mem_cons_of_mem a hb))

theorem ConvertFrame.whenS {f : State → State} (hf : ∀ s, ConvertFrame s (f s)) (s : State) (b : Bool) : ConvertFrame s (s.whenS b f) := by
  rcases s.whenS_cases b f with ⟨-, h⟩ | ⟨-, h⟩ <;> rw [h]
  · exact hf s
  · exact .refl s

theorem ConvertFrame.ite {p : Prop} [Decidable p] (hu : ConvertFrame s u) (hv : ConvertFrame s v) : ConvertFrame s (if p then u else v) := by
  split
  · exact hu
  · exact hv

theorem HoldsOff.convertFrame (h : HoldsOff s u) : ConvertFrame s u := by
  obtain ⟨hu, hk⟩ := h
  refine ⟨?_, fun k hne => hk k fun g hg => (hne g hg).2⟩
  conv_lhs => rw [hu]
  rw [hu]

theorem convertFrame_setLane (s : State) (l : Nat) (x : Lane) : ConvertFrame s (s.setLane l x) := ⟨rfl, fun _ _ => rfl⟩

theorem convertFrame_setView (s : State) (h : Nat) (x : HbView) : ConvertFrame s (s.setView h x) := ⟨rfl, fun _ _ => rfl⟩

theorem convertFrame_setAdc (s : State) (a : Nat) (x : Adc) : ConvertFrame s (s.setAdc a x) := ⟨rfl, fun _ _ => rfl⟩

theorem convertFrame_setGen (s : State) (g : Nat) (x : Gen) : ConvertFrame s (s.setGen g x) := ⟨rfl, fun _ _ => rfl⟩

/-- The counts of dropped pulses (4.021) and of refreshes (4.022). -/
theorem convertFrame_putKey {g k : Nat} (hg : g < 48) (hk : k = mkKey 4 0x021 g ∨ k = mkKey 4 0x022 g) (n : Nat) :
    ConvertFrame s (s.putKey k n) := by
  refine ⟨rfl, fun j hj => (State.getKey_putKey ..).trans (if_neg ?_)⟩
  rcases hk with rfl | rfl
  · exact (hj g hg).1
  · exact (hj g hg).2

theorem convertFrame_bump {g k : Nat} (hg : g < 48) (hk : k = mkKey 4 0x021 g ∨ k = mkKey 4 0x022 g) (s : State) :
    ConvertFrame s (s.bump k 65535) := convertFrame_putKey hg hk _

/-! ### The outputs of a period that is held off (R107) -/

theorem holdsOff_sendHold (s : State) (l : Nat) (side : BitVec 2) (mask : BitVec 4) (t : EdgeTime) :
    HoldsOff s (s.sendHold l side mask t) := by
  rw [State.sendHold]
  split
  · exact holdsOff_setLane ..
  · exact holdsOff_setLane ..

theorem holdsOff_gatePinsAll (s : State) (gs : List Nat) : HoldsOff s (gs.foldl (fun s g => s.gatePins g true true) s) :=
  .foldl fun g _ s => holdsOff_gatePins s g true true

theorem holdsOff_holdPeriod (s : State) (gs : List Nat) (t : EdgeTime) :
    HoldsOff s (gs.foldl (fun s g => s.gatePins g true true) (s.holdGens false gs 3 t)) :=
  .trans (.foldl fun p _ s => holdsOff_sendHold s p.1 3 p.2 t) (holdsOff_gatePinsAll ..)

/-! ### The conversion of a generator (R110, R144) -/

theorem convertFrame_sendCmds (s : State) (g : Nat) (cs : List LaneCmd) : ConvertFrame s (s.sendCmds g cs) := by
  rw [State.sendCmds]
  split
  · exact convertFrame_setLane ..
  · exact convertFrame_setLane ..

theorem convertFrame_setResume (s : State) (g : Nat) (b : Bool) : ConvertFrame s (s.setResume g b) := by
  rw [State.setResume]
  split
  · exact convertFrame_setLane ..
  · exact convertFrame_setView ..

theorem convertFrame_convertOne {g : Nat} (hg : g < 48) (s : State) (c : Nat) (x : ClSet) (p0 e : Nat) (on : Bool) :
    ConvertFrame s (s.convertOne c g x p0 e on) := by
  unfold State.convertOne
  refine .ite (convertFrame_setGen ..) ?_
  extract_lets _ _ _ _ _ _ _ _ s1
  have hcounts : ConvertFrame s s1 :=
    ((convertFrame_setGen s g _).trans (convertFrame_putKey hg (.inl rfl) _)).trans (.whenS (convertFrame_bump hg (.inr rfl)) _ _)
  have hresume (x : LaneCmd) : ConvertFrame s1 ((s1.setResume g false).sendCmds g [x]) :=
    (convertFrame_setResume ..).trans (convertFrame_sendCmds ..)
  exact .ite ((hcounts.trans (.ite (hresume _) (.refl s1))).trans (convertFrame_sendCmds ..)) hcounts

/-! ### The triggers of a period (R187) -/

theorem convertFrame_trigFrame (s : State) (a trig : Nat) (untimed : Bool) (t : EdgeTime) : ConvertFrame s (s.trigFrame a trig untimed t) := by
  rw [State.trigFrame]
  split
  · exact convertFrame_setLane ..
  · exact .refl s

theorem convertFrame_sendTrig (s : State) (a trig : Nat) (untimed : Bool) (t : EdgeTime) : ConvertFrame s (s.sendTrig a trig untimed t) := by
  rw [State.sendTrig]
  split
  · exact .refl s
  · exact (convertFrame_trigFrame ..).trans (convertFrame_setAdc ..)

theorem convertFrame_sendTrigAll (s : State) (trig : Nat) (t : EdgeTime) : ConvertFrame s (s.sendTrigAll trig t) :=
  .foldl fun a _ s => convertFrame_sendTrig s a trig false t

theorem convertFrame_sendCompares (s : State) (c : Nat) (x : ClSet) (p0 e : Nat) : ConvertFrame s (s.sendCompares c x p0 e) := by
  refine .foldl fun g _ s => ?_
  have hone (s : State) (n : Nat) (code : Word) : ConvertFrame s
      (if codeNever code e then s else s.sendTrigAll n (BitVec.ofNat 32 ((p0 + code.toNat / 32) * 32))) := by
    split
    · exact .refl s
    · exact convertFrame_sendTrigAll ..
  exact (hone s _ _).trans (hone _ _ _)

/-! ### What every reload does (R106, R107, R119) -/

/-- The next period of cluster `c` is converted, and its triggers are sent. -/
def State.converted (s : State) (c : Nat) : State :=
  let x := s.cl c
  let p0 := x.start48 + x.len
  let e := s.periodNext c x.applied
  let s := s.whenS (!x.runOn || x.st == .latched) (fun s =>
    (clGens c).foldl (fun s g => s.gatePins g true true) (s.holdGens false (clGens c) 3 (BitVec.ofNat 32 (p0 * 32))))
  let s := (clGens c).foldl (fun s g => s.convertOne c g x.applied p0 e (x.st == .running && x.outen)) s
  s.sendCompares c x.applied p0 e

theorem State.reloadTail_eq (s : State) (c : Nat) :
    s.reloadTail c = ((s.converted c).raiseEv (96 + c)).releaseOn c (s.cl c).rldnum.toNat := rfl

theorem convertFrame_converted {c : Nat} (hc : c < 12) (s : State) : ConvertFrame s (s.converted c) :=
  ((ConvertFrame.whenS (fun s => (holdsOff_holdPeriod s _ _).convertFrame) s _).trans
    (.foldl fun _ hg s => convertFrame_convertOne (lt_of_mem_clGens hc hg) s ..)).trans (convertFrame_sendCompares ..)

/-! ### The cluster behind a reload -/

/-- TRIPCNT and the clean periods after the leak (R124). -/
theorem State.leak_eq (s : State) (c : Nat) (x : Cl) :
    s.leak c x = { x with clean := (s.leak c x).clean, tripcnt := (s.leak c x).tripcnt } := by
  rw [State.leak]
  split
  · rfl
  · dsimp only
    split <;> rfl

theorem State.leak_of_counted {x : Cl} (h : x.counted = true) (s : State) (c : Nat) : s.leak c x = x := if_pos h

theorem State.leak_of_clean {x : Cl} {c : Nat} (h : x.counted = false) (hn : x.clean + 1 < s.en 4 0x035 c ∨ s.en 4 0x035 c = 0) :
    s.leak c x = { x with clean := x.clean + 1 } := by
  rw [State.leak, h, if_neg (by decide)]
  exact if_neg (by omega)

theorem State.leak_of_leaking {x : Cl} {c : Nat} (h : x.counted = false) (h0 : s.en 4 0x035 c ≠ 0) (hn : s.en 4 0x035 c ≤ x.clean + 1) :
    s.leak c x = { x with clean := 0, tripcnt := x.tripcnt - 1 } := by
  rw [State.leak, h, if_neg (by decide)]
  exact if_pos ⟨h0, hn⟩

/-- Cluster `c` in the period that a reload begins: the set in the apply stage, if any, is applied (R105, R119, R123, R124). -/
def State.reloadedCl (s : State) (c : Nat) : Cl :=
  let x := s.cl c
  { x with
    rldnum := x.rldnum + 1, carrier := 0, start48 := (x.start48 + x.len) % 2 ^ 48, len := s.periodNow c x.applied, cur := some x.applied
    runOn := x.outen && (x.st == ClState.running), outen := x.outenReq, tripHit := 0, counted := false
    holdH := x.st == ClState.latched, holdL := x.st == ClState.latched, cut := false
    applied := x.apply.getD x.applied, apply := none, lastapp := if x.apply.isSome then x.rldnum + 1 else x.lastapp
    clean := (s.leak c x).clean, tripcnt := (s.leak c x).tripcnt }

/-- The set in the apply stage is applied, and LASTAPP reports the reload. -/
theorem State.reloadedCl_of_apply {c : Nat} {x : ClSet} (h : (s.cl c).apply = some x) :
    (s.reloadedCl c).applied = x ∧ (s.reloadedCl c).lastapp = (s.cl c).rldnum + 1 := by
  simp [State.reloadedCl, h]

/-- Without a set in the apply stage the last one stays. -/
theorem State.reloadedCl_of_no_apply {c : Nat} (h : (s.cl c).apply = none) :
    (s.reloadedCl c).applied = (s.cl c).applied ∧ (s.reloadedCl c).lastapp = (s.cl c).lastapp := by
  simp [State.reloadedCl, h]

theorem State.leak_reloadedCl {c : Nat} {x : Cl} (h : s.leak c (s.cl c) = x) :
    (s.reloadedCl c).tripcnt = x.tripcnt ∧ (s.reloadedCl c).clean = x.clean := by
  subst h
  exact ⟨rfl, rfl⟩

/-- The generators' times are counted anew where T48 wraps (R101). -/
def State.rebased (s : State) (c : Nat) : State :=
  s.whenS (decide (2 ^ 48 ≤ (s.cl c).start48 + (s.cl c).len)) (fun s => (clGens c).foldl (fun s g => s.setGen g (s.gen g).rebase) s)

/-- A latched cluster makes no refresh in a period that it holds off (R127). -/
def State.settled (s : State) (c : Nat) (latched : Bool) : State := s.whenS latched (fun s => (clGens c).foldl State.undoRefresh s)

/-- The state at the end of a reload, before a trip that is still effective holds the period off (R123). -/
def State.reloaded (s : State) (c : Nat) : State :=
  (((s.rebased c).setCl c (s.reloadedCl c)).reloadTail c).settled c ((s.reloadedCl c).st == .latched)

theorem doReload_of_not_off {c : Fin 12} (h : (s.cl c).st ≠ .off) :
    doReload c s = (s.reloaded c).cbc c ((s.reloaded c).tripInputs c 1 ((s.reloaded c).tripLive c)) := by
  have hleak := s.leak_eq c (s.cl c)
  unfold doReload State.reloaded State.reloadedCl State.rebased
  dsimp only
  rw [if_neg h]
  generalize s.leak c (s.cl c) = y at hleak ⊢
  rw [hleak]
  cases ha : (s.cl c).apply with
  | none => rfl
  | some x => rfl

theorem doReload_of_off {c : Fin 12} (h : (s.cl c).st = .off) (hs : (s.cl c).starting = false) : doReload c s = s := by
  rw [doReload, if_pos h, hs]
  rfl

theorem convertFrame_rebased (s : State) (c : Nat) : ConvertFrame s (s.rebased c) :=
  .whenS (fun _ => .foldl fun g _ s => convertFrame_setGen s g _) _ _

theorem convertFrame_settled {c : Nat} (hc : c < 12) (s : State) (latched : Bool) : ConvertFrame s (s.settled c latched) :=
  .whenS (fun s => (holdsOff_undoRefreshes hc s).convertFrame) _ _

/-- From `s` to `u` cluster `c` took `x` at its reload: the period is converted, the event is raised, and tasks become due. -/
def Reloads (s u : State) (c : Nat) (x : Cl) : Prop :=
  (∀ j, u.cl j = if j = c then x else s.cl j) ∧ u.evBus = s.evBus ++ [96 + c] ∧
  u = { s with pwm := { s.pwm with cl := u.pwm.cl, gen := u.pwm.gen }, ent := u.ent, lanes := u.lanes, drv := u.drv, acq := u.acq, evBus := u.evBus
               due := u.due } ∧
  ∀ k, (∀ g, g < 48 → k ≠ mkKey 4 0x021 g ∧ k ≠ mkKey 4 0x022 g) → u.getKey k = s.getKey k

theorem ConvertFrame.reloads (h : ConvertFrame s u) {c : Nat} {x : Cl} (h' : Reloads u v c x) : Reloads s v c x := by
  obtain ⟨hu, ku⟩ := h
  obtain ⟨hcl, hev, hv, kv⟩ := h'
  refine ⟨fun j => (hcl j).trans ?_, ?_, ?_, fun k hk => (kv k hk).trans (ku k hk)⟩
  · rw [hu]
    rfl
  · rw [hev, hu]
  · conv_lhs => rw [hv, hu]

theorem Reloads.convertFrame {c : Nat} {x : Cl} (h : Reloads s u c x) (h' : ConvertFrame u v) : Reloads s v c x := by
  obtain ⟨hcl, hev, hu, ku⟩ := h
  obtain ⟨hv, kv⟩ := h'
  refine ⟨fun j => Eq.trans ?_ (hcl j), ?_, ?_, fun k hk => (kv k hk).trans (ku k hk)⟩
  · rw [hv]
    rfl
  · rw [← hev, hv]
  · conv_lhs => rw [hv, hu]
    rw [hv]

/-- The cluster changes, the next period is converted, and the event and the releases follow. -/
theorem reloads_reloadTail {c : Nat} (hc : c < 12) (s : State) (x : Cl) : Reloads s ((s.setCl c x).reloadTail c) c x := by
  obtain ⟨hframe, hkeys⟩ := convertFrame_converted hc (s.setCl c x)
  rw [State.reloadTail_eq]
  generalize (s.setCl c x).converted c = w at hframe hkeys ⊢
  have hcl (j : Nat) : w.cl j = if j = c then x else s.cl j := by
    refine Eq.trans ?_ (State.cl_setCl ..)
    rw [hframe]
    rfl
  refine ⟨hcl, ?_, ?_, hkeys⟩
  · rw [hframe]
    rfl
  · rw [hframe]
    rfl

theorem reloads_reloaded {c : Nat} (hc : c < 12) (s : State) : Reloads s (s.reloaded c) c (s.reloadedCl c) :=
  ((convertFrame_rebased s c).reloads (reloads_reloadTail hc ..)).convertFrame (convertFrame_settled hc ..)

/-! ### No input trips the new period (R123) -/

theorem State.tripInputs_of_no_mode {c mode : Nat} (h : ∀ i, i < 4 → s.tripCfg c i % 4 ≠ mode) (ins : BitVec 4) : s.tripInputs c mode ins = [] := by
  refine List.filter_eq_nil_iff.2 fun i hi => ?_
  have hmode : (s.tripCfg c i % 4 == mode) = false := beq_false_of_ne (h i (List.mem_range.1 hi))
  simp [State.tripOpen, hmode]

/-- A reload counts no entry that configures the trip inputs. -/
theorem Reloads.tripCfg {c : Fin 12} {x : Cl} (h : Reloads s u c x) (i : Nat) : u.tripCfg c i = s.tripCfg c i := by
  obtain ⟨-, -, -, hkeys⟩ := h
  have hcfg : u.getKey (mkKey 4 0x033 c) = s.getKey (mkKey 4 0x033 c) :=
    hkeys _ fun g hg => ⟨mkKey_ne (by decide) (by omega) (by omega), mkKey_ne (by decide) (by omega) (by omega)⟩
  simp only [State.tripCfg, State.en, hcfg]

/-- With no CBC input enabled nothing holds the new period off. -/
theorem doReload_eq_reloaded {c : Fin 12} (hst : (s.cl c).st ≠ .off) (hcbc : ∀ i, i < 4 → s.tripCfg c i % 4 ≠ 1) :
    doReload c s = s.reloaded c := by
  have hnone : ∀ i, i < 4 → (s.reloaded c).tripCfg c i % 4 ≠ 1 := fun i hi => by
    rw [(reloads_reloaded c.isLt s).tripCfg]
    exact hcbc i hi
  rw [doReload_of_not_off hst, State.tripInputs_of_no_mode hnone, State.cbc_nil]

/-! ### The statement -/

/-- Settles O28: a reload writes its cluster, and what follows it leaves every cluster alone. -/
theorem reloadBeginsAPeriod : Obligations.ReloadBeginsAPeriod := by
  intro s c y
  refine ⟨fun hst hmaster hcbc => ⟨_, exec_reload .., ?_⟩,
    fun hst hstart => (exec_reload ..).trans (congrArg Host.Outcome.next (doReload_of_off hst hstart))⟩
  rw [doReload_eq_reloaded hst hcbc]
  obtain ⟨hcl, hev, hframe, -⟩ := reloads_reloaded c.isLt s
  generalize s.reloaded c = u at hcl hev hframe ⊢
  intro z
  have hz : z = s.reloadedCl c := (hcl c).trans (if_pos rfl)
  have hlen : s.periodNow c y.applied = y.applied.period.toNat := by rw [State.periodNow, hmaster]
  clear_value z
  subst hz
  refine ⟨rfl, rfl, rfl, rfl, hlen, rfl, rfl, rfl, rfl, rfl, rfl, fun x hx => ?_, fun hx => ?_, rfl, rfl, rfl, rfl, rfl, fun hc => ?_,
    fun hc hn => ?_, fun hc h0 hn => ?_, hev, fun j hj => (hcl j).trans (if_neg hj), hframe⟩
  · exact State.reloadedCl_of_apply hx
  · exact State.reloadedCl_of_no_apply hx
  · exact State.leak_reloadedCl (State.leak_of_counted hc s c)
  · exact State.leak_reloadedCl (State.leak_of_clean hc hn)
  · exact State.leak_reloadedCl (State.leak_of_leaking hc h0 hn)

end Sys2Proof.Machine
end

section
/-! SUPPORT. The transmitter of a lane (R138, R140, R142, R147, R153): which item LANE_TRANSMIT takes and what leaves for it, and the statement on it,
settled. -/

namespace Sys2Proof.Machine

variable {s : State} {l : Nat} {x : Lane} {c : LaneCmd} {r : List LaneCmd}

/-! ### The commands -/

theorem exec_laneTransmit (l : Fin 36) (s : State) : exec (.laneTransmit l) s = .next (doLaneTransmit l s) := rfl

theorem exec_volleyExchange (l : Fin 36) (s : State) : exec (.volleyExchange l) s = .next (doVolleyExchange l s) := rfl

theorem exec_tadpoleHoldOff (l : Fin 36) (s : State) : exec (.tadpoleHoldOff l) s = .next (doTadpoleHoldOff l s) := rfl

/-! ### One lane changes -/

theorem State.lane_setLane_self (s : State) (l : Nat) (x : Lane) : (s.setLane l x).lane l = x := (State.lane_setLane ..).trans (if_pos rfl)

theorem State.lane_setLane_ne {j : Nat} (h : j ≠ l) (s : State) (x : Lane) : (s.setLane l x).lane j = s.lane j :=
  (State.lane_setLane ..).trans (if_neg h)

theorem onlyLane_setLane (s : State) (l : Nat) (x : Lane) : OnlyLane s (s.setLane l x) l x := ⟨rfl, fun _ => State.lane_setLane ..⟩

theorem laneIs_setLane {P : Lane → Prop} (h : P x) : LaneIs s (s.setLane l x) l P :=
  ⟨rfl, (State.lane_setLane_self s l x).symm ▸ h, fun _ hj => State.lane_setLane_ne hj s x⟩

/-- Of two changes of one lane the second is what it becomes. -/
theorem laneIs_setLane_setLane {y : Lane} {P : Lane → Prop} (h : P y) : LaneIs s ((s.setLane l x).setLane l y) l P := by
  refine ⟨rfl, (State.lane_setLane_self _ l y).symm ▸ h, fun j hj => ?_⟩
  rw [State.lane_setLane_ne hj, State.lane_setLane_ne hj]

/-! ### What leaves (R136 to R140) -/

theorem Lane.puts_put (x : Lane) (p : Option Sending) (cs : List LChar) : x.Puts ({ x with prog := p }.put cs) cs := rfl

theorem Lane.sends_emit (x : Lane) (l now48 level : Nat) (pre : List LChar) (c : LaneCmd) : x.Sends pre c (x.emit l now48 level pre c) := rfl

theorem Lane.puts_emitFrame (x : Lane) (l now48 : Nat) (f : Frame) :
    x.Puts (x.emitFrame l now48 [] f) (frameChars f.ty (payloadOf f.words)) := rfl

/-- An item that goes back to its queue leaves the priority HOLD_OFFs as they are. -/
theorem Lane.qHold_unsend (x : Lane) (p : Sending) : (x.unsend p).qHold = x.qHold := by
  fun_cases Lane.unsend x p <;> rfl

/-! ### The item that a level takes (R147) -/

theorem State.sendItem_hold (h : (s.lane l).qHold = c :: r) (pre : List LChar) :
    s.sendItem l 2 pre = s.setLane l ({ s.lane l with qHold := r }.emit l s.t48.toNat 2 pre c) := by
  simp only [State.sendItem, h]

theorem State.sendItem_edge (h : (s.lane l).qEdge = c :: r) (hc : ¬ (c.op = 1 ∧ edgeDiff c.t s.nowT < 16000)) (pre : List LChar) :
    s.sendItem l 3 pre = s.setLane l ({ s.lane l with qEdge := r }.emit l s.t48.toNat 3 pre c) := by
  simp only [State.sendItem, h, if_neg hc]

theorem State.sendItem_late (h : (s.lane l).qEdge = c :: r) (hc : c.op = 1 ∧ edgeDiff c.t s.nowT < 16000) (pre : List LChar) :
    s.sendItem l 3 pre = (s.setLane l ({ s.lane l with
      qEdge := r, lateTx := min 65535 ((s.lane l).lateTx + 1), prog := none }.put pre)).limited (0x040007 + 256 * l) := by
  simp only [State.sendItem, h, if_pos hc]

theorem State.sendItem_adj (h : (s.lane l).qAdj = c :: r) (pre : List LChar) :
    s.sendItem l 5 pre = s.setLane l ({ s.lane l with qAdj := r }.emit l s.t48.toNat 5 pre c) := by
  simp only [State.sendItem, h]

theorem State.sendItem_prof (h : (s.lane l).qProf = c :: r) (pre : List LChar) :
    s.sendItem l 6 pre = s.setLane l ({ s.lane l with qProf := r }.emit l s.t48.toNat 6 pre c) := by
  simp only [State.sendItem, h]

theorem State.sendItem_frame {f : Frame} {fs : List Frame} (h : (s.lane l).qFrame = f :: fs) (pre : List LChar) :
    s.sendItem l 7 pre = s.setLane l ({ s.lane l with qFrame := fs }.emitFrame l s.t48.toNat pre f) := by
  simp only [State.sendItem, h]

/-- The time at which the mark of an exchange leaves where nothing interrupts: a K28.5 that is due goes before it (R137, R150). -/
def State.markTime (s : State) (l : Nat) : EdgeTime :=
  s.nowT + BitVec.ofNat 32 (32 * charTicks l * (s.lane l).ahead 7)

theorem State.sendItem_volley (s : State) (l : Nat) : ∃ y, s.sendItem l 4 [] = (s.placeEdge (12 + l) 0).setLane l y ∧
    y.t1 = some (s.markTime l) ∧ y.vseq = (s.lane l).seq + 1 ∧
    Lane.Sends { s.lane l with qVolley := false, t1 := y.t1, vseq := y.vseq } [.special .mark] ⟨7, 0, 0, s.markTime l, 0⟩ y := by
  have hlead : 0 + (s.lane l).ahead (0 + 7) = (s.lane l).ahead 7 := by rw [Nat.zero_add, Nat.zero_add]
  refine ⟨_, rfl, ?_, rfl, ?_⟩
  · exact congrArg (fun n => some (s.nowT + BitVec.ofNat 32 (32 * charTicks l * n))) hlead
  · simp only [List.length_nil, hlead]
    rfl

/-! ### The highest item that may start (R147) -/

theorem State.topItem_hold (h : (s.lane l).qHold = c :: r) : s.topItem l = 2 := if_pos (by simp [h])

section
variable (hhold : (s.lane l).qHold = [])
include hhold

theorem State.topItem_edge (h : (s.lane l).qEdge = c :: r) : s.topItem l = 3 := by
  simp [State.topItem, hhold, h]

variable (hedge : (s.lane l).qEdge = [])
include hedge

theorem State.topItem_volley (h : (s.lane l).qVolley = true) (hfits : s.fits l 4 7 = true) : s.topItem l = 4 := by
  simp [State.topItem, hhold, hedge, h, hfits]

variable (hvolley : (s.lane l).qVolley = false)
include hvolley

theorem State.topItem_adj (h : (s.lane l).qAdj = c :: r) : s.topItem l = 5 := by
  simp [State.topItem, hhold, hedge, hvolley, h]

variable (hadj : (s.lane l).qAdj = [])
include hadj

theorem State.topItem_prof (h : (s.lane l).qProf = c :: r) : s.topItem l = 6 := by
  simp [State.topItem, hhold, hedge, hvolley, hadj, h]

variable (hprof : (s.lane l).qProf = [])
include hprof

theorem State.topItem_frame {f : Frame} {fs : List Frame} (h : (s.lane l).qFrame = f :: fs)
    (hfits : s.fits l 7 (6 + 3 * f.words.length) = true) : s.topItem l = 7 := by
  simp [State.topItem, hhold, hedge, hvolley, hadj, hprof, h, hfits]

theorem State.topItem_idle (h : ∀ f fs, (s.lane l).qFrame = f :: fs → s.fits l 7 (6 + 3 * f.words.length) = false) : s.topItem l = 8 := by
  rcases hframe : (s.lane l).qFrame with _ | ⟨f, fs⟩
  · simp [State.topItem, hhold, hedge, hvolley, hadj, hprof, hframe]
  · simp [State.topItem, hhold, hedge, hvolley, hadj, hprof, hframe, h f fs hframe]

end

/-! ### LANE_TRANSMIT -/

/-- Characters leave the lane: it is not OFF, not held static, and CLK_TB runs (R131, R159, R294). -/
theorem State.txHeld_eq_false_iff : s.txHeld l = false ↔ (s.lane l).st ≠ .off ∧ s.flt.static.getLsbD l = false ∧ 0 ∉ s.pwm.clkLost := by
  simp [State.txHeld, and_assoc]

theorem doLaneTransmit_of_held {l : Fin 36} (h : s.txHeld l = true) : doLaneTransmit l s = s := if_pos h

theorem doLaneTransmit_of_kill {l : Fin 36} (h : s.txHeld l = false) (hk : (s.lane l).kill = true) :
    doLaneTransmit l s = s.setLane l ((s.lane l).put [.special .kill]) := by
  rw [doLaneTransmit, if_neg (by simp [h]), if_pos hk]

theorem doLaneTransmit_of_failed {l : Fin 36} (h : s.txHeld l = false) (hk : (s.lane l).kill = false) (hf : (s.lane l).st = .failed) :
    doLaneTransmit l s = s.setLane l ((s.lane l).put [.special .comma]) := by
  rw [doLaneTransmit, if_neg (by simp [h]), if_neg (by simp [hk]), if_pos hf]

/-- The lane serves its queues. -/
def State.txServes (s : State) (l : Nat) : Prop := s.txHeld l = false ∧ (s.lane l).kill = false ∧ (s.lane l).st ≠ .failed

/-- Nothing below the item is in the serialiser: it leaves at once. -/
theorem doLaneTransmit_of_free {l : Fin 36} {n : Nat} (h : s.txServes l) (htop : s.topItem l = n) (hp : ∀ p, s.inSend l = some p → p.level ≤ n) :
    doLaneTransmit l s = s.sendItem l n [] := by
  obtain ⟨hheld, hkill, hst⟩ := h
  subst htop
  have hnone : (s.inSend l).filter (fun p => decide (s.topItem l < p.level)) = none :=
    Option.filter_eq_none_iff.2 fun p he => by simpa using hp p he
  rw [doLaneTransmit, if_neg (by simp [hheld]), if_neg (by simp [hkill]), if_neg hst]
  simp only [hnone]

/-- A lower item in the serialiser goes back to its queue, and ABORT leaves before the item. -/
theorem doLaneTransmit_of_lower {l : Fin 36} {n : Nat} {p : Sending} (h : s.txServes l) (htop : s.topItem l = n) (hp : s.inSend l = some p)
    (hn : n < p.level) : doLaneTransmit l s = (s.setLane l ((s.lane l).unsend p)).sendItem l n [.special .abort] := by
  obtain ⟨hheld, hkill, hst⟩ := h
  subst htop
  have hsome : (s.inSend l).filter (fun p => decide (s.topItem l < p.level)) = some p := by
    rw [hp, Option.filter_some, if_pos (by simpa using hn)]
  rw [doLaneTransmit, if_neg (by simp [hheld]), if_neg (by simp [hkill]), if_neg hst]
  simp only [hsome]

/-- A limited report changes the collector's inputs alone. -/
theorem laneIs_limited {P : Lane → Prop} (h : P x) (code : Nat) :
    LaneIs { s with flt := ((s.setLane l x).limited code).flt } ((s.setLane l x).limited code) l P := by
  rw [State.limited]
  rcases (s.setLane l x).every_cases code 400000 with he | ⟨_, he⟩ <;> rw [he]
  · exact laneIs_setLane h
  · exact ⟨rfl, (State.lane_setLane_self s l x).symm ▸ h, fun _ hj => State.lane_setLane_ne hj s x⟩

/-! ### The statement -/

/-- Settles O31: each clause names the highest item, and that item leaves from its queue. -/
theorem lanesTransmitInOrder : Obligations.LanesTransmitInOrder := by
  intro s l c r f fs x now lead t1 drives serves idle t
  have hdrives : drives ↔ s.txHeld l = false := State.txHeld_eq_false_iff.symm
  refine ⟨fun h => ?_, fun h hk => ⟨_, exec_laneTransmit .., ?_⟩, fun h hk hf => ⟨_, exec_laneTransmit .., ?_⟩, fun h => ?_,
    fun hv hk => ⟨_, exec_volleyExchange .., ?_⟩, fun h => (exec_volleyExchange ..).trans (congrArg Host.Outcome.next (if_pos h)),
    fun hst hk => ⟨_, exec_tadpoleHoldOff .., ?_⟩, fun hst hk => ⟨_, exec_tadpoleHoldOff .., ?_⟩,
    fun hst => (exec_tadpoleHoldOff ..).trans (congrArg Host.Outcome.next ?_)⟩
  · have hheld : s.txHeld l = true := by simpa [hdrives] using h
    exact (exec_laneTransmit ..).trans (congrArg Host.Outcome.next (doLaneTransmit_of_held hheld))
  · rw [doLaneTransmit_of_kill (hdrives.1 h) hk]
    exact laneIs_setLane rfl
  · rw [doLaneTransmit_of_failed (hdrives.1 h) hk hf]
    exact laneIs_setLane rfl
  · obtain ⟨hd, hkill, hfailed⟩ := h
    have hserves : s.txServes l := ⟨hdrives.1 hd, hkill, hfailed⟩
    refine ⟨fun hq hi => ⟨_, exec_laneTransmit .., ?_⟩, fun hq p hp hn => ⟨_, exec_laneTransmit .., ?_⟩,
      fun hh hq hi hc => ⟨_, exec_laneTransmit .., ?_⟩, fun hh hq hi hop hlead => ⟨_, exec_laneTransmit .., ?_⟩, fun hh he =>
      ⟨fun hv hfits hi => ⟨_, exec_laneTransmit .., ?_⟩, fun hv => ⟨fun hq hi => ⟨_, exec_laneTransmit .., ?_⟩,
        fun ha hq hi => ⟨_, exec_laneTransmit .., ?_⟩, fun ha hpr hq hfits hi => ⟨_, exec_laneTransmit .., ?_⟩,
        fun ha hpr hq hi => ⟨_, exec_laneTransmit .., ?_⟩⟩⟩⟩
    · rw [doLaneTransmit_of_free hserves (State.topItem_hold hq) hi, State.sendItem_hold hq]
      exact laneIs_setLane (Lane.sends_emit ..)
    · have hself : (s.setLane l (x.unsend p)).lane l = x.unsend p := State.lane_setLane_self ..
      have hq' : ((s.setLane l (x.unsend p)).lane l).qHold = c :: r := by rw [hself, Lane.qHold_unsend, hq]
      rw [doLaneTransmit_of_lower hserves (State.topItem_hold hq) hp hn, State.sendItem_hold hq', hself]
      exact laneIs_setLane_setLane (Lane.sends_emit ..)
    · have hc' : ¬ (c.op = 1 ∧ lead < 16000) := by omega
      rw [doLaneTransmit_of_free hserves (State.topItem_edge hh hq) hi, State.sendItem_edge hq hc']
      exact laneIs_setLane (Lane.sends_emit ..)
    · rw [doLaneTransmit_of_free hserves (State.topItem_edge hh hq) hi, State.sendItem_late hq ⟨hop, hlead⟩]
      refine laneIs_limited (P := ({ x with qEdge := r, lateTx := min 65535 (x.lateTx + 1) }.Puts · [])) ?_ _
      exact Lane.puts_put _ none []
    · rw [doLaneTransmit_of_free hserves (State.topItem_volley hh he hv hfits) hi]
      obtain ⟨y, hy, ht1, hseq, hsends⟩ := s.sendItem_volley l
      have hmark : s.markTime l = t1 := by
        simp only [State.markTime, charTicks, Lane.ahead, b2n, decide_eq_true_eq]
        rfl
      rw [hy]
      exact ⟨rfl, (State.lane_setLane_self ..).symm ▸ ⟨ht1.trans (congrArg some hmark), hseq, hmark ▸ hsends⟩,
        fun j hj => State.lane_setLane_ne hj _ _⟩
    · rw [doLaneTransmit_of_free hserves (State.topItem_adj hh he hv hq) hi, State.sendItem_adj hq]
      exact laneIs_setLane (Lane.sends_emit ..)
    · rw [doLaneTransmit_of_free hserves (State.topItem_prof hh he hv ha hq) hi, State.sendItem_prof hq]
      exact laneIs_setLane (Lane.sends_emit ..)
    · rw [doLaneTransmit_of_free hserves (State.topItem_frame hh he hv ha hpr hq hfits) hi, State.sendItem_frame hq]
      exact laneIs_setLane (Lane.puts_emitFrame ..)
    · rw [doLaneTransmit_of_free hserves (State.topItem_idle hh he hv ha hpr hq) hi]
      exact laneIs_setLane (Lane.puts_put ..)
  · rw [doVolleyExchange, if_neg (by simp [hv, x, hk] : ¬ ((s.lane l).vlock = 0 ∨ (s.lane l).kill = true))]
    exact onlyLane_setLane ..
  · rw [doTadpoleHoldOff, if_pos ⟨hst, hk⟩]
    exact onlyLane_setLane ..
  · rw [doTadpoleHoldOff, if_neg (by simp [hk, x] : ¬ ((s.lane l).st = .holdOnly ∧ (s.lane l).kill = true)), if_pos hst]
    exact onlyLane_setLane ..
  · rw [doTadpoleHoldOff, if_neg fun h => hst h.1, if_neg hst]

end Sys2Proof.Machine
end

section
/-! SUPPORT. The statement on link training, refuted: a lane that is enabled leaves an overcurrent of its sigma-delta stream released (R197), and the end of
that condition notifies its unread record (R301, R306) in the session whose write is confirmed. -/

namespace Sys2Proof.Machine

theorem exec_laneEnable (q : Req) (l : Fin 32) (v : BitVec 48) (s : State) : exec (.laneEnable q l v) s = .next (doLaneEnable q l v s) := rfl

/-- A request of session 0 under tag 63. -/
def canRequest : Req := ⟨0, 63, false⟩

/-- IDLE, with session 0 open at version 2.4 and level FACTORY. -/
def idleWithSession : State :=
  (({ State.reset with boot := { State.reset.boot with inReset := false } }.put 1 0x000 0 devIdle).put 0 0x012 0 0x0204).put 0 0x013 0 3

/-- The fault of an overcurrent of SD31 (R197), which a client has not read yet. -/
def unreadOvercurrent : ScRec := { ScRec.empty with used := true, code := 0x061F03, cls := 3, clsFirst := 3, count := 1, seq := 1 }

/-- Lane L31 is OFF while the overcurrent source of its stream still stands. -/
def overcurrentOnOffLane : State :=
  let s := idleWithSession.setSd 31 { Sd.reset with oc := true }
  { s with flt := { s.flt with live := [0x061F03], ring := [(1, unreadOvercurrent)] } }

theorem served_overcurrentOnOffLane : Served overcurrentOnOffLane canRequest where
  serves := by decide +kernel
  enabled := by decide +kernel
  tag := by decide +kernel
  stays := by decide +kernel
  fresh := by decide
  opened := by decide +kernel

/-- The check of LANE_ENABLE = 1 answers the row of its entry. -/
theorem permits_overcurrentOnOffLane : Permits overcurrentOnOffLane canRequest (mkKey 5 0x010 31) 1 0 none := by
  have hok : (overcurrentOnOffLane.writeCheck 0 (mkKey 5 0x010 31) 1 0 none).isOk = true := by decide +kernel
  rcases h : overcurrentOnOffLane.writeCheck 0 (mkKey 5 0x010 31) 1 0 none with e | r
  · rw [h] at hok
    cases hok
  · exact ⟨r, h⟩

/-- GONE_BEFORE_READ of the record is notified. -/
theorem notif_laneEnable_overcurrentOnOffLane :
    ((doLaneEnable canRequest 31 1 overcurrentOnOffLane).sess 0).notif.length = 1 := by decide +kernel

/-- Refutes O32: a write of LANE_ENABLE = 1 journals and holds its tag in its session, but where it ends the overcurrent of the lane's stream that session
also takes a notification. -/
theorem not_trainingGoesStepByStep : ¬ Obligations.TrainingGoesStepByStep := by
  intro h
  obtain ⟨-, -, -, -, -, -, -, -, -, -, -, -, -, -, -, -, -, -, -, -, -, -, -, -, -, hdict⟩ :=
    h overcurrentOnOffLane canRequest 31 31 0 0 0 0 0 0 0 [] 0 [] 0 0 63 0
  obtain ⟨henable, -⟩ := hdict served_overcurrentOnOffLane
  have hjournal : CanJournal overcurrentOnOffLane (mkKey 5 0x010 31) 1 := ⟨by decide +kernel, by decide +kernel, by decide +kernel⟩
  obtain ⟨u, hu, ⟨-, -, hsess⟩, -⟩ := henable permits_overcurrentOnOffLane hjournal (by decide +kernel) (by decide +kernel) (by decide +kernel)
  have hnotif := notif_laneEnable_overcurrentOnOffLane
  rw [Host.Outcome.next.inj ((exec_laneEnable ..).symm.trans hu), hsess] at hnotif
  exact absurd hnotif (by decide +kernel)

end Sys2Proof.Machine
end

section
/-! SUPPORT. What the collector's inputs change beside the collector (R295 to R297, R301, R306): conditions that begin and end, reports, and the wires of the
matrix. -/

namespace Sys2Proof.Machine

variable {s u v : State} {code n : Nat}

/-! ### Frames -/

/-- From `s` to `u` the collector, sessions, entries and the journal service changed; of the entries only the counts of lost notifications (R306) and of deferred
writes (R323). -/
def Collects (s u : State) : Prop :=
  u = { s with flt := u.flt, ses := u.ses, ent := u.ent, nvm := u.nvm } ∧
  ∀ k, k ≠ mkKey 0xA 0x00B 0 → k ≠ mkKey 9 0x071 0 → u.getKey k = s.getKey k

theorem Collects.refl (s : State) : Collects s s := ⟨rfl, fun _ _ _ => rfl⟩

theorem Collects.trans (h : Collects s u) (h' : Collects u v) : Collects s v := by
  obtain ⟨hu, ku⟩ := h
  obtain ⟨hv, kv⟩ := h'
  refine ⟨?_, fun k h1 h2 => (kv k h1 h2).trans (ku k h1 h2)⟩
  conv_lhs => rw [hv, hu]

theorem Collects.foldl {A : Type} {f : State → A → State} (hf : ∀ s a, Collects s (f s a)) :
    ∀ (l : List A) (s : State), Collects s (l.foldl f s)
  | [], s => .refl s
  | a :: l, s => (hf s a).trans (Collects.foldl hf l (f s a))

theorem Collects.lanes (h : Collects s u) : u.lanes = s.lanes := by rw [h.1]
theorem Collects.drv (h : Collects s u) : u.drv = s.drv := by rw [h.1]
theorem Collects.acq (h : Collects s u) : u.acq = s.acq := by rw [h.1]
theorem Collects.pwm (h : Collects s u) : u.pwm = s.pwm := by rw [h.1]
theorem Collects.evBus (h : Collects s u) : u.evBus = s.evBus := by rw [h.1]

theorem Collects.lane (h : Collects s u) (l : Nat) : u.lane l = s.lane l := by rw [State.lane, h.lanes]; rfl
theorem Collects.sd (h : Collects s u) (f : Nat) : u.sd f = s.sd f := by rw [State.sd, h.acq]; rfl
theorem Collects.cw (h : Collects s u) (k : Nat) : u.cw k = s.cw k := by rw [State.cw, h.acq]; rfl

/-- An entry of another area than FAULTS and NVM is as before. -/
theorem Collects.en (h : Collects s u) {a e : Nat} (ha : a ≠ 9 ∧ a ≠ 0xA) (he : e < 4096) {i : Nat} (hi : i < 256) : u.en a e i = s.en a e i := by
  refine h.2 _ ?_ ?_ <;> simp only [mkKey] <;> omega

/-! ### Conditions that end (R297, R301) -/

/-- From `s` to `u` records went and their copies came to wait, with the notifications of both; nothing began or ended to stand, and no report was made. -/
def Goes (s u : State) : Prop :=
  Collects s u ∧ u.flt = { s.flt with latch := u.flt.latch, ring := u.flt.ring, copies := u.flt.copies }

theorem Goes.refl (s : State) : Goes s s := ⟨.refl s, rfl⟩

theorem Goes.trans (h : Goes s u) (h' : Goes u v) : Goes s v := by
  obtain ⟨hu, fu⟩ := h
  obtain ⟨hv, fv⟩ := h'
  refine ⟨hu.trans hv, ?_⟩
  conv_lhs => rw [fv, fu]

theorem Goes.foldl {A : Type} {f : State → A → State} (hf : ∀ s a, Goes s (f s a)) : ∀ (l : List A) (s : State), Goes s (l.foldl f s)
  | [], s => .refl s
  | a :: l, s => (hf s a).trans (Goes.foldl hf l (f s a))

theorem Notified.goes (h : Notified s u) : Goes s u := by
  obtain ⟨hu, hk⟩ := h
  refine ⟨⟨?_, fun k h1 _ => hk k h1⟩, ?_⟩ <;> rw [hu]

theorem goes_notifyFault (s : State) (t cls : Nat) (body : List Byte) : Goes s (s.notifyFault t cls body) := by
  have hone (s : State) (p : Prop) [Decidable p] (n : Nat) (x : Notif) : Goes s (if p then s else s.notifyOne n x) := by
    split
    · exact .refl s
    · exact (notified_notifyOne s n x).goes
  rw [State.notifyFault]
  split
  · exact .refl s
  · exact (hone s _ 0 _).trans (hone _ _ 1 _)

theorem goes_scCopy (s : State) (seq : Nat) : Goes s (s.scCopy seq) := by
  rw [State.scCopy]
  rcases s.whenS_cases (s.deferring && !s.flt.copies.contains seq) (·.deferOne 1) with ⟨-, h⟩ | ⟨-, h⟩ <;> rw [h]
  · exact ⟨⟨rfl, fun k _ h2 => (State.getKey_putKey ..).trans (if_neg h2)⟩, rfl⟩
  · exact ⟨⟨rfl, fun _ _ _ => rfl⟩, rfl⟩

theorem goes_condGone (s : State) (code : Nat) (inj : Bool) : Goes s (s.condGone code inj) :=
  Goes.trans (u := { s with flt := s.flt.goneBy code inj }) ⟨⟨rfl, fun _ _ _ => rfl⟩, rfl⟩
    (.foldl (fun s _ => (goes_scCopy s _).trans (goes_notifyFault ..)) _ _)

/-- The state in which a code stands no longer. -/
def State.unlive (s : State) (code : Nat) : State := { s with flt := { s.flt with live := s.flt.live.filter (· != code) } }

theorem State.unlive_of_not_mem (h : code ∉ s.flt.live) : s.unlive code = s := by
  have hne (a : Nat) (ha : a ∈ s.flt.live) : a ≠ code := fun e => h (e ▸ ha)
  have hfilter : s.flt.live.filter (· != code) = s.flt.live := List.filter_eq_self.2 fun a ha => by simpa using hne a ha
  rw [State.unlive, hfilter]

/-- A condition that returns to 0 stands no longer, and its record goes. -/
theorem goes_condOff (s : State) (code : Nat) : Goes (s.unlive code) (s.condOff code) := by
  rw [State.condOff]
  split
  · exact goes_condGone ..
  · rename_i h
    rw [State.unlive_of_not_mem fun hm => h (List.contains_iff_mem.2 hm)]
    exact .refl s

theorem State.condOff_of_not_mem (h : code ∉ s.flt.live) : s.condOff code = s :=
  if_neg fun hc => h (List.contains_iff_mem.1 hc)

theorem collects_condOff (s : State) (code : Nat) : Collects s (s.condOff code) :=
  Collects.trans (u := s.unlive code) ⟨rfl, fun _ _ _ => rfl⟩ (goes_condOff s code).1

theorem State.mem_live_condOff {k : Nat} : k ∈ (s.condOff code).flt.live ↔ k ∈ s.flt.live ∧ k ≠ code := by
  obtain ⟨-, hflt⟩ := goes_condOff s code
  rw [hflt]
  simp [State.unlive]

theorem State.reports_condOff (s : State) (code : Nat) : (s.condOff code).flt.reports = s.flt.reports := by
  obtain ⟨-, hflt⟩ := goes_condOff s code
  rw [hflt]
  rfl

theorem State.src_condOff (s : State) (code : Nat) : (s.condOff code).flt.src = s.flt.src := by
  obtain ⟨-, hflt⟩ := goes_condOff s code
  rw [hflt]
  rfl

/-! ### Conditions that begin, and reports -/

theorem collects_condOn (s : State) (code : Nat) : Collects s (s.condOn code) := by
  rcases s.condOn_cases code with ⟨-, h⟩ | ⟨-, h⟩ <;> rw [h] <;> exact ⟨rfl, fun _ _ _ => rfl⟩

theorem State.src_condOn (s : State) (code : Nat) : (s.condOn code).flt.src = s.flt.src := by
  rcases s.condOn_cases code with ⟨-, h⟩ | ⟨-, h⟩ <;> rw [h]

theorem collects_report (s : State) (code : Nat) : Collects s (s.report code) := ⟨rfl, fun _ _ _ => rfl⟩

theorem collects_limited (s : State) (code : Nat) : Collects s (s.limited code) := by
  rw [State.limited]
  rcases s.every_cases code 400000 with h | ⟨_, h⟩ <;> rw [h] <;> exact ⟨rfl, fun _ _ _ => rfl⟩

/-! ### Wires of the matrix (R295, R296) -/

theorem collects_setSrc (s : State) (n : Nat) (b : Bool) : Collects s (s.setSrc n b) := ⟨rfl, fun _ _ _ => rfl⟩

theorem State.getLsbD_setSrc (h : n < 128) (s : State) (b : Bool) : (s.setSrc n b).flt.src.getLsbD n = b := by
  cases b
  · simp [State.setSrc, h]
  · simp [State.setSrc, h]

theorem collects_sourceLevel (s : State) (n : Nat) (b : Bool) : Collects s (s.sourceLevel n b) := by
  refine (collects_setSrc s n b).trans ?_
  rw [State.sourceLevel]
  cases (s.setSrc n b).srcFault n <;> cases b
  · exact collects_condOff ..
  · exact .refl _
  · exact collects_condOff ..
  · exact collects_condOn ..

theorem State.src_sourceLevel (s : State) (n : Nat) (b : Bool) : (s.sourceLevel n b).flt.src = (s.setSrc n b).flt.src := by
  rw [State.sourceLevel]
  cases (s.setSrc n b).srcFault n <;> cases b
  · exact State.src_condOff ..
  · rfl
  · exact State.src_condOff ..
  · exact State.src_condOn ..

/-- The fault of a source follows its level. -/
theorem State.mem_live_sourceLevel (h : s.srcFault n = some code) (b : Bool) : code ∈ (s.sourceLevel n b).flt.live ↔ b = true := by
  have hfault : (s.setSrc n b).srcFault n = some code := h
  simp only [State.sourceLevel, hfault]
  cases b
  · simp [State.mem_live_condOff]
  · simp [State.mem_live_condOn]

end Sys2Proof.Machine
end

section
/-! SUPPORT. A frame that arrives at the device (R145, R146): what its receipt changes before its effect, and the lane of which the effect is. -/

namespace Sys2Proof.Machine

variable {s u : State} {l ty : Nat} {p : List Byte} {fcs : BitVec 16} {f : State → State}

/-- From `s` to `u` characters arrived on lane `l`: its receiver moved on, and on a link lane the frame has left the P-die. -/
def Receives (s u : State) (l : Nat) : Prop :=
  u = { s with lanes := { s.lanes with rx := u.lanes.rx }, drv := { s.drv with dl := u.drv.dl } } ∧
  (∀ d, d + 32 ≠ l → u.dl d = s.dl d) ∧ (l < 32 → u.drv = s.drv)

theorem Receives.lane (h : Receives s u l) (j : Nat) : u.lane j = s.lane j := by
  rw [h.1]
  rfl

theorem Receives.flt (h : Receives s u l) : u.flt = s.flt := by rw [h.1]

theorem Receives.en (h : Receives s u l) (a e i : Nat) : u.en a e i = s.en a e i := by
  rw [h.1]
  rfl

theorem Receives.laneTakes (h : Receives s u l) : LaneTakes s u l (s.lane l) := by
  obtain ⟨hu, hdl, -⟩ := h
  refine ⟨?_, fun j => ?_, hdl⟩
  · rw [hu]
  · rw [hu]
    split
    · rename_i hj
      exact hj ▸ rfl
    · rfl

theorem Receives.laneTakes_setLane (h : Receives s u l) (x : Lane) : LaneTakes s (u.setLane l x) l x := by
  obtain ⟨hu, hdl, -⟩ := h
  refine ⟨?_, fun j => ?_, hdl⟩
  · rw [hu]
    rfl
  · rw [State.lane_setLane, hu]
    rfl

theorem Receives.setRx (h : Receives s u l) (x : Rx) : Receives s (u.setRx l x) l := by
  obtain ⟨hu, hdl, hdrv⟩ := h
  refine ⟨?_, hdl, hdrv⟩
  rw [hu]
  rfl

theorem State.upPop_of_ext (h : l < 32) (s : State) (ty : Nat) : s.upPop l ty = s := if_pos h

theorem State.dl_setDl_ne {d j : Nat} (h : j ≠ d) (s : State) (x : DLane) : (s.setDl d x).dl j = s.dl j := (State.dl_setDl ..).trans (if_neg h)

theorem State.dl_setDl_self (s : State) (d : Nat) (x : DLane) : (s.setDl d x).dl d = x := (State.dl_setDl ..).trans (if_pos rfl)

theorem receives_upPop (s : State) (l ty : Nat) : Receives s (s.upPop l ty) l := by
  rw [State.upPop]
  split
  · exact ⟨rfl, fun _ _ => rfl, fun _ => rfl⟩
  · rename_i hl
    dsimp only
    split
    · exact ⟨rfl, fun _ _ => rfl, fun _ => rfl⟩
    · exact ⟨rfl, fun d hd => State.dl_setDl_ne (by omega) .., fun h => absurd h hl⟩

/-- The device has received the characters of a frame. -/
def State.framed (s : State) (l ty : Nat) (p : List Byte) (fcs : BitVec 16) : State :=
  let y := (s.rx l).chars (decide (32 ≤ l)) (s.lane l).gen (LChar.special .sof :: (frameBody ty p ++ beBytes fcs.toNat 2).map .data ++ [.special .eof])
  (s.upPop l ty).setRx l { y with asm := Asm.empty, rd := if l < 32 then y.rd else ((s.upPop l ty).dl (l - 32)).rd }

theorem receives_framed (s : State) (l ty : Nat) (p : List Byte) (fcs : BitVec 16) : Receives s (s.framed l ty p fcs) l :=
  (receives_upPop s l ty).setRx _

/-- A frame with a right length and CRC takes its effect. -/
theorem State.upFrame_of_ok (h : frameOk ty p fcs = true) : s.upFrame l ty p fcs f = f (s.framed l ty p fcs) := by
  rw [State.upFrame, if_pos h]
  rfl

/-- Another frame is counted, and has no other effect. -/
theorem State.upFrame_of_wrong (h : frameOk ty p fcs = false) : s.upFrame l ty p fcs f =
    (s.framed l ty p fcs).setLane l { s.lane l with crcErr := min 0xFFFFFF ((s.lane l).crcErr + 1) } := by
  have hlane : (s.framed l ty p fcs).lane l = s.lane l := (receives_framed s l ty p fcs).lane l
  rw [← hlane, State.upFrame, if_neg (by simp [h])]
  rfl

theorem frameOk_frameCrc (h : lenOk p.length = true) : frameOk ty p (frameCrc ty p) = true := by simp [frameOk, h]

theorem frameOk_of_ne (h : fcs ≠ frameCrc ty p) : frameOk ty p fcs = false := by simp [frameOk, h]

theorem length_beBytes (v : Nat) : ∀ n, (beBytes v n).length = n
  | 0 => rfl
  | n + 1 => congrArg (· + 1) (length_beBytes v n)

theorem length_payloadOf (ws : List Word) : (payloadOf ws).length = 3 * ws.length := by
  simp [payloadOf, List.length_flatMap, length_beBytes, Nat.mul_comm]

/-- Up to eight words are a payload (R145). -/
theorem lenOk_payloadOf {ws : List Word} (h : ws.length ≤ 8) : lenOk (payloadOf ws).length = true := by
  simp only [lenOk, length_payloadOf, Bool.and_eq_true, decide_eq_true_eq, beq_iff_eq]
  omega

end Sys2Proof.Machine
end

section
/-! SUPPORT. The housekeeping scan (R194), the sigma-delta filters (R195 to R197), the window comparators with their thresholds (R198, R199) and the readback of
their DACs (R201), and the statement on them, settled. -/

namespace Sys2Proof.Machine

variable {s u v : State}

/-! ### The commands -/

theorem exec_hkConversion (code : BitVec 12) (s : State) : exec (.hkConversion code) s = .next (doHkConversion code s) := rfl

theorem exec_hkRes (w0 : Word) (results : List Word) (fcs : BitVec 16) (s : State) :
    exec (.hkRes w0 results fcs) s = .next (doHkRes w0 results fcs s) := rfl

theorem exec_sdSlot (f : Fin 32) (bits : BitVec 8) (sub : Bool) (s : State) : exec (.sdSlot f bits sub) s = .next (doSdSlot f bits sub s) := rfl

theorem exec_sdLatchCentred (g : Fin 16) (s : State) : exec (.sdLatchCentred g) s = .next (doSdLatchCentred g s) := rfl

theorem exec_cwWireChange (k : Fin 48) (above below : Bool) (s : State) :
    exec (.cwWireChange k above below) s = .next (doCwWireChange k above below s) := rfl

theorem exec_cwthr (e : Fin 16) (k : Fin 48) (v : Word) (s : State) : exec (.cwthr e k v) s = .next (doCwthr e k v s) := rfl

theorem exec_cwthrApply (k : Fin 48) (s : State) : exec (.cwthrApply k) s = .next (doCwthrApply k s) := rfl

theorem exec_cwReadback (code : Option (BitVec 16)) (s : State) : exec (.cwReadback code) s = .next (doCwReadback code s) := rfl

/-! ### Housekeeping (R194) -/

/-- Housekeeping goes on to `q`, and the result of channel `ch` goes up on D0. -/
def State.hkConverted (s : State) (q : Acq) (ch : Nat) (code : BitVec 12) : State := State.setDl { s with acq := q } 0 { s.dl 0 with
  up := (s.dl 0).up ++ [⟨0xB1, [BitVec.ofNat 24 ch, BitVec.ofNat 24 (code.toNat + 4096 * ch)]⟩] }

theorem State.sendHk_eq (h : (s.dl 0).lost = false) (q : Acq) (ch : Nat) (code : BitVec 12) :
    State.sendHk { s with acq := q } ch code = s.hkConverted q ch code := by
  have hres : fields 24 [(code.toNat, 0), (ch, 12)] = BitVec.ofNat 24 (code.toNat + 4096 * ch) := by
    simp [fields, Nat.mul_comm]
  have hon : ¬ (State.dl { s with acq := q } 0).lost = true := fun hl => absurd (h.symm.trans hl) (by decide)
  rw [State.sendHk, hres, State.upSend, if_neg fun hl => hon hl.1]
  rfl

theorem doHkConversion_of_request {ch : Nat} {r : List Nat} (hreq : s.acq.hkReq = ch :: r) (hdue : 3 ≤ s.acq.hkSince)
    (hlost : (s.dl 0).lost = false) (code : BitVec 12) :
    doHkConversion code s = s.hkConverted { s.acq with hkReq := r, hkSince := 0, hkRun := true } ch code := by
  simp only [doHkConversion, hreq, hdue, decide_true]
  exact State.sendHk_eq hlost ..

/-- The scan goes on where no conversion is requested, or none is due. -/
theorem doHkConversion_of_scan (h : s.acq.hkReq = [] ∨ s.acq.hkSince < 3) (hlost : (s.dl 0).lost = false) (code : BitVec 12) :
    doHkConversion code s =
      s.hkConverted { s.acq with hkNext := (s.acq.hkNext + 1) % 32, hkSince := s.acq.hkSince + 1, hkRun := true } s.acq.hkNext code := by
  refine Eq.trans ?_ (State.sendHk_eq hlost ..)
  rcases h with h | h
  · simp only [doHkConversion, h]
  · have hdue : decide (3 ≤ s.acq.hkSince) = false := decide_eq_false (by omega)
    cases hreq : s.acq.hkReq <;> simp only [doHkConversion, hreq, hdue]

/-- One housekeeping result: its channel takes it, and channel 31 ends a scan. -/
theorem State.hkOne_spec (s : State) (w : Word) :
    (∀ ch, Tab.get (fun _ => ((0 : BitVec 12), 0)) (s.hkOne w).acq.hk ch =
      if ch = w.toNat / 4096 % 32 then (w.setWidth 12, s.t48.toNat) else Tab.get (fun _ => ((0 : BitVec 12), 0)) s.acq.hk ch) ∧
    (s.hkOne w).evBus = (if w.toNat / 4096 % 32 = 31 then s.evBus ++ [188] else s.evBus) ∧
    s.hkOne w = { s with acq := { s.acq with hk := (s.hkOne w).acq.hk }, ent := (s.hkOne w).ent, evBus := (s.hkOne w).evBus } := by
  rw [State.hkOne]
  by_cases h : w.toNat / 4096 % 32 = 31
  · rw [beq_iff_eq.2 h, if_pos h]
    exact ⟨fun ch => Tab.get_set .., rfl, rfl⟩
  · rw [beq_false_of_ne h, if_neg h]
    exact ⟨fun ch => Tab.get_set .., rfl, rfl⟩

/-! ### Sigma-delta filters (R195, R197) -/

theorem State.sd_setSd_self (s : State) (f : Nat) (x : Sd) : (s.setSd f x).sd f = x := (State.sd_setSd ..).trans (if_pos rfl)

theorem State.sd_setSd_ne {f j : Nat} (h : j ≠ f) (s : State) (x : Sd) : (s.setSd f x).sd j = s.sd j := (State.sd_setSd ..).trans (if_neg h)

/-- From `s` to `u` only filter `f` and what follows its overcurrent source changed: other filters and the entries of ACQUISITION are as before. -/
def OnlyFilter (s u : State) (f : Nat) : Prop := (∀ j, j ≠ f → u.sd j = s.sd j) ∧ ∀ e i, e < 4096 → i < 256 → u.en 7 e i = s.en 7 e i

theorem OnlyFilter.trans {f : Nat} (h : OnlyFilter s u f) (h' : OnlyFilter u v f) : OnlyFilter s v f :=
  ⟨fun j hj => (h'.1 j hj).trans (h.1 j hj), fun e i he hi => (h'.2 e i he hi).trans (h.2 e i he hi)⟩

theorem onlyFilter_setSd (s : State) (f : Nat) (x : Sd) : OnlyFilter s (s.setSd f x) f := ⟨fun _ hj => State.sd_setSd_ne hj s x, fun _ _ _ _ => rfl⟩

theorem Collects.onlyFilter (h : Collects s u) (f : Nat) : OnlyFilter s u f :=
  ⟨fun j _ => h.sd j, fun _ _ he hi => h.en (by decide) he hi⟩

/-- The overcurrent source of a filter follows what it is set to; its windows and outputs stay. -/
theorem State.sdSource_spec (s : State) (f : Nat) (b : Bool) :
    (s.sdSource f b).sd f = { s.sd f with oc := b } ∧ OnlyFilter s (s.sdSource f b) f := by
  rw [State.sdSource]
  split
  · rename_i h
    exact ⟨h ▸ rfl, fun _ _ => rfl, fun _ _ _ _ => rfl⟩
  · have hlevel := collects_sourceLevel (s.setSd f { s.sd f with oc := b }) (48 + f) b
    exact ⟨(hlevel.sd f).trans (State.sd_setSd_self ..), (onlyFilter_setSd ..).trans (hlevel.onlyFilter f)⟩

/-- One modulator bit: it is the newest of the window, of which the data path's output follows (R195). A stream that is not fed holds the overcurrent
source released (R197). -/
theorem State.sdBit_spec (s : State) (f : Nat) (fed : Bool) (b : Bool × Bool) :
    ((s.sdBit f fed b).sd f).bits = (b :: (s.sd f).bits).take 774 ∧ ((s.sdBit f fed b).sd f).fed = fed ∧
    ((s.sdBit f fed b).sd f).data = (s.sdData f ((s.sdBit f fed b).sd f).bits).1 ∧ ((s.sdBit f fed b).sd f).lostCnt = (s.sd f).lostCnt ∧
    (fed = false → ((s.sdBit f fed b).sd f).oc = false) ∧ OnlyFilter s (s.sdBit f fed b) f := by
  generalize he : s.sdBit f fed b = u
  unfold State.sdBit at he
  extract_lets x oco bs r o out run s1 at he
  have hself : s1.sd f = _ := State.sd_setSd_self ..
  have hset : OnlyFilter s s1 f := onlyFilter_setSd ..
  have hsource (v : Bool) : ((s1.sdSource f v).sd f).bits = bs ∧ ((s1.sdSource f v).sd f).fed = fed ∧
      ((s1.sdSource f v).sd f).data = (s.sdData f ((s1.sdSource f v).sd f).bits).1 ∧ ((s1.sdSource f v).sd f).lostCnt = x.lostCnt ∧
      ((s1.sdSource f v).sd f).oc = v ∧ OnlyFilter s (s1.sdSource f v) f := by
    obtain ⟨hsd, honly⟩ := s1.sdSource_spec f v
    rw [hsd, hself]
    exact ⟨rfl, rfl, rfl, rfl, rfl, hset.trans honly⟩
  split at he
  · subst he
    obtain ⟨h1, h2, h3, h4, h5, h6⟩ := hsource false
    exact ⟨h1, h2, h3, h4, fun _ => h5, h6⟩
  · rename_i hfed
    have hfed : fed ≠ false := fun h => hfed (.inl h)
    split at he <;> subst he
    · obtain ⟨h1, h2, h3, h4, -, h6⟩ := hsource true
      exact ⟨h1, h2, h3, h4, fun h => absurd h hfed, h6⟩
    · rw [hself]
      exact ⟨rfl, rfl, rfl, rfl, fun h => absurd h hfed, hset⟩

/-- What stands after at least one bit of a run has entered filter `f`. -/
structure EntersBits (s u : State) (f : Nat) (fed : Bool) (bs : List (Bool × Bool)) : Prop where
  bits : (u.sd f).bits = (bs.reverse ++ (s.sd f).bits).take 774
  isFed : (u.sd f).fed = fed
  data : (u.sd f).data = (s.sdData f (u.sd f).bits).1
  lostCnt : (u.sd f).lostCnt = (s.sd f).lostCnt
  released : fed = false → (u.sd f).oc = false
  only : OnlyFilter s u f

/-- The output of a filter over a window rests on the entries of ACQUISITION alone. -/
theorem OnlyFilter.sdData {f j : Nat} (h : OnlyFilter s u j) (hf : f < 32) (bs : List (Bool × Bool)) : u.sdData f bs = s.sdData f bs := by
  have hosr : u.en 7 0x040 f = s.en 7 0x040 f := h.2 _ f (by decide) (by omega)
  have hofs : u.en 7 0x045 f = s.en 7 0x045 f := h.2 _ f (by decide) (by omega)
  rw [State.sdData, State.sdData, State.enS, State.enS, hosr, hofs]

theorem entersBits_sdBit {f : Nat} (fed : Bool) (b : Bool × Bool) (s : State) : EntersBits s (s.sdBit f fed b) f fed [b] := by
  obtain ⟨hbits, hfed, hdata, hlost, hoc, honly⟩ := s.sdBit_spec f fed b
  exact ⟨hbits, hfed, hdata, hlost, hoc, honly⟩

/-- A run of bits enters one by one. -/
theorem EntersBits.cons {f : Nat} {fed : Bool} {b : Bool × Bool} {bs : List (Bool × Bool)} (hf : f < 32)
    (h : EntersBits (s.sdBit f fed b) u f fed bs) : EntersBits s u f fed (b :: bs) := by
  obtain ⟨hbits, -, -, hlost, -, honly⟩ := s.sdBit_spec f fed b
  refine ⟨?_, h.isFed, h.data.trans (congrArg Prod.fst (honly.sdData hf _)), h.lostCnt.trans hlost, h.released, honly.trans h.only⟩
  rw [h.bits, hbits, List.reverse_cons, List.append_assoc, List.singleton_append, List.take_append, List.take_append, List.take_take,
    Nat.min_eq_left (Nat.sub_le ..)]

theorem entersBits_foldl {f : Nat} (hf : f < 32) (fed : Bool) : ∀ {bs : List (Bool × Bool)}, bs ≠ [] → ∀ s : State,
    EntersBits s (bs.foldl (fun s b => s.sdBit f fed b) s) f fed bs
  | [], h, _ => absurd rfl h
  | [b], _, s => entersBits_sdBit fed b s
  | b :: c :: bs, _, s => (entersBits_foldl hf fed (List.cons_ne_nil c bs) (s.sdBit f fed b)).cons hf

/-- The bits of a slot, the oldest first: those of a substituted slot and of a stream that is not fed alternate. -/
def slotBits (bits : BitVec 8) (subst : Bool) : List (Bool × Bool) :=
  (List.range 8).map (fun i => (if subst then i % 2 == 1 else bits.getLsbD i, subst))

/-- The data path's output as a number (R195). -/
theorem State.toInt_sdData (s : State) (f : Nat) (bs : List (Bool × Bool)) : ((s.sdData f bs).1).toInt = max (-8388608) (min 8388607
    (sdScale (filterSum (sinc3 (s.en 7 0x040 f)) (3 * s.en 7 0x040 f - 2) bs 0) ((s.en 7 0x040 f ^ 3 : Nat) : Int) (s.enS 24 7 0x045 f))) := by
  rw [State.sdData]
  exact toInt_ofInt_word (by simp only [satQ]; omega) (by simp only [satQ]; omega)

/-- The bits of a slot have entered filter `f`, whose record of its last slot follows. -/
def State.slotEntered (s : State) (f : Nat) (bits : BitVec 8) (sub : Bool) : State :=
  let u := (slotBits bits (sub || !s.sdFed f)).foldl (fun u b => u.sdBit f (s.sdFed f) b) s
  u.setSd f { u.sd f with slotAt := some u.t48.toNat }

theorem State.slotEntered_spec {f : Nat} (hf : f < 32) (bits : BitVec 8) (sub : Bool) (s : State) :
    EntersBits s (s.slotEntered f bits sub) f (s.sdFed f) (slotBits bits (sub || !s.sdFed f)) := by
  obtain ⟨hbits, hfed, hdata, hlost, hoc, honly⟩ :=
    entersBits_foldl hf (s.sdFed f) (bs := slotBits bits (sub || !s.sdFed f)) (by simp [slotBits]) s
  refine ⟨?_, ?_, ?_, ?_, ?_, honly.trans (onlyFilter_setSd ..)⟩ <;> rw [State.slotEntered, State.sd_setSd_self] <;> assumption

theorem State.sdSlot_eq (s : State) (f : Nat) (bits : BitVec 8) (sub : Bool) : s.sdSlot f bits sub =
    (s.slotEntered f bits sub).whenS (sub && s.sdFed f)
      (fun s => (s.setSd f { s.sd f with lostCnt := (s.sd f).lostCnt + 1 }).bump (mkKey 7 0x047 f) 0xFFFFFF) := rfl

/-- A slot enters its filter; a substituted one that should be fed is counted. -/
theorem State.sdSlot_spec {f : Nat} (hf : f < 32) (bits : BitVec 8) (sub : Bool) (s : State) :
    ((s.sdSlot f bits sub).sd f).bits = ((slotBits bits (sub || !s.sdFed f)).reverse ++ (s.sd f).bits).take 774 ∧
    ((s.sdSlot f bits sub).sd f).fed = s.sdFed f ∧ ((s.sdSlot f bits sub).sd f).data = (s.sdData f ((s.sdSlot f bits sub).sd f).bits).1 ∧
    ((s.sdSlot f bits sub).sd f).lostCnt = (s.sd f).lostCnt + (if sub && s.sdFed f then 1 else 0) ∧
    (s.sdFed f = false → ((s.sdSlot f bits sub).sd f).oc = false) ∧ ∀ j, j ≠ f → (s.sdSlot f bits sub).sd j = s.sd j := by
  obtain ⟨hbits, hfed, hdata, hlost, hoc, hothers, -⟩ := s.slotEntered_spec hf bits sub
  rw [State.sdSlot_eq]
  generalize s.slotEntered f bits sub = u at hbits hfed hdata hlost hoc hothers ⊢
  rcases u.whenS_cases (sub && s.sdFed f)
    (fun s => (s.setSd f { s.sd f with lostCnt := (s.sd f).lostCnt + 1 }).bump (mkKey 7 0x047 f) 0xFFFFFF) with ⟨hc, hw⟩ | ⟨hc, hw⟩ <;> rw [hw, hc]
  · have hself : ((u.setSd f { u.sd f with lostCnt := (u.sd f).lostCnt + 1 }).bump (mkKey 7 0x047 f) 0xFFFFFF).sd f =
        { u.sd f with lostCnt := (u.sd f).lostCnt + 1 } := State.sd_setSd_self ..
    rw [hself]
    exact ⟨hbits, hfed, hdata, congrArg (· + 1) hlost, hoc, fun j hj => (State.sd_setSd_ne hj u _).trans (hothers j hj)⟩
  · exact ⟨hbits, hfed, hdata, hlost, hoc, hothers⟩

/-! ### Latch groups (R196) -/

theorem doSdLatchCentred_of_none {g : Fin 16} (h : (s.lg g).wait = []) : doSdLatchCentred g s = s := by
  simp only [doSdLatchCentred, h]

theorem doSdLatchCentred_of_waiting {g : Fin 16} {p : Nat × Nat} {r : List (Nat × Nat)} (h : (s.lg g).wait = p :: r) :
    doSdLatchCentred g s = (s.setLg g { s.lg g with wait := r }).deliverLg g p.1 true ((p.2 + s.lgHalf g + 19) / 20 * 20 - s.lgHalf g) := by
  simp only [doSdLatchCentred, h]

/-- From `s` to `u` records were delivered: mailboxes took them, and raised their events. -/
def Delivers (s u : State) : Prop := u = { s with loop := u.loop, evBus := u.evBus } ∧ ∃ l, u.evBus = s.evBus ++ l

theorem Delivers.refl (s : State) : Delivers s s := ⟨rfl, [], (List.append_nil _).symm⟩

theorem Delivers.trans (h : Delivers s u) (h' : Delivers u v) : Delivers s v := by
  obtain ⟨hu, l, hl⟩ := h
  obtain ⟨hv, m, hm⟩ := h'
  refine ⟨?_, l ++ m, by rw [hm, hl, List.append_assoc]⟩
  conv_lhs => rw [hv, hu]

theorem Delivers.whenS {f : State → State} (hf : ∀ s, Delivers s (f s)) (s : State) (c : Bool) : Delivers s (s.whenS c f) := by
  rcases s.whenS_cases c f with ⟨-, h⟩ | ⟨-, h⟩ <;> rw [h]
  · exact hf s
  · exact .refl s

theorem Delivers.foldl {A : Type} {f : State → A → State} (hf : ∀ s a, Delivers s (f s a)) : ∀ (l : List A) (s : State), Delivers s (l.foldl f s)
  | [], s => .refl s
  | a :: l, s => (hf s a).trans (Delivers.foldl hf l (f s a))

theorem delivers_mboxRecord (s : State) (k : Nat) (words : List Word) : Delivers s (s.mboxRecord k words) :=
  Delivers.trans (u := s.setMb k ((s.mb k).complete words s.t24)) ⟨rfl, [], (List.append_nil _).symm⟩
    (.whenS (f := fun s => s.raiseEv (320 + k)) (fun _ => ⟨rfl, [320 + k], rfl⟩) _ _)

theorem delivers_deliver (s : State) (kind inst : Nat) (words : List Word) : Delivers s (s.deliver kind inst words) :=
  .foldl (fun s k => .whenS (fun s => delivers_mboxRecord s k words) s _) _ s

/-- The record of a latch: the group counts it, and its event follows what its delivery raises. -/
theorem State.deliverLg_spec (s : State) (g trig : Nat) (centred : Bool) (time : Nat) :
    (∀ j, (s.deliverLg g trig centred time).lg j = if j = g then { s.lg g with count := (s.lg g).count + 1 } else s.lg j) ∧
    (∃ l, (s.deliverLg g trig centred time).evBus = s.evBus ++ l ++ [160 + g]) ∧
    (s.deliverLg g trig centred time).en 7 0x054 g = min 0xFFFFFF (s.en 7 0x054 g + 1) := by
  have hcounted (j : Nat) : ((s.setLg g { s.lg g with count := (s.lg g).count + 1 }).bump (mkKey 7 0x054 g) 0xFFFFFF).lg j =
      if j = g then { s.lg g with count := (s.lg g).count + 1 } else s.lg j := State.lg_setLg ..
  have hentry : ((s.setLg g { s.lg g with count := (s.lg g).count + 1 }).bump (mkKey 7 0x054 g) 0xFFFFFF).en 7 0x054 g =
      min 0xFFFFFF (s.en 7 0x054 g + 1) := (State.getKey_putKey ..).trans (if_pos rfl)
  generalize he : s.deliverLg g trig centred time = v
  unfold State.deliverLg at he
  extract_lets fs n vs lost x s1 h at he
  obtain ⟨hu, l, hl⟩ := delivers_deliver s1 1 g (h :: BitVec.ofNat 24 time :: vs.map (·.1))
  generalize s1.deliver 1 g (h :: BitVec.ofNat 24 time :: vs.map (·.1)) = u at he hu hl
  subst he
  refine ⟨fun j => ?_, ⟨l, congrArg (· ++ [160 + g]) hl⟩, ?_⟩
  · rw [← hcounted j, hu]
    rfl
  · rw [← hentry, hu]
    rfl

/-! ### Comparators (R198, R199) -/

theorem State.cw_setCw_self (s : State) (k : Nat) (x : Cw) : (s.setCw k x).cw k = x := (State.cw_setCw ..).trans (if_pos rfl)

theorem State.cw_setCw_ne {k j : Nat} (h : j ≠ k) (s : State) (x : Cw) : (s.setCw k x).cw j = s.cw j := (State.cw_setCw ..).trans (if_neg h)

theorem cwOut_eq (mode : Nat) (above below : Bool) : cwOut mode above below =
    ((mode == 1 && above) || (mode == 2 && below) || (mode == 3 && (above || below)) || (mode == 4 && !above && !below)) := by
  rcases (by omega : mode = 1 ∨ mode = 2 ∨ mode = 3 ∨ mode = 4 ∨ (mode ≠ 1 ∧ mode ≠ 2 ∧ mode ≠ 3 ∧ mode ≠ 4)) with
    rfl | rfl | rfl | rfl | ⟨h1, h2, h3, h4⟩
  · simp [cwOut]
  · simp [cwOut]
  · simp [cwOut]
  · simp [cwOut]
  · simp [cwOut, h1, h2, h3, h4]

/-- The wire of comparator `k` as its comparisons form it (R198). -/
def State.cwWire (s : State) (k : Nat) (above below : Bool) : Bool := cwOut (s.cfgWord (cwGroup k) (0x60 + 2 * (k % 12)) / 16 % 8) above below

theorem State.cwForm_of_same {k : Nat} {above below : Bool} (h : s.cwWire k above below = (s.cw k).out) :
    s.cwForm k above below = s.setCw k { s.cw k with above := above, below := below } := by
  refine (if_pos h).trans ?_
  rw [State.cwWire] at h
  rw [h]

/-- A wire that changes is timestamped and counted, and raises its event. -/
def State.cwNoted (s : State) (k : Nat) (above below : Bool) : State :=
  let u := s.setCw k { s.cw k with above := above, below := below, out := s.cwWire k above below }
  (u.setCw k { u.cw k with changes := (s.cw k).changes + 1, time := s.t48.setWidth 24 }).raiseEv (176 + k / 4)

theorem State.cw_cwNoted (s : State) (k : Nat) (above below : Bool) (j : Nat) : (s.cwNoted k above below).cw j = if j = k then { s.cw k with
    above := above, below := below, out := s.cwWire k above below, changes := (s.cw k).changes + 1, time := s.t48.setWidth 24 } else s.cw j := by
  refine (State.cw_setCw ..).trans ?_
  rw [State.cw_setCw_self]
  split
  · rfl
  · exact State.cw_setCw_ne ‹_› ..

/-- The change reaches the matrix, which ignores a masked comparator. -/
theorem State.cwForm_of_changed {k : Nat} {above below : Bool} (h : s.cwWire k above below ≠ (s.cw k).out) : s.cwForm k above below =
    if (s.cw k).masked then (s.cwNoted k above below).setSrc k (s.cwWire k above below)
    else (s.cwNoted k above below).sourceLevel k (s.cwWire k above below) := if_neg h

/-- At the matrix the source of the comparator takes the level of its wire. -/
theorem State.cwForm_source {k : Nat} {above below : Bool} (h : s.cwWire k above below ≠ (s.cw k).out) :
    Collects (s.cwNoted k above below) (s.cwForm k above below) ∧
    (s.cwForm k above below).flt.src = ((s.cwNoted k above below).setSrc k (s.cwWire k above below)).flt.src := by
  rw [State.cwForm_of_changed h]
  split
  · exact ⟨collects_setSrc .., rfl⟩
  · exact ⟨collects_sourceLevel .., State.src_sourceLevel ..⟩

/-- The fault of a comparator that nothing masks follows its wire, where TM_CLASS is not NONE (R296). -/
theorem State.mem_live_cwForm {k : Nat} {above below : Bool} (h : s.cwWire k above below ≠ (s.cw k).out) (hk : k < 48) (hm : (s.cw k).masked = false)
    (hcls : s.en 0xA 0x204 k ≠ 7) : 0x060004 + 256 * k ∈ (s.cwForm k above below).flt.live ↔ s.cwWire k above below = true := by
  have hfault : (s.cwNoted k above below).srcFault k = some (0x060004 + 256 * k) :=
    (if_pos ⟨by omega, hcls⟩).trans (congrArg some (if_pos hk))
  rw [State.cwForm_of_changed h, hm, if_neg (by decide)]
  exact State.mem_live_sourceLevel hfault _

/-- A store of CWTHR withdraws the frames of the one before, and sends its own where no check runs: lanes change. -/
theorem State.cwWithdraw_frame (s : State) (k : Nat) : s.cwWithdraw k = { s with lanes := (s.cwWithdraw k).lanes } := by
  rw [State.cwWithdraw]
  split <;> rfl

theorem State.sendCfgWord_frame (s : State) (d a : Nat) (ws : List Word) : s.sendCfgWord d a ws = { s with lanes := (s.sendCfgWord d a ws).lanes } := by
  rw [State.sendCfgWord]
  split <;> rfl

theorem State.trigFrame_frame (s : State) (a trig : Nat) (untimed : Bool) (t : EdgeTime) :
    s.trigFrame a trig untimed t = { s with lanes := (s.trigFrame a trig untimed t).lanes } := by
  rw [State.trigFrame]
  split <;> rfl

/-- The thresholds that a store of CWTHR asks for: the window is only narrowed (R199). -/
def State.cwAsked (s : State) (k : Nat) (v : Word) : Cw :=
  let hi := min (v.toNat % 1024) (s.en 7 0x061 k)
  let lo := max (v.toNat / 1024 % 1024) (s.en 7 0x062 k)
  { s.cw k with
    pend := true, clamped := decide (hi ≠ v.toNat % 1024 ∨ lo ≠ v.toNat / 1024 % 1024), reqHi := BitVec.ofNat 10 hi, reqLo := BitVec.ofNat 10 lo }

theorem State.cwThr_spec (s : State) (k : Nat) (v : Word) :
    (∀ j, (s.cwThr k v).cw j = if j = k then s.cwAsked k v else s.cw j) ∧
    s.cwThr k v = { s with lanes := (s.cwThr k v).lanes, acq := { s.acq with cw := (s.cwThr k v).acq.cw } } := by
  have hw := s.cwWithdraw_frame k
  have hset : (∀ j, ((s.cwWithdraw k).setCw k (s.cwAsked k v)).cw j = if j = k then s.cwAsked k v else s.cw j) ∧
      (s.cwWithdraw k).setCw k (s.cwAsked k v) = { s with
        lanes := ((s.cwWithdraw k).setCw k (s.cwAsked k v)).lanes, acq := { s.acq with cw := ((s.cwWithdraw k).setCw k (s.cwAsked k v)).acq.cw } } := by
    generalize s.cwWithdraw k = u at hw ⊢
    rw [hw]
    exact ⟨fun j => State.cw_setCw .., rfl⟩
  have hclamped : s.cwAsked k v = { s.cw k with
      pend := true
      clamped := decide (min (v.toNat % 1024) (s.en 7 0x061 k) ≠ v.toNat % 1024) || decide (max (v.toNat / 1024 % 1024) (s.en 7 0x062 k) ≠ v.toNat / 1024 % 1024)
      reqHi := BitVec.ofNat 10 (min (v.toNat % 1024) (s.en 7 0x061 k)), reqLo := BitVec.ofNat 10 (max (v.toNat / 1024 % 1024) (s.en 7 0x062 k)) } := by
    simp only [State.cwAsked, Bool.decide_or]
  have heq : s.cwThr k v = if (s.cw k).masked then (s.cwWithdraw k).setCw k (s.cwAsked k v)
      else ((s.cwWithdraw k).setCw k (s.cwAsked k v)).sendCfgWord (cwGroup k) (0x61 + 2 * (k % 12))
        [BitVec.ofNat 24 (min (v.toNat % 1024) (s.en 7 0x061 k) + 1024 * max (v.toNat / 1024 % 1024) (s.en 7 0x062 k))] := by
    rw [hclamped]
    rfl
  rw [heq]
  split
  · exact hset
  · obtain ⟨hcw, hframe⟩ := hset
    generalize (s.cwWithdraw k).setCw k (s.cwAsked k v) = u at hcw hframe ⊢
    have hsend := u.sendCfgWord_frame (cwGroup k) (0x61 + 2 * (k % 12))
      [BitVec.ofNat 24 (min (v.toNat % 1024) (s.en 7 0x061 k) + 1024 * max (v.toNat / 1024 % 1024) (s.en 7 0x062 k))]
    generalize u.sendCfgWord _ _ _ = w at hsend ⊢
    refine ⟨fun j => ?_, ?_⟩
    · rw [← hcw j, hsend]
      rfl
    · rw [hsend, hframe]

/-- The address of CWTHR lies in the block of its comparator. -/
theorem State.rowStore_cwthr {e : Fin 16} {t c : Nat} (hx : Executes s e t c) {k : Fin 48}
    (hallows : s.allows t e (0x832002 + 16 * k.val) true = true) (hm : (s.task t).mig = none) (v : Word) :
    s.rowStore e (0x832002 + 16 * k.val) v = s.cwThr k v := by
  have hview : postView (0x832002 + 16 * k.val) = none := if_neg (by omega)
  have hpost : isPost (0x832002 + 16 * k.val) = false := by rw [isPost, hview]; rfl
  have hcommit : s.commitBusy (0x832002 + 16 * k.val) v = false := by
    simp [State.commitBusy, show ¬ 0x832002 + 16 * k.val < 0x800C00 by omega]
  have href : refusedStore (0x832002 + 16 * k.val) v = false := by
    simp [refusedStore, show ¬ 0x832002 + 16 * k.val < 0x830400 by omega]
  have hdiv : (0x832002 + 16 * k.val) / 65536 = 0x83 := by omega
  have hoff : (0x832002 + 16 * k.val) % 65536 = 0x2002 + 16 * k.val := by omega
  have hcw : (0x2002 + 16 * k.val - 0x2000) / 16 = k.val := by omega
  have hstore : s.portStore t e (0x832002 + 16 * k.val) v = s.cwThr k v := by
    simp only [State.portStore, hdiv, hoff]
    rw [if_neg (by omega), if_pos (by omega), hcw]
  rw [State.rowStore_of_allowed hx hpost hcommit href hallows]
  simp only [State.storeAt, hm, hview, State.isShadow_of_not_migrating hm, Bool.false_and, Bool.false_eq_true, if_false, hstore,
    Option.getD_some]

theorem doCwthrApply_of_pending {k : Fin 48} (hp : (s.cw k).pend = true) (hm : (s.cw k).masked = false) : doCwthrApply k s =
    (s.setCw k { s.cw k with pend := false, appHi := (s.cw k).reqHi, appLo := (s.cw k).reqLo }).setCfgWord (cwGroup k) (0x61 + 2 * (k.val % 12))
      (BitVec.ofNat 24 ((s.cw k).reqHi.toNat + 1024 * (s.cw k).reqLo.toNat)) := if_pos ⟨hp, hm⟩

theorem doCwthrApply_of_not_pending {k : Fin 48} (h : (s.cw k).pend = false ∨ (s.cw k).masked = true) : doCwthrApply k s = s := by
  refine if_neg fun ⟨hp, hm⟩ => ?_
  rcases h with h | h
  · exact absurd (h.symm.trans hp) (by decide)
  · exact absurd (hm.symm.trans h) (by decide)

theorem State.cfgWord_setCfgWord_self (s : State) (d a : Nat) (w : Word) : (s.setCfgWord d a w).cfgWord d a = w.toNat :=
  congrArg BitVec.toNat ((Tab.get_set ..).trans (if_pos rfl))

/-! ### The readback of the DACs (R186, R201) -/

/-- DAC `d` is selected onto the readback bus, and its conversion is triggered. -/
def State.dacSelected (s : State) (d : Nat) : State :=
  (s.sendCfgWord (cwGroup (d / 2)) 0x79 [fields 24 [(2 * (d / 2 % 12) + d % 2, 0), (1, 5)]]).trigFrame 3 127 true s.nowT

theorem State.dacSelected_frame (s : State) (d : Nat) : s.dacSelected d = { s with lanes := (s.dacSelected d).lanes } := by
  rw [State.dacSelected, State.trigFrame_frame, State.sendCfgWord_frame]

/-- The last readback of DAC `d`, the high or the low one of its comparator, failed. -/
def Cw.dacFailed (x : Cw) (d : Nat) : Bool := if d % 2 = 0 then x.failHi else x.failLo

/-- The comparator once a readback of DAC `d` has failed, or not. -/
def Cw.dacJudged (x : Cw) (d : Nat) (fail : Bool) : Cw := if d % 2 = 0 then { x with failHi := fail } else { x with failLo := fail }

theorem Cw.dacFailed_dacJudged (x : Cw) (d : Nat) (fail : Bool) : (x.dacJudged d fail).dacFailed d = fail := by
  by_cases h : d % 2 = 0 <;> simp [Cw.dacFailed, Cw.dacJudged, h]

theorem Cw.not_right_of_dacFailed {x : Cw} {d : Nat} (h : x.dacFailed d = true) : ¬ (x.failHi = false ∧ x.failLo = false) := by
  rintro ⟨hhi, hlo⟩
  rw [Cw.dacFailed, hhi, hlo, ite_self] at h
  exact absurd h (by decide)

/-- The error of a readback against the code that DAC `d` holds. -/
def State.dacError (s : State) (d : Nat) (rb : BitVec 16) : Int :=
  (rb.toNat : Int) - ((if d % 2 = 0 then (s.cw (d / 2)).appHi.toNat else (s.cw (d / 2)).appLo.toNat) * 64 + 32)

/-- An error above 384 codes is a failure. -/
def State.dacFails (s : State) (d : Nat) (rb : BitVec 16) : Bool := decide (384 < (s.dacError d rb).natAbs)

/-- The readback of DAC `d` has been judged. -/
def State.dacRead (s : State) (d : Nat) (rb : BitVec 16) : State :=
  let u := s.dacSelected d
  (State.setCw { u with acq := { u.acq with rb := some d } } (d / 2) ((s.cw (d / 2)).dacJudged d (s.dacFails d rb))).put 7 0x06B (d / 2)
    (BitVec.ofInt 16 (max (-32768) (min 32767 (s.dacError d rb)))).toNat

theorem State.dacRead_frame (s : State) (d : Nat) (rb : BitVec 16) :
    (s.dacRead d rb).acq.rb = some d ∧ (s.dacRead d rb).cw (d / 2) = (s.cw (d / 2)).dacJudged d (s.dacFails d rb) ∧ (s.dacRead d rb).flt = s.flt := by
  unfold State.dacRead
  extract_lets u
  have hflt : u.flt = s.flt := by
    unfold u
    rw [State.dacSelected_frame]
  clear_value u
  generalize (s.cw (d / 2)).dacJudged d (s.dacFails d rb) = x
  generalize (BitVec.ofInt 16 (max (-32768) (min 32767 (s.dacError d rb)))).toNat = e
  exact ⟨rfl, State.cw_setCw_self .., hflt⟩

section
variable {d : Nat} (hdev : s.dev = devIdle) (hnext : s.nextDac (s.acq.rb.getD 95) = some d)
include hdev hnext

theorem doCwReadback_none : doCwReadback none s = s.dacSelected d := by
  simp only [doCwReadback, hdev, hnext, ne_eq, not_true_eq_false, false_and, if_false]
  rfl

/-- Two failures in a row raise CW_DAC_FAULT, and a comparator both of whose DACs are right ends it. -/
theorem doCwReadback_some (rb : BitVec 16) : doCwReadback (some rb) s =
    if s.dacFails d rb && (s.cw (d / 2)).dacFailed d then (s.dacRead d rb).condOn (0x060006 + 256 * (d / 2))
    else if ((s.cw (d / 2)).dacJudged d (s.dacFails d rb)).failHi = false ∧ ((s.cw (d / 2)).dacJudged d (s.dacFails d rb)).failLo = false then
      (s.dacRead d rb).condOff (0x060006 + 256 * (d / 2))
    else s.dacRead d rb := by
  have hcw : (s.dacSelected d).cw (d / 2) = s.cw (d / 2) := by rw [State.dacSelected_frame]; rfl
  have hselected : (s.sendCfgWord (cwGroup (d / 2)) 0x79 [fields 24 [(2 * (d / 2 % 12) + d % 2, 0), (1, 5)]]).trigFrame 3 127 true s.nowT =
      s.dacSelected d := rfl
  simp only [doCwReadback, hdev, hnext, ne_eq, not_true_eq_false, false_and, if_false, hselected, hcw, beq_iff_eq]
  rfl

variable {rb : BitVec 16}

theorem doCwReadback_of_right (hright : s.dacFails d rb = false) :
    (doCwReadback (some rb) s).acq.rb = some d ∧ ((doCwReadback (some rb) s).cw (d / 2)).dacFailed d = false ∧
    (doCwReadback (some rb) s).flt.reports = s.flt.reports := by
  obtain ⟨hrb, hcw, hflt⟩ := s.dacRead_frame d rb
  have hself : ((s.dacRead d rb).cw (d / 2)).dacFailed d = false := by rw [hcw, Cw.dacFailed_dacJudged, hright]
  rw [doCwReadback_some hdev hnext, hright, Bool.false_and, if_neg (by decide)]
  split
  · have hcoll := collects_condOff (s.dacRead d rb) (0x060006 + 256 * (d / 2))
    rw [hcoll.acq, hcoll.cw, State.reports_condOff, hflt]
    exact ⟨hrb, hself, rfl⟩
  · rw [hflt]
    exact ⟨hrb, hself, rfl⟩

theorem doCwReadback_of_first (hfail : s.dacFails d rb = true) (hfirst : (s.cw (d / 2)).dacFailed d = false) :
    (doCwReadback (some rb) s).acq.rb = some d ∧ ((doCwReadback (some rb) s).cw (d / 2)).dacFailed d = true ∧
    (doCwReadback (some rb) s).flt = s.flt := by
  obtain ⟨hrb, hcw, hflt⟩ := s.dacRead_frame d rb
  have hself : ((s.cw (d / 2)).dacJudged d (s.dacFails d rb)).dacFailed d = true := by rw [Cw.dacFailed_dacJudged, hfail]
  rw [doCwReadback_some hdev hnext, hfirst, Bool.and_false, if_neg (by decide), if_neg (Cw.not_right_of_dacFailed hself), hcw]
  exact ⟨hrb, hself, hflt⟩

theorem mem_live_of_twice (hfail : s.dacFails d rb = true) (htwice : (s.cw (d / 2)).dacFailed d = true) :
    0x060006 + 256 * (d / 2) ∈ (doCwReadback (some rb) s).flt.live := by
  rw [doCwReadback_some hdev hnext, hfail, htwice, if_pos (by decide)]
  exact State.mem_live_condOn ..

end

/-! ### The statement -/

/-- Settles O38: each command is read as what it makes of one converter, filter, group or comparator; an overcurrent and a wire reach the collector through the
matrix alone. -/
theorem filtersAndComparators : Obligations.FiltersAndComparators := by
  intro s e t c code rb w w0 v ch rq tr wl f bits sub g k above below d q x z others fed ins mode out y want failed
  have hwire : s.cwWire k above below = out := cwOut_eq ..
  refine ⟨fun hreq _ hdue hlost => ⟨_, exec_hkConversion .., ?_⟩, fun hscan _ hlost => ⟨_, exec_hkConversion .., ?_⟩, ⟨_, exec_hkRes .., ?_⟩,
    ⟨_, exec_sdSlot .., ?_⟩, fun hw => (exec_sdLatchCentred ..).trans (congrArg Host.Outcome.next (doSdLatchCentred_of_none hw)),
    fun hw => ⟨_, exec_sdLatchCentred .., ?_⟩, fun hout => ⟨_, exec_cwWireChange .., ?_⟩, fun hout => ⟨_, exec_cwWireChange .., ?_⟩,
    fun hx hallows hm => ⟨_, exec_cwthr .., ?_⟩, fun hp hm => ⟨_, exec_cwthrApply .., ?_⟩,
    fun h => (exec_cwthrApply ..).trans (congrArg Host.Outcome.next (doCwthrApply_of_not_pending h)),
    fun h1 h2 => (exec_cwReadback ..).trans (congrArg Host.Outcome.next (if_pos ⟨h1, h2⟩)), fun hdev hnext => ?_⟩
  · rw [doHkConversion_of_request hreq hdue hlost]
    exact ⟨rfl, congrArg DLane.up (State.dl_setDl_self ..), rfl⟩
  · rw [doHkConversion_of_scan hscan hlost]
    exact ⟨rfl, congrArg DLane.up (State.dl_setDl_self ..), rfl⟩
  · rw [doHkRes, State.upFrame_of_ok (frameOk_frameCrc (lenOk_payloadOf (by simp))), List.foldl_cons, List.foldl_nil]
    obtain ⟨hframed, -, -⟩ := receives_framed s 32 0xB1 (payloadOf [w0, w]) (frameCrc 0xB1 (payloadOf [w0, w]))
    generalize s.framed _ _ _ _ = u at hframed ⊢
    obtain ⟨hhk, hev, hone⟩ := u.hkOne_spec w
    generalize u.hkOne w = u' at hhk hev hone ⊢
    refine ⟨fun ch => ?_, ?_, ?_⟩
    · rw [hhk, hframed]
    · rw [hev, hframed]
    · rw [hone, hframed]
  · have hsd : (s.setRx f { s.rx f with slot := ((s.rx f).slot + 8) / 16 * 16 % 64 + 1 }).sdFed f = fed := by
      simp only [fed, State.sdFed, beq_eq_decide]
      rfl
    obtain ⟨hbits, hfed, hdata, hlost, hoc, hothers⟩ :=
      (s.setRx f { s.rx f with slot := ((s.rx f).slot + 8) / 16 * 16 % 64 + 1 }).sdSlot_spec f.isLt bits sub
    rw [hsd] at hbits hfed hlost hoc
    exact ⟨hbits, hfed, hdata ▸ State.toInt_sdData .., hlost, hoc, hothers⟩
  · rw [doSdLatchCentred_of_waiting hw]
    obtain ⟨hlg, hev, hcount⟩ := (s.setLg g { s.lg g with wait := wl }).deliverLg_spec g tr.1 true ((tr.2 + s.lgHalf g + 19) / 20 * 20 - s.lgHalf g)
    have hself : (s.setLg g { s.lg g with wait := wl }).lg g = { s.lg g with wait := wl } := (State.lg_setLg ..).trans (if_pos rfl)
    refine ⟨(hlg g).trans ?_, fun j hj => (hlg j).trans ?_, hev, hcount⟩
    · rw [if_pos rfl, hself]
    · rw [if_neg hj]
      exact (State.lg_setLg ..).trans (if_neg hj)
  · rw [doCwWireChange, State.cwForm_of_same (hwire.trans hout)]
    exact ⟨State.cw_setCw_self .., fun j hj => State.cw_setCw_ne hj s _, rfl⟩
  · have hne : s.cwWire k above below ≠ (s.cw k).out := hwire ▸ hout
    obtain ⟨hcoll, hsrc⟩ := State.cwForm_source hne
    have hcw (j : Nat) := (hcoll.cw j).trans (State.cw_cwNoted ..)
    refine ⟨(hcw k).trans ?_, fun j hj => (hcw j).trans (if_neg hj), hcoll.evBus, ?_, fun hm hcls => ?_⟩
    · rw [if_pos rfl, hwire]
    · rw [doCwWireChange, hsrc, State.getLsbD_setSrc (by omega), hwire]
    · rw [doCwWireChange, State.mem_live_cwForm hne k.isLt hm hcls, hwire]
  · rw [doCwthr, State.rowStore_cwthr hx hallows hm]
    obtain ⟨hcw, hframe⟩ := s.cwThr_spec k v
    exact ⟨(hcw k).trans (if_pos rfl), fun j hj => (hcw j).trans (if_neg hj), hframe⟩
  · have hcodes : (BitVec.ofNat 24 ((s.cw k).reqHi.toNat + 1024 * (s.cw k).reqLo.toNat)).toNat = (s.cw k).reqHi.toNat + 1024 * (s.cw k).reqLo.toNat := by
      rw [BitVec.toNat_ofNat]
      omega
    rw [doCwthrApply_of_pending hp hm]
    exact ⟨State.cw_setCw_self .., fun j hj => State.cw_setCw_ne hj s _, (State.cfgWord_setCfgWord_self ..).trans hcodes, rfl⟩
  · have hfails : s.dacFails d rb = true ↔ failed := by
      simp only [State.dacFails, State.dacError, failed, want, y]
      push_cast
      exact decide_eq_true_iff
    refine ⟨⟨_, exec_cwReadback .., ?_⟩, fun hf => ⟨_, exec_cwReadback .., ?_⟩, fun hf hfirst => ⟨_, exec_cwReadback .., ?_⟩,
      fun hf htwice => ⟨_, exec_cwReadback .., ?_⟩⟩
    · rw [doCwReadback_none hdev hnext]
      exact State.dacSelected_frame ..
    · exact doCwReadback_of_right hdev hnext (Bool.eq_false_iff.2 (mt hfails.1 hf))
    · exact doCwReadback_of_first hdev hnext (hfails.2 hf) hfirst
    · exact mem_live_of_twice hdev hnext (hfails.2 hf) htwice

end Sys2Proof.Machine
end

section
/-! SUPPORT. What a lane's change brings with it (R135, R153, R157): what happens beside the lanes and their far ends, a lane that goes to another state, RESUME_NEEDED,
and a training that fails. -/

namespace Sys2Proof.Machine

variable {s u v : State} {l : Nat}

/-! ### What happens beside the lanes -/

/-- From `s` to `u` no lane and nothing of the drivers changed. -/
def Beside (s u : State) : Prop := u.lanes = s.lanes ∧ u.drv = s.drv

theorem Beside.refl (s : State) : Beside s s := ⟨rfl, rfl⟩

theorem Beside.trans (h : Beside s u) (h' : Beside u v) : Beside s v := ⟨h'.1.trans h.1, h'.2.trans h.2⟩

theorem Beside.whenS {f : State → State} (hf : ∀ s, Beside s (f s)) (s : State) (c : Bool) : Beside s (s.whenS c f) := by
  rcases s.whenS_cases c f with ⟨-, h⟩ | ⟨-, h⟩ <;> rw [h]
  · exact hf s
  · exact .refl s

theorem Beside.foldl {A : Type} {f : State → A → State} (hf : ∀ s a, Beside s (f s a)) : ∀ (l : List A) (s : State), Beside s (l.foldl f s)
  | [], s => .refl s
  | a :: l, s => (hf s a).trans (Beside.foldl hf l (f s a))

theorem Beside.lane (h : Beside s u) (l : Nat) : u.lane l = s.lane l := congrArg (fun x : Lanes => Tab.get (fun _ => Lane.reset) x.lane l) h.1

theorem Beside.view (h : Beside s u) (j : Nat) : u.view j = s.view j := congrArg (fun x : Drv => Tab.get (fun _ => HbView.reset) x.view j) h.2

theorem Collects.beside (h : Collects s u) : Beside s u := ⟨h.lanes, h.drv⟩

theorem beside_sdRelease (s : State) (f : Nat) : Beside s (s.sdRelease f) := by
  have hsource (s : State) : Beside s (s.sdSource f false) := by
    rw [State.sdSource]
    split
    · exact .refl s
    · exact Beside.trans (u := s.setSd f { s.sd f with oc := false }) ⟨rfl, rfl⟩ (collects_sourceLevel ..).beside
  rw [State.sdRelease]
  split
  · exact .refl s
  · exact Beside.trans (u := s.setSd f { s.sd f with run := 0 }) ⟨rfl, rfl⟩ (hsource _)

theorem beside_keepWrite (s : State) (q : Req) (k v : Nat) (r : EntRow) : Beside s (s.keepWrite q k v r) := by
  have hdefer (s : State) : Beside s s.deferRec :=
    (Beside.whenS (f := fun s => s.report (0x0C0302 + 256 * s.nvm.bank)) (fun _ => ⟨rfl, rfl⟩) s _).trans ⟨rfl, rfl⟩
  have hjournal (o : Option Req) (b : Bool) : Beside s (s.journal k v r o b) := (Beside.whenS hdefer s _).trans ⟨rfl, rfl⟩
  rw [State.keepWrite]
  split
  · exact (hjournal none true).trans ⟨rfl, rfl⟩
  · exact (hjournal (some q) false).trans ⟨rfl, rfl⟩

/-- A write that waits for the P-die ends (R172). -/
theorem beside_waitEnd (s : State) (w : CfgWait) (ok : Bool) : Beside s (s.waitEnd w ok) := by
  unfold State.waitEnd
  extract_lets _ s1 _ x
  have h1 : Beside s s1 := ⟨rfl, rfl⟩
  clear_value s1
  split
  · split
    · exact h1.trans ⟨rfl, rfl⟩
    · exact h1.trans (beside_keepWrite ..)
  · refine h1.trans ((Beside.whenS (f := fun s => s.setCw (keyElem w.key) { x with pend := false, reqHi := x.appHi, reqLo := x.appLo })
      (fun _ => ⟨rfl, rfl⟩) s1 _).trans ⟨rfl, rfl⟩)

theorem beside_waitsEnd (s : State) (l : Nat) (ok : Bool) : Beside s (s.waitsEnd l ok) := .foldl (fun s w => beside_waitEnd s w ok) _ s

theorem beside_endJob (s : State) (slot st result : Nat) : Beside s (s.endJob slot st result) := by
  rw [State.endJob_frame]
  exact ⟨rfl, rfl⟩

theorem State.flt_endJob (s : State) (slot st result : Nat) : (s.endJob slot st result).flt = s.flt := by
  rw [State.endJob_frame]
  rfl

/-! ### One lane changes -/

theorem OnlyLane.trans {x y : Lane} (h : OnlyLane s u l x) (h' : OnlyLane u v l y) : OnlyLane s v l y := by
  obtain ⟨hu, hlane⟩ := h
  obtain ⟨hv, hlane'⟩ := h'
  refine ⟨by conv_lhs => rw [hv, hu], fun j => (hlane' j).trans ?_⟩
  split
  · rfl
  · rename_i hj
    rw [hlane, if_neg hj]

theorem OnlyLane.setLane {x : Lane} (h : OnlyLane s u l x) (y : Lane) : OnlyLane s (u.setLane l y) l y := h.trans (onlyLane_setLane u l y)

theorem OnlyLane.self {x : Lane} (h : OnlyLane s u l x) : u.lane l = x := (h.2 l).trans (if_pos rfl)

/-- The collector's inputs change with the lane. -/
theorem OnlyLane.withFlt {x : Lane} (h : OnlyLane s u l x) (f : Flt) : OnlyLane { s with flt := f } { u with flt := f } l x := by
  obtain ⟨hu, hlane⟩ := h
  refine ⟨?_, hlane⟩
  rw [hu]

theorem OnlyLane.flt {x : Lane} (h : OnlyLane s u l x) : u.flt = s.flt := by rw [h.1]

theorem OnlyLane.laneIs {x : Lane} {P : Lane → Prop} (h : OnlyLane s u l x) (hx : P x) : LaneIs s u l P :=
  ⟨h.1, h.self.symm ▸ hx, fun j hj => (h.2 j).trans (if_neg hj)⟩

theorem Receives.onlyLane (h : Receives s u l) (hl : l < 32) : OnlyLane s u l (s.lane l) := by
  have hlane := h.lane
  obtain ⟨hu, -, hdrv⟩ := h
  have hdl : u.drv.dl = s.drv.dl := by rw [hdrv hl]
  rw [hdl] at hu
  refine ⟨by rw [hu], fun j => ?_⟩
  split
  · rename_i hj
    rw [hlane, hj]
  · exact hlane j

/-! ### A lane goes to another state -/

/-- What a state of a lane brings with it is beside the lanes: its event, and the release of its filter's source. -/
theorem beside_laneTo (s : State) (l : Nat) (st : LaneSt) : Beside (s.setLane l { s.lane l with st := st }) (s.laneTo l st) :=
  (Beside.whenS (f := fun s => s.raiseEv (laneEv l)) (fun _ => ⟨rfl, rfl⟩) _ _).trans (.whenS (fun s => beside_sdRelease s l) _ _)

theorem State.lane_laneTo (s : State) (l : Nat) (st : LaneSt) (j : Nat) :
    (s.laneTo l st).lane j = if j = l then { s.lane l with st := st } else s.lane j := ((beside_laneTo s l st).lane j).trans (State.lane_setLane ..)

theorem State.drv_laneTo (s : State) (l : Nat) (st : LaneSt) : (s.laneTo l st).drv = s.drv := (beside_laneTo s l st).2

/-! ### A training that fails (R149) -/

theorem State.trainFail_spec (s : State) (l cause : Nat) : TrainingFails (s.trainFail l cause) l cause ∧ (s.trainFail l cause).drv = s.drv := by
  unfold State.trainFail
  extract_lets x _ y s1 s2
  have h1 : s1.lane l = { y with st := .failed } ∧ s1.drv = s.drv := by
    have hends := beside_waitsEnd ((s.setLane l y).laneTo l .failed) l false
    refine ⟨(hends.lane l).trans ?_, hends.2.trans (State.drv_laneTo ..)⟩
    rw [State.lane_laneTo, if_pos rfl, State.lane_setLane_self]
  clear_value s1
  have hlive : 0x040001 + 256 * l ∈ s2.flt.live := State.mem_live_condOn ..
  have h2 : s2.lane l = { y with st := .failed } ∧ s2.drv = s.drv := by
    have hon := (collects_condOn s1 (0x040001 + 256 * l)).beside
    exact ⟨(hon.lane l).trans h1.1, hon.2.trans h1.2⟩
  clear_value s2
  obtain ⟨hlane, hdrv⟩ := h2
  split
  · rename_i j _
    have hend := beside_endJob s2 j 5 (0xE00200 + cause)
    rw [TrainingFails, hend.lane, hend.2, State.flt_endJob, hlane]
    exact ⟨⟨rfl, rfl, hlive⟩, hdrv⟩
  · rw [TrainingFails, hlane]
    exact ⟨⟨rfl, rfl, hlive⟩, hdrv⟩

/-! ### RESUME_NEEDED (R153) -/

theorem State.needResume_of_ext (h : l < 32) (s : State) : s.needResume l = s.setLane l { s.lane l with resumeNeeded := true } := by
  simp [State.needResume, laneGens, State.setResume, h]

theorem State.view_setView_self (s : State) (h : Nat) (x : HbView) : (s.setView h x).view h = x := (State.view_setView ..).trans (if_pos rfl)

theorem State.view_setView_ne {h j : Nat} (hj : j ≠ h) (s : State) (x : HbView) : (s.setView h x).view j = s.view j :=
  (State.view_setView ..).trans (if_neg hj)

theorem State.needResume_of_link (d : Nat) (s : State) : s.needResume (32 + d) =
    ((s.setResume (32 + 3 * d) true).setResume (33 + 3 * d) true).setResume (34 + 3 * d) true := by
  simp [State.needResume, laneGens]

/-- RESUME_NEEDED of a half-bridge. -/
theorem State.setResume_hb (s : State) (h : Nat) (b : Bool) : s.setResume (32 + h) b = s.setView h { s.view h with resumeNeeded := b } := by
  simp [State.setResume]

theorem State.needResume_link_spec (d : Nat) (s : State) :
    (∀ i, i < 3 → ((s.needResume (32 + d)).view (3 * d + i)).resumeNeeded = true) ∧
    s.needResume (32 + d) = { s with drv := { s.drv with view := (s.needResume (32 + d)).drv.view } } := by
  rw [State.needResume_of_link, State.setResume_hb, show 33 + 3 * d = 32 + (3 * d + 1) by omega, show 34 + 3 * d = 32 + (3 * d + 2) by omega,
    State.setResume_hb, State.setResume_hb]
  refine ⟨fun i hi => ?_, rfl⟩
  rcases (by omega : i = 0 ∨ i = 1 ∨ i = 2) with rfl | rfl | rfl
  · rw [State.view_setView_ne (by omega), State.view_setView_ne (by omega), Nat.add_zero, State.view_setView_self]
  · rw [State.view_setView_ne (by omega), State.view_setView_self]
  · rw [State.view_setView_self]

/-! ### A kill, and what a retrain does likewise (R138, R153) -/

/-- A lane whose queues of edge commands are emptied. -/
def Lane.emptied (x : Lane) : Lane :=
  { x with qHold := [], qEdge := [], qVolley := false, t1 := none, prog := none, kills := min 65535 (x.kills + 1) }

/-- K28.1 leaves, but for a pair that is held static. -/
def Lane.kill28 (x : Lane) (static : Bool) : Lane := if static then x else x.put (List.replicate 8 (.special .kill))

theorem State.killSent_of_off (h : (s.lane l).st = .off) : s.killSent l = s := if_pos h

/-- Nothing of TIME_ADJ or below is in the serialiser. -/
theorem State.killSent_of_free (h : (s.lane l).st ≠ .off) (hp : ∀ p, s.inSend l = some p → p.level < 5) :
    s.killSent l = (s.setLane l ((s.lane l).emptied.kill28 (s.flt.static.getLsbD l))).needResume l := by
  have hnone : (s.inSend l).filter (fun p => decide (5 ≤ p.level)) = none :=
    Option.filter_eq_none_iff.2 fun p he => by simpa using hp p he
  rw [State.killSent, if_neg h]
  simp only [hnone]
  rfl

/-- An item of TIME_ADJ or below goes back to its queue. -/
theorem State.killSent_of_lower {p : Sending} (h : (s.lane l).st ≠ .off) (hp : s.inSend l = some p) (hlevel : 5 ≤ p.level) :
    s.killSent l = (s.setLane l (((s.lane l).unsend p).emptied.kill28 (s.flt.static.getLsbD l))).needResume l := by
  have hsome : (s.inSend l).filter (fun p => decide (5 ≤ p.level)) = some p := by
    rw [hp, Option.filter_some, if_pos (by simpa using hlevel)]
  rw [State.killSent, if_neg h]
  simp only [hsome]
  rfl

/-- An item that goes back changes the queues, the count of commands and the serialiser alone. -/
theorem Lane.unsend_frame (x : Lane) (p : Sending) : x.unsend p = { x with
    prog := (x.unsend p).prog, cmdcnt := (x.unsend p).cmdcnt, qEdge := (x.unsend p).qEdge, qVolley := (x.unsend p).qVolley, t1 := (x.unsend p).t1
    qAdj := (x.unsend p).qAdj, qProf := (x.unsend p).qProf, qFrame := (x.unsend p).qFrame } := by
  fun_cases Lane.unsend x p <;> rfl

theorem Lane.unsend_kill (x : Lane) (p : Sending) (b : Bool) : Lane.unsend { x with kill := b } p = { x.unsend p with kill := b } := by
  obtain ⟨level, cmd, frame, at48, ticks⟩ := p
  rw [Lane.unsend, Lane.unsend]
  dsimp only
  split <;> rfl

end Sys2Proof.Machine
end

section
/-! SUPPORT. Kills of lanes (R138, R153), satellite and half-bridge alarms (R154, R155, R168) and the frames STATUS and EDGE_TELE (R145, R163, R164), and the
statement on them, settled. -/

namespace Sys2Proof.Machine

variable {s u v : State} {l : Nat}

/-! ### The commands -/

theorem exec_laneKill (l : Fin 36) (s : State) : exec (.laneKill l) s = .next (s.killLane l) := rfl

theorem exec_killEnd (l : Fin 36) (s : State) : exec (.killEnd l) s = .next (doKillEnd l s) := rfl

theorem exec_satAlarm (l : Fin 36) (s : State) : exec (.satAlarm l) s = .next (doSatAlarm l s) := rfl

theorem exec_alarm (l : Fin 36) (w0 w1 : Word) (fcs : BitVec 16) (s : State) : exec (.alarm l w0 w1 fcs) s = .next (doAlarm l w0 w1 fcs s) := rfl

theorem exec_alarmTimeout (l : Fin 36) (s : State) : exec (.alarmTimeout l) s = .next (doAlarmTimeout l s) := rfl

theorem exec_statusFrame (l : Fin 36) (w0 w1 w2 w3 : Word) (fcs : BitVec 16) (s : State) :
    exec (.statusFrame l w0 w1 w2 w3 fcs) s = .next (doStatusFrame l w0 w1 w2 w3 fcs s) := rfl

theorem exec_edgeTele (l : Fin 36) (w0 w1 w2 : Word) (fcs : BitVec 16) (s : State) :
    exec (.edgeTele l w0 w1 w2 fcs) s = .next (doEdgeTele l w0 w1 w2 fcs s) := rfl

theorem exec_killReceived (d : Fin 4) (s : State) : exec (.killReceived d) s = .next (s.bankSafe d) := rfl

/-! ### Kills (R138, R153) -/

theorem State.killLane_of_kill (h : (s.lane l).kill = true) : s.killLane l = s := if_pos h

theorem State.killLane_of_not_kill (h : (s.lane l).kill = false) : s.killLane l = (s.setLane l { s.lane l with kill := true }).killSent l :=
  if_neg (by simp [h])

theorem State.inSend_setKill (s : State) (l : Nat) (b : Bool) : (s.setLane l { s.lane l with kill := b }).inSend l = s.inSend l := by
  rw [State.inSend, State.lane_setLane_self]
  rfl

/-- What a killed lane becomes: its queues of edge commands are empty, and K28.1 leaves where its pair is not static (R138, R159). -/
def Lane.Killed (x w : Lane) (static : Bool) : Prop :=
  let q := { x with kill := true, qHold := [], qEdge := [], qVolley := false, t1 := none, kills := min 65535 (x.kills + 1) }
  if static then w = { q with prog := none } else q.Puts w (List.replicate 8 (LChar.special .kill))

/-- RESUME_NEEDED rises with the kill. -/
theorem Lane.killed_resume (x : Lane) (static : Bool) :
    Lane.Killed { x with resumeNeeded := true } { (Lane.emptied { x with kill := true }).kill28 static with resumeNeeded := true } static := by
  cases static <;> rfl

theorem Lane.killed_kill28 (x : Lane) (static : Bool) : x.Killed ((Lane.emptied { x with kill := true }).kill28 static) static := by
  cases static <;> rfl

/-- A kill of an external lane: `b` is the lane as the serialiser left it. -/
theorem laneIs_killLane_ext {b : Lane} (hl : l < 32) (hkill : (s.lane l).kill = false) (hst : (s.lane l).st ≠ .off)
    (hb : ((∀ p, s.inSend l = some p → p.level < 5) ∧ b = s.lane l) ∨ ∃ p, s.inSend l = some p ∧ 5 ≤ p.level ∧ b = (s.lane l).unsend p) :
    LaneIs s (s.killLane l) l (Lane.Killed { b with resumeNeeded := true } · (s.flt.static.getLsbD l)) := by
  have hself : (s.setLane l { s.lane l with kill := true }).lane l = { s.lane l with kill := true } := State.lane_setLane_self ..
  have hst' : ((s.setLane l { s.lane l with kill := true }).lane l).st ≠ .off := by rwa [hself]
  have hflt : (s.setLane l { s.lane l with kill := true }).flt = s.flt := rfl
  have hsent : s.killLane l = ((s.setLane l { s.lane l with kill := true }).setLane l
      ((Lane.emptied { b with kill := true }).kill28 (s.flt.static.getLsbD l))).needResume l := by
    rw [State.killLane_of_not_kill hkill]
    rcases hb with ⟨hfree, rfl⟩ | ⟨p, hp, hlevel, rfl⟩
    · rw [State.killSent_of_free hst' (by rwa [State.inSend_setKill]), hself, hflt]
    · rw [State.killSent_of_lower hst' ((State.inSend_setKill ..).trans hp) hlevel, hself, hflt, Lane.unsend_kill]
  rw [hsent, State.needResume_of_ext hl, State.lane_setLane_self]
  exact (((onlyLane_setLane ..).setLane _).setLane _).laneIs (Lane.killed_resume ..)

theorem onlyLane_killLane_of_off (hkill : (s.lane l).kill = false) (hst : (s.lane l).st = .off) :
    OnlyLane s (s.killLane l) l { s.lane l with kill := true } := by
  have hst' : ((s.setLane l { s.lane l with kill := true }).lane l).st = .off := by rwa [State.lane_setLane_self]
  rw [State.killLane_of_not_kill hkill, State.killSent_of_off hst']
  exact onlyLane_setLane ..

/-- A kill of a link lane whose serialiser is free reaches the three half-bridges of its bank. -/
theorem State.killLane_link (d : Nat) (hkill : (s.lane (32 + d)).kill = false) (hst : (s.lane (32 + d)).st ≠ .off) (hfree : s.inSend (32 + d) = none) :
    (s.lane (32 + d)).Killed ((s.killLane (32 + d)).lane (32 + d)) (s.flt.static.getLsbD (32 + d)) ∧
    (∀ i, i < 3 → ((s.killLane (32 + d)).view (3 * d + i)).resumeNeeded = true) ∧
    s.killLane (32 + d) = { s with lanes := (s.killLane (32 + d)).lanes, drv := { s.drv with view := (s.killLane (32 + d)).drv.view } } := by
  have hself : (s.setLane (32 + d) { s.lane (32 + d) with kill := true }).lane (32 + d) = { s.lane (32 + d) with kill := true } :=
    State.lane_setLane_self ..
  have hst' : ((s.setLane (32 + d) { s.lane (32 + d) with kill := true }).lane (32 + d)).st ≠ .off := by rwa [hself]
  have hsent := State.killSent_of_free hst' fun p hp => absurd (hfree.symm.trans ((State.inSend_setKill ..).symm.trans hp)) nofun
  rw [State.killLane_of_not_kill hkill, hsent, hself]
  generalize hu : (s.setLane (32 + d) { s.lane (32 + d) with kill := true }).setLane (32 + d) _ = u
  have hlane : u.lane (32 + d) = (Lane.emptied { s.lane (32 + d) with kill := true }).kill28 (s.flt.static.getLsbD (32 + d)) := by
    rw [← hu]
    exact State.lane_setLane_self ..
  have hframe : u = { s with lanes := u.lanes } := by
    rw [← hu]
    rfl
  obtain ⟨hview, hdrv⟩ := State.needResume_link_spec d u
  generalize u.needResume (32 + d) = v at hview hdrv ⊢
  refine ⟨?_, hview, ?_⟩
  · have hv : v.lane (32 + d) = u.lane (32 + d) := by
      rw [hdrv]
      rfl
    rw [hv, hlane]
    exact Lane.killed_kill28 ..
  · rw [hdrv, hframe]

/-! ### Satellite alarms (R154, R155) -/

theorem State.telemetry_of_off {ty bit : Nat} (h : (s.en 5 0x030 l).testBit bit = false) (ws : List Word) : s.telemetry l ty bit ws = s :=
  if_neg (by simp [h])

theorem State.telemetry_of_link {ty bit : Nat} (h : 32 ≤ l) (ws : List Word) : s.telemetry l ty bit ws = s := if_neg fun hl => by omega

/-- The fault of a cause that asks for an answer of the host: 1, 3 and 4 (R155). -/
theorem alarmCode_ext {c : Nat} (hl : l < 32) (hc : c = 1 ∨ c = 3 ∨ c = 4) (h : Nat) :
    alarmCode l h c = (if c = 1 then 0x040010 else if c = 3 then 0x040012 else 0x040013) + 256 * l := by
  rw [alarmCode, if_pos hl]
  rcases hc with rfl | rfl | rfl <;> simp [alarmFault]

/-- From `s` to `u` the entries, the half-bridges and the CRC count of lane `l` are as before. -/
def AlarmKeeps (s u : State) (l : Nat) : Prop := u.ent = s.ent ∧ u.drv.hb = s.drv.hb ∧ (u.lane l).crcErr = (s.lane l).crcErr

theorem AlarmKeeps.refl (s : State) (l : Nat) : AlarmKeeps s s l := ⟨rfl, rfl, rfl⟩

theorem AlarmKeeps.trans (h : AlarmKeeps s u l) (h' : AlarmKeeps u v l) : AlarmKeeps s v l := by
  obtain ⟨hent, hhb, hcrc⟩ := h
  obtain ⟨hent', hhb', hcrc'⟩ := h'
  exact ⟨hent'.trans hent, hhb'.trans hhb, hcrc'.trans hcrc⟩

theorem AlarmKeeps.whenS {f : State → State} (hf : ∀ s, AlarmKeeps s (f s) l) (s : State) (c : Bool) : AlarmKeeps s (s.whenS c f) l := by
  rcases s.whenS_cases c f with ⟨-, h⟩ | ⟨-, h⟩ <;> rw [h]
  · exact hf s
  · exact .refl s l

/-- A lane changes, and keeps its CRC count. -/
theorem alarmKeeps_setLane {j : Nat} {x : Lane} (h : x.crcErr = (s.lane j).crcErr) : AlarmKeeps s (s.setLane j x) l := by
  refine ⟨rfl, rfl, ?_⟩
  rw [State.lane_setLane]
  split
  · rename_i hj
    rw [h, hj]
  · rfl

theorem alarmKeeps_condOn (s : State) (code : Nat) : AlarmKeeps s (s.condOn code) l := by
  rcases s.condOn_cases code with ⟨-, h⟩ | ⟨-, h⟩ <;> rw [h] <;> exact ⟨rfl, rfl, rfl⟩

theorem alarmKeeps_setResume (s : State) (g : Nat) (b : Bool) : AlarmKeeps s (s.setResume g b) l := by
  rw [State.setResume]
  split
  · exact alarmKeeps_setLane rfl
  · exact ⟨rfl, rfl, rfl⟩

theorem alarmKeeps_needResume (s : State) (j : Nat) : AlarmKeeps s (s.needResume j) l := by
  have hfold : ∀ (gs : List Nat) (s : State), AlarmKeeps s (gs.foldl (fun s g => s.setResume g true) s) l := by
    intro gs
    induction gs with
    | nil => exact fun s => .refl s l
    | cons g gs ih => exact fun s => (alarmKeeps_setResume s g true).trans (ih _)
  exact hfold ..

theorem alarmKeeps_stpHold (s : State) (g : Nat) : AlarmKeeps s (s.stpHold g) l := by
  have hprio (s : State) (j : Nat) (side : BitVec 2) (mask : BitVec 4) (t : EdgeTime) : AlarmKeeps s (s.sendPrio j side mask t) l := by
    rw [State.sendPrio]
    split
    · exact alarmKeeps_setLane rfl
    · exact alarmKeeps_setLane rfl
  exact AlarmKeeps.trans (u := s.setGen g { s.gen g with markH := true, markL := true }) ⟨rfl, rfl, rfl⟩ (hprio ..)

/-- The source of an alarm is released. -/
theorem State.alarmEnd_ext (hl : l < 32) (s : State) :
    s.alarmEnd l = (s.setLane l { s.lane l with alarm := false, alarmCode := none }).setSrc (80 + l) false := if_pos hl

theorem State.alarmEnd_link (hl : ¬ l < 32) (s : State) : s.alarmEnd l = s.setLane l { s.lane l with alarm := false, alarmCode := none } := if_neg hl

/-- The collector has still to take the report of the alarm's cause. -/
theorem State.alarmAwait_of_reported {code : Nat} (h : ⟨code, false⟩ ∈ s.flt.reports) :
    s.alarmAwait l code = s.setLane l { s.lane l with alarmCode := some code } :=
  if_pos (List.any_eq_true.2 ⟨_, h, by simp⟩)

theorem State.alarmAwait_of_taken {code : Nat} (h : ∀ r ∈ s.flt.reports, r.code ≠ code) : s.alarmAwait l code = s.alarmEnd l := by
  have hnone : ¬ s.flt.reports.any (fun r => r.code == code && !r.inj) = true := by simpa using fun r hr he => absurd he (h r hr)
  exact if_neg hnone

theorem alarmKeeps_alarmAwait (s : State) (j code : Nat) : AlarmKeeps s (s.alarmAwait j code) l := by
  rw [State.alarmAwait]
  split
  · exact alarmKeeps_setLane rfl
  · by_cases hj : j < 32
    · rw [State.alarmEnd_ext hj]
      have hset : AlarmKeeps s (s.setLane j { s.lane j with alarm := false, alarmCode := none }) l := alarmKeeps_setLane rfl
      exact hset.trans ⟨rfl, rfl, rfl⟩
    · rw [State.alarmEnd_link hj]
      exact alarmKeeps_setLane rfl

/-- The state of an external lane whose ALARM frame brought cause `c`. -/
def State.alarmed (s : State) (l c code : Nat) : State :=
  let u := (s.setLane l { s.lane l with cause := BitVec.ofNat 8 c }).condOn code
  u.setLane l { u.lane l with resumeNeeded := true }

theorem alarmKeeps_alarmed (s : State) (l c code : Nat) : AlarmKeeps s (s.alarmed l c code) l := by
  have hset : AlarmKeeps s (s.setLane l { s.lane l with cause := BitVec.ofNat 8 c }) l := alarmKeeps_setLane rfl
  have hon := hset.trans (alarmKeeps_condOn _ code)
  refine hon.trans ?_
  exact alarmKeeps_setLane rfl

/-- The ALARM frame of an external lane, with a cause that the host answers. -/
theorem State.alarmFrame_ext (hl : l < 32) {w0 w1 : Word} (hc : w0.toNat % 256 = 1 ∨ w0.toNat % 256 = 3 ∨ w0.toNat % 256 = 4)
    (htele : (s.en 5 0x030 l).testBit 2 = false) {code : Nat} (hcode : ∀ h, alarmCode l h (w0.toNat % 256) = code) :
    s.alarmFrame l w0 w1 = (s.alarmed l (w0.toNat % 256) code).alarmAwait l code := by
  unfold State.alarmFrame
  extract_lets c i h code' _ s1 _ sv s2 s3 lane s4
  have hneeds : (c == 1 || c == 3 || c == 4 || lane) = true := by
    rcases hc with hc | hc | hc <;> simp [c, hc]
  have h2 : s2 = s1.condOn code := (if_pos hl).trans ((if_pos hc).trans (congrArg _ (hcode h)))
  have h3 : s3 = s2 := if_neg (by simp only [c, beq_iff_eq]; omega)
  have h4 : s4 = s.alarmed l c code := by
    refine (if_pos hl).trans ((if_pos hneeds).trans ?_)
    refine (State.needResume_of_ext hl s3).trans ?_
    rw [h3, h2]
    rfl
  have hcode' : code' = code := hcode h
  clear_value s4 code'
  subst h4 hcode'
  obtain ⟨hent, -, -⟩ := (alarmKeeps_alarmed s l c code').trans (alarmKeeps_alarmAwait _ l code')
  refine State.telemetry_of_off ?_ _
  rwa [State.en, State.getKey, hent]

/-- The ALARM frame of a half-bridge changes no half-bridge: it left ALARM as it was sent. -/
theorem alarmKeeps_alarmFrame_link (hl : 32 ≤ l) (w0 w1 : Word) (s : State) : AlarmKeeps s (s.alarmFrame l w0 w1) l := by
  unfold State.alarmFrame
  extract_lets c i h code _ s1 _ sv s2 s3 lane s4
  have h1 : AlarmKeeps s s1 l := alarmKeeps_setLane rfl
  have hl' : ¬ l < 32 := by omega
  have hv : AlarmKeeps s1 sv l := by
    unfold sv
    split
    · exact .refl s1 l
    · exact ⟨rfl, rfl, rfl⟩
  have h2 : AlarmKeeps sv s2 l := by
    unfold s2
    rw [if_neg hl']
    split
    · exact alarmKeeps_condOn ..
    · exact ⟨rfl, rfl, rfl⟩
  have h3 : AlarmKeeps s2 s3 l := .whenS (fun s => alarmKeeps_stpHold s _) s2 _
  have h4 : AlarmKeeps s3 s4 l := by
    unfold s4
    rw [if_neg hl']
    split
    · exact alarmKeeps_needResume ..
    · exact .whenS (fun s => alarmKeeps_setResume s _ true) s3 _
  rw [State.telemetry_of_link hl]
  exact (((h1.trans hv).trans h2).trans (h3.trans h4)).trans (alarmKeeps_alarmAwait ..)

/-! ### Half-bridges (R168, R170) -/

theorem State.hb_setHb_self (s : State) (h : Nat) (x : Hb) : (s.setHb h x).hb h = x := (State.hb_setHb ..).trans (if_pos rfl)

/-- From `s` to `u` the drivers and the collector's inputs changed. -/
def Drives (s u : State) : Prop := u = { s with drv := u.drv, flt := u.flt }

theorem Drives.trans (h : Drives s u) (h' : Drives u v) : Drives s v := by
  unfold Drives at h h' ⊢
  conv_lhs => rw [h', h]

/-- The wires of the die change nothing but the sources of the matrix. -/
theorem State.dieWires_frame (s : State) : ∃ f, s.dieWires = { s with flt := f } := by
  have hset (a b c : Bool) : ∃ f, ((s.setSrc 112 a).setSrc 113 b).setSrc 114 c = { s with flt := f } := ⟨_, rfl⟩
  exact hset ..

/-- A half-bridge that changes moves the wires of its die and tells its state: the other half-bridges stay. -/
theorem State.hbTo_spec (s : State) (h : Nat) (x : Hb) :
    (∀ j, (s.hbTo h x).hb j = if j = h then x else s.hb j) ∧ Drives s (s.hbTo h x) := by
  have hstatus (s : State) : (s.sendStatus h).drv.hb = s.drv.hb ∧ Drives s (s.sendStatus h) := by
    rw [State.sendStatus, State.upSend]
    split <;> exact ⟨rfl, rfl⟩
  obtain ⟨f, hwires⟩ := (s.setHb h x).dieWires_frame
  rw [State.hbTo, hwires]
  have hset (j : Nat) : State.hb { s.setHb h x with flt := f } j = if j = h then x else s.hb j := State.hb_setHb ..
  have hframe : Drives s { s.setHb h x with flt := f } := rfl
  generalize ({ s.setHb h x with flt := f } : State) = u at hset hframe ⊢
  rcases u.whenS_cases ((s.hb h).st.code != x.st.code || (s.hb h).offConf != x.offConf || (s.hb h).bstWarn != x.bstWarn) (·.sendStatus h) with
    ⟨-, hw⟩ | ⟨-, hw⟩ <;> rw [hw]
  · obtain ⟨hhb, hsend⟩ := hstatus u
    refine ⟨fun j => ?_, hframe.trans hsend⟩
    rw [← hset j, State.hb, State.hb, hhb]
  · exact ⟨hset, hframe⟩

/-- A half-bridge leaves ALARM as its frame is sent. -/
theorem State.alarmSent_link {d : Nat} {w0 : Word} {ws : List Word} (hi : w0.toNat / 256 % 4 ≠ 3)
    (hsent : (s.dl d).up.find? (fun f => f.ty == 0xA2) = some ⟨0xA2, w0 :: ws⟩) :
    s.alarmSent (32 + d) = s.hbTo (3 * d + w0.toNat / 256 % 4)
      { s.hb (3 * d + w0.toNat / 256 % 4) with st := (s.hb (3 * d + w0.toNat / 256 % 4)).st.sent } := by
  have hd : 32 + d - 32 = d := by omega
  rw [State.alarmSent, if_neg (by omega), hd, hsent]
  exact if_neg hi

theorem State.alarmSent_ext (hl : l < 32) (s : State) : s.alarmSent l = s := if_pos hl

theorem HbSt.sent_eq (x : HbSt) : x.sent = if x = .alarm then .safeHold else x := by cases x <;> rfl

/-- A half-bridge made safe does not run. -/
theorem State.hbSafe_spec (s : State) (h : Nat) : ((s.hbSafe h).hb h).st ≠ .run ∧ (∀ j, j ≠ h → (s.hbSafe h).hb j = s.hb j) ∧
    Drives s (s.hbSafe h) := by
  obtain ⟨hhb, hframe⟩ := s.hbTo_spec h { s.offWith h (s.hb h) with st := if (s.hb h).st = .test then .test else .safeHold }
  refine ⟨?_, fun j hj => (hhb j).trans (if_neg hj), hframe⟩
  rw [State.hbSafe, hhb, if_pos rfl]
  dsimp only
  split <;> decide

theorem State.bankSafe_spec (s : State) (d : Nat) :
    BankOff (s.bankSafe d) d ∧ (∀ j, j / 3 ≠ d → (s.bankSafe d).hb j = s.hb j) ∧ Drives s (s.bankSafe d) := by
  obtain ⟨hoff0, hother0, hframe0⟩ := s.hbSafe_spec (3 * d)
  obtain ⟨hoff1, hother1, hframe1⟩ := (s.hbSafe (3 * d)).hbSafe_spec (3 * d + 1)
  obtain ⟨hoff2, hother2, hframe2⟩ := ((s.hbSafe (3 * d)).hbSafe (3 * d + 1)).hbSafe_spec (3 * d + 2)
  have heq : s.bankSafe d = ((s.hbSafe (3 * d)).hbSafe (3 * d + 1)).hbSafe (3 * d + 2) := rfl
  rw [heq]
  refine ⟨fun i hi => ?_, fun j hj => ?_, ?_⟩
  · rcases (by omega : i = 0 ∨ i = 1 ∨ i = 2) with rfl | rfl | rfl
    · rw [hother2 _ (by omega), hother1 _ (by omega)]
      exact hoff0
    · rw [hother2 _ (by omega)]
      exact hoff1
    · exact hoff2
  · rw [hother2 _ (by omega), hother1 _ (by omega), hother0 _ (by omega)]
  · exact (hframe0.trans hframe1).trans hframe2

/-! ### ALARM of an external lane -/

theorem State.condOn_flt (s : State) (code : Nat) : s.condOn code = { s with flt := (s.condOn code).flt } := by
  rcases s.condOn_cases code with ⟨-, h⟩ | ⟨-, h⟩ <;> rw [h]

theorem State.condOn_of_mem {code : Nat} (h : code ∈ s.flt.live) : s.condOn code = s := if_pos (List.contains_iff_mem.2 h)

theorem State.condOn_of_not_mem {code : Nat} (h : code ∉ s.flt.live) : s.condOn code =
    { s with flt := { s.flt with live := s.flt.live ++ [code], reports := s.flt.reports ++ [⟨code, false⟩] } } :=
  if_neg fun hc => h (List.contains_iff_mem.1 hc)

section
variable {c code : Nat} (hs : OnlyLane s u l (s.lane l))
include hs

/-- A cause that is new stands, and its report waits for the collector. -/
theorem onlyLane_alarm_new (h : code ∉ s.flt.live) :
    let f := { s.flt with live := s.flt.live ++ [code], reports := s.flt.reports ++ [⟨code, false⟩] }
    OnlyLane { s with flt := ((u.alarmed l c code).alarmAwait l code).flt } ((u.alarmed l c code).alarmAwait l code) l
      { s.lane l with cause := BitVec.ofNat 8 c, alarmCode := some code, resumeNeeded := true } ∧ ((u.alarmed l c code).alarmAwait l code).flt = f := by
  intro f
  have hcause := hs.setLane { u.lane l with cause := BitVec.ofNat 8 c }
  have hon : (u.setLane l { u.lane l with cause := BitVec.ofNat 8 c }).condOn code = { u.setLane l { u.lane l with cause := BitVec.ofNat 8 c } with flt := f } := by
    rw [State.condOn_of_not_mem (by rwa [hcause.flt]), hcause.flt]
  have halarmed : OnlyLane { s with flt := f } (u.alarmed l c code) l { s.lane l with cause := BitVec.ofNat 8 c, resumeNeeded := true } := by
    rw [State.alarmed, hon]
    have hself := (hcause.withFlt f).self
    have hset := (hcause.withFlt f).setLane { u.lane l with cause := BitVec.ofNat 8 c, resumeNeeded := true }
    rwa [hself, ← hs.self]
  have hreported : ⟨code, false⟩ ∈ (u.alarmed l c code).flt.reports := by
    rw [halarmed.flt]
    simp [f]
  rw [State.alarmAwait_of_reported hreported, halarmed.self]
  have hset := halarmed.setLane { s.lane l with cause := BitVec.ofNat 8 c, alarmCode := some code, resumeNeeded := true }
  refine ⟨?_, hset.flt⟩
  rw [hset.flt]
  exact hset

/-- The collector has the cause already: the source is released. -/
theorem onlyLane_alarm_taken (hl : l < 32) (h : code ∈ s.flt.live) (htaken : ∀ r ∈ s.flt.reports, r.code ≠ code) :
    OnlyLane { s with flt := { s.flt with src := ((u.alarmed l c code).alarmAwait l code).flt.src } } ((u.alarmed l c code).alarmAwait l code) l
      { s.lane l with cause := BitVec.ofNat 8 c, alarm := false, alarmCode := none, resumeNeeded := true } ∧
    ((u.alarmed l c code).alarmAwait l code).flt.src.getLsbD (80 + l) = false := by
  have hcause := hs.setLane { u.lane l with cause := BitVec.ofNat 8 c }
  have halarmed : OnlyLane s (u.alarmed l c code) l { s.lane l with cause := BitVec.ofNat 8 c, resumeNeeded := true } := by
    have hset := hcause.setLane { u.lane l with cause := BitVec.ofNat 8 c, resumeNeeded := true }
    rw [State.alarmed, State.condOn_of_mem (by rwa [hcause.flt]), hcause.self]
    rwa [← hs.self]
  rw [State.alarmAwait_of_taken (by rwa [halarmed.flt]), State.alarmEnd_ext hl, halarmed.self]
  generalize u.alarmed l c code = v at halarmed ⊢
  have hset := halarmed.setLane { s.lane l with cause := BitVec.ofNat 8 c, alarm := false, alarmCode := none, resumeNeeded := true }
  refine ⟨?_, State.getLsbD_setSrc (by omega) ..⟩
  rw [← hset.flt]
  exact hset.withFlt _

end

/-! ### STATUS (R145, R163, R164) -/

/-- Where no condition stands, a status ends none. -/
theorem State.satOver_of_clear (h : s.flt.live = []) (a b : Bool) : s.satOver l a b = s := by
  have hoff (code : Nat) : s.condOff code = s := State.condOff_of_not_mem (by simp [h])
  rw [State.satOver]
  split <;> split <;> simp [hoff]

/-- An external lane as a status of its satellite shows it. -/
def Lane.status (x : Lane) (w0 w1 w2 w3 : Word) (at48 : Nat) : Lane := { x with
  offConf := w0.getLsbD 2, bstWarn := w0.getLsbD 3 && decide (2 ≤ x.gen), vsecUv := w0.getLsbD 4, satLate := BitVec.ofNat 8 (w0.toNat / 256)
  satTemp := w1.setWidth 16, profCrc := w2.setWidth 16, satStp := BitVec.ofNat 8 (w2.toNat / 65536), satGap := BitVec.ofNat 8 (w3.toNat / 256)
  statusAt := some at48, resumeNeeded := x.resumeNeeded || decide (w0.toNat % 4 = 0) }

/-- A status is shown: by its lane, by the bootstrap warning of its generator, and by an off state that waits no longer. -/
def State.statusShown (s : State) (l : Nat) (x : Lane) (g : Gen) (c : Bool) : State := ((s.setLane l x).setGen l g).whenS c (·.confirmOff l)

/-- A status of a satellite whose state is the one before, where no condition stands. -/
theorem State.statusExt_of_same {w0 w1 w2 w3 : Word} (hlive : s.flt.live = []) (hsat : (s.lane l).sat = w0.toNat % 4) :
    s.statusExt l w0 w1 w2 w3 = s.statusShown l ((s.lane l).status w0 w1 w2 w3 s.t48.toNat)
      { s.gen l with bstWarn := w0.getLsbD 3 && decide (2 ≤ (s.lane l).gen) } (w0.getLsbD 2) := by
  unfold State.statusExt
  extract_lets x sat bw s1 _ s2 s3
  have h1 : s1 = s.setLane l (x.status w0 w1 w2 w3 s.t48.toNat) := by
    simp only [s1, sat, bw, ← hsat, Lane.status, BitVec.ofNat_toNat, beq_eq_decide]
    rfl
  have h3 : s3 = s2 := by
    have hraise : s2.whenS (x.sat != sat) (·.raiseEv (laneEv l)) = s2 := if_neg (by simp [x, sat, hsat])
    have hlive2 : s2.flt.live = [] := hlive
    rw [← State.satOver_of_clear hlive2 (l := l) (sat == 2) (w0.getLsbD 4)]
    exact congrArg (fun u => State.satOver u l (sat == 2) (w0.getLsbD 4)) hraise
  rw [h3]
  unfold s2
  rw [h1]
  rfl

/-- The off state of an output is confirmed, or not: its row of those that wait goes. -/
theorem State.mem_unconf_confirmOff (s : State) (c : Bool) (o j : Nat) :
    j ∈ (s.whenS c (·.confirmOff o)).flt.unconf ↔ j ∈ s.flt.unconf ∧ ¬ (c = true ∧ j = o) := by
  rcases s.whenS_cases c (·.confirmOff o) with ⟨hc, h⟩ | ⟨hc, h⟩ <;> rw [h, hc]
  · simp [State.confirmOff]
  · simp

theorem State.confirmOff_frame (s : State) (c : Bool) (o : Nat) :
    s.whenS c (·.confirmOff o) = { s with flt := { s.flt with unconf := (s.whenS c (·.confirmOff o)).flt.unconf } } := by
  rcases s.whenS_cases c (·.confirmOff o) with ⟨-, h⟩ | ⟨-, h⟩ <;> rw [h]
  rfl

theorem State.statusShown_spec (s : State) (l : Nat) (x : Lane) (g : Gen) (c : Bool) :
    (s.statusShown l x g c).lane l = x ∧ (s.statusShown l x g c).ent = s.ent := by
  have hset : ((s.setLane l x).setGen l g).lane l = x ∧ ((s.setLane l x).setGen l g).ent = s.ent := ⟨State.lane_setLane_self s l x, rfl⟩
  rw [State.statusShown]
  generalize (s.setLane l x).setGen l g = v at hset ⊢
  rw [State.confirmOff_frame]
  exact hset

/-- With the lane the bootstrap warning of its generator changed, and an off state that was confirmed waits no longer. -/
theorem onlyLane_statusShown {x : Lane} (h : OnlyLane s u l x) (y : Lane) (g : Gen) (c : Bool) :
    OnlyLane { s with pwm := (u.statusShown l y g c).pwm, flt := { s.flt with unconf := (u.statusShown l y g c).flt.unconf } } (u.statusShown l y g c) l y ∧
    (∀ j, (u.statusShown l y g c).gen j = if j = l then g else s.gen j) ∧
    ∀ j, j ∈ (u.statusShown l y g c).flt.unconf ↔ j ∈ s.flt.unconf ∧ ¬ (c = true ∧ j = l) := by
  have hset := h.setLane y
  generalize hw : u.setLane l y = w at hset
  have hframe := State.confirmOff_frame (w.setGen l g) c l
  have hunconf := State.mem_unconf_confirmOff (w.setGen l g) c l
  have hgen (j : Nat) : (w.setGen l g).gen j = if j = l then g else s.gen j := by
    refine (State.gen_setGen ..).trans ?_
    rw [hset.1]
    rfl
  have hflt : (w.setGen l g).flt = s.flt := hset.flt
  rw [State.statusShown, hw]
  generalize (w.setGen l g).whenS c (·.confirmOff l) = v at hframe hunconf ⊢
  refine ⟨⟨?_, fun j => ?_⟩, fun j => ?_, fun j => ?_⟩
  · rw [hframe, hflt, hset.1]
    rfl
  · refine Eq.trans ?_ (hset.2 j)
    rw [hframe]
    rfl
  · rw [← hgen j, hframe]
    rfl
  · rw [hunconf, hflt]

theorem State.trainStatus_of_not_prof (h : (s.lane l).step ≠ 7) (crc : BitVec 16) : s.trainStatus l crc = s := if_neg fun hc => h hc.1

theorem State.drv_trainStatus (s : State) (l : Nat) (crc : BitVec 16) : (s.trainStatus l crc).drv = s.drv := by
  rw [State.trainStatus]
  split
  · split
    · rfl
    · split
      · rfl
      · exact (s.trainFail_spec l 7).2
  · rfl

/-- What a step that may be left out keeps stays either way. -/
theorem State.proj_whenS {A : Type} (p : State → A) {f : State → State} (hf : ∀ s, p (f s) = p s) (s : State) (c : Bool) : p (s.whenS c f) = p s := by
  rcases s.whenS_cases c f with ⟨-, h⟩ | ⟨-, h⟩ <;> rw [h]
  exact hf s

/-- The view of a half-bridge as a status of its P-die shows it. -/
def HbView.status (v : HbView) (w0 : Word) : HbView := { v with
  st := w0.setWidth 2, offConf := w0.getLsbD 2, bstWarn := w0.getLsbD 3, resumeNeeded := v.resumeNeeded || decide (w0.toNat % 4 = 0) }

theorem ofNat_two_eq_zero (w : Word) : (BitVec.ofNat 2 w.toNat == 0) = decide (w.toNat % 4 = 0) := by
  rw [beq_eq_decide]
  refine decide_eq_decide.2 ⟨fun h => ?_, fun h => ?_⟩
  · simpa using congrArg BitVec.toNat h
  · exact BitVec.eq_of_toNat_eq (by simpa using h)

/-- A status of the P-die moves the view of its half-bridge, and no other. -/
theorem State.view_statusLink (d : Nat) (w0 w1 w2 w3 : Word) (s : State) (j : Nat) : (s.statusLink (32 + d) w0 w1 w2 w3).view j =
    if j = 3 * d + w0.toNat / 2 ^ 22 % 4 then (s.view (3 * d + w0.toNat / 2 ^ 22 % 4)).status w0 else s.view j := by
  unfold State.statusLink
  extract_lets b i h x first wait v st s1 s2 _ s3 s4 s5 s6
  have hh : h = 3 * d + w0.toNat / 2 ^ 22 % 4 := congrArg (3 * · + i) (by omega : 32 + d - 32 = d)
  have hview : v.status w0 = { v with st := st, offConf := w0.getLsbD 2, bstWarn := w0.getLsbD 3, resumeNeeded := v.resumeNeeded || st == 0 } := by
    simp only [HbView.status, st, ofNat_two_eq_zero]
    rw [BitVec.ofNat_toNat]
  have h2 : s2.view j = if j = h then v.status w0 else s.view j := hview ▸ State.view_setView ..
  have h4 : s4.view j = s3.view j := State.proj_whenS (·.view j) (f := (·.raiseEv (304 + h))) (fun _ => rfl) ..
  have h5 : s5.view j = s4.view j := by
    unfold s5
    rw [State.setLinkLoss]
    split <;> rfl
  have h6 : s6.view j = s5.view j := State.proj_whenS (·.view j) (f := (·.condOff (0x050004 + 256 * h))) (fun s => (collects_condOff s _).beside.view j) ..
  have h7 : (s6.whenS (w0.getLsbD 2) (·.confirmOff (32 + h))).view j = s6.view j := State.proj_whenS (·.view j) (f := (·.confirmOff (32 + h))) (fun _ => rfl) ..
  rw [h7, h6, h5, h4, ← hh]
  exact h2

/-! ### The frames -/

/-- The ALARM frame of an external lane, with a cause that the host answers, brings the cause. -/
theorem doAlarm_of_ext {l : Fin 36} (hl : l.val < 32) {w0 w1 : Word} (hc : w0.toNat % 256 = 1 ∨ w0.toNat % 256 = 3 ∨ w0.toNat % 256 = 4)
    (htele : (s.en 5 0x030 l).testBit 2 = false) {code : Nat} (hcode : ∀ h, alarmCode l h (w0.toNat % 256) = code) :
    ∃ u, OnlyLane s u l (s.lane l) ∧
      doAlarm l w0 w1 (frameCrc 0xA2 (payloadOf [w0, w1])) s = (u.alarmed l (w0.toNat % 256) code).alarmAwait l code := by
  have hframed := receives_framed s l 0xA2 (payloadOf [w0, w1]) (frameCrc 0xA2 (payloadOf [w0, w1]))
  refine ⟨_, hframed.onlyLane hl, ?_⟩
  rw [doAlarm, State.alarmSent_ext hl, State.upFrame_of_ok (frameOk_frameCrc (lenOk_payloadOf (by simp)))]
  exact State.alarmFrame_ext hl hc (by rwa [hframed.en]) hcode

/-- A frame of an external lane with a wrong CRC is counted. -/
theorem onlyLane_alarm_wrong {l : Fin 36} (hl : l.val < 32) {w0 w1 : Word} {fcs : BitVec 16} (h : fcs ≠ frameCrc 0xA2 (payloadOf [w0, w1])) :
    OnlyLane s (doAlarm l w0 w1 fcs s) l { s.lane l with crcErr := min 0xFFFFFF ((s.lane l).crcErr + 1) } := by
  rw [doAlarm, State.alarmSent_ext hl, State.upFrame_of_wrong (frameOk_of_ne h)]
  exact ((receives_framed ..).onlyLane hl).setLane _

/-- The ALARM frame of a half-bridge: it left ALARM as the frame was sent, whatever its CRC. -/
theorem State.alarm_link {d : Nat} {w0 w1 : Word} (fcs : BitVec 16) (hi : w0.toNat / 256 % 4 ≠ 3)
    (hsent : (s.dl d).up.find? (fun f => f.ty == 0xA2) = some ⟨0xA2, [w0, w1]⟩) :
    let u := (s.alarmSent (32 + d)).upFrame (32 + d) 0xA2 (payloadOf [w0, w1]) fcs (·.alarmFrame (32 + d) w0 w1)
    let h := 3 * d + w0.toNat / 256 % 4
    (u.hb h).st = (if (s.hb h).st = .alarm then .safeHold else (s.hb h).st) ∧
    (u.lane (32 + d)).crcErr = if fcs = frameCrc 0xA2 (payloadOf [w0, w1]) then (s.lane (32 + d)).crcErr else min 0xFFFFFF ((s.lane (32 + d)).crcErr + 1) := by
  intro u h
  obtain ⟨hhb, hdrives⟩ := s.hbTo_spec h { s.hb h with st := (s.hb h).st.sent }
  have hu : u = (s.hbTo h { s.hb h with st := (s.hb h).st.sent }).upFrame (32 + d) 0xA2 (payloadOf [w0, w1]) fcs (·.alarmFrame (32 + d) w0 w1) := by
    rw [← State.alarmSent_link hi hsent]
  rw [hu]
  generalize s.hbTo h _ = v at hhb hdrives ⊢
  have hst : (v.hb h).st = if (s.hb h).st = .alarm then .safeHold else (s.hb h).st := by
    rw [hhb, if_pos rfl]
    exact HbSt.sent_eq _
  have hlane : v.lane (32 + d) = s.lane (32 + d) := by
    rw [hdrives]
    rfl
  have hreceives := receives_framed v (32 + d) 0xA2 (payloadOf [w0, w1]) fcs
  have hframed : (v.framed (32 + d) 0xA2 (payloadOf [w0, w1]) fcs).drv.hb = v.drv.hb := by rw [hreceives.1]
  rw [← hst, ← hlane]
  by_cases hfcs : fcs = frameCrc 0xA2 (payloadOf [w0, w1])
  · obtain ⟨-, hhb', hcrc⟩ := alarmKeeps_alarmFrame_link (by omega : 32 ≤ 32 + d) w0 w1 (v.framed (32 + d) 0xA2 (payloadOf [w0, w1]) fcs)
    rw [State.upFrame_of_ok (hfcs ▸ frameOk_frameCrc (lenOk_payloadOf (by simp))), if_pos hfcs, hcrc, hreceives.lane, State.hb, hhb', hframed]
    exact ⟨rfl, rfl⟩
  · rw [State.upFrame_of_wrong (frameOk_of_ne hfcs), if_neg hfcs, State.lane_setLane_self]
    refine ⟨?_, rfl⟩
    change (Tab.get _ (v.framed (32 + d) 0xA2 (payloadOf [w0, w1]) fcs).drv.hb h).st = _
    rw [hframed]
    rfl

/-- A change of a lane, a draw, a report and a second change of the lane. -/
theorem onlyLane_reported (s : State) (l code : Nat) (x y : Lane) :
    OnlyLane { s with flt := (State.report s code).flt, free := s.free + 1 } (((s.setLane l x).tick.report code).setLane l y) l y := by
  have hset := onlyLane_setLane s l x
  generalize s.setLane l x = w at hset ⊢
  obtain ⟨hw, hlane⟩ := hset
  have hreported : OnlyLane { s with flt := (State.report s code).flt, free := s.free + 1 } (w.tick.report code) l x := by
    refine ⟨?_, hlane⟩
    rw [hw]
    rfl
  exact hreported.setLane y

/-- A lane without a cause in its time takes the cause UNKNOWN. -/
theorem onlyLane_alarmTimeout {l : Fin 36} (halarm : (s.lane l).alarm = true) (hnone : (s.lane l).alarmCode = none) :
    OnlyLane { s with flt := (doAlarmTimeout l s).flt, free := s.free + 1 } (doAlarmTimeout l s) l
      { s.lane l with cause := Config.free 8 s.free, alarmCode := some (0x040019 + 256 * l.val) } ∧
    (doAlarmTimeout l s).flt = { s.flt with reports := s.flt.reports ++ [⟨0x040019 + 256 * l.val, false⟩] } := by
  have hreported : ⟨0x040019 + 256 * l.val, false⟩ ∈ ((s.setLane l { s.lane l with cause := Config.free 8 s.free }).tick.report
      (0x040019 + 256 * l)).flt.reports := List.mem_append_right _ (List.mem_singleton_self _)
  rw [doAlarmTimeout, if_pos ⟨halarm, hnone⟩, State.alarmAwait_of_reported hreported]
  have hself : ((s.setLane l { s.lane l with cause := Config.free 8 s.free }).tick.report (0x040019 + 256 * l)).lane l =
      { s.lane l with cause := Config.free 8 s.free } := State.lane_setLane_self ..
  rw [hself]
  exact ⟨onlyLane_reported .., rfl⟩

/-- STATUS of a satellite whose state is the one before, where no condition stands and no telemetry is on. -/
theorem doStatusFrame_of_ext {l : Fin 36} (hl : l.val < 32) {w0 w1 w2 w3 : Word} (hstep : (s.lane l).step ≠ 7)
    (htele : (s.en 5 0x030 l).testBit 0 = false) (hlive : s.flt.live = []) (hsat : (s.lane l).sat = w0.toNat % 4) :
    ∃ u, OnlyLane s u l (s.lane l) ∧ doStatusFrame l w0 w1 w2 w3 (frameCrc 0xA0 (payloadOf [w0, w1, w2, w3])) s =
      u.statusShown l ((s.lane l).status w0 w1 w2 w3 s.t48.toNat)
        { s.gen l with bstWarn := w0.getLsbD 3 && decide (2 ≤ (s.lane l).gen) } (w0.getLsbD 2) := by
  have hreceives := receives_framed s l 0xA0 (payloadOf [w0, w1, w2, w3]) (frameCrc 0xA0 (payloadOf [w0, w1, w2, w3]))
  have honly := hreceives.onlyLane hl
  refine ⟨_, honly, ?_⟩
  rw [doStatusFrame, State.upFrame_of_ok (frameOk_frameCrc (lenOk_payloadOf (by simp))), if_pos hl]
  generalize s.framed _ _ _ _ = u at honly ⊢
  have hself := honly.self
  have hpwm : u.gen l = s.gen l := by
    rw [honly.1]
    rfl
  have hen : u.en 5 0x030 l = s.en 5 0x030 l := by
    rw [honly.1]
    rfl
  have ht48 : u.t48 = s.t48 := by rw [honly.1]
  rw [State.statusExt_of_same (by rwa [honly.flt]) (by rwa [hself]), hself, hpwm, ht48]
  obtain ⟨hlane, hent⟩ := u.statusShown_spec l ((s.lane l).status w0 w1 w2 w3 s.t48.toNat)
    { s.gen l with bstWarn := w0.getLsbD 3 && decide (2 ≤ (s.lane l).gen) } (w0.getLsbD 2)
  generalize u.statusShown _ _ _ _ = v at hlane hent ⊢
  have hbit : (v.en 5 0x030 l).testBit 0 = false := by
    rw [State.en, State.getKey, hent]
    rwa [← State.getKey, ← State.en, hen]
  rw [State.trainStatus_of_not_prof (by rw [hlane]; exact hstep), State.telemetry_of_off hbit]

/-- EDGE_TELE of a satellite is held for the port. -/
theorem onlyLane_edgeTele {l : Fin 36} (hl : l.val < 32) {w0 w1 w2 : Word} (htele : (s.en 5 0x030 l).testBit 1 = false) :
    OnlyLane s (doEdgeTele l w0 w1 w2 (frameCrc 0xA1 (payloadOf [w0, w1, w2])) s) l
      { s.lane l with etdly := w1.setWidth 16, ettrn := w2.setWidth 16 } := by
  have hreceives := receives_framed s l 0xA1 (payloadOf [w0, w1, w2]) (frameCrc 0xA1 (payloadOf [w0, w1, w2]))
  have hset := (hreceives.onlyLane hl).setLane { s.lane l with etdly := w1.setWidth 16, ettrn := w2.setWidth 16 }
  rw [doEdgeTele, State.upFrame_of_ok (frameOk_frameCrc (lenOk_payloadOf (by simp))), if_pos hl, hreceives.lane, BitVec.ofNat_toNat, BitVec.ofNat_toNat]
  rwa [State.telemetry_of_off]
  exact (congrArg (Nat.testBit · 1) (hreceives.en 5 0x030 l)).trans htele

/-- EDGE_TELE of a half-bridge is held in its view. -/
theorem doEdgeTele_of_link {l : Fin 36} {d : Nat} (hl : l.val = 32 + d) {w0 w1 w2 : Word} (hi : w0.toNat / 2 ^ 14 % 4 ≠ 3) :
    ∃ u, Receives s u l ∧ doEdgeTele l w0 w1 w2 (frameCrc 0xA1 (payloadOf [w0, w1, w2])) s = u.setView (3 * d + w0.toNat / 2 ^ 14 % 4)
      { s.view (3 * d + w0.toNat / 2 ^ 14 % 4) with etd := w1.setWidth 16, ett := w2.setWidth 16 } := by
  have hreceives := receives_framed s l 0xA1 (payloadOf [w0, w1, w2]) (frameCrc 0xA1 (payloadOf [w0, w1, w2]))
  have hd : l.val - 32 = d := by omega
  have hview (j : Nat) : (s.framed l 0xA1 (payloadOf [w0, w1, w2]) (frameCrc 0xA1 (payloadOf [w0, w1, w2]))).view j = s.view j := by
    rw [hreceives.1]
    rfl
  refine ⟨_, hreceives, ?_⟩
  rw [doEdgeTele, State.upFrame_of_ok (frameOk_frameCrc (lenOk_payloadOf (by simp))), if_neg (by omega), if_neg hi, hd]
  dsimp only
  rw [hview, BitVec.ofNat_toNat, BitVec.ofNat_toNat]

/-- STATUS of a P-die moves the view of its half-bridge. -/
theorem view_doStatusFrame_link {l : Fin 36} {d : Nat} (hl : l.val = 32 + d) {w0 w1 w2 w3 : Word} (hi : w0.toNat / 2 ^ 22 ≠ 3) (j : Nat) :
    (doStatusFrame l w0 w1 w2 w3 (frameCrc 0xA0 (payloadOf [w0, w1, w2, w3])) s).view j =
      if j = 3 * d + w0.toNat / 2 ^ 22 then (s.view j).status w0 else s.view j := by
  have hreceives := receives_framed s l 0xA0 (payloadOf [w0, w1, w2, w3]) (frameCrc 0xA0 (payloadOf [w0, w1, w2, w3]))
  have hview (j : Nat) : (s.framed l 0xA0 (payloadOf [w0, w1, w2, w3]) (frameCrc 0xA0 (payloadOf [w0, w1, w2, w3]))).view j = s.view j := by
    rw [hreceives.1]
    rfl
  have hmod : w0.toNat / 2 ^ 22 % 4 = w0.toNat / 2 ^ 22 := by
    have := w0.isLt
    omega
  rw [doStatusFrame, State.upFrame_of_ok (frameOk_frameCrc (lenOk_payloadOf (by simp))), if_neg (by omega), if_neg hi, State.view, State.drv_trainStatus,
    ← State.view, hl, State.view_statusLink, ← hl, hmod, hview, hview]
  split
  · rename_i hj
    rw [hj]
  · rfl

/-! ### The statement -/

/-- Settles O35: a kill, an alarm and a frame of telemetry are each read as what they make of one lane, one bank or one half-bridge. -/
theorem alarmsAndTelemetry : Obligations.AlarmsAndTelemetry := by
  intro s l m d w0 w1 w2 w3 x y killed c code fcsA fcsS fcsT i
  have hm := m.isLt
  have hcode (h : Nat) (hc : c = 1 ∨ c = 3 ∨ c = 4) : alarmCode m h c = code := alarmCode_ext hm hc h
  have hcause : BitVec.ofNat 8 c = w0.setWidth 8 := by
    simp only [c]
    exact BitVec.eq_of_toNat_eq (by simp)
  refine ⟨fun b hkill hst hb => ⟨_, exec_laneKill .., laneIs_killLane_ext hm hkill hst hb⟩,
    fun hkill hst => ⟨_, exec_laneKill .., onlyLane_killLane_of_off hkill hst⟩,
    fun hkill => (exec_laneKill ..).trans (congrArg Host.Outcome.next (State.killLane_of_kill hkill)),
    fun hkill hst hfree => ⟨_, exec_laneKill .., State.killLane_link d hkill hst hfree⟩,
    fun hreq hkill => ⟨_, exec_killEnd .., ?_⟩, fun h => (exec_killEnd ..).trans (congrArg Host.Outcome.next (if_pos h)),
    fun hst => (exec_satAlarm ..).trans (congrArg Host.Outcome.next (if_pos hst)), fun hst => ⟨_, exec_satAlarm .., ?_⟩,
    fun hc htele => ⟨fun hnew => ⟨_, exec_alarm .., ?_⟩, fun hlive htaken => ⟨_, exec_alarm .., ?_⟩⟩,
    fun fcs hfcs => ⟨_, exec_alarm .., ?_⟩, fun fcs hpos hsent => ⟨_, exec_alarm .., ?_⟩,
    fun halarm hnone => ⟨_, exec_alarmTimeout .., ?_⟩, fun h => (exec_alarmTimeout ..).trans (congrArg Host.Outcome.next (if_neg ?_)),
    fun hstep htele hlive hsat => ⟨_, exec_statusFrame .., ?_⟩, fun htele => ⟨_, exec_edgeTele .., ?_⟩, fun hpos => ⟨_, exec_edgeTele .., ?_⟩,
    fun hpos => ⟨_, exec_statusFrame .., fun j => ?_⟩, ⟨_, exec_killReceived .., s.bankSafe_spec d⟩⟩
  · rw [doKillEnd, if_neg (by simp [hreq, x, hkill])]
    exact laneIs_setLane (Lane.puts_put { x with kill := false } x.prog _)
  · have hsat : doSatAlarm (m.castLE (by decide)) s = (s.setLane m { y with alarm := true, alarms := min 65535 (y.alarms + 1) }).setSrc (80 + m) true :=
      (if_neg hst).trans (if_pos hm)
    rw [hsat]
    exact ⟨rfl, (onlyLane_setLane ..).withFlt _⟩
  · obtain ⟨u, hu, heq⟩ := doAlarm_of_ext (l := m.castLE (by decide)) (w1 := w1) hm hc htele (hcode · hc)
    rw [heq, ← hcause]
    exact onlyLane_alarm_new (c := c) hu hnew
  · obtain ⟨u, hu, heq⟩ := doAlarm_of_ext (l := m.castLE (by decide)) (w1 := w1) hm hc htele (hcode · hc)
    rw [heq, ← hcause]
    exact onlyLane_alarm_taken (c := c) hu hm hlive htaken
  · exact onlyLane_alarm_wrong (l := m.castLE (by decide)) hm hfcs
  · exact State.alarm_link fcs hpos hsent
  · exact onlyLane_alarmTimeout halarm hnone
  · rintro ⟨halarm, hnone⟩
    rcases h with h | h
    · exact absurd (h.symm.trans halarm) (by decide)
    · exact h hnone
  · obtain ⟨u, hu, heq⟩ := doStatusFrame_of_ext (l := m.castLE (by decide)) (w1 := w1) (w2 := w2) (w3 := w3) hm hstep htele hlive hsat
    rw [heq]
    obtain ⟨honly, hgen, hunconf⟩ := onlyLane_statusShown hu (y.status w0 w1 w2 w3 s.t48.toNat)
      { s.gen m with bstWarn := w0.getLsbD 3 && decide (2 ≤ y.gen) } (w0.getLsbD 2)
    refine ⟨honly, fun j => (hgen j).trans ?_, hunconf⟩
    by_cases hj : j = m.val
    · refine (if_pos hj).trans ?_
      rw [if_pos hj, hj]
    · exact (if_neg hj).trans (if_neg hj).symm
  · exact onlyLane_edgeTele (l := m.castLE (by decide)) hm htele
  · obtain ⟨u, hu, heq⟩ := doEdgeTele_of_link (l := ⟨32 + d.val, by omega⟩) (d := d) (s := s) (w1 := w1) (w2 := w2) rfl hpos
    have hview (j : Nat) : u.view j = s.view j := by
      rw [hu.1]
      rfl
    rw [heq]
    refine ⟨?_, hu.lane, fun j => (State.view_setView ..).trans ?_⟩
    · rw [hu.1]
      rfl
    · rw [hview]
      split
      · rename_i hj
        rw [hj]
      · rfl
  · exact view_doStatusFrame_link (l := ⟨32 + d.val, by omega⟩) (d := d) rfl hpos j

end Sys2Proof.Machine
end

section
/-! SUPPORT. The Volley (R150, R151), the retrains of a lane (R157), and code errors (R136, R156), and the statement on them, settled. -/

namespace Sys2Proof.Machine

variable {s u v : State} {l : Nat}

/-! ### The commands -/

theorem exec_volleyRep (l : Fin 36) (seq : BitVec 6) (r1 s2 t4 : EdgeTime) (fcs : BitVec 16) (s : State) :
    exec (.volleyRep l seq r1 s2 t4 fcs) s = .next (doVolleyRep l seq r1 s2 t4 fcs s) := rfl

theorem exec_volleyMiss (l : Fin 36) (s : State) : exec (.volleyMiss l) s = .next (doVolleyMiss l s) := rfl

theorem exec_retrain (l : Fin 36) (s : State) : exec (.retrain l) s = .next (s.retrainTrigger l) := rfl

theorem exec_laneLost (l : Fin 36) (s : State) : exec (.laneLost l) s = .next (doLaneLost l s) := rfl

theorem exec_laneMisaligned (l : Fin 36) (s : State) : exec (.laneMisaligned l) s = .next (doLaneMisaligned l s) := rfl

theorem exec_laneCodeErr (l : Fin 36) (inFrame : Bool) (g : BitVec 10) (down : Bool) (s : State) :
    exec (.laneCodeErr l inFrame g down) s = .next (doLaneCodeErr l inFrame g down s) := rfl

/-! ### Conditions that a lane's change leaves -/

/-- A fault of a lane stands whatever becomes of the lane's filter. -/
theorem State.mem_live_sdRelease {f code : Nat} (hcode : code < 0x060000) (h : code ∈ s.flt.live) : code ∈ (s.sdRelease f).flt.live := by
  have hsource {s : State} (h : code ∈ s.flt.live) : code ∈ (s.sourceLevel (48 + f) false).flt.live := by
    rw [State.sourceLevel]
    cases hfault : (s.setSrc (48 + f) false).srcFault (48 + f) with
    | none => exact State.mem_live_condOff.2 ⟨h, by split <;> omega⟩
    | some c =>
      refine State.mem_live_condOff.2 ⟨h, ?_⟩
      rw [State.srcFault] at hfault
      split at hfault
      · cases hfault
        split <;> omega
      · cases hfault
  rw [State.sdRelease]
  split
  · exact h
  · rw [State.sdSource]
    split
    · exact h
    · exact hsource (s := (s.setSd f { s.sd f with run := 0 }).setSd f { (s.setSd f { s.sd f with run := 0 }).sd f with oc := false }) h

theorem State.mem_live_laneTo {code : Nat} (hcode : code < 0x060000) (h : code ∈ s.flt.live) (st : LaneSt) : code ∈ (s.laneTo l st).flt.live := by
  unfold State.laneTo
  extract_lets x
  have hraised : code ∈ ((s.setLane l { x with st := st }).whenS (x.st != st) (·.raiseEv (laneEv l))).flt.live := by
    rw [State.proj_whenS (·.flt) (f := (·.raiseEv (laneEv l))) (fun _ => rfl)]
    exact h
  generalize (s.setLane l { x with st := st }).whenS _ _ = u at hraised ⊢
  rcases u.whenS_cases (decide (l < 32)) (·.sdRelease l) with ⟨-, hw⟩ | ⟨-, hw⟩ <;> rw [hw]
  · exact State.mem_live_sdRelease hcode hraised
  · exact hraised

/-! ### Retrains (R157) -/

/-- RESUME_NEEDED of a lane's generators changes the lane itself in that alone. -/
theorem State.needResume_spec (s : State) (l : Nat) : (s.needResume l).flt = s.flt ∧ (∀ j, j ≠ l → (s.needResume l).lane j = s.lane j) ∧
    (s.needResume l).lane l = (if l < 32 then { s.lane l with resumeNeeded := true } else s.lane l) := by
  by_cases hl : l < 32
  · rw [State.needResume_of_ext hl, if_pos hl]
    exact ⟨rfl, fun j hj => State.lane_setLane_ne hj .., State.lane_setLane_self ..⟩
  · obtain ⟨d, rfl⟩ : ∃ d, l = 32 + d := ⟨l - 32, by omega⟩
    obtain ⟨-, hframe⟩ := State.needResume_link_spec d s
    rw [if_neg hl, hframe]
    exact ⟨rfl, fun _ _ => rfl, rfl⟩

/-- The end of a lane's transmission keeps its counts of retrains. -/
theorem State.killSent_spec (h : (s.lane l).st ≠ .off) : (s.killSent l).flt = s.flt ∧ (∀ j, j ≠ l → (s.killSent l).lane j = s.lane j) ∧
    ((s.killSent l).lane l).autoAt = (s.lane l).autoAt ∧ ((s.killSent l).lane l).retrains = (s.lane l).retrains ∧
    (l < 32 → ((s.killSent l).lane l).resumeNeeded = true) := by
  have hkill (z : Lane) (b : Bool) : (z.emptied.kill28 b).autoAt = z.autoAt ∧ (z.emptied.kill28 b).retrains = z.retrains := by
    cases b <;> exact ⟨rfl, rfl⟩
  have hsent : ∃ y : Lane, y.autoAt = (s.lane l).autoAt ∧ y.retrains = (s.lane l).retrains ∧ s.killSent l = (s.setLane l y).needResume l := by
    by_cases hp : ∃ p, s.inSend l = some p ∧ 5 ≤ p.level
    · obtain ⟨p, hp, hlevel⟩ := hp
      obtain ⟨hauto, hretrains⟩ := hkill ((s.lane l).unsend p) (s.flt.static.getLsbD l)
      refine ⟨_, hauto.trans ?_, hretrains.trans ?_, State.killSent_of_lower h hp hlevel⟩ <;> rw [Lane.unsend_frame]
    · obtain ⟨hauto, hretrains⟩ := hkill (s.lane l) (s.flt.static.getLsbD l)
      have hfree (p : Sending) (hs : s.inSend l = some p) : p.level < 5 := Nat.lt_of_not_le fun hlevel => hp ⟨p, hs, hlevel⟩
      exact ⟨_, hauto, hretrains, State.killSent_of_free h hfree⟩
  obtain ⟨y, hauto, hretrains, hy⟩ := hsent
  obtain ⟨hflt, hother, hself⟩ := State.needResume_spec (s.setLane l y) l
  rw [State.lane_setLane_self] at hself
  rw [hy, hself]
  refine ⟨hflt, fun j hj => (hother j hj).trans (State.lane_setLane_ne hj s _), ?_, ?_, fun hl => ?_⟩
  · split <;> exact hauto
  · split <;> exact hretrains
  · rw [if_pos hl]

/-- A retrain has begun on lane `l`. -/
structure RetrainBegun (s u : State) (l : Nat) : Prop where
  st : (u.lane l).st = .retraining
  vlock : (u.lane l).vlock = 0
  resume : l < 32 → (u.lane l).resumeNeeded = true
  qEdge : (u.lane l).qEdge = []
  retrains : (u.lane l).retrains = min 65535 ((s.lane l).retrains + 1)
  autoAt : (u.lane l).autoAt = (s.lane l).autoAt
  others : ∀ j, j ≠ l → u.lane j = s.lane j
  reported : l < 32 → ⟨0x040003 + 256 * l, false⟩ ∈ u.flt.reports
  live : ∀ code < 0x060000, code ∈ s.flt.live → code ∈ u.flt.live

/-- The lane of a retrain before it goes to RETRAINING: nothing is left of its queues and of its training. -/
def Lane.restarted (x : Lane) : Lane :=
  { x.flush with vlock := 0, step := 0, answered := false, cfgNow := 0, retrains := min 65535 (x.retrains + 1) }

theorem State.retrainBegin_eq (s : State) (l : Nat) : s.retrainBegin l =
    ((((s.killSent l).setLane l ((s.killSent l).lane l).restarted).laneTo l .retraining).linkWakes l).report
      (if l < 32 then 0x040003 + 256 * l else 0x040020 + 256 * l) := rfl

theorem State.linkWakes_frame (s : State) (l : Nat) : (s.linkWakes l).lanes = s.lanes ∧ (s.linkWakes l).flt = s.flt := by
  rw [State.linkWakes]
  split <;> exact ⟨rfl, rfl⟩

theorem retrainBegun_retrainBegin (h : (s.lane l).st ≠ .off) : RetrainBegun s (s.retrainBegin l) l := by
  obtain ⟨hflt, hother, hauto, hretrains, hresume⟩ := State.killSent_spec h
  rw [State.retrainBegin_eq]
  generalize s.killSent l = v at hflt hother hauto hretrains hresume ⊢
  have hlane (j : Nat) : ((v.setLane l (v.lane l).restarted).laneTo l .retraining).lane j =
      if j = l then { (v.lane l).restarted with st := .retraining } else v.lane j := by
    rw [State.lane_laneTo, State.lane_setLane_self]
    split
    · rfl
    · rename_i hj
      exact State.lane_setLane_ne hj v _
  have hlive (code : Nat) (hc : code < 0x060000) (hm : code ∈ s.flt.live) : code ∈ ((v.setLane l (v.lane l).restarted).laneTo l .retraining).flt.live :=
    State.mem_live_laneTo hc (by rw [← hflt] at hm; exact hm) _
  generalize (v.setLane l (v.lane l).restarted).laneTo l .retraining = w at hlane hlive ⊢
  obtain ⟨hlanes, hwflt⟩ := w.linkWakes_frame l
  generalize w.linkWakes l = r at hlanes hwflt ⊢
  have hr (j : Nat) : r.lane j = if j = l then { (v.lane l).restarted with st := .retraining } else v.lane j := by
    rw [← hlane j, State.lane, hlanes, State.lane]
  have hself : r.lane l = { (v.lane l).restarted with st := .retraining } := (hr l).trans (if_pos rfl)
  refine ⟨?_, ?_, fun hl => ?_, ?_, ?_, ?_, fun j hj => ?_, fun hl => ?_, fun code hc hm => ?_⟩
  · exact congrArg Lane.st hself
  · exact congrArg Lane.vlock hself
  · exact (congrArg Lane.resumeNeeded hself).trans (hresume hl)
  · exact congrArg Lane.qEdge hself
  · exact (congrArg Lane.retrains hself).trans (congrArg (fun n => min 65535 (n + 1)) hretrains)
  · exact (congrArg Lane.autoAt hself).trans hauto
  · exact (hr j).trans ((if_neg hj).trans (hother j hj))
  · rw [if_pos hl]
    exact List.mem_append_right _ (List.mem_singleton_self _)
  · have hlives := hlive code hc hm
    rw [← hwflt] at hlives
    exact hlives

/-- The job of a retrain is beside the lanes. -/
theorem State.startOwnJob_frame (s : State) (kind : JobKind) (arg : Nat) (data : List Word) (n expect key : Nat) :
    (s.startOwnJob kind arg data n expect key).lanes = s.lanes ∧ (s.startOwnJob kind arg data n expect key).flt = s.flt := by
  have hput (s : State) (a e i v : Nat) : (s.put a e i v).lanes = s.lanes ∧ (s.put a e i v).flt = s.flt := ⟨rfl, rfl⟩
  rw [State.startOwnJob]
  split
  · simp only [State.startJob, hput, and_self]
  · exact ⟨rfl, rfl⟩

theorem RetrainBegun.of_frame (h : RetrainBegun s u l) (hlanes : v.lanes = u.lanes) (hflt : v.flt = u.flt) : RetrainBegun s v l := by
  have hlane (j : Nat) : v.lane j = u.lane j := congrArg (fun x : Lanes => Tab.get (fun _ => Lane.reset) x.lane j) hlanes
  constructor
  · rw [hlane]; exact h.st
  · rw [hlane]; exact h.vlock
  · rw [hlane]; exact h.resume
  · rw [hlane]; exact h.qEdge
  · rw [hlane]; exact h.retrains
  · rw [hlane]; exact h.autoAt
  · exact fun j hj => (hlane j).trans (h.others j hj)
  · rw [hflt]; exact h.reported
  · rw [hflt]; exact h.live

theorem retrainBegun_retrainOwn (h : (s.lane l).st ≠ .off) : RetrainBegun s (s.retrainOwn l) l := by
  obtain ⟨hlanes, hflt⟩ := (s.retrainBegin l).startOwnJob_frame .retrain l [] 0 8 (mkKey 5 0x012 l)
  exact (retrainBegun_retrainBegin h).of_frame hlanes hflt

/-- The retrains of lane `l` within the last second. -/
def State.recentRetrains (s : State) (l : Nat) : List Nat := (s.lane l).autoAt.filter (fun a => decide (s.since a < 400000000))

/-- The lane retrains by itself: it is ACTIVE, and an external lane has AUTO_RETRAIN set. -/
def State.retrainsItself (s : State) (l : Nat) : Prop := (s.lane l).st = .active ∧ ¬ (l < 32 ∧ s.en 5 0x01C l = 0)

theorem State.retrainTrigger_of_not (h : ¬ s.retrainsItself l) : s.retrainTrigger l = s := by
  refine if_pos ?_
  by_contra hc
  obtain ⟨hst, hen⟩ := not_or.1 hc
  exact h ⟨not_not.1 hst, hen⟩

theorem State.retrainTrigger_of_many (h : s.retrainsItself l) (hmany : 3 ≤ (s.recentRetrains l).length) : s.retrainTrigger l =
    ((s.setLane l ({ (s.lane l).flush with vlock := 0, autoAt := s.recentRetrains l, locked := true }.put [.special .comma])).laneTo l .failed).condOn
      ((if l < 32 then 0x040005 else 0x040021) + 256 * l) := by
  obtain ⟨hst, hen⟩ := h
  exact (if_neg (not_or.2 ⟨not_not.2 hst, hen⟩)).trans (if_pos hmany)

theorem State.retrainTrigger_of_few (h : s.retrainsItself l) (hfew : (s.recentRetrains l).length < 3) :
    s.retrainTrigger l = (s.setLane l { s.lane l with autoAt := s.t48.toNat :: s.recentRetrains l }).retrainOwn l := by
  obtain ⟨hst, hen⟩ := h
  exact (if_neg (not_or.2 ⟨not_not.2 hst, hen⟩)).trans (if_neg (Nat.not_le.2 hfew))

/-- A fourth retrain within a second fails the lane. -/
theorem State.retrainTrigger_fails (h : s.retrainsItself l) (hmany : 3 ≤ (s.recentRetrains l).length) :
    ((s.retrainTrigger l).lane l).st = .failed ∧ ((s.retrainTrigger l).lane l).vlock = 0 ∧
    (∀ j, j ≠ l → (s.retrainTrigger l).lane j = s.lane j) ∧ (l < 32 → 0x040005 + 256 * l ∈ (s.retrainTrigger l).flt.live) ∧
    ∀ code < 0x060000, code ∈ s.flt.live → code ∈ (s.retrainTrigger l).flt.live := by
  rw [State.retrainTrigger_of_many h hmany]
  generalize hy : Lane.put _ [LChar.special .comma] = y
  have hy0 : y.vlock = 0 := hy ▸ rfl
  have hlane (j : Nat) : ((s.setLane l y).laneTo l .failed).lane j = if j = l then { y with st := .failed } else s.lane j := by
    rw [State.lane_laneTo, State.lane_setLane_self]
    split
    · rfl
    · rename_i hj
      exact State.lane_setLane_ne hj s _
  have hlive (code : Nat) (hc : code < 0x060000) (hm : code ∈ s.flt.live) : code ∈ ((s.setLane l y).laneTo l .failed).flt.live :=
    State.mem_live_laneTo hc (by exact hm) _
  generalize (s.setLane l y).laneTo l .failed = v at hlane hlive ⊢
  have hon (code : Nat) : (v.condOn code).lane = v.lane := funext (collects_condOn v code).lane
  rw [hon, hlane, if_pos rfl]
  refine ⟨rfl, hy0, fun j hj => (hlane j).trans (if_neg hj), fun hl => ?_, fun code hc hm => ?_⟩
  · rw [if_pos hl]
    exact State.mem_live_condOn ..
  · rcases v.condOn_cases ((if l < 32 then 0x040005 else 0x040021) + 256 * l) with ⟨-, he⟩ | ⟨-, he⟩ <;> rw [he]
    · exact hlive code hc hm
    · exact List.mem_append_left _ (hlive code hc hm)

/-- Another retrain begins. -/
theorem State.retrainTrigger_begins (h : s.retrainsItself l) (hfew : (s.recentRetrains l).length < 3) :
    RetrainBegun (s.setLane l { s.lane l with autoAt := s.t48.toNat :: s.recentRetrains l }) (s.retrainTrigger l) l := by
  have hst := h.1
  rw [State.retrainTrigger_of_few h hfew]
  refine retrainBegun_retrainOwn ?_
  rw [State.lane_setLane_self]
  exact fun hoff => absurd (hst.symm.trans hoff) (by decide)

/-! ### The Volley (R150, R151) -/

theorem half_eq (x : Int) : half x = Int.tdiv x 2 := by
  rw [half]
  split
  · rename_i h
    exact (Int.tdiv_eq_ediv_of_nonneg h).symm
  · rename_i h
    rw [← Int.tdiv_eq_ediv_of_nonneg (by omega), Int.neg_tdiv, neg_neg]

/-- The delay of the path that an exchange measures. -/
def pathDelay (t1 r1 s2 t4 : EdgeTime) : Int := half ((t4 - t1).toInt - (s2 - r1).toInt)

/-- The offset of the far clock that an exchange measures. -/
def pathOffset (t1 r1 s2 t4 : EdgeTime) : Int := (r1 - t1).toInt - pathDelay t1 r1 s2 t4

/-- A lane whose exchange has measured a delay: PATH_DELAY is the mean of the last eight. -/
def Lane.measured (x : Lane) (d : Int) : Lane := { x with
  t1 := none, miss := 0, delays := (d :: x.delays).take 8
  pathD := if ((d :: x.delays).take 8).length = 8 then (sumInt ((d :: x.delays).take 8)).tdiv 8 else x.pathD }

/-- A LOCKING lane whose exchange has measured a delay and an offset: a large offset is corrected, and counting begins again (R151). -/
def Lane.lockStep (x : Lane) (d th : Int) : Lane :=
  let small := decide (th.natAbs ≤ 2)
  { x.measured d with
    exchanges := x.exchanges + 1, good := if small then x.good + 1 else 0, thetas := (th :: x.thetas).take 8, alone := if small then x.alone - 1 else 8
    qAdj := if small then x.qAdj else x.qAdj ++ [timeAdj (-th)] }

theorem State.volleyRep_of_none (h : (s.lane l).t1 = none) (seq : BitVec 6) (r1 s2 t4 : EdgeTime) : s.volleyRep l seq r1 s2 t4 = s := by
  simp only [State.volleyRep, h]

section
variable {t1 : EdgeTime} (ht1 : (s.lane l).t1 = some t1) (r1 s2 t4 : EdgeTime)
include ht1

theorem State.volleyRep_of_locking (hlock : (s.lane l).vlock = 1) {y : Lane}
    (hy : (s.lane l).lockStep (pathDelay t1 r1 s2 t4) (pathOffset t1 r1 s2 t4) = y) :
    s.volleyRep l (s.lane l).vseq r1 s2 t4 =
      if 8 ≤ y.good then s.setLane l { y with vlock := 2, bad := 0, answered := (s.lane l).answered || (s.lane l).step == 5, resid := sumInt y.thetas }
      else if 64 ≤ y.exchanges then (s.setLane l y).trainFail l 5
      else s.setLane l y := by
  unfold State.volleyRep
  extract_lets x
  split
  · rename_i hnone
    exact absurd (hnone.symm.trans ht1) nofun
  · rename_i t hsome
    obtain rfl : t = t1 := Option.some.inj (hsome.symm.trans ht1)
    rw [if_neg (not_not.2 rfl)]
    extract_lets d th ds _ small g z
    rw [if_pos hlock]
    obtain rfl : y = z := hy.symm
    have hg : z.good = g := rfl
    rw [hg]

theorem State.volleyRep_of_locked (hlock : (s.lane l).vlock = 2) : ∃ y : Lane, y.vlock = 2 ∧
    y.bad = (if 8 < (pathOffset t1 r1 s2 t4).natAbs then (s.lane l).bad + 1 else 0) ∧
    s.volleyRep l (s.lane l).vseq r1 s2 t4 = if 3 ≤ y.bad then (s.setLane l y).volleyLoss l else s.setLane l y := by
  generalize hrep : s.volleyRep l (s.lane l).vseq r1 s2 t4 = u
  unfold State.volleyRep at hrep
  extract_lets x at hrep
  split at hrep
  · rename_i hnone
    exact absurd (hnone.symm.trans ht1) nofun
  · rename_i t hsome
    obtain rfl : t = t1 := Option.some.inj (hsome.symm.trans ht1)
    rw [if_neg (not_not.2 rfl)] at hrep
    extract_lets d th ds _ _ _ _ bad ths full adj y at hrep
    have hunlocked : x.vlock ≠ 1 := by
      rw [hlock]
      decide
    rw [if_neg hunlocked, if_pos hlock] at hrep
    have hy : y.vlock = 2 ∧ y.bad = bad := by
      unfold y
      split <;> exact ⟨hlock, rfl⟩
    refine ⟨y, hy.1, hy.2, ?_⟩
    rw [hy.2]
    exact hrep.symm

end

/-- After a loss the lane is not locked, and an external one shows it. -/
def VolleyLost (u : State) (l : Nat) : Prop := (u.lane l).vlock = 0 ∧ (l < 32 → 0x040004 + 256 * l ∈ u.flt.live)

/-- A trigger leaves a loss as it is, whatever it makes of the lane. -/
theorem VolleyLost.retrainTrigger (h : VolleyLost s l) (hl : l < 36) : VolleyLost (s.retrainTrigger l) l := by
  obtain ⟨hlock, hlive⟩ := h
  by_cases hself : s.retrainsItself l
  · by_cases hfew : (s.recentRetrains l).length < 3
    · have hbegun := State.retrainTrigger_begins hself hfew
      exact ⟨hbegun.vlock, fun hext => hbegun.live _ (by omega) (hlive hext)⟩
    · obtain ⟨-, hlock', -, -, hlive'⟩ := State.retrainTrigger_fails hself (Nat.not_lt.1 hfew)
      exact ⟨hlock', fun hext => hlive' _ (by omega) (hlive hext)⟩
  · rw [State.retrainTrigger_of_not hself]
    exact ⟨hlock, hlive⟩

theorem volleyLost_volleyLoss (hl : l < 36) (s : State) : VolleyLost (s.volleyLoss l) l := by
  unfold State.volleyLoss
  extract_lets x s1 s2
  refine VolleyLost.retrainTrigger ?_ hl
  have h1 : (s1.lane l).vlock = 0 := congrArg Lane.vlock (State.lane_setLane_self ..)
  unfold s2
  split
  · rename_i hext
    exact ⟨((collects_condOn s1 _).lane l).symm ▸ h1, fun _ => State.mem_live_condOn ..⟩
  · rename_i hext
    exact ⟨h1, fun h => absurd h hext⟩

/-- A small offset counts. -/
theorem Lane.lockStep_small {th : Int} (h : th.natAbs ≤ 2) (x : Lane) (d : Int) : x.lockStep d th = { x.measured d with
    exchanges := x.exchanges + 1, good := x.good + 1, thetas := (th :: x.thetas).take 8, alone := x.alone - 1 } := by
  simp only [Lane.lockStep, h, decide_true, if_true]
  rfl

/-- A large one is corrected. -/
theorem Lane.lockStep_large {th : Int} (h : 2 < th.natAbs) (x : Lane) (d : Int) : x.lockStep d th = { x.measured d with
    exchanges := x.exchanges + 1, good := 0, thetas := (th :: x.thetas).take 8, alone := 8, qAdj := x.qAdj ++ [timeAdj (-th)] } := by
  simp only [Lane.lockStep, decide_eq_false (Nat.not_le.2 h), Bool.false_eq_true, if_false]

/-- The report of an exchange arrives. -/
theorem doVolleyRep_eq (l : Fin 36) (seq : BitVec 6) (r1 s2 t4 : EdgeTime) (s : State) : ∃ u, Receives s u l ∧
    doVolleyRep l seq r1 s2 t4 (frameCrc 0xA3 (payloadOf [seq.setWidth 24, r1.setWidth 24,
      BitVec.ofNat 24 (65536 * (r1.toNat / 2 ^ 24) + 256 * (s2.toNat / 2 ^ 24)), s2.setWidth 24])) s = u.volleyRep l seq r1 s2 t4 := by
  have hword : fields 24 [(r1.toNat / 2 ^ 24, 16), (s2.toNat / 2 ^ 24, 8)] =
      BitVec.ofNat 24 (65536 * (r1.toNat / 2 ^ 24) + 256 * (s2.toNat / 2 ^ 24)) := by
    simp [fields, Nat.mul_comm]
  rw [doVolleyRep, hword, State.upFrame_of_ok (frameOk_frameCrc (lenOk_payloadOf (by simp)))]
  exact ⟨_, receives_framed .., rfl⟩

/-! ### Code errors (R136, R156) -/

/-- Outside a frame a group that is no character completes nothing. -/
theorem Asm.take_unreadable {a : Asm} (h : a.frame = none) : (a.take false none).2 = .none ∨ (a.take false none).2 = .discarded := by
  simp only [Asm.take, h]
  split
  · exact .inr rfl
  · exact .inl rfl

/-- A group in a payload slot that is no character, outside a frame: a code error, and the receiver moves on. -/
theorem State.upGroup_of_unreadable {l : Fin 36} {g : BitVec 10} (hkind : (s.rx l).kind (decide (32 ≤ l.val)) (s.lane l).gen = .payload)
    (hframe : (s.rx l).asm.frame = none) (hread : readGroup (s.rx l).rd g = none) :
    ∃ y z : Rx, s.upGroup l g = ((s.setRx l y).codeError l).setRx l z := by
  generalize hup : s.upGroup l g = w
  unfold State.upGroup at hup
  extract_lets x kind c y v r _ v2 bad v3 at hup
  have hc : c = none := hread
  have hk : kind = .payload := hkind
  have hv : v = (s.setRx l y).codeError l := if_pos (by rw [hc]; rfl)
  clear_value v c kind
  subst hc hk
  have hnone : ¬ (r.2 == .discarded && x.asm.frame.isSome) = true := by simp [x, hframe]
  have h3 : v3 = v2 := if_neg (by simp [bad])
  have hlost : (v3.whenS (r.2 == .discarded && x.asm.frame.isSome) (·.upLost l)) = v2 := (if_neg hnone).trans h3
  refine ⟨y, { v.rx l with asm := r.1 }, hup.symm.trans ?_⟩
  rw [hlost, ← hv]
  rcases Asm.take_unreadable (a := x.asm) hframe with hr | hr
  · rw [show r.2 = .none from hr]
    rfl
  · rw [show r.2 = .discarded from hr]
    rfl

theorem State.limited_frame (s : State) (code : Nat) : s.limited code =
    { s with flt := { s.flt with reports := (s.limited code).flt.reports, lastAt := (s.limited code).flt.lastAt } } := by
  rw [State.limited]
  rcases s.every_cases code 400000 with h | ⟨_, h⟩ <;> rw [h]

/-- The code errors of lane `l` within the last millisecond, with one of now. -/
def State.recentErrors (s : State) (l : Nat) : List Nat := s.t48.toNat :: (s.lane l).codeAt.filter (fun a => decide (s.since a < 400000))

/-- A lane with one code error more. -/
def Lane.withError (x : Lane) : Lane := { x with codeErr := min 0xFFFFFF (x.codeErr + 1) }

theorem State.codeError_of_active (hst : (s.lane l).st = .active) (hfew : (s.recentErrors l).length < 16) :
    s.codeError l = (s.setLane l { (s.lane l).withError with codeAt := s.recentErrors l }).limited (0x040008 + 256 * l) := by
  have hmany : decide (16 ≤ (s.recentErrors l).length) = false := decide_eq_false (Nat.not_le.2 hfew)
  unfold State.codeError
  extract_lets x y recent many s1
  have hm : many = false := hmany
  clear_value many
  subst hm
  exact if_pos hst

theorem State.codeError_of_test (hst : (s.lane l).st ≠ .active) (hstep : (s.lane l).step = 4) :
    s.codeError l = (s.setLane l (s.lane l).withError).trainFail l 4 := (if_neg hst).trans (if_pos hstep)

theorem State.codeError_of_other (hst : (s.lane l).st ≠ .active) (hstep : (s.lane l).step ≠ 4) :
    s.codeError l = s.setLane l (s.lane l).withError := (if_neg hst).trans (if_neg hstep)

/-- An unreadable group outside a frame in a payload slot (R136). -/
def State.unreadable (s : State) (l : Nat) (g : BitVec 10) : Prop :=
  (s.rx l).kind (decide (32 ≤ l)) (s.lane l).gen = .payload ∧ (s.rx l).asm.frame = none ∧ readGroup (s.rx l).rd g = none

/-- It is a code error of the lane, and no more where no frame is under way. -/
theorem doLaneCodeErr_of_unreadable {l : Fin 36} {g : BitVec 10} (h : s.unreadable l g) :
    ∃ y z : Rx, doLaneCodeErr l false g false s = ((s.setRx l y).codeError l).setRx l z := by
  obtain ⟨hkind, hframe, hread⟩ := h
  exact State.upGroup_of_unreadable hkind hframe hread

/-- Of a receiver that moves on before and after its lane changed the lane shows nothing. -/
theorem onlyLane_setRx_setLane (s : State) (l : Nat) (x : Lane) (y z : Rx) : OnlyLane s (((s.setRx l y).setLane l x).setRx l z) l x :=
  ⟨rfl, fun _ => State.lane_setLane ..⟩

theorem onlyLane_codeErr_active {l : Fin 36} {g : BitVec 10} (h : s.unreadable l g) (hst : (s.lane l).st = .active)
    (hfew : (s.recentErrors l).length < 16) :
    OnlyLane { s with flt := { s.flt with reports := (doLaneCodeErr l false g false s).flt.reports, lastAt := (doLaneCodeErr l false g false s).flt.lastAt } }
      (doLaneCodeErr l false g false s) l { (s.lane l).withError with codeAt := s.recentErrors l } := by
  obtain ⟨y, z, heq⟩ := doLaneCodeErr_of_unreadable h
  have hcode : (s.setRx l y).codeError l = ((s.setRx l y).setLane l { (s.lane l).withError with codeAt := s.recentErrors l }).limited (0x040008 + 256 * l) :=
    State.codeError_of_active (s := s.setRx l y) hst hfew
  have hset := onlyLane_setRx_setLane s l { (s.lane l).withError with codeAt := s.recentErrors l } y z
  have hlimited := State.limited_frame ((s.setRx l y).setLane l { (s.lane l).withError with codeAt := s.recentErrors l }) (0x040008 + 256 * l)
  have hflt : ((s.setRx l y).setLane l { (s.lane l).withError with codeAt := s.recentErrors l }).flt = s.flt := rfl
  rw [heq, hcode]
  generalize (s.setRx l y).setLane l { (s.lane l).withError with codeAt := s.recentErrors l } = v at hset hlimited hflt ⊢
  generalize v.limited (0x040008 + 256 * l) = w at hlimited ⊢
  rw [hflt] at hlimited
  have hwith := hset.withFlt { s.flt with reports := w.flt.reports, lastAt := w.flt.lastAt }
  rw [hlimited]
  exact hwith

theorem onlyLane_codeErr_other {l : Fin 36} {g : BitVec 10} (h : s.unreadable l g) (hst : (s.lane l).st ≠ .active) (hstep : (s.lane l).step ≠ 4) :
    OnlyLane s (doLaneCodeErr l false g false s) l (s.lane l).withError := by
  obtain ⟨y, z, heq⟩ := doLaneCodeErr_of_unreadable h
  rw [heq, State.codeError_of_other (s := s.setRx l y) hst hstep]
  exact onlyLane_setRx_setLane ..

theorem trainingFails_codeErr {l : Fin 36} {g : BitVec 10} (h : s.unreadable l g) (hst : (s.lane l).st ≠ .active) (hstep : (s.lane l).step = 4) :
    TrainingFails (doLaneCodeErr l false g false s) l 4 := by
  obtain ⟨y, z, heq⟩ := doLaneCodeErr_of_unreadable h
  have hfails : TrainingFails ((s.setRx l y).codeError l) l 4 := by
    rw [State.codeError_of_test (s := s.setRx l y) hst hstep]
    exact (State.trainFail_spec ..).1
  rw [heq]
  generalize (s.setRx l y).codeError l = v at hfails ⊢
  exact hfails

/-- The frame at the head of a P-die's queue leaves with the characters that spoil it. -/
theorem State.upPop_of_head {k : Nat} {f : Frame} {r : List Frame} (hup : (s.dl k).up = f :: r) :
    ((s.upPop (32 + k) f.ty).dl k).up = r ∧ ∀ j, (s.upPop (32 + k) f.ty).lane j = s.lane j := by
  have hk : 32 + k - 32 = k := by omega
  have hfind : (s.dl k).up.find? (fun f' => f'.ty == f.ty) = some f := by simp [hup]
  rw [State.upPop, if_neg (by omega), hk]
  dsimp only
  rw [hfind]
  refine ⟨?_, fun _ => rfl⟩
  dsimp only
  rw [State.dl_setDl_self]
  simp [DLane.put, hup]

/-- A frame under way that an error spoils is lost. -/
theorem State.codeErr_of_frame {l : Fin 36} {g : BitVec 10} {k : Nat} {f : Frame} {r : List Frame} (h : s.unreadable l g) (hst : (s.lane l).st ≠ .active)
    (hstep : (s.lane l).step ≠ 4) (hl : l.val = 32 + k) (hup : (s.dl k).up = f :: r) (hty : f.ty ≠ 0xA2) :
    ((doLaneCodeErr l true g false s).lane l).codeErr = min 0xFFFFFF ((s.lane l).codeErr + 1) ∧ ((doLaneCodeErr l true g false s).dl k).up = r := by
  have honly := onlyLane_codeErr_other h hst hstep
  obtain ⟨-, hframe, hread⟩ := h
  have hlost : (true && decide (32 ≤ l.val) && readGroup (s.rx l).rd g == none && (s.rx l).asm.frame.isNone) = true := by
    simp [hread, hframe, (by omega : 32 ≤ l.val)]
  have heq : doLaneCodeErr l true g false s = (doLaneCodeErr l false g false s).upLost l := if_pos hlost
  generalize doLaneCodeErr l false g false s = v at honly heq
  have hdl : (v.dl k).up = f :: r := by
    rw [honly.1]
    exact hup
  have hself := honly.self
  have hk : 32 + k - 32 = k := by omega
  have hpop : v.upLost l = v.upPop (32 + k) f.ty := by
    rw [State.upLost, if_neg (by omega), hl, hk, hdl]
    exact congrArg (fun u : State => u.upPop (32 + k) f.ty) (if_neg hty)
  obtain ⟨hpopped, hlanes⟩ := State.upPop_of_head hdl
  rw [heq, hpop, hlanes, hself]
  exact ⟨rfl, hpopped⟩

/-- A code error at the P-die counts there. -/
theorem State.codeErr_down {l : Fin 36} {k : Fin 4} {g : BitVec 10} (hl : l.val = 32 + k.val) (inFrame : Bool) (hframe : (s.dl k).asm.frame = none)
    (hread : readGroup (s.dl k).rxRd g = none) :
    ∃ x : DLane, x.codeErr = (s.dl k).codeErr + 1 ∧ doLaneCodeErr l inFrame g true s = s.setDl k x := by
  have hk : (⟨l.val - 32, by omega⟩ : Fin 4) = k := Fin.ext (by dsimp only; omega)
  have heq : doLaneCodeErr l inFrame g true s = s.downGroup k g := by
    rw [doLaneCodeErr, if_pos rfl, dif_pos (by omega), hk]
  rw [heq]
  generalize hdown : s.downGroup k g = w
  unfold State.downGroup at hdown
  extract_lets x c r v at hdown
  have hc : c = none := hread
  clear_value c
  subst hc
  have hw : w = v := by
    refine hdown.symm.trans ?_
    rcases Asm.take_unreadable (a := x.asm) hframe with hr | hr
    · rw [show r.2 = .none from hr]
    · rw [show r.2 = .discarded from hr]
  exact ⟨_, by exact rfl, hw⟩

/-! ### The statement -/

/-- The lane is the one that changed. -/
theorem Receives.laneTakes_self (h : Receives s u l) (x : Lane) : LaneTakes s (u.setLane l x) l ((u.setLane l x).lane l) := by
  rw [State.lane_setLane_self]
  exact h.laneTakes_setLane x

theorem doVolleyMiss_of_locked {l : Fin 36} (ht1 : (s.lane l).t1 ≠ none) (hlock : (s.lane l).vlock = 2) : doVolleyMiss l s =
    if 3 ≤ (s.lane l).miss + 1 then (s.setLane l { s.lane l with t1 := none, miss := (s.lane l).miss + 1 }).volleyLoss l
    else s.setLane l { s.lane l with t1 := none, miss := (s.lane l).miss + 1 } := (if_neg ht1).trans (if_pos hlock)


/-- Two slots without a comma are a trigger, once the receiver has noted them. -/
theorem doLaneMisaligned_eq (l : Fin 36) (s : State) : ∃ x y : Rx, doLaneMisaligned l s = ((s.setRx l x).setRx l y).retrainTrigger l := by
  have hself : (s.setRx l { s.rx l with commas := [false] }).rx l = { s.rx l with commas := [false] } := (State.rx_setRx ..).trans (if_pos rfl)
  rw [doLaneMisaligned, State.commaSeen, hself]
  exact ⟨_, _, rfl⟩

/-- A trigger in whatever form it comes: a request, a loss, or two slots without a comma. -/
theorem retrain_of_trigger {l : Fin 36} {c : Instr} (hc : c = .retrain l ∨ c = .laneLost l ∨ c = .laneMisaligned l) (hst : (s.lane l).st = .active)
    (hl : l.val < 32) : ∃ v : State, exec c s = .next (v.retrainTrigger l) ∧ v.lane = s.lane ∧ v.ent = s.ent ∧ v.t48 = s.t48 ∧
      (c = .laneLost l → 0x040002 + 256 * l.val ∈ v.flt.live) := by
  rcases hc with rfl | rfl | rfl
  · exact ⟨s, exec_retrain .., rfl, rfl, rfl, nofun⟩
  · have hlost : doLaneLost l s = (s.condOn (0x040002 + 256 * l)).retrainTrigger l := by
      rw [doLaneLost, if_pos hst, if_pos hl]
    refine ⟨_, (exec_laneLost ..).trans (congrArg Host.Outcome.next hlost), funext (collects_condOn ..).lane, ?_, ?_, fun _ => State.mem_live_condOn ..⟩ <;>
      rw [State.condOn_flt]
  · obtain ⟨x, y, heq⟩ := doLaneMisaligned_eq l s
    exact ⟨_, (exec_laneMisaligned ..).trans (congrArg Host.Outcome.next heq), rfl, rfl, rfl, nofun⟩

/-- Settles O34: the report of an exchange steps the Volley, a trigger begins a retrain or fails the lane, and a group that is no character counts. -/
theorem volleysAndRetrains : Obligations.VolleysAndRetrains := by
  intro s l r1 s2 t1 t4 c bits inFrame x n d th fcs rep ds mean recent errs rx bad lost
  obtain ⟨u, hu, hrep⟩ := doVolleyRep_eq l x.vseq r1 s2 t4 s
  have hx : u.lane l = x := hu.lane l
  have hanswers (P : State → Prop) (h : P (u.volleyRep l x.vseq r1 s2 t4)) : Answers rep s P :=
    ⟨_, (exec_volleyRep ..).trans (congrArg Host.Outcome.next hrep), h⟩
  have hdelay : pathDelay t1 r1 s2 t4 = d := half_eq n
  have hoffset : pathOffset t1 r1 s2 t4 = th := congrArg ((r1 - t1).toInt - ·) hdelay
  refine ⟨fun hnone => hanswers _ ?_, fun ht1 => ?_, fun hnone => (exec_volleyMiss ..).trans (congrArg Host.Outcome.next (if_pos hnone)), fun hst => ?_,
    fun hst hl hauto hc => ?_, fun hbad hst hfew => ⟨_, exec_laneCodeErr .., onlyLane_codeErr_active hbad hst hfew⟩,
    fun hbad hst hstep => ⟨_, exec_laneCodeErr .., onlyLane_codeErr_other hbad hst hstep⟩,
    fun hbad hst hstep k f r hl hup hty => ⟨_, exec_laneCodeErr .., State.codeErr_of_frame hbad hst hstep hl hup hty⟩,
    fun hbad hst hstep => ⟨_, exec_laneCodeErr .., trainingFails_codeErr hbad hst hstep⟩, fun k hl hframe hread => ⟨_, exec_laneCodeErr .., ?_⟩,
    fun hl => (exec_laneCodeErr ..).trans (congrArg Host.Outcome.next ?_)⟩
  · rw [State.volleyRep_of_none (by rw [hx]; exact hnone)]
    exact hu.laneTakes
  · have hu1 : (u.lane l).t1 = some t1 := by
      rw [hx]
      exact ht1
    have hstep (hlock : x.vlock = 1) {y : Lane} (hy : x.lockStep d th = y) : u.volleyRep l x.vseq r1 s2 t4 =
        if 8 ≤ y.good then u.setLane l { y with vlock := 2, bad := 0, answered := x.answered || x.step == 5, resid := sumInt y.thetas }
        else if 64 ≤ y.exchanges then (u.setLane l y).trainFail l 5 else u.setLane l y := by
      rw [← hx] at hlock hy ⊢
      exact State.volleyRep_of_locking hu1 r1 s2 t4 hlock (by rw [hdelay, hoffset, hy])
    have htrack (hlock : x.vlock = 2) : ∃ y : Lane, y.vlock = 2 ∧ y.bad = (if 8 < th.natAbs then x.bad + 1 else 0) ∧
        u.volleyRep l x.vseq r1 s2 t4 = if 3 ≤ y.bad then (u.setLane l y).volleyLoss l else u.setLane l y := by
      rw [← hx] at hlock ⊢
      rw [← hoffset]
      exact State.volleyRep_of_locked hu1 r1 s2 t4 hlock
    have hmiss (hlock : x.vlock = 2) : doVolleyMiss l s = if 3 ≤ x.miss + 1 then (s.setLane l { x with t1 := none, miss := x.miss + 1 }).volleyLoss l
        else s.setLane l { x with t1 := none, miss := x.miss + 1 } :=
      doVolleyMiss_of_locked (fun hnone => absurd (ht1.symm.trans hnone) nofun) hlock
    refine ⟨fun hlock hth hgood hexch => hanswers _ ?_, fun hlock hth hgood => hanswers _ ?_, fun hlock hth hexch => hanswers _ ?_,
      fun hlock hexch hor => hanswers _ ?_, fun hlock hth => hanswers _ ?_, fun hlock hth hfew => hanswers _ ?_, fun hlock hth hmany => hanswers _ ?_,
      fun hlock hfew => ⟨_, exec_volleyMiss .., ?_⟩, fun hlock hmany => ⟨_, exec_volleyMiss .., ?_⟩⟩
    · rw [hstep hlock (Lane.lockStep_small hth x d), if_neg (by dsimp only; omega), if_neg (by dsimp only; omega)]
      exact hu.laneTakes_setLane _
    · rw [hstep hlock (Lane.lockStep_small hth x d), if_pos (by dsimp only; omega), State.lane_setLane_self]
      exact ⟨rfl, rfl, by simp, hu.laneTakes_setLane _⟩
    · rw [hstep hlock (Lane.lockStep_large hth x d), if_neg (by dsimp only; omega), if_neg (by dsimp only; omega)]
      exact hu.laneTakes_setLane _
    · have hgood : (x.lockStep d th).good < 8 := by
        simp only [Lane.lockStep, decide_eq_true_eq]
        split <;> omega
      have hexch' : 64 ≤ (x.lockStep d th).exchanges := by
        simp only [Lane.lockStep]
        omega
      rw [hstep hlock rfl, if_neg (by omega), if_pos hexch']
      exact (State.trainFail_spec ..).1
    · obtain ⟨y, hlock', hbad, heq⟩ := htrack hlock
      rw [if_neg (by omega)] at hbad
      rw [heq, if_neg (by omega)]
      exact ⟨(congrArg Lane.vlock (State.lane_setLane_self ..)).trans hlock', (congrArg Lane.bad (State.lane_setLane_self ..)).trans hbad,
        hu.laneTakes_self y⟩
    · obtain ⟨y, hlock', hbad, heq⟩ := htrack hlock
      rw [if_pos hth] at hbad
      rw [heq, if_neg (by omega)]
      exact ⟨(congrArg Lane.vlock (State.lane_setLane_self ..)).trans hlock', (congrArg Lane.bad (State.lane_setLane_self ..)).trans hbad,
        hu.laneTakes_self y⟩
    · obtain ⟨y, -, hbad, heq⟩ := htrack hlock
      rw [if_pos hth] at hbad
      rw [heq, if_pos (by omega)]
      exact volleyLost_volleyLoss l.isLt _
    · rw [hmiss hlock, if_neg (by omega)]
      exact onlyLane_setLane ..
    · rw [hmiss hlock, if_pos (by omega)]
      exact volleyLost_volleyLoss l.isLt _
  · have hnot (v : State) (hv : v.lane l = x) : v.retrainTrigger l = v :=
      State.retrainTrigger_of_not fun h => hst ((congrArg Lane.st hv).symm.trans h.1)
    obtain ⟨y, z, heq⟩ := doLaneMisaligned_eq l s
    refine ⟨(exec_retrain ..).trans (congrArg Host.Outcome.next (hnot s rfl)), (exec_laneLost ..).trans (congrArg Host.Outcome.next (if_neg hst)),
      ⟨_, (exec_laneMisaligned ..).trans (congrArg Host.Outcome.next (heq.trans (hnot _ rfl))), rfl, fun j => ?_⟩⟩
    split
    · rename_i hj
      rw [hj]
      rfl
    · rfl
  · obtain ⟨v, hexec, hlane, hent, ht48, hlost⟩ := retrain_of_trigger hc hst hl
    have hauto' : v.en 5 0x01C l = 1 := (congrArg (fun t => Tab.get entDefault t (mkKey 5 0x01C l)) hent).trans hauto
    have hself : v.retrainsItself l := ⟨hlane ▸ hst, fun h => by rw [hauto'] at h; exact absurd h.2 (by decide)⟩
    have hrecent : v.recentRetrains l = recent := by
      simp only [State.recentRetrains, State.since, hlane, ht48]
      rfl
    refine ⟨fun hfew => ⟨_, hexec, ?_⟩, fun hmany => ⟨_, hexec, ?_⟩⟩
    · have hbegun := State.retrainTrigger_begins hself (by rwa [hrecent])
      have hlive (h : c = .laneLost l) := hbegun.live _ (by omega) (hlost h)
      have hretrains := hbegun.retrains
      have hautoAt := hbegun.autoAt
      rw [State.lane_setLane_self, hlane] at hretrains hautoAt
      rw [ht48, hrecent] at hautoAt
      exact ⟨hbegun.st, hbegun.resume hl, hbegun.qEdge, hretrains, hautoAt, hbegun.reported hl, hlive,
        fun j hj => (hbegun.others j hj).trans ((State.lane_setLane_ne hj v _).trans (congrFun hlane j))⟩
    · obtain ⟨hfailed, -, hothers, hlive, -⟩ := State.retrainTrigger_fails hself (by rwa [hrecent])
      exact ⟨hfailed, hlive hl, fun j hj => (hothers j hj).trans (congrFun hlane j)⟩
  · obtain ⟨y, hy, heq⟩ := State.codeErr_down hl inFrame hframe hread
    rw [heq]
    exact ⟨(congrArg DLane.codeErr (State.dl_setDl_self ..)).trans hy, rfl, fun i hi => State.dl_setDl_ne hi s y⟩
  · rw [doLaneCodeErr, if_pos rfl, dif_neg (by omega)]

end Sys2Proof.Machine
end
